-- ==== Sys2Proof/Word.lean ====
section
/-!
DEFINITION. The word and byte types of the register pages (R5: registers are 32 bits wide).
-/

namespace Sys2Proof

/-- A register word (R5). -/
abbrev Word := BitVec 32

/-- One byte of memory. -/
abbrev Byte := BitVec 8

end Sys2Proof
end

