-- ==== Sys2Proof/Syntax.lean ====
section
/-!
DEFINITION. The commands of the IL7460: one constructor for each row of spec/opcode_table.json, and the types of
their operands. `t` is the instant of the command in units of 62.5 ps (log entry 1); `path` the access path; `n` a
mirror engine, link or port, `x` a Lantern, `k` a scanner, `q` a Narpa or matrix port, `v` the word written.
-/

namespace Sys2Proof

/-- An access path (R34, `ERR_INFO.PATH`). `ext` is the MP extension, which uses the MP's path (R325). -/
inductive Path | mp | ext | hspi | icp
  deriving DecidableEq, Repr

/-- What training measured at one rate (R180, R187): the rate code, whether it was tried, the lanes that
locked and deskewed, and the eye (1/1000 UI) and the chosen equaliser preset of each lane. The latency of the rate comes
from its MARK echoes. -/
structure RateMeas where
  rate : Nat
  tried : Bool
  lanes : Nat
  eyes : Vector Nat 16
  preset : Vector Nat 16
  deriving DecidableEq, Repr

/-- What training of a DRAM channel found (R298, R313): every step within its limit, a rank whose density
mismatches or that is missing, and the read and write eyes in 1/1000 UI. -/
structure ChanTrain where
  steps : Bool
  geom : Bool
  rd : Nat
  wr : Nat
  deriving DecidableEq, Repr

/-- What a calibration measurement found (R411–R417), in the unit of its class: the elements of the quantity,
its quality figure and second figure; the delay line it measured; and two signal figures: for TRANSIT the dump
signal's means over lit duration planes and over pulse planes, for ECHO the number of window edges, for ADC_DARK
the means with the input shorted and from the photodiode. Elements: TRANSIT tS of each block then e of each block,
ps; DELAY_LINE the end of each tap, ps; ECHO open and close, ps; ADC_GAIN gain in ppm off nominal and offset in
codes; ADC_DARK the offset in codes; SXL_LATENCY ε in 1/16 of 62.5 ps; SXL_EQ the eyes of 16 lanes in 1/1000 UI
then their presets; SCAN_PHASE FWD and RET trims, ps; REF the ratio error in ppm. -/
structure CalMeas where
  vals : List Int
  quality : Nat
  second : Nat
  line : Fin 3
  a : Nat
  b : Nat
  deriving DecidableEq, Repr

/-- An Ethernet frame as it arrives (R435–R442): its bytes from the destination address on, without FCS; FCS good;
for a frame with a SecTAG, whether its ICV verifies and the frame it protects; for an IMS or ICP datagram, whether
its TAG is the AES-CMAC of the bytes before it under the key it names. -/
structure EthRx where
  bytes : List (BitVec 8)
  fcs : Bool
  icv : Bool
  plain : List (BitVec 8)
  tag : Bool
  deriving DecidableEq, Repr

/-- A CAN frame (R447): 0 classical, 1 FD, 2 XL; extended ID or XL; ID or priority; data. -/
structure CanFrame where
  kind : Nat
  ext : Bool
  id : Nat
  data : List (BitVec 8)
  deriving DecidableEq, Repr

/-- What the initialisation of STOR finds (R448, R449): the link, ×2, the rate code, and the active namespaces:
NSID, LBA size, capacity in 4 KiB units. -/
structure StorInit where
  link : Bool
  x2 : Bool
  rate : Nat
  ns : List (Nat × Nat × Nat)
  deriving DecidableEq, Repr

/-- An image slot of the QSPI flash (R456): its bytes, header first, and the two verdicts of the cryptography, whether
SHA-256 of PUBKEY equals the slot's hash and whether the SIGNATURE verifies. -/
structure BootImg where
  bytes : List (BitVec 8)
  key : Bool
  sig : Bool
  deriving DecidableEq, Repr

/-- A supply loss as Basecamp's monitors see it (R358): VBAT low, a power-good input low, a rail out of window
(numbered as `BC_RAIL_MON`), the tracking of VDD_SRAM, or the order within a step (R353). -/
inductive SupplyFault
  | vbat | pg (k : Fin 4) | rail (r : Fin 9) | track | order
  deriving DecidableEq, Repr

/-- A Hiquin package as CONTENT_OPEN finds it (R451–R454): whether it could be read; its bytes from STOR (for NVM they
are the content area's); whether SHA-256 of the carried public key equals the hash of the slot, and whether the
SIGNATURE verifies; the directory entries whose HASH does not match; and the DRAM address of each decoded section,
fewer of them when space is short. -/
structure PkgIn where
  read : Bool
  bytes : List (BitVec 8)
  key : Bool
  sig : Bool
  badHash : List Nat
  place : List Nat
  deriving DecidableEq, Repr

/-- A command to the block, or an event of its own engines, timers and pins.
Rows that a clock or a measurement brings about carry what was measured as operands. -/
inductive Instr
  -- Register access (R33–R50)
  /-- A write to a register field that has no row of its own takes effect according to its access code (R9). `a`
  address, `width` bytes, `v` value. -/
  | registerWrite (t : Nat) (path : Path) (a width v : Nat)
  /-- A write through the Frame SRAM window is stored, or discarded with BUS_ERR when it targets the front buffer of
  a running engine or an unpowered quarter (R22). `off` from 0x2000_0000. -/
  | fsramWrite (t : Nat) (path : Path) (off v : Nat)
  /-- An access through the DRAM aperture is mapped to DRAM through P4 or P7, or returns BUS_ERR while the DMC is not
  in RUN (R300). `off` from 0x8000_0000; a read when `write` is false. -/
  | apertureAccess (t : Nat) (path : Path) (off : Nat) (write : Bool) (v : Nat)
  /-- A write of ERR_CODE whose class field equals the class held clears ERR_CODE and ERR_INFO; any other write is
  ignored (R15). `pg` counts pages from 0x4000_0000, here and below. -/
  | errCodeClear (t : Nat) (path : Path) (pg v : Nat)
  /-- A write of BLK_CTRL.SRST resets the block logic, RW and RWS fields and pending commit, or is refused while the
  block emits light or drives a link (R36). `v` holds the other bits of `BLK_CTRL`. -/
  | softReset (t : Nat) (path : Path) (pg v : Nat)
  /-- A write of BLK_CTRL.EN enables or disables a block, with the block-specific consequences of its chapter (R36). -/
  | blockEnable (t : Nat) (path : Path) (pg : Nat) (en : Bool)
  /-- A write of BLK_CTRL.FREEZE holds counters and status, and on its return to 0 adds the increments kept during
  the freeze (R37). -/
  | freeze (t : Nat) (path : Path) (pg : Nat) (fr : Bool)
  /-- A write of IRQ_SET sets the same bits of IRQ_STAT without touching IRQ_RAW or the block function (R34). -/
  | irqSet (t : Nat) (path : Path) (pg v : Nat)
  /-- A write of LOCK with key 0x5AFE locks the page and captures TAG (R49). `low` is the low half of the word, with
  TAG. -/
  | lock (t : Nat) (path : Path) (pg low : Nat)
  /-- A write of COMMIT.GO releases every staged field of the commit group to the next commit point, or applies it at
  once at an immediate commit point (R44). -/
  | commitGo (t : Nat) (path : Path) (pg : Nat)
  -- Compositor and IMS (R69–R94)
  /-- The compositor begins set-up when idle, its back buffers are free and the trigger of TRIG_MODE is met (R85). -/
  | setupStart (t : Nat)
  /-- COMP_TRIG_TIMEOUT passes since the set's last frame start with the back buffers free, and set-up begins (R85). -/
  | compTrigTimeout (t : Nat)
  /-- Composition starts within 30 µs of set-up and latches configuration, mask, motion and the prediction (R85). -/
  | compositionStart (t : Nat)
  /-- An engine or scanner back buffer is complete and is marked ready (R84). -/
  | engBackBufferReady (t : Nat)
  /-- A composition ends, is counted, reports its duration, raises COMP_DONE and returns its mask slot to COMPLETE
  (R84). -/
  | compositionEnd (t : Nat)
  /-- A write of MOT_STAMP_NS publishes yaw, pitch, speed and stamp as one set (R77). -/
  | motionPublish (t : Nat) (path : Path) (v : Nat)
  /-- A received IMS packet is authenticated and its segment is ingested into a mask slot (R442). -/
  | imsPacket (t : Nat) (n : Fin 4)
  /-- A mask not complete IMS_ASSEMBLY_TIMEOUT after its first segment loses its slot and raises ASSEMBLY_TIMEOUT
  (R74). `i` is the source of the assembly (R74). -/
  | assemblyTimeout (t : Nat) (i : Fin 4)
  /-- An entry in the record of rejected MASK_IDs expires IMS_ASSEMBLY_TIMEOUT after its rejection (R74). -/
  | rejectRecordExpiry (t : Nat)
  /-- A write of IMS_CFG enables or disables ingest; clearing EN discards every FILLING slot (R94). -/
  | imsCfgWrite (t : Nat) (path : Path) (v : Nat)
  -- Engines and Grinder (R97–R138)
  /-- A mirror engine starts a frame with a new image at max(E, R + 50 µs), applying commits, swapping buffers and
  latching the flux ratio (R102). -/
  | frameStart (t : Nat) (n : Fin 4)
  /-- At the latest frame start M with no new image ready, the engine starts a frame that repeats the front buffer
  (R98). -/
  | repeatFrame (t : Nat) (n : Fin 4)
  /-- Underruns in UNDERRUN_LIMIT consecutive frames put the engine or scanner in SAFE (R111). `u` is an engine (0–3)
  or scanner (4, 5). -/
  | underrunPersist (t : Nat) (u : Fin 6)
  /-- P_nom after H1 starts, H2 begins with the new configuration, or the engine enters SAFE with HOLD_EXPIRED
  (R118). -/
  | holdH2Start (t : Nat) (n : Fin 4)
  /-- At the end of H2 the first LIT frame starts with the new program (R118). -/
  | holdEnd (t : Nat) (n : Fin 4)
  /-- The program of a frame ends and the engine blanks with the sources off (R103). -/
  | blankingStart (t : Nat) (n : Fin 4)
  /-- The Grinder begins a plane at its entry light edge and drives the source per the plane kind (R124). -/
  | planeStart (t : Nat) (n : Fin 4)
  /-- The Grinder sends the block load with the earliest deadline once its load window has opened (R132). -/
  | blockLoad (t : Nat) (n : Fin 4)
  /-- A block load finishes on the link and its margin to the deadline is recorded (R132). -/
  | blockLoadComplete (t : Nat) (n : Fin 4)
  /-- The Grinder issues a block reset stamped for arrival at the entry light edge less e_b (R126). -/
  | resetIssue (t : Nat) (n : Fin 4)
  /-- A block load incomplete at its deadline is abandoned, the block shows the background and the underrun is
  counted (R110). -/
  | underrun (t : Nat) (n : Fin 4)
  /-- The FSYNCn pulse begins ENG_FSYNC_OFS after its reference (R112). -/
  | fsyncPulse (t : Nat) (n : Fin 4)
  /-- The FSYNCn pulse ends after ENG_FSYNC.WIDTH (R112). -/
  | fsyncPulseEnd (t : Nat) (n : Fin 4)
  /-- ENG_CMD START requests a PBA grant from OFF, marks a READY engine to light, or retrains from SAFE (R114). -/
  | engStart (t : Nat) (path : Path) (n : Fin 4)
  /-- ENG_CMD STOP turns the engine off, after the current frame when lit (R114). -/
  | engStop (t : Nat) (path : Path) (n : Fin 4)
  /-- The current frame of a stopping LIT or HOLD engine completes and the engine goes OFF (R114). -/
  | engStopDone (t : Nat) (n : Fin 4)
  /-- ENG_CMD PARK ends light at once and puts the engine in SAFE with the PARK pattern (R114). -/
  | engPark (t : Nat) (path : Path) (n : Fin 4)
  /-- ENG_CMD FAULT_CLEAR moves the engine from FAULT to OFF when the interlock is cleared and the cause gone (R114). -/
  | engFaultClear (t : Nat) (path : Path) (n : Fin 4)
  /-- The LINK_DEAD retry timer expires in SAFE and the engine retrains (R114). -/
  | retrainRetry (t : Nat) (n : Fin 4)
  -- Lanterns (R141–R164)
  /-- When the start of the next frame becomes final, the Lantern computes the frame scale and setpoint codes and
  starts its shadow writes (R150). -/
  | frameStartFinal (t : Nat) (x : Fin 6)
  /-- A 24-bit setpoint port frame completes and its response confirms or fails the previous write (R144). `resp` is
  the frame that the setpoint bus returns. -/
  | setpointFrame (t : Nat) (x : Fin 6) (resp : Nat)
  /-- Sixteen consecutive frames or loads without a frame mark raise SETPT_DEAD and write ERR_CODE (R151). -/
  | setptDead (t : Nat) (x : Fin 6)
  /-- A Lantern going to ARMED retries its setpoint load every 100 µs until the frame mark is issued (R503). -/
  | setpointLoadRetry (t : Nat) (x : Fin 6)
  /-- The Lantern issues a window open or close command at the edge instant less its edge delay (R147). `on` for an
  open edge. -/
  | windowEdge (t : Nat) (x : Fin 6) (on : Bool)
  /-- The Lantern changes LSx_LSEL while the source is dark between windows (R149). -/
  | lselChange (t : Nat) (x : Fin 6)
  /-- A 100 ns photodiode ADC sample is taken and used for level means, dark value and over-power detection (R153).
  `code` from the converter; level of `LSx_ECHO`. -/
  | pdSample (t : Nat) (x : Fin 6) (code : Nat) (echo : Bool)
  /-- A level used by the program without measurement for 256 frames raises RATIO_STALE (R153). `lvl` is the source
  level. -/
  | ratioStale (t : Nat) (x : Fin 6) (lvl : Fin 4)
  /-- LSx_WIN or LSx_ECHO high for longer than LTN_WIN_MAX trips the interlock (R160). `echo` is the level of
  `LSx_ECHO`. -/
  | winStuck (t : Nat) (x : Fin 6) (echo : Bool)
  /-- 20 µs after a link-loss report, a source still lit trips the interlock (R160). Level of `LSx_ECHO` and
  photodiode code. -/
  | linkLitCheck (t : Nat) (x : Fin 6) (echo : Bool) (pd : Nat)
  /-- A read-back of LSx_KILL_N differing from the driven level for more than 1 µs trips the interlock (R160). Level
  read back from the kill pin, held for `dur`. -/
  | pinMismatch (t : Nat) (x : Fin 6) (pin : Bool) (dur : Nat)
  /-- LTN_ILK_CMD CLEAR from the MP releases the interlock latch once its cause is gone (R162). -/
  | ilkClear (t : Nat) (path : Path) (x : Fin 6)
  /-- LTN_ILK_CMD TEST trips the interlock with cause TEST while the engine is OFF, TRAIN or READY (R163). -/
  | ilkTest (t : Nat) (path : Path) (x : Fin 6)
  /-- The fallback train opens or closes its next W_fb window at level 0 (R159). -/
  | fallbackWindow (t : Nat) (x : Fin 6)
  /-- Every 100 ms the fallback refreshes λ_eff and g_fb, recomputes the code and issues a frame mark (R159). -/
  | fallbackRefresh (t : Nat) (x : Fin 6)
  /-- No PARK confirmation 10 ms after entry to SAFE raises FALLBACK_DARK and the Lantern stays dark (R159). -/
  | fallbackDark (t : Nat) (x : Fin 6)
  -- Selxis links (R165–R194)
  /-- A link training step exceeds its limit and training fails with that step's detail (R187). -/
  | trainingStepTimeout (t : Nat) (n : Fin 4)
  /-- Link training completes, selects the best rank and reports the link up, or fails with NO_CONFIG (R188). What
  training measured at each rate. -/
  | trainingDone (t : Nat) (n : Fin 4) (ms : List RateMeas)
  /-- An echo edge on SXLn_REF is time-stamped as a latency sample (R180). Instant and stamp of the echo. -/
  | markEcho (t : Nat) (n : Fin 4) (echo : Int) (stamp : Nat)
  /-- A sideband request and its response complete and are checked (R181). Request fields, and the response frame. -/
  | sidebandTransaction (t : Nat) (n : Fin 4) (op addr data resp : Nat)
  /-- No response start bit within 16 clocks is a sideband error (R181). -/
  | sidebandTimeout (t : Nat) (n : Fin 4)
  /-- Three consecutive failed sideband transactions make the sideband dead (R181). -/
  | sbDead (t : Nat) (n : Fin 4)
  /-- SXLn_ATTN_N falls and the device reads LINK_STAT, the counters and ERR_INFO (R183). What the reads that answer
  ATTN return. -/
  | attn (t : Nat) (n : Fin 4) (linkStat crc late errInfo : Nat)
  /-- Every 1 ms the device reads LINK_STAT of the array (R183). The status that the array returns. -/
  | linkStatPoll (t : Nat) (n : Fin 4) (linkStat : Nat)
  /-- Every 100 ms the device reads the array temperature into SXL_ARRAY_TEMP (R183). The temperature that the array
  returns. -/
  | tempPoll (t : Nat) (n : Fin 4) (temp : Nat)
  /-- Every 100 ms the device reads every lane eye and checks it for step-down (R190). Eyes of the lanes, 1/1000 UI. -/
  | eyePoll (t : Nat) (n : Fin 4) (eyes : Vector Nat 16)
  /-- At the end of each 1 s window, CRC failures at or above SXL_CRC_LIMIT drop one rate (R190). -/
  | crcWindow (t : Nat) (n : Fin 4)
  /-- Every PROBE_MS an unused group is probed, and three passing probes make it rejoin (R190). Bit per group that
  passes. -/
  | groupProbe (t : Nat) (n : Fin 4) (pass : Nat)
  /-- A rate switch not complete within 4 µs is reported as link loss (R192). -/
  | rateSwitchTimeout (t : Nat) (n : Fin 4)
  /-- The link reports loss, the Lantern closes windows and the engine enters SAFE and retrains (R192). PLL lost, or
  the lane groups that lost lock. -/
  | linkLoss (t : Nat) (n : Fin 4) (pll : Bool) (groups : Nat)
  /-- SXL_PARK_LOAD GO in READY sends one bit plane of a buffer to PARK2 or PARK3 of the array (R186). -/
  | parkLoad (t : Nat) (path : Path) (n : Fin 4) (v : Nat)
  -- Scanners (R200–R218)
  /-- A fast-axis half-period ends at a turning point, the phase and amplitude loops update and the next line starts
  (R208). Peak and phase lag of the sensor; phase-lock reported. -/
  | turningPoint (t : Nat) (k : Fin 2) (peak lag : Nat) (locked : Bool)
  /-- No turning point within 1.25 × H of its prediction is reported as amplitude loss (R211). -/
  | turningPointMissed (t : Nat) (k : Fin 2)
  /-- The slow-axis sense is checked at the middle of a line, and COUNT out-of-tolerance lines report SLOW_LOST
  (R211). Deviation of the slow axis. -/
  | slowAxisCheck (t : Nat) (k : Fin 2) (err : Nat)
  /-- The scanner sets SCNk_LMOD to the dwell-corrected code at the start of each pixel slot (R205). -/
  | lmodUpdate (t : Nat) (k : Fin 2)
  /-- Pixel data not arrived at its slot starts an underrun that shows SCN_BG to the end of the line (R214). -/
  | scnUnderrun (t : Nat) (k : Fin 2)
  /-- A scanner frame starts at the turning point that begins line 0, applying commits and swapping buffers or
  repeating (R212). -/
  | scnFrameStart (t : Nat) (k : Fin 2)
  /-- After the 40 ms drive sweep the engine closes the phase loop at the frequency of largest response (R209). The
  resonance found. -/
  | spinupSweepDone (t : Nat) (k : Fin 2) (freq : Nat)
  /-- Amplitude within 1 % and phase locked for 10 ms start the slow axis and the scanner enters READY (R209). -/
  | spinupDone (t : Nat) (k : Fin 2)
  /-- Spin-up that has not reached READY within 250 ms fails and the scanner enters SAFE (R209). -/
  | spinupFail (t : Nat) (k : Fin 2)
  /-- Both scanner drives reach zero after ramp-down and monitoring is disarmed (R211). -/
  | drivesStopped (t : Nat) (k : Fin 2)
  /-- SCN_CMD START requests a grant and spins up, or moves a SAFE scanner to READY or TRAIN (R216). -/
  | scnStart (t : Nat) (path : Path) (k : Fin 2)
  /-- SCN_CMD STOP ramps the drives down, after the current frame when lit (R216). -/
  | scnStop (t : Nat) (path : Path) (k : Fin 2)
  /-- SCN_CMD PARK closes the gate at once and puts the scanner in SAFE (R216). -/
  | scnPark (t : Nat) (path : Path) (k : Fin 2)
  /-- SCN_CMD FAULT_CLEAR moves the scanner from FAULT to OFF when the interlock is cleared (R216). -/
  | scnFaultClear (t : Nat) (path : Path) (k : Fin 2)
  /-- A write of SCN_PTT_DATA stores a pixel-timing entry and increments INDEX, or is discarded with PTT_BUSY (R204). -/
  | pttDataWrite (t : Nat) (path : Path) (k : Fin 2) (v : Nat)
  -- Narpa ports and keeper (R224–R247)
  /-- A Narpa port starts a frame for a commit, fade step, refresh, configuration access or DIAG_REQ (R236). -/
  | npFrame (t : Nat) (q : Fin 104)
  /-- The immediate latch of an image frame is reached, the latch instant recorded and the port's commit applied
  (R237). -/
  | npLatch (t : Nat) (q : Fin 104)
  /-- A return frame arrives at NPn_RI and its status words are written into the node records (R239). The line is high
  for `mark` and in `cells`, rising and falling edge of each after the mark's rising edge, and then low for `quiet`,
  all in 62.5 ps (R221). -/
  | npReturnFrame (t : Nat) (q : Fin 104) (mark : Nat) (cells : List (Nat × Nat)) (quiet : Nat)
  /-- Three consecutive frames without a return frame set CHAIN_OPEN (R240). -/
  | chainOpen (t : Nat) (q : Fin 104)
  /-- NP_CMD ENUM enumerates the chain after the frame in flight (R243). -/
  | npEnum (t : Nat) (path : Path) (q : Fin 104)
  /-- NP_CMD STROBE schedules a strobe latch at now plus the chain delay and 4 µs (R238). -/
  | npStrobe (t : Nat) (path : Path) (q : Fin 104)
  /-- The port sends the strobe mark at S, or after the frame on the line with LATE, and the nodes latch (R238). -/
  | npStrobeMark (t : Nat) (q : Fin 104)
  /-- NP_CFGACC GO queues a node configuration read or write in its own frame (R236). -/
  | cfgAccess (t : Nat) (path : Path) (q : Fin 104) (v : Nat)
  /-- An access of NPK_DATA reads or writes the keeper store and increments NPK_ADDR by 4 (R244). -/
  | npkDataAccess (t : Nat) (path : Path) (write : Bool) (v : Nat)
  /-- At entry to SEQ_UP the keeper plays each stored wake frame, staggered 50 µs per port (R245). -/
  | keeperWakeFrame (t : Nat) (p : Fin 8)
  /-- Once per second the keeper sends a keepalive strobe on each KEEPALIVE port it serves (R246). -/
  | keepaliveStrobe (t : Nat) (p : Fin 8)
  -- Matrix ports (R251–R268)
  /-- A LINE_SCAN matrix frame starts every P or at its phase-locked instant, applying the port's commit (R259). -/
  | mxFrameStart (t : Nat) (q : Fin 24)
  /-- A matrix row slot runs pre-charge, latch, row enable and greyscale clock for its row (R255). -/
  | mxRowSlot (t : Nat) (q : Fin 24)
  /-- A column code not arrived when the shift needs it shows the background for the rest of the row (R260). `c` is
  the chain whose data came late. -/
  | mxUnderrun (t : Nat) (q : Fin 24) (c : Fin 64)
  /-- An active MXn_TE edge is a swap, a commit point and a transfer start as its conditions allow (R263). Edge of
  the TE pin. -/
  | teEdge (t : Nat) (q : Fin 24) (falling : Bool)
  /-- A WRITE_HIDDEN transaction ends and the port sends SHOW (R261). -/
  | mxTransferComplete (t : Nat) (q : Fin 24)
  /-- No active TE edge within MX_TE.TIMEOUT puts the port in TE_LOST (R264). -/
  | teTimeout (t : Nat) (q : Fin 24)
  /-- MX_CMD RESEND requests a full transfer at the next commit point (R266). -/
  | mxResend (t : Nat) (path : Path) (q : Fin 24)
  -- TIME and SCHED (R270–R296)
  /-- On each TCLK tick the local clock advances by the increment plus any slew step (R271). -/
  | tclkTick (t : Nat)
  /-- A write of TIME_INCR is a servo update that applies the increment with its extension, limited to ±1000 ppm
  (R272). -/
  | timeIncrWrite (t : Nat) (path : Path) (v : Nat)
  /-- TIME_ADJ SET loads the local clock from the SET registers on the next tick (R274). -/
  | timeAdjSet (t : Nat) (path : Path)
  /-- TIME_ADJ STEP adds TIME_STEP_OFS to the local clock on the next tick (R274). -/
  | timeAdjStep (t : Nat) (path : Path)
  /-- A write of TIME_SLEW starts a slew that replaces any remaining slew (R275). -/
  | timeSlewWrite (t : Nat) (path : Path) (v : Nat)
  /-- No servo update for TIME_SERVO_TMO puts TIME in FREERUN (R277). -/
  | freerun (t : Nat)
  /-- A write of TIME_PDELAY is compared with the previous value and a large difference raises PATH_STEP (R278). -/
  | pdelayWrite (t : Nat) (path : Path) (p : Fin 4) (v : Nat)
  /-- The hold-off expires and TIME returns to SYNC or FREERUN (R278). -/
  | holdoffEnd (t : Nat)
  /-- A read of TIME_NOW_NS latches SECONDS and FRACT of the same tick for that path (R273). -/
  | timeNowRead (t : Nat) (path : Path)
  /-- A read of ENG_FSTART_NS latches ENG_FSTART_SEC (R119). -/
  | engFstartNsRead (t : Nat) (path : Path) (n : Fin 4)
  /-- A read of SCN_FSTART_NS latches SCN_FSTART_SEC (R218). -/
  | scnFstartNsRead (t : Nat) (path : Path) (k : Fin 2)
  /-- A read of LTN_ILK_TIME_NS latches LTN_ILK_TIME_SEC (R164). -/
  | ltnIlkTimeNsRead (t : Nat) (path : Path) (x : Fin 6)
  /-- A read of NP_LATCH_NS latches NP_LATCH_SEC (R247). -/
  | npLatchNsRead (t : Nat) (path : Path) (q : Fin 104)
  /-- A read of MX_FSTART_NS latches MX_FSTART_SEC (R268). -/
  | mxFstartNsRead (t : Nat) (path : Path) (q : Fin 24)
  /-- A read of TIME_PPSIN_NS latches TIME_PPSIN_SEC (R291). -/
  | timePpsinNsRead (t : Nat) (path : Path)
  /-- A read of THERM_SHUT_NS latches THERM_SHUT_SEC (R406). -/
  | thermShutNsRead (t : Nat) (path : Path)
  /-- A write of TIME_TXQ_PUSH3 pushes a firmware time-stamp entry, or is refused on a boundary port (R282). -/
  | txqPush (t : Nat) (path : Path) (p : Fin 4) (v : Nat)
  /-- A read of TIME_TXQ_W3 pops the oldest TX time-stamp entry (R282). -/
  | txqPop (t : Nat) (path : Path) (p : Fin 4)
  /-- PPS_OUT rises when the clock passes a second boundary plus TIME_PPS_OFS (R283). -/
  | ppsOut (t : Nat)
  /-- The PPS_OUT pulse ends after TIME_PPS_WIDTH (R283). -/
  | ppsOutEnd (t : Nat)
  /-- An active PPS_IN edge is captured with its distance to the nearest second, or ignored as a glitch (R284). -/
  | ppsIn (t : Nat) (falling : Bool)
  /-- 1.2 s after the last accepted edge PPSIN_VALID returns to 0 (R284). -/
  | ppsinValidExpiry (t : Nat)
  /-- SCHED_ACC WRITE checks the staging registers and stores them as an armed entry (R285). -/
  | schedWrite (t : Nat) (path : Path) (i : Fin 256)
  /-- SCHED_ACC READ copies an entry into the staging and status registers (R285). -/
  | schedRead (t : Nat) (path : Path) (i : Fin 256)
  /-- SCHED_ACC CANCEL frees an entry and withdraws a handed strobe whose mark has not started (R285). -/
  | schedCancel (t : Nat) (path : Path) (i : Fin 256)
  /-- An entry falls due and its action is executed, flagged late or missed, or put in ERROR (R286). -/
  | schedDispatch (t : Nat)
  /-- An NP_STROBE entry is handed to its port NP_LEAD before its latch instant (R286). -/
  | strobeHandover (t : Nat)
  -- DRAM (R297–R322)
  /-- DMC_CMD TRAIN requests a grant, powers the DMC domains and trains every channel (R313). -/
  | dmcTrain (t : Nat) (path : Path)
  /-- DRAM training completes with all channels passing and the DMC enters RUN, or fails to FAULT (R313). Outcome of
  each channel. -/
  | trainDone (t : Nat) (res : Vector ChanTrain 8)
  /-- DMC_CMD SR_ENTER places every rank in self-refresh and PD_DPHY in retention (R312). -/
  | srEnter (t : Nat) (path : Path)
  /-- DMC_CMD SR_EXIT leaves self-refresh, resets refresh debt and runs a retraining slice per channel (R312). -/
  | srExit (t : Nat) (path : Path)
  /-- DMC_CMD STOP enters self-refresh and switches the DMC domains off (R316). -/
  | dmcStop (t : Nat) (path : Path)
  /-- A PHY PLL loss or XTAL failure puts the DMC in FAULT (R316). -/
  | phyPllLoss (t : Nat)
  /-- A port request is accepted, or completed at once with zeros outside RUN (R301). Physical address, length, data
  of a write. -/
  | portRequest (t : Nat) (p : Fin 8) (write : Bool) (pa len : Nat) (data : List Byte)
  /-- A waiting write enters a free write-queue entry and its response is returned (R305). -/
  | writeQueueEntry (t : Nat) (p : Fin 8)
  /-- A request completes and its latency is checked against the port target (R301). ECC outcome: 0 none, 1
  corrected, 2 uncorrectable. -/
  | requestComplete (t : Nat) (p : Fin 8) (ecc : Fin 3)
  /-- At a grant boundary the channel chooses a refresh, retraining slice, read grant or write grant (R306). Timing
  drift measured; ECC outcome. -/
  | grantBoundary (t : Nat) (c : Fin 8) (drift : Int) (ecc : Fin 3)
  /-- A rank's refresh interval passes and its debt rises, forcing a refresh at debt 8 (R308). -/
  | refreshDue (t : Nat) (c : Fin 8) (r : Fin 2)
  /-- A channel's retraining slice falls due every DMC_RETRAIN ms, forced when 10 ms overdue (R314). -/
  | retrainSlice (t : Nat) (c : Fin 8)
  /-- Every DMC_TEMP_MS the DMC reads MR4 and sets the refresh band (R307). MR4 code, the refresh band it stands for,
  and whether the rank has cooled. -/
  | mr4Read (t : Nat) (c : Fin 8) (r : Fin 2) (code : Fin 256) (band : Fin 4) (cool : Bool)
  /-- A 32 ms row-hammer window ends, counts restart and throttles are lifted (R310). -/
  | rhWindowEnd (t : Nat)
  /-- A rank idle for DMC_PD_IDLE enters power-down (R311). -/
  | powerDownEntry (t : Nat) (c : Fin 8) (r : Fin 2)
  -- Mailbox and management processor (R323–R351)
  /-- MBX_PUSH GO copies the path's command window into a free slot, or is refused with BUSY (R336). -/
  | mbxPush (t : Nat) (path : Path)
  /-- MBX_POP GO marks the oldest unread response of the path read (R340). -/
  | mbxPop (t : Nat) (path : Path)
  /-- A final response unread for MBX_RSP_TMO is discarded and its slot freed (R340). `i` is the slot. -/
  | rspDrop (t : Nat) (i : Fin 32)
  /-- An accepted mailbox command reaches its time limit and completes with TIMEOUT (R342). `i` is the slot. -/
  | mbxCommandTimeout (t : Nat) (i : Fin 32)
  /-- PING returns the Runtime version and MP_LOAD (R342). -/
  | ping (t : Nat)
  /-- ENGINE_START starts an engine and completes when it reaches LIT, SAFE or FAULT (R115). -/
  | engineStart (t : Nat)
  /-- ENGINE_STOP stops an engine and completes OK at OFF (R342). -/
  | engineStop (t : Nat)
  /-- ENGINE_PARK parks an engine and completes OK at SAFE (R342). -/
  | enginePark (t : Nat)
  /-- ENGINE_FAULT_CLEAR clears the Lantern interlock and the engine fault (R343). -/
  | engineFaultClear (t : Nat)
  /-- PROGRAM_LOAD stages a plane program into PRG0 or PRG1 and optionally commits it (R344). -/
  | programLoad (t : Nat)
  /-- CAL_RUN runs a calibration class on an instance out of turn (R418). -/
  | calRun (t : Nat)
  /-- CAL_STORE writes every changed calibration record to NVM (R426). `todo` holds class and payload of the changed
  records in the Runtime's image. -/
  | calStore (t : Nat) (todo : List (Nat × List Byte))
  /-- NVM_COMMIT writes the named record class from the Runtime's image (R426). `payload` is the class in the
  Runtime's image. -/
  | nvmCommit (t : Nat) (payload : List Byte)
  /-- TIME_SET performs a SET of the local clock (R342). -/
  | timeSet (t : Nat)
  /-- SEQ_START arms one SCHED entry per entry of a sequence in the open content (R453). -/
  | seqStart (t : Nat)
  /-- CONTENT_OPEN reads, checks and decodes a Hiquin package (R345). -/
  | contentOpen (t : Nat)
  /-- The package check completes and the new package replaces the old one at a composition start, or the open fails
  (R454). -/
  | contentOpenDone (t : Nat) (p : PkgIn)
  /-- LOG_CONTROL STOP stops logging (R342). -/
  | logStop (t : Nat)
  /-- LOG_CONTROL EVENT_LOG starts the event log with the given level mask (R342). -/
  | logEventLog (t : Nat)
  /-- LOG_CONTROL RECORDER starts the beam recorder (R450). -/
  | logRecorder (t : Nat)
  /-- LOG_CONTROL FLUSH flushes the log (R342). -/
  | logFlush (t : Nat)
  /-- POWER_STATE RUN requests the RUN power state (R346). -/
  | powerStateRun (t : Nat)
  /-- POWER_STATE STANDBY requests the STANDBY power state (R346). -/
  | powerStateStandby (t : Nat)
  /-- POWER_STATE BIVOUAC posts OK and then enters Bivouac (R346). `todo` as in CAL_STORE. -/
  | powerStateBivouac (t : Nat) (todo : List (Nat × List Byte))
  /-- Bivouac entry begins when the completion is popped or sent, or 100 ms after posting (R346). -/
  | bivouacEntry (t : Nat)
  /-- DIAG_SNAPSHOT returns a summary and optionally copies every declared page to DRAM (R347). -/
  | diagSnapshot (t : Nat)
  /-- At the end of each 100 ms window MP_LOAD is updated and a saturated window raises MP_SAT (R328). Percent of the
  MP and of the extension. -/
  | mpLoadWindow (t load ext : Nat)
  /-- A new 10 ms extension budget period begins (R325). -/
  | extBudgetPeriod (t : Nat)
  /-- The extension uses its budget of a period and is preempted, counting a deadline miss (R325). -/
  | extPreempt (t : Nat)
  /-- An extension access outside its grant is stopped, the extension halted and EXT_FAULT raised (R327). The access
  stopped. -/
  | extFault (t a : Nat) (write : Bool)
  /-- A lockstep mismatch restarts the MP as a warm restart with cause LOCKSTEP (R324). -/
  | lockstep (t : Nat)
  /-- An unhandled exception restarts the MP as a warm restart with cause MP_FAULT (R324). `ext`: inside the
  extension. -/
  | mpFault (t : Nat) (ext : Bool)
  /-- A write of BC_WDOG_KICK from the privileged MP forms part of a watchdog service (R370). -/
  | wdogKick (t : Nat) (path : Path) (v : Nat)
  /-- A missing or early watchdog service counts as an expiry and starts a warm restart (R370). -/
  | wdogExpiry (t : Nat)
  /-- The restarted Runtime starts, reads latched state and posts INTERRUPTED completions (R332). -/
  | runtimeUp (t : Nat)
  /-- The 2 s expiry window closes (R334). -/
  | shortWindowClose (t : Nat)
  /-- The 10 s expiry window closes (R334). -/
  | longWindowClose (t : Nat)
  -- Host paths (R348, R441–R446)
  /-- An HSPI READ transaction reads COUNT words, each a separate access (R348). The bytes the host sent while
  `HSPI_CS_N` was low. -/
  | hspiRead (t : Nat) (mosi : List Byte)
  /-- An HSPI WRITE transaction writes COUNT words once its data CRC checks (R348). The bytes the host sent while
  `HSPI_CS_N` was low. -/
  | hspiWrite (t : Nat) (mosi : List Byte)
  /-- An authenticated ICP READ reads COUNT register words (R444). -/
  | icpRead (t : Nat) (n : Fin 4)
  /-- An authenticated ICP WRITE writes COUNT register words, reporting any failing words (R444). -/
  | icpWrite (t : Nat) (n : Fin 4)
  /-- An ICP MBX request pushes a mailbox command as origin ICP (R349). -/
  | icpMbx (t : Nat) (n : Fin 4)
  /-- BULK_OPEN opens a bulk transfer to storage or the NVM content area (R446). -/
  | bulkOpen (t : Nat) (n : Fin 4)
  /-- BULK_DATA stages a chunk of the open transfer (R446). -/
  | bulkData (t : Nat) (n : Fin 4)
  /-- BULK_CLOSE checks the CRC and writes the target (R446). -/
  | bulkClose (t : Nat) (n : Fin 4)
  /-- The bulk write and read-back finish and the transfer completes (R446). `ok`: STOR took the data. -/
  | bulkCloseComplete (t : Nat) (ok : Bool)
  /-- BULK_ABORT abandons the open bulk transfer (R444). -/
  | bulkAbort (t : Nat) (n : Fin 4)
  /-- A transfer without BULK_DATA for 10 s is aborted (R446). -/
  | bulkIdle (t : Nat)
  -- Basecamp and power (R352–R377)
  /-- Basecamp completes power-on after VBAT rises and enters BIVOUAC (R364). `v` is VBAT in 10 mV, here and below. -/
  | basecampPowerOn (t v : Nat)
  /-- Every 1 ms Basecamp converts VBAT into BC_VBAT and BC_VBAT_MIN (R357). -/
  | vbatSample (t v : Nat)
  /-- VBAT below 4.5 V for more than 1 ms raises the power-fail warning and stops new NVM granules (R357). `dur` is
  how long the level has held, here and below. -/
  | pfw (t v dur : Nat)
  /-- VBAT at or above 4.7 V for 10 ms ends the warning (R357). -/
  | pfwEnd (t v dur : Nat)
  /-- VBAT above 42 V for 1 ms sets and raises VBAT_OV (R360). -/
  | vbatOv (t v dur : Nat)
  /-- VBAT at or below 41 V for 10 ms clears VBAT_OV (R360). -/
  | vbatOvEnd (t v dur : Nat)
  /-- A supply loss kills light at once, stops NVM granules and records the cause (R358). -/
  | supplyLoss (t : Nat) (f : SupplyFault)
  /-- At t0 + 40 µs Basecamp switches off every domain, powers down and enters SUPPLY_OFF (R358). -/
  | supplyPowerDown (t : Nat)
  /-- From SUPPLY_OFF, VBAT restored for 10 ms and 100 ms since t0 restart power-up, or a fourth fault gives LOCKOUT
  (R359). -/
  | supplyRestart (t v dur : Nat)
  /-- 60 s in RUN return the consecutive restart count to 0 (R359). -/
  | restartCountClear (t : Nat)
  /-- A power-up step's PG and rails are good, and the next action of the sequence follows (R355). -/
  | seqStepComplete (t : Nat)
  /-- STEP_DLY after a step passes and the next enable is raised (R355). -/
  | stepDelayExpiry (t : Nat)
  /-- A step not complete within PG_TMO is a supply fault (R355). -/
  | pgTimeout (t : Nat)
  /-- Four consecutive good monitor windows make XTAL good and the PLLs lock and the MP is released (R355). -/
  | xtalGood (t : Nat)
  /-- XTAL not good within 10 ms of its start is a supply fault (R355). -/
  | xtalStart (t : Nat)
  /-- A power-down step's rails fall below 10 % or 2 ms pass and the next enable is lowered (R356). `fell`: the rails
  of the step fell in time. -/
  | seqDownStep (t : Nat) (fell : Bool)
  /-- A 125 µs monitor window ends and XTAL is judged good or failed (R20). Whether the window was good. -/
  | xtalMonitorWindow (t : Nat) (good : Bool)
  /-- XTAL_FAIL reported continuously for 100 ms is treated as a supply loss (R474). -/
  | xtalFailPersist (t : Nat)
  /-- Basecamp moves the VDD_CORE target by at most 5 mV per 100 µs on AVS_PWM (R354). Voltage the monitors ask for,
  mV. -/
  | avsUpdate (t : Nat) (want : Int)
  /-- A write of BC_PD_REQ requests or releases switched domains (R362). -/
  | pdReqWrite (t : Nat) (path : Path) (v : Nat)
  /-- A requested domain completes its switch-on and its requester proceeds (R362). -/
  | domainOn (t : Nat) (d : Fin 26)
  /-- BC_PWR_CMD RUN moves STANDBY to RUN (R364). -/
  | pwrCmdRun (t : Nat) (path : Path)
  /-- BC_PWR_CMD STANDBY moves RUN to STANDBY when its conditions hold (R364). -/
  | pwrCmdStandby (t : Nat) (path : Path)
  /-- BC_PWR_CMD BIVOUAC hands ports to the keeper and starts power-down (R364). -/
  | pwrCmdBivouac (t : Nat) (path : Path)
  /-- A WAKE pin reaches its active level or edge and its filter starts (R367). New level of the pin. -/
  | wakePin (t : Nat) (i : Fin 4) (level : Bool)
  /-- A wake source qualifies, is recorded and starts the keeper wake frames and power-up (R367). -/
  | wakeQualified (t : Nat) (i : Fin 4)
  /-- The wake timer expires after BC_WAKE_TIMER seconds in BIVOUAC (R367). -/
  | wakeTimer (t : Nat)
  /-- nRESET low for 5 µs kills light, switches off every domain and holds SEQ_UP (R372). `dur` is how long `nRESET`
  has been low. -/
  | pinReset (t dur : Nat)
  /-- nRESET rises and the power-up steps complete (R372). -/
  | nresetRise (t : Nat)
  /-- A privileged write of the key to BC_RST performs a system reset (R372). -/
  | systemReset (t : Nat) (path : Path) (v : Nat)
  /-- VBAT below 3.0 V loses everything but NVM content (R371). -/
  | vbatLoss (t v : Nat)
  /-- A write of BC_VBAT_MIN loads the current VBAT (R373). -/
  | vbatMinWrite (t : Nat) (path : Path) (v : Nat)
  -- Power budget and thermal (R378–R408)
  /-- At a grant opportunity the PBA grants the first waiting request that passes its budget checks (R378). -/
  | pbaGrant (t : Nat)
  /-- Every 1 ms the PBA evaluates the lamp budget and sets the class factors (R383). -/
  | pbaEvaluation (t : Nat)
  /-- A request waiting PBA_WAIT_WARN raises WAIT_LONG (R382). -/
  | waitLong (t : Nat)
  /-- An on-die sensor is sampled and T_J, WARN, throttle entry and shutdown are evaluated (R393). Reading in 1/256
  °C before the checks. -/
  | sensorSample (t : Nat) (i : Fin 24) (r : Int)
  /-- Basecamp converts TSB every 1 ms or 100 ms (R392). Reading in 1/256 °C before the checks. -/
  | tsbSample (t : Nat) (r : Int)
  /-- An external temperature input is converted every 10 ms and its derating factor updated (R400). Reading in 1/256
  °C before the checks. -/
  | xtSample (t : Nat) (i : Fin 8) (r : Int)
  /-- UP_MS at or above THROT raises the throttle level by one (R397). -/
  | throtStepUp (t : Nat)
  /-- DOWN_MS at or below the lower bound lowers the throttle level by one (R397). -/
  | throtStepDown (t : Nat)
  /-- THERM_CMD REVALIDATE restores a failed source when its reading is plausible (R394). -/
  | revalidate (t : Nat) (path : Path) (src : Fin 32)
  /-- TSB cooled and 2 s elapsed restart the device from THERM_OFF, or give LOCKOUT (R404). -/
  | thermalRestart (t v dur : Nat)
  -- Calibration and NVM (R409–R434)
  /-- A background calibration measurement of a class and instance starts, or is skipped (R413). Class, instance, two
  signal figures, and for ADC_GAIN the parallel match. -/
  | calMeasurementStart (t cls inst a b : Nat) (matched : Bool)
  /-- A calibration measurement completes and is accepted when it agrees with the previous one (R414). What was
  measured. -/
  | calMeasurementDone (t cls inst : Nat) (m : CalMeas)
  /-- DISAGREE_MAX consecutive disagreements raise UNSTABLE and mark the figures STALE (R414). -/
  | calUnstable (t cls inst : Nat)
  /-- CAL_CMD GO starts a calibration run of a class and instance (R418). -/
  | calCmd (t : Nat) (path : Path) (cls : Fin 16) (inst : Fin 8)
  /-- A calibration run not complete within 10 s ends with TIMEOUT (R418). -/
  | calTimeout (t : Nat)
  /-- NVM_CMD PROGRAM programs 1–8 granules from NVM_WBUF (R421). -/
  | nvmProgram (t : Nat) (path : Path) (count : Fin 8)
  /-- NVM_CMD READ copies 1–8 granules into NVM_RBUF (R421). -/
  | nvmRead (t : Nat) (path : Path) (count : Fin 8)
  /-- A granule program or read completes and is checked (R421). `res`: 0 good, 1 failed once more, 2 uncorrectable. -/
  | nvmGranuleDone (t : Nat) (res : Fin 3)
  /-- When PD_NVM is switched on the NVM scans both slots of every record class (R427). -/
  | nvmScan (t : Nat)
  /-- The record scan ends, fills the record status registers and reports an interrupted record (R427). -/
  | scanDone (t : Nat)
  -- Security, network and storage (R435–R464)
  /-- The boot ROM checks and loads the valid image with the higher version, or enters recovery (R456). Slots A and
  B, and the extension image. -/
  | boot (t : Nat) (a b ext : BootImg)
  /-- SEC_RECOVERY GO checks and loads a recovery image from Frame SRAM (R456). Verdicts on the recovery image. -/
  | recoveryBoot (t : Nat) (path : Path) (key sig : Bool)
  /-- SEC_KEY_CTL WRITE stores a key or hash into a slot (R457). -/
  | keyWrite (t : Nat) (path : Path) (slot : Fin 16)
  /-- SEC_KEY_CTL ERASE invalidates a slot (R457). -/
  | keyErase (t : Nat) (path : Path) (slot : Fin 16)
  /-- SEC_KEY_CTL LOCK forbids WRITE and ERASE of a slot (R457). -/
  | keyLock (t : Nat) (path : Path) (slot : Fin 16)
  /-- SEC_KEY_CTL REVOKE blows the revocation fuse of slot 1 or 2 (R457). -/
  | keyRevoke (t : Nat) (path : Path) (slot : Fin 16)
  /-- SEC_SVN_CMD advances the OTP SVN up to the running SVN (R456). -/
  | svnAdvance (t : Nat) (path : Path) (svn : Nat)
  /-- A received Ethernet frame is classified to IMS, ICP or the RX ring, or discarded (R436). -/
  | ethFrameRx (t : Nat) (n : Fin 4) (f : EthRx)
  /-- A write of the TX tail hands new descriptors to the MAC (R437). -/
  | ethTxDoorbell (t : Nat) (path : Path) (n : Fin 4) (v : Nat)
  /-- The MAC sends a frame from its queues and pushes a PTP time-stamp where required (R439). -/
  | ethFrameTx (t : Nat) (n : Fin 4) (icp : Bool)
  /-- An Ethernet port's link goes up or down (R463). -/
  | linkChange (t : Nat) (n : Fin 4) (up : Bool)
  /-- ETH_MSEC_CTL GO installs a MACsec SA (R440). -/
  | msecSaInstall (t : Nat) (path : Path) (n : Fin 4) (v : Nat)
  /-- A CAN frame is received, filtered, time-stamped and placed in the RX ring (R447). -/
  | canFrameRx (t : Nat) (n : Fin 4) (f : CanFrame)
  /-- A CAN frame from the TX ring is transmitted (R447). -/
  | canFrameTx (t : Nat) (n : Fin 4)
  /-- The CAN controller enters bus-off (R447). -/
  | busOff (t : Nat) (n : Fin 4)
  /-- CAN_CMD RECOVER starts bus-off recovery (R460). -/
  | canRecover (t : Nat) (path : Path) (n : Fin 4)
  /-- STOR_CMD LINK_UP trains the PCIe link and initialises the NVMe controller (R448). -/
  | storLinkUp (t : Nat) (path : Path)
  /-- STOR_CMD SHUTDOWN shuts the storage port down (R461). -/
  | storShutdown (t : Nat) (path : Path)
  /-- The PCIe link drops and is retrained up to three times before FAULT (R448). -/
  | storLinkDrop (t : Nat)
  /-- A doorbell write submits NVMe I/O commands or frees completions (R449). -/
  | storDoorbell (t : Nat) (path : Path) (cq : Bool) (v : Nat)
  /-- The NVMe controller posts a completion (R449). Index of the command; error status. -/
  | cqPosted (t index : Nat) (error : Bool)
  /-- A command not complete within 2 s is aborted, and three consecutive timeouts reset the controller (R449). -/
  | nvmeTimeout (t index : Nat)
  /-- The PCIe link finishes training and the NVMe controller finishes initialisation, so STOR moves through INIT to
  READY, or to FAULT with LINK_FAIL or NO_NAMESPACE (R448). -/
  | storInitDone (t : Nat) (i : StorInit)
  /-- Bus-off recovery completes on the bus and the CAN controller returns from bus-off to error-active, raising
  STATE_CHANGE (R447). -/
  | busOffRecoveryDone (t : Nat) (n : Fin 4)
  /-- A keeper wake frame or keepalive strobe ends on the line timed on KCLK or BCLK, and its nodes reach their latch
  (R245). -/
  | keeperFrameEnd (t : Nat) (p : Fin 8)
  deriving DecidableEq, Repr

end Sys2Proof
end

