-- ==== Sys2Proof/Decode.lean ====
section
/-!
DEFINITION. The table gives its rows no bits (spec/opcode_table.json: every row's "fields" is empty), so no word
spells a command. Commands reach the block as terms in its queue.
-/

namespace Sys2Proof

/-- The command that a word spells by the table's bits: none, since no row has bits. -/
def decodeTableWord (nbits w : Nat) : Option Instr :=
  match nbits, w with
  | _, _ => none

end Sys2Proof
end

