-- ==== Sys2Proof/Config.lean ====
section
/-!
DEFINITION. What an implementation fixes and the spec leaves open. Every constant here is opaque:
no proof can see its value, so a statement about it holds for every value (log entry 3).
-/

namespace Sys2Proof

/-- A value the spec leaves open, as a word. The model applies it to the counter `State.fresh`, which
each use advances (log entry 3). -/
opaque Config.freeWord : Nat → BitVec 32

/-- The frequency in 1/16 Hz by which the phase loop of a scanner moves for a phase error of 1/65536 turn at an integral
gain of 1: the spec gives the gain and not this unit (R208, log entry 3). -/
opaque Config.phaseUnit : Nat

/-- Which of the codes that the error of GAMMA22 and PERCEPTUAL-LOG allows the hardware computes, by curve and code (R234, log
entry 3). -/
opaque Config.curveDev : Nat → Nat → Nat

/-- The content of the boot ROM, which the spec does not give (log entry 3). -/
opaque Config.bootRom : Nat → BitVec 32

/-- The version word of the Iluric Runtime that PING returns, which the spec does not give (R342). -/
opaque Config.runtimeVersion : BitVec 32

/-- The reduced forms of P240-16 (form 0) and P240-18 (form 1) that the Runtime supplies, whose tables the spec
does not give (R138, R344): index 0 COUNT, 1 P_nom, 2 + 2k and 3 + 2k words A and B of plane k (log entry 3). -/
opaque Config.reducedProgram : Nat → Nat → BitVec 32

end Sys2Proof
end

