-- ==== Sys2Proof/Machine/Bits.lean ====
section
/-!
DEFINITION. Bit fields of words and signed readings of them ("Notation" of spec/00: bit 0 is the least
significant).
-/

namespace Sys2Proof.Machine

/-- The field of width `w` at bit `lo` of `x`. -/
def bitsOf (x lo w : Nat) : Nat := x / 2 ^ lo % 2 ^ w

/-- `x` with the field of width `w` at bit `lo` replaced by `v`. -/
def withBits (x lo w v : Nat) : Nat :=
  x / 2 ^ (lo + w) * 2 ^ (lo + w) + v % 2 ^ w * 2 ^ lo + x % 2 ^ lo

/-- Bit `i` of `x`. -/
def bitOf (x i : Nat) : Bool := x / 2 ^ i % 2 == 1

/-- A 0 or 1 field from a truth value. -/
def ofBool (b : Bool) : Nat := if b then 1 else 0

/-- A field of width `w` read as two's complement. -/
def signed (w x : Nat) : Int := if x < 2 ^ (w - 1) then (x : Int) else (x : Int) - (2 ^ w : Nat)

/-- An integer as a two's complement field of width `w`. -/
def unsigned (w : Nat) (x : Int) : Nat := (x % (2 ^ w : Nat)).toNat

/-- `x` limited to `lo` to `hi`. -/
def clampI (lo hi x : Int) : Int := max lo (min hi x)

/-- `x` limited to `lo` to `hi`. -/
def clampN (lo hi x : Nat) : Nat := max lo (min hi x)

/-- `ceil (a / b)`. -/
def ceilDiv (a b : Nat) : Nat := (a + b - 1) / b

/-- `a / b` rounded to nearest, halves up. -/
def roundDiv (a b : Nat) : Nat := (2 * a + b) / (2 * b)

/-- `a / b` rounded towards zero. -/
def tdivI (a : Int) (b : Nat) : Int := a.tdiv b

/-- `a / b` rounded to nearest, halves up (towards plus infinity). -/
def roundDivI (a : Int) (b : Nat) : Int := (2 * a + b).fdiv (2 * b)

end Sys2Proof.Machine
end

