-- ==== Sys2Proof/Machine/Curves.lean ====
section
/-!
DEFINITION. The transfer curves of LED ports (R234, R235): fifth roots and binary powers and logarithms in
integer arithmetic, exact to far less than the error the spec allows the hardware.
-/

namespace Sys2Proof.Machine

/-- π in 2⁻⁴⁰. -/
def piFix : Int := 3454217652358

/-- cos of an angle within a quarter turn, both in 2⁻⁴⁰: ten terms of its series. -/
def cosFix (th : Int) : Int :=
  let q := th * th / 2 ^ 40
  [10, 9, 8, 7, 6, 5, 4, 3, 2, 1].foldl (fun (acc : Int) (k : Nat) =>
    2 ^ 40 - q * acc / 2 ^ 40 / (((2 * k - 1) * (2 * k) : Nat) : Int)) (2 ^ 40)

/-- (1 − cos(π j / n)) / 2 in 2⁻⁴⁰: the raised cosine from 0 at j = 0 to 1 at j = n (R210). -/
def raisedCos (j n : Nat) : Int :=
  if 2 * j ≤ n then (2 ^ 40 - cosFix (piFix * j / n)) / 2 else (2 ^ 40 + cosFix (piFix * ((n : Int) - j) / n)) / 2

/-- The largest `v < hi` with `v ^ 5 * m ≤ x`, by bisection in `k` steps. -/
def root5 (x m : Nat) : Nat → Nat → Nat → Nat
  | 0, lo, _ => lo
  | k + 1, lo, hi =>
    let mid := (lo + hi) / 2
    if mid ^ 5 * m ≤ x then root5 x m k mid hi else root5 x m k lo mid

/-- GAMMA22 to nearest: 65535 × (q / 65535)^2.2 (R234), with v the largest such that
(2v − 1)⁵ × 65535⁶ ≤ 32 q¹¹. -/
def gamma22 (q : Nat) : Nat :=
  (root5 (32 * q ^ 11) (65535 ^ 6) 18 0 262144 + 1) / 2

/-- 2^(2^−i) in 2⁻⁴⁰ for i = 1 to 12. -/
def exp2Steps : List Nat := [
  1554944255988, 1307547050779, 1199025932245, 1148191166361, 1123587797336, 1111484524408,
  1105481867187, 1102492706220, 1101001158050, 1100256140847, 1099883821316, 1099697708800]

/-- ln 2 in 2⁻⁴⁰: below 2⁻¹² of the range, 2^x is 1 + x ln 2 + (x ln 2)² / 2. -/
def ln2Fix : Nat := 762123384786

/-- 2^(x / 2³²) in 2⁻⁴⁰, for x of 32 fraction bits. -/
def exp2Fix (x : Nat) : Nat :=
  let int := x / 2 ^ 32
  let frac := x % 2 ^ 32
  let p := (List.range 12).foldl (fun p i =>
    if bitsOf frac (31 - i) 1 = 1 then p * exp2Steps.getD i 0 / 2 ^ 40 else p) (2 ^ 40)
  let low := frac % 2 ^ 20
  let l := low * ln2Fix / 2 ^ 32
  (p * (2 ^ 40 + l + l * l / 2 ^ 41) / 2 ^ 40) * 2 ^ int

/-- PERCEPTUAL-LOG to nearest: 65535 × (2^(12 q / 65535) − 1) / 4095 (R234). -/
def perceptual (q : Nat) : Nat :=
  roundDiv ((exp2Fix (roundDiv (12 * q * 2 ^ 32) 65535) - 2 ^ 40) * 65535) (4095 * 2 ^ 40)

/-- Whether code `c` lies within 0.1 % of the curve at `q`: 1 GAMMA22, else PERCEPTUAL-LOG (R234). -/
def curveNear (curve q c : Nat) : Bool :=
  if curve = 1 then
    decide (999 ^ 5 * q ^ 11 ≤ (1000 * c) ^ 5 * 65535 ^ 6) && decide ((1000 * c) ^ 5 * 65535 ^ 6 ≤ 1001 ^ 5 * q ^ 11)
  else
    let x := (exp2Fix (roundDiv (12 * q * 2 ^ 32) 65535) - 2 ^ 40) * 65535
    let d := 4095 * 2 ^ 40
    decide (999 * x ≤ 1000 * c * d) && decide (1000 * c * d ≤ 1001 * x)

/-- One step of the curve (R234), to nearest. -/
def curveOf (curve q : Nat) : Nat := match curve with | 1 => gamma22 q | 2 => perceptual q | _ => q

/-- The codes that the hardware may compute: the nearest one, and for GAMMA22 and PERCEPTUAL-LOG those within 0.1 % (R234). -/
def curveCodes (curve q : Nat) : List Nat :=
  let v := curveOf curve q
  let b := v / 1000 + 1
  if curve = 0 then [v]
  else ((List.range (2 * b + 1)).map fun i => v + i - b).filter fun c => c == v || curveNear curve q c

/-- The curve as the hardware computes it (R234): one of those codes, the same for the same code each time (log entry 3). -/
def hwCurve (curve q : Nat) : Nat :=
  let l := curveCodes curve q
  l.getD (Config.curveDev curve q % l.length) (curveOf curve q)

/-- log2 of `m / 2⁴⁰` for 2⁴⁰ ≤ m < 2⁴¹, in 2⁻ᵏ, by squaring. -/
def log2Frac : Nat → Nat → Nat → Nat
  | 0, _, acc => acc
  | k + 1, m, acc =>
    let m2 := m * m / 2 ^ 40
    if 2 ^ 41 ≤ m2 then log2Frac k (m2 / 2) (2 * acc + 1) else log2Frac k m2 (2 * acc)

/-- log2 of `a / b` (at least 1) in 2⁻²⁸. -/
def log2Fix (a b : Nat) : Nat :=
  let e := Nat.log2 (a / b)
  e * 2 ^ 28 + log2Frac 28 (a * 2 ^ 40 / (b * 2 ^ e)) 0

/-- The perceptual code of a linear one: 65535 × log2(1 + 4095 v / 65535) / 12, to nearest (R235). -/
def toPerceptual (v : Nat) : Nat := roundDiv (65535 * log2Fix (65535 + 4095 * v) 65535) (12 * 2 ^ 28)

end Sys2Proof.Machine
end

