-- ==== Sys2Proof/Machine/Assoc.lean ====
section
/-!
DEFINITION. Sparse data by key, as a list of key and value pairs in one canonical form: keys strictly
rising, and no entry that holds what an unlisted key reads as. Registers, values in force and every
memory are kept this way.
-/

namespace Sys2Proof.Machine

/-- The value listed for `k`. -/
def cellGet {α : Type} : List (Nat × α) → Nat → Option α
  | [], _ => none
  | (a, v) :: r, k => if a = k then some v else cellGet r k

/-- The list without the entry for `k`. -/
def cellErase {α : Type} : List (Nat × α) → Nat → List (Nat × α)
  | [], _ => []
  | (a, v) :: r, k => if a = k then cellErase r k else (a, v) :: cellErase r k

/-- The list with an entry for `k` put where its key belongs. -/
def cellInsert {α : Type} : List (Nat × α) → Nat → α → List (Nat × α)
  | [], k, v => [(k, v)]
  | (a, w) :: r, k, v => if k < a then (k, v) :: (a, w) :: r else (a, w) :: cellInsert r k v

/-- The list after key `k` takes value `v`, where an unlisted `k` reads as `d`. -/
def cellPut {α : Type} [DecidableEq α] (d : α) (l : List (Nat × α)) (k : Nat) (v : α) : List (Nat × α) :=
  if v = d then cellErase l k else cellInsert (cellErase l k) k v

/-- Keys strictly rise. -/
def keysRise {α : Type} : List (Nat × α) → Bool
  | [] => true
  | [_] => true
  | (a, _) :: (b, w) :: r => decide (a < b) && keysRise ((b, w) :: r)

/-- The canonical form, for data whose unlisted key `k` reads as `d k`. -/
def cellsWf {α : Type} [DecidableEq α] (d : Nat → α) (l : List (Nat × α)) : Bool :=
  keysRise l && l.all fun p => decide (p.2 ≠ d p.1)

end Sys2Proof.Machine
end

