-- ==== Sys2Proof/Machine/RegNames.lean ====
section
/-!
DEFINITION. The names of every block register and register field of the spec's register tables
(spec/02 to spec/18), as page offset, lowest bit and width. A whole register is a field of 32 bits.
Port blocks (`np`, `mx`, `dmc1`, `dmc2`) and register arrays take their index as an argument.
-/

namespace Sys2Proof.Machine

/-- A register field: its page offset, its lowest bit and its width. -/
structure RF where
  off : Nat
  lo : Nat
  w : Nat
  deriving DecidableEq, Repr

/-! ### The common header (R34) -/

def BLK_ID : RF := ⟨0x000, 0, 32⟩
def BLK_FEAT : RF := ⟨0x004, 0, 32⟩
def BLK_CTRL : RF := ⟨0x008, 0, 32⟩
def BLK_CTRL_EN : RF := ⟨0x008, 0, 1⟩
def BLK_CTRL_SRST : RF := ⟨0x008, 1, 1⟩
def BLK_CTRL_FREEZE : RF := ⟨0x008, 2, 1⟩
def BLK_STATE : RF := ⟨0x00C, 0, 8⟩
def IRQ_RAW : RF := ⟨0x010, 0, 32⟩
def IRQ_STAT : RF := ⟨0x014, 0, 32⟩
def IRQ_EN : RF := ⟨0x018, 0, 32⟩
def IRQ_SET : RF := ⟨0x01C, 0, 32⟩
def COMMIT : RF := ⟨0x020, 0, 32⟩
def COMMIT_GO : RF := ⟨0x020, 0, 1⟩
def COMMIT_PENDING : RF := ⟨0x020, 1, 1⟩
def COMMIT_LATE : RF := ⟨0x020, 2, 1⟩
def COMMIT_REJECT : RF := ⟨0x020, 3, 1⟩
def ERR_CODE : RF := ⟨0x024, 0, 32⟩
def ERR_CODE_DETAIL : RF := ⟨0x024, 0, 8⟩
def ERR_CODE_CLASS : RF := ⟨0x024, 8, 8⟩
def ERR_INFO : RF := ⟨0x028, 0, 32⟩
def ERR_INFO_DETAIL : RF := ⟨0x028, 0, 12⟩
def ERR_INFO_OFFSET : RF := ⟨0x028, 12, 12⟩
def ERR_INFO_PATH : RF := ⟨0x028, 24, 8⟩
def LOCK : RF := ⟨0x02C, 0, 32⟩
def LOCK_LOCKED : RF := ⟨0x02C, 0, 1⟩
def LOCK_TAG : RF := ⟨0x02C, 1, 15⟩
def ERR_CNT : RF := ⟨0x040, 0, 32⟩
def SYS_BERR_ADDR : RF := ⟨0x048, 0, 32⟩
def SYS_BERR_INFO : RF := ⟨0x04C, 0, 32⟩
def SYS_BERR_CNT : RF := ⟨0x050, 0, 32⟩

/-! ### sys (spec/02 R57) -/

def SYS_ID : RF := ⟨0x44, 0, 32⟩
def SYS_ID_PART : RF := ⟨0x44, 16, 16⟩
def SYS_ID_STEP_LETTER : RF := ⟨0x44, 4, 4⟩
def SYS_ID_STEP_DIGIT : RF := ⟨0x44, 0, 4⟩
def SYS_IRQ_PEND0 : RF := ⟨0x60, 0, 32⟩
def SYS_IRQ_PEND1 : RF := ⟨0x64, 0, 32⟩
def SYS_IRQ_MP_EN0 : RF := ⟨0x68, 0, 32⟩
def SYS_IRQ_MP_EN1 : RF := ⟨0x6C, 0, 32⟩
def SYS_IRQ_HOST_EN0 : RF := ⟨0x70, 0, 32⟩
def SYS_IRQ_HOST_EN1 : RF := ⟨0x74, 0, 32⟩

/-! ### basecamp (spec/14 R374) -/

def BC_PWR_CMD : RF := ⟨0x44, 0, 32⟩
def BC_PWR_CMD_GO : RF := ⟨0x44, 8, 1⟩
def BC_STATUS : RF := ⟨0x48, 0, 32⟩
def BC_STATUS_PG : RF := ⟨0x48, 24, 4⟩
def BC_STATUS_EN : RF := ⟨0x48, 20, 4⟩
def BC_STATUS_KEEPER_ACTIVE : RF := ⟨0x48, 5, 1⟩
def BC_STATUS_XTAL_OK : RF := ⟨0x48, 4, 1⟩
def BC_STATUS_VBAT_OV : RF := ⟨0x48, 3, 1⟩
def BC_STATUS_PFW : RF := ⟨0x48, 2, 1⟩
def BC_STATUS_HOLD_UP : RF := ⟨0x48, 1, 1⟩
def BC_STATUS_WDOG_RUN : RF := ⟨0x48, 0, 1⟩
def BC_VBAT : RF := ⟨0x4C, 0, 32⟩
def BC_VBAT_VBAT : RF := ⟨0x4C, 0, 16⟩
def BC_VBAT_MIN : RF := ⟨0x50, 0, 32⟩
def BC_SEQ_CFG : RF := ⟨0x54, 0, 32⟩
def BC_SEQ_CFG_PG_TMO : RF := ⟨0x54, 16, 16⟩
def BC_SEQ_CFG_STEP_DLY : RF := ⟨0x54, 0, 16⟩
def BC_RAIL_MON : RF := ⟨0x58, 0, 32⟩
def BC_RAIL_MON_TRACK : RF := ⟨0x58, 9, 1⟩
def BC_AVS : RF := ⟨0x5C, 0, 32⟩
def BC_AVS_EN : RF := ⟨0x5C, 31, 1⟩
def BC_AVS_TARGET : RF := ⟨0x5C, 16, 12⟩
def BC_AVS_OFFSET : RF := ⟨0x5C, 0, 8⟩
def BC_PD_REQ : RF := ⟨0x60, 0, 32⟩
def BC_PD_RETEN : RF := ⟨0x64, 0, 32⟩
def BC_PD_ON : RF := ⟨0x68, 0, 32⟩
def BC_PD_RET : RF := ⟨0x6C, 0, 32⟩
def BC_WAKE_CFG : RF := ⟨0x70, 0, 32⟩
def BC_WAKE_CFG_TIMER_EN : RF := ⟨0x70, 24, 1⟩
def BC_WAKE_CFG_FILT : RF := ⟨0x70, 16, 8⟩
def BC_WAKE_CFG_EDGE : RF := ⟨0x70, 8, 4⟩
def BC_WAKE_CFG_POL : RF := ⟨0x70, 4, 4⟩
def BC_WAKE_CFG_EN : RF := ⟨0x70, 0, 4⟩
def BC_WAKE_TIMER : RF := ⟨0x74, 0, 32⟩
def BC_WAKE_SRC : RF := ⟨0x78, 0, 32⟩
def BC_WAKE_SRC_WAKE0 : RF := ⟨0x78, 0, 4⟩
def BC_WAKE_SRC_TIMER : RF := ⟨0x78, 4, 1⟩
def BC_WAKE_SRC_NRESET : RF := ⟨0x78, 5, 1⟩
def BC_WDOG : RF := ⟨0x7C, 0, 32⟩
def BC_WDOG_CLOSED : RF := ⟨0x7C, 16, 8⟩
def BC_WDOG_PERIOD : RF := ⟨0x7C, 0, 16⟩
def BC_WDOG_KICK : RF := ⟨0x80, 0, 32⟩
def BC_WDOG_REMAIN : RF := ⟨0x84, 0, 32⟩
def BC_RST : RF := ⟨0x88, 0, 32⟩
def BC_RST_CAUSE : RF := ⟨0x8C, 0, 32⟩
def BC_RESTART_HIST : RF := ⟨0x90, 0, 32⟩
def BC_KEEPER_STAT : RF := ⟨0x94, 0, 32⟩
def BC_KEEPER_STAT_KCLK : RF := ⟨0x94, 16, 1⟩
def BC_PFW_CNT : RF := ⟨0xA0, 0, 32⟩
def BC_SUPPLY_FAULT_CNT : RF := ⟨0xA4, 0, 32⟩
def BC_WAKE_CNT : RF := ⟨0xA8, 0, 32⟩
def BC_WDOG_EXP_CNT : RF := ⟨0xAC, 0, 32⟩

/-! ### pba (spec/15 R389) -/

def PBA_SLOT : RF := ⟨0x44, 0, 32⟩
def PBA_SLOT_START_SLOT_US : RF := ⟨0x44, 0, 10⟩
def PBA_STEP_MAX : RF := ⟨0x48, 0, 32⟩
def PBA_CORE_BUDGET : RF := ⟨0x4C, 0, 32⟩
def PBA_LAMP_BUDGET : RF := ⟨0x50, 0, 32⟩
def PBA_RISE : RF := ⟨0x54, 0, 32⟩
def PBA_SOFT : RF := ⟨0x58, 0, 32⟩
def PBA_SOFT_INIT : RF := ⟨0x58, 16, 8⟩
def PBA_SOFT_MS : RF := ⟨0x58, 0, 10⟩
def PBA_CLASS_MIN : RF := ⟨0x5C, 0, 32⟩
def PBA_CLASS_MIN_DECOR : RF := ⟨0x5C, 16, 8⟩
def PBA_CLASS_MIN_ENGINE : RF := ⟨0x5C, 8, 8⟩
def PBA_CLASS_MIN_LEGAL : RF := ⟨0x5C, 0, 8⟩
def PBA_PFW_DERATE : RF := ⟨0x60, 0, 32⟩
def PBA_WAIT_WARN : RF := ⟨0x64, 0, 32⟩
def PBA_FACTOR : RF := ⟨0x68, 0, 32⟩
def PBA_CORE_GRANTED : RF := ⟨0x6C, 0, 32⟩
def PBA_LAMP_DEMAND : RF := ⟨0x70, 0, 32⟩
def PBA_STATUS : RF := ⟨0x74, 0, 32⟩
def PBA_STATUS_ID : RF := ⟨0x74, 16, 8⟩
def PBA_STATUS_CORE_OVER : RF := ⟨0x74, 2, 1⟩
def PBA_STATUS_OVER_BUDGET : RF := ⟨0x74, 1, 1⟩
def PBA_STATUS_SLOT_BUSY : RF := ⟨0x74, 0, 1⟩
def PBA_NEXT_NS : RF := ⟨0x78, 0, 32⟩
def PBA_LAST_GRANT : RF := ⟨0x7C, 0, 32⟩
def PBA_GRANT_CNT : RF := ⟨0x80, 0, 32⟩
def PBA_WAIT_MAX : RF := ⟨0x84, 0, 32⟩
def PBA_OVER_CNT : RF := ⟨0x88, 0, 32⟩
def PBA_WAITMAP (i : Nat) : RF := ⟨0x100 + 0x4 * i, 0, 32⟩
def PBA_GRANTMAP (i : Nat) : RF := ⟨0x108 + 0x4 * i, 0, 32⟩
def PBA_REQ (i : Nat) : RF := ⟨0x200 + 0x4 * i, 0, 32⟩

/-! ### therm (spec/16 R406) -/

def THERM_CFG : RF := ⟨0x44, 0, 32⟩
def THERM_CFG_MAX_LVL : RF := ⟨0x44, 8, 3⟩
def THERM_CFG_DRAM_LVL : RF := ⟨0x44, 4, 3⟩
def THERM_THR : RF := ⟨0x48, 0, 32⟩
def THERM_THR_SHUT : RF := ⟨0x48, 16, 8⟩
def THERM_THR_THROT : RF := ⟨0x48, 8, 8⟩
def THERM_THR_WARN : RF := ⟨0x48, 0, 8⟩
def THERM_HYST : RF := ⟨0x4C, 0, 32⟩
def THERM_HYST_SHUT_H : RF := ⟨0x4C, 16, 8⟩
def THERM_HYST_THROT_H : RF := ⟨0x4C, 8, 8⟩
def THERM_HYST_WARN_H : RF := ⟨0x4C, 0, 8⟩
def THERM_STEP : RF := ⟨0x50, 0, 32⟩
def THERM_STEP_DOWN_MS : RF := ⟨0x50, 16, 16⟩
def THERM_STEP_UP_MS : RF := ⟨0x50, 0, 16⟩
def THERM_CMD : RF := ⟨0x54, 0, 32⟩
def THERM_STATUS : RF := ⟨0x58, 0, 32⟩
def THERM_STATUS_SUBST : RF := ⟨0x58, 31, 1⟩
def THERM_STATUS_HOT : RF := ⟨0x58, 24, 5⟩
def THERM_STATUS_LEVEL : RF := ⟨0x58, 16, 3⟩
def THERM_STATUS_XT_DERATE : RF := ⟨0x58, 5, 1⟩
def THERM_STATUS_PCLK_LOW : RF := ⟨0x58, 4, 1⟩
def THERM_STATUS_SUBST_NONE : RF := ⟨0x58, 3, 1⟩
def THERM_STATUS_DRAM_REQ : RF := ⟨0x58, 2, 1⟩
def THERM_STATUS_THROT : RF := ⟨0x58, 1, 1⟩
def THERM_STATUS_WARN : RF := ⟨0x58, 0, 1⟩
def THERM_TJ : RF := ⟨0x5C, 0, 32⟩
def THERM_TJ_T_J : RF := ⟨0x5C, 0, 16⟩
def THERM_TSB : RF := ⟨0x60, 0, 32⟩
def THERM_TSB_TSB : RF := ⟨0x60, 0, 16⟩
def THERM_SHUT_INFO : RF := ⟨0x64, 0, 32⟩
def THERM_SHUT_NS : RF := ⟨0x68, 0, 32⟩
def THERM_SHUT_SEC : RF := ⟨0x6C, 0, 32⟩
def THERM_WARN_CNT : RF := ⟨0x70, 0, 32⟩
def THERM_THROT_CNT : RF := ⟨0x74, 0, 32⟩
def THERM_FAIL_CNT : RF := ⟨0x78, 0, 32⟩
def THERM_SHUT_CNT : RF := ⟨0x7C, 0, 32⟩
def THERM_LVL (i : Nat) : RF := ⟨0x80 + 0x4 * i, 0, 32⟩
def THERM_LVL_PCLK_LOW (i : Nat) : RF := ⟨0x80 + 0x4 * i, 31, 1⟩
def THERM_LVL_LEGAL (i : Nat) : RF := ⟨0x80 + 0x4 * i, 18, 9⟩
def THERM_LVL_ENGINE (i : Nat) : RF := ⟨0x80 + 0x4 * i, 9, 9⟩
def THERM_LVL_DECOR (i : Nat) : RF := ⟨0x80 + 0x4 * i, 0, 9⟩
def THERM_TS (i : Nat) : RF := ⟨0x100 + 0x4 * i, 0, 32⟩
def THERM_TS_VALID (i : Nat) : RF := ⟨0x100 + 0x4 * i, 31, 1⟩
def THERM_TS_FAILED (i : Nat) : RF := ⟨0x100 + 0x4 * i, 30, 1⟩
def THERM_TS_SUBST (i : Nat) : RF := ⟨0x100 + 0x4 * i, 29, 1⟩
def THERM_NBR (i : Nat) : RF := ⟨0x180 + 0x4 * i, 0, 32⟩
def THERM_XT_CFG (i : Nat) : RF := ⟨0x200 + 0x8 * i, 0, 32⟩
def THERM_XT_CFG_EN (i : Nat) : RF := ⟨0x200 + 0x8 * i, 31, 1⟩
def THERM_XT_CFG_TYPE (i : Nat) : RF := ⟨0x200 + 0x8 * i, 30, 1⟩
def THERM_XT_CFG_T_START (i : Nat) : RF := ⟨0x200 + 0x8 * i, 16, 8⟩
def THERM_XT_CFG_T_END (i : Nat) : RF := ⟨0x200 + 0x8 * i, 8, 8⟩
def THERM_XT_NTC (i : Nat) : RF := ⟨0x204 + 0x8 * i, 0, 32⟩
def THERM_XT_NTC_R25 (i : Nat) : RF := ⟨0x204 + 0x8 * i, 0, 16⟩
def THERM_XT (i : Nat) : RF := ⟨0x240 + 0x4 * i, 0, 32⟩
def THERM_XT_VALID (i : Nat) : RF := ⟨0x240 + 0x4 * i, 31, 1⟩
def THERM_XT_FAILED (i : Nat) : RF := ⟨0x240 + 0x4 * i, 30, 1⟩
def THERM_UNIT_XT (i : Nat) : RF := ⟨0x280 + 0x4 * i, 0, 32⟩

/-! ### cal (spec/17 R429) -/

def CAL_CFG : RF := ⟨0x44, 0, 32⟩
def CAL_CFG_DISAGREE_MAX : RF := ⟨0x44, 12, 4⟩
def CAL_CFG_BG_EN : RF := ⟨0x44, 1, 9⟩
def CAL_CMD : RF := ⟨0x48, 0, 32⟩
def CAL_CMD_GO : RF := ⟨0x48, 31, 1⟩
def CAL_CMD_STAT : RF := ⟨0x4C, 0, 32⟩
def CAL_CMD_STAT_BUSY : RF := ⟨0x4C, 31, 1⟩
def CAL_REF : RF := ⟨0x50, 0, 32⟩
def CAL_REF_VALID : RF := ⟨0x50, 31, 1⟩
def CAL_DL_STAT (i : Nat) : RF := ⟨0x60 + 0x4 * i, 0, 32⟩
def CAL_DL_STAT_FAILED (i : Nat) : RF := ⟨0x60 + 0x4 * i, 8, 3⟩
def CAL_SCN_TRIM (i : Nat) : RF := ⟨0x78 + 0x4 * i, 0, 32⟩
def CAL_SCN_TRIM_RET (i : Nat) : RF := ⟨0x78 + 0x4 * i, 16, 16⟩
def CAL_SCN_TRIM_FWD (i : Nat) : RF := ⟨0x78 + 0x4 * i, 0, 16⟩
def CAL_TOL (i : Nat) : RF := ⟨0x84 + 0x4 * i, 0, 32⟩
def CAL_TOL_QUAL_LIM (i : Nat) : RF := ⟨0x84 + 0x4 * i, 16, 16⟩
def CAL_TOL_TOL (i : Nat) : RF := ⟨0x84 + 0x4 * i, 0, 16⟩
def CAL_ACCEPT_CNT : RF := ⟨0xB0, 0, 32⟩
def CAL_DISAGREE_CNT : RF := ⟨0xB4, 0, 32⟩
def CAL_SKIP_CNT : RF := ⟨0xB8, 0, 32⟩
def CAL_PRECOND_CNT : RF := ⟨0xBC, 0, 32⟩
def CAL_QUAL (i : Nat) : RF := ⟨0x120 + 0x4 * i, 0, 32⟩
def CAL_QUAL_VALID (i : Nat) : RF := ⟨0x120 + 0x4 * i, 31, 1⟩
def CAL_QUAL_STALE (i : Nat) : RF := ⟨0x120 + 0x4 * i, 30, 1⟩

/-! ### nvm (spec/17 R432) -/

def NVM_ADDR : RF := ⟨0x44, 0, 32⟩
def NVM_CMD : RF := ⟨0x48, 0, 32⟩
def NVM_CMD_GO : RF := ⟨0x48, 31, 1⟩
def NVM_CMD_COUNT : RF := ⟨0x48, 8, 3⟩
def NVM_CMD_OP : RF := ⟨0x48, 0, 4⟩
def NVM_STAT : RF := ⟨0x4C, 0, 32⟩
def NVM_STAT_BUSY : RF := ⟨0x4C, 31, 1⟩
def NVM_STAT_PFW_BLOCK : RF := ⟨0x4C, 30, 1⟩
def NVM_STAT_GRANULES : RF := ⟨0x4C, 16, 4⟩
def NVM_PROT : RF := ⟨0x50, 0, 32⟩
def NVM_PROT_CONTENT_WP : RF := ⟨0x50, 1, 1⟩
def NVM_PROT_RECORD_WP : RF := ⟨0x50, 0, 1⟩
def NVM_REC_VALID : RF := ⟨0x54, 0, 32⟩
def NVM_REC_SEL : RF := ⟨0x58, 0, 32⟩
def NVM_REC_TORN : RF := ⟨0x5C, 0, 32⟩
def NVM_INTR : RF := ⟨0x60, 0, 32⟩
def NVM_INTR_VALID : RF := ⟨0x60, 31, 1⟩
def NVM_PROG_CNT : RF := ⟨0x64, 0, 32⟩
def NVM_ECC_CE_CNT : RF := ⟨0x68, 0, 32⟩
def NVM_PFW_STOP_CNT : RF := ⟨0x6C, 0, 32⟩
def NVM_WBUF (i : Nat) : RF := ⟨0x100 + 0x4 * i, 0, 32⟩
def NVM_RBUF (i : Nat) : RF := ⟨0x200 + 0x4 * i, 0, 32⟩

/-! ### mbx (spec/13) -/

def MBX_CFG : RF := ⟨0x44, 0, 32⟩
def MBX_CFG_QUOTA_EXT : RF := ⟨0x44, 16, 5⟩
def MBX_CFG_QUOTA_ICP : RF := ⟨0x44, 8, 5⟩
def MBX_CFG_QUOTA_HSPI : RF := ⟨0x44, 0, 5⟩
def MBX_RSP_TMO : RF := ⟨0x48, 0, 32⟩
def MBX_STAT : RF := ⟨0x4C, 0, 32⟩
def MBX_STAT_EXT : RF := ⟨0x4C, 24, 6⟩
def MBX_PUSH : RF := ⟨0x50, 0, 32⟩
def MBX_PUSH_GO : RF := ⟨0x50, 0, 1⟩
def MBX_PUSH_STAT : RF := ⟨0x54, 0, 32⟩
def MBX_PUSH_STAT_VALID : RF := ⟨0x54, 31, 1⟩
def MBX_PUSH_STAT_SEQ : RF := ⟨0x54, 16, 8⟩
def MBX_PUSH_STAT_STATUS : RF := ⟨0x54, 8, 8⟩
def MBX_PUSH_STAT_DETAIL : RF := ⟨0x54, 0, 8⟩
def MBX_POP : RF := ⟨0x58, 0, 32⟩
def MBX_POP_GO : RF := ⟨0x58, 0, 1⟩
def MBX_RSP_STAT : RF := ⟨0x5C, 0, 32⟩
def MBX_RSP_STAT_AVAIL : RF := ⟨0x5C, 31, 1⟩
def MP_LOAD : RF := ⟨0x60, 0, 32⟩
def MP_LOAD_SAT : RF := ⟨0x60, 31, 1⟩
def MP_LOAD_EXT : RF := ⟨0x60, 16, 8⟩
def MP_LOAD_LOAD : RF := ⟨0x60, 0, 8⟩
def MP_LOAD_PEAK : RF := ⟨0x64, 0, 32⟩
def MP_RESTART_INFO : RF := ⟨0x68, 0, 32⟩
def MP_RESTART_INFO_HELD : RF := ⟨0x68, 31, 1⟩
def MBX_CMD_CNT : RF := ⟨0x70, 0, 32⟩
def MBX_BUSY_CNT : RF := ⟨0x74, 0, 32⟩
def MBX_REJECT_CNT : RF := ⟨0x78, 0, 32⟩
def MBX_RSP_DROP_CNT : RF := ⟨0x7C, 0, 32⟩
def MP_DL_MISS (i : Nat) : RF := ⟨0x80 + 0x4 * i, 0, 32⟩
def MP_EXT_CTRL : RF := ⟨0xA0, 0, 32⟩
def MP_EXT_CTRL_RUN : RF := ⟨0xA0, 16, 1⟩
def MP_EXT_CTRL_BUDGET : RF := ⟨0xA0, 8, 8⟩
def MP_EXT_CTRL_EN : RF := ⟨0xA0, 0, 1⟩
def MP_EXT_GRANT0 : RF := ⟨0xA4, 0, 32⟩
def MP_EXT_GRANT1 : RF := ⟨0xA8, 0, 32⟩
def MP_EXT_FAULT_CNT : RF := ⟨0xAC, 0, 32⟩
def MBX_CMD_WIN (i : Nat) : RF := ⟨0x100 + 0x4 * i, 0, 32⟩
def MBX_RSP_WIN (i : Nat) : RF := ⟨0x140 + 0x4 * i, 0, 32⟩
def MBX_SLOT_STAT (i : Nat) : RF := ⟨0x200 + 0x4 * i, 0, 32⟩
def MBX_SLOT_STAT_OPCODE (i : Nat) : RF := ⟨0x200 + 0x4 * i, 24, 8⟩
def MBX_SLOT_STAT_SEQ (i : Nat) : RF := ⟨0x200 + 0x4 * i, 16, 8⟩
def MBX_SLOT_STAT_ORIGIN (i : Nat) : RF := ⟨0x200 + 0x4 * i, 8, 8⟩

/-! ### time (spec/11 R291) -/

def TIME_CFG : RF := ⟨0x44, 0, 32⟩
def TIME_CFG_SRC_PORT : RF := ⟨0x44, 12, 4⟩
def TIME_CFG_PPSIN_POL : RF := ⟨0x44, 2, 1⟩
def TIME_CFG_PPSIN_EN : RF := ⟨0x44, 1, 1⟩
def TIME_CFG_PPSOUT_EN : RF := ⟨0x44, 0, 1⟩
def TIME_INCR : RF := ⟨0x48, 0, 32⟩
def TIME_INCR_EXT : RF := ⟨0x4C, 0, 32⟩
def TIME_NOW_NS : RF := ⟨0x50, 0, 32⟩
def TIME_NOW_SEC : RF := ⟨0x54, 0, 32⟩
def TIME_NOW_HI : RF := ⟨0x58, 0, 32⟩
def TIME_NOW_HI_FRACT : RF := ⟨0x58, 16, 16⟩
def TIME_SET_NS : RF := ⟨0x5C, 0, 32⟩
def TIME_SET_SEC : RF := ⟨0x60, 0, 32⟩
def TIME_SET_HI : RF := ⟨0x64, 0, 32⟩
def TIME_STEP_OFS : RF := ⟨0x68, 0, 32⟩
def TIME_ADJ : RF := ⟨0x6C, 0, 32⟩
def TIME_SLEW : RF := ⟨0x70, 0, 32⟩
def TIME_SLEW_RATE : RF := ⟨0x74, 0, 32⟩
def TIME_SERVO_TMO : RF := ⟨0x78, 0, 32⟩
def TIME_PDELAY_THR : RF := ⟨0x7C, 0, 32⟩
def TIME_PDELAY_THR_PDELAY_STEP_THR : RF := ⟨0x7C, 0, 14⟩
def TIME_PATH_HOLDOFF : RF := ⟨0x80, 0, 32⟩
def TIME_PATH_HOLDOFF_PATH_HOLDOFF : RF := ⟨0x80, 0, 16⟩
def TIME_STATUS : RF := ⟨0x84, 0, 32⟩
def TIME_STATUS_PPSIN_VALID : RF := ⟨0x84, 4, 1⟩
def TIME_STATUS_INCR_LIMIT : RF := ⟨0x84, 3, 1⟩
def TIME_STATUS_SLEWING : RF := ⟨0x84, 2, 1⟩
def TIME_STATUS_HOLDOFF : RF := ⟨0x84, 1, 1⟩
def TIME_STATUS_FREERUN : RF := ⟨0x84, 0, 1⟩
def TIME_PATH_INFO : RF := ⟨0x88, 0, 32⟩
def TIME_PPS_OFS : RF := ⟨0x8C, 0, 32⟩
def TIME_PPS_WIDTH : RF := ⟨0x90, 0, 32⟩
def TIME_PPSIN_NS : RF := ⟨0x94, 0, 32⟩
def TIME_PPSIN_SEC : RF := ⟨0x98, 0, 32⟩
def TIME_PPSIN_ERR : RF := ⟨0x9C, 0, 32⟩
def TIME_ASYM (i : Nat) : RF := ⟨0xA0 + 0x4 * i, 0, 32⟩
def TIME_PDELAY (i : Nat) : RF := ⟨0xB0 + 0x4 * i, 0, 32⟩
def TIME_PHY_LAT (i : Nat) : RF := ⟨0xC0 + 0x4 * i, 0, 32⟩
def TIME_PHY_LAT_EGRESS (i : Nat) : RF := ⟨0xC0 + 0x4 * i, 16, 16⟩
def TIME_PHY_LAT_INGRESS (i : Nat) : RF := ⟨0xC0 + 0x4 * i, 0, 16⟩
def TIME_TXQ_STAT (i : Nat) : RF := ⟨0xD0 + 0x4 * i, 0, 32⟩
def TIME_TXQ_STAT_OVF (i : Nat) : RF := ⟨0xD0 + 0x4 * i, 8, 1⟩
def TIME_TXQ_STAT_LEVEL (i : Nat) : RF := ⟨0xD0 + 0x4 * i, 0, 5⟩
def TIME_TXQ_DROP_CNT (i : Nat) : RF := ⟨0xE0 + 0x4 * i, 0, 32⟩
def TIME_TXQ_W0 (i : Nat) : RF := ⟨0x100 + 0x10 * i, 0, 32⟩
def TIME_TXQ_W1 (i : Nat) : RF := ⟨0x104 + 0x10 * i, 0, 32⟩
def TIME_TXQ_W2 (i : Nat) : RF := ⟨0x108 + 0x10 * i, 0, 32⟩
def TIME_TXQ_W3 (i : Nat) : RF := ⟨0x10C + 0x10 * i, 0, 32⟩
def TIME_TXQ_PUSH0 (i : Nat) : RF := ⟨0x140 + 0x10 * i, 0, 32⟩
def TIME_TXQ_PUSH1 (i : Nat) : RF := ⟨0x144 + 0x10 * i, 0, 32⟩
def TIME_TXQ_PUSH2 (i : Nat) : RF := ⟨0x148 + 0x10 * i, 0, 32⟩
def TIME_TXQ_PUSH3 (i : Nat) : RF := ⟨0x14C + 0x10 * i, 0, 32⟩
def TIME_STEP_CNT : RF := ⟨0x180, 0, 32⟩
def TIME_FREERUN_CNT : RF := ⟨0x184, 0, 32⟩
def TIME_PATH_STEP_CNT : RF := ⟨0x188, 0, 32⟩
def TIME_HOLD_DISC_CNT : RF := ⟨0x18C, 0, 32⟩
def TIME_INCR_LIMIT_CNT : RF := ⟨0x190, 0, 32⟩
def TIME_PPSIN_GLITCH_CNT : RF := ⟨0x194, 0, 32⟩

/-! ### sched (spec/11 R294) -/

def SCHED_CFG : RF := ⟨0x44, 0, 32⟩
def SCHED_CFG_NP_LEAD : RF := ⟨0x44, 0, 8⟩
def SCHED_E_NS : RF := ⟨0x48, 0, 32⟩
def SCHED_E_SEC : RF := ⟨0x4C, 0, 32⟩
def SCHED_E_CTL : RF := ⟨0x50, 0, 32⟩
def SCHED_E_CTL_ACTION : RF := ⟨0x50, 28, 4⟩
def SCHED_E_CTL_LATE_POLICY : RF := ⟨0x50, 26, 2⟩
def SCHED_E_CTL_SEC_HI : RF := ⟨0x50, 0, 16⟩
def SCHED_E_TARGET : RF := ⟨0x54, 0, 32⟩
def SCHED_E_VALUE : RF := ⟨0x58, 0, 32⟩
def SCHED_E_WINDOW : RF := ⟨0x5C, 0, 32⟩
def SCHED_E_WINDOW_LATE_WINDOW : RF := ⟨0x5C, 0, 24⟩
def SCHED_E_PERIOD : RF := ⟨0x60, 0, 32⟩
def SCHED_ACC : RF := ⟨0x64, 0, 32⟩
def SCHED_ACC_GO_BUSY : RF := ⟨0x64, 31, 1⟩
def SCHED_ACC_OP : RF := ⟨0x64, 28, 3⟩
def SCHED_ACC_INDEX : RF := ⟨0x64, 0, 8⟩
def SCHED_E_STAT : RF := ⟨0x68, 0, 32⟩
def SCHED_E_STAT_PATH : RF := ⟨0x68, 8, 2⟩
def SCHED_E_STAT_MISSED : RF := ⟨0x68, 4, 1⟩
def SCHED_E_STAT_LATE : RF := ⟨0x68, 3, 1⟩
def SCHED_E_STAT_STATE : RF := ⟨0x68, 0, 3⟩
def SCHED_E_LATENESS : RF := ⟨0x6C, 0, 32⟩
def SCHED_NEXT : RF := ⟨0x70, 0, 32⟩
def SCHED_NEXT_VALID : RF := ⟨0x70, 8, 1⟩
def SCHED_ARMED : RF := ⟨0x74, 0, 32⟩
def SCHED_LAST : RF := ⟨0x78, 0, 32⟩
def SCHED_EXEC_CNT : RF := ⟨0x80, 0, 32⟩
def SCHED_LATE_CNT : RF := ⟨0x84, 0, 32⟩
def SCHED_MISSED_CNT : RF := ⟨0x88, 0, 32⟩
def SCHED_TERR_CNT : RF := ⟨0x8C, 0, 32⟩
def SCHED_FLAG_MAP (i : Nat) : RF := ⟨0xC0 + 0x4 * i, 0, 32⟩

/-! ### eng (spec/04 R119) -/

def ENG_CFG : RF := ⟨0x44, 0, 32⟩
def ENG_CFG_UNDERRUN_LIMIT : RF := ⟨0x44, 8, 8⟩
def ENG_CFG_BG_PATTERN : RF := ⟨0x44, 2, 2⟩
def ENG_CFG_AUTO_RELIGHT : RF := ⟨0x44, 1, 1⟩
def ENG_CFG_SYNC : RF := ⟨0x44, 0, 1⟩
def ENG_GEOM : RF := ⟨0x48, 0, 32⟩
def ENG_GEOM_HEIGHT : RF := ⟨0x48, 16, 11⟩
def ENG_GEOM_WIDTH : RF := ⟨0x48, 0, 12⟩
def ENG_FRAME_MIN : RF := ⟨0x4C, 0, 32⟩
def ENG_FRAME_MAX : RF := ⟨0x50, 0, 32⟩
def ENG_FENCE_LEAD : RF := ⟨0x54, 0, 32⟩
def ENG_FSYNC : RF := ⟨0x58, 0, 32⟩
def ENG_FSYNC_WIDTH : RF := ⟨0x58, 8, 8⟩
def ENG_FSYNC_REF : RF := ⟨0x58, 2, 1⟩
def ENG_FSYNC_POL : RF := ⟨0x58, 1, 1⟩
def ENG_FSYNC_EN : RF := ⟨0x58, 0, 1⟩
def ENG_FSYNC_OFS : RF := ⟨0x5C, 0, 32⟩
def ENG_SAFE : RF := ⟨0x60, 0, 32⟩
def ENG_SAFE_PARK : RF := ⟨0x60, 0, 2⟩
def ENG_CMD : RF := ⟨0x64, 0, 32⟩
def ENG_STATUS : RF := ⟨0x68, 0, 32⟩
def ENG_STATUS_PBA_WAIT : RF := ⟨0x68, 6, 1⟩
def ENG_STATUS_HOLD_PHASE : RF := ⟨0x68, 5, 1⟩
def ENG_STATUS_FLUX_CLAMP : RF := ⟨0x68, 4, 1⟩
def ENG_STATUS_OVERLONG : RF := ⟨0x68, 3, 1⟩
def ENG_STATUS_REPEAT : RF := ⟨0x68, 2, 1⟩
def ENG_STATUS_BLANKING : RF := ⟨0x68, 1, 1⟩
def ENG_STATUS_FRONT : RF := ⟨0x68, 0, 1⟩
def ENG_NOM_PERIOD : RF := ⟨0x6C, 0, 32⟩
def ENG_PROG_LEN : RF := ⟨0x70, 0, 32⟩
def ENG_LAST_PERIOD : RF := ⟨0x74, 0, 32⟩
def ENG_LAST_BLANK : RF := ⟨0x78, 0, 32⟩
def ENG_FLUX_RATIO : RF := ⟨0x7C, 0, 32⟩
def ENG_FSTART_NS : RF := ⟨0x80, 0, 32⟩
def ENG_FSTART_SEC : RF := ⟨0x84, 0, 32⟩
def ENG_UNDERRUN_INFO : RF := ⟨0x88, 0, 32⟩
def ENG_STATE_INFO : RF := ⟨0x8C, 0, 32⟩
def ENG_STATE_INFO_CAUSE : RF := ⟨0x8C, 8, 8⟩
def ENG_STATE_INFO_PREV : RF := ⟨0x8C, 0, 8⟩
def ENG_FRAME_CNT : RF := ⟨0x90, 0, 32⟩
def ENG_REPEAT_CNT : RF := ⟨0x94, 0, 32⟩
def ENG_LATE_CNT : RF := ⟨0x98, 0, 32⟩
def ENG_UNDERRUN_CNT : RF := ⟨0x9C, 0, 32⟩
def ENG_OVERLONG_CNT : RF := ⟨0xA0, 0, 32⟩
def ENG_FLUX_CLAMP_CNT : RF := ⟨0xA4, 0, 32⟩
def ENG_HOLD_CNT : RF := ⟨0xA8, 0, 32⟩

/-! ### grd (spec/05) -/

def GRD_CFG : RF := ⟨0x44, 0, 32⟩
def GRD_CFG_BLOCKS_M1 : RF := ⟨0x44, 8, 5⟩
def GRD_CFG_REDUCED_EN : RF := ⟨0x44, 5, 1⟩
def GRD_CFG_LEVEL_COMP : RF := ⟨0x44, 4, 1⟩
def GRD_CFG_TRANSIT : RF := ⟨0x44, 3, 1⟩
def GRD_CFG_DITHER : RF := ⟨0x44, 0, 2⟩
def GRD_GAIN : RF := ⟨0x48, 0, 32⟩
def GRD_GAIN_Q3 : RF := ⟨0x48, 0, 19⟩
def GRD_GUARD : RF := ⟨0x4C, 0, 32⟩
def GRD_LOAD_MARGIN : RF := ⟨0x50, 0, 32⟩
def GRD_PRG0_CTRL : RF := ⟨0x54, 0, 32⟩
def GRD_PRG0_CTRL_COUNT : RF := ⟨0x54, 0, 6⟩
def GRD_PRG0_PNOM : RF := ⟨0x58, 0, 32⟩
def GRD_PRG1_CTRL : RF := ⟨0x5C, 0, 32⟩
def GRD_PRG1_CTRL_COUNT : RF := ⟨0x5C, 0, 6⟩
def GRD_PRG1_PNOM : RF := ⟨0x60, 0, 32⟩
def GRD_LVL_RATIO0 : RF := ⟨0x64, 0, 32⟩
def GRD_LVL_RATIO1 (i : Nat) : RF := ⟨0x68 + 0x4 * i, 0, 32⟩
def GRD_STATUS : RF := ⟨0x74, 0, 32⟩
def GRD_STATUS_COUNT : RF := ⟨0x74, 8, 6⟩
def GRD_STATUS_SLOTS : RF := ⟨0x74, 4, 3⟩
def GRD_STATUS_RAMP : RF := ⟨0x74, 3, 1⟩
def GRD_STATUS_REDUCED : RF := ⟨0x74, 2, 1⟩
def GRD_STATUS_SAFE8 : RF := ⟨0x74, 1, 1⟩
def GRD_STATUS_PRG : RF := ⟨0x74, 0, 1⟩
def GRD_TSET : RF := ⟨0x78, 0, 32⟩
def GRD_MIN_SLACK : RF := ⟨0x7C, 0, 32⟩
def GRD_VAL_INFO : RF := ⟨0x80, 0, 32⟩
def GRD_RAMP_CNT : RF := ⟨0x84, 0, 32⟩
def GRD_LVL_LIMIT_CNT : RF := ⟨0x88, 0, 32⟩
def GRD_STRETCH_CNT : RF := ⟨0x8C, 0, 32⟩
def GRD_PRG0_A (i : Nat) : RF := ⟨0x100 + 0x8 * i, 0, 32⟩
def GRD_PRG0_B (i : Nat) : RF := ⟨0x104 + 0x8 * i, 0, 32⟩
def GRD_PRG1_A (i : Nat) : RF := ⟨0x200 + 0x8 * i, 0, 32⟩
def GRD_PRG1_B (i : Nat) : RF := ⟨0x204 + 0x8 * i, 0, 32⟩
def GRD_BLK_TS (i : Nat) : RF := ⟨0x300 + 0x8 * i, 0, 32⟩
def GRD_BLK_E (i : Nat) : RF := ⟨0x304 + 0x8 * i, 0, 32⟩
def GRD_BLK_TS_TGT (i : Nat) : RF := ⟨0x400 + 0x8 * i, 0, 32⟩
def GRD_BLK_E_TGT (i : Nat) : RF := ⟨0x404 + 0x8 * i, 0, 32⟩

/-! ### ltn (spec/06) -/

def LTN_CFG : RF := ⟨0x44, 0, 32⟩
def LTN_CFG_LOOP_EN : RF := ⟨0x44, 1, 1⟩
def LTN_CFG_FLUX_HOLD : RF := ⟨0x44, 0, 1⟩
def LTN_LVL_CODE (i : Nat) : RF := ⟨0x48 + 0x4 * i, 0, 32⟩
def LTN_FLUX_TGT : RF := ⟨0x58, 0, 32⟩
def LTN_LOOP : RF := ⟨0x5C, 0, 32⟩
def LTN_LOOP_MAXSTEP : RF := ⟨0x5C, 8, 8⟩
def LTN_LOOP_KI : RF := ⟨0x5C, 0, 4⟩
def LTN_WIN_MAX : RF := ⟨0x60, 0, 32⟩
def LTN_OP : RF := ⟨0x64, 0, 32⟩
def LTN_OP_COUNT : RF := ⟨0x64, 16, 4⟩
def LTN_OP_THR : RF := ⟨0x64, 0, 16⟩
def LTN_FALLBACK : RF := ⟨0x68, 0, 32⟩
def LTN_FALLBACK_MODE : RF := ⟨0x68, 16, 1⟩
def LTN_FALLBACK_LEVEL : RF := ⟨0x68, 0, 12⟩
def LTN_FALLBACK_TGT : RF := ⟨0x6C, 0, 32⟩
def LTN_LEGAL_FLOOR : RF := ⟨0x70, 0, 32⟩
def LTN_LSEL_TIME : RF := ⟨0x74, 0, 32⟩
def LTN_LSEL_TIME_HOLD : RF := ⟨0x74, 16, 9⟩
def LTN_LSEL_TIME_SETUP : RF := ⟨0x74, 0, 10⟩
def LTN_PATH_RET : RF := ⟨0x78, 0, 32⟩
def LTN_PATH_OPT : RF := ⟨0x7C, 0, 32⟩
def LTN_PATH_OPT_CLOSE : RF := ⟨0x7C, 16, 12⟩
def LTN_PATH_OPT_OPEN : RF := ⟨0x7C, 0, 12⟩
def LTN_DOUT_OPEN : RF := ⟨0x80, 0, 32⟩
def LTN_DOUT_CLOSE : RF := ⟨0x84, 0, 32⟩
def LTN_MEAS : RF := ⟨0x88, 0, 32⟩
def LTN_MEAS_MIN_WIN : RF := ⟨0x88, 0, 16⟩
def LTN_MEAS_RATIO1 (i : Nat) : RF := ⟨0x8C + 0x4 * i, 0, 32⟩
def LTN_DARK : RF := ⟨0x98, 0, 32⟩
def LTN_FLUX_LAST : RF := ⟨0x9C, 0, 32⟩
def LTN_LOOP_GAIN : RF := ⟨0xA0, 0, 32⟩
def LTN_SCALE : RF := ⟨0xA4, 0, 32⟩
def LTN_SCALE_LAMBDA : RF := ⟨0xA4, 16, 16⟩
def LTN_SCALE_S : RF := ⟨0xA4, 0, 16⟩
def LTN_LIMIT_IN : RF := ⟨0xA8, 0, 32⟩
def LTN_ILK_STAT : RF := ⟨0xAC, 0, 32⟩
def LTN_ILK_STAT_PIN_MISMATCH : RF := ⟨0xAC, 10, 1⟩
def LTN_ILK_STAT_PIN : RF := ⟨0xAC, 9, 1⟩
def LTN_ILK_STAT_CAUSE_PRESENT : RF := ⟨0xAC, 8, 1⟩
def LTN_ILK_STAT_CAUSE : RF := ⟨0xAC, 4, 4⟩
def LTN_ILK_STAT_TRIPPED : RF := ⟨0xAC, 0, 1⟩
def LTN_ILK_CMD : RF := ⟨0xB0, 0, 32⟩
def LTN_ILK_TIME_NS : RF := ⟨0xB4, 0, 32⟩
def LTN_ILK_TIME_SEC : RF := ⟨0xB8, 0, 32⟩
def LTN_ADC : RF := ⟨0xBC, 0, 32⟩
def LTN_ADC_SPARED : RF := ⟨0xBC, 8, 1⟩
def LTN_ADC_IN_USE : RF := ⟨0xBC, 0, 1⟩
def LTN_TRIP_CNT : RF := ⟨0xC0, 0, 32⟩
def LTN_SETPT_MISS_CNT : RF := ⟨0xC4, 0, 32⟩
def LTN_LEVEL_SAT_CNT : RF := ⟨0xC8, 0, 32⟩
def LTN_LOOP_SAT_CNT : RF := ⟨0xCC, 0, 32⟩
def LTN_LSEL_TIGHT_CNT : RF := ⟨0xD0, 0, 32⟩
def LTN_STATUS : RF := ⟨0xD4, 0, 32⟩
def LTN_STATUS_RATIO_STALE : RF := ⟨0xD4, 8, 4⟩
def LTN_STATUS_DRAMP : RF := ⟨0xD4, 7, 1⟩
def LTN_STATUS_FLOOR_ACT : RF := ⟨0xD4, 6, 1⟩
def LTN_STATUS_LOOP_SAT : RF := ⟨0xD4, 5, 1⟩
def LTN_STATUS_FLUX_HOLD_ACT : RF := ⟨0xD4, 4, 1⟩
def LTN_STATUS_LSEL : RF := ⟨0xD4, 2, 2⟩
def LTN_STATUS_ECHO : RF := ⟨0xD4, 1, 1⟩
def LTN_STATUS_WIN : RF := ⟨0xD4, 0, 1⟩
def LTN_DRV_FAULT_CNT : RF := ⟨0xD8, 0, 32⟩

/-! ### scn (spec/08 R218) -/

def SCN_CFG : RF := ⟨0x44, 0, 32⟩
def SCN_CFG_UNDERRUN_LIMIT : RF := ⟨0x44, 8, 8⟩
def SCN_CFG_PTT : RF := ⟨0x44, 5, 1⟩
def SCN_CFG_LINE0_DIR : RF := ⟨0x44, 4, 1⟩
def SCN_CFG_SLOW_MODE : RF := ⟨0x44, 3, 1⟩
def SCN_CFG_AUTO_RELIGHT : RF := ⟨0x44, 1, 1⟩
def SCN_GEOM : RF := ⟨0x48, 0, 32⟩
def SCN_GEOM_PIXELS : RF := ⟨0x48, 0, 11⟩
def SCN_GEOM_LINES : RF := ⟨0x48, 16, 10⟩
def SCN_FLYBACK : RF := ⟨0x4C, 0, 32⟩
def SCN_FLYBACK_FB_LINES : RF := ⟨0x4C, 0, 7⟩
def SCN_FAST_FREQ : RF := ⟨0x50, 0, 32⟩
def SCN_FAST_FREQ_FMAX : RF := ⟨0x50, 16, 16⟩
def SCN_FAST_FREQ_FMIN : RF := ⟨0x50, 0, 16⟩
def SCN_FAST_AMP : RF := ⟨0x54, 0, 32⟩
def SCN_FAST_AMP_LOW_PCT : RF := ⟨0x54, 24, 8⟩
def SCN_FAST_AMP_TARGET : RF := ⟨0x54, 0, 16⟩
def SCN_FAST_PHASE : RF := ⟨0x58, 0, 32⟩
def SCN_LOOP : RF := ⟨0x5C, 0, 32⟩
def SCN_LOOP_DRV_MAX : RF := ⟨0x5C, 16, 16⟩
def SCN_LOOP_PH_KI : RF := ⟨0x5C, 8, 4⟩
def SCN_LOOP_AMP_KI : RF := ⟨0x5C, 0, 4⟩
def SCN_PHASE_OFS : RF := ⟨0x60, 0, 32⟩
def SCN_PHASE_OFS_RET : RF := ⟨0x60, 16, 16⟩
def SCN_PHASE_OFS_FWD : RF := ⟨0x60, 0, 16⟩
def SCN_SLOW_RANGE : RF := ⟨0x64, 0, 32⟩
def SCN_SLOW_RANGE_BOT : RF := ⟨0x64, 16, 16⟩
def SCN_SLOW_RANGE_TOP : RF := ⟨0x64, 0, 16⟩
def SCN_SLOW_PARK : RF := ⟨0x68, 0, 32⟩
def SCN_SLOW_PARK_DAC : RF := ⟨0x68, 0, 16⟩
def SCN_SLOW_TOL : RF := ⟨0x6C, 0, 32⟩
def SCN_SLOW_TOL_COUNT : RF := ⟨0x6C, 16, 4⟩
def SCN_SLOW_TOL_TOL : RF := ⟨0x6C, 0, 16⟩
def SCN_BG : RF := ⟨0x70, 0, 32⟩
def SCN_FENCE_LEAD : RF := ⟨0x74, 0, 32⟩
def SCN_CMD : RF := ⟨0x78, 0, 32⟩
def SCN_PTT_IDX : RF := ⟨0x7C, 0, 32⟩
def SCN_PTT_IDX_TABLE : RF := ⟨0x7C, 16, 1⟩
def SCN_PTT_IDX_INDEX : RF := ⟨0x7C, 0, 11⟩
def SCN_PTT_DATA : RF := ⟨0x80, 0, 32⟩
def SCN_PNOM : RF := ⟨0x84, 0, 32⟩
def SCN_FAST_MEAS : RF := ⟨0x88, 0, 32⟩
def SCN_FAST_AMP_MEAS : RF := ⟨0x8C, 0, 32⟩
def SCN_MIN_SLOT : RF := ⟨0x90, 0, 32⟩
def SCN_FSTART_NS : RF := ⟨0x94, 0, 32⟩
def SCN_FSTART_SEC : RF := ⟨0x98, 0, 32⟩
def SCN_UNDERRUN_INFO : RF := ⟨0x9C, 0, 32⟩
def SCN_STATE_INFO : RF := ⟨0xA0, 0, 32⟩
def SCN_STATE_INFO_CAUSE : RF := ⟨0xA0, 8, 8⟩
def SCN_STATE_INFO_PREV : RF := ⟨0xA0, 0, 8⟩
def SCN_STATUS : RF := ⟨0xA4, 0, 32⟩
def SCN_STATUS_PBA_WAIT : RF := ⟨0xA4, 8, 1⟩
def SCN_STATUS_HOLD_PHASE : RF := ⟨0xA4, 7, 1⟩
def SCN_STATUS_MON_ARMED : RF := ⟨0xA4, 6, 1⟩
def SCN_STATUS_FREQ_LIMIT : RF := ⟨0xA4, 5, 1⟩
def SCN_STATUS_LOCKED : RF := ⟨0xA4, 4, 1⟩
def SCN_STATUS_FLYBACK : RF := ⟨0xA4, 3, 1⟩
def SCN_STATUS_REPEAT : RF := ⟨0xA4, 2, 1⟩
def SCN_STATUS_PTT : RF := ⟨0xA4, 1, 1⟩
def SCN_STATUS_FRONT : RF := ⟨0xA4, 0, 1⟩
def SCN_FRAME_CNT : RF := ⟨0xB0, 0, 32⟩
def SCN_REPEAT_CNT : RF := ⟨0xB4, 0, 32⟩
def SCN_LATE_CNT : RF := ⟨0xB8, 0, 32⟩
def SCN_UNDERRUN_CNT : RF := ⟨0xBC, 0, 32⟩
def SCN_AMP_LOSS_CNT : RF := ⟨0xC0, 0, 32⟩

/-! ### sxl (spec/07) -/

def SXL_CFG : RF := ⟨0x44, 0, 32⟩
def SXL_CFG_PROBE_EN : RF := ⟨0x44, 9, 1⟩
def SXL_CFG_AUTO_STEP : RF := ⟨0x44, 8, 1⟩
def SXL_CFG_RATE_MAX : RF := ⟨0x44, 4, 2⟩
def SXL_CFG_GROUP_EN : RF := ⟨0x44, 0, 4⟩
def SXL_EYE : RF := ⟨0x48, 0, 32⟩
def SXL_EYE_DEGRADE : RF := ⟨0x48, 16, 10⟩
def SXL_EYE_MIN : RF := ⟨0x48, 0, 10⟩
def SXL_CRC_LIMIT : RF := ⟨0x4C, 0, 32⟩
def SXL_CRC_LIMIT_CRC : RF := ⟨0x4C, 0, 16⟩
def SXL_RETRY : RF := ⟨0x50, 0, 32⟩
def SXL_RETRY_PROBE_MS : RF := ⟨0x50, 16, 16⟩
def SXL_RETRY_RETRAIN_RETRY_MS : RF := ⟨0x50, 0, 16⟩
def SXL_ID_EXPECT : RF := ⟨0x54, 0, 32⟩
def SXL_ECHO_RET : RF := ⟨0x58, 0, 32⟩
def SXL_LAT_COMP : RF := ⟨0x5C, 0, 32⟩
def SXL_LAT_RES : RF := ⟨0x60, 0, 32⟩
def SXL_PARK_LOAD : RF := ⟨0x64, 0, 32⟩
def SXL_PARK_LOAD_GO : RF := ⟨0x64, 0, 1⟩
def SXL_PARK_LOAD_PATTERN : RF := ⟨0x64, 1, 2⟩
def SXL_PARK_LOAD_BUF : RF := ⟨0x64, 3, 1⟩
def SXL_PARK_LOAD_BIT : RF := ⟨0x64, 4, 5⟩
def SXL_STATUS : RF := ⟨0x68, 0, 32⟩
def SXL_STATUS_ID_OK : RF := ⟨0x68, 15, 1⟩
def SXL_STATUS_STEPPED : RF := ⟨0x68, 14, 1⟩
def SXL_STATUS_PROBING : RF := ⟨0x68, 13, 1⟩
def SXL_STATUS_PARK_CONFIRMED : RF := ⟨0x68, 12, 1⟩
def SXL_STATUS_PARK_ACTIVE : RF := ⟨0x68, 10, 2⟩
def SXL_STATUS_PARK_ON : RF := ⟨0x68, 9, 1⟩
def SXL_STATUS_SB_OK : RF := ⟨0x68, 8, 1⟩
def SXL_STATUS_LINK_UP : RF := ⟨0x68, 7, 1⟩
def SXL_STATUS_RATE_IN_USE : RF := ⟨0x68, 4, 2⟩
def SXL_STATUS_GROUPS_IN_USE : RF := ⟨0x68, 0, 4⟩
def SXL_ARRAY_ID : RF := ⟨0x6C, 0, 32⟩
def SXL_ARRAY_ID_VENDOR : RF := ⟨0x6C, 16, 16⟩
def SXL_ARRAY_ID_MODEL : RF := ⟨0x6C, 0, 16⟩
def SXL_ARRAY_GEOM : RF := ⟨0x70, 0, 32⟩
def SXL_ARRAY_GEOM_WIDTH : RF := ⟨0x70, 0, 12⟩
def SXL_ARRAY_GEOM_HEIGHT : RF := ⟨0x70, 16, 11⟩
def SXL_ARRAY_CAP : RF := ⟨0x74, 0, 32⟩
def SXL_ARRAY_CAP_CAP : RF := ⟨0x74, 0, 16⟩
def SXL_ARRAY_CAP_GROUPS : RF := ⟨0x74, 16, 4⟩
def SXL_ARRAY_TEMP : RF := ⟨0x78, 0, 32⟩
def SXL_ARRAY_TEMP_TEMP : RF := ⟨0x78, 0, 16⟩
def SXL_EYE_WORST : RF := ⟨0x7C, 0, 32⟩
def SXL_EYE_LANE (i : Nat) : RF := ⟨0x80 + 0x4 * i, 0, 32⟩
def SXL_CRC_CNT : RF := ⟨0xA0, 0, 32⟩
def SXL_LOSS_CNT : RF := ⟨0xA4, 0, 32⟩
def SXL_STEP_CNT : RF := ⟨0xA8, 0, 32⟩
def SXL_TRAIN_CNT : RF := ⟨0xAC, 0, 32⟩
def SXL_SB_ERR_CNT : RF := ⟨0xB0, 0, 32⟩
def SXL_LATE_CMD_CNT : RF := ⟨0xB4, 0, 32⟩
def SXL_TRAIN_TIME : RF := ⟨0xB8, 0, 32⟩
def SXL_LOSS_INFO : RF := ⟨0xBC, 0, 32⟩
def SXL_LAT_RATE (i : Nat) : RF := ⟨0xC0 + 0x4 * i, 0, 32⟩

/-! ### comp0 (spec/03 R90) -/

def COMP_CFG : RF := ⟨0x44, 0, 32⟩
def COMP_CFG_TRIG_MODE : RF := ⟨0x44, 0, 2⟩
def COMP_TRIG_TIMEOUT : RF := ⟨0x48, 0, 32⟩
def COMP_CANVAS : RF := ⟨0x4C, 0, 32⟩
def COMP_CANVAS_HEIGHT : RF := ⟨0x4C, 16, 12⟩
def COMP_CANVAS_WIDTH : RF := ⟨0x4C, 0, 14⟩
def COMP_LAYER_EN : RF := ⟨0x50, 0, 32⟩
def COMP_LAYER_EN_L3 : RF := ⟨0x50, 3, 1⟩
def COMP_LAYER_EN_CREMA : RF := ⟨0x50, 2, 1⟩
def COMP_LAYER_EN_SIGNAL : RF := ⟨0x50, 1, 1⟩
def COMP_LAYER_EN_BASE : RF := ⟨0x50, 0, 1⟩
def COMP_SAFETY : RF := ⟨0x54, 0, 32⟩
def COMP_SAFETY_CREMA_REQUIRED : RF := ⟨0x54, 1, 1⟩
def COMP_SAFETY_L3_REQUIRED : RF := ⟨0x54, 0, 1⟩
def COMP_STATUS : RF := ⟨0x58, 0, 32⟩
def COMP_STATUS_SCN_READY : RF := ⟨0x58, 12, 2⟩
def COMP_STATUS_ENG_READY : RF := ⟨0x58, 8, 4⟩
def COMP_STATUS_MASK_STALE : RF := ⟨0x58, 2, 1⟩
def COMP_STATUS_MOTION_STALE : RF := ⟨0x58, 1, 1⟩
def COMP_STATUS_THROTTLED : RF := ⟨0x58, 0, 1⟩
def COMP_LAST_DUR : RF := ⟨0x5C, 0, 32⟩
def COMP_CNT : RF := ⟨0x60, 0, 32⟩
def COMP_SAT_CNT : RF := ⟨0x64, 0, 32⟩
def COMP_L3_CONFLICT_CNT : RF := ⟨0x68, 0, 32⟩
def COMP_MOTION_STALE_CNT : RF := ⟨0x6C, 0, 32⟩
def COMP_MASK_STALE_CNT : RF := ⟨0x70, 0, 32⟩
def MOT_YAW : RF := ⟨0x80, 0, 32⟩
def MOT_PITCH : RF := ⟨0x84, 0, 32⟩
def MOT_SPEED : RF := ⟨0x88, 0, 32⟩
def MOT_STAMP_SEC : RF := ⟨0x8C, 0, 32⟩
def MOT_STAMP_NS : RF := ⟨0x90, 0, 32⟩
def PTW_CFG : RF := ⟨0xA0, 0, 32⟩
def PTW_CFG_EXPAND_EN : RF := ⟨0xA0, 1, 1⟩
def PTW_CFG_EN : RF := ⟨0xA0, 0, 1⟩
def PTW_MAX_HORIZON : RF := ⟨0xA4, 0, 32⟩
def PTW_LIMITS : RF := ⟨0xA8, 0, 32⟩
def PTW_LIMITS_MAX_EXPAND : RF := ⟨0xA8, 16, 8⟩
def PTW_LIMITS_MAX_SHIFT : RF := ⟨0xA8, 0, 8⟩
def PTW_FOE : RF := ⟨0xAC, 0, 32⟩
def PTW_FOE_Y : RF := ⟨0xAC, 16, 11⟩
def PTW_FOE_X : RF := ⟨0xAC, 0, 13⟩
def CANVAS_RES_X : RF := ⟨0xB0, 0, 32⟩
def CANVAS_RES_Y : RF := ⟨0xB4, 0, 32⟩
def PTW_LAST_DX : RF := ⟨0xB8, 0, 32⟩
def PTW_LAST_DY : RF := ⟨0xBC, 0, 32⟩
def PTW_LAST_HORIZON : RF := ⟨0xC0, 0, 32⟩
def PTW_CLIP_CNT : RF := ⟨0xC4, 0, 32⟩
def STITCH_CFG : RF := ⟨0xD0, 0, 32⟩
def STITCH_CFG_PROFILE : RF := ⟨0xD0, 1, 1⟩
def STITCH_CFG_EN : RF := ⟨0xD0, 0, 1⟩
def STITCH_ENG (i : Nat) : RF := ⟨0xD4 + 0x4 * i, 0, 32⟩
def STITCH_ENG_BOTTOM (i : Nat) : RF := ⟨0xD4 + 0x4 * i, 24, 8⟩
def STITCH_ENG_TOP (i : Nat) : RF := ⟨0xD4 + 0x4 * i, 16, 8⟩
def STITCH_ENG_RIGHT (i : Nat) : RF := ⟨0xD4 + 0x4 * i, 8, 8⟩
def STITCH_ENG_LEFT (i : Nat) : RF := ⟨0xD4 + 0x4 * i, 0, 8⟩

/-! ### compE (spec/03 R91) -/

def CE_CFG : RF := ⟨0x44, 0, 32⟩
def CE_CFG_UNIF_FADE : RF := ⟨0x44, 16, 8⟩
def CE_CFG_UNIF_EN : RF := ⟨0x44, 8, 1⟩
def CE_CFG_CLONE_SRC : RF := ⟨0x44, 4, 2⟩
def CE_CFG_CLONE : RF := ⟨0x44, 1, 1⟩
def CE_CFG_EN : RF := ⟨0x44, 0, 1⟩
def CE_WIN_ORG : RF := ⟨0x48, 0, 32⟩
def CE_WIN_SIZE : RF := ⟨0x4C, 0, 32⟩
def CE_BASE_ADDR : RF := ⟨0x50, 0, 32⟩
def CE_BASE_STRIDE : RF := ⟨0x54, 0, 32⟩
def CE_MESH_ADDR : RF := ⟨0x58, 0, 32⟩
def CE_UNIF_ADDR : RF := ⟨0x5C, 0, 32⟩
def CE_WARP_SLIP_CNT : RF := ⟨0x60, 0, 32⟩
def CE_DONE : RF := ⟨0x64, 0, 32⟩
def CE_UNIF_FADE_POS : RF := ⟨0x68, 0, 32⟩

/-! ### comp5 (spec/03 R92) -/

def CS_CFG (i : Nat) : RF := ⟨0x44 + 0x40 * i, 0, 32⟩
def CS_CFG_EN (i : Nat) : RF := ⟨0x44 + 0x40 * i, 0, 1⟩
def CS_WIN_ORG (i : Nat) : RF := ⟨0x48 + 0x40 * i, 0, 32⟩
def CS_WIN_SIZE (i : Nat) : RF := ⟨0x4C + 0x40 * i, 0, 32⟩
def CS_BASE_ADDR (i : Nat) : RF := ⟨0x50 + 0x40 * i, 0, 32⟩
def CS_BASE_STRIDE (i : Nat) : RF := ⟨0x54 + 0x40 * i, 0, 32⟩
def CS_MESH_ADDR (i : Nat) : RF := ⟨0x58 + 0x40 * i, 0, 32⟩
def CS_SKIP_CNT (i : Nat) : RF := ⟨0x5C + 0x40 * i, 0, 32⟩

/-! ### comp6 (spec/03 R93) -/

def SIGNAL_ADDR : RF := ⟨0x44, 0, 32⟩
def SIGNAL_STRIDE : RF := ⟨0x48, 0, 32⟩
def L3_ADDR : RF := ⟨0x4C, 0, 32⟩
def L3_STRIDE : RF := ⟨0x50, 0, 32⟩
def L3_CFG : RF := ⟨0x54, 0, 32⟩
def L3_CFG_SCALE : RF := ⟨0x54, 0, 2⟩
def CREMA_ORG : RF := ⟨0x58, 0, 32⟩
def CREMA_SCALE : RF := ⟨0x5C, 0, 32⟩
def CREMA_OUTSIDE : RF := ⟨0x60, 0, 32⟩
def CREMA_STALE : RF := ⟨0x64, 0, 32⟩
def CREMA_STALE_MAX_AGE : RF := ⟨0x64, 16, 16⟩
def CREMA_STALE_FILL : RF := ⟨0x64, 8, 8⟩
def CREMA_STALE_MODE : RF := ⟨0x64, 0, 1⟩

/-! ### comp7 (spec/03 R94) -/

def IMS_CFG : RF := ⟨0x44, 0, 32⟩
def IMS_CFG_PORT_EN : RF := ⟨0x44, 4, 4⟩
def IMS_CFG_EN : RF := ⟨0x44, 0, 1⟩
def IMS_MASK_BASE : RF := ⟨0x48, 0, 32⟩
def IMS_ASSEMBLY_TIMEOUT : RF := ⟨0x4C, 0, 32⟩
def MASK_SLOT_STAT (i : Nat) : RF := ⟨0x50 + 0x4 * i, 0, 32⟩
def MASK_SLOT_STAT_MASK_ID (i : Nat) : RF := ⟨0x50 + 0x4 * i, 16, 16⟩
def MASK_SLOT_STAT_MODE (i : Nat) : RF := ⟨0x50 + 0x4 * i, 2, 1⟩
def MASK_SLOT_STAT_STATE (i : Nat) : RF := ⟨0x50 + 0x4 * i, 0, 2⟩
def MASK_SLOT_CAP (i : Nat) : RF := ⟨0x70 + 0x4 * i, 0, 32⟩
def MASK_COMPLETE_CNT : RF := ⟨0x80, 0, 32⟩
def MASK_SUPERSEDED_CNT : RF := ⟨0x84, 0, 32⟩
def MASK_LEN_CNT : RF := ⟨0x88, 0, 32⟩
def MASK_PARAM_CNT : RF := ⟨0x8C, 0, 32⟩
def MASK_DROP_CNT : RF := ⟨0x90, 0, 32⟩
def MASK_ORDER_CNT : RF := ⟨0x94, 0, 32⟩
def MASK_TIMEOUT_CNT : RF := ⟨0x98, 0, 32⟩
def SEG_DUP_CNT : RF := ⟨0x9C, 0, 32⟩
def TILE_DUP_CNT : RF := ⟨0xA0, 0, 32⟩

/-! ### dmc0 (spec/12 R317) -/

def DMC_CFG : RF := ⟨0x44, 0, 32⟩
def DMC_CFG_LECC : RF := ⟨0x44, 11, 1⟩
def DMC_CFG_ILV : RF := ⟨0x44, 10, 1⟩
def DMC_CFG_MAP : RF := ⟨0x44, 8, 2⟩
def DMC_CFG_DENSITY : RF := ⟨0x44, 7, 1⟩
def DMC_CFG_RANKS2 : RF := ⟨0x44, 6, 1⟩
def DMC_CFG_CH_SET : RF := ⟨0x44, 5, 1⟩
def DMC_CFG_HALF : RF := ⟨0x44, 4, 1⟩
def DMC_CFG_RATE : RF := ⟨0x44, 0, 2⟩
def DMC_SIZE : RF := ⟨0x48, 0, 32⟩
def DMC_APER_BASE : RF := ⟨0x4C, 0, 32⟩
def DMC_CMD : RF := ⟨0x50, 0, 32⟩
def DMC_PD_IDLE : RF := ⟨0x54, 0, 32⟩
def DMC_RETRAIN : RF := ⟨0x58, 0, 32⟩
def DMC_TEMP_MS : RF := ⟨0x5C, 0, 32⟩
def DMC_TEMP_SRC : RF := ⟨0x60, 0, 32⟩
def DMC_TEMP_SRC_EN : RF := ⟨0x60, 3, 1⟩
def DMC_EYE_MIN : RF := ⟨0x64, 0, 32⟩
def DMC_TRAIN_TIME : RF := ⟨0x68, 0, 32⟩
def DMC_FAULT_DROP_CNT : RF := ⟨0x6C, 0, 32⟩

/-! ### dmc1 (spec/12 R318) -/

def DMC_P_TARGET (i : Nat) : RF := ⟨0x100 + 0x20 * i, 0, 32⟩
def DMC_P_STATUS (i : Nat) : RF := ⟨0x104 + 0x20 * i, 0, 32⟩
def DMC_P_MAXLAT (i : Nat) : RF := ⟨0x108 + 0x20 * i, 0, 32⟩
def DMC_P_OVER_CNT (i : Nat) : RF := ⟨0x10C + 0x20 * i, 0, 32⟩
def DMC_P_RD_CNT (i : Nat) : RF := ⟨0x110 + 0x20 * i, 0, 32⟩
def DMC_P_WR_CNT (i : Nat) : RF := ⟨0x114 + 0x20 * i, 0, 32⟩

/-! ### dmc2 (spec/12 R319) -/

def DMC_CH_STAT (i : Nat) : RF := ⟨0x100 + 0x20 * i, 0, 32⟩
def DMC_CH_STAT_PD (i : Nat) : RF := ⟨0x100 + 0x20 * i, 24, 2⟩
def DMC_CH_STAT_DRAIN (i : Nat) : RF := ⟨0x100 + 0x20 * i, 23, 1⟩
def DMC_CH_STAT_WQ (i : Nat) : RF := ⟨0x100 + 0x20 * i, 16, 7⟩
def DMC_CH_STAT_DEBT1 (i : Nat) : RF := ⟨0x100 + 0x20 * i, 12, 4⟩
def DMC_CH_STAT_DEBT0 (i : Nat) : RF := ⟨0x100 + 0x20 * i, 8, 4⟩
def DMC_CH_STAT_BAND (i : Nat) : RF := ⟨0x100 + 0x20 * i, 4, 2⟩
def DMC_CH_STAT_STATE (i : Nat) : RF := ⟨0x100 + 0x20 * i, 0, 3⟩
def DMC_CH_MARGIN (i : Nat) : RF := ⟨0x104 + 0x20 * i, 0, 32⟩
def DMC_CH_DRIFT (i : Nat) : RF := ⟨0x108 + 0x20 * i, 0, 32⟩
def DMC_CH_TEMP (i : Nat) : RF := ⟨0x10C + 0x20 * i, 0, 32⟩
def DMC_CH_FORCED_REF_CNT (i : Nat) : RF := ⟨0x110 + 0x20 * i, 0, 32⟩
def DMC_CH_DRAIN_CNT (i : Nat) : RF := ⟨0x114 + 0x20 * i, 0, 32⟩
def DMC_CH_LECC_CE_CNT (i : Nat) : RF := ⟨0x118 + 0x20 * i, 0, 32⟩
def DMC_CH_LECC_UE_CNT (i : Nat) : RF := ⟨0x11C + 0x20 * i, 0, 32⟩

/-! ### dmc3 (spec/12 R320) -/

def DMC_RH_CFG : RF := ⟨0x44, 0, 32⟩
def DMC_RH_CFG_THROTTLE_NS : RF := ⟨0x44, 16, 14⟩
def DMC_RH_CFG_THRESHOLD : RF := ⟨0x44, 0, 16⟩
def DMC_RH_INFO : RF := ⟨0x48, 0, 32⟩
def DMC_RH_FLAG : RF := ⟨0x4C, 0, 32⟩
def DMC_RH_CNT : RF := ⟨0x50, 0, 32⟩

/-! ### np (spec/09 R247) -/

def NP_GRP_CFG : RF := ⟨0x44, 0, 32⟩
def NP_GRP_CFG_DIAG_UNCOV_LIMIT : RF := ⟨0x44, 0, 8⟩
def NP_LIMIT_IN : RF := ⟨0x48, 0, 32⟩
def NP_GRP_STATUS : RF := ⟨0x4C, 0, 32⟩
def NP_GRP_STATUS_PBA_WAIT : RF := ⟨0x4C, 16, 8⟩
def NP_GRP_STATUS_CHAIN_OPEN : RF := ⟨0x4C, 8, 8⟩
def NP_GRP_STATUS_RUN : RF := ⟨0x4C, 0, 8⟩
def NP_CFG (i : Nat) : RF := ⟨0x100 + 0x80 * i, 0, 32⟩
def NP_CFG_LATCH_MODE (i : Nat) : RF := ⟨0x100 + 0x80 * i, 24, 1⟩
def NP_CFG_NODES (i : Nat) : RF := ⟨0x100 + 0x80 * i, 16, 7⟩
def NP_CFG_CH_M1 (i : Nat) : RF := ⟨0x100 + 0x80 * i, 8, 5⟩
def NP_CFG_DIAG_EN (i : Nat) : RF := ⟨0x100 + 0x80 * i, 7, 1⟩
def NP_CFG_TCOMP_EN (i : Nat) : RF := ⟨0x100 + 0x80 * i, 6, 1⟩
def NP_CFG_CURVE (i : Nat) : RF := ⟨0x100 + 0x80 * i, 4, 2⟩
def NP_CFG_RATE (i : Nat) : RF := ⟨0x100 + 0x80 * i, 1, 2⟩
def NP_CFG_EN (i : Nat) : RF := ⟨0x100 + 0x80 * i, 0, 1⟩
def NP_IMG_ADDR (i : Nat) : RF := ⟨0x104 + 0x80 * i, 0, 32⟩
def NP_STAT_ADDR (i : Nat) : RF := ⟨0x108 + 0x80 * i, 0, 32⟩
def NP_TIMING (i : Nat) : RF := ⟨0x10C + 0x80 * i, 0, 32⟩
def NP_TIMING_GAP (i : Nat) : RF := ⟨0x10C + 0x80 * i, 16, 8⟩
def NP_TIMING_REFRESH (i : Nat) : RF := ⟨0x10C + 0x80 * i, 0, 16⟩
def NP_FADE (i : Nat) : RF := ⟨0x110 + 0x80 * i, 0, 32⟩
def NP_CLASS0 (i : Nat) : RF := ⟨0x114 + 0x80 * i, 0, 32⟩
def NP_CLASS1 (i : Nat) : RF := ⟨0x118 + 0x80 * i, 0, 32⟩
def NP_CLASS2 (i : Nat) : RF := ⟨0x11C + 0x80 * i, 0, 32⟩
def NP_CLASS3 (i : Nat) : RF := ⟨0x120 + 0x80 * i, 0, 32⟩
def NP_LEGAL_FLOOR (i : Nat) : RF := ⟨0x124 + 0x80 * i, 0, 32⟩
def NP_CMD (i : Nat) : RF := ⟨0x128 + 0x80 * i, 0, 32⟩
def NP_CFGACC (i : Nat) : RF := ⟨0x12C + 0x80 * i, 0, 32⟩
def NP_CFGACC_GO (i : Nat) : RF := ⟨0x12C + 0x80 * i, 31, 1⟩
def NP_CFGACC_WR (i : Nat) : RF := ⟨0x12C + 0x80 * i, 30, 1⟩
def NP_CFGRD (i : Nat) : RF := ⟨0x130 + 0x80 * i, 0, 32⟩
def NP_CFGRD_VALID (i : Nat) : RF := ⟨0x130 + 0x80 * i, 31, 1⟩
def NP_CFGRD_ERR (i : Nat) : RF := ⟨0x130 + 0x80 * i, 30, 1⟩
def NP_STATUS (i : Nat) : RF := ⟨0x134 + 0x80 * i, 0, 32⟩
def NP_STATUS_FADE_POS (i : Nat) : RF := ⟨0x134 + 0x80 * i, 24, 8⟩
def NP_STATUS_FOUND (i : Nat) : RF := ⟨0x134 + 0x80 * i, 16, 7⟩
def NP_STATUS_MINCH (i : Nat) : RF := ⟨0x134 + 0x80 * i, 8, 8⟩
def NP_STATUS_PBA_WAIT (i : Nat) : RF := ⟨0x134 + 0x80 * i, 7, 1⟩
def NP_STATUS_STROBE_PEND (i : Nat) : RF := ⟨0x134 + 0x80 * i, 6, 1⟩
def NP_STATUS_CHAIN_OPEN (i : Nat) : RF := ⟨0x134 + 0x80 * i, 5, 1⟩
def NP_STATUS_BUSY (i : Nat) : RF := ⟨0x134 + 0x80 * i, 4, 1⟩
def NP_STATUS_STATE (i : Nat) : RF := ⟨0x134 + 0x80 * i, 0, 3⟩
def NP_LATCH_NS (i : Nat) : RF := ⟨0x138 + 0x80 * i, 0, 32⟩
def NP_LATCH_SEC (i : Nat) : RF := ⟨0x13C + 0x80 * i, 0, 32⟩
def NP_FRAME_CNT (i : Nat) : RF := ⟨0x140 + 0x80 * i, 0, 32⟩
def NP_NODE_ERR_CNT (i : Nat) : RF := ⟨0x144 + 0x80 * i, 0, 32⟩
def NP_RI_ERR_CNT (i : Nat) : RF := ⟨0x148 + 0x80 * i, 0, 32⟩
def NP_FAULT_CNT (i : Nat) : RF := ⟨0x14C + 0x80 * i, 0, 32⟩
def NP_DIAGREQ_CNT (i : Nat) : RF := ⟨0x150 + 0x80 * i, 0, 32⟩
def NP_LATE_CNT (i : Nat) : RF := ⟨0x154 + 0x80 * i, 0, 32⟩
def NP_FRAME_LEN (i : Nat) : RF := ⟨0x158 + 0x80 * i, 0, 32⟩

/-! ### np0 (spec/09 R247, group 0 only) -/

def NPK_CFG : RF := ⟨0x80, 0, 32⟩
def NPK_CFG_KEEPALIVE : RF := ⟨0x80, 8, 8⟩
def NPK_CFG_WAKE_PLAY : RF := ⟨0x80, 0, 8⟩
def NPK_ADDR : RF := ⟨0x84, 0, 32⟩
def NPK_DATA : RF := ⟨0x88, 0, 32⟩
def NPK_PORT (i : Nat) : RF := ⟨0xA0 + 0x4 * i, 0, 32⟩
def NPK_PORT_RATE (i : Nat) : RF := ⟨0xA0 + 0x4 * i, 24, 1⟩
def NPK_PORT_LEN (i : Nat) : RF := ⟨0xA0 + 0x4 * i, 0, 14⟩
def NP_CLASS_TBL (i : Nat) : RF := ⟨0x600 + 0x4 * i, 0, 32⟩

/-! ### mx (spec/10 R268) -/

def MX_LIMIT_IN : RF := ⟨0x44, 0, 32⟩
def MX_GRP_STATUS : RF := ⟨0x48, 0, 32⟩
def MX_GRP_STATUS_PBA_WAIT : RF := ⟨0x48, 16, 8⟩
def MX_GRP_STATUS_TE_LOST : RF := ⟨0x48, 8, 8⟩
def MX_GRP_STATUS_RUN : RF := ⟨0x48, 0, 8⟩
def MX_CFG (i : Nat) : RF := ⟨0x100 + 0x80 * i, 0, 32⟩
def MX_CFG_COLS_M1 (i : Nat) : RF := ⟨0x100 + 0x80 * i, 24, 6⟩
def MX_CFG_ROWS_M1 (i : Nat) : RF := ⟨0x100 + 0x80 * i, 16, 4⟩
def MX_CFG_CLONE_SRC (i : Nat) : RF := ⟨0x100 + 0x80 * i, 8, 5⟩
def MX_CFG_CLONE (i : Nat) : RF := ⟨0x100 + 0x80 * i, 7, 1⟩
def MX_CFG_PHASE_LOCK (i : Nat) : RF := ⟨0x100 + 0x80 * i, 6, 1⟩
def MX_CFG_CURVE (i : Nat) : RF := ⟨0x100 + 0x80 * i, 4, 2⟩
def MX_CFG_MODE (i : Nat) : RF := ⟨0x100 + 0x80 * i, 1, 1⟩
def MX_CFG_EN (i : Nat) : RF := ⟨0x100 + 0x80 * i, 0, 1⟩
def MX_IMG_ADDR (i : Nat) : RF := ⟨0x104 + 0x80 * i, 0, 32⟩
def MX_PERIOD (i : Nat) : RF := ⟨0x108 + 0x80 * i, 0, 32⟩
def MX_PHASE (i : Nat) : RF := ⟨0x10C + 0x80 * i, 0, 32⟩
def MX_ROWT (i : Nat) : RF := ⟨0x110 + 0x80 * i, 0, 32⟩
def MX_ROWT_GCLK_DIV (i : Nat) : RF := ⟨0x110 + 0x80 * i, 24, 8⟩
def MX_ROWT_GBITS (i : Nat) : RF := ⟨0x110 + 0x80 * i, 16, 5⟩
def MX_BUS (i : Nat) : RF := ⟨0x114 + 0x80 * i, 0, 32⟩
def MX_BUS_CLK_DIV (i : Nat) : RF := ⟨0x114 + 0x80 * i, 0, 8⟩
def MX_BG (i : Nat) : RF := ⟨0x118 + 0x80 * i, 0, 32⟩
def MX_TE (i : Nat) : RF := ⟨0x11C + 0x80 * i, 0, 32⟩
def MX_TE_TIMEOUT (i : Nat) : RF := ⟨0x11C + 0x80 * i, 16, 10⟩
def MX_TE_POL (i : Nat) : RF := ⟨0x11C + 0x80 * i, 0, 1⟩
def MX_LEGAL_FLOOR (i : Nat) : RF := ⟨0x120 + 0x80 * i, 0, 32⟩
def MX_CMD (i : Nat) : RF := ⟨0x124 + 0x80 * i, 0, 32⟩
def MX_STATUS (i : Nat) : RF := ⟨0x128 + 0x80 * i, 0, 32⟩
def MX_STATUS_CLONE_HOLD (i : Nat) : RF := ⟨0x128 + 0x80 * i, 12, 1⟩
def MX_STATUS_ROW (i : Nat) : RF := ⟨0x128 + 0x80 * i, 8, 4⟩
def MX_STATUS_BLANKING (i : Nat) : RF := ⟨0x128 + 0x80 * i, 7, 1⟩
def MX_STATUS_ARMED (i : Nat) : RF := ⟨0x128 + 0x80 * i, 6, 1⟩
def MX_STATUS_BUSY (i : Nat) : RF := ⟨0x128 + 0x80 * i, 5, 1⟩
def MX_STATUS_PBA_WAIT (i : Nat) : RF := ⟨0x128 + 0x80 * i, 4, 1⟩
def MX_STATUS_STATE (i : Nat) : RF := ⟨0x128 + 0x80 * i, 0, 3⟩
def MX_FSTART_NS (i : Nat) : RF := ⟨0x12C + 0x80 * i, 0, 32⟩
def MX_FSTART_SEC (i : Nat) : RF := ⟨0x130 + 0x80 * i, 0, 32⟩
def MX_TE_PERIOD (i : Nat) : RF := ⟨0x134 + 0x80 * i, 0, 32⟩
def MX_UNDERRUN_INFO (i : Nat) : RF := ⟨0x138 + 0x80 * i, 0, 32⟩
def MX_FRAME_CNT (i : Nat) : RF := ⟨0x140 + 0x80 * i, 0, 32⟩
def MX_UNDERRUN_CNT (i : Nat) : RF := ⟨0x144 + 0x80 * i, 0, 32⟩
def MX_LATE_CNT (i : Nat) : RF := ⟨0x148 + 0x80 * i, 0, 32⟩
def MX_TE_TIMEOUT_CNT (i : Nat) : RF := ⟨0x14C + 0x80 * i, 0, 32⟩
def MX_XFER_CNT (i : Nat) : RF := ⟨0x150 + 0x80 * i, 0, 32⟩

/-! ### eth (spec/18 R459) -/

def ETH_CFG : RF := ⟨0x44, 0, 32⟩
def ETH_CFG_ICP_EN : RF := ⟨0x44, 8, 1⟩
def ETH_CFG_MSEC_EN : RF := ⟨0x44, 6, 1⟩
def ETH_CFG_MSEC_REQ : RF := ⟨0x44, 5, 1⟩
def ETH_CFG_PROMISC : RF := ⟨0x44, 4, 1⟩
def ETH_CFG_SPEED : RF := ⟨0x44, 0, 2⟩
def ETH_MAC_HI : RF := ⟨0x48, 0, 32⟩
def ETH_MAC_LO : RF := ⟨0x4C, 0, 32⟩
def ETH_IP : RF := ⟨0x50, 0, 32⟩
def ETH_UDP : RF := ⟨0x54, 0, 32⟩
def ETH_UDP_IMS : RF := ⟨0x54, 0, 16⟩
def ETH_RX_BASE : RF := ⟨0x58, 0, 32⟩
def ETH_RX_CTL : RF := ⟨0x5C, 0, 32⟩
def ETH_RX_TAIL : RF := ⟨0x60, 0, 32⟩
def ETH_TX_BASE : RF := ⟨0x64, 0, 32⟩
def ETH_TX_CTL : RF := ⟨0x68, 0, 32⟩
def ETH_TX_HEAD : RF := ⟨0x6C, 0, 32⟩
def ETH_CBS (i : Nat) : RF := ⟨0x70 + 0x4 * i, 0, 32⟩
def ETH_PCP_MAP : RF := ⟨0x78, 0, 32⟩
def ETH_STATUS : RF := ⟨0x7C, 0, 32⟩
def ETH_STATUS_MSEC : RF := ⟨0x7C, 3, 1⟩
def ETH_STATUS_LINK : RF := ⟨0x7C, 2, 1⟩
def ETH_MSEC_CTL : RF := ⟨0x80, 0, 32⟩
def ETH_MSEC_CTL_GO : RF := ⟨0x80, 31, 1⟩
def ETH_MSEC_CTL_AN : RF := ⟨0x80, 8, 2⟩
def ETH_MSEC_CTL_RX : RF := ⟨0x80, 0, 2⟩
def ETH_MSEC_SCI_HI : RF := ⟨0x84, 0, 32⟩
def ETH_MSEC_SCI_LO : RF := ⟨0x88, 0, 32⟩
def ETH_MSEC_SSCI : RF := ⟨0x8C, 0, 32⟩
def ETH_MSEC_KEY (i : Nat) : RF := ⟨0x90 + 0x4 * i, 0, 32⟩
def ETH_MSEC_PN_HI : RF := ⟨0xB0, 0, 32⟩
def ETH_MSEC_PN_LO : RF := ⟨0xB4, 0, 32⟩
def ETH_MSEC_WIN : RF := ⟨0xB8, 0, 32⟩
def ETH_RX_CNT : RF := ⟨0xC0, 0, 32⟩
def ETH_RX_DROP_CNT : RF := ⟨0xC4, 0, 32⟩
def ETH_FCS_ERR_CNT : RF := ⟨0xC8, 0, 32⟩
def ETH_IMS_AUTH_CNT : RF := ⟨0xCC, 0, 32⟩
def ETH_ICP_AUTH_CNT : RF := ⟨0xD0, 0, 32⟩
def ETH_REPLAY_CNT : RF := ⟨0xD4, 0, 32⟩
def ETH_ICP_DROP_CNT : RF := ⟨0xD8, 0, 32⟩
def ETH_MSEC_DROP_CNT : RF := ⟨0xDC, 0, 32⟩
def ETH_LINK_DOWN_CNT : RF := ⟨0xE0, 0, 32⟩

/-! ### can (spec/18 R460) -/

def CAN_CFG : RF := ⟨0x44, 0, 32⟩
def CAN_CFG_LISTEN_ONLY : RF := ⟨0x44, 5, 1⟩
def CAN_CFG_AUTO_RECOVER : RF := ⟨0x44, 4, 1⟩
def CAN_CFG_BRS_EN : RF := ⟨0x44, 3, 1⟩
def CAN_CFG_MODE : RF := ⟨0x44, 0, 2⟩
def CAN_NBT : RF := ⟨0x48, 0, 32⟩
def CAN_NBT_PRESC : RF := ⟨0x48, 24, 8⟩
def CAN_NBT_TSEG1 : RF := ⟨0x48, 16, 8⟩
def CAN_NBT_TSEG2 : RF := ⟨0x48, 8, 7⟩
def CAN_NBT_SJW : RF := ⟨0x48, 0, 7⟩
def CAN_DBT : RF := ⟨0x4C, 0, 32⟩
def CAN_XBT : RF := ⟨0x50, 0, 32⟩
def CAN_TDC : RF := ⟨0x54, 0, 32⟩
def CAN_TDC_EN : RF := ⟨0x54, 8, 1⟩
def CAN_RX_BASE : RF := ⟨0x58, 0, 32⟩
def CAN_RX_CTL : RF := ⟨0x5C, 0, 32⟩
def CAN_RX_CTL_BUFSZ : RF := ⟨0x5C, 28, 4⟩
def CAN_RX_TAIL : RF := ⟨0x60, 0, 32⟩
def CAN_TX_BASE : RF := ⟨0x64, 0, 32⟩
def CAN_TX_CTL : RF := ⟨0x68, 0, 32⟩
def CAN_TX_HEAD : RF := ⟨0x6C, 0, 32⟩
def CAN_STATUS : RF := ⟨0x70, 0, 32⟩
def CAN_STATUS_REC : RF := ⟨0x70, 16, 8⟩
def CAN_STATUS_TEC : RF := ⟨0x70, 8, 8⟩
def CAN_CMD : RF := ⟨0x74, 0, 32⟩
def CAN_RX_CNT : RF := ⟨0x80, 0, 32⟩
def CAN_TX_CNT : RF := ⟨0x84, 0, 32⟩
def CAN_ERRFRM_CNT : RF := ⟨0x88, 0, 32⟩
def CAN_BUSOFF_CNT : RF := ⟨0x8C, 0, 32⟩
def CAN_RX_OVF_CNT : RF := ⟨0x90, 0, 32⟩
def CAN_FLT_ID (i : Nat) : RF := ⟨0x100 + 0x8 * i, 0, 32⟩
def CAN_FLT_ID_EN (i : Nat) : RF := ⟨0x100 + 0x8 * i, 31, 1⟩
def CAN_FLT_ID_ID (i : Nat) : RF := ⟨0x100 + 0x8 * i, 0, 29⟩
def CAN_FLT_MASK (i : Nat) : RF := ⟨0x104 + 0x8 * i, 0, 32⟩

/-! ### stor (spec/18 R461) -/

def STOR_CFG : RF := ⟨0x44, 0, 32⟩
def STOR_CFG_ASPM_L1 : RF := ⟨0x44, 8, 1⟩
def STOR_CMD : RF := ⟨0x48, 0, 32⟩
def STOR_STATUS : RF := ⟨0x4C, 0, 32⟩
def STOR_STATUS_NS_TRUNC : RF := ⟨0x4C, 16, 1⟩
def STOR_NSID : RF := ⟨0x50, 0, 32⟩
def STOR_CAP : RF := ⟨0x54, 0, 32⟩
def STOR_LBAF : RF := ⟨0x58, 0, 32⟩
def STOR_Q_BASE : RF := ⟨0x5C, 0, 32⟩
def STOR_IOSQ_TAIL : RF := ⟨0x60, 0, 32⟩
def STOR_IOCQ_HEAD : RF := ⟨0x64, 0, 32⟩
def REC_BASE : RF := ⟨0x68, 0, 32⟩
def REC_SIZE : RF := ⟨0x6C, 0, 32⟩
def REC_WR : RF := ⟨0x70, 0, 32⟩
def REC_RD : RF := ⟨0x74, 0, 32⟩
def REC_CFG : RF := ⟨0x78, 0, 32⟩
def REC_CFG_MASK : RF := ⟨0x78, 1, 1⟩
def REC_CFG_FRAME : RF := ⟨0x78, 0, 1⟩
def STOR_CMD_CNT : RF := ⟨0x80, 0, 32⟩
def STOR_NVME_ERR_CNT : RF := ⟨0x84, 0, 32⟩
def STOR_TIMEOUT_CNT : RF := ⟨0x88, 0, 32⟩
def STOR_RETRAIN_CNT : RF := ⟨0x8C, 0, 32⟩
def REC_DROP_CNT : RF := ⟨0x90, 0, 32⟩

/-! ### sec (spec/18 R462) -/

def SEC_STATUS : RF := ⟨0x44, 0, 32⟩
def SEC_STATUS_OTP : RF := ⟨0x44, 8, 6⟩
def SEC_STATUS_EXT_OK : RF := ⟨0x44, 1, 1⟩
def SEC_STATUS_RECOVERY : RF := ⟨0x44, 0, 1⟩
def SEC_KEY_CTL : RF := ⟨0x48, 0, 32⟩
def SEC_KEY_CTL_GO : RF := ⟨0x48, 31, 1⟩
def SEC_KEY_CFG : RF := ⟨0x4C, 0, 32⟩
def SEC_KEY_CFG_AES : RF := ⟨0x4C, 16, 1⟩
def SEC_KEY_CFG_IMS : RF := ⟨0x4C, 1, 1⟩
def SEC_KEY_DATA (i : Nat) : RF := ⟨0x50 + 0x4 * i, 0, 32⟩
def SEC_KEY_RES : RF := ⟨0x70, 0, 32⟩
def SEC_SVN_CMD : RF := ⟨0x74, 0, 32⟩
def SEC_SVN_CMD_GO : RF := ⟨0x74, 31, 1⟩
def SEC_RECOVERY : RF := ⟨0x78, 0, 32⟩
def SEC_RECOVERY_GO : RF := ⟨0x78, 31, 1⟩
def SEC_KEY_STAT (i : Nat) : RF := ⟨0x80 + 0x4 * i, 0, 32⟩
def SEC_KEY_STAT_VALID (i : Nat) : RF := ⟨0x80 + 0x4 * i, 31, 1⟩
def SEC_KEY_STAT_LOCKED (i : Nat) : RF := ⟨0x80 + 0x4 * i, 30, 1⟩
def SEC_KEY_STAT_REVOKED (i : Nat) : RF := ⟨0x80 + 0x4 * i, 29, 1⟩
def SEC_KEY_STAT_OTP (i : Nat) : RF := ⟨0x80 + 0x4 * i, 28, 1⟩
def SEC_KEY_STAT_AES (i : Nat) : RF := ⟨0x80 + 0x4 * i, 16, 1⟩
def SEC_KEY_STAT_IMS (i : Nat) : RF := ⟨0x80 + 0x4 * i, 1, 1⟩
def SEC_HSPI_WR (i : Nat) : RF := ⟨0xC0 + 0x4 * i, 0, 32⟩
def SEC_ICP_WR (i : Nat) : RF := ⟨0xC8 + 0x4 * i, 0, 32⟩
def SEC_HOST_MEM : RF := ⟨0xD0, 0, 32⟩
def SEC_BLOCK_CNT : RF := ⟨0x100, 0, 32⟩
def SEC_SIG_FAIL_CNT : RF := ⟨0x104, 0, 32⟩

end Sys2Proof.Machine
end

