-- ==== Sys2Proof/Machine/RegRows.lean ====
section
/-!
DEFINITION. The access codes and reset values of every block register, from the register and field
tables of spec/02 to spec/18: which bits are RW, RWL, RWS or W1C (R9; the other bits are RO, WO or
reserved), the reset value of each instance, and whether the register is a counter (R7).
-/

namespace Sys2Proof.Machine

/-- One row of a register table: `count` registers, `stride` bytes apart, with their access masks
(R9). `reset` lists the reset value of each instance; a shorter list gives its last value to the rest. -/
structure RegRow where
  off : Nat
  stride : Nat := 4
  count : Nat := 1
  reset : List Nat := [0]
  rw : Nat := 0
  rwl : Nat := 0
  rws : Nat := 0
  w1c : Nat := 0
  cnt : Bool := false
  deriving DecidableEq, Repr

def rows_sys_0 : List RegRow := [
  { off := 0x44, reset := [0x74600020] },  -- SYS_ID
  { off := 0x60 },  -- SYS_IRQ_PEND0
  { off := 0x64 },  -- SYS_IRQ_PEND1
  { off := 0x68, rw := 0xFFFFFFFF },  -- SYS_IRQ_MP_EN0
  { off := 0x6C, rw := 0xFFFFFFFF },  -- SYS_IRQ_MP_EN1
  { off := 0x70, rwl := 0xFFFFFFFF },  -- SYS_IRQ_HOST_EN0
  { off := 0x74, rwl := 0xFFFFFFFF }  -- SYS_IRQ_HOST_EN1
]

/-- The block registers of the sys page type (spec/02 R57). -/
def rows_sys : List RegRow := rows_sys_0

def rows_basecamp_0 : List RegRow := [
  { off := 0x44 },  -- BC_PWR_CMD
  { off := 0x48 },  -- BC_STATUS
  { off := 0x4C },  -- BC_VBAT
  { off := 0x50, reset := [0xFFFF], rw := 0xFFFF },  -- BC_VBAT_MIN
  { off := 0x54, reset := [0x6400C8], rwl := 0xFFFFFFFF },  -- BC_SEQ_CFG
  { off := 0x58 },  -- BC_RAIL_MON
  { off := 0x5C, reset := [0x82EE0000], rw := 0x800000FF },  -- BC_AVS
  { off := 0x60, rw := 0x3FFFFFF },  -- BC_PD_REQ
  { off := 0x64, reset := [0xF8000], rw := 0xF8000 },  -- BC_PD_RETEN
  { off := 0x68 },  -- BC_PD_ON
  { off := 0x6C },  -- BC_PD_RET
  { off := 0x70, reset := [0xA000F], rw := 0x1FF0FFF },  -- BC_WAKE_CFG
  { off := 0x74, reset := [0xE10], rw := 0xFFFFFF },  -- BC_WAKE_TIMER
  { off := 0x78, w1c := 0x3F },  -- BC_WAKE_SRC
  { off := 0x7C, reset := [0xC8], rwl := 0xFFFFFF },  -- BC_WDOG
  { off := 0x80 },  -- BC_WDOG_KICK
  { off := 0x84 },  -- BC_WDOG_REMAIN
  { off := 0x88 },  -- BC_RST
  { off := 0x8C, reset := [0x1] },  -- BC_RST_CAUSE
  { off := 0x90 },  -- BC_RESTART_HIST
  { off := 0x94 },  -- BC_KEEPER_STAT
  { off := 0xA0, rw := 0xFFFFFFFF, cnt := true },  -- BC_PFW_CNT
  { off := 0xA4, rw := 0xFFFFFFFF, cnt := true },  -- BC_SUPPLY_FAULT_CNT
  { off := 0xA8, rw := 0xFFFFFFFF, cnt := true }  -- BC_WAKE_CNT
]

def rows_basecamp_1 : List RegRow := [
  { off := 0xAC, rw := 0xFFFFFFFF, cnt := true }  -- BC_WDOG_EXP_CNT
]

/-- The block registers of the basecamp page type (spec/14 R374). -/
def rows_basecamp : List RegRow := rows_basecamp_0 ++ rows_basecamp_1

def rows_pba_0 : List RegRow := [
  { off := 0x44, reset := [0x32], rw := 0x3FF },  -- PBA_SLOT
  { off := 0x48, reset := [0xC8], rwl := 0xFFF },  -- PBA_STEP_MAX
  { off := 0x4C, reset := [0xC80], rwl := 0xFFF },  -- PBA_CORE_BUDGET
  { off := 0x50, rwl := 0xFFFF },  -- PBA_LAMP_BUDGET
  { off := 0x54, reset := [0x1], rw := 0xFF },  -- PBA_RISE
  { off := 0x58, reset := [0x400014], rw := 0xFF03FF },  -- PBA_SOFT
  { off := 0x5C, reset := [0x4080], rwl := 0xFFFFFF },  -- PBA_CLASS_MIN
  { off := 0x60, reset := [0x50], rw := 0x7F },  -- PBA_PFW_DERATE
  { off := 0x64, reset := [0x3E8], rw := 0xFFFF },  -- PBA_WAIT_WARN
  { off := 0x68, reset := [0x10040100] },  -- PBA_FACTOR
  { off := 0x6C },  -- PBA_CORE_GRANTED
  { off := 0x70 },  -- PBA_LAMP_DEMAND
  { off := 0x74 },  -- PBA_STATUS
  { off := 0x78 },  -- PBA_NEXT_NS
  { off := 0x7C, reset := [0xFF] },  -- PBA_LAST_GRANT
  { off := 0x80, rw := 0xFFFFFFFF, cnt := true },  -- PBA_GRANT_CNT
  { off := 0x84, rw := 0xFFFFFFFF },  -- PBA_WAIT_MAX
  { off := 0x88, rw := 0xFFFFFFFF, cnt := true },  -- PBA_OVER_CNT
  { off := 0x100, stride := 0x4, count := 2 },  -- PBA_WAITMAP
  { off := 0x108, stride := 0x4, count := 2 },  -- PBA_GRANTMAP
  { off := 0x200, stride := 0x4, count := 6, reset := [0x412C0000, 0x412C0000, 0x412C0000, 0x412C0000, 0x40640000, 0x40640000], rwl := 0xCFFFFFFF },  -- PBA_REQ
  { off := 0x218, stride := 0x4, count := 4, reset := [0x41900000, 0x42580000, 0xC0500000, 0xC03C0000], rwl := 0xCFFF0000 },  -- PBA_REQ
  { off := 0x228, reset := [0xC0320000], rwl := 0xFFF0000 },  -- PBA_REQ
  { off := 0x240, stride := 0x4, count := 13, reset := [0x140000, 0x80140000, 0x80140000, 0x80140000, 0x80140000, 0x80140000, 0x80140000, 0x80140000, 0x80140000, 0x80140000, 0x80140000, 0x80140000, 0x80140000], rwl := 0xCFFFFFFF }  -- PBA_REQ
]

def rows_pba_1 : List RegRow := [
  { off := 0x280, stride := 0x4, count := 3, reset := [0x80140000], rwl := 0xCFFFFFFF }  -- PBA_REQ
]

/-- The block registers of the pba page type (spec/15 R389). -/
def rows_pba : List RegRow := rows_pba_0 ++ rows_pba_1

def rows_therm_0 : List RegRow := [
  { off := 0x44, reset := [0x410], rw := 0x770 },  -- THERM_CFG
  { off := 0x48, reset := [0x8C8078], rw := 0xFFFF, rwl := 0xFF0000 },  -- THERM_THR
  { off := 0x4C, reset := [0x190505], rw := 0xFFFF, rwl := 0xFF0000 },  -- THERM_HYST
  { off := 0x50, reset := [0x3E80064], rw := 0xFFFFFFFF },  -- THERM_STEP
  { off := 0x54 },  -- THERM_CMD
  { off := 0x58 },  -- THERM_STATUS
  { off := 0x5C },  -- THERM_TJ
  { off := 0x60 },  -- THERM_TSB
  { off := 0x64 },  -- THERM_SHUT_INFO
  { off := 0x68 },  -- THERM_SHUT_NS
  { off := 0x6C },  -- THERM_SHUT_SEC
  { off := 0x70, rw := 0xFFFFFFFF, cnt := true },  -- THERM_WARN_CNT
  { off := 0x74, rw := 0xFFFFFFFF, cnt := true },  -- THERM_THROT_CNT
  { off := 0x78, rw := 0xFFFFFFFF, cnt := true },  -- THERM_FAIL_CNT
  { off := 0x7C, rw := 0xFFFFFFFF, cnt := true },  -- THERM_SHUT_CNT
  { off := 0x80, stride := 0x4, count := 8, reset := [0x4020100, 0x84020100, 0x84020080, 0x84018040, 0x84010000, 0x84010000, 0x84010000, 0x84010000], rw := 0x87FFFFFF },  -- THERM_LVL
  { off := 0x100, stride := 0x4, count := 24 },  -- THERM_TS
  { off := 0x180, stride := 0x4, count := 24, reset := [0x42, 0x85, 0x10A, 0x214, 0x428, 0x810, 0x1081, 0x2142, 0x4284, 0x8508, 0x10A10, 0x20420, 0x42040, 0x85080, 0x10A100, 0x214200, 0x428400, 0x810800, 0x81000, 0x142000, 0x284000, 0x508000, 0xA10000, 0x420000] },  -- THERM_NBR
  { off := 0x200, stride := 0x8, count := 8, reset := [0x556E40], rw := 0xC0FFFFFF },  -- THERM_XT_CFG
  { off := 0x204, stride := 0x8, count := 8, reset := [0xD6B03E8], rw := 0xFFFFFFFF },  -- THERM_XT_NTC
  { off := 0x240, stride := 0x4, count := 8 },  -- THERM_XT
  { off := 0x280, rw := 0xFFFFFF },  -- THERM_UNIT_XT
  { off := 0x284 },  -- THERM_UNIT_XT
  { off := 0x288, rw := 0xFFFFFFFF }  -- THERM_UNIT_XT
]

def rows_therm_1 : List RegRow := [
  { off := 0x28C, rw := 0xFFFFF },  -- THERM_UNIT_XT
  { off := 0x290, rw := 0xFFF }  -- THERM_UNIT_XT
]

/-- The block registers of the therm page type (spec/16 R406). -/
def rows_therm : List RegRow := rows_therm_0 ++ rows_therm_1

def rows_cal_0 : List RegRow := [
  { off := 0x44, reset := [0x83FE], rw := 0xF3FE },  -- CAL_CFG
  { off := 0x48 },  -- CAL_CMD
  { off := 0x4C },  -- CAL_CMD_STAT
  { off := 0x50 },  -- CAL_REF
  { off := 0x60, stride := 0x4, count := 6 },  -- CAL_DL_STAT
  { off := 0x78, stride := 0x4, count := 2 },  -- CAL_SCN_TRIM
  { off := 0x84, stride := 0x4, count := 9, reset := [0x6400FA, 0x28000A, 0x19001E, 0x1F40032, 0x100004, 0x1E0014, 0x15E000F, 0x64001E, 0x7D00064], rw := 0xFFFFFFFF },  -- CAL_TOL
  { off := 0xB0, rw := 0xFFFFFFFF, cnt := true },  -- CAL_ACCEPT_CNT
  { off := 0xB4, rw := 0xFFFFFFFF, cnt := true },  -- CAL_DISAGREE_CNT
  { off := 0xB8, rw := 0xFFFFFFFF, cnt := true },  -- CAL_SKIP_CNT
  { off := 0xBC, rw := 0xFFFFFFFF, cnt := true },  -- CAL_PRECOND_CNT
  { off := 0x120, stride := 0x4, count := 72 }  -- CAL_QUAL
]

/-- The block registers of the cal page type (spec/17 R429). -/
def rows_cal : List RegRow := rows_cal_0

def rows_nvm_0 : List RegRow := [
  { off := 0x44, rw := 0x3FFFFF },  -- NVM_ADDR
  { off := 0x48 },  -- NVM_CMD
  { off := 0x4C },  -- NVM_STAT
  { off := 0x50, reset := [0x2], rwl := 0x3 },  -- NVM_PROT
  { off := 0x54 },  -- NVM_REC_VALID
  { off := 0x58 },  -- NVM_REC_SEL
  { off := 0x5C },  -- NVM_REC_TORN
  { off := 0x60 },  -- NVM_INTR
  { off := 0x64, rw := 0xFFFFFFFF, cnt := true },  -- NVM_PROG_CNT
  { off := 0x68, rw := 0xFFFFFFFF, cnt := true },  -- NVM_ECC_CE_CNT
  { off := 0x6C, rw := 0xFFFFFFFF, cnt := true },  -- NVM_PFW_STOP_CNT
  { off := 0x100, stride := 0x4, count := 64, rw := 0xFFFFFFFF },  -- NVM_WBUF
  { off := 0x200, stride := 0x4, count := 64 }  -- NVM_RBUF
]

/-- The block registers of the nvm page type (spec/17 R432). -/
def rows_nvm : List RegRow := rows_nvm_0

def rows_mbx_0 : List RegRow := [
  { off := 0x44, reset := [0x80C0C], rwl := 0x1F1F1F },  -- MBX_CFG
  { off := 0x48, reset := [0x2710], rw := 0xFFFF },  -- MBX_RSP_TMO
  { off := 0x4C },  -- MBX_STAT
  { off := 0x50 },  -- MBX_PUSH
  { off := 0x54 },  -- MBX_PUSH_STAT
  { off := 0x58 },  -- MBX_POP
  { off := 0x5C },  -- MBX_RSP_STAT
  { off := 0x60 },  -- MP_LOAD
  { off := 0x64, rw := 0xFF },  -- MP_LOAD_PEAK
  { off := 0x68 },  -- MP_RESTART_INFO
  { off := 0x70, rw := 0xFFFFFFFF, cnt := true },  -- MBX_CMD_CNT
  { off := 0x74, rw := 0xFFFFFFFF, cnt := true },  -- MBX_BUSY_CNT
  { off := 0x78, rw := 0xFFFFFFFF, cnt := true },  -- MBX_REJECT_CNT
  { off := 0x7C, rw := 0xFFFFFFFF, cnt := true },  -- MBX_RSP_DROP_CNT
  { off := 0x80, stride := 0x4, count := 8, rw := 0xFFFFFFFF, cnt := true },  -- MP_DL_MISS
  { off := 0xA0, reset := [0x1E00], rwl := 0xFF01 },  -- MP_EXT_CTRL
  { off := 0xA4, rwl := 0xFFFFFFFF },  -- MP_EXT_GRANT0
  { off := 0xA8, rwl := 0xFFFFFFFF },  -- MP_EXT_GRANT1
  { off := 0xAC, rw := 0xFFFFFFFF, cnt := true },  -- MP_EXT_FAULT_CNT
  { off := 0x100, stride := 0x4, count := 15, rw := 0xFFFFFFFF },  -- MBX_CMD_WIN
  { off := 0x140, stride := 0x4, count := 16 },  -- MBX_RSP_WIN
  { off := 0x200, stride := 0x4, count := 32 }  -- MBX_SLOT_STAT
]

/-- The block registers of the mbx page type (spec/13). -/
def rows_mbx : List RegRow := rows_mbx_0

def rows_time_0 : List RegRow := [
  { off := 0x44, reset := [0xF000], rw := 0xF007 },  -- TIME_CFG
  { off := 0x48, reset := [0x40000], rw := 0xFFFFF },  -- TIME_INCR
  { off := 0x4C, rw := 0xFFFF },  -- TIME_INCR_EXT
  { off := 0x50 },  -- TIME_NOW_NS
  { off := 0x54 },  -- TIME_NOW_SEC
  { off := 0x58 },  -- TIME_NOW_HI
  { off := 0x5C, rw := 0x3FFFFFFF },  -- TIME_SET_NS
  { off := 0x60, rw := 0xFFFFFFFF },  -- TIME_SET_SEC
  { off := 0x64, rw := 0xFFFF },  -- TIME_SET_HI
  { off := 0x68, rw := 0xFFFFFFFF },  -- TIME_STEP_OFS
  { off := 0x6C },  -- TIME_ADJ
  { off := 0x70, rw := 0xFFFFFFFF },  -- TIME_SLEW
  { off := 0x74, reset := [0x64], rw := 0x3FF },  -- TIME_SLEW_RATE
  { off := 0x78, reset := [0x3E8], rw := 0xFFFF },  -- TIME_SERVO_TMO
  { off := 0x7C, reset := [0x64], rw := 0x3FFF },  -- TIME_PDELAY_THR
  { off := 0x80, reset := [0x7D0], rw := 0xFFFF },  -- TIME_PATH_HOLDOFF
  { off := 0x84 },  -- TIME_STATUS
  { off := 0x88 },  -- TIME_PATH_INFO
  { off := 0x8C, rw := 0x3FFFFFFF },  -- TIME_PPS_OFS
  { off := 0x90, reset := [0x64], rw := 0x3FF },  -- TIME_PPS_WIDTH
  { off := 0x94 },  -- TIME_PPSIN_NS
  { off := 0x98 },  -- TIME_PPSIN_SEC
  { off := 0x9C },  -- TIME_PPSIN_ERR
  { off := 0xA0, stride := 0x4, count := 4, rw := 0xFFFF }  -- TIME_ASYM
]

def rows_time_1 : List RegRow := [
  { off := 0xB0, stride := 0x4, count := 4, rw := 0xFFFFFF },  -- TIME_PDELAY
  { off := 0xC0, stride := 0x4, count := 4, rw := 0xFFFFFFFF },  -- TIME_PHY_LAT
  { off := 0xD0, stride := 0x4, count := 4, w1c := 0x100 },  -- TIME_TXQ_STAT
  { off := 0xE0, stride := 0x4, count := 4, rw := 0xFFFFFFFF, cnt := true },  -- TIME_TXQ_DROP_CNT
  { off := 0x100, stride := 0x10, count := 4 },  -- TIME_TXQ_W0
  { off := 0x104, stride := 0x10, count := 4 },  -- TIME_TXQ_W1
  { off := 0x108, stride := 0x10, count := 4 },  -- TIME_TXQ_W2
  { off := 0x10C, stride := 0x10, count := 4 },  -- TIME_TXQ_W3
  { off := 0x140, stride := 0x10, count := 4 },  -- TIME_TXQ_PUSH0
  { off := 0x144, stride := 0x10, count := 4 },  -- TIME_TXQ_PUSH1
  { off := 0x148, stride := 0x10, count := 4 },  -- TIME_TXQ_PUSH2
  { off := 0x14C, stride := 0x10, count := 4 },  -- TIME_TXQ_PUSH3
  { off := 0x180, rw := 0xFFFFFFFF, cnt := true },  -- TIME_STEP_CNT
  { off := 0x184, rw := 0xFFFFFFFF, cnt := true },  -- TIME_FREERUN_CNT
  { off := 0x188, rw := 0xFFFFFFFF, cnt := true },  -- TIME_PATH_STEP_CNT
  { off := 0x18C, rw := 0xFFFFFFFF, cnt := true },  -- TIME_HOLD_DISC_CNT
  { off := 0x190, rw := 0xFFFFFFFF, cnt := true },  -- TIME_INCR_LIMIT_CNT
  { off := 0x194, rw := 0xFFFFFFFF, cnt := true }  -- TIME_PPSIN_GLITCH_CNT
]

/-- The block registers of the time page type (spec/11 R291). -/
def rows_time : List RegRow := rows_time_0 ++ rows_time_1

def rows_sched_0 : List RegRow := [
  { off := 0x44, reset := [0x32], rw := 0xFF },  -- SCHED_CFG
  { off := 0x48, rw := 0x3FFFFFFF },  -- SCHED_E_NS
  { off := 0x4C, rw := 0xFFFFFFFF },  -- SCHED_E_SEC
  { off := 0x50, rw := 0xFC00FFFF },  -- SCHED_E_CTL
  { off := 0x54, rw := 0xFFFFFFFF },  -- SCHED_E_TARGET
  { off := 0x58, rw := 0xFFFFFFFF },  -- SCHED_E_VALUE
  { off := 0x5C, rw := 0xFFFFFF },  -- SCHED_E_WINDOW
  { off := 0x60, rw := 0xFFFFFFF },  -- SCHED_E_PERIOD
  { off := 0x64, rw := 0x700000FF },  -- SCHED_ACC
  { off := 0x68 },  -- SCHED_E_STAT
  { off := 0x6C },  -- SCHED_E_LATENESS
  { off := 0x70 },  -- SCHED_NEXT
  { off := 0x74 },  -- SCHED_ARMED
  { off := 0x78 },  -- SCHED_LAST
  { off := 0x80, rw := 0xFFFFFFFF, cnt := true },  -- SCHED_EXEC_CNT
  { off := 0x84, rw := 0xFFFFFFFF, cnt := true },  -- SCHED_LATE_CNT
  { off := 0x88, rw := 0xFFFFFFFF, cnt := true },  -- SCHED_MISSED_CNT
  { off := 0x8C, rw := 0xFFFFFFFF, cnt := true },  -- SCHED_TERR_CNT
  { off := 0xC0, stride := 0x4, count := 8, w1c := 0xFFFFFFFF }  -- SCHED_FLAG_MAP
]

/-- The block registers of the sched page type (spec/11 R294). -/
def rows_sched : List RegRow := rows_sched_0

def rows_eng_0 : List RegRow := [
  { off := 0x44, reset := [0x1002], rws := 0xFF0F },  -- ENG_CFG
  { off := 0x48, reset := [0x6400A00], rws := 0x7FF0FFF },  -- ENG_GEOM
  { off := 0x4C, reset := [0x3AB00A], rws := 0x7FFFFF },  -- ENG_FRAME_MIN
  { off := 0x50, reset := [0x4C4B40], rws := 0x7FFFFF },  -- ENG_FRAME_MAX
  { off := 0x54, reset := [0x32], rws := 0x3FF },  -- ENG_FENCE_LEAD
  { off := 0x58, reset := [0xA00], rws := 0xFF07 },  -- ENG_FSYNC
  { off := 0x5C, rws := 0x7FFFFF },  -- ENG_FSYNC_OFS
  { off := 0x60, reset := [0x1], rwl := 0x3 },  -- ENG_SAFE
  { off := 0x64 },  -- ENG_CMD
  { off := 0x68 },  -- ENG_STATUS
  { off := 0x6C },  -- ENG_NOM_PERIOD
  { off := 0x70 },  -- ENG_PROG_LEN
  { off := 0x74 },  -- ENG_LAST_PERIOD
  { off := 0x78 },  -- ENG_LAST_BLANK
  { off := 0x7C, reset := [0x4000] },  -- ENG_FLUX_RATIO
  { off := 0x80 },  -- ENG_FSTART_NS
  { off := 0x84 },  -- ENG_FSTART_SEC
  { off := 0x88 },  -- ENG_UNDERRUN_INFO
  { off := 0x8C },  -- ENG_STATE_INFO
  { off := 0x90, rw := 0xFFFFFFFF, cnt := true },  -- ENG_FRAME_CNT
  { off := 0x94, rw := 0xFFFFFFFF, cnt := true },  -- ENG_REPEAT_CNT
  { off := 0x98, rw := 0xFFFFFFFF, cnt := true },  -- ENG_LATE_CNT
  { off := 0x9C, rw := 0xFFFFFFFF, cnt := true },  -- ENG_UNDERRUN_CNT
  { off := 0xA0, rw := 0xFFFFFFFF, cnt := true }  -- ENG_OVERLONG_CNT
]

def rows_eng_1 : List RegRow := [
  { off := 0xA4, rw := 0xFFFFFFFF, cnt := true },  -- ENG_FLUX_CLAMP_CNT
  { off := 0xA8, rw := 0xFFFFFFFF, cnt := true }  -- ENG_HOLD_CNT
]

/-- The block registers of the eng page type (spec/04 R119). -/
def rows_eng : List RegRow := rows_eng_0 ++ rows_eng_1

def rows_grd_0 : List RegRow := [
  { off := 0x44, reset := [0xF18], rws := 0x1F3B },  -- GRD_CFG
  { off := 0x48, reset := [0x40000], rws := 0x7FFFF },  -- GRD_GAIN
  { off := 0x4C, reset := [0xC8], rws := 0x3FF },  -- GRD_GUARD
  { off := 0x50, reset := [0xC8], rws := 0x3FF },  -- GRD_LOAD_MARGIN
  { off := 0x54, rws := 0x3F },  -- GRD_PRG0_CTRL
  { off := 0x58, reset := [0x3F940B], rws := 0x7FFFFF },  -- GRD_PRG0_PNOM
  { off := 0x5C, rws := 0x3F },  -- GRD_PRG1_CTRL
  { off := 0x60, reset := [0x3F940B], rws := 0x7FFFFF },  -- GRD_PRG1_PNOM
  { off := 0x64, reset := [0x8000] },  -- GRD_LVL_RATIO0
  { off := 0x68, stride := 0x4, count := 3, rws := 0xFFFF },  -- GRD_LVL_RATIO1
  { off := 0x74 },  -- GRD_STATUS
  { off := 0x78 },  -- GRD_TSET
  { off := 0x7C },  -- GRD_MIN_SLACK
  { off := 0x80 },  -- GRD_VAL_INFO
  { off := 0x84, rw := 0xFFFFFFFF, cnt := true },  -- GRD_RAMP_CNT
  { off := 0x88, rw := 0xFFFFFFFF, cnt := true },  -- GRD_LVL_LIMIT_CNT
  { off := 0x8C, rw := 0xFFFFFFFF, cnt := true },  -- GRD_STRETCH_CNT
  { off := 0x100, stride := 0x8, count := 32, rws := 0xFF0D1F },  -- GRD_PRG0_A
  { off := 0x104, stride := 0x8, count := 32, rws := 0xFFFFFFF },  -- GRD_PRG0_B
  { off := 0x200, stride := 0x8, count := 32, rws := 0xFF0D1F },  -- GRD_PRG1_A
  { off := 0x204, stride := 0x8, count := 32, rws := 0xFFFFFFF },  -- GRD_PRG1_B
  { off := 0x300, stride := 0x8, count := 32 },  -- GRD_BLK_TS
  { off := 0x304, stride := 0x8, count := 32 },  -- GRD_BLK_E
  { off := 0x400, stride := 0x8, count := 32, reset := [0x9600], rw := 0xFFFFFF }  -- GRD_BLK_TS_TGT
]

def rows_grd_1 : List RegRow := [
  { off := 0x404, stride := 0x8, count := 32, reset := [0x4B00], rw := 0xFFFFFF }  -- GRD_BLK_E_TGT
]

/-- The block registers of the grd page type (spec/05). -/
def rows_grd : List RegRow := rows_grd_0 ++ rows_grd_1

def rows_ltn_0 : List RegRow := [
  { off := 0x44, reset := [0x3], rws := 0x3 },  -- LTN_CFG
  { off := 0x48, stride := 0x4, count := 4, rws := 0xFFF },  -- LTN_LVL_CODE
  { off := 0x58, rws := 0xFFFF },  -- LTN_FLUX_TGT
  { off := 0x5C, reset := [0x1908], rws := 0xFF0F },  -- LTN_LOOP
  { off := 0x60, reset := [0x5B8D80], rwl := 0xFFFFFF },  -- LTN_WIN_MAX
  { off := 0x64, reset := [0x4F000], rwl := 0xFFFFF },  -- LTN_OP
  { off := 0x68, rwl := 0x10FFF },  -- LTN_FALLBACK
  { off := 0x6C, rwl := 0xFFFF },  -- LTN_FALLBACK_TGT
  { off := 0x70, rwl := 0xFFFF },  -- LTN_LEGAL_FLOOR
  { off := 0x74, reset := [0x6401F4], rws := 0x1FF03FF },  -- LTN_LSEL_TIME
  { off := 0x78, rw := 0xFFF },  -- LTN_PATH_RET
  { off := 0x7C, rw := 0xFFF0FFF },  -- LTN_PATH_OPT
  { off := 0x80 },  -- LTN_DOUT_OPEN
  { off := 0x84 },  -- LTN_DOUT_CLOSE
  { off := 0x88, reset := [0x3E8], rws := 0xFFFF },  -- LTN_MEAS
  { off := 0x8C, stride := 0x4, count := 3 },  -- LTN_MEAS_RATIO1
  { off := 0x98 },  -- LTN_DARK
  { off := 0x9C },  -- LTN_FLUX_LAST
  { off := 0xA0, reset := [0x400000] },  -- LTN_LOOP_GAIN
  { off := 0xA4, reset := [0x80004000] },  -- LTN_SCALE
  { off := 0xA8, reset := [0x8000] },  -- LTN_LIMIT_IN
  { off := 0xAC },  -- LTN_ILK_STAT
  { off := 0xB0 },  -- LTN_ILK_CMD
  { off := 0xB4 }  -- LTN_ILK_TIME_NS
]

def rows_ltn_1 : List RegRow := [
  { off := 0xB8 },  -- LTN_ILK_TIME_SEC
  { off := 0xBC },  -- LTN_ADC
  { off := 0xC0, rw := 0xFFFFFFFF, cnt := true },  -- LTN_TRIP_CNT
  { off := 0xC4, rw := 0xFFFFFFFF, cnt := true },  -- LTN_SETPT_MISS_CNT
  { off := 0xC8, rw := 0xFFFFFFFF, cnt := true },  -- LTN_LEVEL_SAT_CNT
  { off := 0xCC, rw := 0xFFFFFFFF, cnt := true },  -- LTN_LOOP_SAT_CNT
  { off := 0xD0, rw := 0xFFFFFFFF, cnt := true },  -- LTN_LSEL_TIGHT_CNT
  { off := 0xD4 },  -- LTN_STATUS
  { off := 0xD8, rw := 0xFFFFFFFF, cnt := true }  -- LTN_DRV_FAULT_CNT
]

/-- The block registers of the ltn page type (spec/06). -/
def rows_ltn : List RegRow := rows_ltn_0 ++ rows_ltn_1

def rows_scn_0 : List RegRow := [
  { off := 0x44, reset := [0x1002], rws := 0xFF3A },  -- SCN_CFG
  { off := 0x48, reset := [0xB40400], rws := 0x3FF07FF },  -- SCN_GEOM
  { off := 0x4C, reset := [0x14], rws := 0x7F },  -- SCN_FLYBACK
  { off := 0x50, reset := [0x5DC055F0], rws := 0xFFFFFFFF },  -- SCN_FAST_FREQ
  { off := 0x54, reset := [0x5A006000], rws := 0xFF00FFFF },  -- SCN_FAST_AMP
  { off := 0x58, reset := [0x4000], rws := 0xFFFF },  -- SCN_FAST_PHASE
  { off := 0x5C, reset := [0xE0000404], rws := 0xFFFF0F0F },  -- SCN_LOOP
  { off := 0x60, rws := 0xFFFFFFFF },  -- SCN_PHASE_OFS
  { off := 0x64, reset := [0xC0004000], rws := 0xFFFFFFFF },  -- SCN_SLOW_RANGE
  { off := 0x68, reset := [0x8000], rws := 0xFFFF },  -- SCN_SLOW_PARK
  { off := 0x6C, reset := [0x30400], rws := 0xFFFFF },  -- SCN_SLOW_TOL
  { off := 0x70, rws := 0xFFFF },  -- SCN_BG
  { off := 0x74, reset := [0x32], rws := 0x3FF },  -- SCN_FENCE_LEAD
  { off := 0x78 },  -- SCN_CMD
  { off := 0x7C, rw := 0x107FF },  -- SCN_PTT_IDX
  { off := 0x80, rw := 0xFFFFFF },  -- SCN_PTT_DATA
  { off := 0x84 },  -- SCN_PNOM
  { off := 0x88 },  -- SCN_FAST_MEAS
  { off := 0x8C },  -- SCN_FAST_AMP_MEAS
  { off := 0x90 },  -- SCN_MIN_SLOT
  { off := 0x94 },  -- SCN_FSTART_NS
  { off := 0x98 },  -- SCN_FSTART_SEC
  { off := 0x9C },  -- SCN_UNDERRUN_INFO
  { off := 0xA0 }  -- SCN_STATE_INFO
]

def rows_scn_1 : List RegRow := [
  { off := 0xA4 },  -- SCN_STATUS
  { off := 0xB0, rw := 0xFFFFFFFF, cnt := true },  -- SCN_FRAME_CNT
  { off := 0xB4, rw := 0xFFFFFFFF, cnt := true },  -- SCN_REPEAT_CNT
  { off := 0xB8, rw := 0xFFFFFFFF, cnt := true },  -- SCN_LATE_CNT
  { off := 0xBC, rw := 0xFFFFFFFF, cnt := true },  -- SCN_UNDERRUN_CNT
  { off := 0xC0, rw := 0xFFFFFFFF, cnt := true }  -- SCN_AMP_LOSS_CNT
]

/-- The block registers of the scn page type (spec/08 R218). -/
def rows_scn : List RegRow := rows_scn_0 ++ rows_scn_1

def rows_sxl_0 : List RegRow := [
  { off := 0x44, reset := [0x30F], rws := 0x33F },  -- SXL_CFG
  { off := 0x48, reset := [0xC8015E], rws := 0x3FF03FF },  -- SXL_EYE
  { off := 0x4C, reset := [0x10], rws := 0xFFFF },  -- SXL_CRC_LIMIT
  { off := 0x50, reset := [0x3E801F4], rw := 0xFFFFFFFF },  -- SXL_RETRY
  { off := 0x54, rwl := 0xFFFFFFFF },  -- SXL_ID_EXPECT
  { off := 0x58, rw := 0xFFF },  -- SXL_ECHO_RET
  { off := 0x5C },  -- SXL_LAT_COMP
  { off := 0x60 },  -- SXL_LAT_RES
  { off := 0x64 },  -- SXL_PARK_LOAD
  { off := 0x68 },  -- SXL_STATUS
  { off := 0x6C },  -- SXL_ARRAY_ID
  { off := 0x70 },  -- SXL_ARRAY_GEOM
  { off := 0x74 },  -- SXL_ARRAY_CAP
  { off := 0x78 },  -- SXL_ARRAY_TEMP
  { off := 0x7C },  -- SXL_EYE_WORST
  { off := 0x80, stride := 0x4, count := 8 },  -- SXL_EYE_LANE
  { off := 0xA0, rw := 0xFFFFFFFF, cnt := true },  -- SXL_CRC_CNT
  { off := 0xA4, rw := 0xFFFFFFFF, cnt := true },  -- SXL_LOSS_CNT
  { off := 0xA8, rw := 0xFFFFFFFF, cnt := true },  -- SXL_STEP_CNT
  { off := 0xAC, rw := 0xFFFFFFFF, cnt := true },  -- SXL_TRAIN_CNT
  { off := 0xB0, rw := 0xFFFFFFFF, cnt := true },  -- SXL_SB_ERR_CNT
  { off := 0xB4, rw := 0xFFFFFFFF, cnt := true },  -- SXL_LATE_CMD_CNT
  { off := 0xB8 },  -- SXL_TRAIN_TIME
  { off := 0xBC }  -- SXL_LOSS_INFO
]

def rows_sxl_1 : List RegRow := [
  { off := 0xC0, stride := 0x4, count := 3 }  -- SXL_LAT_RATE
]

/-- The block registers of the sxl page type (spec/07). -/
def rows_sxl : List RegRow := rows_sxl_0 ++ rows_sxl_1

def rows_comp0_0 : List RegRow := [
  { off := 0x44, reset := [0x2], rws := 0x3 },  -- COMP_CFG
  { off := 0x48, reset := [0x7D0], rws := 0xFFFF },  -- COMP_TRIG_TIMEOUT
  { off := 0x4C, rws := 0xFFF3FFF },  -- COMP_CANVAS
  { off := 0x50, reset := [0xF], rws := 0xF },  -- COMP_LAYER_EN
  { off := 0x54, rwl := 0x3 },  -- COMP_SAFETY
  { off := 0x58 },  -- COMP_STATUS
  { off := 0x5C },  -- COMP_LAST_DUR
  { off := 0x60, rw := 0xFFFFFFFF, cnt := true },  -- COMP_CNT
  { off := 0x64, rw := 0xFFFFFFFF, cnt := true },  -- COMP_SAT_CNT
  { off := 0x68, rw := 0xFFFFFFFF, cnt := true },  -- COMP_L3_CONFLICT_CNT
  { off := 0x6C, rw := 0xFFFFFFFF, cnt := true },  -- COMP_MOTION_STALE_CNT
  { off := 0x70, rw := 0xFFFFFFFF, cnt := true },  -- COMP_MASK_STALE_CNT
  { off := 0x80, rw := 0xFFFFFFFF },  -- MOT_YAW
  { off := 0x84, rw := 0xFFFFFFFF },  -- MOT_PITCH
  { off := 0x88, rw := 0xFFFFFFFF },  -- MOT_SPEED
  { off := 0x8C, rw := 0xFFFFFFFF },  -- MOT_STAMP_SEC
  { off := 0x90, rw := 0x3FFFFFFF },  -- MOT_STAMP_NS
  { off := 0xA0, reset := [0x2], rws := 0x3 },  -- PTW_CFG
  { off := 0xA4, reset := [0xC350], rws := 0xFFFF },  -- PTW_MAX_HORIZON
  { off := 0xA8, reset := [0x400040], rws := 0xFF00FF },  -- PTW_LIMITS
  { off := 0xAC, rws := 0x7FF1FFF },  -- PTW_FOE
  { off := 0xB0, rws := 0xFFFFFF },  -- CANVAS_RES_X
  { off := 0xB4, rws := 0xFFFFFF },  -- CANVAS_RES_Y
  { off := 0xB8 }  -- PTW_LAST_DX
]

def rows_comp0_1 : List RegRow := [
  { off := 0xBC },  -- PTW_LAST_DY
  { off := 0xC0 },  -- PTW_LAST_HORIZON
  { off := 0xC4, rw := 0xFFFFFFFF, cnt := true },  -- PTW_CLIP_CNT
  { off := 0xD0, rws := 0x3 },  -- STITCH_CFG
  { off := 0xD4, stride := 0x4, count := 4, rws := 0xFFFFFFFF }  -- STITCH_ENG
]

/-- The block registers of the comp0 page type (spec/03 R90). -/
def rows_comp0 : List RegRow := rows_comp0_0 ++ rows_comp0_1

def rows_compE_0 : List RegRow := [
  { off := 0x44, rws := 0xFF0133 },  -- CE_CFG
  { off := 0x48, rws := 0x7FF1FFF },  -- CE_WIN_ORG
  { off := 0x4C, rws := 0xFFF3FFF },  -- CE_WIN_SIZE
  { off := 0x50, rws := 0xFFFFFFFF },  -- CE_BASE_ADDR
  { off := 0x54, rws := 0xFFFFF },  -- CE_BASE_STRIDE
  { off := 0x58, rws := 0xFFFFFFFF },  -- CE_MESH_ADDR
  { off := 0x5C, rws := 0xFFFFFFFF },  -- CE_UNIF_ADDR
  { off := 0x60, rw := 0xFFFFFFFF, cnt := true },  -- CE_WARP_SLIP_CNT
  { off := 0x64 },  -- CE_DONE
  { off := 0x68 }  -- CE_UNIF_FADE_POS
]

/-- The block registers of the compE page type (spec/03 R91). -/
def rows_compE : List RegRow := rows_compE_0

def rows_comp5_0 : List RegRow := [
  { off := 0x44, stride := 0x40, count := 2, rws := 0x1 },  -- CS_CFG
  { off := 0x48, stride := 0x40, count := 2, rws := 0x7FF1FFF },  -- CS_WIN_ORG
  { off := 0x4C, stride := 0x40, count := 2, rws := 0xFFF3FFF },  -- CS_WIN_SIZE
  { off := 0x50, stride := 0x40, count := 2, rws := 0xFFFFFFFF },  -- CS_BASE_ADDR
  { off := 0x54, stride := 0x40, count := 2, rws := 0xFFFFF },  -- CS_BASE_STRIDE
  { off := 0x58, stride := 0x40, count := 2, rws := 0xFFFFFFFF },  -- CS_MESH_ADDR
  { off := 0x5C, stride := 0x40, count := 2, rw := 0xFFFFFFFF, cnt := true }  -- CS_SKIP_CNT
]

/-- The block registers of the comp5 page type (spec/03 R92). -/
def rows_comp5 : List RegRow := rows_comp5_0

def rows_comp6_0 : List RegRow := [
  { off := 0x44, rws := 0xFFFFFFFF },  -- SIGNAL_ADDR
  { off := 0x48, rws := 0xFFFFF },  -- SIGNAL_STRIDE
  { off := 0x4C, rws := 0xFFFFFFFF },  -- L3_ADDR
  { off := 0x50, rws := 0xFFFFF },  -- L3_STRIDE
  { off := 0x54, rws := 0x3 },  -- L3_CFG
  { off := 0x58, rws := 0x7FF1FFF },  -- CREMA_ORG
  { off := 0x5C, reset := [0x100], rws := 0xFFFF },  -- CREMA_SCALE
  { off := 0x60, rws := 0xFF },  -- CREMA_OUTSIDE
  { off := 0x64, reset := [0x64FF01], rws := 0xFFFFFF01 }  -- CREMA_STALE
]

/-- The block registers of the comp6 page type (spec/03 R93). -/
def rows_comp6 : List RegRow := rows_comp6_0

def rows_comp7_0 : List RegRow := [
  { off := 0x44, rw := 0xF1 },  -- IMS_CFG
  { off := 0x48, rw := 0xFFFFFFFF },  -- IMS_MASK_BASE
  { off := 0x4C, reset := [0x2710], rw := 0xFFFF },  -- IMS_ASSEMBLY_TIMEOUT
  { off := 0x50, stride := 0x4, count := 4 },  -- MASK_SLOT_STAT
  { off := 0x70, stride := 0x4, count := 4 },  -- MASK_SLOT_CAP
  { off := 0x80, rw := 0xFFFFFFFF, cnt := true },  -- MASK_COMPLETE_CNT
  { off := 0x84, rw := 0xFFFFFFFF, cnt := true },  -- MASK_SUPERSEDED_CNT
  { off := 0x88, rw := 0xFFFFFFFF, cnt := true },  -- MASK_LEN_CNT
  { off := 0x8C, rw := 0xFFFFFFFF, cnt := true },  -- MASK_PARAM_CNT
  { off := 0x90, rw := 0xFFFFFFFF, cnt := true },  -- MASK_DROP_CNT
  { off := 0x94, rw := 0xFFFFFFFF, cnt := true },  -- MASK_ORDER_CNT
  { off := 0x98, rw := 0xFFFFFFFF, cnt := true },  -- MASK_TIMEOUT_CNT
  { off := 0x9C, rw := 0xFFFFFFFF, cnt := true },  -- SEG_DUP_CNT
  { off := 0xA0, rw := 0xFFFFFFFF, cnt := true }  -- TILE_DUP_CNT
]

/-- The block registers of the comp7 page type (spec/03 R94). -/
def rows_comp7 : List RegRow := rows_comp7_0

def rows_dmc0_0 : List RegRow := [
  { off := 0x44, reset := [0x800], rw := 0xFF3 },  -- DMC_CFG
  { off := 0x48 },  -- DMC_SIZE
  { off := 0x4C, rw := 0x7F },  -- DMC_APER_BASE
  { off := 0x50 },  -- DMC_CMD
  { off := 0x54, reset := [0x3E8], rw := 0xFFFF },  -- DMC_PD_IDLE
  { off := 0x58, reset := [0x64], rw := 0x3FFF },  -- DMC_RETRAIN
  { off := 0x5C, reset := [0x10], rw := 0xFF },  -- DMC_TEMP_MS
  { off := 0x60, rw := 0xF },  -- DMC_TEMP_SRC
  { off := 0x64, reset := [0x190], rw := 0x3FF },  -- DMC_EYE_MIN
  { off := 0x68 },  -- DMC_TRAIN_TIME
  { off := 0x6C, rw := 0xFFFFFFFF, cnt := true }  -- DMC_FAULT_DROP_CNT
]

/-- The block registers of the dmc0 page type (spec/12 R317). -/
def rows_dmc0 : List RegRow := rows_dmc0_0

def rows_dmc1_0 : List RegRow := [
  { off := 0x100, stride := 0x20, count := 8, reset := [0xFA0, 0x1F40, 0x4E20, 0x4E20, 0x7D0, 0xC350, 0x186A0, 0x30D40], rw := 0xFFFFF },  -- DMC_P_TARGET
  { off := 0x104, stride := 0x20, count := 8 },  -- DMC_P_STATUS
  { off := 0x108, stride := 0x20, count := 8, rw := 0xFFFFFFFF },  -- DMC_P_MAXLAT
  { off := 0x10C, stride := 0x20, count := 8, rw := 0xFFFFFFFF, cnt := true },  -- DMC_P_OVER_CNT
  { off := 0x110, stride := 0x20, count := 8, rw := 0xFFFFFFFF, cnt := true },  -- DMC_P_RD_CNT
  { off := 0x114, stride := 0x20, count := 8, rw := 0xFFFFFFFF, cnt := true }  -- DMC_P_WR_CNT
]

/-- The block registers of the dmc1 page type (spec/12 R318). -/
def rows_dmc1 : List RegRow := rows_dmc1_0

def rows_dmc2_0 : List RegRow := [
  { off := 0x100, stride := 0x20, count := 8 },  -- DMC_CH_STAT
  { off := 0x104, stride := 0x20, count := 8 },  -- DMC_CH_MARGIN
  { off := 0x108, stride := 0x20, count := 8 },  -- DMC_CH_DRIFT
  { off := 0x10C, stride := 0x20, count := 8 },  -- DMC_CH_TEMP
  { off := 0x110, stride := 0x20, count := 8, rw := 0xFFFFFFFF, cnt := true },  -- DMC_CH_FORCED_REF_CNT
  { off := 0x114, stride := 0x20, count := 8, rw := 0xFFFFFFFF, cnt := true },  -- DMC_CH_DRAIN_CNT
  { off := 0x118, stride := 0x20, count := 8, rw := 0xFFFFFFFF, cnt := true },  -- DMC_CH_LECC_CE_CNT
  { off := 0x11C, stride := 0x20, count := 8, rw := 0xFFFFFFFF, cnt := true }  -- DMC_CH_LECC_UE_CNT
]

/-- The block registers of the dmc2 page type (spec/12 R319). -/
def rows_dmc2 : List RegRow := rows_dmc2_0

def rows_dmc3_0 : List RegRow := [
  { off := 0x44, reset := [0xC80FA0], rw := 0x3FFFFFFF },  -- DMC_RH_CFG
  { off := 0x48 },  -- DMC_RH_INFO
  { off := 0x4C, w1c := 0xFF },  -- DMC_RH_FLAG
  { off := 0x50, rw := 0xFFFFFFFF, cnt := true }  -- DMC_RH_CNT
]

/-- The block registers of the dmc3 page type (spec/12 R320). -/
def rows_dmc3 : List RegRow := rows_dmc3_0

def rows_np_0 : List RegRow := [
  { off := 0x44, reset := [0xA], rws := 0xFF },  -- NP_GRP_CFG
  { off := 0x48, reset := [0x8000] },  -- NP_LIMIT_IN
  { off := 0x4C },  -- NP_GRP_STATUS
  { off := 0x100, stride := 0x80, count := 8, reset := [0x80], rws := 0x17F1FF7 },  -- NP_CFG
  { off := 0x104, stride := 0x80, count := 8, rws := 0x3FFFFF },  -- NP_IMG_ADDR
  { off := 0x108, stride := 0x80, count := 8, rws := 0x3FFFFF },  -- NP_STAT_ADDR
  { off := 0x10C, stride := 0x80, count := 8, reset := [0x1000C8], rws := 0xFFFFFF },  -- NP_TIMING
  { off := 0x110, stride := 0x80, count := 8, rws := 0xFF },  -- NP_FADE
  { off := 0x114, stride := 0x80, count := 8, rws := 0x3FFFFFFF },  -- NP_CLASS0
  { off := 0x118, stride := 0x80, count := 8, rws := 0x3FFFFFFF },  -- NP_CLASS1
  { off := 0x11C, stride := 0x80, count := 8, rws := 0x3FFFFFFF },  -- NP_CLASS2
  { off := 0x120, stride := 0x80, count := 8, rws := 0x3F },  -- NP_CLASS3
  { off := 0x124, stride := 0x80, count := 8, rwl := 0xFFFF },  -- NP_LEGAL_FLOOR
  { off := 0x128, stride := 0x80, count := 8 },  -- NP_CMD
  { off := 0x12C, stride := 0x80, count := 8, rw := 0xFFFFFFFF },  -- NP_CFGACC
  { off := 0x130, stride := 0x80, count := 8 },  -- NP_CFGRD
  { off := 0x134, stride := 0x80, count := 8 },  -- NP_STATUS
  { off := 0x138, stride := 0x80, count := 8 },  -- NP_LATCH_NS
  { off := 0x13C, stride := 0x80, count := 8 },  -- NP_LATCH_SEC
  { off := 0x140, stride := 0x80, count := 8, rw := 0xFFFFFFFF, cnt := true },  -- NP_FRAME_CNT
  { off := 0x144, stride := 0x80, count := 8, rw := 0xFFFFFFFF, cnt := true },  -- NP_NODE_ERR_CNT
  { off := 0x148, stride := 0x80, count := 8, rw := 0xFFFFFFFF, cnt := true },  -- NP_RI_ERR_CNT
  { off := 0x14C, stride := 0x80, count := 8, rw := 0xFFFFFFFF, cnt := true },  -- NP_FAULT_CNT
  { off := 0x150, stride := 0x80, count := 8, rw := 0xFFFFFFFF, cnt := true }  -- NP_DIAGREQ_CNT
]

def rows_np_1 : List RegRow := [
  { off := 0x154, stride := 0x80, count := 8, rw := 0xFFFFFFFF, cnt := true },  -- NP_LATE_CNT
  { off := 0x158, stride := 0x80, count := 8 }  -- NP_FRAME_LEN
]

/-- The block registers of the np page type (spec/09 R247). -/
def rows_np : List RegRow := rows_np_0 ++ rows_np_1

def rows_np0_0 : List RegRow := [
  { off := 0x80, rw := 0xFFFF },  -- NPK_CFG
  { off := 0x84, rw := 0x3FFC },  -- NPK_ADDR
  { off := 0x88, rw := 0xFFFFFFFF },  -- NPK_DATA
  { off := 0xA0, stride := 0x4, count := 8, rw := 0x17F3FFF },  -- NPK_PORT
  { off := 0x600, stride := 0x4, count := 64, reset := [0x40004000], rws := 0xFFFFFFFF }  -- NP_CLASS_TBL
]

/-- The block registers of the np0 page type (spec/09 R247, group 0 only). -/
def rows_np0 : List RegRow := rows_np0_0

def rows_mx_0 : List RegRow := [
  { off := 0x44, reset := [0x8000] },  -- MX_LIMIT_IN
  { off := 0x48 },  -- MX_GRP_STATUS
  { off := 0x100, stride := 0x80, count := 8, rws := 0x3F0F1FF3 },  -- MX_CFG
  { off := 0x104, stride := 0x80, count := 8, rws := 0x3FFFFF },  -- MX_IMG_ADDR
  { off := 0x108, stride := 0x80, count := 8, reset := [0x3F940B], rws := 0x7FFFFF },  -- MX_PERIOD
  { off := 0x10C, stride := 0x80, count := 8, rws := 0x7FFFFF },  -- MX_PHASE
  { off := 0x110, stride := 0x80, count := 8, reset := [0xF0C01F4], rws := 0xFF1F07FF },  -- MX_ROWT
  { off := 0x114, stride := 0x80, count := 8, reset := [0x5], rws := 0xFF },  -- MX_BUS
  { off := 0x118, stride := 0x80, count := 8, rws := 0xFFFF },  -- MX_BG
  { off := 0x11C, stride := 0x80, count := 8, reset := [0x320000], rws := 0x3FF0001 },  -- MX_TE
  { off := 0x120, stride := 0x80, count := 8, rwl := 0xFFFF },  -- MX_LEGAL_FLOOR
  { off := 0x124, stride := 0x80, count := 8 },  -- MX_CMD
  { off := 0x128, stride := 0x80, count := 8 },  -- MX_STATUS
  { off := 0x12C, stride := 0x80, count := 8 },  -- MX_FSTART_NS
  { off := 0x130, stride := 0x80, count := 8 },  -- MX_FSTART_SEC
  { off := 0x134, stride := 0x80, count := 8 },  -- MX_TE_PERIOD
  { off := 0x138, stride := 0x80, count := 8 },  -- MX_UNDERRUN_INFO
  { off := 0x140, stride := 0x80, count := 8, rw := 0xFFFFFFFF, cnt := true },  -- MX_FRAME_CNT
  { off := 0x144, stride := 0x80, count := 8, rw := 0xFFFFFFFF, cnt := true },  -- MX_UNDERRUN_CNT
  { off := 0x148, stride := 0x80, count := 8, rw := 0xFFFFFFFF, cnt := true },  -- MX_LATE_CNT
  { off := 0x14C, stride := 0x80, count := 8, rw := 0xFFFFFFFF, cnt := true },  -- MX_TE_TIMEOUT_CNT
  { off := 0x150, stride := 0x80, count := 8, rw := 0xFFFFFFFF, cnt := true }  -- MX_XFER_CNT
]

/-- The block registers of the mx page type (spec/10 R268). -/
def rows_mx : List RegRow := rows_mx_0

def rows_eth_0 : List RegRow := [
  { off := 0x44, rw := 0x173 },  -- ETH_CFG
  { off := 0x48, rw := 0xFFFF },  -- ETH_MAC_HI
  { off := 0x4C, rw := 0xFFFFFFFF },  -- ETH_MAC_LO
  { off := 0x50, rw := 0xFFFFFFFF },  -- ETH_IP
  { off := 0x54, reset := [0x4B654B64], rw := 0xFFFFFFFF },  -- ETH_UDP
  { off := 0x58, rw := 0xFFFFFFFF },  -- ETH_RX_BASE
  { off := 0x5C, reset := [0x10], rw := 0xFFF1FFF },  -- ETH_RX_CTL
  { off := 0x60 },  -- ETH_RX_TAIL
  { off := 0x64, rw := 0xFFFFFFFF },  -- ETH_TX_BASE
  { off := 0x68, reset := [0x10], rw := 0xFFF1FFF },  -- ETH_TX_CTL
  { off := 0x6C },  -- ETH_TX_HEAD
  { off := 0x70, stride := 0x4, count := 2, rw := 0xFFFFFFF },  -- ETH_CBS
  { off := 0x78, reset := [0x33221100], rw := 0xFFFFFFFF },  -- ETH_PCP_MAP
  { off := 0x7C },  -- ETH_STATUS
  { off := 0x80 },  -- ETH_MSEC_CTL
  { off := 0x84, rw := 0xFFFFFFFF },  -- ETH_MSEC_SCI_HI
  { off := 0x88, rw := 0xFFFFFFFF },  -- ETH_MSEC_SCI_LO
  { off := 0x8C, rw := 0xFFFFFFFF },  -- ETH_MSEC_SSCI
  { off := 0x90, stride := 0x4, count := 8 },  -- ETH_MSEC_KEY
  { off := 0xB0, reset := [0x1], rw := 0xFFFFFFFF },  -- ETH_MSEC_PN_HI
  { off := 0xB4, reset := [0x1], rw := 0xFFFFFFFF },  -- ETH_MSEC_PN_LO
  { off := 0xB8, rw := 0x3FFFFFFF },  -- ETH_MSEC_WIN
  { off := 0xC0, rw := 0xFFFFFFFF, cnt := true },  -- ETH_RX_CNT
  { off := 0xC4, rw := 0xFFFFFFFF, cnt := true }  -- ETH_RX_DROP_CNT
]

def rows_eth_1 : List RegRow := [
  { off := 0xC8, rw := 0xFFFFFFFF, cnt := true },  -- ETH_FCS_ERR_CNT
  { off := 0xCC, rw := 0xFFFFFFFF, cnt := true },  -- ETH_IMS_AUTH_CNT
  { off := 0xD0, rw := 0xFFFFFFFF, cnt := true },  -- ETH_ICP_AUTH_CNT
  { off := 0xD4, rw := 0xFFFFFFFF, cnt := true },  -- ETH_REPLAY_CNT
  { off := 0xD8, rw := 0xFFFFFFFF, cnt := true },  -- ETH_ICP_DROP_CNT
  { off := 0xDC, rw := 0xFFFFFFFF, cnt := true },  -- ETH_MSEC_DROP_CNT
  { off := 0xE0, rw := 0xFFFFFFFF, cnt := true }  -- ETH_LINK_DOWN_CNT
]

/-- The block registers of the eth page type (spec/18 R459). -/
def rows_eth : List RegRow := rows_eth_0 ++ rows_eth_1

def rows_can_0 : List RegRow := [
  { off := 0x44, reset := [0x10], rw := 0x3B },  -- CAN_CFG
  { off := 0x48, reset := [0x133F0F], rw := 0xFFFF7F7F },  -- CAN_NBT
  { off := 0x4C, reset := [0x30F03], rw := 0xFFFFFFFF },  -- CAN_DBT
  { off := 0x50, reset := [0x10501], rw := 0xFFFFFFFF },  -- CAN_XBT
  { off := 0x54, rw := 0x1FF },  -- CAN_TDC
  { off := 0x58, rw := 0xFFFFFFFF },  -- CAN_RX_BASE
  { off := 0x5C, reset := [0x10], rw := 0xFFFF1FFF },  -- CAN_RX_CTL
  { off := 0x60 },  -- CAN_RX_TAIL
  { off := 0x64, rw := 0xFFFFFFFF },  -- CAN_TX_BASE
  { off := 0x68, reset := [0x10], rw := 0xFFF1FFF },  -- CAN_TX_CTL
  { off := 0x6C },  -- CAN_TX_HEAD
  { off := 0x70 },  -- CAN_STATUS
  { off := 0x74 },  -- CAN_CMD
  { off := 0x80, rw := 0xFFFFFFFF, cnt := true },  -- CAN_RX_CNT
  { off := 0x84, rw := 0xFFFFFFFF, cnt := true },  -- CAN_TX_CNT
  { off := 0x88, rw := 0xFFFFFFFF, cnt := true },  -- CAN_ERRFRM_CNT
  { off := 0x8C, rw := 0xFFFFFFFF, cnt := true },  -- CAN_BUSOFF_CNT
  { off := 0x90, rw := 0xFFFFFFFF, cnt := true },  -- CAN_RX_OVF_CNT
  { off := 0x100, stride := 0x8, count := 64, rw := 0xDFFFFFFF },  -- CAN_FLT_ID
  { off := 0x104, stride := 0x8, count := 64, rw := 0x1FFFFFFF }  -- CAN_FLT_MASK
]

/-- The block registers of the can page type (spec/18 R460). -/
def rows_can : List RegRow := rows_can_0

def rows_stor_0 : List RegRow := [
  { off := 0x44, reset := [0x100], rw := 0x113 },  -- STOR_CFG
  { off := 0x48 },  -- STOR_CMD
  { off := 0x4C },  -- STOR_STATUS
  { off := 0x50 },  -- STOR_NSID
  { off := 0x54 },  -- STOR_CAP
  { off := 0x58 },  -- STOR_LBAF
  { off := 0x5C, rw := 0xFFFFFFFF },  -- STOR_Q_BASE
  { off := 0x60, rw := 0x3F },  -- STOR_IOSQ_TAIL
  { off := 0x64, rw := 0x3F },  -- STOR_IOCQ_HEAD
  { off := 0x68, rw := 0xFFFFFFFF },  -- REC_BASE
  { off := 0x6C, reset := [0x10], rw := 0x3FF },  -- REC_SIZE
  { off := 0x70 },  -- REC_WR
  { off := 0x74, rw := 0xFFFFFFFF },  -- REC_RD
  { off := 0x78, reset := [0x3F], rw := 0x3F },  -- REC_CFG
  { off := 0x80, rw := 0xFFFFFFFF, cnt := true },  -- STOR_CMD_CNT
  { off := 0x84, rw := 0xFFFFFFFF, cnt := true },  -- STOR_NVME_ERR_CNT
  { off := 0x88, rw := 0xFFFFFFFF, cnt := true },  -- STOR_TIMEOUT_CNT
  { off := 0x8C, rw := 0xFFFFFFFF, cnt := true },  -- STOR_RETRAIN_CNT
  { off := 0x90, rw := 0xFFFFFFFF, cnt := true }  -- REC_DROP_CNT
]

/-- The block registers of the stor page type (spec/18 R461). -/
def rows_stor : List RegRow := rows_stor_0

def rows_sec_0 : List RegRow := [
  { off := 0x44 },  -- SEC_STATUS
  { off := 0x48 },  -- SEC_KEY_CTL
  { off := 0x4C, rw := 0x1F003 },  -- SEC_KEY_CFG
  { off := 0x50, stride := 0x4, count := 8 },  -- SEC_KEY_DATA
  { off := 0x70 },  -- SEC_KEY_RES
  { off := 0x74 },  -- SEC_SVN_CMD
  { off := 0x78 },  -- SEC_RECOVERY
  { off := 0x80, stride := 0x4, count := 16 },  -- SEC_KEY_STAT
  { off := 0xC0, stride := 0x4, count := 2, reset := [0xFFFFFFFF], rwl := 0xFFFFFFFF },  -- SEC_HSPI_WR
  { off := 0xC8, stride := 0x4, count := 2, reset := [0xFFFFFFFF], rwl := 0xFFFFFFFF },  -- SEC_ICP_WR
  { off := 0xD0, reset := [0xF], rwl := 0xF },  -- SEC_HOST_MEM
  { off := 0x100, rw := 0xFFFFFFFF, cnt := true },  -- SEC_BLOCK_CNT
  { off := 0x104, rw := 0xFFFFFFFF, cnt := true }  -- SEC_SIG_FAIL_CNT
]

/-- The block registers of the sec page type (spec/18 R462). -/
def rows_sec : List RegRow := rows_sec_0

def rows_sys_berr : List RegRow := [
  { off := 0x48 }, { off := 0x4C }, { off := 0x50, rw := 0xFFFFFFFF, cnt := true } ]

end Sys2Proof.Machine
end

