-- ==== Sys2Proof/Machine/Pages.lean ====
section
/-!
DEFINITION. The address map (R31), the page types and their instances, the commit groups (R42), the
packages and the capability list (R2, R51, R52), interrupt sources (R56), and the reset value of every
register.
-/

namespace Sys2Proof.Machine

/-- The two packages of the IL7460 (spec/00, "Packages and what they bond out"). -/
inductive Package | f | c
  deriving DecidableEq, Repr

/-- A register page (R31). -/
inductive Page
  | sys | basecamp | pba | therm | cal | nvm | mbx | time | sched
  | eng (n : Fin 4) | grd (n : Fin 4) | ltn (n : Fin 6) | scn (k : Fin 2) | sxl (n : Fin 4)
  | comp (i : Fin 8) | dmc (i : Fin 4) | np (g : Fin 13) | mx (g : Fin 3)
  | eth (n : Fin 4) | can (n : Fin 4) | stor | sec
  deriving DecidableEq, Repr

/-- The base address of a page (R31). -/
def Page.base : Page → Nat
  | .sys => 0x40000000
  | .basecamp => 0x40001000
  | .pba => 0x40002000
  | .therm => 0x40003000
  | .cal => 0x40004000
  | .nvm => 0x40005000
  | .mbx => 0x40006000
  | .time => 0x40008000
  | .sched => 0x40009000
  | .eng n => 0x40010000 + n.val * 0x1000
  | .grd n => 0x40018000 + n.val * 0x1000
  | .ltn n => 0x40020000 + n.val * 0x1000
  | .scn k => 0x40028000 + k.val * 0x1000
  | .sxl n => 0x40030000 + n.val * 0x1000
  | .comp i => 0x40040000 + i.val * 0x1000
  | .dmc i => 0x40050000 + i.val * 0x1000
  | .np g => 0x40060000 + g.val * 0x1000
  | .mx g => 0x40070000 + g.val * 0x1000
  | .eth n => 0x40080000 + n.val * 0x1000
  | .can n => 0x40088000 + n.val * 0x1000
  | .stor => 0x40090000
  | .sec => 0x400A0000

/-- Element `k` of an instance range, if it is one. -/
def finOf (n k : Nat) : Option (Fin n) := if h : k < n then some ⟨k, h⟩ else none

/-- The page that holds an address (R31), declared or not. -/
def Page.ofAddr (a : Nat) : Option Page :=
  let q := a / 0x1000
  if q < 0x40000 then none
  else if q < 0x40010 then
    match q - 0x40000 with
    | 0 => some .sys | 1 => some .basecamp | 2 => some .pba | 3 => some .therm | 4 => some .cal
    | 5 => some .nvm | 6 => some .mbx | 8 => some .time | 9 => some .sched | _ => none
  else if q < 0x40018 then (finOf 4 (q - 0x40010)).map .eng
  else if q < 0x40020 then (finOf 4 (q - 0x40018)).map .grd
  else if q < 0x40028 then (finOf 6 (q - 0x40020)).map .ltn
  else if q < 0x40030 then (finOf 2 (q - 0x40028)).map .scn
  else if q < 0x40040 then (finOf 4 (q - 0x40030)).map .sxl
  else if q < 0x40050 then (finOf 8 (q - 0x40040)).map .comp
  else if q < 0x40060 then (finOf 4 (q - 0x40050)).map .dmc
  else if q < 0x40070 then (finOf 13 (q - 0x40060)).map .np
  else if q < 0x40080 then (finOf 3 (q - 0x40070)).map .mx
  else if q < 0x40088 then (finOf 4 (q - 0x40080)).map .eth
  else if q < 0x40090 then (finOf 4 (q - 0x40088)).map .can
  else if q = 0x40090 then some .stor
  else if q = 0x400A0 then some .sec
  else none

/-- The instance number that `BLK_ID.INST` reports (R34). -/
def Page.inst : Page → Nat
  | .eng n => n.val | .grd n => n.val | .ltn n => n.val | .scn k => k.val | .sxl n => n.val
  | .comp i => i.val | .dmc i => i.val | .np g => g.val | .mx g => g.val | .eth n => n.val
  | .can n => n.val | _ => 0

/-- The capability ID of the page's block (R52). -/
def Page.typeId : Page → Nat
  | .sys => 0x0200 | .basecamp => 0x0201 | .pba => 0x01C0 | .therm => 0x01A0 | .cal => 0x01B0
  | .nvm => 0x0205 | .mbx => 0x0202 | .time => 0x0203 | .sched => 0x0204
  | .eng _ => 0x0101 | .grd _ => 0x0110 | .ltn _ => 0x0120 | .scn _ => 0x0102 | .sxl _ => 0x0130
  | .comp _ => 0x0140 | .dmc _ => 0x0170 | .np _ => 0x0150 | .mx _ => 0x0151
  | .eth _ => 0x0208 | .can _ => 0x0207 | .stor => 0x0180 | .sec => 0x0206

/-- The flags word of the page's capability entry (R51, R52). -/
def Page.capFlags : Page → Nat
  | .comp _ => 0x0001 | .dmc _ => 0x0001 | .np _ => 0x0070 | .mx _ => 0x0070 | _ => 0

/-- The block-specific feature bits: R89 (COMP page 0), spec/06 (SCAN mode and ADC bank of a Lantern),
R498 (DMC page 0 on the IL7460-C). `BLKFEAT[b]` is bit `b` of the register. -/
def Page.blkFeat (k : Package) : Page → Nat
  | .comp i => if i.val = 0 then 3 else 0
  | .ltn n => (if n.val ≥ 4 then 1 else 0) + (if n.val ≥ 3 then 2 else 0)
  | .dmc i => if i.val = 0 ∧ k = .c then 1 else 0
  | _ => 0

/-- One entry of the capability list (R51): ID, base address, count and flags. -/
structure CapEntry where
  id : Nat
  base : Nat
  count : Nat
  flags : Nat
  deriving DecidableEq, Repr

/-- The capability entries of each package, in the order of R52. -/
def capEntries : Package → List CapEntry
  | .f => [⟨0x0200, 0x40000000, 1, 0⟩, ⟨0x0201, 0x40001000, 1, 0⟩, ⟨0x01C0, 0x40002000, 1, 0⟩,
      ⟨0x01A0, 0x40003000, 1, 0⟩, ⟨0x01B0, 0x40004000, 1, 0⟩, ⟨0x0205, 0x40005000, 1, 0⟩,
      ⟨0x0202, 0x40006000, 1, 0⟩, ⟨0x0203, 0x40008000, 1, 0⟩, ⟨0x0204, 0x40009000, 1, 0⟩,
      ⟨0x0101, 0x40010000, 4, 0⟩, ⟨0x0110, 0x40018000, 4, 0⟩, ⟨0x0120, 0x40020000, 6, 0⟩,
      ⟨0x0102, 0x40028000, 2, 0⟩, ⟨0x0130, 0x40030000, 4, 0⟩, ⟨0x0140, 0x40040000, 8, 1⟩,
      ⟨0x0141, 0x40040000, 1, 2⟩, ⟨0x0142, 0x40040000, 1, 2⟩, ⟨0x0150, 0x40060000, 13, 0x70⟩,
      ⟨0x0151, 0x40070000, 3, 0x70⟩, ⟨0x0170, 0x40050000, 4, 1⟩, ⟨0x0208, 0x40080000, 4, 0⟩,
      ⟨0x0160, 0x40080000, 2, 2⟩, ⟨0x0161, 0x40082000, 2, 2⟩, ⟨0x0190, 0x40080000, 4, 2⟩,
      ⟨0x0207, 0x40088000, 4, 0⟩, ⟨0x0180, 0x40090000, 1, 0⟩, ⟨0x0206, 0x400A0000, 1, 0⟩]
  | .c => [⟨0x0200, 0x40000000, 1, 0⟩, ⟨0x0201, 0x40001000, 1, 0⟩, ⟨0x01C0, 0x40002000, 1, 0⟩,
      ⟨0x01A0, 0x40003000, 1, 0⟩, ⟨0x01B0, 0x40004000, 1, 0⟩, ⟨0x0205, 0x40005000, 1, 0⟩,
      ⟨0x0202, 0x40006000, 1, 0⟩, ⟨0x0203, 0x40008000, 1, 0⟩, ⟨0x0204, 0x40009000, 1, 0⟩,
      ⟨0x0101, 0x40010000, 2, 0⟩, ⟨0x0110, 0x40018000, 2, 0⟩, ⟨0x0120, 0x40020000, 2, 0⟩,
      ⟨0x0120, 0x40024000, 1, 0⟩, ⟨0x0102, 0x40028000, 1, 0⟩, ⟨0x0130, 0x40030000, 2, 0⟩,
      ⟨0x0140, 0x40040000, 8, 1⟩, ⟨0x0141, 0x40040000, 1, 2⟩, ⟨0x0142, 0x40040000, 1, 2⟩,
      ⟨0x0150, 0x40060000, 6, 0x70⟩, ⟨0x0151, 0x40070000, 1, 0x70⟩, ⟨0x0170, 0x40050000, 4, 1⟩,
      ⟨0x0208, 0x40082000, 2, 0⟩, ⟨0x0161, 0x40082000, 2, 2⟩, ⟨0x0190, 0x40082000, 2, 2⟩,
      ⟨0x0207, 0x40088000, 2, 0⟩, ⟨0x0206, 0x400A0000, 1, 0⟩]

/-- The word of the capability list at SYS offset `off` (R51); offsets that no entry occupies read 0. -/
def capWord (k : Package) (off : Nat) : Nat :=
  let i := (off - 0x100) / 0x10
  match (capEntries k)[i]? with
  | none => 0
  | some e =>
    match (off - 0x100) % 0x10 with
    | 0 => e.id * 0x10000 + 0x100 + e.count
    | 4 => e.base
    | 8 => 0x10000000 + e.flags
    | 12 => if i + 1 < (capEntries k).length then 0x100 + (i + 1) * 0x10 else 0
    | _ => 0

/-- Whether the capability list declares the page (R3): the packages table of spec/00 and R52. -/
def Page.declared (k : Package) (p : Page) : Bool :=
  match k, p with
  | .f, _ => true
  | .c, .eng n => n.val < 2
  | .c, .grd n => n.val < 2
  | .c, .ltn n => n.val < 2 || n.val == 4
  | .c, .scn n => n.val < 1
  | .c, .sxl n => n.val < 2
  | .c, .np g => g.val < 6
  | .c, .mx g => g.val < 1
  | .c, .eth n => 2 ≤ n.val
  | .c, .can n => n.val < 2
  | .c, .stor => false
  | .c, _ => true

/-- A commit group (R42): pages that commit together, or a page alone. -/
inductive Group
  | eng (n : Fin 4) | scn (k : Fin 2) | comp | np (g : Fin 13) | mx (g : Fin 3) | alone (p : Page)
  deriving DecidableEq, Repr

/-- The commit group of a page (R42). -/
def Page.group : Page → Group
  | .eng n => .eng n
  | .grd n => .eng n
  | .sxl n => .eng n
  | .ltn n => if h : n.val < 4 then .eng ⟨n.val, h⟩ else .scn ⟨n.val - 4, by omega⟩
  | .scn k => .scn k
  | .comp _ => .comp
  | .np g => .np g
  | .mx g => .mx g
  | p => .alone p

/-- The Lantern that serves a mirror engine, and the one that serves a scanner (spec/00). -/
def ltnOfEng (n : Fin 4) : Fin 6 := ⟨n.val, by omega⟩
def ltnOfScn (k : Fin 2) : Fin 6 := ⟨k.val + 4, by omega⟩

/-- The compositor page of a mirror engine (R91). -/
def compOfEng (n : Fin 4) : Page := .comp ⟨n.val + 1, by omega⟩

/-- The pages of a commit group (R42). Its first page holds the group's one `COMMIT` register. -/
def Group.pages : Group → List Page
  | .eng n => [.eng n, .grd n, .ltn (ltnOfEng n), .sxl n]
  | .scn k => [.scn k, .ltn (ltnOfScn k)]
  | .comp => [.comp 0, .comp 1, .comp 2, .comp 3, .comp 4, .comp 5, .comp 6, .comp 7]
  | .np g => [.np g]
  | .mx g => [.mx g]
  | .alone p => [p]

/-- The page whose cell holds `COMMIT` of the group, since it reads the same on every page (R42). -/
def Group.home : Group → Page
  | .eng n => .eng n
  | .scn k => .scn k
  | .comp => .comp 0
  | .np g => .np g
  | .mx g => .mx g
  | .alone p => p

/-- The interrupt source number of a page (R56); all pages of COMP and of DMC share one line. -/
def Page.source : Page → Nat
  | .sys => 0 | .basecamp => 1 | .pba => 2 | .therm => 3 | .cal => 4 | .nvm => 5 | .mbx => 6
  | .time => 7 | .sched => 8 | .eng n => 9 + n.val | .grd n => 13 + n.val | .ltn n => 17 + n.val
  | .scn k => 23 + k.val | .sxl n => 25 + n.val | .comp _ => 29 | .dmc _ => 30 | .stor => 31
  | .np g => 32 + g.val | .mx g => 45 + g.val | .eth n => 48 + n.val | .can n => 52 + n.val
  | .sec => 56

/-- Every page of the address map (R31). -/
def allPages : List Page :=
  [.sys, .basecamp, .pba, .therm, .cal, .nvm, .mbx, .time, .sched] ++
  (List.finRange 4).map .eng ++ (List.finRange 4).map .grd ++ (List.finRange 6).map .ltn ++
  (List.finRange 2).map .scn ++ (List.finRange 4).map .sxl ++ (List.finRange 8).map .comp ++
  (List.finRange 4).map .dmc ++ (List.finRange 13).map .np ++ (List.finRange 3).map .mx ++
  (List.finRange 4).map .eth ++ (List.finRange 4).map .can ++ [.stor, .sec]

/-- The header rows of every page (R34): `BLK_CTRL`, `IRQ_STAT`, `IRQ_EN`, `COMMIT`, and the counter
`ERR_CNT`. `BLK_CTRL.EN` is RO and reads 1 on SYS, BASECAMP, MBX and TIME. `ERR_CODE` and `LOCK` have
rules of their own (R15, R49), and their rows only give them a cell. -/
def headerRows (enFixed : Bool) : List RegRow := [
  { off := 0x008, reset := [if enFixed then 1 else 0], rw := if enFixed then 4 else 5 },
  { off := 0x00C },
  { off := 0x014, w1c := 0xFFFFFFFF },
  { off := 0x018, rw := 0xFFFFFFFF },
  { off := 0x020, w1c := 0xC },
  { off := 0x024 },
  { off := 0x028 },
  { off := 0x02C },
  { off := 0x040, rw := 0xFFFFFFFF, cnt := true } ]

/-- Whether `BLK_CTRL.EN` of the page is fixed at 1 (R34). -/
def Page.enFixed : Page → Bool
  | .sys => true | .basecamp => true | .mbx => true | .time => true | _ => false

/-- The block registers of a page. -/
def Page.blockRows : Page → List RegRow
  | .sys => rows_sys_berr ++ rows_sys
  | .basecamp => rows_basecamp
  | .pba => rows_pba
  | .therm => rows_therm
  | .cal => rows_cal
  | .nvm => rows_nvm
  | .mbx => rows_mbx
  | .time => rows_time
  | .sched => rows_sched
  | .eng _ => rows_eng
  | .grd _ => rows_grd
  | .ltn _ => rows_ltn
  | .scn _ => rows_scn
  | .sxl _ => rows_sxl
  | .comp i =>
    match i.val with
    | 0 => rows_comp0 | 5 => rows_comp5 | 6 => rows_comp6 | 7 => rows_comp7 | _ => rows_compE
  | .dmc i =>
    match i.val with
    | 0 => rows_dmc0 | 1 => rows_dmc1 | 2 => rows_dmc2 | _ => rows_dmc3
  | .np g => if g.val = 0 then rows_np ++ rows_np0 else rows_np
  | .mx _ => rows_mx
  | .eth _ => rows_eth
  | .can _ => rows_can
  | .stor => rows_stor
  | .sec => rows_sec

/-- All register rows of a page. -/
def Page.rows (p : Page) : List RegRow := headerRows p.enFixed ++ p.blockRows

/-- Whether a row holds the register at page offset `off`. -/
def RegRow.covers (r : RegRow) (off : Nat) : Bool :=
  decide (r.off ≤ off) && (off - r.off) % r.stride == 0 && decide ((off - r.off) / r.stride < r.count)

/-- The row of the register at page offset `off`; none where no register lies (reserved, R6). -/
def Page.row? (p : Page) (off : Nat) : Option RegRow := p.rows.find? fun r => r.covers off

/-- The reset value of instance `i` of a row. -/
def RegRow.resetOf (r : RegRow) (i : Nat) : Nat := r.reset.getD i (r.reset.getLastD 0)

/-- The reset value of the register at an address; 0 where none lies. -/
def resetAt (a : Nat) : Word :=
  match Page.ofAddr a with
  | none => 0
  | some p =>
    match p.row? (a % 0x1000) with
    | none => 0
    | some r => BitVec.ofNat 32 (r.resetOf ((a % 0x1000 - r.off) / r.stride))

end Sys2Proof.Machine
end

