-- ==== Sys2Proof/Machine/State.lean ====
section
/-!
DEFINITION. The machine state as plain data: every register, buffer, queue, counter, mode, timer and
pin the spec gives the IL7460, the queue of waiting commands, the faults and the refusals, and the state
at power-on.
-/

namespace Sys2Proof.Machine



/-- An object of a mask as received (R72): positions and sizes 12.4, velocities signed 12.4. -/
structure MaskObj where
  atten : Nat
  cx : Nat
  cy : Nat
  hw : Nat
  hh : Nat
  feather : Nat
  vx : Int
  vy : Int
  range : Nat
  deriving DecidableEq, Repr

/-- The header fields every segment of a mask repeats (R70). `capture` is in ns. -/
structure MaskHdr where
  mode : Nat := 1
  count : Nat := 0
  capture : Nat := 0
  width : Nat := 0
  height : Nat := 0
  tdef : Nat := 0
  ref : Nat := 0
  deriving DecidableEq, Repr

/-- A mask slot (R73): state 0 FREE, 1 FILLING, 2 COMPLETE, 3 IN_USE; what has arrived, the instant of the
first segment, whether a composition latched it, and whether it has been counted as superseded (R17). -/
structure MaskSlot where
  state : Nat := 0
  id : Nat := 0
  hdr : MaskHdr := {}
  segs : List Nat := []
  tiles : List (Nat × List Nat) := []
  objs : List MaskObj := []
  since : Nat := 0
  latched : Bool := false
  superseded : Bool := false
  deriving DecidableEq, Repr

/-- A published motion set (R77). -/
structure Motion where
  yaw : Int
  pitch : Int
  speed : Nat
  sec : Nat
  ns : Nat
  deriving DecidableEq, Repr

/-- A predicted object (R72, R75): canvas positions and sizes in 1/256 pixel. -/
structure PredObj where
  atten : Nat
  cx : Int
  cy : Int
  hw : Int
  hh : Int
  feather : Int
  deriving DecidableEq, Repr

/-- What a composition latched and has still to do (R75, R84, R85). -/
structure CompRun where
  start : Nat
  /-- Mirror engines still to be completed: engine, geometry word, predicted start, own pixels before its end. -/
  engs : List (Nat × Nat × Nat × Nat) := []
  /-- Clones: engine, source, geometry word, predicted start (R82). -/
  clones : List (Nat × Nat × Nat × Nat) := []
  /-- Scanners still to be completed: scanner, geometry word, pixels before its end. -/
  scns : List (Nat × Nat × Nat) := []
  /-- Ready marks made so far: units 0–3 engines, 4–5 scanners. -/
  marked : List Nat := []
  /-- PCLK at 1.0 GHz (R19, R87). -/
  low : Bool := false
  /-- The slot latched, the code that replaces a stale mask, and the prediction: dx, dy in 1/256 pixel, s as a
  quotient, objects (R68, R75). -/
  slot : Option Nat := none
  fill : Option Nat := none
  dx : Int := 0
  dy : Int := 0
  sNum : Nat := 0
  sDen : Nat := 1
  objs : List PredObj := []
  /-- A pixel saturated, FLOOR above CEIL was met (R62, R63). -/
  sat : Bool := false
  conflict : Bool := false
  deriving DecidableEq, Repr

/-- A uniformity fade of an engine (R81): gains it starts from, compositions done, N; gains in use. -/
structure UnifFade where
  base : List Nat := []
  done : Nat := 0
  total : Nat := 0
  inUse : List Nat := []
  deriving DecidableEq, Repr

/-- What the compositor keeps beside its pages (R68–R88). -/
structure Comp where
  /-- Instant of enabling, and of the commit that last enabled CREMA (R68, R473). -/
  enAt : Nat := 0
  cremaAt : Nat := 0
  /-- The PBA grant has switched the domains on. -/
  granted : Bool := false
  setupAt : Nat := 0
  run : Option CompRun := none
  /-- Number of compositions started. -/
  serial : Nat := 0
  /-- CAPTURE of the mask last latched. -/
  lastCap : Option Nat := none
  /-- The published motion set, the one before it, and the instant of publishing. -/
  mot : Option Motion := none
  motPrev : Option Motion := none
  motAt : Nat := 0
  fade : Vector UnifFade 4 := Vector.replicate 4 {}
  deriving DecidableEq, Repr

/-- What IMS ingest keeps beside page 7 (R73, R74, R94). -/
structure Ims where
  slots : Vector MaskSlot 4 := Vector.replicate 4 {}
  /-- Rejected MASK_IDs and the instants their records end, oldest first. -/
  rejected : List (Nat × Nat) := []
  /-- Newest CAPTURE completed since EN was set, and the instant of the last completion. -/
  newest : Option Nat := none
  completeAt : Option Nat := none
  deriving DecidableEq, Repr

/-- A pending commit of a group (R44–R47). -/
structure CommitRec where
  /-- GO came after the fence (R45). -/
  late : Bool := false
  /-- The next commit point still passes the commit by (R45). -/
  skip : Bool := false
  /-- Narpa and matrix groups: ports that have not applied their fields yet, each with whether it passes
  its next commit point by (R47). -/
  ports : List (Nat × Bool) := []
  deriving DecidableEq, Repr

/-- Kinds of planes (R123). -/
inductive PlaneKind | duration | pulse
  deriving DecidableEq, Repr

/-- A plane of a running program, in 62.5 ps: its entry light edge and hold, and the pulse window after
the frame start (R123, R124, R127). `v8` marks a plane of SAFE8, which shows a bit of V8 (R135). -/
structure Plane where
  kind : PlaneKind
  bit : Nat
  lsel : Nat
  entry : Nat
  hold : Nat
  open_ : Nat
  pulse : Nat
  v8 : Bool := false
  deriving DecidableEq, Repr

/-- A block load on the link (R132): running plane count, block, and the instant it completes. -/
structure BlockLoad where
  count : Nat
  block : Nat
  start : Nat
  finish : Nat
  deriving DecidableEq, Repr

/-- What the Grinder keeps beside its page (R122–R138). -/
structure Grinder where
  /-- Planes of the current frame, and of the next one once its start is final. -/
  planes : List Plane := []
  next : List Plane := []
  /-- Program of the current frame: 0 PRG0, 1 PRG1, 2 SAFE8; and the LIT program selected (R138). -/
  prog : Nat := 0
  sel : Nat := 0
  /-- Running plane count of plane 0 of the current frame (R131). -/
  base : Nat := 0
  /-- Planes of the current frame begun so far. -/
  begun : Nat := 0
  /-- Resets issued: running count, block, and applied instant in 1/16 of 62.5 ps (R126, R178). -/
  resets : List (Nat × Nat × Int) := []
  /-- Block loads complete or filled, abandoned, and in flight. -/
  loaded : List (Nat × Nat) := []
  missed : List (Nat × Nat) := []
  load : Option BlockLoad := none
  /-- Smallest load margin of the current frame, 62.5 ps. -/
  slack : Option Nat := none
  /-- Pulse lengths in force, and the entries and LEVEL_COMP they belong to (R129). -/
  pulses : List Nat := []
  entries : List (Nat × Nat × Nat) := []
  comp : Bool := true
  /-- e_b, ε and lane-rate code of the next frame once its start is final (R126, R178, R191). -/
  nextE : List Nat := []
  nextEps : Int := 0
  nextRate : Nat := 0
  /-- The next frame start takes targets without a ramp (R128). -/
  snap : Bool := true
  deriving DecidableEq, Repr

/-- What a mirror engine keeps beside its page (R97–R118). -/
structure Engine where
  /-- S_k and L_k, 62.5 ps. -/
  sk : Nat := 0
  lk : Nat := 0
  /-- Start of the next frame when final, and whether it shows a new image (R98, R150). -/
  fin : Option (Nat × Bool) := none
  /-- Instant the back buffer was marked ready, with the image's geometry, composition and predicted start. -/
  ready : Option Nat := none
  readyGeom : Nat := 0
  readyComp : Nat := 0
  readyPred : Nat := 0
  /-- Geometry of the image in the front buffer. -/
  frontGeom : Nat := 0
  /-- START given (R114), and the instant of a START in READY; STOP waits for the frame to end. -/
  start : Bool := false
  mark : Nat := 0
  stop : Bool := false
  /-- Underruns in the current frame, and consecutive frames with underruns (R111). -/
  ur : Bool := false
  urRun : Nat := 0
  /-- Underruns of the current frame, and of the one before it (R450). -/
  urCnt : Nat := 0
  urLast : Nat := 0
  /-- P_nom of the outgoing program during HOLD, end of H2, and a commit that is incompatible (R117, R118). -/
  holdPnom : Nat := 0
  holdEnd : Nat := 0
  /-- Block count and geometry of H1. -/
  holdBlocks : Nat := 1
  holdGeom : Nat := 0
  /-- The SAFE8 planes of H1 and H2, built from the outgoing program (R135). -/
  hold8 : List Plane := []
  /-- Instant of the LINK_DEAD retry (R114). -/
  retryAt : Option Nat := none
  /-- FSYNC pin active, its end, and the pulse of the frame done (R112). -/
  fsync : Bool := false
  fsyncEnd : Nat := 0
  fsyncDone : Bool := true
  deriving DecidableEq, Repr

/-- What a Lantern keeps beside its page (R141–R163, R503). -/
structure Lantern where
  /-- Driven level of `LSx_KILL_N`; its read-back when it was seen to differ, and since when it agrees. -/
  killN : Bool := false
  pinRead : Option Bool := none
  pinSince : Nat := 0
  /-- Setpoint codes to write, which writes are confirmed, and the level the previous frame wrote (R144, R151). -/
  codes : Vector Nat 4 := #v[0, 0, 0, 0]
  conf : Vector Bool 4 := #v[false, false, false, false]
  sent : Option Nat := none
  /-- The driver's active setpoints, transferred at the last frame mark, and the rise of `LSx_FRM` that transferred them. -/
  active : Vector Nat 4 := #v[0, 0, 0, 0]
  frmAt : Option Nat := none
  /-- Start of the frame under way on the setpoint port, and the last 24-bit request sent (R144). -/
  portAt : Option Nat := none
  word : Nat := 0
  /-- Command instant of the last edge placed through a delay line, as TCLK tick and tap (R147). -/
  cmdTick : Nat := 0
  cmdTap : Nat := 0
  /-- A load before ARMED runs (R503), and the start of its present attempt. -/
  loading : Bool := false
  loadAt : Nat := 0
  /-- Consecutive frames or loads without a frame mark, and SETPT_DEAD reported (R151). -/
  miss : Nat := 0
  dead : Bool := false
  /-- Codes of the next frame are computed; its r (Q2.14) and λ_eff (Q1.15), and those of the current frame. -/
  final : Bool := false
  rNext : Nat := 0x4000
  lamNext : Nat := 0x8000
  rCur : Nat := 0x4000
  lamCur : Nat := 0x8000
  /-- FLOOR_ACT and LEVEL_SAT of the next frame have been reported (R150). -/
  floorTold : Bool := false
  satTold : Bool := false
  /-- A frame's figures are gathered; the loop took its F (R153, R154). -/
  measuring : Bool := false
  looped : Bool := true
  /-- Fallback gain g_fb, Q2.22 (R159). -/
  gFb : Nat := 0x400000
  /-- Instants of the last window open and close edges at the source, and of the last rise of `LSx_WIN`. -/
  openAt : Nat := 0
  closeAt : Nat := 0
  riseAt : Nat := 0
  /-- `LSx_ECHO` high since; low since. -/
  echoRise : Nat := 0
  echoFall : Nat := 0
  /-- Interior samples of the frame by level, sums and counts; dark samples (R153). -/
  sum : Vector Nat 4 := #v[0, 0, 0, 0]
  cnt : Vector Nat 4 := #v[0, 0, 0, 0]
  darkSum : Nat := 0
  darkCnt : Nat := 0
  /-- The dark value in 2⁻¹⁶ codes; measured ratios in Q1.31; which ratios exist; frames without a measurement. -/
  dark : Nat := 0
  ratio : Vector Nat 4 := #v[0x80000000, 0, 0, 0]
  formed : Vector Bool 4 := #v[true, false, false, false]
  unmeas : Vector Nat 4 := #v[0, 0, 0, 0]
  /-- SCAN mode: energy of the samples and of the windows of the frame (R153). -/
  eSum : Int := 0
  wSum : Nat := 0
  /-- Consecutive samples at or above the over-power threshold, and the last such sample (R160, R162). -/
  opRun : Nat := 0
  lastOver : Nat := 0
  /-- Last instant at which a sample lay 1024 codes or more above dark, or further than that below it (R162). -/
  lastLit : Nat := 0
  /-- Instant of a link-loss report (R160). -/
  lossAt : Option Nat := none
  /-- The Percolator's echo delays, 62.5 ps (R146). -/
  echoOpen : Nat := 0
  echoClose : Nat := 0
  /-- Engine in SAFE since; FALLBACK_DARK raised in this SAFE (R159). -/
  safeAt : Option Nat := none
  darkRaised : Bool := false
  /-- Fallback refresh due, and codes written whose frame mark waits for a gap (R159). -/
  refreshAt : Nat := 0
  markDue : Bool := false
  /-- The first frame mark of the train has been issued, so its windows may open (R159). -/
  fbReady : Bool := false
  /-- Length of the fallback window under way; a link loss has ended the train's windows (R159, R160). -/
  fbLen : Nat := 0
  cut : Bool := false
  /-- The converter failed and no spare is left (R156). -/
  adcFailed : Bool := false
  deriving DecidableEq, Repr

/-- What training keeps of one rate (R180, R187): whether it trained, the groups that passed, `LAT_COMP`,
ε in 1/16 of 62.5 ps, the transmit equaliser preset of each lane, and the eye per lane. -/
structure RateResult where
  trained : Bool := false
  groups : Nat := 0
  lat : Nat := 0
  eps : Int := 0
  preset : Vector Nat 16 := Vector.replicate 16 0
  eyes : Vector Nat 16 := Vector.replicate 16 0
  deriving DecidableEq, Repr

/-- The ordered sets of a link (R170); SYNC carries the link time of its first UI (R176). -/
inductive OrderedSet | ts1 | ts2 | sync (linkTime : Nat)
  deriving DecidableEq, Repr

/-- What a Selxis link keeps beside its page (R167–R193). -/
structure Link where
  rates : Vector RateResult 3 := Vector.replicate 3 {}
  /-- Start of the training in progress, its step (R187), and whether it commands PARK0. -/
  trainAt : Nat := 0
  step : Nat := 0
  /-- Link up since; CRC failures in the running 1 s window, and the window's start (R190). -/
  upAt : Nat := 0
  crcWin : Nat := 0
  crcAt : Nat := 0
  /-- Consecutive low eye readings and passed probes by group. -/
  low : Vector Nat 4 := #v[0, 0, 0, 0]
  probes : Vector Nat 4 := #v[0, 0, 0, 0]
  probeAt : Nat := 0
  /-- A decided rank change: groups, rate, instant of the decision (R191). -/
  change : Option (Nat × Nat × Nat) := none
  /-- Groups and rate after H1 of a rank change under way. -/
  target : Option (Nat × Nat) := none
  /-- Start of a rate switch on the line (R191, R192). -/
  switchAt : Option Nat := none
  /-- ε in force, 1/16 of 62.5 ps, and its target. -/
  eps : Int := 0
  epsTgt : Int := 0
  /-- The array's echo output delay, 62.5 ps (R182). -/
  echoDly : Nat := 0
  /-- MARK samples of the pass: sum, count, least and greatest; stamps of the MARK commands outstanding (R176, R180). -/
  markSum : Int := 0
  markCnt : Nat := 0
  markMin : Int := 0
  markMax : Int := 0
  markOut : List Nat := []
  /-- Training step 4: rate visited, whether its fine pass runs, and `LAT_COMP` with ε of each rate calibrated (R180, R187). -/
  calRate : Nat := 0
  fine : Bool := false
  lats : Vector (Option (Nat × Int)) 3 := Vector.replicate 3 none
  /-- Sideband: next TAG, a retry of the present transaction, consecutive failed transactions (R181). -/
  tag : Nat := 0
  retried : Bool := false
  failed : Nat := 0
  /-- PARK pattern last commanded; none after a release (R185). -/
  park : Option Nat := none
  /-- `PARK_DEFAULT` and `FILL_ON_ERR` as written to the array. -/
  parkDefault : Nat := 0
  fillOnErr : Nat := 0
  /-- A PARK2 or PARK3 store was commanded and has not been reported loaded; it last read busy (R186). -/
  parkWait : Bool := false
  parkBusy : Bool := false
  /-- The array's registers as the device last wrote or read them: LINK_CFG, LAT_COMP, the PARK request, REV, LANE_LOCK and
  ERR_INFO (R182). -/
  linkCfg : Nat := 0
  latComp : Nat := 0
  parkReq : Nat := 0
  rev : Nat := 0
  laneLock : Nat := 0
  errInfo : Nat := 0
  /-- Registers read in training step 2, and from bit 9 on the writes of step 3 (R187). -/
  seen : Nat := 0
  /-- CRC failures counted whose block and plane are not read yet (R179). -/
  crcOwed : Nat := 0
  /-- Instant of the last periodic read of LINK_STAT, with which an ATTN may fall together (R193). -/
  pollAt : Option Nat := none
  /-- The request frame on `SXLn_SBDO` last sent (R167, R181). -/
  sbdo : Nat := 0
  /-- Instants of the periodic reads (R183). -/
  statAt : Nat := 0
  tempAt : Nat := 0
  eyeAt : Nat := 0
  /-- Groups locked at the last LINK_STAT, 0 from the start of a training. -/
  locked : Nat := 0
  /-- Place in R169's ranking of the set that the last training selected (STEPPED, R195). -/
  risen : Nat := 0
  /-- Start of the training step in progress (R187). -/
  stepAt : Nat := 0
  /-- Sequence number of the next block packet; the items of the packet or commands sent last, the instant at which they began,
  and until when the stream is taken (R171–R175). -/
  seq : Nat := 0
  tx : List (List Byte) := []
  txAt : Nat := 0
  busyTo : Nat := 0
  /-- The ordered set last sent, and the instant of the last SYNC, which resets the scramblers (R170). -/
  os : Option OrderedSet := none
  syncAt : Nat := 0
  deriving DecidableEq, Repr

/-- What a frame start of this tick changed, kept so that a trip on the same tick undoes it (R216). -/
structure ScnBack where
  instant : Nat
  cells : List (Nat × Word)
  ready : Option Nat
  readyGeom : Nat
  frontGeom : Nat
  sk : Nat
  pred : Nat
  urRun : Nat
  deriving DecidableEq, Repr

/-- What a scanner engine keeps beside its page (R197–R217). Times are in 62.5 ps. -/
structure Scanner where
  /-- Pixel-timing tables: entry `index` of table `t` at key `2048 t + index` (R202); unlisted entries are 0. -/
  ptt : List (Nat × Word) := []
  /-- Drive frequency in 1/16 Hz, drive level, and the amplitude target of the spin-up (R208, R209). -/
  freq : Nat := 0
  drive : Nat := 0
  ampTgt : Nat := 0
  /-- Drives run (a spin-up has started and they have not stopped). -/
  running : Bool := false
  /-- Start of the spin-up; the sweep is done; the loops have been locked since (R209). -/
  spinAt : Nat := 0
  swept : Bool := false
  lockedFrom : Option Nat := none
  /-- The last half-period's amplitude is within 1 % of TARGET (R209). -/
  near : Bool := false
  /-- Last turning point, the last half-period, and its predicted successor (R208). -/
  lastTp : Nat := 0
  half : Nat := 0
  /-- Line of the raster, and the frame start at its line 0 not yet taken. -/
  line : Nat := 0
  due : Bool := false
  /-- The configuration of the frame that runs (R199, R217): line counts, direction of line 0, amplitude target, pixels,
  table, ends and path of the slow axis, phase offsets, and background; the lines of the last complete frame. -/
  lact : Nat := 0
  lfb : Nat := 0
  dir0 : Nat := 0
  target : Nat := 0
  px : Nat := 0
  tab : Nat := 0
  top : Nat := 0
  bot : Nat := 0
  stair : Bool := false
  ofs : Nat := 0
  bg : Nat := 0
  ltot : Nat := 0
  /-- S_k, the predicted S_k+1, and the end of H2 as predicted (R200, R213). -/
  sk : Nat := 0
  pred : Nat := 0
  holdEnd : Nat := 0
  /-- Consecutive weak half-periods, and lines out of tolerance; a missed turning point is reported (R211). -/
  weak : Nat := 0
  slowBad : Nat := 0
  missed : Bool := false
  /-- Slow-axis drive and modulation output, DAC codes; next pixel of the line (R205, R210). -/
  slow : Nat := 0
  lmod : Nat := 0
  pixel : Nat := 0
  /-- The line shows its background (R214); underruns in the frame and in consecutive frames. -/
  under : Bool := false
  ur : Bool := false
  urRun : Nat := 0
  /-- Σ t_min × H × V of the frame (R206). -/
  energy : Nat := 0
  /-- Image in the back buffer: ready instant, its geometry; the front's geometry. -/
  ready : Option Nat := none
  readyGeom : Nat := 0
  frontGeom : Nat := 0
  /-- START given, STOP waits for the frame, and the drives ramp down to OFF (R216). -/
  start : Bool := false
  stop : Bool := false
  rampDown : Bool := false
  back : Option ScnBack := none
  deriving DecidableEq, Repr

/-- What a frame on a Narpa line carries (R231, R236). -/
inductive NpKind | count | position | config | image
  deriving DecidableEq, Repr

/-- A frame on a Narpa line: kind, start, end E₁ at node 1, node count, strobe mode, and whether a pending
commit governs it (R225, R237). -/
structure NpFrame where
  kind : NpKind
  start : Nat
  fin : Nat
  nodes : Nat
  strobe : Bool
  gov : Bool
  deriving DecidableEq, Repr

/-- A scheduled strobe (R238): its latch instant L and mark start S in ns of local time, the SCHED entry it
came from, since when the port has it, and whether a step of the clock has passed its S (R290). -/
structure NpStrobe where
  latch : Int
  mark : Int
  entry : Option Nat
  since : Nat := 0
  jumped : Bool := false
  deriving DecidableEq, Repr

/-- A return frame that is awaited (R225): kind, nodes, the instant it ends at `NPn_RI`, and the cell T of its frame. -/
structure NpRet where
  kind : NpKind
  nodes : Nat
  fin : Nat
  cell : Nat
  deriving DecidableEq, Repr

/-- What the port knows of a node (R239, R241): open and short bits, TEMP and FLAGS as received, AGE, the
instant of the last valid status, and the uncovered time of each channel in 62.5 ps. -/
structure NpNode where
  open_ : Nat := 0
  short : Nat := 0
  temp : Nat := 0
  flags : Nat := 0
  age : Nat := 0
  seen : Option Nat := none
  uncov : List Nat := List.replicate 32 0
  deriving DecidableEq, Repr

/-- What a Narpa port keeps beside its registers (R233–R243). -/
structure NpPort where
  /-- Frame last sent, the instant the line is free for the next one, the start of the last frame. -/
  frame : Option NpFrame := none
  free : Nat := 0
  last : Nat := 0
  /-- Slices of the last frame: opcode and words (R223). -/
  tx : List (Nat × List Nat) := []
  /-- An image frame is due; a governed one has been sent for the pending commit (R237). -/
  due : Bool := false
  govSent : Bool := false
  /-- Immediate latches to come: instant, and whether a commit governs them (R228). -/
  latches : List (Nat × Bool) := []
  /-- A LATCH_AT image waits for a strobe (R237). -/
  await : Bool := false
  strobe : Option NpStrobe := none
  /-- Strobes of `NP_CMD` that wait for the mark of the one scheduled (R287), and the start of the last mark. -/
  more : List NpStrobe := []
  markAt : Option Nat := none
  /-- Frames whose return frame has not arrived, and how many consecutive frames have had none (R240). -/
  rets : List NpRet := []
  silent : Nat := 0
  /-- Enumeration: an ENUM is wanted, and the pass to send: 0 none, 1 count, 2 position (R231). -/
  enumWant : Bool := false
  /-- The port switches off after the frame in flight (R243). -/
  offWant : Bool := false
  pass : Nat := 0
  /-- Fade: values at its start, steps done, F; values in use, in the perceptual domain (R235). -/
  fadeFrom : List Nat := []
  fadeJ : Nat := 0
  fadeF : Nat := 0
  inUse : List Nat := []
  /-- Duty codes last sent. -/
  duty : List Nat := []
  nodes : List NpNode := []
  /-- DIAG_REQ to send: node index and channel mask (R241). -/
  diag : List (Nat × Nat) := []
  deriving DecidableEq, Repr

/-- What the keeper keeps beside its registers (R244–R246, R368, R369). -/
structure Keeper where
  /-- Its 16 KiB store; unlisted bytes are 0. -/
  store : List (Nat × Byte) := []
  /-- Ports whose wake frame of this SEQ_UP is still to be sent, and the start of the first one. -/
  play : List Nat := []
  first : Option Nat := none
  /-- End of the frame or strobe on the line of each port, its latch instant, and whether it is a wake frame. -/
  line : List (Nat × Nat × Bool) := []
  /-- Latch instants of the wake frames sent, not reached yet. -/
  latch : List Nat := []
  /-- Wake frames sent: port, start, cell T, and the cells that follow the mark, from the store (R244). -/
  sent : List (Nat × Nat × Nat × List Bool) := []
  /-- Instant of the next keepalive strobe of each port. -/
  alive : Vector Nat 8 := Vector.replicate 8 16000000000
  deriving DecidableEq, Repr

/-- The output pins of a matrix port (R250); `dat` and `row` are `MXn_DAT[3:0]` and `MXn_ROW[3:0]`. -/
structure MxPins where
  clk : Bool
  lat : Bool
  gclk : Bool
  rowenN : Bool
  pre : Bool
  dat : Nat
  row : Nat
  deriving DecidableEq, Repr

/-- The phase of a LINE_SCAN row (R255): its latch to come, the row lit, or the frame's rows all shown. -/
inductive MxStage | slot | latch | blank
  deriving DecidableEq, Repr

/-- What a matrix port keeps beside its registers (R255–R266). -/
structure MxPort where
  /-- LINE_SCAN: whether a frame has started, its start S, and the earliest next start (R257). -/
  running : Bool := false
  start : Nat := 0
  nextAt : Nat := 0
  /-- A GO came after the fence: the next frame start is not the commit point (R259). -/
  skip : Bool := false
  row : Nat := 0
  stage : MxStage := .blank
  /-- Column codes D′ on the row that is lit; those in the shift registers, their row and the start of their shift, and the first
  column that this row lost to an underrun (R255, R256, R260). -/
  shown : List Nat := []
  codes : List Nat := []
  shiftRow : Nat := 0
  shiftAt : Nat := 0
  lost : Option Nat := none
  /-- λ_eff latched for the frame or transfer (R253), and the image address taken (R265). -/
  lam : Nat := 0x8000
  img : Option Nat := none
  /-- FRAME_MEMORY: earliest end of the WRITE_HIDDEN in progress, its bytes, end of the SHOW that awaits its
  swap, and whether an edge came too early for it (R261, R263). -/
  xfer : Option Nat := none
  tx : List Byte := []
  /-- Start of the transaction whose bytes `tx` are. -/
  txAt : Nat := 0
  showEnd : Option Nat := none
  lateShow : Bool := false
  resend : Bool := false
  /-- λ_eff, background and image address of the last transfer. -/
  last : Option (Nat × Nat × Nat) := none
  /-- Last active TE edge, and the instant the timeout runs from (R263, R264). -/
  edge : Option Nat := none
  teFrom : Nat := 0
  /-- The last edge that was a commit point (R263). -/
  pointAt : Option Nat := none
  /-- The port goes OFF when the transfer in progress and its SHOW have ended (R266). -/
  stop : Bool := false
  deriving DecidableEq, Repr

/-- An accepted SET or STEP, which acts on the next tick (R274). -/
inductive ClockAdj
  | set (sec ns : Nat)
  | step (ns : Int)
  deriving DecidableEq, Repr

/-- The local clock and what TIME keeps beside its page (R271–R284). -/
structure Clock where
  /-- SECONDS, 48 bits. -/
  sec : Nat := 0
  /-- NANOSECONDS, FRACT and the residue as one number of 2⁻³² ns, below 10⁹ × 2³². -/
  acc : Nat := 0
  /-- What the last tick added to `acc`; 0 when a SET or STEP acted on it (R257, R276, R283). -/
  lastAdd : Nat := 0
  /-- Increment in force, 2⁻³² ns per tick (R272). -/
  incr : Nat := 0x400000000
  /-- Remainder of a slew, 2⁻³² ns, and its sign (R275). -/
  slewRem : Nat := 0
  slewNeg : Bool := false
  /-- A SET or STEP that acts on the next tick (R274). -/
  adj : Option ClockAdj := none
  /-- Instant from which the servo timeout runs; none while UNSET (R277). -/
  servoFrom : Option Nat := none
  /-- The servo timeout has expired since the last update (R277). -/
  servoExpired : Bool := false
  /-- End of the hold-off (R278). -/
  holdEnd : Option Nat := none
  /-- Ports whose `TIME_PDELAY` has been written since reset (R278). -/
  pdelaySeen : List Nat := []
  /-- `TIME_NOW_SEC` and `TIME_NOW_HI` as latched, for MP, HSPI and ICP (R273). -/
  latchSec : Vector Word 3 := #v[0, 0, 0]
  latchHi : Vector Word 3 := #v[0, 0, 0]
  /-- TX time-stamp queues, oldest entry first, each entry W0–W3 (R282). -/
  txq : Vector (List (Vector Word 4)) 4 := #v[[], [], [], []]
  /-- `TIME_TXQ_PUSH0`–`PUSH2` as last written, per port (R282). -/
  push : Vector (Vector Word 3) 4 := #v[#v[0, 0, 0], #v[0, 0, 0], #v[0, 0, 0], #v[0, 0, 0]]
  /-- `PPS_OUT`, and the end of its pulse (R283). -/
  ppsOut : Bool := false
  ppsEnd : Option Nat := none
  /-- Instant of the last accepted `PPS_IN` edge (R284). -/
  ppsInLast : Option Nat := none
  deriving DecidableEq, Repr

/-- A SCHED entry's state (R294, `SCHED_E_STAT.STATE`). -/
inductive SchedState | free | armed | handed | done | missed | error
  deriving DecidableEq, Repr

/-- One SCHED entry (R285–R288). `time` is T in ns of local time. -/
structure SchedEntry where
  st : SchedState := .free
  time : Nat := 0
  action : Nat := 0
  policy : Nat := 0
  target : Nat := 0
  value : Nat := 0
  window : Nat := 0
  period : Nat := 0
  path : Path := .mp
  late : Bool := false
  missed : Bool := false
  lateness : Nat := 0
  deriving DecidableEq, Repr

/-- A request at a DRAM port (R301). Reads carry the data of the instant they were accepted (R304). -/
structure DmcReq where
  write : Bool
  pa : Nat
  data : List Byte
  since : Nat
  /-- The target of its port when it was accepted, in 62.5 ps (R302). -/
  target : Nat
  /-- A read grant has served it. -/
  served : Bool := false
  deriving DecidableEq, Repr

/-- A write-queue entry of a channel (R305): the port it came from, its range, and the acceptance of the request. -/
structure WqEntry where
  port : Nat
  pa : Nat
  len : Nat
  since : Nat
  deriving DecidableEq, Repr

/-- What the DMC keeps of a rank (R307, R308, R311). -/
structure DmcRank where
  debt : Nat := 0
  due : Nat := 0
  /-- A refresh occupies the rank until then. -/
  busy : Nat := 0
  /-- Last use, and power-down. -/
  idleFrom : Nat := 0
  pd : Bool := false
  /-- Band MR4 reported last. -/
  band : Nat := 0
  /-- The last reading of MR4. -/
  mr4At : Nat := 0
  deriving DecidableEq, Repr

/-- What the DMC keeps of a channel (R305–R314). -/
structure DmcChan where
  ranks : Vector DmcRank 2 := Vector.replicate 2 {}
  wq : List WqEntry := []
  drain : Bool := false
  /-- The grant in progress ends then. -/
  until' : Nat := 0
  /-- Retraining: the instant the next slice falls due, the instant one fell due, and one owed at once (R312). -/
  slice : Nat := 0
  sliceDue : Option Nat := none
  sliceNow : Bool := false
  band : Nat := 0
  /-- The rank whose reading was the first of two consecutive ones that allow a lower band. -/
  cool : Option (Fin 2) := none
  /-- Open rows: rank, bank, row. -/
  open_ : List (Nat × Nat × Nat) := []
  /-- Row-hammer counts: rank, bank, row, count; banks owed refresh management (R310). -/
  rh : List (Nat × Nat × Nat × Nat) := []
  rfm : List (Nat × Nat) := []
  /-- Throttled ports: port, rank, bank. -/
  throttle : List (Nat × Nat × Nat) := []
  deriving DecidableEq, Repr

/-- What the DMC keeps beside its pages (R301–R316). -/
structure Dmc where
  ports : Vector (List DmcReq) 8 := Vector.replicate 8 []
  chans : Vector DmcChan 8 := Vector.replicate 8 {}
  /-- Bytes of each port not yet counted in units of 64 (R318): read, written. -/
  rdBytes : Vector Nat 8 := Vector.replicate 8 0
  wrBytes : Vector Nat 8 := Vector.replicate 8 0
  /-- Data of the last completed read of each port. -/
  rdData : Vector (List Byte) 8 := Vector.replicate 8 []
  /-- Training runs since then. -/
  trainAt : Option Nat := none
  /-- Start of the row-hammer window. -/
  rhFrom : Nat := 0
  deriving DecidableEq, Repr

/-- What an unfinished mailbox command waits for (R115, R342–R346): an engine or scanner unit (0–3, 4–5) to
light, stop or park; the commit of an engine group; a calibration run; a store of records; a content package;
a power state; the stores before the completion of BIVOUAC; the delivery of that completion. -/
inductive MbxWait
  | none | start (u : Nat) | stop (u : Nat) | park (u : Nat) | commit (base : Nat) | cal | store | content
  | power (st : Nat) | bivStore | bivouac
  deriving DecidableEq, Repr

/-- A mailbox slot (R336–R340): state 0 FREE, 1 QUEUED, 2 EXEC, 3 RUNNING, 4 POSTED; the entry; push order, instant and
origin; for ICP the port, request SEQ and key slot; the unread response, whether it is final, its posting
order and instant; whether the command was answered ACCEPTED (R13); and what completes it, by when. -/
structure MbxSlot where
  st : Nat := 0
  order : Nat := 0
  pushedAt : Nat := 0
  origin : Nat := 0
  cmd : Vector Word 16 := Vector.replicate 16 0
  port : Nat := 0
  ref : Nat := 0
  key : Nat := 0
  rsp : Option (List Word) := none
  final : Bool := false
  rspOrder : Nat := 0
  postedAt : Nat := 0
  acc : Bool := false
  wait : MbxWait := .none
  deadline : Option Nat := none
  /-- The completion of a command that ended while the Runtime did not run: status and detail (R333). -/
  missed : Option (Nat × Nat × Nat) := none
  deriving DecidableEq, Repr

/-- An entry of the MBX record in Basecamp (R335): a command that still owes its completion; `bulk` a BULK_CLOSE. -/
structure MbxRec where
  origin : Nat
  seq : Nat
  op : Nat
  port : Nat
  ref : Nat
  key : Nat
  bulk : Bool := false
  deriving DecidableEq, Repr

/-- The mailbox (R336). -/
structure Mbx where
  slots : Vector MbxSlot 32 := Vector.replicate 32 {}
  /-- Pushes and responses so far, which give the orders. -/
  pushes : Nat := 0
  posts : Nat := 0
  /-- `MBX_CMD_WIN` and `MBX_PUSH_STAT` of each path. -/
  win : Vector (Vector Word 15) 3 := Vector.replicate 3 (Vector.replicate 15 0)
  stat : Vector Word 3 := #v[0, 0, 0]
  deriving DecidableEq, Repr

/-- An entry of the event log (R12, R338): page base or 0 for the mailbox, code, detail, state. -/
structure LogEntry where
  page : Nat
  cls : Nat
  detail : Nat
  state : Nat
  deriving DecidableEq, Repr

/-- Entry to Bivouac waits until the completion OK is popped or sent (R346): its slot, or for ICP the reply's port,
REF and key slot; and the instant of posting. -/
structure BivWait where
  slot : Nat
  icp : Bool
  port : Nat
  ref : Nat
  key : Nat
  since : Nat
  deriving DecidableEq, Repr

/-- The management processor as far as the device shows it (R323–R334). -/
structure Mp where
  /-- The Runtime runs; the instant of the last release of the MP, and of a restart that is under way. -/
  up : Bool := false
  restart : Bool := false
  /-- Starts of the short and long windows, and expiries in each (R334). -/
  shortFrom : Option Nat := none
  shortCnt : Nat := 0
  longFrom : Option Nat := none
  longCnt : Nat := 0
  /-- The extension: stopped by a fault until EN is cleared and set, preempted in this period (R325, R327),
  and whether the last MP_FAULT was inside it (R332). -/
  extStopped : Bool := false
  extCut : Bool := false
  extBlame : Bool := false
  /-- Start of the present load window and extension period (R325, R328). -/
  loadFrom : Nat := 0
  extFrom : Nat := 0
  /-- Event log and recorder (R342, R450): what LOG_CONTROL started, level mask, entries not flushed, the
  recorder's next SEQ. -/
  logOn : Bool := true
  logMask : Nat := 0xFFFFFFFF
  log : List LogEntry := []
  recRun : Bool := false
  recSeq : Nat := 0
  /-- A BIVOUAC whose completion is posted (R346). -/
  biv : Option BivWait := none
  deriving DecidableEq, Repr

/-- What Basecamp keeps beside its page (R352–R375). -/
structure Bc where
  /-- A pin reset is held (R372); it came in BIVOUAC, so the rising edge is a wake source (R367). -/
  nrstLow : Bool := false
  nrstWake : Bool := false
  /-- Power-up: the step in progress (0 for steps 2 and 3, then 1–3) and the rise of its enable; steps that are on
  (R358); the instant `STEP_DLY` has passed (R355). -/
  step : Nat := 0
  stepAt : Nat := 0
  stepOn : Vector Bool 4 := Vector.replicate 4 false
  delayAt : Option Nat := none
  /-- Power-down: the step whose rails fall, and since when (R356). -/
  down : Option Nat := none
  downAt : Nat := 0
  /-- The oscillator runs since; consecutive good windows; XTAL_FAIL reported since (R20, R355, R474). -/
  xtalFrom : Option Nat := none
  xtalRun : Nat := 0
  xtalFail : Option Nat := none
  /-- The sequence of R358 runs for a supply loss, for a thermal shutdown; its t0; the last supply loss was
  VBAT_LOSS; a restart waits for the conditions of R359 (R365). -/
  lossSupply : Bool := false
  lossTherm : Bool := false
  t0 : Nat := 0
  lossVbat : Bool := false
  supplyWait : Bool := false
  /-- Entry to RUN (R359). -/
  runAt : Nat := 0
  /-- Details not yet reported in `ERR_CODE` (R375). -/
  errs : List Nat := []
  /-- Levels of `WAKE0`–`WAKE3`, and since when each is active with its filter running (R367). -/
  wakePin : Vector Bool 4 := Vector.replicate 4 false
  wakeFrom : Vector (Option Nat) 4 := Vector.replicate 4 none
  /-- The last wake instant; a wake held by R405; a wake that came in SEQ_DOWN (R365); entry to BIVOUAC. -/
  wakeAt : Nat := 0
  wakeHeld : Bool := false
  wakePend : Bool := false
  bivAt : Nat := 0
  /-- The wake timer has qualified in this stay in BIVOUAC (R367). -/
  timerDone : Bool := false
  /-- Last move of the VDD_CORE target; the monitors ask for more than 0.82 V (R354). -/
  avsAt : Nat := 0
  avsLimit : Bool := false
  /-- Watchdog: last service or release, deadline, the first service after a release is awaited, and the instant
  of the first write of a service (R370). -/
  wdogFrom : Nat := 0
  wdogDue : Nat := 0
  wdogFirst : Bool := false
  kickAt : Option Nat := none
  deriving DecidableEq, Repr

/-- A request that waits for a PBA grant (R376, R378). `port` is the port within its group, the domain of
an FW request, or 0xFF. -/
structure PbaReq where
  id : Nat
  port : Nat
  since : Nat
  warned : Bool := false
  deriving DecidableEq, Repr

/-- The soft start of a granted engine or scanner (R385): its initial factor in 1/256, and the instant of
the unit's first entry to RUN after the grant. -/
structure SoftStart where
  init : Nat
  from? : Option Nat := none
  deriving DecidableEq, Repr

/-- What the power budget arbiter keeps behind its page (R376–R388). -/
structure Pba where
  queue : List PbaReq := []
  /-- Granted requesters, with the port or domain. -/
  grants : List (Nat × Nat) := []
  /-- Requesters whose core and lamp loads count (a group counts once, R376). -/
  loaded : List Nat := []
  /-- Granted requesters whose domains are not all on yet; they proceed when they are (R379). -/
  proceeding : List (Nat × Nat) := []
  /-- Soft starts by requester ID. -/
  soft : List (Nat × SoftStart) := []
  /-- The next grant opportunity (R379). -/
  nextAt : Nat := 0
  /-- Instant of the last timed evaluation (R383). -/
  evalAt : Nat := 0
  /-- The timed evaluation of this tick waits for what comes first on it (R388). -/
  evalDue : Bool := false
  deriving DecidableEq, Repr

/-- What THERM keeps of one source behind its register (R392–R395). -/
structure Sensor where
  /-- Last converted reading, 0.125 °C. -/
  last : Int := 0
  seen : Bool := false
  /-- Consecutive implausible readings. -/
  bad : Nat := 0
  /-- Instant of the last sample. -/
  at? : Option Nat := none
  deriving DecidableEq, Repr

/-- What THERM and the thermal shutdown path keep behind the page (R392–R407). -/
structure Therm where
  ts : Vector Sensor 24 := Vector.replicate 24 {}
  xt : Vector Sensor 8 := Vector.replicate 8 {}
  tsb : Sensor := {}
  /-- θ_X of each external input in 1/256; 256 is 1 (R400). -/
  thX : Vector Nat 8 := Vector.replicate 8 256
  /-- The junction level J (R397), and since when T_J holds above or below its step threshold. -/
  lvl : Nat := 0
  aboveFrom : Option Nat := none
  belowFrom : Option Nat := none
  /-- Instant of the last thermal shutdown, and instants of restarts in the last hour (R404). -/
  shutAt : Option Nat := none
  restarts : List Nat := []
  /-- A thermal restart has not been reported yet (R404). -/
  report : Bool := false
  deriving DecidableEq, Repr

/-- What the Percolator keeps of a class and instance (R413, R414): the measurement before, consecutive
disagreements, UNSTABLE reported, start and signal figure of the measurement in progress, end of the previous one. -/
structure CalInst where
  prev : Option (List Int) := none
  dis : Nat := 0
  unstable : Bool := false
  from? : Option Nat := none
  /-- Its precondition was lost since it started (R418). -/
  lost : Bool := false
  ended : Option Nat := none
  deriving DecidableEq, Repr

/-- A calibration run (R418): class, instance, start, first measurement, and the start of the measurement
under way. -/
structure CalRun where
  cls : Nat
  inst : Nat
  start : Nat
  first : Option (List Int) := none
  deriving DecidableEq, Repr

/-- The three delay lines of a Lantern (R416): tap tables (ps, empty when never calibrated), the lines that
place open and close edges and the third, which of the two is replaced next, and the acceptance whose
rotation waits. -/
structure DelayLines where
  table : Vector (List Int) 3 := #v[[], [], []]
  open_ : Fin 3 := 0
  close : Fin 3 := 1
  third : Fin 3 := 2
  nextClose : Bool := false
  ready : Option Nat := none
  failed : Vector Bool 3 := #v[false, false, false]
  /-- The last measurement of each line (R414). -/
  prev : Vector (Option (List Int)) 3 := #v[none, none, none]
  /-- A line in service failed and is replaced at the next frame start. -/
  urgent : Option (Fin 3) := none
  deriving DecidableEq, Repr

/-- A photodiode ADC bank (R156, R417): gain (ppm off nominal) and offset (codes) of converters 0–2 and the
spare, in force and as accepted; the converter calibrated now and the stage of its turn; the converter the
spare stands in for; failures. -/
structure AdcBank where
  gain : Vector Int 4 := #v[0, 0, 0, 0]
  ofs : Vector Int 4 := #v[0, 0, 0, 0]
  gainTgt : Vector Int 4 := #v[0, 0, 0, 0]
  ofsTgt : Vector Int 4 := #v[0, 0, 0, 0]
  turn : Fin 4 := 0
  /-- 0 none, 1 parallel conversion, 2 the spare stands in, 3 the converter returns. -/
  stage : Nat := 0
  since : Nat := 0
  standIn : Option (Fin 3) := none
  /-- A failed converter that the spare replaces for good at the next frame start of its Lantern (R156). -/
  owed : Option (Fin 3) := none
  failed : Vector Bool 4 := #v[false, false, false, false]
  misses : Vector Nat 3 := #v[0, 0, 0]
  /-- The last acceptance, with its converter (R415). -/
  accAt : Option (Nat × Fin 4) := none
  prev : Vector (Option (List Int)) 4 := #v[none, none, none, none]
  deriving DecidableEq, Repr

/-- An accepted result on its way to a consumer that runs frames (R415): class, instance, values, the consumer's
unit, and the instant of acceptance. -/
structure CalNew where
  cls : Nat
  inst : Nat
  vals : List Int
  unit : Nat
  at' : Nat
  deriving DecidableEq, Repr

/-- What the Percolator keeps beside its page (R409–R419). -/
structure Cal where
  /-- By class 1–9 (index 0–8) and instance. -/
  inst : Vector (Vector CalInst 8) 9 := Vector.replicate 9 (Vector.replicate 8 {})
  run : Option CalRun := none
  fresh : List CalNew := []
  lines : Vector DelayLines 6 := Vector.replicate 6 {}
  banks : Vector AdcBank 2 := Vector.replicate 2 {}
  /-- Starting value of `LTN_DARK` (R411). -/
  dark : Vector (Option Int) 6 := Vector.replicate 6 none
  /-- Accepted trims of FWD and RET, 62.5 ps (R415). -/
  trimTgt : Vector (Int × Int) 2 := #v[(0, 0), (0, 0)]
  /-- Accepted presets of the lanes of a link that are not all in use yet (R415). -/
  presets : Vector (Option (Vector Nat 16)) 4 := #v[none, none, none, none]
  /-- When the preset of each lane was last stepped (R413). -/
  stepAt : Vector (Vector (Option Nat) 16) 4 := Vector.replicate 4 (Vector.replicate 16 none)
  /-- The references derive from the internal resistor; good REF measurements in a row; since when the
  references return to `RREF`, and the ratio error then, ppm (R410, R415). -/
  refInt : Bool := false
  refGood : Nat := 0
  refBack : Option (Nat × Int) := none
  /-- Last signal figures of TRANSIT's dump input per engine and of the light at a dark converter per Lantern:
  lit or photodiode mean, pulse or shorted mean (R412, R413). -/
  dump : Vector (Nat × Nat) 4 := Vector.replicate 4 (0, 0)
  light : Vector (Nat × Nat) 6 := Vector.replicate 6 (0, 0)
  deriving DecidableEq, Repr

/-- A command of the NVM in progress (R421): operation, address, granules, done so far, its data. -/
structure NvmRun where
  op : Nat
  addr : Nat
  count : Nat
  done : Nat := 0
  data : List Byte := []
  /-- The granule under way is programmed a second time. -/
  again : Bool := false
  since : Nat
  /-- An uncorrectable error was met (READ). -/
  bad : Bool := false
  /-- PFW, a supply loss or a shutdown stops it after the granule under way (R422). -/
  stop : Bool := false
  /-- The Runtime issued it for a record store (R426). -/
  store : Bool := false
  /-- The path of its GO, and `NVM_STAT` and `NVM_INTR` before it: a PFW on the same tick refuses the GO (R422). -/
  path : Nat := 0
  stat : Nat := 0
  mark : Nat := 0
  deriving DecidableEq, Repr

/-- The Runtime's store of records (R426): classes still to write with their payloads, and of the class in
work the code, slot, header and granules not yet issued. -/
structure StoreJob where
  todo : List (Nat × List Byte) := []
  cls : Nat := 0
  slot : Nat := 0
  seq : Nat := 0
  pending : List (Nat × List Byte) := []
  deriving DecidableEq, Repr

/-- What the NVM keeps beside its page (R420–R428). -/
structure Nvm where
  run : Option NvmRun := none
  /-- A record scan runs since then (R427). -/
  scanAt : Option Nat := none
  job : Option StoreJob := none
  deriving DecidableEq, Repr

/-- A datagram for IMS or ICP as it waits at its port (R436, R445): UDP payload, whether its TAG is the AES-CMAC
of the bytes before it, and the instant of arrival. -/
structure NetPkt where
  bytes : List Byte
  tag : Bool
  at' : Nat
  deriving DecidableEq, Repr

/-- An ICP reply to be sent (R441–R443): the reply's own SEQ, the request's SEQ, whether its TAG is zeros, and
the completion it carries of a command that was answered ACCEPTED (R13). -/
structure IcpReply where
  op : Nat
  status : Nat
  detail : Nat
  seq : Nat
  ref : Nat
  key : Nat
  payload : List Byte
  zeroTag : Bool := false
  owed : Option MbxRec := none
  /-- The mailbox slot whose response it is: the slot stays POSTED until it is sent (R340). -/
  slot : Option Nat := none
  deriving DecidableEq, Repr

/-- A MACsec SA (R440): cipher code, SCI, SSCI, key words, next PN, PN_HIGH reported. -/
structure MsecSa where
  cipher : Nat
  sci : Nat
  ssci : Nat
  key : List Word
  pn : Nat
  high : Bool := false
  deriving DecidableEq, Repr

/-- What an Ethernet port keeps beside its page (R435–R445). -/
structure EthPort where
  /-- IMS packets and ICP requests waiting, and replies to send; instants of the AUTH_FAIL answers of the last second (R442). -/
  ims : List NetPkt := []
  reqs : List NetPkt := []
  replies : List IcpReply := []
  authAt : List Nat := []
  /-- MACsec: the SAs of the TX SC and of each RX SC by AN, at most two each, the one installed last at the end. -/
  txSa : List (Nat × MsecSa) := []
  rxSa : Vector (List (Nat × MsecSa)) 4 := #v[[], [], [], []]
  /-- SAK words written (`ETH_MSEC_KEY`, write-only). -/
  sak : Vector Word 8 := Vector.replicate 8 0
  /-- Frames fetched into the TX queues: ring index and bytes; ring indices sent out of order (R437, R439). -/
  txq : Vector (List (Nat × List Byte)) 4 := #v[[], [], [], []]
  sent : List Nat := []
  /-- Next descriptor to fetch. -/
  txNext : Nat := 0
  /-- Credit of queues 1 and 2 in bit × 10⁻⁹ and since when (R439); end of the frame on the line. -/
  credit : Vector Int 2 := #v[0, 0]
  creditAt : Nat := 0
  busy : Nat := 0
  /-- The frame or ICP payload sent last. -/
  last : List Byte := []
  deriving DecidableEq, Repr

/-- What a CAN controller keeps beside its page (R447). -/
structure CanPort where
  /-- Bus-off since; recovery runs. -/
  offAt : Option Nat := none
  recov : Bool := false
  last : List Byte := []
  deriving DecidableEq, Repr

/-- A command given to the NVMe controller (R449): queue 0 admin, 1 I/O; submission index; instant. -/
structure NvmeCmd where
  index : Nat
  since : Nat
  deriving DecidableEq, Repr

/-- What STOR keeps beside its page (R448, R449). -/
structure Stor where
  /-- Retrains since the link was last up; consecutive command timeouts; commands in progress; a controller
  reset in progress; the end of the namespace in 4 KiB units. -/
  retrains : Nat := 0
  timeouts : Nat := 0
  cmds : List NvmeCmd := []
  sqTail : Nat := 0
  deriving DecidableEq, Repr

/-- A key slot (R443, R455–R457): its state, configuration and material (never readable), the highest sequence
accepted, which of the 64 below it were, and the last reply number. -/
structure KeySlot where
  valid : Bool := false
  /-- An OTP slot has been written (R457). -/
  written : Bool := false
  locked : Bool := false
  revoked : Bool := false
  cfg : Word := 0
  data : List Word := []
  high : Nat := 0
  seen : List Nat := []
  replies : Nat := 0
  /-- The instant of the last WRITE, ERASE or REVOKE, and whether the slot was usable before it, with its configuration (R457). -/
  before : Option (Nat × Bool × Word) := none
  deriving DecidableEq, Repr

/-- A bulk transfer (R446). -/
structure Bulk where
  port : Nat
  target : Nat
  offset : Nat
  length : Nat
  crc : Nat
  data : List (Nat × Byte) := []
  lastAt : Nat
  idle : Bool := false
  closing : Bool := false
  ref : Nat := 0
  key : Nat := 0
  deriving DecidableEq, Repr

/-- A section of an open package, decoded into DRAM (R451–R453). -/
structure Section where
  type : Nat
  index : Nat
  engine : Nat
  addr : Nat
  bytes : List Byte
  deriving DecidableEq, Repr

/-- The content library (R342, R345, R454): state 0 CLOSED, 1 OPENING, 2 OPEN; the state before OPENING; the
sections, version and source of the package in use; the source of the one being opened (0 STOR, 1 NVM; offset
and length in 4 KiB units); and a checked package, with its version, that replaces it at the next composition
start. -/
structure Content where
  st : Nat := 0
  prev : Nat := 0
  pkg : List Section := []
  version : Nat := 0
  src : Nat × Nat × Nat := (0, 0, 0)
  opening : Nat × Nat × Nat := (0, 0, 0)
  next : Option (List Section × Nat) := none
  deriving DecidableEq, Repr

/-- HSPI (R348): RESULT and INDEX of the previous transaction, and the bytes the device sent in it. -/
structure Hspi where
  result : Nat := 0
  index : Nat := 0
  miso : List Byte := []
  deriving DecidableEq, Repr

/-- Security (R455–R458): key slots, fuses, `SEC_KEY_DATA` as written; the boot image that runs. -/
structure Sec where
  keys : Vector KeySlot 16 := (Vector.replicate 16 {}).set 0 { valid := true, written := true }
  svn : Nat := 0
  /-- The boot ROM waits for an image, or has been told to check the recovery image (R456). -/
  booted : Bool := false
  recovGo : Bool := false
  keyData : Vector Word 8 := Vector.replicate 8 0
  deriving DecidableEq, Repr

/-- The machine. Software-visible registers live in `regs` (values last written, and all RO status) and
`inForce` (RWS values in effect, R41); the rest is what the blocks hold behind their pages. Each field's
default is its value at power-on (`State.reset`). -/
structure State where
  /-- Time since power-on in units of 62.5 ps (log entry 1). -/
  now : Nat := 0
  /-- The package (spec/00). -/
  pkg : Package := .f
  /-- The model's own counter of free values taken so far (log entry 3). -/
  fresh : Nat := 0
  /-- Results of the last access: the word read or written, `none` for `BUS_ERR` (R40). -/
  out : List (Option Word) := []
  /-- Register cells by address: last written values and RO status; unlisted registers read their reset value. -/
  regs : List (Nat × Word) := []
  /-- RWS values in effect by register address (R41); unlisted as in `regs`. -/
  inForce : List (Nat × Word) := []
  /-- Values held by FREEZE, by address (R37). -/
  held : List (Nat × Word) := []
  /-- Single events at the current instant, by page base and bit of `IRQ_RAW` (R34). -/
  pulses : List (Nat × Nat) := []
  /-- What the events of the current instant alone have counted and set in counters and W1C bits, by register
  address: a write that clears at this instant leaves it (R7, R9). -/
  recent : List (Nat × Word) := []
  /-- Conditions that stay present, by page base and bit of `IRQ_RAW` (R34). -/
  conds : List (Nat × Nat) := []
  /-- SECONDS [31:0] that belong to a NANOSECONDS status register, by its address, until a read latches them. -/
  stampSec : List (Nat × Word) := []
  /-- MP tightly coupled SRAM (R31); unlisted bytes read 0. -/
  tcm : List (Nat × Byte) := []
  /-- Frame SRAM by offset in its window (R21); unlisted bytes read 0 (R23). -/
  fsram : List (Nat × Byte) := []
  /-- The compositor and IMS ingest. -/
  cmp : Comp := {}
  ims : Ims := {}
  /-- Pending commits by the base address of the group's first page (R44). -/
  commits : List (Nat × CommitRec) := []
  /-- The mirror engines and their Grinders. -/
  eng : Vector Engine 4 := Vector.replicate 4 {}
  grd : Vector Grinder 4 := Vector.replicate 4 {}
  /-- Instant at which a mirror engine last changed state, or a commit last changed what decides the next starts (R98,
  R100, R114). -/
  planAt : Nat := 0
  /-- The Lantern units. -/
  ltn : Vector Lantern 6 := Vector.replicate 6 {}
  /-- The Selxis links. -/
  sxl : Vector Link 4 := Vector.replicate 4 {}
  /-- The scanner engines. -/
  scn : Vector Scanner 2 := Vector.replicate 2 {}
  /-- The Narpa ports 0–103, and the keeper. -/
  np : Vector NpPort 104 := Vector.replicate 104 {}
  keeper : Keeper := {}
  /-- The matrix ports 0–23. -/
  mx : Vector MxPort 24 := Vector.replicate 24 {}
  /-- The local clock. -/
  clock : Clock := {}
  /-- The SCHED entries 0–255; an unlisted entry is FREE (R285). -/
  sched : List (Nat × SchedEntry) := []
  /-- Entries replaced on the tick they fell due, which still execute (R285): index and entry. -/
  schedOld : List (Nat × SchedEntry) := []
  /-- Tick of the last dispatch, plus one (R287). -/
  schedAt : Nat := 0
  /-- Instant up to which `SCHED_ACC.BUSY` reads 1 (R285). -/
  schedBusy : Nat := 0
  /-- The DRAM controller. -/
  dmcs : Dmc := {}
  /-- External DRAM by physical address (R299); unlisted bytes read 0. -/
  dram : List (Nat × Byte) := []
  /-- The mailbox, its record in Basecamp, and the management processor. -/
  mbx : Mbx := {}
  mbxRec : List MbxRec := []
  mp : Mp := {}
  /-- Basecamp. -/
  bc : Bc := {}
  /-- The power budget arbiter. -/
  pba : Pba := {}
  /-- Thermal sensing. -/
  therm : Therm := {}
  /-- The Percolator. -/
  cal : Cal := {}
  /-- The non-volatile memory: 4 MiB by offset, unlisted bytes 0; and its command state. -/
  nvmMem : List (Nat × Byte) := []
  nvm : Nvm := {}
  /-- Network ports, storage, bulk transfer, content library and security. -/
  eth : Vector EthPort 4 := Vector.replicate 4 {}
  can : Vector CanPort 4 := Vector.replicate 4 {}
  stor : Stor := {}
  bulk : Option Bulk := none
  content : Content := {}
  sec : Sec := {}
  /-- Port, SEQ and key slot of the ICP request in execution (R444). -/
  icpCur : Option (Nat × Nat × Nat) := none
  /-- The HSPI target. -/
  hspi : Hspi := {}
  /-- Commands that wait, first in, first out. -/
  pending : List Instr := []
  deriving DecidableEq, Repr

/-- The machine at power-on, after a loss of VBAT (R371, R364): power state INIT, no rail and no switched
domain, every register at its reset value, memories empty. -/
def State.reset : State := {}

/-- Why the machine stops. -/
inductive Fault
  /-- `nRESET` low for 1 to 5 µs: the spec leaves the effect undefined (R494). Raised by PIN_RESET; safe. -/
  | resetPulseUndefined
  /-- VBAT above 58 V, beyond the absolute maximum, where nothing is guaranteed (R481). Raised by
  the commands that carry VBAT (VBAT_SAMPLE, BASECAMP_POWER_ON, VBAT_LOSS, PFW, PFW_END, VBAT_OV, VBAT_OV_END,
  SUPPLY_RESTART, THERMAL_RESTART); safe. -/
  | overstress
  deriving DecidableEq, Repr

/-- Why the model gives no meaning. -/
inductive Refusal
  /-- The command has no meaning in this model yet. Raised by `exec`'s arm of that command; safe. -/
  | notModelled (mnemonic : String)
  deriving DecidableEq, Repr

end Sys2Proof.Machine
end

