-- ==== Sys2Proof/Machine/Ops.lean ====
section
/-!
DEFINITION. The named operations every meaning is built from: reading and writing register cells and
values in force, counters (R7), events (R34), error records (R15, R35), bus errors (R40), time and the
local clock (R271, R275), byte memories, and free values.
-/

namespace Sys2Proof.Machine

/-- The code of a path (R34): 0 MP, 1 HSPI, 2 ICP. -/
def pathCode : Path → Nat
  | .mp => 0 | .ext => 0 | .hspi => 1 | .icp => 2

/-! ### Time: units of 62.5 ps -/

/-- One TCLK tick of 4 ns (R18). -/
def tickU : Nat := 64
def nsU (n : Nat) : Nat := n * 16
def usU (n : Nat) : Nat := n * 16000
def msU (n : Nat) : Nat := n * 16000000
def secU (n : Nat) : Nat := n * 16000000000
/-- A duration in ns, rounded down. -/
def toNs (u : Nat) : Nat := u / 16
def toUs (u : Nat) : Nat := u / 16000
def toMs (u : Nat) : Nat := u / 16000000

/-! ### Register cells -/

/-- The value of a register cell. -/
def State.reg (s : State) (a : Nat) : Word := (cellGet s.regs a).getD (resetAt a)

/-- The machine after a register cell takes a value. -/
def State.setReg (s : State) (a : Nat) (v : Word) : State :=
  { s with regs := cellPut (resetAt a) s.regs a v }

/-- The value in effect of a register with RWS fields (R41). -/
def State.infReg (s : State) (a : Nat) : Word := (cellGet s.inForce a).getD (resetAt a)

/-- The machine after a value comes into effect. -/
def State.setInfReg (s : State) (a : Nat) (v : Word) : State :=
  { s with inForce := cellPut (resetAt a) s.inForce a v }

/-- A field of a word. -/
def Word.field (v : Word) (f : RF) : Nat := bitsOf v.toNat f.lo f.w

/-- A word with one field replaced. -/
def Word.withField (v : Word) (f : RF) (x : Nat) : Word :=
  BitVec.ofNat 32 (withBits v.toNat f.lo f.w x)

/-- A register field: the last value written, or the status it shows. -/
def State.get (s : State) (p : Page) (f : RF) : Nat := Word.field (s.reg (p.base + f.off)) f

/-- The machine after a register field takes a value (truncated to its width). -/
def State.put (s : State) (p : Page) (f : RF) (x : Nat) : State :=
  s.setReg (p.base + f.off) (Word.withField (s.reg (p.base + f.off)) f x)

/-- A register field in effect (R41). -/
def State.inf (s : State) (p : Page) (f : RF) : Nat := Word.field (s.infReg (p.base + f.off)) f

/-- The machine after a register field comes into effect. -/
def State.putInf (s : State) (p : Page) (f : RF) (x : Nat) : State :=
  s.setInfReg (p.base + f.off) (Word.withField (s.infReg (p.base + f.off)) f x)

/-- A one-bit field as a truth value. -/
def State.flag (s : State) (p : Page) (f : RF) : Bool := s.get p f != 0
def State.infFlag (s : State) (p : Page) (f : RF) : Bool := s.inf p f != 0
def State.setFlag (s : State) (p : Page) (f : RF) (b : Bool) : State := s.put p f (ofBool b)

/-- What the events of this instant alone have set in a register (R7, R9). -/
def State.recentReg (s : State) (a : Nat) : Word := (cellGet s.recent a).getD 0

/-- A field takes a value by an event of this instant: what a clearing write of the same instant leaves. -/
def State.note (s : State) (p : Page) (f : RF) (x : Nat) : State :=
  { s with recent := cellPut 0 s.recent (p.base + f.off) (Word.withField (s.recentReg (p.base + f.off)) f x) }

/-- A counter adds `n` and stops at its maximum; events that coincide with a clearing write are counted after it
(R7). -/
def State.count (s : State) (p : Page) (f : RF) (n : Nat) : State :=
  (s.note p f (min (Word.field (s.recentReg (p.base + f.off)) f + n) (2 ^ f.w - 1))).put p f
    (min (s.get p f + n) (2 ^ f.w - 1))

/-- An event sets a W1C bit, which a clearing write of the same instant leaves set (R9). -/
def State.mark (s : State) (p : Page) (f : RF) : State := (s.note p f 1).put p f 1

/-- A counter counts one event (R7). -/
def State.bump (s : State) (p : Page) (f : RF) : State := s.count p f 1

/-- A register that keeps the largest value it has seen. -/
def State.keepMax (s : State) (p : Page) (f : RF) (x : Nat) : State :=
  if s.get p f < x then s.put p f (min x (2 ^ f.w - 1)) else s

/-! ### Byte memories -/

/-- A byte of a memory whose unlisted bytes read 0. -/
def memByte (m : List (Nat × Byte)) (a : Nat) : Byte := (cellGet m a).getD 0

/-- The memory after a byte is written. -/
def memSetByte (m : List (Nat × Byte)) (a : Nat) (v : Byte) : List (Nat × Byte) := cellPut 0 m a v

/-- `n` bytes from `a` as a little-endian number (R8). -/
def memLE (m : List (Nat × Byte)) (a : Nat) : Nat → Nat
  | 0 => 0
  | n + 1 => (memByte m a).toNat + 256 * memLE m (a + 1) n

/-- The memory after `n` bytes of a little-endian number are written from `a` (R8). -/
def memSetLE (m : List (Nat × Byte)) (a : Nat) : Nat → Nat → List (Nat × Byte)
  | 0, _ => m
  | n + 1, v => memSetLE (memSetByte m a (BitVec.ofNat 8 v)) (a + 1) n (v / 256)

/-- `n` bytes from `a`. -/
def memBytes (m : List (Nat × Byte)) (a n : Nat) : List Byte := (List.range n).map fun i => memByte m (a + i)

/-- The memory after bytes are written from `a`. -/
def memSetBytes (m : List (Nat × Byte)) (a : Nat) : List Byte → List (Nat × Byte)
  | [] => m
  | b :: r => memSetBytes (memSetByte m a b) (a + 1) r

/-- The memory without the bytes of a range. -/
def memClear (m : List (Nat × Byte)) (a n : Nat) : List (Nat × Byte) :=
  m.filter fun c => c.1 < a || a + n ≤ c.1

/-- The canonical form of a byte memory whose unlisted bytes read 0: addresses strictly rise, and no byte is
listed as 0, so that equal memories are equal lists. -/
def Memory.wf (m : List Host.Cell) : Bool := cellsWf (fun _ => 0) m

/-- A big-endian number from bytes (R8). -/
def beNat (l : List Byte) : Nat := l.foldl (fun x b => x * 256 + b.toNat) 0

/-- A little-endian number from bytes (R8). -/
def leNat (l : List Byte) : Nat := l.foldr (fun b x => b.toNat + 256 * x) 0

/-- `n` bytes of a number, low byte first (R8). -/
def leBytes (n v : Nat) : List Byte := (List.range n).map fun i => BitVec.ofNat 8 (v / 256 ^ i)

/-! ### Local time (R271) -/

/-- Local NANOSECONDS, FRACT, and SECONDS (R271). -/
def State.localNs (s : State) : Nat := s.clock.acc / 2 ^ 32
def State.localFract (s : State) : Nat := s.clock.acc / 2 ^ 16 % 2 ^ 16
def State.localSec (s : State) : Nat := s.clock.sec
/-- Local time in whole ns since second 0. -/
def State.localTime (s : State) : Nat := s.clock.sec * 1000000000 + s.localNs

/-! ### Event latches (R34) -/

/-- A single event as `IRQ_RAW` shows it and `IRQ_STAT` latches it. -/
def State.latch (s : State) (p : Page) (bit : Nat) : State :=
  { s with pulses := if s.pulses.contains (p.base, bit) then s.pulses else s.pulses ++ [(p.base, bit)] }.mark p
    ⟨IRQ_STAT.off, bit, 1⟩

/-! ### Beam recorder (R450) -/

/-- Whether the recorder writes: LOG_CONTROL RECORDER is active, and DRAM answers (log entry 60). -/
def State.recording (s : State) : Bool := s.mp.recRun && s.get (.dmc 0) BLK_STATE == 2

/-- The bytes of a record (R450): header and payload, little-endian, padded to 16. -/
def recordBytes (type seq ns sec : Nat) (payload : List Nat) : List Byte :=
  let len := 4 * payload.length
  leBytes 2 type ++ leBytes 2 len ++ leBytes 4 seq ++ leBytes 4 ns ++ leBytes 4 sec ++ payload.flatMap (leBytes 4) ++
    List.replicate ((16 - len % 16) % 16) 0

/-- The memory after bytes are written into the ring of `size` bytes at `base`, from ring position `wr` on (R450). -/
def ringWrite (m : List (Nat × Byte)) (base size wr : Nat) : List Byte → List (Nat × Byte)
  | [] => m
  | b :: r => ringWrite (memSetByte m (base + wr % size) b) base size (wr + 1) r

/-- The size of the ring in bytes: `REC_SIZE` in MiB (R450). -/
def State.ringSize (s : State) : Nat := s.get .stor REC_SIZE * 2 ^ 20

/-- A record enters the ring, or is dropped when it does not fit in its free space (R450). -/
def State.record (s : State) (type : Nat) (payload : List Nat) : State :=
  if s.recording then
    let size := s.ringSize
    let wr := s.get .stor REC_WR
    let used := (wr + size - s.get .stor REC_RD % size) % size
    let bytes := recordBytes type s.mp.recSeq s.localNs (s.localSec % 2 ^ 32) payload
    if size ≤ used + bytes.length then
      (s.bump .stor REC_DROP_CNT).latch .stor 4
    else
      { s with dram := ringWrite s.dram (s.get .stor REC_BASE * 64) size wr bytes,
               mp := { s.mp with recSeq := (s.mp.recSeq + 1) % 2 ^ 32 } }.put .stor REC_WR
        ((wr + bytes.length) % size)
  else s

/-! ### Events (R34) -/

/-- A single event: a pulse in `IRQ_RAW`, latched in `IRQ_STAT`, and recorded while the recorder runs (R450). -/
def State.raise (s : State) (p : Page) (bit : Nat) : State :=
  (s.latch p bit).record 4 [p.base, 2 ^ bit, s.get p ERR_CODE]

/-- A condition appears: it shows in `IRQ_RAW` until it ends, and its rising edge latches. -/
def State.raiseCond (s : State) (p : Page) (bit : Nat) : State :=
  if s.conds.contains (p.base, bit) then s
  else
    ({ s with conds := s.conds ++ [(p.base, bit)] }.mark p ⟨IRQ_STAT.off, bit, 1⟩).record 4
      [p.base, 2 ^ bit, s.get p ERR_CODE]

/-- A condition ends. -/
def State.dropCond (s : State) (p : Page) (bit : Nat) : State :=
  { s with conds := s.conds.filter (· != (p.base, bit)) }

/-- `IRQ_RAW` of a page (R34). -/
def State.irqRaw (s : State) (p : Page) : Nat :=
  (List.range 32).foldl (fun w b =>
    if s.pulses.contains (p.base, b) || s.conds.contains (p.base, b) then w + 2 ^ b else w) 0

/-! ### Status codes and error records (R10, R15, R35) -/

def ST_OK : Nat := 0x00
def ST_ACCEPTED : Nat := 0x01
def ST_BAD_OPCODE : Nat := 0x10
def ST_LEN_ERR : Nat := 0x11
def ST_BAD_PARAM : Nat := 0x12
def ST_STATE_REJECT : Nat := 0x21
def ST_BUSY : Nat := 0x22
def ST_AUTH_FAIL : Nat := 0x30
def ST_HW_FAULT : Nat := 0x40
def ST_TIMEOUT : Nat := 0x41
def ST_INTERRUPTED : Nat := 0x42

/-- The origin code of an error of the block's own hardware (R34). -/
def PATH_HW : Nat := 3

/-- An entry of the event log, while LOG_CONTROL has not stopped it (R12, R342). -/
def State.logEntry (s : State) (page cls detail state : Nat) : State :=
  if s.mp.logOn then { s with mp := { s.mp with log := s.mp.log ++ [⟨page, cls, detail, state⟩] } } else s

/-- An error record: counted in `ERR_CNT`; written to `ERR_CODE` and `ERR_INFO`, with the ERR event,
when no error is held or its class is higher than the class held (R15, R35). STATE_REJECT is also logged
(R12). `info` is `ERR_INFO.DETAIL`. -/
def State.errInfo (s : State) (p : Page) (path off cls detail info : Nat) : State :=
  let s := s.bump p ERR_CNT
  let s := if cls = ST_STATE_REJECT then s.logEntry p.base cls detail (s.get p BLK_STATE) else s
  if s.get p ERR_CODE = 0 ∨ s.get p ERR_CODE_CLASS < cls then
    ((s.put p ERR_CODE (cls * 256 + detail)).put p ERR_INFO
      (path * 0x1000000 + off * 0x1000 + info % 0x1000)).raise p 31
  else s

/-- An error record whose `ERR_INFO.DETAIL` is its detail code. -/
def State.err (s : State) (p : Page) (path off cls detail : Nat) : State :=
  s.errInfo p path off cls detail detail

/-- An error of the block's own hardware, with no register involved (R34). -/
def State.errHw (s : State) (p : Page) (cls detail : Nat) : State := s.err p PATH_HW 0 cls detail

/-! ### Bus errors (R38, R40) -/

/-- A failing access: recorded in SYS with its cause, and answered with `BUS_ERR`. -/
def State.busErr (s : State) (path : Path) (a cause : Nat) : State :=
  let s := s.put .sys SYS_BERR_ADDR a
  let s := s.put .sys SYS_BERR_INFO (pathCode path * 0x1000000 + cause)
  { s.bump .sys SYS_BERR_CNT with out := [none] }

/-- A completed access answers with a word. -/
def State.answer (s : State) (v : Word) : State := { s with out := [some v] }

/-! ### Free values (log entry 3) -/

/-- The next free value, as a word. -/
def State.freeWord (s : State) : Word := Config.freeWord s.fresh

/-- The machine after a free value is taken. -/
def State.tookFree (s : State) : State := { s with fresh := s.fresh + 1 }

/-! ### Power domains (R361) -/

/-- Domain numbers of `BC_PD_REQ`, `BC_PD_ON` and `BC_PD_RET`. -/
def State.domOn (s : State) (d : Nat) : Bool := bitOf (s.get .basecamp BC_PD_ON) d
def State.domRet (s : State) (d : Nat) : Bool := bitOf (s.get .basecamp BC_PD_RET) d

/-! ### The local clock (R271–R276) -/

/-- One second in 2⁻³² ns. -/
def secAcc : Nat := 1000000000 * 2 ^ 32

/-- The slew step per tick, 2⁻³² ns: 4 ns × rate in ppm, rounded (R275). -/
def slewDelta (rate : Nat) : Nat := roundDiv (4 * rate * 2 ^ 32) 1000000

/-- What `k` ticks add to the clock besides the increment: the slew, until its remainder is used up (R275). -/
def slewPart (rem rate k : Nat) : Nat := min rem (k * slewDelta rate)

/-- The clock after `k` ticks at one increment and slew rate (R271, R275): `k` times the tick's rule. -/
def Clock.ticks (c : Clock) (rate k : Nat) : Clock :=
  let part := slewPart c.slewRem rate k
  let add := if c.slewNeg then k * c.incr - part else k * c.incr + part
  let acc := c.acc + add
  let last := part - slewPart c.slewRem rate (k - 1)
  { c with lastAdd := if c.slewNeg then c.incr - last else c.incr + last, acc := acc % secAcc, sec := (c.sec + acc / secAcc) % 2 ^ 48, slewRem := c.slewRem - part }


/-- TIME event bits (R292). -/
def IRQ_SLEW_DONE : Nat := 6
def IRQ_STEP_DONE : Nat := 5

/-- PD_NOC (bit 1 of R361), in which the register pages and the local clock lie. -/
def PD_NOC : Nat := 1

/-- One TCLK tick, with a SET or STEP written before it (R271, R274): it loads or moves the clock, ends a
slew, is counted, raises STEP_DONE, and takes TIME out of UNSET, which starts the servo timeout (R277). A step that passes the mark of a
strobe at its port makes it a late one (R290). -/
def State.tickAdj (s : State) (adj : ClockAdj) : State :=
  let c := s.clock.ticks (s.get .time TIME_SLEW_RATE) 1
  let c := match adj with
    | .set sec ns => { c with sec := sec % 2 ^ 48, acc := ns * 2 ^ 32 }
    | .step d =>
      let tot : Int := (c.sec * secAcc + c.acc : Nat) + d * 2 ^ 32
      { c with sec := tot.toNat / secAcc % 2 ^ 48, acc := tot.toNat % secAcc }
  let unset := s.get .time BLK_STATE == 0
  let before : Int := s.localTime
  let after : Int := c.sec * 1000000000 + c.acc / 2 ^ 32
  let passed (b : NpStrobe) : NpStrobe :=
    if before < b.mark ∧ b.mark ≤ after then { b with since := s.now, jumped := true } else b
  let s : State := { s with np := s.np.map fun o => { o with strobe := o.strobe.map passed } }
  let c := { c with adj := none, lastAdd := 0, slewRem := 0, servoFrom := if unset then some s.now else c.servoFrom }
  let s := { s with clock := c }
  let s := s.put .time TIME_STATUS_SLEWING 0
  let s := if unset then s.put .time BLK_STATE (if s.flag .time TIME_STATUS_HOLDOFF then 3 else 1) else s
  (s.bump .time TIME_STEP_CNT).raise .time IRQ_STEP_DONE

/-- `k` TCLK ticks of the local clock, ending a slew whose remainder is used up (R271, R274, R275). -/
def State.ticks (s : State) (k : Nat) : State :=
  match k, s.clock.adj with
  | 0, _ => s
  | 1, some adj => s.tickAdj adj
  | k + 1, some adj =>
    let s := s.tickAdj adj
    { s with clock := s.clock.ticks (s.get .time TIME_SLEW_RATE) k }
  | k, none =>
    let c := s.clock.ticks (s.get .time TIME_SLEW_RATE) k
    let done := s.flag .time TIME_STATUS_SLEWING && c.slewRem == 0
    let s := { s with clock := c }
    if done then (s.put .time TIME_STATUS_SLEWING 0).raise .time IRQ_SLEW_DONE else s

/-- The instant a command takes place: time goes on to `t` (never back), pulses of earlier instants end,
and the local clock has taken the TCLK ticks between while PD_NOC is on (R18, R271, log entry 1). -/
def State.at (s : State) (t : Nat) : State :=
  if t ≤ s.now then s
  else
    let k := t / tickU - s.now / tickU
    let s := { s with now := t, pulses := [], recent := [] }
    if s.domOn PD_NOC then s.ticks k else s

/-- Whether a command that `f` picks, with its instant, waits for the tick of this instant: where the spec says which of two
things on one tick comes first, the one that comes second looks for the other (log entry 118). -/
def State.waits (s : State) (f : Instr → Option Nat) : Bool :=
  s.pending.any fun i => match f i with | some t => t / tickU == s.now / tickU | none => false

/-- A local instant is passed when the last tick went over it; after a SET or STEP only when the
clock stands on it (R257, R283). `d` is how far past it the clock stands, in 2⁻³² ns. -/
def Clock.passed (c : Clock) (d : Nat) : Bool := decide (d < max c.lastAdd 1)

/-- A local time-stamp of the present instant: NANOSECONDS shown at once, SECONDS kept until a read
latches them (R119, R164, R218, R247, R268, R291, R406). -/
def State.stamp (s : State) (p : Page) (f : RF) : State :=
  let s := s.put p f s.localNs
  { s with stampSec := cellPut 0 s.stampSec (p.base + f.off) (BitVec.ofNat 32 s.localSec) }

/-- A time-stamp of an instant `d` units of 62.5 ps ago or ahead, on the local clock. -/
def State.stampAt (s : State) (p : Page) (f : RF) (localNs : Nat) : State :=
  let s := s.put p f (localNs % 1000000000)
  { s with stampSec := cellPut 0 s.stampSec (p.base + f.off) (BitVec.ofNat 32 (localNs / 1000000000)) }

/-- The read of a NANOSECONDS status register latches its SECONDS register, which lies 4 bytes above. -/
def State.latchStamp (s : State) (p : Page) (f : RF) : State :=
  s.setReg (p.base + f.off + 4) ((cellGet s.stampSec (p.base + f.off)).getD 0)

end Sys2Proof.Machine
end

