-- ==== Sys2Proof/Machine/Access.lean ====
section
/-!
DEFINITION. What a register access does by its access code alone (R6, R7, R9, R37, R50, R501): the
value a register shows, the fields FREEZE holds, and the generic write with its range checks. Commands
and block-specific registers are dispatched in `Sys2Proof.Machine.Bus`.
-/

namespace Sys2Proof.Machine

def allBits : Nat := 0xFFFFFFFF

/-- The bits of a register that neither software writes nor W1C clears: RO status and reserved bits. -/
def RegRow.roMask (r : RegRow) : Nat := allBits - (r.rw ||| r.rwl ||| r.rws ||| r.w1c)

/-- The bits of the register at page offset `off` that FREEZE holds (R37): counters, `BLK_STATE`, and
RO status of the block registers. -/
def heldMask (p : Page) (off : Nat) : Nat :=
  if off = 0x00C then allBits
  else if off < 0x040 ∨ 0x800 ≤ off then 0
  else match p.row? off with
    | none => 0
    | some r => if r.cnt then allBits else r.roMask

/-- Whether a page is frozen (R37). -/
def State.frozen (s : State) (p : Page) : Bool := s.flag p BLK_CTRL_FREEZE

/-- The addresses of all registers of a page that a row describes. -/
def Page.regAddrs (p : Page) : List Nat :=
  p.rows.flatMap fun r => (List.range r.count).map fun i => p.base + r.off + r.stride * i

/-- Merge of two words: bits of `m` from `x`, the rest from `y`. -/
def mixBits (m x y : Nat) : Nat := (x &&& m) ||| (y &&& (allBits - m))

/-- The value a frozen page shows for a register whose live value is `live` (R37). -/
def State.heldValue (s : State) (p : Page) (off live : Nat) : Nat :=
  if s.frozen p then
    mixBits (heldMask p off) ((cellGet s.held (p.base + off)).getD (resetAt (p.base + off))).toNat live
  else live

/-- A stated range of an RW or RWL field (R501). -/
structure RangeRow where
  off : Nat
  stride : Nat := 4
  count : Nat := 1
  lo : Nat
  w : Nat
  min : Nat
  max : Nat
  deriving DecidableEq, Repr

/-- The stated ranges of RW and RWL fields, from the register tables of spec/03 to spec/18. -/
def Page.ranges : Page → List RangeRow
  | .comp i => if i.val = 7 then [{ off := 0x4C, lo := 0, w := 16, min := 100, max := 65535 }] else []
  | .ltn _ => [{ off := 0x60, lo := 0, w := 24, min := 100000, max := 12000000 },
      { off := 0x70, lo := 0, w := 16, min := 0, max := 0x8000 },
      { off := 0x64, lo := 16, w := 4, min := 2, max := 15 }]
  | .sxl _ => [{ off := 0x50, lo := 0, w := 16, min := 100, max := 60000 },
      { off := 0x50, lo := 16, w := 16, min := 100, max := 60000 }]
  | .scn _ => [{ off := 0x7C, lo := 0, w := 11, min := 0, max := 1024 }]
  | .np _ => [{ off := 0x124, stride := 0x80, count := 8, lo := 0, w := 16, min := 0, max := 0x8000 }]
  | .mx _ => [{ off := 0x120, stride := 0x80, count := 8, lo := 0, w := 16, min := 0, max := 0x8000 }]
  | .time => [{ off := 0x74, lo := 0, w := 10, min := 1, max := 1000 },
      { off := 0x78, lo := 0, w := 16, min := 10, max := 60000 },
      { off := 0x7C, lo := 0, w := 14, min := 10, max := 10000 },
      { off := 0x80, lo := 0, w := 16, min := 0, max := 60000 },
      { off := 0x8C, lo := 0, w := 30, min := 0, max := 999999999 },
      { off := 0x90, lo := 0, w := 10, min := 1, max := 999 }]
  | .sched => [{ off := 0x44, lo := 0, w := 8, min := 1, max := 200 }]
  | .dmc i =>
    match i.val with
    | 0 => [{ off := 0x44, lo := 0, w := 2, min := 0, max := 2 }, { off := 0x44, lo := 8, w := 2, min := 0, max := 2 },
        { off := 0x5C, lo := 0, w := 8, min := 4, max := 128 }, { off := 0x64, lo := 0, w := 10, min := 100, max := 800 }]
    | 1 => [{ off := 0x100, stride := 0x20, count := 8, lo := 0, w := 20, min := 500, max := 1000000 }]
    | 3 => [{ off := 0x44, lo := 16, w := 14, min := 0, max := 10000 },
        { off := 0x44, lo := 0, w := 16, min := 500, max := 65535 }]
    | _ => []
  | .mbx => [{ off := 0x44, lo := 0, w := 5, min := 1, max := 32 }, { off := 0x44, lo := 8, w := 5, min := 1, max := 32 },
      { off := 0x44, lo := 16, w := 5, min := 1, max := 32 }, { off := 0x48, lo := 0, w := 16, min := 100, max := 60000 },
      { off := 0xA0, lo := 8, w := 8, min := 1, max := 30 }]
  | .basecamp => [{ off := 0x54, lo := 16, w := 16, min := 1, max := 1000 },
      { off := 0x54, lo := 0, w := 16, min := 50, max := 10000 }, { off := 0x70, lo := 16, w := 8, min := 1, max := 255 },
      { off := 0x74, lo := 0, w := 24, min := 1, max := 16777215 }, { off := 0x7C, lo := 16, w := 8, min := 0, max := 50 },
      { off := 0x7C, lo := 0, w := 16, min := 10, max := 1000 }]
  | .pba => [{ off := 0x44, lo := 0, w := 10, min := 10, max := 1000 }, { off := 0x48, lo := 0, w := 12, min := 10, max := 4000 },
      { off := 0x4C, lo := 0, w := 12, min := 100, max := 4000 }, { off := 0x54, lo := 0, w := 8, min := 1, max := 255 },
      { off := 0x58, lo := 0, w := 10, min := 0, max := 1000 }, { off := 0x60, lo := 0, w := 7, min := 10, max := 100 },
      { off := 0x64, lo := 0, w := 16, min := 1, max := 60000 }]
  | .therm => [{ off := 0x44, lo := 8, w := 3, min := 1, max := 7 }, { off := 0x48, lo := 16, w := 8, min := 125, max := 150 },
      { off := 0x48, lo := 8, w := 8, min := 90, max := 145 }, { off := 0x48, lo := 0, w := 8, min := 60, max := 140 },
      { off := 0x4C, lo := 16, w := 8, min := 15, max := 40 }, { off := 0x4C, lo := 8, w := 8, min := 1, max := 20 },
      { off := 0x4C, lo := 0, w := 8, min := 1, max := 20 }, { off := 0x50, lo := 16, w := 16, min := 100, max := 60000 },
      { off := 0x50, lo := 0, w := 16, min := 10, max := 10000 },
      { off := 0x80, count := 8, lo := 0, w := 9, min := 0, max := 256 },
      { off := 0x80, count := 8, lo := 9, w := 9, min := 0, max := 256 },
      { off := 0x80, count := 8, lo := 18, w := 9, min := 0, max := 256 },
      { off := 0x200, stride := 8, count := 8, lo := 16, w := 8, min := 0, max := 200 },
      { off := 0x200, stride := 8, count := 8, lo := 8, w := 8, min := 0, max := 200 },
      { off := 0x204, stride := 8, count := 8, lo := 16, w := 16, min := 1000, max := 10000 },
      { off := 0x204, stride := 8, count := 8, lo := 0, w := 16, min := 10, max := 10000 }]
  | .cal => [{ off := 0x44, lo := 12, w := 4, min := 1, max := 15 }]
  | .eth _ => [{ off := 0x5C, lo := 0, w := 13, min := 16, max := 4096 }, { off := 0x68, lo := 0, w := 13, min := 16, max := 4096 }]
  | .can _ => [{ off := 0x5C, lo := 0, w := 13, min := 16, max := 4096 }, { off := 0x68, lo := 0, w := 13, min := 16, max := 4096 },
      { off := 0x5C, lo := 28, w := 4, min := 1, max := 15 }, { off := 0x44, lo := 0, w := 2, min := 0, max := 2 }]
  | .stor => [{ off := 0x6C, lo := 0, w := 10, min := 1, max := 1023 }]
  | _ => []

/-- Rules between fields that a register write must keep, checked with the ranges (R377, R399, R400,
R406, R354, and the choice lists of the DMC and TIME tables). `v` is the register as the write would leave it. -/
def State.fieldsOk (s : State) (p : Page) (off v : Nat) : Bool :=
  match p with
  | .time =>
    if off = 0x44 then
      let q := bitsOf v 12 4
      q == 15 || (decide (q < 4) && (if h : q < 4 then (Page.eth ⟨q, h⟩).declared s.pkg else false))
    else true
  | .dmc i =>
    if i.val = 0 ∧ off = 0x54 then let x := bitsOf v 0 16; x == 0 || decide (100 ≤ x)
    else if i.val = 0 ∧ off = 0x58 then let x := bitsOf v 0 14; x == 0 || (decide (10 ≤ x) && decide (x ≤ 10000))
    else true
  | .basecamp =>
    if off = 0x5C then let x := signed 8 (bitsOf v 0 8); decide (-20 ≤ x) && decide (x ≤ 20) else true
  | .pba =>
    if 0x200 ≤ off then
      let r := (off - 0x200) / 4
      !((decide (r < 6) || decide (16 ≤ r)) && bitsOf v 30 2 == 3)
    else true
  | .therm =>
    if off = 0x48 then decide (bitsOf v 0 8 < bitsOf v 8 8) && decide (bitsOf v 8 8 < bitsOf v 16 8)
    else if 0x80 ≤ off ∧ off < 0xA0 then
      if off = 0x80 then true
      else
        let below := (s.reg (p.base + off - 4)).toNat
        decide (bitsOf v 0 9 ≤ bitsOf below 0 9) && decide (bitsOf v 9 9 ≤ bitsOf below 9 9) &&
          decide (bitsOf v 18 9 ≤ bitsOf below 18 9) && decide (bitsOf below 31 1 ≤ bitsOf v 31 1)
    else if 0x200 ≤ off ∧ off < 0x240 ∧ off % 8 = 0 then decide (bitsOf v 16 8 < bitsOf v 8 8)
    else true
  | _ => true

/-- Whether a register may hold `v` after a write (R501). -/
def State.rangeOk (s : State) (p : Page) (off v : Nat) : Bool :=
  (p.ranges.all fun r =>
    !(decide (r.off ≤ off) && (off - r.off) % r.stride == 0 && decide ((off - r.off) / r.stride < r.count)) ||
      (decide (r.min ≤ bitsOf v r.lo r.w) && decide (bitsOf v r.lo r.w ≤ r.max))) && s.fieldsOk p off v

/-- The RANGE_FIELD detail code of a page's chapter. -/
def Page.rangeDetail : Page → Nat
  | .eng _ => 0x15 | .grd _ => 0x1B | .scn _ => 0x14 | .comp _ => 0x1A | _ => 0x10

/-- A write by access code alone (R6, R7, R9, R50, R501): counters and W1C bits clear, but for what events of
this instant counted or set; RW, RWS and unlocked RWL fields take the written value; a value outside a stated
range discards the write; a write to an RWL field of a locked page records LOCKED_WRITE. One code is recorded:
BAD_PARAM goes before STATE_REJECT (R11). -/
def State.plainWrite (s : State) (path : Path) (p : Page) (off v : Nat) : State :=
  match p.row? off with
  | none => s
  | some r =>
    let a := p.base + off
    if r.cnt then
      { s.setReg a (s.recentReg a) with held := cellPut (resetAt a) s.held a 0 }
    else
      let locked := s.flag p LOCK_LOCKED
      let wmask := r.rw ||| r.rws ||| (if locked then 0 else r.rwl)
      let old := (s.reg a).toNat
      let new := mixBits wmask v old
      if (r.rw ||| r.rwl) ≠ 0 ∧ !(s.rangeOk p off new) then
        s.err p (pathCode path) off ST_BAD_PARAM p.rangeDetail
      else
        let s := if locked ∧ r.rwl ≠ 0 then s.err p (pathCode path) off ST_STATE_REJECT 0x03 else s
        s.setReg a (BitVec.ofNat 32 (new &&& (allBits - (v &&& r.w1c &&& (allBits - (s.recentReg a).toNat)))))

end Sys2Proof.Machine
end

