-- ==== Sys2Proof/Machine/Mail.lean ====
section
/-!
DEFINITION. The mailbox (R336–R341, R350): slots, pushes, responses and pops, the windows each path sees,
ICP replies, and the completion of commands when what they wait for happens.
-/

namespace Sys2Proof.Machine

/-! ### Codes -/

def ORG_HSPI : Nat := 1
def ORG_ICP : Nat := 2
def ORG_EXT : Nat := 3
/-- The origin of a path's window (R336). -/
def originOf : Path → Nat
  | .mp => ORG_EXT | .ext => ORG_EXT | .hspi => ORG_HSPI | .icp => ORG_ICP

/-- Index of a path's windows and latches (R273, R336). -/
def pathSlot (p : Path) : Fin 3 := match p with | .mp => 0 | .ext => 0 | .hspi => 1 | .icp => 2

def SL_FREE : Nat := 0
def SL_QUEUED : Nat := 1
def SL_EXEC : Nat := 2
def SL_RUNNING : Nat := 3
def SL_POSTED : Nat := 4

/-- MBX details (R351). -/
def MBX_PUSH_FULL : Nat := 0x11
def MBX_SEQ_HELD : Nat := 0x12
def MBX_TARGET_ABSENT : Nat := 0x20
def MBX_TARGET_BUSY : Nat := 0x21
def MBX_SCHED_FULL : Nat := 0x22
def MBX_PRG_UNKNOWN : Nat := 0x23
def MBX_CONTENT_STATE : Nat := 0x24
def MBX_DMC_STATE : Nat := 0x25
def MBX_ILK_CAUSE : Nat := 0x26
def MBX_COMMIT_REJECT : Nat := 0x27
def MBX_AUTH : Nat := 0x28
def MBX_NO_STORAGE : Nat := 0x29

/-! ### Slots -/

def MbxSlot.opcode (c : MbxSlot) : Nat := bitsOf c.cmd[0].toNat 24 8
def MbxSlot.seq (c : MbxSlot) : Nat := bitsOf c.cmd[0].toNat 16 8
def MbxSlot.len (c : MbxSlot) : Nat := bitsOf c.cmd[0].toNat 0 16
/-- Payload word `k` of an entry: W1, W2, … (R342). -/
def MbxSlot.word (c : MbxSlot) (k : Nat) : Nat := (c.cmd.toList.getD k 0).toNat

def State.modSlot (s : State) (i : Fin 32) (f : MbxSlot → MbxSlot) : State :=
  { s with mbx := { s.mbx with slots := s.mbx.slots.set i (f s.mbx.slots[i]) } }

/-- Slots of an origin that are not FREE; all origins when `o` is 0. -/
def State.mbxSlots (s : State) (o : Nat) : List (Fin 32) :=
  (List.finRange 32).filter fun i =>
    let c : MbxSlot := s.mbx.slots[i]
    c.st != SL_FREE && (o == 0 || c.origin == o)

def State.quotaOf (s : State) (o : Nat) : Nat :=
  if o = ORG_HSPI then s.get .mbx MBX_CFG_QUOTA_HSPI
  else if o = ORG_ICP then s.get .mbx MBX_CFG_QUOTA_ICP else s.get .mbx MBX_CFG_QUOTA_EXT

/-- The checks of a push (R336): the slot it takes, or the detail of the refusal. During entry to Bivouac
every push is refused (R346). -/
def State.pushCheck (s : State) (o seq : Nat) : Except Nat (Fin 32) :=
  match (List.finRange 32).find? fun i => let c : MbxSlot := s.mbx.slots[i]; c.st == SL_FREE with
  | none => .error MBX_PUSH_FULL
  | some i =>
    if s.get .basecamp BLK_STATE = 5 ∨ s.quotaOf o ≤ (s.mbxSlots o).length then .error MBX_PUSH_FULL
    else if (s.mbxSlots o).any fun j => (s.mbx.slots[j] : MbxSlot).seq == seq then .error MBX_SEQ_HELD
    else .ok i

/-- A push (R336, R337): the words of the window, an origin, and for ICP where replies go. Answers the slot,
or the detail of the refusal. -/
def State.mbxPush (s : State) (o : Nat) (w : Vector Word 15) (port ref key : Nat) : State × Except Nat Nat :=
  match s.pushCheck o (bitsOf w[0].toNat 16 8) with
  | .error d => ((s.bump .mbx MBX_BUSY_CNT).raise .mbx 3, .error d)
  | .ok i =>
    let w15 : Word := BitVec.ofNat 32 (o * 2 ^ 24 + s.localNs % 2 ^ 24)
    let s := s.modSlot i fun _ => { st := SL_QUEUED, order := s.mbx.pushes, pushedAt := s.now, origin := o, cmd := w.push w15
                                    port := port, ref := ref, key := key }
    let s := { s with mbx := { s.mbx with pushes := s.mbx.pushes + 1 } }
    ((s.bump .mbx MBX_CMD_CNT).raise .mbx 0, .ok i.val)

/-- A write of `MBX_PUSH.GO` on a path (R336): the push and `MBX_PUSH_STAT`. -/
def State.mbxPushWrite (s : State) (path : Path) : State :=
  let k := pathSlot path
  let w := s.mbx.win[k]
  let (port, ref, key) := s.icpCur.getD (0, 0, 0)
  let (s, r) := s.mbxPush (originOf path) w port ref key
  let seq := bitsOf w[0].toNat 16 8
  let v : Nat := match r with
    | .ok i => 2 ^ 31 + i * 2 ^ 24 + seq * 2 ^ 16
    | .error d => 2 ^ 31 + seq * 2 ^ 16 + ST_BUSY * 2 ^ 8 + d
  { s with mbx := { s.mbx with stat := s.mbx.stat.set k (BitVec.ofNat 32 v) } }

/-! ### Responses -/

/-- Bytes of a word, most significant first (R8). -/
def wordBE (v : Nat) : List Byte := [24, 16, 8, 0].map fun k => BitVec.ofNat 8 (v / 2 ^ k)

/-- An ICP reply is queued at its port, numbered from the slot's counter (R443, R445); `owed` says which completion it
carries (R13). -/
def State.icpReplyFor (s : State) (owed : Option MbxRec) (port op status detail ref key : Nat) (payload : List Byte) :
    State :=
  if h : port < 4 then
    let n := match finOf 16 key with | some k => (s.sec.keys[k] : KeySlot).replies + 1 | none => 0
    let s := match finOf 16 key with
      | some k => { s with sec := { s.sec with keys := s.sec.keys.set k { s.sec.keys[k] with replies := n } } }
      | none => s
    let p : EthPort := s.eth[port]
    let r : IcpReply := { op := op % 0x80 + 0x80, status := status, detail := detail, seq := n, ref := ref, key := key
                          payload := payload, owed := owed }
    { s with eth := s.eth.set port { p with replies := p.replies ++ [r] } }
  else s

/-- An ICP reply that carries no completion. -/
def State.icpReply (s : State) (port op status detail ref key : Nat) (payload : List Byte) : State :=
  s.icpReplyFor none port op status detail ref key payload

/-- The record of a slot's command (R335). -/
def MbxSlot.owes (c : MbxSlot) : MbxRec :=
  { origin := c.origin, seq := c.seq, op := c.opcode, port := c.port, ref := c.ref, key := c.key }

/-- The record of a BULK_CLOSE that was answered ACCEPTED (R13). -/
def Bulk.owes (b : Bulk) : MbxRec :=
  { origin := ORG_ICP, seq := 0, op := 0x12, port := b.port, ref := b.ref, key := b.key, bulk := true }

/-- An ICP reply is the response of a slot that waits to be sent. -/
def IcpReply.isOf (r : IcpReply) (i : Fin 32) (c : MbxSlot) : Bool := r.slot == some i.val && r.ref == c.ref && r.key == c.key

/-- The replies of a port, changed. -/
def State.mapReplies (s : State) (n : Fin 4) (f : List IcpReply → List IcpReply) : State :=
  { s with eth := s.eth.set n { s.eth[n] with replies := f s.eth[n].replies } }

/-- The last reply of a queue answers a slot. -/
def lastFor (i : Nat) (l : List IcpReply) : List IcpReply :=
  l.zipIdx.map fun r => if r.2 + 1 = l.length then { r.1 with slot := some i } else r.1

/-- A response of ICP origin becomes a reply (R340, R349); it takes the place of an ACCEPTED not sent yet (R339). -/
def State.icpPost (s : State) (i : Fin 32) (status detail : Nat) (owed : Option MbxRec) (payload : List Byte) : State :=
  let c : MbxSlot := s.mbx.slots[i]
  match finOf 4 c.port with
  | none => s
  | some n =>
    if s.eth[n].replies.any (fun r => r.isOf i c) then s.mapReplies n fun l => l.map fun r =>
      if r.isOf i c then { r with status := status, detail := detail, payload := payload, owed := owed } else r
    else (s.icpReplyFor owed c.port 3 status detail c.ref c.key payload).mapReplies n (lastFor i.val)

/-- A reply of ICP was sent: a final response frees its slot, an ACCEPTED leaves it RUNNING (R340). -/
def State.icpSent (s : State) (r : IcpReply) : State :=
  match (List.finRange 32).find? (fun i => r.isOf i s.mbx.slots[i] && (s.mbx.slots[i] : MbxSlot).st == SL_POSTED) with
  | none => s
  | some i => if (s.mbx.slots[i] : MbxSlot).final then s.modSlot i fun _ => {} else s.modSlot i fun c => { c with st := SL_RUNNING }

/-- A response is posted (R339, R340): it replaces an unread ACCEPTED, in its place (log entry 72); HSPI and EXT raise their event; an
ICP response leaves as a reply. A first response later than 1 ms after the push is a deadline that class 4 misses (R329). -/
def State.mbxPost (s : State) (i : Fin 32) (status detail state : Nat) (result : List Nat) : State :=
  let c : MbxSlot := s.mbx.slots[i]
  let final := status ≠ ST_ACCEPTED
  let w0 := status * 2 ^ 24 + c.seq * 2 ^ 16 + 4 * result.length
  let w1 := c.opcode * 2 ^ 24 + c.origin * 2 ^ 16 + detail * 2 ^ 8 + state
  let words : List Nat := ([w0, w1] ++ result ++ List.replicate 14 0).take 16
  let s := if status = ST_STATE_REJECT then
      let s := s.bump .mbx MBX_REJECT_CNT
      s.logEntry (Page.base .mbx) status detail state
    else s
  let s := if c.st = SL_EXEC ∧ !c.acc ∧ c.pushedAt + msU 1 < s.now then s.bump .mbx (MP_DL_MISS 4) else s
  let s := { s with mbx := { s.mbx with posts := s.mbx.posts + 1 } }
  let icp := c.origin == ORG_ICP
  let s := s.modSlot i fun c => { c with
      st := SL_POSTED, rsp := if icp then none else some (words.map fun v => BitVec.ofNat 32 v), final := final
      rspOrder := if c.rsp.isSome then c.rspOrder else s.mbx.posts
      postedAt := s.now, acc := c.acc || !final, wait := if final ∧ c.wait ≠ .bivouac then .none else c.wait
      deadline := if final then none else c.deadline }
  if icp then s.icpPost i status detail (if final ∧ c.acc then some c.owes else none) (words.flatMap wordBE)
  else if c.origin = ORG_HSPI then s.raise .mbx 1 else s.raise .mbx 2

/-- The slot whose response a path's window shows: the oldest unread of its origin (R340). -/
def State.rspSlot (s : State) (path : Path) : Option (Fin 32) :=
  (s.mbxSlots (originOf path)).foldl (fun (b : Option (Fin 32)) i =>
    let c : MbxSlot := s.mbx.slots[i]
    if c.rsp.isNone then b
    else match b with
      | none => some i
      | some j => if c.rspOrder < (s.mbx.slots[j] : MbxSlot).rspOrder then some i else b) none

/-- A write of `MBX_POP.GO` (R340): a final response frees its slot, an ACCEPTED leaves it RUNNING. -/
def State.mbxPop (s : State) (path : Path) : State :=
  match s.rspSlot path with
  | none => s
  | some i =>
    let c : MbxSlot := s.mbx.slots[i]
    if c.final then s.modSlot i fun _ => {} else s.modSlot i fun c => { c with st := SL_RUNNING, rsp := none }

/-- What a read of a computed MBX register answers (R350). -/
def State.mbxShow (s : State) (path : Path) (off : Nat) : Option Nat :=
  let k := pathSlot path
  if off = MP_RESTART_INFO.off then
    let v := (s.reg (Page.mbx.base + off)).toNat
    some (if s.mp.longFrom.any fun f => decide (s.now ≤ f + secU 10) then v else withBits v 8 2 0)
  else if off = MBX_STAT.off then
    some ((s.mbxSlots ORG_EXT).length * 2 ^ 24 + (s.mbxSlots ORG_ICP).length * 2 ^ 16 +
      (s.mbxSlots ORG_HSPI).length * 2 ^ 8 + (s.mbxSlots 0).length)
  else if off = MBX_PUSH_STAT.off then some s.mbx.stat[k].toNat
  else if off = MBX_RSP_STAT.off then
    let n := ((s.mbxSlots (originOf path)).filter fun i => (s.mbx.slots[i] : MbxSlot).rsp.isSome).length
    some ((if n = 0 then 0 else 2 ^ 31) + n)
  else if 0x100 ≤ off ∧ off < 0x13C then some ((s.mbx.win[k].toList.getD ((off - 0x100) / 4) 0).toNat)
  else if 0x140 ≤ off ∧ off < 0x180 then
    match s.rspSlot path with
    | none => some 0
    | some i => some ((((s.mbx.slots[i] : MbxSlot).rsp.getD []).getD ((off - 0x140) / 4) 0).toNat)
  else if 0x200 ≤ off ∧ off < 0x280 then
    match finOf 32 ((off - 0x200) / 4) with
    | none => some 0
    | some i =>
      let c : MbxSlot := s.mbx.slots[i]
      if c.st = SL_FREE then some 0
      else some (c.opcode * 2 ^ 24 + c.seq * 2 ^ 16 + c.origin * 2 ^ 8 + c.st)
  else none

/-- A word of a path's command window is written (R336). -/
def State.mbxWinWrite (s : State) (path : Path) (off : Nat) (v : Word) : State :=
  let k := pathSlot path
  match finOf 15 ((off - 0x100) / 4) with
  | none => s
  | some j => { s with mbx := { s.mbx with win := s.mbx.win.set k (s.mbx.win[k].set j v) } }

/-! ### Completions (R115, R341–R346) -/

/-- A command ends (R341): its completion is posted, or kept while the Runtime does not run (R333). -/
def State.mbxFinish (s : State) (i : Fin 32) (status detail word2 : Nat) : State :=
  if s.mp.up then
    s.mbxPost i status detail 0
      (if status = ST_HW_FAULT ∨ word2 ≠ 0 ∨ (status = ST_OK ∧ (s.mbx.slots[i] : MbxSlot).opcode = 0x14) then [word2] else [])
  else s.modSlot i fun c => { c with wait := .none, deadline := none, missed := some (status, detail, word2) }

/-- Every unfinished command that waits as `p` says ends with the outcome `f` gives its slot. -/
def State.mbxFinishAll (s : State) (p : MbxWait → Bool) (status detail word2 : Nat) : State :=
  (List.finRange 32).foldl (fun (s : State) i =>
    if p (s.mbx.slots[i] : MbxSlot).wait then s.mbxFinish i status detail word2 else s) s

/-- A unit (engines 0–3, scanners 4–5) changed state (R115): START ends at LIT, or with HW_FAULT at SAFE or
FAULT; STOP ends at OFF, PARK at SAFE. -/
def State.mbxUnit (s : State) (u new err : Nat) : State :=
  let s := if new = 3 then s.mbxFinishAll (· == .start u) ST_OK 0 0
    else if new = 5 ∨ new = 6 then s.mbxFinishAll (· == .start u) ST_HW_FAULT 0 err else s
  let s := if new = 0 then s.mbxFinishAll (· == .stop u) ST_OK 0 0 else s
  if new = 5 then s.mbxFinishAll (· == .park u) ST_OK 0 0 else s

/-- A STOP or PARK reached a unit whose START runs (R115, R341). -/
def State.mbxStartCut (s : State) (u : Nat) : State := s.mbxFinishAll (· == .start u) ST_INTERRUPTED 0 0

/-- The commit of a group ended (R344): OK with LATE in word 2, or HW_FAULT with the `ERR_CODE` of the page at
`blame`. -/
def State.mbxCommit (s : State) (base : Nat) (late reject : Bool) (blame : Nat) : State :=
  if reject then s.mbxFinishAll (· == .commit base) ST_HW_FAULT MBX_COMMIT_REJECT (s.reg (blame + ERR_CODE.off)).toNat
  else s.mbxFinishAll (· == .commit base) ST_OK 0 (ofBool late)

/-- The completion OK of BIVOUAC is posted; entry begins once it is popped or sent, or 100 ms later (R346). -/
def State.bivPost (s : State) (i : Fin 32) : State :=
  let c : MbxSlot := s.mbx.slots[i]
  let s := s.modSlot i fun c => { c with wait := .bivouac, deadline := none }
  let b : BivWait := { slot := i.val, icp := c.origin == ORG_ICP, port := c.port, ref := c.ref, key := c.key, since := s.now }
  let s : State := { s with mp := { s.mp with biv := some b } }
  s.mbxPost i ST_OK 0 0 []

/-- A store of records ended (R342, R426, R428): its command completes, and a BIVOUAC that waited for it goes on. -/
def State.mbxStored (s : State) (status err : Nat) : State :=
  let s := s.mbxFinishAll (· == .store) status 0 err
  if status = ST_OK then
    (List.finRange 32).foldl (fun (s : State) i =>
      if (s.mbx.slots[i] : MbxSlot).wait == .bivStore then s.bivPost i else s) s
  else s.mbxFinishAll (· == .bivStore) status 0 err

/-- A package that passed its checks replaces the one in use, and CONTENT_OPEN completes with its version (R345,
R451). -/
def State.contentSwap (s : State) : State :=
  match s.content.next with
  | none => s
  | some (secs, ver) =>
    let s : State := { s with content := { s.content with
      st := 2, pkg := secs, version := ver, src := s.content.opening, next := none } }
    (List.finRange 32).foldl (fun (s : State) i =>
      if (s.mbx.slots[i] : MbxSlot).wait == .content then
        (if s.mp.up then s.mbxPost i ST_OK 0 0 [ver] else s.mbxFinish i ST_OK 0 ver)
      else s) s

end Sys2Proof.Machine
end

