-- ==== Sys2Proof/Machine/Notify.lean ====
section
/-!
DEFINITION. What a change of an engine's or scanner's state, a frame start, a latched mask or the end of a
commit tells the rest of the device: recorder records (R450), mailbox completions (R115, R344), and the
Percolator, whose preconditions rest on unit states (R418).
-/

namespace Sys2Proof.Machine

/-- The engine code of a unit (R342): 0x00–0x03 mirror engines, 0x10–0x11 scanners. -/
def unitCode (u : Nat) : Nat := if u < 4 then u else 0x0C + u

/-- The page of a unit. -/
def unitPage (u : Nat) : Page :=
  match finOf 4 u with
  | some n => .eng n
  | none => if u = 4 then .scn 0 else .scn 1

/-- The precondition of a calibration class and instance is lost: a measurement under way keeps that in mind (R418). -/
def State.calLost (s : State) (cls inst : Nat) : State :=
  match finOf 9 (cls - 1), finOf 8 inst with
  | some k, some i =>
    let c : CalInst := s.cal.inst[k][i]
    { s with cal := { s.cal with inst := s.cal.inst.set k (s.cal.inst[k].set i { c with lost := true }) } }
  | _, _ => s

/-- A unit (0–3 engines, 4–5 scanners) entered state `new` from `prev` with a cause. -/
def State.noteState (s : State) (u prev new cause : Nat) : State :=
  let s := if new = 3 then s else (if u < 4 then s.calLost 1 u else s.calLost 8 (u - 4))
  let s := if u < 4 ∧ new ≠ 2 ∧ new ≠ 3 then s.calLost 6 u else s
  let s := s.record 3 [unitCode u, cause * 256 + prev]
  s.mbxUnit u new (s.get (unitPage u) ERR_CODE)

/-- MASK_ID of the mask that the latest composition used; 0 when none. -/
def State.maskInUse (s : State) : Nat :=
  match s.ims.slots.toList.find? fun m => m.state == 3 with
  | some m => m.id
  | none => 0

/-- A unit started a frame: its FRAME record, for the mirror engines that `REC_CFG` selects (R450). -/
def State.noteFrame (s : State) (u : Nat) : State :=
  match finOf 4 u with
  | none => s
  | some n =>
    if s.flag .stor REC_CFG_FRAME ∧ bitOf (s.get .stor ⟨REC_CFG.off, 2, 4⟩) u then
      let p := Page.eng n
      let l : Nat := match finOf 6 u with | some x => s.get (.ltn x) LTN_SCALE | none => 0
      s.record 1 [unitCode u, s.get p ENG_FRAME_CNT, s.get p ENG_LAST_PERIOD, s.get p ENG_FLUX_RATIO, l,
        s.get p ENG_STATUS, s.eng[n].urLast, s.maskInUse, s.get (.comp 0) PTW_LAST_DX, s.get (.comp 0) PTW_LAST_DY,
        s.get (.comp 0) PTW_LAST_HORIZON]
    else s

/-- A composition latched a mask: its MASK record with the fields of the IMS header, and the objects of an
OBJECT mask (R450). -/
def State.noteMask (s : State) (i : Fin 4) : State :=
  if s.flag .stor REC_CFG_MASK then
    let m : MaskSlot := s.ims.slots[i]
    let h := m.hdr
    let objs := m.objs.flatMap fun o => [o.atten, o.cx, o.cy, o.hw, o.hh, o.feather, unsigned 32 o.vx, unsigned 32 o.vy, o.range]
    s.record 2 ([m.id, h.mode * 0x10000 + h.count, h.capture % 2 ^ 32, h.capture / 2 ^ 32, h.width * 0x10000 + h.height,
      h.tdef, h.ref] ++ objs)
  else s

end Sys2Proof.Machine
end

