-- ==== Sys2Proof/Machine/Ports.lean ====
section
/-!
DEFINITION. The switched domains (R361), and the Narpa and matrix ports as the pages show them: port numbers, port states, group
status, and what a port keeps when its bank goes off.
-/

namespace Sys2Proof.Machine

/-! ### Domains (R361) -/

def PD_MP : Nat := 0
def PD_COMP0 : Nat := 2
def PD_COMP1 : Nat := 3
def PD_GRD (n : Nat) : Nat := 4 + n
def PD_SXL (n : Nat) : Nat := 8 + n
def PD_SCN : Nat := 12
def PD_LTN : Nat := 13
def PD_DMC : Nat := 14
def PD_DPHY : Nat := 15
def PD_FSRAM (q : Nat) : Nat := 16 + q
def PD_NET : Nat := 20
def PD_STOR : Nat := 21
def PD_LEDIO_A : Nat := 22
def PD_LEDIO_B : Nat := 23
def PD_SEC : Nat := 24
def PD_NVM : Nat := 25

/-! ### Narpa ports -/

/-- A port number 0–103, its group and its place in it. -/
abbrev NpIx := Fin 104
def npGroup (q : NpIx) : Fin 13 := ⟨q.val / 8, by omega⟩
def npPage (q : NpIx) : Page := .np (npGroup q)
def npLane (q : NpIx) : Nat := q.val % 8
/-- The bank domain of a port (R361). -/
def npBank (q : NpIx) : Nat := if q.val < 52 then PD_LEDIO_A else PD_LEDIO_B
/-- Port `p` of group `g`. -/
def npPort (g : Fin 13) (p : Nat) : Option NpIx := if p < 8 then finOf 104 (8 * g.val + p) else none
/-- Whether the package bonds the port out. -/
def npDeclared (k : Package) (q : NpIx) : Bool := (npPage q).declared k
/-- All ports of a group. -/
def npPorts (g : Fin 13) : List NpIx := (List.range 8).filterMap (npPort g)

def State.modNp (s : State) (q : NpIx) (f : NpPort → NpPort) : State := { s with np := s.np.set q.val (f s.np[q]) }

/-- Port states (R243). -/
def NP_OFF : Nat := 0
def NP_KEEPER : Nat := 1
def NP_ENUM_ST : Nat := 2
def NP_RUN : Nat := 3
def NP_ENUM_FAIL : Nat := 4
def NP_EV_ENUM_DONE : Nat := 24
def NP_EV_CFG_DONE : Nat := 25
def NP_EV_STROBE_LATE : Nat := 26

def State.npState (s : State) (q : NpIx) : Nat := s.get (npPage q) (NP_STATUS_STATE (npLane q))

/-- `NP_GRP_STATUS` and `BLK_STATE` of a group from its ports (R247). -/
def State.npShowGroup (s : State) (g : Fin 13) : State :=
  let p := Page.np g
  let bits (f : Nat → Bool) : Nat := (List.range 8).foldl (fun x i => if f i then x + 2 ^ i else x) 0
  let s := s.put p NP_GRP_STATUS_PBA_WAIT (bits fun i => s.flag p (NP_STATUS_PBA_WAIT i))
  let s := s.put p NP_GRP_STATUS_CHAIN_OPEN (bits fun i => s.flag p (NP_STATUS_CHAIN_OPEN i))
  let s := s.put p NP_GRP_STATUS_RUN (bits fun i => s.get p (NP_STATUS_STATE i) == NP_RUN)
  s.put p BLK_STATE (ofBool ((List.range 8).any fun i => s.get p (NP_STATUS_STATE i) != NP_OFF))

def State.npTo (s : State) (q : NpIx) (st : Nat) : State :=
  (s.put (npPage q) (NP_STATUS_STATE (npLane q)) st).npShowGroup (npGroup q)

/-- Whether the keeper serves a port (R369). -/
def State.keeperServes (s : State) (q : NpIx) : Bool :=
  decide (q.val < 8) && (bitOf (s.get (.np 0) NPK_CFG) q.val || bitOf (s.get (.np 0) NPK_CFG) (q.val + 8))

/-- A port loses its bank (R39): OFF, or KEEPER where the keeper serves it. -/
def State.npDomainOff (s : State) (q : NpIx) : State :=
  let p := npPage q
  let base := 0x100 + 0x80 * npLane q
  let s := [0x30, 0x34, 0x38, 0x3C, 0x58].foldl (fun s o => s.setReg (p.base + base + o) 0) s
  let s := s.modNp q fun _ => {}
  s.npTo q (if s.keeperServes q then NP_KEEPER else NP_OFF)


/-! ### Matrix ports -/

/-- A matrix port number 0–23, its group, its page and its place in the page. -/
abbrev MxIx := Fin 24
def mxGroup (q : MxIx) : Fin 3 := ⟨q.val / 8, by omega⟩
def mxPage (q : MxIx) : Page := .mx (mxGroup q)
def mxLane (q : MxIx) : Nat := q.val % 8
/-- The bank domain of a matrix port (R361). -/
def mxBank (q : MxIx) : Nat := if q.val < 12 then PD_LEDIO_A else PD_LEDIO_B
def mxPort (g : Fin 3) (p : Nat) : Option MxIx := if p < 8 then finOf 24 (8 * g.val + p) else none
def mxPorts (g : Fin 3) : List MxIx := (List.range 8).filterMap (mxPort g)
def mxDeclared (k : Package) (q : MxIx) : Bool := (mxPage q).declared k

def State.modMx (s : State) (q : MxIx) (f : MxPort → MxPort) : State := { s with mx := s.mx.set q.val (f s.mx[q]) }

/-- Port states (R266). -/
def MX_OFF : Nat := 0
def MX_WAIT : Nat := 1
def MX_RUN : Nat := 2
def MX_TE_LOST : Nat := 3
def MX_FAULT : Nat := 4
def MX_EV_STATE_CHANGE : Nat := 24
def MX_EV_LATE_SWAP : Nat := 25

def State.mxState (s : State) (q : MxIx) : Nat := s.get (mxPage q) (MX_STATUS_STATE (mxLane q))

/-- `MX_GRP_STATUS` and `BLK_STATE` of a group from its ports (R268). -/
def State.mxShowGroup (s : State) (g : Fin 3) : State :=
  let p := Page.mx g
  let bits (f : Nat → Bool) : Nat := (List.range 8).foldl (fun x i => if f i then x + 2 ^ i else x) 0
  let st (i : Nat) : Nat := s.get p (MX_STATUS_STATE i)
  let s := s.put p MX_GRP_STATUS_PBA_WAIT (bits fun i => s.flag p (MX_STATUS_PBA_WAIT i))
  let s := s.put p MX_GRP_STATUS_TE_LOST (bits fun i => st i == MX_TE_LOST)
  let s := s.put p MX_GRP_STATUS_RUN (bits fun i => st i == MX_RUN)
  s.put p BLK_STATE (ofBool ((List.range 8).any fun i => st i != MX_OFF))

/-- Whether port `m` can be shown by a clone with the geometry of `q` (R265): in RUN, same rows and columns. -/
def State.cloneFits (s : State) (q m : MxIx) : Bool :=
  s.mxState m == MX_RUN &&
    s.inf (mxPage q) (MX_CFG_ROWS_M1 (mxLane q)) == s.inf (mxPage m) (MX_CFG_ROWS_M1 (mxLane m)) &&
    s.inf (mxPage q) (MX_CFG_COLS_M1 (mxLane q)) == s.inf (mxPage m) (MX_CFG_COLS_M1 (mxLane m))

/-- `MX_STATUS.CLONE_HOLD` of a port, and of every port (R265). -/
def State.mxHold (s : State) (q : MxIx) : State :=
  let hold := s.infFlag (mxPage q) (MX_CFG_CLONE (mxLane q)) && s.mx[q].img.isSome &&
    (match finOf 24 (s.inf (mxPage q) (MX_CFG_CLONE_SRC (mxLane q))) with
      | some m => !s.cloneFits q m
      | none => true)
  if s.flag (mxPage q) (MX_STATUS_CLONE_HOLD (mxLane q)) = hold then s
  else s.setFlag (mxPage q) (MX_STATUS_CLONE_HOLD (mxLane q)) hold
def State.mxHolds (s : State) : State := (List.finRange 24).foldl (fun s q => s.mxHold q) s

/-- A matrix port changes state. -/
def State.mxTo (s : State) (q : MxIx) (st : Nat) : State :=
  if s.mxState q = st then s
  else ((s.put (mxPage q) (MX_STATUS_STATE (mxLane q)) st).raise (mxPage q) MX_EV_STATE_CHANGE).mxHolds.mxShowGroup
    (mxGroup q)

/-- A matrix port loses its bank (R39). -/
def State.mxDomainOff (s : State) (q : MxIx) : State :=
  let p := mxPage q
  let s := [0x28, 0x2C, 0x30, 0x34, 0x38].foldl (fun s o => s.setReg (p.base + 0x100 + 0x80 * mxLane q + o) 0) s
  (s.modMx q fun _ => {}).mxHolds.mxShowGroup (mxGroup q)

end Sys2Proof.Machine
end

