-- ==== Sys2Proof/Machine/Domains.lean ====
section
/-!
DEFINITION. The switched power domains (R361, R362), the requesters of the power budget arbiter and what
each grant switches on (R376), and the arbiter's queue, budget evaluation and factors (R377–R388).
-/

namespace Sys2Proof.Machine

/-! ### Domains -/

/-- The parent of a domain (R361): it must be on before the domain switches on. -/
def domParent (d : Nat) : Option Nat :=
  if d = PD_NOC then none
  else if 4 ≤ d ∧ d < 8 then some (PD_FSRAM (d - 4))
  else if d = PD_DPHY then some PD_DMC
  else some PD_NOC

/-- Domains of absent instances, whose requests are ignored and whose bits read 0 (R362). -/
def domAbsent (k : Package) (d : Nat) : Bool :=
  k == .c && (d == 6 || d == 7 || d == 10 || d == 11 || d == 21)

/-- The machine with a domain marked on, in retention, or off. -/
def State.setDom (s : State) (d : Nat) (on ret : Bool) : State :=
  (s.put .basecamp ⟨BC_PD_ON.off, d, 1⟩ (ofBool on)).put .basecamp ⟨BC_PD_RET.off, d, 1⟩ (ofBool ret)

/-- Size of a Frame SRAM quarter (R21). -/
def quarterSize : Nat := 0x1400000

/-- RO status of a page reads its reset values while its domain is off (R39); counters and `IRQ_STAT` stay.
`keep` names the offsets that lie in another domain. -/
def State.statusOff (s : State) (p : Page) (keep : Nat → Bool) : State :=
  p.rows.foldl (fun s r =>
    if r.cnt || (decide (r.off < 0x44) && r.off != 0x00C) then s
    else (List.range r.count).foldl (fun s i =>
      let off := r.off + r.stride * i
      let a := p.base + off
      if keep off then s
      else s.setReg a (BitVec.ofNat 32 (mixBits r.roMask (r.resetOf i) (s.reg a).toNat))) s) s

/-- Offsets of the interlock's record on a Lantern page, which lies in Basecamp (R39, R163). -/
def ilkOffsets (off : Nat) : Bool := off == 0xAC || off == 0xB4 || off == 0xB8

/-- A Lantern that loses its domain: OFF, the latch and its record stay (R158, R163); its delay lines stand as not failed
(R416). -/
def State.ltnDomainOff (s : State) (x : Fin 6) : State :=
  let l := s.ltn[x]
  let tr := s.flag (.ltn x) LTN_ILK_STAT_TRIPPED
  let s := (((s.calLost 2 x.val).calLost 3 x.val).calLost 4 (x.val / 3)).calLost 5 x.val
  let s := s.statusOff (.ltn x) ilkOffsets
  let s : State := { s with cal := { s.cal with lines := s.cal.lines.set x { s.cal.lines[x] with
    failed := Vector.replicate 3 false, urgent := none, ready := none } } }
  let s := s.put .cal ⟨(CAL_DL_STAT x.val).off, 8, 3⟩ 0
  let s := { s with ltn := s.ltn.set x.val { pinRead := l.pinRead, pinSince := l.pinSince, closeAt := l.closeAt } }
  if tr then s.put (.ltn x) BLK_STATE 4 else s

/-- A block whose domain switches off loses its logic (R39). -/
def State.blocksOff (s : State) (d : Nat) : State :=
  if 4 ≤ d ∧ d < 8 then
    match finOf 4 (d - 4) with
    | some n =>
      { (s.statusOff (.grd n) (fun _ => false)).statusOff (.eng n) (fun off => off == ENG_STATE_INFO.off) with
        grd := s.grd.set n.val {}, eng := s.eng.set n.val {} }
    | none => s
  else if 8 ≤ d ∧ d < 12 then
    match finOf 4 (d - 8) with
    | some n => { s.statusOff (.sxl n) (fun _ => false) with sxl := s.sxl.set n.val {} }
    | none => s
  else if d = PD_SCN then
    (List.finRange 2).foldl (fun s k =>
      let c := s.scn[k]
      { s.statusOff (.scn k) (fun off => off == SCN_STATE_INFO.off) with
        scn := s.scn.set k.val { ptt := c.ptt, ready := c.ready, readyGeom := c.readyGeom, frontGeom := c.frontGeom } }) s
  else if d = PD_LTN then (List.finRange 6).foldl (fun s x => s.ltnDomainOff x) s
  else if d = PD_LEDIO_A ∨ d = PD_LEDIO_B then
    let s := (List.finRange 104).foldl (fun s q => if npBank q = d then s.npDomainOff q else s) s
    (List.finRange 24).foldl (fun s q => if mxBank q = d then s.mxDomainOff q else s) s
  else if d = PD_COMP0 then
    let s := (List.finRange 7).foldl (fun s i => s.statusOff (.comp (i.castLE (by decide))) (fun _ => false)) s
    { s with cmp := {} }
  else if d = PD_DMC then
    { (List.finRange 4).foldl (fun s i => s.statusOff (.dmc i) (fun _ => false)) s with dmcs := {} }
  else if d = PD_NET then
    let s := (List.finRange 4).foldl (fun (s : State) n =>
      (s.statusOff (.eth n) (fun _ => false)).statusOff (.can n) (fun _ => false)) s
    { s with eth := s.eth.map fun e => { replies := e.replies.filter fun r => r.slot.isSome || r.owed.isSome }, can := Vector.replicate 4 {}, bulk := none }
  else if d = PD_STOR then { s.statusOff .stor (fun _ => false) with stor := {} }
  else if d = PD_SEC then
    { s.statusOff .sec (fun off => off == 0x44) with
      sec := { s.sec with keyData := Vector.replicate 8 0
                          keys := s.sec.keys.map fun k => { k with high := 0, seen := [], replies := 0 } } }
  else if d = PD_NVM then { s.statusOff .nvm (fun off => off == 0x60) with nvm := {} }
  else s

/-- A domain switches off: its block loses its logic, and a Frame SRAM quarter its content (R23, R39). -/
def State.domOff (s : State) (d : Nat) : State :=
  let s := (s.setDom d false false).blocksOff d
  if 16 ≤ d ∧ d < 20 then { s with fsram := memClear s.fsram ((d - 16) * quarterSize) quarterSize } else s

/-! ### Requesters (R376) -/

def ID_ENG (n : Nat) : Nat := n
def ID_SCN (k : Nat) : Nat := 4 + k
def ID_DMC : Nat := 6
def ID_COMP : Nat := 7
def ID_NET : Nat := 8
def ID_STOR : Nat := 9
def ID_FW : Nat := 0x0A
def ID_NP (g : Nat) : Nat := 0x10 + g
def ID_MX (g : Nat) : Nat := 0x20 + g
/-- The port number of a requester without ports (R389, `PBA_LAST_GRANT`). -/
def NO_PORT : Nat := 0xFF

/-- `PBA_LAST_GRANT` of a grant (R389): a request of FW, which names a domain, has no port. -/
def lastGrant (id port : Nat) : Nat := id * 2 ^ 16 + if id = ID_FW then NO_PORT else port

/-- The domains a requester's grant switches on (R376). -/
def domainsOf (id port : Nat) : List Nat :=
  if id < 4 then [PD_GRD id, PD_SXL id, PD_LTN, PD_FSRAM id]
  else if id < 6 then [PD_SCN, PD_LTN, PD_FSRAM (id - 4)]
  else if id = ID_DMC then [PD_DMC, PD_DPHY]
  else if id = ID_COMP then [PD_COMP0, PD_COMP1, PD_FSRAM 0, PD_FSRAM 1]
  else if id = ID_NET then [PD_NET]
  else if id = ID_STOR then [PD_STOR]
  else if id = ID_FW then [port]
  else if 0x10 ≤ id ∧ id < 0x20 then
    [if (id - 0x10) * 8 + port < 52 then PD_LEDIO_A else PD_LEDIO_B, PD_FSRAM 3]
  else if 0x20 ≤ id then [if (id - 0x20) * 8 + port < 12 then PD_LEDIO_A else PD_LEDIO_B, PD_FSRAM 2]
  else []

/-- Whether a requester is a lamp unit: ENG, SCN, and NP and MX groups (R377). -/
def isLamp (id : Nat) : Bool := decide (id < 6) || decide (0x10 ≤ id)

/-- Whether the PBA runs in bypass (R381). -/
def State.pbaBypass (s : State) : Bool := !s.flag .pba BLK_CTRL_EN

def State.reqCore (s : State) (id : Nat) : Nat := s.get .pba ⟨(PBA_REQ id).off, 16, 12⟩
def State.reqLamp (s : State) (id : Nat) : Nat := s.get .pba ⟨(PBA_REQ id).off, 0, 16⟩
/-- The class of a requester (R377); the class of FW is fixed at AUX. -/
def State.reqClass (s : State) (id : Nat) : Nat := if id = ID_FW then 3 else s.get .pba ⟨(PBA_REQ id).off, 30, 2⟩

/-- The granted core load (R376, R388): the CORE fields of the requesters whose load counts. -/
def State.coreGranted (s : State) : Nat := (s.pba.loaded.map s.reqCore).sum

/-! ### Thermal and budget factors (R383–R387, R401) -/

/-- θ_J of a class at the THERM level in force (R399). -/
def State.thetaJ (s : State) (cls : Nat) : Nat :=
  let a := (THERM_LVL (s.get .therm THERM_STATUS_LEVEL)).off
  match cls with
  | 0 => s.get .therm ⟨a, 18, 9⟩
  | 1 => s.get .therm ⟨a, 9, 9⟩
  | 2 => s.get .therm ⟨a, 0, 9⟩
  | _ => 256

/-- θ_X of the external input that `THERM_UNIT_XT` assigns to a unit; 1 when none is (R401). -/
def State.thetaX (s : State) (id : Nat) : Nat :=
  let n := s.get .therm ⟨(THERM_UNIT_XT (id / 8)).off, 4 * (id % 8), 4⟩
  if n < 8 then 256 else if h : n - 8 < 8 then s.therm.thX[n - 8] else 256

/-- θ of a lamp unit in 1/256 (R401). -/
def State.theta (s : State) (id : Nat) : Nat := min (s.thetaJ (s.reqClass id)) (s.thetaX id)

/-- The class factor in force, in 1/256 (R383, R384). -/
def State.piOf (s : State) (cls : Nat) : Nat :=
  match cls with
  | 0 => s.get .pba ⟨PBA_FACTOR.off, 0, 9⟩
  | 1 => s.get .pba ⟨PBA_FACTOR.off, 10, 9⟩
  | 2 => s.get .pba ⟨PBA_FACTOR.off, 20, 9⟩
  | _ => 256

/-- The soft-start factor of a requester (R385): INIT/256 until the unit's first RUN, then linear to 1; 1 in bypass (R381). -/
def State.sigma (s : State) (id : Nat) : Rat :=
  if s.pbaBypass then 1 else match (s.pba.soft.find? fun e => e.1 == id) with
  | none => 1
  | some (_, f) =>
    match f.from? with
    | none => (f.init : Rat) / 256
    | some t0 =>
      let dur := msU (s.get .pba PBA_SOFT_MS)
      let e := s.now - t0
      if dur ≤ e then 1 else ((f.init * (dur - e) + 256 * e : Nat) : Rat) / ((256 * dur : Nat) : Rat)

/-- The largest legal floor of a unit or of the ports of a group, Q1.15 (R383). -/
def State.legalFloor (s : State) (id : Nat) : Nat :=
  if id < 6 then
    match finOf 6 id with
    | some n => s.get (.ltn n) LTN_LEGAL_FLOOR
    | none => 0
  else if id < 0x20 then
    match finOf 13 (id - 0x10) with
    | some g => (List.range 8).foldl (fun m p => max m (s.get (.np g) (NP_LEGAL_FLOOR p))) 0
    | none => 0
  else
    match finOf 3 (id - 0x20) with
    | some g => (List.range 8).foldl (fun m p => max m (s.get (.mx g) (MX_LEGAL_FLOOR p))) 0
    | none => 0

/-- Granted lamp requesters whose load counts (R376, R383). -/
def State.lampUnits (s : State) : List Nat := s.pba.loaded.filter isLamp

/-- The lamp demand at class factors `pl`, `pe`, `pd` in 1/256, in 100 mW (R383, R387). -/
def State.lampDemand (s : State) (pl pe pd : Nat) : Rat :=
  s.lampUnits.foldl (fun (x : Rat) u =>
    let k := match s.reqClass u with | 0 => pl | 1 => pe | _ => pd
    let f : Rat := ((s.theta u * k : Nat) : Rat) / 65536 * s.sigma u
    x + (s.reqLamp u : Rat) * max f ((s.legalFloor u : Rat) / 32768)) 0

/-- The largest k with `lo ≤ k ≤ 256` and `ok k`, or `lo` (the search of R383), trying down from `k`. -/
def searchDown (ok : Nat → Bool) (lo : Nat) : Nat → Nat
  | 0 => lo
  | k + 1 => if k + 1 ≤ lo then lo else if ok (k + 1) then k + 1 else searchDown ok lo k

/-- The target class factors (πL, πE, πD) and whether the demand stays over the budget (R383). -/
def State.pbaTarget (s : State) : Nat × Nat × Nat × Bool :=
  let b := s.get .pba PBA_LAMP_BUDGET
  if b = 0 ∨ s.pbaBypass then (256, 256, 256, false)
  else
    let bud : Rat := if s.flag .basecamp BC_STATUS_PFW then (b * s.get .pba PBA_PFW_DERATE : Nat) / 100 else b
    let ok (l e d : Nat) : Bool := decide (s.lampDemand l e d ≤ bud)
    let d := if ok 256 256 256 then 256 else searchDown (ok 256 256) (s.get .pba PBA_CLASS_MIN_DECOR) 256
    let e := if ok 256 256 d then 256 else searchDown (fun k => ok 256 k d) (s.get .pba PBA_CLASS_MIN_ENGINE) 256
    let l := if ok 256 e d then 256 else searchDown (fun k => ok k e d) (s.get .pba PBA_CLASS_MIN_LEGAL) 256
    (l, e, d, !ok l e d)

/-- A factor moves towards its target: down at once, up by at most the rise (R384). -/
def stepFactor (cur tgt rise : Nat) : Nat := if tgt ≤ cur then tgt else min tgt (cur + rise)

/-- Halves-up rounding of a non-negative rational. -/
def roundRat (r : Rat) : Nat := (r * 2 + 1).floor.toNat / 2

/-- The Q1.15 value a lamp unit receives (R386): θπσ when granted, θ alone when not. -/
def State.limitIn (s : State) (id : Nat) : Nat :=
  if s.pba.loaded.contains id ∧ !s.pbaBypass then
    roundRat (((s.theta id * s.piOf (s.reqClass id) : Nat) : Rat) / 65536 * s.sigma id * 32768)
  else s.theta id * 128

/-- Delivery of every unit's limit (R386). -/
def State.deliverLimits (s : State) : State :=
  let s := (List.finRange 6).foldl (fun s n => s.put (.ltn n) LTN_LIMIT_IN (s.limitIn n.val)) s
  let s := (List.finRange 13).foldl (fun s g => s.put (.np g) NP_LIMIT_IN (s.limitIn (ID_NP g.val))) s
  (List.finRange 3).foldl (fun s g => s.put (.mx g) MX_LIMIT_IN (s.limitIn (ID_MX g.val))) s

/-- `BLK_STATE` of PBA (R389): BYPASS, IDLE, WAITING, OVER. -/
def State.pbaState (s : State) : State :=
  s.put .pba BLK_STATE
    (if s.pbaBypass then 0 else if s.flag .pba ⟨PBA_STATUS.off, 1, 1⟩ then 3
      else if s.pba.queue.isEmpty then 1 else 2)

/-- The status fields that show the queue and the granted set (R389). -/
def State.pbaShow (s : State) : State :=
  let m (l : List Nat) (i : Nat) := (l.eraseDups.filter fun r => decide (r / 32 = i)).foldl (fun x r => x + 2 ^ (r % 32)) 0
  let w := s.pba.queue.map (·.id)
  let g := s.pba.grants.map (·.1)
  let s := (s.put .pba (PBA_WAITMAP 0) (m w 0)).put .pba (PBA_WAITMAP 1) (m w 1)
  let s := (s.put .pba (PBA_GRANTMAP 0) (m g 0)).put .pba (PBA_GRANTMAP 1) (m g 1)
  let s := s.put .pba PBA_CORE_GRANTED (s.coreGranted)
  let s := s.put .pba ⟨PBA_STATUS.off, 24, 8⟩ (min 255 s.pba.queue.length)
  let s := s.put .pba ⟨PBA_STATUS.off, 0, 1⟩ (ofBool (decide (s.now < s.pba.nextAt)))
  let s := if s.coreGranted ≤ s.get .pba PBA_CORE_BUDGET then s.put .pba ⟨PBA_STATUS.off, 2, 1⟩ 0 else s
  s.pbaState

/-- One evaluation of the lamp budget (R383–R387): factors, over-budget status and events, demand, and
the limits delivered. -/
def State.pbaEvaluate (s : State) : State :=
  let (tl, te, td, isOver) := s.pbaTarget
  let r := s.get .pba PBA_RISE
  let bypass := s.pbaBypass || s.get .pba PBA_LAMP_BUDGET == 0
  let l := if bypass then 256 else stepFactor (s.piOf 0) tl r
  let e := if bypass then 256 else stepFactor (s.piOf 1) te r
  let d := if bypass then 256 else stepFactor (s.piOf 2) td r
  let fell := decide (l < s.piOf 0) || decide (e < s.piOf 1) || decide (d < s.piOf 2)
  let was := s.flag .pba ⟨PBA_STATUS.off, 1, 1⟩
  let s := s.put .pba PBA_FACTOR (l + e * 2 ^ 10 + d * 2 ^ 20)
  let s := if fell then s.raise .pba 4 else s
  let s := s.put .pba ⟨PBA_STATUS.off, 1, 1⟩ (ofBool isOver)
  let s := if isOver then s.bump .pba PBA_OVER_CNT else s
  let s := if isOver ∧ !was then s.raise .pba 2 else if was ∧ !isOver then s.raise .pba 5 else s
  let s := s.put .pba PBA_LAMP_DEMAND (min 65535 (roundRat (s.lampDemand l e d)))
  s.deliverLimits.pbaShow

/-- Commands whose grant or new θ comes before an evaluation on their tick (R388). -/
def evalWaits : Instr → Option Nat
  | .pbaGrant t | .sensorSample t _ _ | .xtSample t _ _ | .throtStepUp t | .throtStepDown t => some t
  | _ => none

/-- The timed evaluation, after the grants and new θ of its tick (R388). -/
def State.pbaDue (s : State) : State :=
  if !s.pba.evalDue ∨ s.waits evalWaits then s
  else ({ s with pba := { s.pba with evalDue := false } }).pbaEvaluate

/-! ### Requests, releases and domains -/

/-- The core load of a group of ports or of FW counts until no port or bit of it is granted or waits (R376). -/
def State.groupBusy (s : State) (id : Nat) : Bool :=
  if id = ID_FW then s.get .basecamp BC_PD_REQ != 0
  else s.pba.grants.any (fun g => g.1 == id) || s.pba.queue.any (fun q => q.id == id)

/-- Whether an owner's grant requests a domain (R362). PD_MP, PD_NOC, PD_SEC and PD_NVM follow the sequencer. A
matrix port in TE_LOST has released its grant and keeps its domains (log entry 42). -/
def State.domOwned (s : State) (d : Nat) : Bool :=
  s.pba.grants.any (fun g => (domainsOf g.1 g.2).contains d) ||
    (List.finRange 24).any fun q =>
      s.mxState q == MX_TE_LOST && (domainsOf (0x20 + (mxGroup q).val) (mxLane q)).contains d

/-- Whether a domain that is on stays on (R362): an owner or its `BC_PD_REQ` bit requests it, or a child that
stays on. -/
def State.domWanted (s : State) (d : Nat) : Bool :=
  let w (d : Nat) : Bool := s.domOwned d || bitOf (s.get .basecamp BC_PD_REQ) d
  w d || (decide (16 ≤ d ∧ d < 20) && s.domOn (d - 12) && w (d - 12)) || (d == PD_DMC && s.domOn PD_DPHY && w PD_DPHY)

/-- Domains that support retention (R361). -/
def domRetains (d : Nat) : Bool := d == PD_DPHY || decide (16 ≤ d ∧ d < 20)

/-- A domain that nothing requests goes to retention where it supports it and may, otherwise off (R362); one in
retention that may not any more goes off. PD_DPHY stays in retention in self-refresh (R312). -/
def State.domRefresh (s : State) : State :=
  ((List.range 22).map (· + 2)).foldl (fun (s : State) d =>
    let parentOn := match domParent d with | some p => s.domOn p | none => true
    let ret := domRetains d && bitOf (s.get .basecamp BC_PD_RETEN) d && parentOn
    if s.domOn d then
      (if s.domWanted d then s else if ret then s.setDom d false true else s.domOff d)
    else if s.domRet d then
      (if ret || (d == PD_DPHY && s.domOn PD_DMC) then s else s.domOff d)
    else if ret && d != PD_DPHY && !domAbsent s.pkg d then s.setDom d false true
    else s) s

/-- A request (R376, R378): ignored while the requester or port already waits or holds a grant. -/
def State.pbaRequest (s : State) (id port : Nat) : State :=
  if s.pba.grants.contains (id, port) ∨ s.pba.queue.any (fun q => q.id == id && q.port == port) then s
  else
    let s := { s with pba := { s.pba with queue := s.pba.queue ++ [({ id := id, port := port, since := s.now } : PbaReq)] } }
    s.pbaShow

/-- A withdrawal or release (R380): the request or grant goes, its load when it was the last of its
group, its domains when nobody else requests them; a release is followed by an evaluation (R383). -/
def State.pbaRelease (s : State) (id port : Nat) : State :=
  let had := s.pba.grants.contains (id, port)
  let s := { s with pba := { s.pba with
    queue := s.pba.queue.filter fun q => !(q.id == id && q.port == port)
    grants := s.pba.grants.filter (· != (id, port))
    proceeding := s.pba.proceeding.filter (· != (id, port)) } }
  let s := if s.groupBusy id then s
    else { s with pba := { s.pba with loaded := s.pba.loaded.filter (· != id), soft := s.pba.soft.filter (·.1 != id) } }
  if had then s.domRefresh.pbaEvaluate else s.pbaShow

/-- The unit's first entry to RUN after its grant starts the rise of its soft-start factor (R385). -/
def State.softRun (s : State) (id : Nat) : State :=
  { s with pba := { s.pba with soft := s.pba.soft.map fun e =>
      if e.1 = id ∧ e.2.from? = none then (e.1, { e.2 with from? := some s.now }) else e } }

/-! ### Grants (R378, R379) -/

/-- Whether a request comes before another in the order of R378. -/
def State.reqBefore (s : State) (a b : PbaReq) : Bool :=
  let ka := s.reqClass a.id
  let kb := s.reqClass b.id
  ka < kb || (ka == kb && (a.since < b.since || (a.since == b.since &&
    (a.id < b.id || (a.id == b.id && a.port < b.port)))))

/-- The first element in an order. -/
def firstBy (lt : PbaReq → PbaReq → Bool) : List PbaReq → Option PbaReq
  | [] => none
  | a :: r =>
    match firstBy lt r with
    | none => some a
    | some b => if lt b a then some b else some a

/-- The core step of a grant (R378): 0 when the requester's group load already counts. -/
def State.coreStep (s : State) (id : Nat) : Nat := if s.pba.loaded.contains id then 0 else s.reqCore id

/-- The budget checks of a request (R378); none in bypass (R381). -/
def State.passes (s : State) (q : PbaReq) : Bool :=
  s.pbaBypass || s.reqClass q.id == 0 ||
    (decide (s.coreGranted + s.coreStep q.id ≤ s.get .pba PBA_CORE_BUDGET) &&
      !(isLamp q.id && s.reqLamp q.id != 0 && s.flag .pba ⟨PBA_STATUS.off, 1, 1⟩))

/-- The request that the present opportunity grants (R378). -/
def State.nextGrant (s : State) : Option PbaReq := firstBy s.reqBefore (s.pba.queue.filter s.passes)

/-- A grant (R378, R379, R385): the load counts, the slot passes, the soft start begins, the budget is
evaluated. The requester proceeds when its domains are on. -/
def State.pbaGrant (s : State) (q : PbaReq) : State :=
  let step := s.coreStep q.id
  let slots := if s.pbaBypass then 1 else max 1 (ceilDiv step (s.get .pba PBA_STEP_MAX))
  let gap := usU (s.get .pba PBA_SLOT * slots)
  let legal := s.reqClass q.id == 0
  let soft : List (Nat × SoftStart) := if q.id < 6 then
      s.pba.soft.filter (·.1 != q.id) ++ [(q.id, { init := if s.pbaBypass then 256 else s.get .pba PBA_SOFT_INIT })]
    else s.pba.soft
  let s : State := { s with pba := { s.pba with
    queue := s.pba.queue.filter fun r => !(r.id == q.id && r.port == q.port)
    grants := s.pba.grants ++ [(q.id, q.port)]
    loaded := if s.pba.loaded.contains q.id then s.pba.loaded else s.pba.loaded ++ [q.id]
    proceeding := s.pba.proceeding ++ [(q.id, q.port)]
    soft := soft
    nextAt := s.now + gap } }
  let s := (s.bump .pba PBA_GRANT_CNT).keepMax .pba PBA_WAIT_MAX (toUs (s.now - q.since))
  let s := s.put .pba PBA_LAST_GRANT (lastGrant q.id q.port)
  let s := s.put .pba PBA_NEXT_NS ((s.localTime + toNs gap) % 1000000000)
  let s := if legal ∧ step ≠ 0 ∧ !s.pbaBypass ∧ s.get .pba PBA_CORE_BUDGET < s.coreGranted then
      (s.put .pba ⟨PBA_STATUS.off, 2, 1⟩ 1).raise .pba 3 else s
  (s.raise .pba 0).pbaEvaluate

/-- Whether every domain of a requester's grant is on. -/
def State.domainsOn (s : State) (id port : Nat) : Bool :=
  (domainsOf id port).all fun d => s.domOn d || domAbsent s.pkg d

end Sys2Proof.Machine
end

