-- ==== Sys2Proof/Machine/Lantern.lean ====
section
/-!
DEFINITION. The Lantern units (spec/06): setpoint codes and the setpoint port (R144, R145, R150, R151,
R503), edge delays (R146, R148), the photometric loop (R153, R154), the fallback train (R159), the kill
pin and the interlock latch (R142, R160–R163). The transitions that follow an engine are in
`Sys2Proof.Machine.Engine` and `Sys2Proof.Machine.Scanner`.
-/

namespace Sys2Proof.Machine

def State.modLtn (s : State) (x : Fin 6) (f : Lantern → Lantern) : State :=
  { s with ltn := s.ltn.set x.val (f s.ltn[x]) }

/-- Lantern state codes (R157). -/
def LTN_OFF : Nat := 0
def LTN_ARMED : Nat := 1
def LTN_RUN : Nat := 2
def LTN_FALLBACK_ST : Nat := 3
def LTN_TRIPPED : Nat := 4

def State.ltnState (s : State) (x : Fin 6) : Nat := s.get (.ltn x) BLK_STATE
def State.ltnTo (s : State) (x : Fin 6) (st : Nat) : State :=
  let s := if st = 2 ∨ st = 3 then s else s.calLost 3 x.val
  let s := if st = 0 ∨ st = 1 then s else s.calLost 5 x.val
  s.put (.ltn x) BLK_STATE st

/-- Whether the Lantern runs in SCAN mode (LTN4, LTN5). -/
def scanMode (x : Fin 6) : Bool := decide (4 ≤ x.val)

/-- Lantern event bits (R165). -/
def LTN_EV_TRIP : Nat := 0
def LTN_EV_SETPT_MISS : Nat := 1
def LTN_EV_SETPT_DEAD : Nat := 2
def LTN_EV_LEVEL_SAT : Nat := 3
def LTN_EV_LOOP_SAT : Nat := 4
def LTN_EV_LSEL_TIGHT : Nat := 5
def LTN_EV_RATIO_STALE : Nat := 6
def LTN_EV_ADC_SPARED : Nat := 7
def LTN_EV_FLOOR_ACT : Nat := 8
def LTN_EV_FALLBACK_DARK : Nat := 9
def LTN_EV_DRV_FAULT : Nat := 10
def LTN_EV_PATH_LIMIT : Nat := 11

/-! ### Pins -/

/-- The source goes dark: `LSx_WIN` low (R142, R161). -/
def State.ltnDark (s : State) (x : Fin 6) : State :=
  let s := if s.flag (.ltn x) LTN_STATUS_WIN then s.modLtn x fun l => { l with closeAt := s.now } else s
  (s.put (.ltn x) LTN_STATUS_WIN 0).put (.ltn x) LTN_STATUS_LSEL 0

/-- The position of tap `i` in a line's table, ps: the nominal one when the line has never been calibrated. -/
def tapPos (t : List Int) (i : Nat) : Int := (t[i]?).getD (((i + 1) * 125 / 2 : Nat) : Int)

/-- The tap of a line whose position lies nearest the nominal position of tap `f`, the lowest of equals (R147). -/
def tapOf (t : List Int) (f : Nat) : Nat :=
  let off (i : Nat) : Nat := (2 * tapPos t i - ((f + 1) * 125 : Nat)).natAbs
  (List.range 64).foldl (fun m i => if off i < off m then i else m) 0

/-- An edge is commanded now through the line for open or for close edges: its TCLK tick, and its tap by that line's
table (R147). -/
def State.edgeCommand (s : State) (x : Fin 6) (opening : Bool) : State :=
  let d := s.cal.lines[x]
  let t := d.table[if opening then d.open_ else d.close]
  s.modLtn x fun l => { l with cmdTick := s.now / tickU, cmdTap := tapOf t (s.now % tickU) }

/-- `LSx_WIN` is commanded to rise or fall now, with its edge at the source at `edge`. -/
def State.ltnWin (s : State) (x : Fin 6) (on : Bool) (edge : Nat) : State :=
  let s := (s.put (.ltn x) LTN_STATUS_WIN (ofBool on)).edgeCommand x on
  s.modLtn x fun l => if on then { l with openAt := edge, riseAt := s.now } else { l with closeAt := edge }

/-- `LSx_KILL_N` driven high or low. -/
def State.ltnKill (s : State) (x : Fin 6) (lvl : Bool) : State := s.modLtn x fun l => { l with killN := lvl }

/-- The pins of OFF (R142): dark, level 0, frame mark low, port idle, kill low, no load and no window to come. -/
def State.ltnOffPins (s : State) (x : Fin 6) : State :=
  (s.ltnDark x).modLtn x fun l => { l with
    killN := false, frmAt := none, portAt := none, loading := false, final := false, markDue := false, opRun := 0 }

/-- The level of `LSx_FRM` at an instant: high for 100 ns from a frame mark (R151). -/
def Lantern.frm (l : Lantern) (now : Nat) : Bool :=
  match l.frmAt with | some a => decide (a ≤ now) && decide (now < a + nsU 100) | none => false

/-! ### Codes and the setpoint port (R144, R150, R151) -/

/-- λ_eff of a Lantern, Q1.15 (R150). -/
def State.lamEff (s : State) (x : Fin 6) : Nat :=
  max (s.get (.ltn x) LTN_LIMIT_IN) (s.get (.ltn x) LTN_LEGAL_FLOOR)

/-- A setpoint code before its limit: level code × g (Q2.22) × r (Q2.14) × λ_eff (Q1.15), rounded (R150). -/
def codeOf (lvl g r lam : Nat) : Nat := roundDiv (lvl * g * r * lam) (2 ^ 51)

/-- The shadow writes begin with these codes; each write waits for its confirmation (R151). -/
def State.ltnWriteCodes (s : State) (x : Fin 6) (c : Vector Nat 4) : State :=
  s.modLtn x fun l => { l with
    codes := c.map (min · 4095), conf := #v[false, false, false, false], sent := none, portAt := some s.now }

/-- The codes of the levels at a flux ratio r (Q2.14), with the level codes in force in `v` (R150). -/
def State.ltnCodes (s : State) (x : Fin 6) (v : State) (r : Nat) : Vector Nat 4 :=
  Vector.ofFn fun j => codeOf (v.inf (.ltn x) (LTN_LVL_CODE j.val)) (s.get (.ltn x) LTN_LOOP_GAIN) r (s.lamEff x)

/-- The scale and codes of the next frame (R150): FLOOR_ACT and LEVEL_SAT, once a frame, and the start of the shadow
writes. `v` has the frame's configuration in force; `r` is 1 when FLUX_HOLD is off or the chapter of the engine says so. -/
def State.ltnFinal (s : State) (x : Fin 6) (v : State) (r : Nat) : State :=
  let r := if v.infFlag (.ltn x) LTN_CFG_FLUX_HOLD then r else 0x4000
  let lam := s.lamEff x
  let below := decide (s.get (.ltn x) LTN_LIMIT_IN < s.get (.ltn x) LTN_LEGAL_FLOOR)
  let s := s.put (.ltn x) LTN_STATUS_FLOOR_ACT (ofBool below)
  let s := if below ∧ !s.ltn[x].floorTold then s.raise (.ltn x) LTN_EV_FLOOR_ACT else s
  let c := s.ltnCodes x v r
  let sat := c.any fun v => decide (4095 < v)
  let s := if sat ∧ !s.ltn[x].satTold then
      (s.bump (.ltn x) LTN_LEVEL_SAT_CNT).raise (.ltn x) LTN_EV_LEVEL_SAT else s
  (s.ltnWriteCodes x c).modLtn x fun l => { l with
    final := true, rNext := r, lamNext := lam, floorTold := l.floorTold || below, satTold := l.satTold || sat }

/-- CRC-4 of a 24-bit port frame over bits [23:4], polynomial x⁴ + x + 1, initial value 0xF (R144). -/
def crc4 (frame : Nat) : Nat :=
  (List.range 20).foldl (fun crc i =>
    let b := bitsOf frame (23 - i) 1
    let top := crc / 8 % 2
    let crc := crc * 2 % 16
    if top ^^^ b = 1 then crc ^^^ 0x3 else crc) 0xF

/-- Whether a response's CRC checks (R144). -/
def portCrcOk (frame : Nat) : Bool := crc4 frame == frame % 16

/-- The level the port writes next: the first that is not confirmed and whose write is not awaiting its
response; none means a STATUS frame. -/
def nextLevel (l : Lantern) : Option Nat :=
  (List.range 4).find? fun j => !(l.conf.toList.getD j true) && l.sent != some j

/-- A 24-bit request with its CRC (R144). -/
def portFrame (op level code : Nat) : Nat :=
  let w := op * 2 ^ 20 + level % 4 * 2 ^ 18 + code % 4096 * 16
  w + crc4 w

/-- The request of the frame under way (R144, R151): WRITE_SHADOW of the next level, or STATUS for the last response. No rule
gives an occasion for READ_ACTIVE (log entry 34). -/
def Lantern.request (l : Lantern) : Nat :=
  match nextLevel l with
  | some j => portFrame 1 j (l.codes.toList.getD j 0)
  | none => portFrame 3 0 0

/-- The bit of the frame under way at an instant: SPI mode 0 at 12.5 MHz, 80 ns a bit, MSB first (R144). -/
def Lantern.portBit (l : Lantern) (now : Nat) : Option Nat :=
  l.portAt.bind fun a => if a ≤ now ∧ now < a + 24 * nsU 80 then some ((now - a) / nsU 80) else none

/-- The levels of `LSx_CS_N`, `LSx_SDO` and `LSx_SCK` at an instant: `LSx_CS_N` is high outside a frame. -/
def Lantern.csN (l : Lantern) (now : Nat) : Bool := (l.portBit now).isNone
def Lantern.sdo (l : Lantern) (now : Nat) : Bool :=
  match l.portBit now with | some i => bitOf l.request (23 - i) | none => false
def Lantern.sck (l : Lantern) (now : Nat) : Bool :=
  match l.portAt with
  | some a => (l.portBit now).isSome && decide (nsU 40 ≤ (now - a) % nsU 80)
  | none => false

/-- All four shadow writes are confirmed (R151). -/
def Lantern.confirmed (l : Lantern) : Bool := l.conf.all id

/-- A response of the driver (R144, R145): DRV_FAULT from a checked response, and the confirmation of the
write before it, which needs the same LEVEL and CODE, both CRCs and no error flag. -/
def State.ltnResponse (s : State) (x : Fin 6) (resp : Nat) : State :=
  if !portCrcOk resp then s
  else
    let s := if bitOf resp 16 then
        (s.bump (.ltn x) LTN_DRV_FAULT_CNT).raise (.ltn x) LTN_EV_DRV_FAULT else s
    match s.ltn[x].sent with
    | none => s
    | some j =>
      let ok := !bitOf resp 17 && bitsOf resp 20 4 == 1 && bitsOf resp 18 2 == j &&
        s.ltn[x].codes.toList.getD j 0 == bitsOf resp 4 12
      if ok then s.modLtn x fun l => { l with conf := l.conf.set! j true } else s

/-- The request that the port sent in the frame that completes now becomes the one awaiting (R144); where `more`, the next
frame follows 160 ns later. -/
def State.ltnSendNext (s : State) (x : Fin 6) (more : Bool) : State :=
  s.modLtn x fun l => { l with
    word := l.request, sent := nextLevel l, portAt := if more then some (s.now + nsU 160) else none }

/-- A frame mark (R151): `LSx_FRM` rises through the delay line on this tick, the driver takes its shadow setpoints, and the
run of misses ends. -/
def State.ltnMark (s : State) (x : Fin 6) : State :=
  (s.edgeCommand x true).modLtn x fun l => { l with
    active := l.codes, frmAt := some (s.now / tickU * tickU), miss := 0, dead := false, markDue := false, fbReady := true }

/-- A suppressed frame mark or a failed load (R151, R503). -/
def State.ltnMiss (s : State) (x : Fin 6) : State :=
  let s := (s.bump (.ltn x) LTN_SETPT_MISS_CNT).raise (.ltn x) LTN_EV_SETPT_MISS
  s.modLtn x fun l => { l with miss := l.miss + 1 }

/-- A load before ARMED begins (R503): four shadow writes, with r = 1. -/
def State.ltnLoad (s : State) (x : Fin 6) : State :=
  (s.ltnWriteCodes x (s.ltnCodes x s 0x4000)).modLtn x fun l => { l with loading := true, loadAt := s.now }

/-- The load is complete: the frame mark, then `LSx_KILL_N` high and ARMED (R503). -/
def State.ltnArm (s : State) (x : Fin 6) : State :=
  let s := (s.ltnMark x).modLtn x fun l => { l with
    loading := false, killN := !s.flag .basecamp BC_STATUS_HOLD_UP, opRun := 0 }
  s.ltnTo x LTN_ARMED

/-! ### Edge delays (R146, R148) -/

/-- The computed D_open or D_close, 62.5 ps, before its limits (R146). -/
def State.ltnDelayRaw (s : State) (x : Fin 6) (opening : Bool) : Int :=
  let echo : Nat := if opening then s.ltn[x].echoOpen else s.ltn[x].echoClose
  let opt := s.get (.ltn x) (if opening then LTN_PATH_OPT_OPEN else LTN_PATH_OPT_CLOSE)
  (echo : Int) - (s.get (.ltn x) LTN_PATH_RET : Int) + signed 12 opt

/-- One ramp step of at most 62.5 ps towards a value (R25). -/
def rampStep (cur tgt : Int) : Int := if cur < tgt then cur + 1 else if tgt < cur then cur - 1 else cur

/-- Frame-start ramp of both edge delays; DRAMP and PATH_LIMIT (R148). -/
def State.ltnRamp (s : State) (x : Fin 6) : State :=
  let ro := s.ltnDelayRaw x true
  let rc := s.ltnDelayRaw x false
  let to' := clampI 0 4095 ro
  let tc := clampI 0 4095 rc
  let o := rampStep (s.get (.ltn x) LTN_DOUT_OPEN) to'
  let c := rampStep (s.get (.ltn x) LTN_DOUT_CLOSE) tc
  let s := (s.put (.ltn x) LTN_DOUT_OPEN o.toNat).put (.ltn x) LTN_DOUT_CLOSE c.toNat
  let s := s.put (.ltn x) LTN_STATUS_DRAMP (ofBool (o != to' || c != tc))
  if to' ≠ ro ∨ tc ≠ rc then s.raise (.ltn x) LTN_EV_PATH_LIMIT else s

/-- Accepted delay values take effect at once where the engine has no frames (R415); a limited one raises PATH_LIMIT (R148). -/
def State.ltnDelaySnap (s : State) (x : Fin 6) : State :=
  let ro := s.ltnDelayRaw x true
  let rc := s.ltnDelayRaw x false
  let o := clampI 0 4095 ro
  let c := clampI 0 4095 rc
  let s := ((s.put (.ltn x) LTN_DOUT_OPEN o.toNat).put (.ltn x) LTN_DOUT_CLOSE c.toNat).put (.ltn x) LTN_STATUS_DRAMP 0
  if o ≠ ro ∨ c ≠ rc then s.raise (.ltn x) LTN_EV_PATH_LIMIT else s

/-! ### The photometric loop (R153, R154) -/

/-- The loop's step on a gain (R154): e := (target − F) / target, times KI / 16, limited to ±MAXSTEP
(0.01 %), and the gain limited to 0.5000–1.9999. Answers the gain and whether it is at a limit. -/
def loopStep (g tgt : Nat) (f : Rat) (ki maxstep : Nat) : Nat × Bool :=
  let e : Rat := ((tgt : Rat) - f) / (tgt : Rat)
  let lim : Rat := (maxstep : Rat) / 10000
  let st := max (-lim) (min lim (e * (ki : Rat) / 16))
  let ng : Int := ((g : Rat) * (1 + st) + 1 / 2).floor
  let lo : Int := 2 ^ 21
  let hi : Int := 8388188
  ((clampI lo hi ng).toNat, decide (ng ≤ lo) || decide (hi ≤ ng))

/-- The mean of the interior samples of a level, less the dark value, in 2⁻¹⁶ codes (R153). -/
def Lantern.mean (l : Lantern) (j : Fin 4) : Option Int :=
  if l.cnt[j] = 0 then none else some ((l.sum[j] * 65536 / l.cnt[j] : Nat) - (l.dark : Int))

/-- F of the frame: m₀ / s in mirror mode, and in SCAN mode the energy of the samples over that of
the windows, where `wSum` sums t_min (2⁻²⁴) × H × V and 100 ns are 1600 units (R153, R206). -/
def Lantern.flux (l : Lantern) (scan : Bool) : Option Rat :=
  let sc : Rat := ((l.rCur * l.lamCur : Nat) : Rat) / (2 ^ 29 : Nat)
  if sc = 0 then none
  else if scan then
    if l.wSum = 0 then none
    else some ((l.eSum : Rat) / 65536 / (((l.wSum : Nat) : Rat) / ((2 ^ 24 * 65535 * 1600 : Nat) : Rat) * sc))
  else (l.mean 0).map fun m => (m : Rat) / 65536 / sc

/-- A rational as an unsigned 16-bit register value. -/
def ratReg (r : Rat) : Nat := (clampI 0 65535 ((r + 1 / 2).floor)).toNat

/-- F of the frame and the loop's gain (R153, R154). -/
def State.ltnGain (s : State) (x : Fin 6) : State :=
  let p := Page.ltn x
  match s.ltn[x].flux (scanMode x) with
  | none => s
  | some f =>
    let s := s.put p LTN_FLUX_LAST (ratReg f)
    let tgt := s.inf p LTN_FLUX_TGT
    if s.infFlag p LTN_CFG_LOOP_EN ∧ tgt ≠ 0 ∧ !s.ltn[x].dead then
      let (g, sat) := loopStep (s.get p LTN_LOOP_GAIN) tgt f (s.inf p LTN_LOOP_KI) (s.inf p LTN_LOOP_MAXSTEP)
      let s := (s.put p LTN_LOOP_GAIN g).put p LTN_STATUS_LOOP_SAT (ofBool sat)
      if sat then (s.bump p LTN_LOOP_SAT_CNT).raise p LTN_EV_LOOP_SAT else s
    else s

/-- The measured ratio of level `j` moves by 1/16 of its difference (R153). -/
def State.ltnRatio (s : State) (x : Fin 6) (j : Fin 4) : State :=
  match s.ltn[x].mean j, s.ltn[x].mean 0 with
  | some m, some m0 =>
    if j.val ≠ 0 ∧ 0 < m ∧ 0 < m0 then
      let r : Nat := min (2 ^ 32 - 1) (m.toNat * 2 ^ 31 / m0.toNat)
      let old : Nat := s.ltn[x].ratio[j]
      let new : Nat := ((old : Int) + tdivI ((r : Int) - (old : Int)) 16).toNat
      let s := s.modLtn x fun l => { l with ratio := l.ratio.set j.val new, formed := l.formed.set j.val true }
      (s.put (.ltn x) (LTN_MEAS_RATIO1 (j.val - 1)) (min 65535 (roundDiv new 65536))).put (.ltn x)
        ⟨LTN_STATUS.off, 8 + j.val, 1⟩ 0
    else if j.val = 0 then s.put (.ltn x) ⟨LTN_STATUS.off, 8, 1⟩ 0
    else s
  | _, _ => s

/-- `LTN_DARK` follows the mean of the frame's dark samples with weight 1/64 (R153). -/
def State.ltnDarkMean (s : State) (x : Fin 6) : State :=
  let l : Lantern := s.ltn[x]
  if l.darkCnt = 0 then s
  else
    let m : Nat := l.darkSum * 65536 / l.darkCnt
    let d : Nat := ((l.dark : Int) + tdivI ((m : Int) - (l.dark : Int)) 64).toNat
    (s.modLtn x fun l => { l with dark := d }).put (.ltn x) LTN_DARK (roundDiv d 65536)

/-- F and the gain of the frame, once (R154): before its end where the codes of the next frame already use the new gain. -/
def State.ltnEarly (s : State) (x : Fin 6) : State :=
  if s.ltn[x].looped then s else (s.modLtn x fun l => { l with looped := true }).ltnGain x

/-- The figures gathered so far are dropped: a frame was cut short. -/
def State.ltnForget (s : State) (x : Fin 6) : State :=
  s.modLtn x fun l => { l with
    measuring := false, looped := true, sum := #v[0, 0, 0, 0], cnt := #v[0, 0, 0, 0], darkSum := 0, darkCnt := 0
    eSum := 0, wSum := 0 }

/-- The end of a frame's measurement (R153, R154): F and the loop's gain where they were not taken early, the measured ratios in
mirror mode, the frames each level went without a measurement, and the dark value; `used` says which levels the program
uses. -/
def State.ltnLoop (s : State) (x : Fin 6) (used : Nat → Bool) : State :=
  if !s.ltn[x].measuring then s
  else
    let s := s.ltnEarly x
    let s := if scanMode x then s else (List.finRange 4).foldl (fun s j => s.ltnRatio x j) s
    let s := s.modLtn x fun l => { l with
      unmeas := Vector.ofFn fun j => if l.cnt[j] = 0 ∧ used j.val then l.unmeas[j] + 1 else 0 }
    (s.ltnDarkMean x).ltnForget x

/-- The frame mark or its suppression at a frame start, and the scale latched for the frame (R150, R151). -/
def State.ltnFrameStart (s : State) (x : Fin 6) : State :=
  let p := Page.ltn x
  let s := if s.ltn[x].final ∧ s.ltn[x].confirmed then s.ltnMark x else s.ltnMiss x
  let s := s.modLtn x fun l => { l with
    rCur := l.rNext, lamCur := l.lamNext, final := false, measuring := true, looped := false, floorTold := false, satTold := false }
  let s := s.put p LTN_SCALE_LAMBDA s.ltn[x].lamCur
  let s := s.put p LTN_SCALE_S (min 65535 (roundDiv (s.ltn[x].rCur * s.ltn[x].lamCur) 32768))
  s.put p LTN_STATUS_FLUX_HOLD_ACT (ofBool (s.ltn[x].rCur != 0x4000))

/-! ### Fallback (R159) -/

/-- The length of a fallback window, 62.5 ps: 998 µs, or half of `LTN_WIN_MAX` in whole µs when shorter. -/
def State.fallbackWin (s : State) (x : Fin 6) : Nat :=
  usU (min 998 (s.get (.ltn x) LTN_WIN_MAX / 2000))

/-- The fallback code (R159). -/
def State.fallbackCode (s : State) (x : Fin 6) : Nat :=
  min 4095 (roundDiv (s.get (.ltn x) LTN_FALLBACK_LEVEL * s.ltn[x].gFb * s.lamEff x) (2 ^ 37))

/-- The fallback code goes to every shadow setpoint. -/
def State.fallbackWrite (s : State) (x : Fin 6) : State :=
  (s.ltnWriteCodes x (Vector.replicate 4 (s.fallbackCode x))).modLtn x fun l => { l with
    markDue := true, rCur := 0x4000, lamCur := s.lamEff x }

/-- The train starts (R158, R159): g_fb is 1.0, the code is written. -/
def State.fallbackStart (s : State) (x : Fin 6) : State :=
  let s := s.modLtn x fun l => { l with
    gFb := 0x400000, refreshAt := s.now + msU 100, closeAt := s.now, markDue := true, fbReady := false, cut := false }
  ((s.ltnForget x).fallbackWrite x).ltnTo x LTN_FALLBACK_ST

/-! ### The interlock (R160–R163) -/

/-- Detail code of a trip cause (R166). -/
def tripDetail (cause : Nat) : Nat :=
  match cause with
  | 1 => 0x20 | 2 => 0x21 | 3 => 0x22 | 4 => 0x23 | 5 => 0x24 | 6 => 0x28 | 7 => 0x25 | _ => 0x26

/-- Whether the interlock is active (R157): triggers act in ARMED, RUN and FALLBACK. -/
def State.ltnActive (s : State) (x : Fin 6) : Bool :=
  let st := s.ltnState x
  st == LTN_ARMED || st == LTN_RUN || st == LTN_FALLBACK_ST

def State.tripped (s : State) (x : Fin 6) : Bool := s.flag (.ltn x) LTN_ILK_STAT_TRIPPED

/-- The latch sets (R161): dark, kill low, cause, time, count, TRIP, and the error record except for TEST.
A second trigger while TRIPPED is only counted. -/
def State.ltnLatch (s : State) (x : Fin 6) (cause : Nat) : State :=
  let p := Page.ltn x
  let s := s.bump p LTN_TRIP_CNT
  if s.tripped x then s
  else
    let s := (s.ltnOffPins x).modLtn x fun l => { l with final := false }
    let s := (s.put p LTN_ILK_STAT_TRIPPED 1).put p LTN_ILK_STAT_CAUSE cause
    let s := (s.stamp p LTN_ILK_TIME_NS).raise p LTN_EV_TRIP
    let s := s.ltnTo x LTN_TRIPPED
    if cause = 6 then s else s.errHw p ST_HW_FAULT (tripDetail cause)

/-- The kill pin's read-back level (R163, `LTN_ILK_STAT.PIN`), and whether it differs from the driven level. -/
def Lantern.pin (l : Lantern) : Bool := l.pinRead.getD l.killN
def Lantern.mismatch (l : Lantern) : Bool := l.pin != l.killN

/-- Whether the recorded cause is still present (R162). `scnGone` says that the scanner is in OFF or
reports amplitude within limits. -/
def State.causePresent (s : State) (x : Fin 6) (scnGone : Bool) : Bool :=
  let p := Page.ltn x
  let l := s.ltn[x]
  let ms := msU 1
  match s.get p LTN_ILK_STAT_CAUSE with
  | 1 => decide (s.now < l.lastOver + ms)
  | 2 => s.flag p LTN_STATUS_WIN || s.flag p LTN_STATUS_ECHO || decide (s.now < l.closeAt + ms) ||
      decide (s.now < l.echoFall + ms)
  | 3 => s.flag p LTN_STATUS_ECHO || decide (s.now < l.echoFall + ms) || decide (s.now < l.lastLit + ms)
  | 4 => !scnGone
  | 5 => !s.flag .basecamp BC_STATUS_XTAL_OK
  | 6 => false
  | 7 => l.mismatch || decide (s.now < l.pinSince + ms)
  | 8 => true
  | _ => false

/-- The latch clears (R158, R162): `LSx_KILL_N` stays low and the Lantern is OFF; after a TEST with an
engine in another state than OFF it loads its setpoints for ARMED. -/
def State.ltnUnlatch (s : State) (x : Fin 6) (engineOff : Bool) : State :=
  let p := Page.ltn x
  let test := s.get p LTN_ILK_STAT_CAUSE == 6
  let s := (s.put p LTN_ILK_STAT_TRIPPED 0).ltnTo x LTN_OFF
  if test ∧ !engineOff then s.ltnLoad x else s

/-! ### Samples (R153, R160) -/

/-- The level of `LSx_ECHO` as seen now. -/
def State.ltnEcho (s : State) (x : Fin 6) (echo : Bool) : State :=
  let was := s.flag (.ltn x) LTN_STATUS_ECHO
  (s.put (.ltn x) LTN_STATUS_ECHO (ofBool echo)).modLtn x fun l => { l with
    echoRise := if echo && !was then s.now else l.echoRise
    echoFall := if was && !echo then s.now else l.echoFall }

/-- A sample is 1024 codes or more above the dark value, or more than that below it (R160, R162). -/
def State.offDark (s : State) (x : Fin 6) (code : Nat) : Bool :=
  decide (s.get (.ltn x) LTN_DARK + 1024 ≤ code) || decide (code + 1024 < s.get (.ltn x) LTN_DARK)

/-- One photodiode sample: over-power and the records of R162. Answers whether the over-power trigger fires. -/
def State.ltnSample (s : State) (x : Fin 6) (code : Nat) (echo : Bool) : State × Bool :=
  let p := Page.ltn x
  let s := s.ltnEcho x echo
  let high := decide (s.get p LTN_OP_THR ≤ code)
  let lit := s.offDark x code
  let s := s.modLtn x fun l => { l with
    lastOver := if high then s.now else l.lastOver
    lastLit := if lit then s.now else l.lastLit
    opRun := if high then l.opRun + 1 else 0 }
  (s, s.ltnActive x && high && decide (s.get p LTN_OP_COUNT ≤ s.ltn[x].opRun))

/-- An interior sample of a level, or a dark sample, joins the frame's figures (R153). -/
def State.ltnInterior (s : State) (x : Fin 6) (j : Fin 4) (code : Nat) : State :=
  s.modLtn x fun l => { l with sum := l.sum.set j.val (l.sum[j] + code), cnt := l.cnt.set j.val (l.cnt[j] + 1) }
def State.ltnDarkSample (s : State) (x : Fin 6) (code : Nat) : State :=
  s.modLtn x fun l => { l with darkSum := l.darkSum + code, darkCnt := l.darkCnt + 1 }

/-! ### Registers -/

/-- A register write to a Lantern page beside its command register: on LTN4 and LTN5 the fallback fields
ignore writes (R159). -/
def State.ltnPlainWrite (s : State) (path : Path) (x : Fin 6) (off v : Nat) : State :=
  if off = LTN_FALLBACK.off ∧ scanMode x then s else s.plainWrite path (.ltn x) off v

/-- `LTN_ILK_STAT` as it reads (R162, R163). -/
def State.ilkStat (s : State) (x : Fin 6) (scnGone : Bool) : Nat :=
  let v := (s.reg ((Page.ltn x).base + LTN_ILK_STAT.off)).toNat
  let v := withBits v 8 1 (ofBool (s.tripped x && s.causePresent x scnGone))
  let v := withBits v 9 1 (ofBool s.ltn[x].pin)
  withBits v 10 1 (ofBool s.ltn[x].mismatch)

/-- SRST of a Lantern, refused in RUN and FALLBACK (R36): its logic starts again; the interlock latch, which
lies in Basecamp, stays (R163). -/
def State.ltnSrst (s : State) (x : Fin 6) : State :=
  let l := s.ltn[x]
  let s := s.ltnDark x
  let tr := s.tripped x
  let s := s.modLtn x fun _ => {
    pinRead := l.pinRead, pinSince := l.pinSince, closeAt := l.closeAt, echoRise := l.echoRise, echoFall := l.echoFall, lastOver := l.lastOver, lastLit := l.lastLit,
    adcFailed := l.adcFailed, safeAt := l.safeAt }
  s.ltnTo x (if tr then LTN_TRIPPED else LTN_OFF)

end Sys2Proof.Machine
end

