-- ==== Sys2Proof/Machine/Grinder.lean ====
section
/-!
DEFINITION. The Grinder (spec/05): plane programs, transit compensation and level compensation
(R122–R129), SAFE8 (R135), reset blocks and load timing (R130–R132, R173), program validation (R136)
and program selection (R138). Times are in 62.5 ps.
-/

namespace Sys2Proof.Machine

def State.modGrd (s : State) (n : Fin 4) (f : Grinder → Grinder) : State :=
  { s with grd := s.grd.set n.val (f s.grd[n]) }

/-- Grinder event bits (R140) and state codes. -/
def GRD_EV_RAMP_START : Nat := 0
def GRD_EV_REDUCED : Nat := 1
def GRD_EV_SLACK_LOW : Nat := 2
def GRD_EV_LEVEL_LIMIT : Nat := 3
def GRD_EV_TRIM_LIMIT : Nat := 4
def GRD_EV_STRETCH : Nat := 5
def GRD_IDLE : Nat := 0
def GRD_PREFETCH : Nat := 1
def GRD_RUN : Nat := 2
def GRD_SAFE8_ST : Nat := 3

/-! ### Programs -/

/-- One entry of a program table (R123, R139). -/
structure Entry where
  pulse : Bool
  bit : Nat
  lsel : Nat
  time : Nat
  sadj : Int
  deriving DecidableEq, Repr

/-- The entry that Words A and B of a plane spell. -/
def entryOf (a b : Nat) : Entry :=
  { pulse := bitOf a 8, bit := bitsOf a 0 5, lsel := bitsOf a 10 2, time := bitsOf b 0 28, sadj := signed 8 (bitsOf a 16 8) }

/-- The configuration a program is evaluated with: `rd` reads a field of the GRD page, staged or in force. -/
structure Prog where
  count : Nat
  es : List Entry
  pnom : Nat
  deriving DecidableEq, Repr

/-- Program table `x` (0 PRG0, 1 PRG1) as `rd` reads it; a COUNT above 32 is kept for its check. -/
def progOf (rd : RF → Nat) (x : Nat) : Prog :=
  let c := rd (if x = 0 then GRD_PRG0_CTRL_COUNT else GRD_PRG1_CTRL_COUNT)
  { count := c
    es := (List.range (min c 32)).map fun i =>
      if x = 0 then entryOf (rd (GRD_PRG0_A i)) (rd (GRD_PRG0_B i)) else entryOf (rd (GRD_PRG1_A i)) (rd (GRD_PRG1_B i))
    pnom := nsU (rd (if x = 0 then GRD_PRG0_PNOM else GRD_PRG1_PNOM)) }

/-- Readers of the staged and of the in-force values of GRDn. -/
def State.grdStaged (s : State) (n : Fin 4) (f : RF) : Nat := s.get (.grd n) f
def State.grdInf (s : State) (n : Fin 4) (f : RF) : Nat := s.inf (.grd n) f

/-- Nominal ratio of a level, Q1.15 (R123, R139). -/
def ratioOf (rd : RF → Nat) (k : Nat) : Nat := if k = 0 then 0x8000 else rd (GRD_LVL_RATIO1 (k - 1))

/-- Nominal weight in 2⁻¹⁵ of 62.5 ps (R123). -/
def Entry.weight (rd : RF → Nat) (e : Entry) : Nat :=
  if e.pulse then ratioOf rd e.lsel * e.time else 0x8000 * e.time

/-- The lowest X bit that a program displays (R122). -/
def lminOf (es : List Entry) : Nat := es.foldl (fun m e => min m e.bit) 17

/-- X of a code (R122). -/
def planeCode (gain v : Nat) : Nat := min ((v * gain + 0x8000) / 0x10000) 262143

/-- X′ by rounding (R122, DITHER 0). -/
def roundCode (lmin x : Nat) : Nat :=
  let h := if lmin = 0 then 0 else 2 ^ (lmin - 1)
  min ((x + h) / 2 ^ lmin * 2 ^ lmin) (262144 - 2 ^ lmin)

/-- The ordered-dither matrix B (R122). -/
def ditherB : List Nat := [0, 8, 2, 10, 12, 4, 14, 6, 3, 11, 1, 9, 15, 7, 13, 5]

/-- X′ by ordered dither at a pixel of a frame (R122, DITHER 1): row index from x, column index from y. -/
def ditherCode (lmin x px py k : Nat) : Nat :=
  let d := ditherB.getD ((px + k) % 4 * 4 + (py + k) % 4) 0 * 2 ^ lmin / 16
  min ((x + d) / 2 ^ lmin * 2 ^ lmin) (262144 - 2 ^ lmin)

/-- The mirror bit of a pixel in a plane (R122, R125, R135): a bit of X′, or of V8 under SAFE8. -/
def mirrorBit (rd : RF → Nat) (lmin : Nat) (safe8 : Bool) (bit v px py k : Nat) : Bool :=
  if safe8 then bitOf (min ((v + 128) / 256) 255) bit
  else
    let x := planeCode (rd GRD_GAIN_Q3) v
    bitOf (if rd GRD_CFG_DITHER = 1 then ditherCode lmin x px py k else roundCode lmin x) bit

/-- The light of full scale under a program, in 2⁻¹⁵ of 62.5 ps: F of R135. -/
def fullLight (rd : RF → Nat) (es : List Entry) : Nat :=
  let x := roundCode (lminOf es) (planeCode (rd GRD_GAIN_Q3) 65535)
  (es.map fun e => if bitOf x e.bit then e.weight rd else 0).sum

/-- The unit u′ of SAFE8, 62.5 ps (R135). -/
def safe8Unit (rd : RF → Nat) (es : List Entry) : Nat := roundDiv (256 * fullLight rd es) (65535 * 0x8000)

/-- The planes of SAFE8 (R135): after a dark lead-in, in which no plane runs and the mirrors hold, eight duration planes. -/
def safe8Planes (u pnom : Nat) : List Plane :=
  let lead := pnom - 255 * u
  let step (acc : List Plane × Nat) (b : Nat) : List Plane × Nat :=
    (acc.1 ++ [{ kind := .duration, bit := b, lsel := 0, entry := acc.2, hold := 2 ^ b * u, open_ := 0, pulse := 0,
                 v8 := true }],
      acc.2 + 2 ^ b * u)
  ([7, 0, 6, 1, 5, 2, 4, 3].foldl step ([], lead)).1

/-! ### Reset stamps (R176, R178) -/

/-- Lane rate in Gbit/s by code (R169). -/
def rateG (r : Nat) : Nat := match r with | 0 => 16 | 1 => 12 | _ => 8

/-- The stamp, in UI, of a reset wanted at `t16` (1/16 of 62.5 ps) with residual ε: one UI is 256 / rate
sixteenths; halves round up (R178). -/
def stampOf (g : Nat) (eps t16 : Int) : Int := roundDivI ((t16 - eps) * g) 256

/-- The applied instant of a stamp, in 1/16 of 62.5 ps (R178). -/
def appliedOf (g : Nat) (eps stamp : Int) : Int := roundDivI (stamp * 256) g + eps

/-- The settle reference of a pulse plane that is entered at `t` (R127, R178): the last block settled,
from the applied instants of the stamps. -/
def settleRef (blocks : List (Nat × Nat)) (g : Nat) (eps : Int) (t : Nat) (sadj : Int) : Nat :=
  let last := blocks.foldl (fun (m : Int) b =>
    let a := appliedOf g eps (stampOf g eps (((t : Int) - b.2) * 16))
    max m (a + 16 * ((b.1 : Int) + sadj))) 0
  (roundDivI last 16).toNat

/-! ### A frame's planes (R123, R124, R127) -/

/-- max_b (tS_b + SADJ − e_b), which may be negative, and max_b e_b. -/
def maxSettle (blocks : List (Nat × Nat)) (sadj : Int) : Int :=
  let v (b : Nat × Nat) : Int := (b.1 : Int) + sadj - b.2
  match blocks with
  | [] => 0
  | b :: r => r.foldl (fun m c => max m (v c)) (v b)
def maxEdge (blocks : List (Nat × Nat)) : Nat := blocks.foldl (fun m b => max m b.2) 0

/-- t_SET of a plane (R127). -/
def tSet (blocks : List (Nat × Nat)) (sadj : Int) : Nat := (maxSettle blocks sadj + maxEdge blocks).toNat

/-- The hold of an entry with applied pulse length `p` (R123). -/
def Entry.hold (blocks : List (Nat × Nat)) (guard p : Nat) (e : Entry) : Nat :=
  if e.pulse then tSet blocks e.sadj + p + guard else e.time

/-- The planes of a frame that starts at `start` (R123, R124, R127). -/
def planesOf (blocks : List (Nat × Nat)) (guard g : Nat) (eps : Int) (start : Nat) (es : List (Entry × Nat)) :
    List Plane :=
  (es.foldl (fun (acc : List Plane × Nat) ep =>
    let e := ep.1
    let h := e.hold blocks guard ep.2
    let o := if e.pulse then settleRef blocks g eps (start + acc.2) e.sadj - start else acc.2
    (acc.1 ++ [{ kind := if e.pulse then .pulse else .duration, bit := e.bit, lsel := e.lsel, entry := acc.2,
                 hold := h, open_ := o, pulse := ep.2 }], acc.2 + h)) ([], 0)).1

/-- The program length: the exit light edge of the last plane (R123, R124). -/
def lengthOf (pl : List Plane) : Nat := pl.foldl (fun m p => max m (p.entry + p.hold)) 0

/-- The light windows of a frame after its start, as (open, close, level) (R124): consecutive duration
planes keep the source on. -/
def windowsOf : List Plane → List (Nat × Nat × Nat)
  | [] => []
  | p :: r =>
    match p.kind with
    | .pulse => (p.open_, p.open_ + p.pulse, p.lsel) :: windowsOf r
    | .duration =>
      match windowsOf r with
      | [] => [(p.entry, p.entry + p.hold, 0)]
      | w :: ws => if w.1 = p.entry + p.hold ∧ w.2.2 = 0 ∧ (r.head?.map (·.kind)) = some .duration
          then (p.entry, w.2.1, 0) :: ws else (p.entry, p.entry + p.hold, 0) :: w :: ws

/-! ### Blocks and loads (R130–R132, R169, R173) -/

/-- First row and row count of block `b` of `n` in `h` rows (R130). -/
def blockRow0 (h n b : Nat) : Nat := b * (h / n) + min b (h % n)
def blockRows (h n b : Nat) : Nat := h / n + if b < h % n then 1 else 0

/-- Bytes of a block packet (R173). -/
def blockBytes (rows w : Nat) : Nat := 72 + rows * (12 + 4 * ceilDiv w 32)

/-- Time of a number of bytes at `lg` = lanes × Gbit/s, with the 128b/130b code, in 62.5 ps (R169, R173). -/
def bytesTime (bytes lg : Nat) : Nat := if lg = 0 then 0 else ceilDiv (bytes * 130) lg

/-- Time of a plane's block loads. -/
def planeLoad (w h n lg : Nat) : Nat :=
  ((List.range n).map fun b => bytesTime (blockBytes (blockRows h n b) w) lg).sum

/-- The block count in force and the in-force tS_b, e_b of GRDn. -/
def State.blockCount (s : State) (n : Fin 4) : Nat := s.inf (.grd n) GRD_CFG_BLOCKS_M1 + 1
def State.blocks (s : State) (n : Fin 4) (cnt : Nat) : List (Nat × Nat) :=
  (List.range cnt).map fun b => (s.get (.grd n) ⟨(GRD_BLK_TS b).off, 0, 24⟩, s.get (.grd n) ⟨(GRD_BLK_E b).off, 0, 24⟩)

/-- Q′ from the slots the array reports (R131). -/
def slotsOf (q : Nat) : Nat := min q 3

/-- Whether every load of a sequence of planes meets its deadline when planes are sent in order (R131,
R132): `l` gives each plane's entry edge, its frame's prefetch start, and its index when it is checked.
Answers the first failing plane. -/
def loadScan (q tp margin : Nat) (entries : List Nat) : List (Nat × Nat × Option Nat) → Nat → Nat → Option Nat
  | [], _, _ => none
  | (e, pre, ix) :: r, n, busy =>
    let slot := if n < q then 0 else entries.getD (n - q) 0
    let fin := max busy (max slot pre) + tp
    if e < fin + margin ∧ ix.isSome then ix else loadScan q tp margin entries r (n + 1) fin

/-- The load check of R136 for back-to-back frames, each with its dark lead-in and its holds; frames marked `true` are
checked. -/
def loadFail (q tp margin lead : Nat) (frames : List (Nat × List Nat × Bool)) : Option Nat :=
  let seq := (frames.foldl (fun (acc : List (Nat × Nat × Option Nat) × Nat) f =>
    let start := acc.2
    let r := f.2.1.foldl (fun (a : List (Nat × Nat × Option Nat) × Nat × Nat) h =>
      (a.1 ++ [(a.2.1, start - lead, if f.2.2 then some a.2.2 else none)], a.2.1 + h, a.2.2 + 1)) (acc.1, start + f.1, 0)
    (r.1, r.2.1)) ([], lead)).1
  loadScan q tp margin (seq.map (·.1)) seq 0 0

/-- The demanding holds of R136: tS = 1.5 µs, e = 0, p = TIME. -/
def demandingHolds (guard : Nat) (es : List Entry) : List Nat :=
  es.map fun e => e.hold [(usU 3 / 2, 0)] guard e.time

/-- The geometry, slots, lead and holds a load check uses. -/
structure LoadEnv where
  w : Nat
  h : Nat
  blocks : Nat
  slots : Nat
  lead : Nat
  margin : Nat
  guard : Nat
  deriving DecidableEq, Repr

/-- The lead-in and the holds of a SAFE8 frame (R135). -/
def safe8Holds (u pnom : Nat) : Nat × List Nat :=
  let pl := safe8Planes u pnom
  ((pl.head?.map (·.entry)).getD 0, pl.map (·.hold))

/-- The first plane of a program that misses its deadline at `lg` lanes × Gbit/s, also after `old`, the lead-in and holds of
the program in force (R136). -/
def progLoadFail (v : LoadEnv) (lg : Nat) (old : Option (Nat × List Nat)) (es : List Entry) : Option Nat :=
  let tp := planeLoad v.w v.h v.blocks lg
  let hs := demandingHolds v.guard es
  match loadFail v.slots tp v.margin v.lead [(0, hs, true), (0, hs, true), (0, hs, true)] with
  | some i => some i
  | none =>
    match old with
    | none => none
    | some o => loadFail v.slots tp v.margin v.lead [(o.1, o.2, false), (0, hs, true), (0, hs, true)]

/-! ### Program validation (R136) -/

/-- A failed check: class, detail, program, plane. -/
abbrev ProgFail := Nat × Nat × Nat × Nat

/-- The first index of a list that satisfies a test. -/
def firstIx {α : Type} (p : α → Bool) (l : List α) : Option Nat :=
  (l.zipIdx.find? fun e => p e.1).map (·.2)

/-- The checks of R136 that look at one table alone. -/
def progChecks (rd : RF → Nat) (x : Nat) (pr : Prog) (mayBeEmpty : Bool) : List ProgFail :=
  let bad (d : Nat) (o : Option Nat) : List ProgFail :=
    match o with | none => [] | some i => [(if d = 0x10 then ST_LEN_ERR else ST_BAD_PARAM, d, x, i)]
  if pr.count = 0 then (if mayBeEmpty then [] else bad 0x10 (some 0))
  else if 32 < pr.count then bad 0x10 (some 32)
  else
    let es := pr.es
    let lmin := lminOf es
    let guard := nsU (rd GRD_GUARD)
    let total := (es.map (·.weight rd)).sum
    let span := 2 ^ 18 - 2 ^ lmin
    let u := safe8Unit rd es
    let dup := firstIx (fun (e : Entry) => decide (1 < es.countP fun f => f.bit == e.bit)) es
    let gap := (List.range 18).any fun b => decide (lmin ≤ b) && !(es.any fun e => e.bit == b)
    bad 0x11 (firstIx (fun e => decide (17 < e.bit)) es) ++
    bad 0x12 (if dup.isSome then dup else if gap then some 0 else none) ++
    bad 0x13 (firstIx (fun e =>
      let dev := (((e.weight rd * span : Nat) : Int) - ((total * 2 ^ e.bit : Nat) : Int)).natAbs
      decide (max (total * 2 ^ e.bit) (1000 * (if e.pulse then ratioOf rd e.lsel else 0x8000) * span) < 1000 * dev)) es) ++
    bad 0x14 (firstIx (fun e => if e.pulse then ratioOf rd e.lsel == 0 else e.lsel != 0) es) ++
    bad 0x15 (firstIx (fun e => if e.pulse then decide (e.time < nsU 32) || decide (nsU 65535 < e.time)
      else decide (e.time < usU 2)) es) ++
    bad 0x16 (if pr.pnom < (demandingHolds guard es).sum then some 0 else none) ++
    bad 0x17 (if pr.pnom < 255 * u + usU 50 then some 0 else none)

/-- Levels that a program's pulse planes use; duration planes use level 0 (R123). -/
def Prog.usesLevel (pr : Prog) (j : Nat) : Bool := pr.es.any fun e => e.pulse && e.lsel == j

/-- The longest window of a program, 62.5 ps (spec/06, WINMAX_PROGRAM): duration windows at their holds,
merged across back-to-back frame starts; pulses at TIME, or at 1.02 × TIME when level compensation may
lengthen them. A program of duration planes alone never goes dark. -/
def longestWindow (comp : Bool) (es : List Entry) : Option Nat :=
  if es.all (!·.pulse) then (if es = [] then some 0 else none)
  else
    let run (acc : Nat × Nat) (e : Entry) : Nat × Nat :=
      if e.pulse then
        (max acc.1 (max acc.2 (if comp && e.lsel != 0 then e.time * 102 / 100 else e.time)), 0)
      else (max acc.1 (acc.2 + e.time), acc.2 + e.time)
    some ((es ++ es).foldl run (0, 0)).1

/-- The table that the selected program is, or is built from: SAFE8 as the LIT program comes from PRG0 (R138). -/
def State.runProg (s : State) (n : Fin 4) : Prog := progOf (s.grdInf n) (if s.grd[n].sel = 1 then 1 else 0)

/-- The levels that the program in use needs; SAFE8 uses level 0 (R151, R153). -/
def State.levelUsed (s : State) (n : Fin 4) (j : Nat) : Bool :=
  j == 0 || (s.grd[n].sel != 2 && (s.runProg n).usesLevel j)

/-! ### What happens at a frame start (R128, R129, R137) -/

/-- The transit targets of block `b`, limited, and whether the limit acts (R128). -/
def State.transitTarget (s : State) (n : Fin 4) (b : Nat) : Nat × Nat × Bool :=
  let src := if s.infFlag (.grd n) GRD_CFG_TRANSIT then b else 0
  let ts := s.get (.grd n) ⟨(GRD_BLK_TS_TGT src).off, 0, 24⟩
  let e := s.get (.grd n) ⟨(GRD_BLK_E_TGT src).off, 0, 24⟩
  let ts' := clampN (usU 1) (usU 8) ts
  let e' := min e ts'
  (ts', e', ts' != ts || e' != e)

/-- Whether a value in force of the blocks in use differs from its target (R128). -/
def State.grdMoves (s : State) (n : Fin 4) : Bool :=
  (List.range (s.blockCount n)).any fun b =>
    let (t, e, _) := s.transitTarget n b
    s.get (.grd n) ⟨(GRD_BLK_TS b).off, 0, 24⟩ != t || s.get (.grd n) ⟨(GRD_BLK_E b).off, 0, 24⟩ != e

/-- The ramp of tS_b and e_b of the first `cnt` blocks at a frame start; before the first LIT frame after READY they take
their targets at once (R128). -/
def State.grdRamp (s : State) (n : Fin 4) (cnt : Nat) : State :=
  let snap := s.grd[n].snap
  let was := s.flag (.grd n) GRD_STATUS_RAMP
  let step (acc : State × Bool × Bool × Bool) (b : Nat) : State × Bool × Bool × Bool :=
    let (s, moved, left, lim) := acc
    let (t, e, l) := s.transitTarget n b
    let ct := s.get (.grd n) ⟨(GRD_BLK_TS b).off, 0, 24⟩
    let ce := s.get (.grd n) ⟨(GRD_BLK_E b).off, 0, 24⟩
    let nt := if snap then t else (rampStep ct t).toNat
    let ne := if snap then e else (rampStep ce e).toNat
    ((s.put (.grd n) ⟨(GRD_BLK_TS b).off, 0, 24⟩ nt).put (.grd n) ⟨(GRD_BLK_E b).off, 0, 24⟩ ne,
      moved || (!snap && (ct != t || ce != e)), left || nt != t || ne != e, lim || l)
  let (s, moved, left, lim) := (List.range cnt).foldl step (s, false, false, false)
  let s := s.put (.grd n) GRD_STATUS_RAMP (ofBool left)
  let s := if moved ∧ !was then (s.bump (.grd n) GRD_RAMP_CNT).raise (.grd n) GRD_EV_RAMP_START else s
  let s := if lim then s.raise (.grd n) GRD_EV_TRIM_LIMIT else s
  let s := s.put (.grd n) ⟨GRD_TSET.off, 0, 24⟩ (tSet (s.blocks n cnt) 0)
  s.modGrd n fun g => { g with snap := false }

/-- The measured ratio of a level that level compensation uses: nominal until one is formed (R129). -/
def State.measuredRatio (s : State) (n : Fin 4) (k : Nat) : Nat :=
  let l := s.ltn[ltnOfEng n]
  if l.formed.toList.getD k false ∧ k ≠ 0 then s.get (.ltn (ltnOfEng n)) (LTN_MEAS_RATIO1 (k - 1))
  else ratioOf (s.grdInf n) k

/-- The pulse length an entry moves to, and whether the limit of 0.98–1.02 acts (R129). -/
def State.pulseTarget (s : State) (n : Fin 4) (e : Entry) : Nat × Bool :=
  let nom := ratioOf (s.grdInf n) e.lsel
  let meas := s.measuredRatio n e.lsel
  if !e.pulse ∨ e.lsel = 0 ∨ !s.infFlag (.grd n) GRD_CFG_LEVEL_COMP ∨ meas = 0 then (e.time, false)
  else if nom * 100 < 98 * meas then (roundDiv (e.time * 98) 100, true)
  else if 102 * meas < nom * 100 then (roundDiv (e.time * 102) 100, true)
  else (roundDiv (e.time * nom) meas, false)

/-- The applied pulse lengths of a frame (R129): at once for an entry that is new, of a program newly in force, or under a
new LEVEL_COMP, otherwise by at most 62.5 ps. SAFE8 has no pulses. -/
def State.grdPulses (s : State) (n : Fin 4) : State :=
  let g := s.grd[n]
  let es := if g.sel = 2 then [] else (s.runProg n).es
  let comp := s.infFlag (.grd n) GRD_CFG_LEVEL_COMP
  let key := es.map fun e => (e.time, e.lsel, ofBool e.pulse)
  let tg := es.map (s.pulseTarget n)
  let ps := (tg.zip key).zipIdx.map fun e =>
    match g.entries[e.2]?, g.pulses[e.2]? with
    | some k, some p => if k = e.1.2 ∧ comp = g.comp then (rampStep p e.1.1.1).toNat else e.1.1.1
    | _, _ => e.1.1.1
  let s := s.modGrd n fun g => { g with pulses := ps, entries := key, comp := comp }
  if tg.any (·.2) then (s.bump (.grd n) GRD_LVL_LIMIT_CNT).raise (.grd n) GRD_EV_LEVEL_LIMIT else s

/-- The planes of a frame of program `x` (2 is SAFE8 of PRG `src`) that starts at `start`, with the values
in force. -/
def State.framePlanes (s : State) (n : Fin 4) (x src start blocks : Nat) : List Plane :=
  let rd := s.grdInf n
  let pr := progOf rd (if x = 2 then src else x)
  if x = 2 then safe8Planes (safe8Unit rd pr.es) pr.pnom
  else
    let ps := s.grd[n].pulses
    let g := rateG (s.get (.sxl n) SXL_STATUS_RATE_IN_USE)
    planesOf (s.blocks n blocks) (nsU (rd GRD_GUARD)) g s.sxl[n].eps start
      (pr.es.zipIdx.map fun e => (e.1, ps.getD e.2 e.1.time))

/-- P_nom of a program selection, 62.5 ps (R97, R138). -/
def State.pnomOf (s : State) (n : Fin 4) (x : Nat) : Nat := (progOf (s.grdInf n) (if x = 1 then 1 else 0)).pnom

/-- The load environment in force. -/
def State.loadEnv (s : State) (n : Fin 4) : LoadEnv :=
  { w := s.inf (.eng n) ENG_GEOM_WIDTH, h := s.inf (.eng n) ENG_GEOM_HEIGHT, blocks := s.blockCount n
    slots := slotsOf (s.get (.sxl n) ⟨SXL_ARRAY_CAP.off, 8, 3⟩)
    lead := usU (min (s.inf (.eng n) ENG_FENCE_LEAD) 50), margin := nsU (s.inf (.grd n) GRD_LOAD_MARGIN)
    guard := nsU (s.inf (.grd n) GRD_GUARD) }

/-- lanes × Gbit/s of a group set and rate. -/
def laneRate (groups rate : Nat) : Nat := 4 * ((List.range 4).filter fun i => bitOf groups i).length * rateG rate

/-- The program for a link of `lg` lanes × Gbit/s (R138). -/
def State.selectProg (s : State) (n : Fin 4) (lg : Nat) : Nat :=
  let rd := s.grdInf n
  let p0 := progOf rd 0
  let p1 := progOf rd 1
  let v := s.loadEnv n
  if (progLoadFail v lg none p0.es).isNone then 0
  else if s.infFlag (.grd n) GRD_CFG_REDUCED_EN ∧ p1.count ≠ 0 ∧ (progChecks rd 1 p1 true) = [] ∧
      (progLoadFail v 64 none p1.es).isNone then 1
  else 2

/-- A program comes into use (R138): status, and REDUCED for a stand-in. -/
def State.useProg (s : State) (n : Fin 4) (x : Nat) : State :=
  let s := s.modGrd n fun g => { g with sel := x, entries := if g.sel = x then g.entries else [] }
  let s := (s.put (.grd n) GRD_STATUS_PRG (ofBool (x == 1))).put (.grd n) GRD_STATUS_REDUCED (ofBool (x != 0))
  if x ≠ 0 then s.raise (.grd n) GRD_EV_REDUCED else s

/-- The Grinder stops: no frame, no load. -/
def State.grdStop (s : State) (n : Fin 4) : State :=
  let s := s.modGrd n fun g => { g with
    planes := [], next := [], begun := 0, resets := [], loaded := [], missed := [], load := none, slack := none
    entries := [], snap := true, base := 0 }
  let s := ((s.put (.grd n) GRD_STATUS_SAFE8 0).put (.grd n) GRD_STATUS_COUNT 0).put (.grd n) GRD_STATUS_RAMP 0
  s.put (.grd n) BLK_STATE GRD_IDLE

/-- The running plane count starts at 0 with empty slots (R131): of loads and resets those of the frame that starts remain,
counted from 0. -/
def State.grdRestart (s : State) (n : Fin 4) : State :=
  s.modGrd n fun g =>
    let top := g.base + g.planes.length
    let from0 (l : List (Nat × Nat)) : List (Nat × Nat) := (l.filter fun e => decide (top ≤ e.1)).map fun e => (e.1 - top, e.2)
    { g with
      planes := [], base := 0, begun := 0, loaded := from0 g.loaded, missed := from0 g.missed
      resets := (g.resets.filter fun r => decide (top ≤ r.1)).map fun r => (r.1 - top, r.2)
      load := (g.load.filter fun l => decide (top ≤ l.count)).map fun l => { l with count := l.count - top } }

end Sys2Proof.Machine
end

