-- ==== Sys2Proof/Machine/Link.lean ====
section
/-!
DEFINITION. The Selxis link (spec/07): ranks (R169, R188), training and its results (R180, R187–R189),
the sideband (R181–R185), step-downs and probes (R190), rank changes (R191) and loss (R192). What the
engine makes of them is in `Sys2Proof.Machine.Engine`.
-/

namespace Sys2Proof.Machine

def State.modSxl (s : State) (n : Fin 4) (f : Link → Link) : State :=
  { s with sxl := s.sxl.set n.val (f s.sxl[n]) }

/-- Link states, events (R195) and details (R196). -/
def SXL_DOWN : Nat := 0
def SXL_SB_INIT : Nat := 1
def SXL_TRAINING : Nat := 2
def SXL_ACTIVE : Nat := 3
def SXL_SWITCHING : Nat := 4
def SXL_WAIT : Nat := 5
def SXL_EV_LINK_UP : Nat := 0
def SXL_EV_LINK_LOSS : Nat := 1
def SXL_EV_STEP_DOWN : Nat := 2
def SXL_EV_GROUP_RESTORED : Nat := 3
def SXL_EV_CRC_ERR : Nat := 4
def SXL_EV_EYE_LOW : Nat := 5
def SXL_EV_SB_ERR : Nat := 6
def SXL_EV_PARK_CHANGE : Nat := 7
def SXL_EV_LATE_CMD : Nat := 8
def SXL_EV_PARK_LOADED : Nat := 9
def SXL_ID_MISMATCH : Nat := 0x20
def SXL_SB_DEAD : Nat := 0x21
def SXL_NO_CONFIG : Nat := 0x22
def SXL_PLL_LOCK : Nat := 0x23
def SXL_LANE_LOSS : Nat := 0x24
def SXL_LAT_RANGE : Nat := 0x25

def State.sxlState (s : State) (n : Fin 4) : Nat := s.get (.sxl n) BLK_STATE
def State.sxlTo (s : State) (n : Fin 4) (st : Nat) : State := s.put (.sxl n) BLK_STATE st

/-- The nine combinations of R169, best first: groups and rate code. -/
def ranks : List (Nat × Nat) := [(4, 0), (3, 0), (4, 1), (3, 1), (2, 0), (4, 2), (2, 1), (3, 2), (2, 2)]

/-- Number of groups in a mask. -/
def groupCount (m : Nat) : Nat := ((List.range 4).filter fun i => bitOf m i).length

/-- The lowest-numbered `k` groups of a mask. -/
def lowGroups (m k : Nat) : Nat := (((List.range 4).filter fun i => bitOf m i).take k).foldl (fun x i => x + 2 ^ i) 0

/-- Groups that may run at a rate (R187, R188): passed at training, enabled and present. -/
def State.passing (s : State) (n : Fin 4) (rate : Nat) : Nat :=
  let r := s.sxl[n].rates.toList.getD rate {}
  if r.trained ∧ s.inf (.sxl n) SXL_CFG_RATE_MAX ≤ rate then
    r.groups &&& s.inf (.sxl n) SXL_CFG_GROUP_EN &&& s.get (.sxl n) SXL_ARRAY_CAP_GROUPS
  else 0

/-- The best rank within the configuration in force (R188): group mask and rate code. -/
def State.bestRank (s : State) (n : Fin 4) : Option (Nat × Nat) :=
  (ranks.find? fun r => decide (r.1 ≤ groupCount (s.passing n r.2))).map fun r =>
    (lowGroups (s.passing n r.2) r.1, r.2)

/-- The place of a set in the ranking of R169. -/
def rankIx (groups rate : Nat) : Nat := ranks.idxOf (groupCount groups, rate)

/-- The set in use. -/
def State.linkSet (s : State) (n : Fin 4) : Nat × Nat :=
  (s.get (.sxl n) SXL_STATUS_GROUPS_IN_USE, s.get (.sxl n) SXL_STATUS_RATE_IN_USE)
def State.linkUp (s : State) (n : Fin 4) : Bool := s.flag (.sxl n) SXL_STATUS_LINK_UP

/-- lanes × Gbit/s in use; 0 while no lane set is in force. -/
def State.linkLanes (s : State) (n : Fin 4) : Nat :=
  if s.linkUp n then laneRate (s.linkSet n).1 (s.linkSet n).2 else 0

/-- Link time (R176): UI at a rate, 64, 48 or 32 of them per TCLK tick, modulo 2⁴⁸. -/
def State.linkTime (s : State) (rate : Nat) : Nat := s.now * rateG rate / 16 % 2 ^ 48

/-- `LAT_COMP` goes to the array, and the SYNC that follows carries the link time (R176, R180). -/
def State.linkSync (s : State) (n : Fin 4) (rate lat : Nat) : State :=
  (s.put (.sxl n) SXL_LAT_COMP lat).modSxl n fun l => { l with
    latComp := lat, os := some (.sync (s.linkTime rate)), syncAt := s.now }

/-- LINK_CFG (R182, R188): rate, groups, and the block count in force. -/
def State.linkCfgOf (s : State) (n : Fin 4) (groups rate : Nat) : Nat :=
  rate + groups % 16 * 16 + (s.blockCount n - 1) % 32 * 256

/-- The link runs on a set (R180, R188, R191): LINK_CFG is written; at another rate its stored `LAT_COMP` and ε apply, with a
SYNC. -/
def State.linkUse (s : State) (n : Fin 4) (groups rate : Nat) : State :=
  let r := s.sxl[n].rates.toList.getD rate {}
  let same := s.get (.sxl n) SXL_STATUS_RATE_IN_USE == rate && s.linkUp n
  let s := (s.put (.sxl n) SXL_STATUS_GROUPS_IN_USE groups).put (.sxl n) SXL_STATUS_RATE_IN_USE rate
  let s := s.modSxl n fun l => { l with linkCfg := s.linkCfgOf n groups rate }
  if same then s
  else
    let s := (s.linkSync n rate r.lat).put (.sxl n) SXL_LAT_RES (unsigned 16 r.eps)
    s.modSxl n fun l => { l with eps := r.eps, epsTgt := r.eps }

/-- The worst lane in use (`SXL_EYE_WORST`). -/
def State.eyeWorst (s : State) (n : Fin 4) (eyes : Vector Nat 16) : State :=
  let used := (List.range 16).filter fun k => bitOf (s.linkSet n).1 (k / 4)
  match used with
  | [] => s.put (.sxl n) SXL_EYE_WORST 0
  | k0 :: r =>
    let k := r.foldl (fun b k => if eyes.toList.getD k 0 < eyes.toList.getD b 0 then k else b) k0
    s.put (.sxl n) SXL_EYE_WORST (k * 0x10000 + min 1023 (eyes.toList.getD k 0))

/-- The eye registers (R183). -/
def State.eyeShow (s : State) (n : Fin 4) (eyes : Vector Nat 16) : State :=
  let s := (List.range 8).foldl (fun s i =>
    s.put (.sxl n) (SXL_EYE_LANE i)
      (min 1023 (eyes.toList.getD (2 * i + 1) 0) * 0x10000 + min 1023 (eyes.toList.getD (2 * i) 0))) s
  s.eyeWorst n eyes

/-- The eye of one lane, as the sideband reads it (R182). -/
def State.eyeRead (s : State) (n : Fin 4) (k data : Nat) : State :=
  let now := Vector.ofFn fun (i : Fin 16) =>
    if i.val = k then data else bitsOf (s.get (.sxl n) (SXL_EYE_LANE (i.val / 2))) (16 * (i.val % 2)) 10
  s.eyeShow n now

/-! ### Parking (R185) -/

/-- The device commands a PARK pattern; its confirmation is awaited. -/
def State.linkPark (s : State) (n : Fin 4) (pat : Nat) : State :=
  if s.flag (.sxl n) SXL_STATUS_SB_OK then
    (s.modSxl n fun l => { l with park := some pat, parkReq := 0x100 + pat % 4 }).put (.sxl n) SXL_STATUS_PARK_CONFIRMED 0
  else s

/-- PARK is released at the prefetch start of the first LIT frame (R185). -/
def State.linkRelease (s : State) (n : Fin 4) : State :=
  (s.modSxl n fun l => { l with park := none, parkReq := l.parkReq % 4 }).put (.sxl n) SXL_STATUS_PARK_CONFIRMED 0

/-! ### Training (R187–R189) -/

/-- Training starts: step 1, SB_INIT. The link is not up. -/
def State.trainStart (s : State) (n : Fin 4) : State :=
  let s := s.bump (.sxl n) SXL_TRAIN_CNT
  let s := s.modSxl n fun l => { l with
    trainAt := s.now, step := 1, stepAt := s.now, change := none, target := none, switchAt := none, failed := 0, retried := false
    low := #v[0, 0, 0, 0], probes := #v[0, 0, 0, 0], markSum := 0, markCnt := 0, markOut := [], locked := 0, seen := 0
    lats := Vector.replicate 3 none, tx := [], os := none }
  let s := (s.put (.sxl n) SXL_STATUS_LINK_UP 0).put (.sxl n) SXL_STATUS_GROUPS_IN_USE 0
  s.sxlTo n SXL_SB_INIT

/-- Training ends without a link (R187, R189): the detail is recorded; the sideband, if up, waits for a retry. A failed identity
check leaves the link DOWN, its sideband with it (R168). -/
def State.trainFail (s : State) (n : Fin 4) (detail : Nat) : State :=
  let s := s.put (.sxl n) SXL_LOSS_INFO (s.sxl[n].locked % 16 * 0x10000 + detail)
  let s := s.put (.sxl n) SXL_TRAIN_TIME (min 65535 (toUs (s.now - s.sxl[n].trainAt)))
  let s := s.modSxl n fun l => { l with step := 0 }
  let s := if detail = SXL_SB_DEAD ∨ detail = SXL_ID_MISMATCH then s.put (.sxl n) SXL_STATUS_SB_OK 0 else s
  let s := s.sxlTo n (if s.flag (.sxl n) SXL_STATUS_SB_OK then SXL_WAIT else SXL_DOWN)
  s.errHw (.sxl n) ST_HW_FAULT detail

/-- A rate result from the measurements of training (R180, R187): a group passes when its four lanes lock,
deskew and show an eye of at least MIN; a rate trains when its latency is calibrated. -/
def rateResult (m : RateMeas) (eyeMin : Nat) (lat : Option (Nat × Int)) : RateResult :=
  { trained := m.tried && lat.isSome
    groups := ((List.range 4).filter fun i => (List.range 4).all fun j =>
      bitOf m.lanes (4 * i + j) && decide (eyeMin ≤ m.eyes.toList.getD (4 * i + j) 0)).foldl (fun x i => x + 2 ^ i) 0
    lat := (lat.getD (0, 0)).1, eps := (lat.getD (0, 0)).2, preset := m.preset, eyes := m.eyes }

/-- Whether a coarse pass is in range (R180): d within 20–400 ns, in 1/16 of 62.5 ps. -/
def coarseOk (d : Int) : Bool := decide (5120 ≤ d) && decide (d ≤ 102400)

/-- Whether a fine pass is in range (R180): |ε| at most one UI, samples spread over at most 250 ps. -/
def fineOk (rate : Nat) (eps spread : Int) : Bool := decide (eps.natAbs * rateG rate ≤ 256) && decide (spread ≤ 64)

/-- The results of training are kept (R187): by rate, with `SXL_LAT_RATE`. -/
def State.keepRates (s : State) (n : Fin 4) (ms : List RateMeas) : State :=
  let eyeMin := s.inf (.sxl n) SXL_EYE_MIN
  let s := s.modSxl n fun l => { l with rates := Vector.replicate 3 {} }
  let s := (List.range 3).foldl (fun s k => s.put (.sxl n) (SXL_LAT_RATE k) 0) s
  ms.foldl (fun s m =>
    if h : m.rate < 3 then
      let r := rateResult m eyeMin s.sxl[n].lats[m.rate]
      let s := s.modSxl n fun l => { l with rates := l.rates.set m.rate r }
      s.put (.sxl n) (SXL_LAT_RATE m.rate) ((if r.trained then 0x80000000 else 0) + unsigned 16 r.eps)
    else s) s

/-- The link comes up on a set (R188). -/
def State.linkRise (s : State) (n : Fin 4) (groups rate : Nat) : State :=
  let s := s.put (.sxl n) SXL_TRAIN_TIME (min 65535 (toUs (s.now - s.sxl[n].trainAt)))
  let s := (s.linkUse n groups rate).put (.sxl n) SXL_STATUS_LINK_UP 1
  let s := s.put (.sxl n) SXL_STATUS_STEPPED 0
  let s := s.eyeShow n (s.sxl[n].rates.toList.getD rate {}).eyes
  let s := s.modSxl n fun l => { l with
    step := 0, upAt := s.now, crcAt := s.now, crcWin := 0, probeAt := s.now, markOut := []
    statAt := s.now, tempAt := s.now, eyeAt := s.now, locked := groups, risen := rankIx groups rate }
  (s.sxlTo n SXL_ACTIVE).raise (.sxl n) SXL_EV_LINK_UP

/-- The link goes DOWN with its domain (R168): its lanes are idle and nothing is on the way. -/
def State.linkStop (s : State) (n : Fin 4) : State :=
  let s := s.modSxl n fun l => { l with
    step := 0, change := none, target := none, switchAt := none, park := none, locked := 0, parkWait := false, markOut := []
    tx := [], os := none, sbdo := 0 }
  let s := (s.put (.sxl n) SXL_STATUS_LINK_UP 0).put (.sxl n) SXL_STATUS_SB_OK 0
  let s := (s.put (.sxl n) SXL_STATUS_GROUPS_IN_USE 0).put (.sxl n) SXL_STATUS_PARK_CONFIRMED 0
  s.sxlTo n SXL_DOWN

/-- The link's part of a loss (R192): counted, recorded, raised; the lanes are down. -/
def State.linkDrop (s : State) (n : Fin 4) (detail groups : Nat) : State :=
  let s := (s.bump (.sxl n) SXL_LOSS_CNT).put (.sxl n) SXL_LOSS_INFO (groups % 16 * 0x10000 + detail)
  let s := s.raise (.sxl n) SXL_EV_LINK_LOSS
  let s := s.errHw (.sxl n) ST_HW_FAULT detail
  let s := (s.put (.sxl n) SXL_STATUS_LINK_UP 0).put (.sxl n) SXL_STATUS_GROUPS_IN_USE 0
  let s := if detail = SXL_SB_DEAD then s.put (.sxl n) SXL_STATUS_SB_OK 0 else s
  let s := s.modSxl n fun l => { l with change := none, target := none, switchAt := none, markOut := [], tx := [], os := none }
  s.sxlTo n SXL_WAIT

/-! ### Rank changes (R190, R191) -/

/-- Whether a set can be taken from the results of training (R190). -/
def State.setPossible (s : State) (n : Fin 4) (groups rate : Nat) : Bool :=
  decide (rate ≤ 2) && (s.sxl[n].rates.toList.getD rate {}).trained &&
    (groups &&& (s.sxl[n].rates.toList.getD rate {}).groups) == groups

/-- The set that a further decision starts from: the one decided, else the one in use. -/
def State.linkGoal (s : State) (n : Fin 4) : Nat × Nat :=
  match s.sxl[n].change with | some c => (c.1, c.2.1) | none => s.linkSet n

/-- A step down to a set (R190): STEP_DOWN, or EYE_LOW where the step is not possible. -/
def State.stepDown (s : State) (n : Fin 4) (groups rate : Nat) : State :=
  if s.setPossible n groups rate then
    let s := (s.bump (.sxl n) SXL_STEP_CNT).raise (.sxl n) SXL_EV_STEP_DOWN
    let s := s.put (.sxl n) SXL_STATUS_STEPPED 1
    s.modSxl n fun l => { l with change := some (groups, rate, s.now) }
  else s.raise (.sxl n) SXL_EV_EYE_LOW

/-- The interim set of H1 (R191): the common groups at the lower of the two rates. -/
def interimSet (old new : Nat × Nat) : Nat × Nat := (old.1 &&& new.1, max old.2 new.2)

/-- The start of H1 for a new set (R191): the interim set; a change of rate pauses the stream. A decision that came later than
20 µs before it waits. -/
def State.linkInterim (s : State) (n : Fin 4) (new : Nat × Nat) (start : Nat) : State :=
  let old := s.linkSet n
  let i := interimSet old new
  let s := s.linkUse n i.1 i.2
  let s := s.modSxl n fun l => { l with
    change := l.change.filter (fun c => decide (start < c.2.2 + usU 20)), target := some new, switchAt := if i.2 = old.2 then l.switchAt else some s.now }
  if i.2 = old.2 then s else s.sxlTo n SXL_SWITCHING

/-- Groups that the new set adds join at the last packet boundary before H2, where the rate is the same (R191). -/
def State.linkJoin (s : State) (n : Fin 4) : State :=
  match s.sxl[n].target with
  | some (g, r) => if r = (s.linkSet n).2 then s.linkUse n g r else s
  | none => s

/-- The start of H2: the link runs on the new set (R191). A rate switch that is not complete stays under way. -/
def State.linkFinal (s : State) (n : Fin 4) : State :=
  match s.sxl[n].target with
  | none => s
  | some (g, r) =>
    let turn := decide (r ≠ (s.linkSet n).2)
    let s := (s.linkUse n g r).modSxl n fun l => { l with
      target := none, switchAt := if turn then some s.now else l.switchAt }
    let s := s.put (.sxl n) SXL_STATUS_STEPPED (ofBool (decide (s.sxl[n].risen < rankIx g r)))
    s.sxlTo n (if s.sxl[n].switchAt.isSome then SXL_SWITCHING else SXL_ACTIVE)

/-- A rank change outside frames applies at once, with the pause of a change of rate (R191). -/
def State.linkChangeNow (s : State) (n : Fin 4) (new : Nat × Nat) : State :=
  let s := s.modSxl n fun l => { l with change := none, target := some new }
  s.linkFinal n

/-- The best rank that a decision and the configuration in force both admit (R193): without the groups that the decision drops,
and at no higher rate than it asks for. -/
def State.bestBoth (s : State) (n : Fin 4) (goal : Nat × Nat) : Option (Nat × Nat) :=
  let cur := s.linkSet n
  let may (r : Nat) : Nat := (List.range 4).foldl (fun m i =>
    if bitOf (s.passing n r) i && !(bitOf cur.1 i && !bitOf goal.1 i) then m + 2 ^ i else m) 0
  (ranks.find? fun r => decide (goal.2 ≤ r.2) && decide (r.1 ≤ groupCount (may r.2))).map fun r => (lowGroups (may r.2) r.1, r.2)

/-- Whether the configuration in force admits a set (R191). -/
def State.linkAdmits (s : State) (n : Fin 4) (g : Nat × Nat) : Bool :=
  decide (s.inf (.sxl n) SXL_CFG_RATE_MAX ≤ g.2) && (g.1 &&& s.inf (.sxl n) SXL_CFG_GROUP_EN) == g.1

/-- The set that a decision, if any, and the configuration in force ask for (R191, R193). None where nothing changes. -/
def State.linkAsk (s : State) (n : Fin 4) (decision : Option (Nat × Nat)) : Option (Nat × Nat) :=
  let cur := s.linkSet n
  let want := match decision with
    | none => if s.linkAdmits n cur then some cur else s.bestRank n
    | some g => if s.linkAdmits n g then some g else (match s.bestBoth n g with | some b => some b | none => s.bestRank n)
  match want with | some w => if w = cur then none else some w | none => none

/-- The set asked for now, and at a frame start, which a decision precedes by 20 µs or more (R191). -/
def State.linkPending (s : State) (n : Fin 4) : Option (Nat × Nat) := s.linkAsk n (s.sxl[n].change.map fun c => (c.1, c.2.1))
def State.linkDue (s : State) (n : Fin 4) (start : Nat) : Option (Nat × Nat) :=
  s.linkAsk n ((s.sxl[n].change.filter fun c => decide (c.2.2 + usU 20 ≤ start)).map fun c => (c.1, c.2.1))

/-- No rank within the configuration passed at training (R191). -/
def State.ceilingLost (s : State) (n : Fin 4) : Bool := s.linkUp n && (s.bestRank n).isNone

/-! ### Sideband answers (R181–R185) -/

/-- LINK_STAT as read: the pattern shown, PARK_CHANGE, the confirmation of the commanded pattern, the
end of a PARK store (R185, R186), and of a rate switch (R191). -/
def State.linkStatRead (s : State) (n : Fin 4) (v : Nat) : State :=
  let pat := bitsOf v 8 2
  let on := bitOf v 10
  let was := (s.get (.sxl n) SXL_STATUS_PARK_ACTIVE, s.flag (.sxl n) SXL_STATUS_PARK_ON)
  let s := (s.put (.sxl n) SXL_STATUS_PARK_ACTIVE pat).put (.sxl n) SXL_STATUS_PARK_ON (ofBool on)
  let s := if was = (pat, on) then s else s.raise (.sxl n) SXL_EV_PARK_CHANGE
  let conf := s.flag (.sxl n) SXL_STATUS_ID_OK && on && s.sxl[n].park == some pat
  let s := s.put (.sxl n) SXL_STATUS_PARK_CONFIRMED (ofBool conf)
  let busy := bitOf v 11
  let stored := s.sxl[n].parkWait && s.sxl[n].parkBusy && !busy
  let s := if stored then s.raise (.sxl n) SXL_EV_PARK_LOADED else s
  let good := (bitsOf v 0 4 &&& (s.linkSet n).1) == (s.linkSet n).1 && bitOf v 4 && bitOf v 5
  let s := if s.sxl[n].switchAt.isSome ∧ good then
      (s.modSxl n fun l => { l with switchAt := none }).sxlTo n SXL_ACTIVE else s
  s.modSxl n fun l => { l with
    parkBusy := busy, parkWait := l.parkWait && !stored, locked := bitsOf v 0 4, statAt := s.now }

/-- A rate switch is under way, for at most 4 µs (R191). -/
def State.switching (s : State) (n : Fin 4) : Bool :=
  match s.sxl[n].switchAt with | some a => decide (s.now < a + usU 4) | none => false

/-- The loss that a LINK_STAT shows on a link that is up (R192): a group in use unlocked, or deskew or sync
lost. -/
def State.linkStatLoss (s : State) (n : Fin 4) (v : Nat) : Bool :=
  s.linkUp n && s.sxlState n == SXL_ACTIVE &&
    ((bitsOf v 0 4 &&& (s.linkSet n).1) != (s.linkSet n).1 || !bitOf v 4 || !bitOf v 5)

/-- Whether the array's identity passes (R189). -/
def State.idPass (s : State) (n : Fin 4) : Bool :=
  let e := s.get (.sxl n) SXL_ID_EXPECT
  e == 0 || e == s.get (.sxl n) SXL_ARRAY_ID

/-- What a sideband read answers goes to its register (R182, R183). The identity is judged with MODEL, and
the sideband is up from the first good answer. -/
def State.sbRead (s : State) (n : Fin 4) (addr data : Nat) : State :=
  let s := s.put (.sxl n) SXL_STATUS_SB_OK 1
  match addr with
  | 0x00 => s.put (.sxl n) SXL_ARRAY_ID_VENDOR data
  | 0x01 =>
    let s := s.put (.sxl n) SXL_ARRAY_ID_MODEL data
    s.put (.sxl n) SXL_STATUS_ID_OK (ofBool (s.idPass n))
  | 0x02 => s.modSxl n fun l => { l with rev := data }
  | 0x03 => s.put (.sxl n) SXL_ARRAY_GEOM_WIDTH data
  | 0x04 => s.put (.sxl n) SXL_ARRAY_GEOM_HEIGHT data
  | 0x05 => s.put (.sxl n) SXL_ARRAY_CAP_CAP data
  | 0x06 => s.put (.sxl n) SXL_ARRAY_CAP_GROUPS data
  | 0x07 => s.modSxl n fun l => { l with echoDly := data }
  | 0x08 => s.put (.sxl n) SXL_ARRAY_TEMP (0x80000000 + data % 65536)
  | 0x20 => s.linkStatRead n data
  | 0x21 => s.modSxl n fun l => { l with laneLock := data }
  | _ => if 0x30 ≤ addr ∧ addr < 0x40 then s.eyeRead n (addr - 0x30) data else s

/-- The rate at which the link sends: the one under calibration, else the one in use. -/
def State.sendRate (s : State) (n : Fin 4) : Nat :=
  if s.sxl[n].step = 4 then s.sxl[n].calRate else s.get (.sxl n) SXL_STATUS_RATE_IN_USE

/-- One MARK sample in 1/16 of 62.5 ps (R180): echo instant − STAMP × UI − ECHO_DLY − SXL_ECHO_RET. -/
def State.markSample (s : State) (n : Fin 4) (echo16 : Int) (stamp : Nat) : Int :=
  echo16 - roundDivI ((stamp : Int) * 256) (rateG (s.sendRate n)) -
    16 * (s.sxl[n].echoDly : Int) - 16 * (s.get (.sxl n) SXL_ECHO_RET : Int)

/-- ε at a frame start: one step of at most 62.5 ps towards its target (R25, R180); at once when `snap`. -/
def State.epsRamp (s : State) (n : Fin 4) (snap : Bool) : State :=
  let l := s.sxl[n]
  let e := if snap then l.epsTgt else clampI (l.eps - 16) (l.eps + 16) l.epsTgt
  (s.modSxl n fun l => { l with eps := e }).put (.sxl n) SXL_LAT_RES (unsigned 16 e)

end Sys2Proof.Machine
end

