-- ==== Sys2Proof/Machine/CalApply.lean ====
section
/-!
DEFINITION. How accepted calibration values reach their consumers (R415–R417): delivery at frame starts or
at once, the ramps of trims, presets and converters, the rotation of delay lines, and the spare converter.
-/

namespace Sys2Proof.Machine

def State.modCal (s : State) (f : Cal → Cal) : State := { s with cal := f s.cal }
def State.modLines (s : State) (x : Fin 6) (f : DelayLines → DelayLines) : State :=
  s.modCal fun c => { c with lines := c.lines.set x (f c.lines[x]) }
def State.modBank (s : State) (b : Fin 2) (f : AdcBank → AdcBank) : State :=
  s.modCal fun c => { c with banks := c.banks.set b (f c.banks[b]) }

/-- Whether a unit (engines 0–3, scanners 4–5) runs frames: LIT or HOLD (R415). -/
def State.unitFrames (s : State) (u : Nat) : Bool :=
  let st := s.get (unitPage u) BLK_STATE
  st == 3 || st == 4

/-- A time in ps as a whole number of 62.5 ps, rounded to nearest. -/
def psUnits (v : Int) : Int := roundDivI (v * 2) 125

/-- The Percolator's trim of the phase offset of a scan direction, 62.5 ps (R415). -/
def State.phaseTrim (s : State) (k : Fin 2) (fwd : Bool) : Int :=
  signed 16 (s.get .cal (if fwd then CAL_SCN_TRIM_FWD k.val else CAL_SCN_TRIM_RET k.val))

/-- The phase offset in force of a scan direction (R202, R415): committed offset plus trim, 62.5 ps. -/
def State.phaseOfs (s : State) (k : Fin 2) (fwd : Bool) : Int :=
  signed 16 (s.inf (.scn k) (if fwd then SCN_PHASE_OFS_FWD else SCN_PHASE_OFS_RET)) + s.phaseTrim k fwd

/-- An accepted result arrives at its consumer; `snap`: the consumer runs no frames and takes it at once (R415). -/
def State.calApply (s : State) (cls inst : Nat) (vals : List Int) (snap : Bool) : State :=
  match cls with
  | 1 =>
    match finOf 4 inst with
    | none => s
    | some n =>
      let half := vals.length / 2
      (List.range (min half 32)).foldl (fun (s : State) b =>
        let ts := (psUnits (vals.getD b 0)).toNat
        let e := (psUnits (vals.getD (half + b) 0)).toNat
        let s := (s.put (.grd n) ⟨(GRD_BLK_TS_TGT b).off, 0, 24⟩ ts).put (.grd n) ⟨(GRD_BLK_E_TGT b).off, 0, 24⟩ e
        if snap then
          let ts := clampN 16000 128000 ts
          (s.put (.grd n) ⟨(GRD_BLK_TS b).off, 0, 24⟩ ts).put (.grd n) ⟨(GRD_BLK_E b).off, 0, 24⟩ (min e ts)
        else s) s
  | 3 =>
    match finOf 6 inst with
    | none => s
    | some x =>
      let s := s.modLtn x fun l => { l with
        echoOpen := (psUnits (vals.getD 0 0)).toNat, echoClose := (psUnits (vals.getD 1 0)).toNat }
      if snap then s.ltnDelaySnap x else s
  | 5 =>
    match finOf 6 inst with
    | none => s
    | some x =>
      let d := (vals.getD 0 0).toNat
      let s := s.modCal fun c => { c with dark := c.dark.set x (some (d : Int)) }
      (s.modLtn x fun l => { l with dark := d * 65536 }).put (.ltn x) LTN_DARK d
  | 6 =>
    match finOf 4 inst with
    | none => s
    | some n =>
      let e := vals.getD 0 0
      let r := s.get (.sxl n) SXL_STATUS_RATE_IN_USE
      let s := s.modSxl n fun l =>
        let rates := match finOf 3 r with | some i => l.rates.set i { l.rates[i] with eps := e } | none => l.rates
        { l with epsTgt := e, rates := rates }
      if snap then (s.modSxl n fun l => { l with eps := e }).put (.sxl n) SXL_LAT_RES (unsigned 16 e) else s
  | 7 =>
    match finOf 4 inst with
    | none => s
    | some n =>
      let pre : Vector Nat 16 := Vector.ofFn fun (i : Fin 16) => (vals.getD (16 + i.val) 0).toNat
      if snap then
        let r := s.get (.sxl n) SXL_STATUS_RATE_IN_USE
        s.modSxl n fun l =>
          { l with rates := match finOf 3 r with
              | some i => l.rates.set i { l.rates[i] with preset := pre } | none => l.rates }
      else s.modCal fun c => { c with presets := c.presets.set n (some pre) }
  | 8 =>
    match finOf 2 inst with
    | none => s
    | some k =>
      let f := psUnits (vals.getD 0 0)
      let r := psUnits (vals.getD 1 0)
      let s := s.modCal fun c => { c with trimTgt := c.trimTgt.set k (f, r) }
      if snap then
        (s.put .cal (CAL_SCN_TRIM_FWD k.val) (unsigned 16 f)).put .cal (CAL_SCN_TRIM_RET k.val) (unsigned 16 r)
      else s
  | _ => s

/-- Delivery of what was accepted before this tick, at a frame start of a unit (R415). -/
def State.calDeliver (s : State) (u : Nat) (any : Bool) : State :=
  let mine (e : CalNew) : Bool := e.unit == u && (any || decide (e.at' / tickU < s.now / tickU))
  let now := s.cal.fresh.filter mine
  let s := s.modCal fun c => { c with fresh := c.fresh.filter fun e => !mine e }
  now.foldl (fun (s : State) e => s.calApply e.cls e.inst e.vals any) s

/-- Trims of a scanner move at its frame start by at most 62.5 ps (R415). -/
def State.trimRamp (s : State) (k : Fin 2) : State :=
  let (f, r) := s.cal.trimTgt[k]
  let s := s.put .cal (CAL_SCN_TRIM_FWD k.val) (unsigned 16 (rampStep (signed 16 (s.get .cal (CAL_SCN_TRIM_FWD k.val))) f))
  s.put .cal (CAL_SCN_TRIM_RET k.val) (unsigned 16 (rampStep (signed 16 (s.get .cal (CAL_SCN_TRIM_RET k.val))) r))

/-- One step of one lane's preset at a frame start (R415): the first lane that differs and was not stepped within 1 s (R413). -/
def State.presetStep (s : State) (n : Fin 4) : State :=
  match s.cal.presets[n] with
  | none => s
  | some tgt =>
    match finOf 3 (s.get (.sxl n) SXL_STATUS_RATE_IN_USE) with
    | none => s
    | some r =>
      let cur := (s.sxl[n].rates[r]).preset
      if cur = tgt then s.modCal fun c => { c with presets := c.presets.set n none }
      else match (List.finRange 16).find? fun i => cur[i] != tgt[i] &&
          s.cal.stepAt[n][i].all fun t => decide (t + secU 1 ≤ s.now) with
      | none => s
      | some i =>
        let s := s.modCal fun c => { c with stepAt := c.stepAt.set n (c.stepAt[n].set i (some s.now)) }
        let v : Nat := if cur[i] < tgt[i] then cur[i] + 1 else cur[i] - 1
        s.modSxl n fun l => { l with rates := l.rates.set r { l.rates[r] with preset := cur.set i v } }

/-! ### Delay lines (R416) -/

/-- Whether a line may take over from another: every tap within 62.5 ps (R416). -/
def tapsNear (a b : List Int) : Bool :=
  (List.range 64).all fun i => decide ((tapPos a i - tapPos b i).natAbs * 2 ≤ 125)

/-- `CAL_DL_STAT` follows the lines. -/
def State.dlShow (s : State) (x : Fin 6) : State :=
  let d := s.cal.lines[x]
  s.put .cal ⟨(CAL_DL_STAT x.val).off, 4, 2⟩ d.third.val

/-- The frame start of a unit: a failed line in service is replaced without a check, else a calibrated third
line takes over when every tap lies near enough, and otherwise is measured again (R416). -/
def State.dlRotate (s : State) (x : Fin 6) : State :=
  let d := s.cal.lines[x]
  match d.urgent with
  | some b =>
    if d.failed[d.third] then s.modLines x fun d => { d with urgent := none }
    else
      (s.modLines x fun d => { d with
        open_ := if d.open_ = b then d.third else d.open_, close := if d.close = b then d.third else d.close
        third := b, urgent := none, ready := none }).dlShow x
  | none =>
    if (d.ready.all fun a => decide (s.now / tickU ≤ a / tickU)) ∨ d.failed.toList.any id then s
    else
      let out := if d.nextClose then d.close else d.open_
      if tapsNear d.table[d.third] d.table[out] then
        (s.modLines x fun d => { d with
          open_ := if d.nextClose then d.open_ else d.third, close := if d.nextClose then d.third else d.close
          third := out, nextClose := !d.nextClose, ready := none }).dlShow x
      else s.modLines x fun d => { d with ready := none }

/-! ### Converters (R156, R417) -/

/-- The bank of a Lantern and its converter in the bank. -/
def bankOf (x : Fin 6) : Fin 2 := if x.val < 3 then 0 else 1
def convOf (x : Fin 6) : Fin 3 := ⟨x.val % 3, Nat.mod_lt _ (by decide)⟩

/-- The spare replaces a failed converter for good (R156). -/
def State.adcReplace (s : State) (x : Fin 6) : State :=
  let s := s.modBank (bankOf x) fun k => { k with standIn := some (convOf x), owed := none }
  ((s.put (.ltn x) LTN_ADC_SPARED 1).put (.ltn x) LTN_ADC_IN_USE 1).raise (.ltn x) LTN_EV_ADC_SPARED

/-- The spare takes the place of a failed converter or of that under calibration, or the converter returns, at a frame start of
its Lantern or at once when that runs no frames (R156, R417). -/
def State.adcSwitch (s : State) (x : Fin 6) (frames : Bool) : State :=
  let b := bankOf x
  let k := s.cal.banks[b]
  let j := convOf x
  if k.owed = some j then s.adcReplace x
  else if k.turn.val ≠ j.val then s
  else if k.stage = 1 ∧ k.since + msU 100 ≤ s.now then
    (s.modBank b fun k => { k with stage := 2, standIn := some j, since := s.now }).put (.ltn x) LTN_ADC_IN_USE 1
  else if k.stage = 3 ∧ (!frames ∨ k.since / tickU < s.now / tickU) then
    (s.modBank b fun k => { k with stage := 0, standIn := none }).put (.ltn x) LTN_ADC_IN_USE 0
  else s

/-- Gain and offset of the converter that serves a Lantern move at its frame start: 0.02 % and one code, not
for values accepted on this tick (R415). -/
def State.adcRamp (s : State) (x : Fin 6) (snap : Bool) : State :=
  let b := bankOf x
  s.modBank b fun k =>
    let i : Fin 4 := if k.standIn = some (convOf x) then 3 else (convOf x).castSucc
    let g := if snap then k.gainTgt[i] else clampI (k.gain[i] - 200) (k.gain[i] + 200) k.gainTgt[i]
    let o := if snap then k.ofsTgt[i] else rampStep k.ofs[i] k.ofsTgt[i]
    if !snap && k.accAt.any fun a => a.2 == i && a.1 / tickU == s.now / tickU then k
    else { k with gain := k.gain.set i g, ofs := k.ofs.set i o }

/-- Everything the Percolator does at a frame start of a unit (R415–R417). -/
def State.calFrame (s : State) (u : Fin 6) : State :=
  let s := s.calDeliver u.val false
  let s := match finOf 4 u.val with
    | some n => s.presetStep n
    | none => match finOf 2 (u.val - 4) with | some k => s.trimRamp k | none => s
  ((s.dlRotate u).adcSwitch u true).adcRamp u false

/-- A unit stops running frames: what is accepted and not delivered takes effect at once (R415, R419). -/
def State.calLeave (s : State) (u : Fin 6) : State :=
  let s := s.calDeliver u.val true
  let s := match finOf 4 u.val with
    | some n =>
      match s.cal.presets[n] with
      | none => s
      | some pre =>
        let s := s.calApply 7 n.val (List.replicate 16 (0 : Int) ++ pre.toList.map fun (v : Nat) => (v : Int)) true
        s.modCal fun c => { c with presets := c.presets.set n none }
    | none =>
      match finOf 2 (u.val - 4) with
      | none => s
      | some k =>
        let (f, r) := s.cal.trimTgt[k]
        (s.put .cal (CAL_SCN_TRIM_FWD k.val) (unsigned 16 f)).put .cal (CAL_SCN_TRIM_RET k.val) (unsigned 16 r)
  (s.adcSwitch u false).adcRamp u true

end Sys2Proof.Machine
end

