-- ==== Sys2Proof/Machine/LinkItems.lean ====
section
/-!
DEFINITION. What a Selxis link sends: the items of the payload stream (R171–R173, R175) and the frames of the
sideband (R181).
-/

namespace Sys2Proof.Machine

/-- A number as `n` bytes, big-endian (spec/07, "The payload stream"). -/
def beBytes : Nat → Nat → List Byte
  | 0, _ => []
  | n + 1, v => beBytes n (v / 256) ++ [BitVec.ofNat 8 v]

/-- One byte into CRC-32 of IEEE 802.3, reflected. -/
def crc32Byte (c : Nat) (b : Byte) : Nat :=
  (List.range 8).foldl (fun c _ => if c % 2 = 1 then c / 2 ^^^ 0xEDB88320 else c / 2) (c ^^^ b.toNat)

/-- CRC-32 of IEEE 802.3 (spec/07). -/
def crc32 (l : List Byte) : Nat := (l.foldl crc32Byte 0xFFFFFFFF) ^^^ 0xFFFFFFFF

/-- CRC-16, polynomial 0x1021, initial value 0xFFFF (R171). -/
def crc16 (l : List Byte) : Nat :=
  l.foldl (fun c b => (List.range 8).foldl (fun c _ =>
    if 0x8000 ≤ c then (c * 2 % 0x10000) ^^^ 0x1021 else c * 2 % 0x10000) (c ^^^ (b.toNat * 256))) 0xFFFF

/-- A block header (R171). -/
def blockHeader (dest block slot row0 rows words seq : Nat) : List Byte :=
  let h := beBytes 1 0xB1 ++ beBytes 1 dest ++ beBytes 1 block ++ beBytes 1 slot ++ beBytes 2 row0 ++ beBytes 2 rows ++
    beBytes 2 words ++ beBytes 2 0 ++ beBytes 4 seq ++ List.replicate 12 0
  h ++ beBytes 4 (crc32 h)

/-- A row record of the bits of its columns (R171): column 32k lies in bit 31 of word k. -/
def rowRecord (block row words : Nat) (bit : Nat → Bool) : List Byte :=
  let ws := (List.range words).flatMap fun k =>
    beBytes 4 ((List.range 32).foldl (fun w c => w * 2 + ofBool (bit (32 * k + c))) 0)
  let r := beBytes 1 0xB2 ++ beBytes 1 block ++ beBytes 2 row ++ beBytes 2 words ++ beBytes 2 0 ++ ws
  r ++ beBytes 4 (crc32 r)

/-- A block trailer (R171). -/
def blockTrailer (block slot rows : Nat) (abort : Bool) : List Byte :=
  let r := beBytes 1 0xB3 ++ beBytes 1 block ++ beBytes 1 slot ++ beBytes 1 (ofBool abort) ++ beBytes 2 rows
  r ++ beBytes 2 (crc16 r)

/-- A command (R172): 0xC1 RESET, 0xC2 FILL, 0xC3 MARK, 0xC5 NOP. -/
def linkCommand (type block slot flags stamp : Nat) : List Byte :=
  let r := beBytes 1 type ++ beBytes 1 block ++ beBytes 1 slot ++ beBytes 1 flags ++ beBytes 6 stamp ++ beBytes 2 0
  r ++ beBytes 4 (crc32 r)

/-- IDL words (R171). -/
def idlWords (k : Nat) : List Byte := List.replicate (4 * k) 0

/-- The items of a block packet (R171): header, row records, trailer, and a command slot of eight IDL words. -/
def blockPacket (dest block slot row0 rows w seq : Nat) (bit : Nat → Nat → Bool) : List (List Byte) :=
  let words := ceilDiv w 32
  blockHeader dest block slot row0 rows words seq ::
    ((List.range rows).map fun i => rowRecord block (row0 + i) words fun c => decide (c < w) && bit c (row0 + i)) ++
    [blockTrailer block slot rows false, idlWords 8]

/-- The code V of a pixel in an engine's buffer (R21): little-endian, row by row. -/
def State.engPixel (s : State) (n : Fin 4) (buf w px py : Nat) : Nat :=
  memLE s.fsram (n.val * quarterSize + buf * 0x800000 + 2 * (py * w + px)) 2

/-- The packet of a block load for a plane of a frame (R122, R125, R130, R135): `v` has the frame's program and gain in
force, `cnt`, `w` and `h` are its blocks and geometry, `k` its place in the dither sequence. -/
def State.loadPacket (s v : State) (n : Fin 4) (buf c b cnt w h k : Nat) (p : Plane) : List (List Byte) :=
  let rd := v.grdInf n
  let lmin := lminOf (progOf rd (if v.grd[n].sel = 1 then 1 else 0)).es
  blockPacket 0 b (c % slotsOf (s.get (.sxl n) ⟨SXL_ARRAY_CAP.off, 8, 3⟩)) (blockRow0 h cnt b) (blockRows h cnt b) w
    s.sxl[n].seq fun px py => mirrorBit rd lmin p.v8 p.bit (s.engPixel n buf w px py) px py k

/-- lanes × Gbit/s at which the link sends: those in use, or the present groups at the rate under calibration. -/
def State.sendLanes (s : State) (n : Fin 4) : Nat :=
  if s.sxl[n].step = 4 then laneRate (s.get (.sxl n) SXL_ARRAY_CAP_GROUPS) s.sxl[n].calRate else s.linkLanes n

/-- Items go out back to back, after what is on the way. -/
def State.linkTx (s : State) (n : Fin 4) (items : List (List Byte)) : State :=
  let t := max s.now s.sxl[n].busyTo
  s.modSxl n fun k => { k with
    tx := items, txAt := t, busyTo := t + bytesTime (items.map List.length).sum (s.sendLanes n) }

/-- Block packets go out and take the next sequence numbers. -/
def State.linkTxPackets (s : State) (n : Fin 4) (items : List (List Byte)) (count : Nat) : State :=
  (s.linkTx n items).modSxl n fun k => { k with seq := (k.seq + count) % 2 ^ 32 }

/-- How many of the items on the way have begun by now: the stream breaks at the next boundary (R174). -/
def State.begunItems (s : State) (n : Fin 4) : Nat :=
  let l := s.sxl[n]
  ((List.range l.tx.length).filter fun i =>
    decide (l.txAt + bytesTime ((l.tx.take i).map List.length).sum (s.sendLanes n) < s.now)).length

/-- A command slot with room for one more command (R171): 32 bytes of which the first or the second half is IDL words. -/
def slotPut (slot cmd : List Byte) : Option (List Byte) :=
  if slot.length ≠ 32 ∨ slot.take 1 = beBytes 1 0xB2 then none
  else if slot.take 16 = idlWords 4 then some (cmd ++ slot.drop 16)
  else if slot.drop 16 = idlWords 4 then some (slot.take 16 ++ cmd)
  else none

/-- The items of a packet in flight with a command (R174): in its slot, or, where that comes too late or is full, in a slot at the
next row boundary, a new one unless one waits there with room. With whether the packet grew. -/
def packetPut (items : List (List Byte)) (begun : Nat) (late : Bool) (cmd : List Byte) : List (List Byte) × Bool :=
  let head := items.dropLast
  match late, slotPut (items.getLast?.getD []) cmd with
  | false, some slot => (head ++ [slot], false)
  | _, _ =>
    let at' := min (max 1 begun) (head.length - 1)
    match slotPut (items.getD at' []) cmd with
    | some slot => (items.set at' slot, false)
    | none => (items.take at' ++ [cmd ++ idlWords 4] ++ items.drop at', true)

/-- A command is sent, no later than `latest` in 1/16 of 62.5 ps (R174): with the block packet in flight, which an inserted slot
lengthens by 32 bytes, else at once. -/
def State.linkCmd (s : State) (n : Fin 4) (cmd : List Byte) (latest : Int) : State :=
  match s.grd[n].load with
  | none => s.linkTx n [cmd]
  | some l =>
    let d := bytesTime 32 (s.linkLanes n)
    let (items, more) := packetPut s.sxl[n].tx (s.begunItems n) (decide (latest < 16 * ((l.finish : Int) - (d : Int)))) cmd
    let s := s.modSxl n fun k => { k with tx := items, busyTo := if more then k.busyTo + d else k.busyTo }
    if more then s.modGrd n fun g => { g with load := some { l with finish := l.finish + d } } else s

/-- The load in flight is abandoned (R175): the packet ends at the next row boundary with ABORT, the FILL is the next command, and
the commands of the slot that is left out follow it. -/
def State.linkAbort (s : State) (n : Fin 4) (block slot : Nat) (fill : List Byte) : State :=
  let l := s.sxl[n]
  let kept := l.tx.take (min (max 1 (s.begunItems n)) (l.tx.length - 2))
  let rows := (kept.filter fun i => i.take 1 == beBytes 1 0xB2).length
  let rest := (l.tx.drop kept.length).filter fun i => i.length == 32 && i.take 1 != beBytes 1 0xB2
  let cmds := (rest.flatMap fun i => [i.take 16, i.drop 16]).filter fun c => c != idlWords 4
  let items := kept ++ [blockTrailer block slot rows true, fill] ++ cmds
  s.modSxl n fun k => { k with
    tx := items, busyTo := k.txAt + bytesTime (items.map List.length).sum (s.sendLanes n) }

/-! ### The lanes (R168, R170) -/

/-- Byte k of the payload stream goes to lane position k mod N (R170). -/
def stripe (lanes : Nat) (l : List Byte) (pos : Nat) : List Byte :=
  (List.range (ceilDiv l.length lanes)).map fun i => l.getD (i * lanes + pos) 0

/-- The PCIe 4.0 scrambler, X²³ + X²¹ + X¹⁶ + X⁸ + X⁵ + X² + 1, and its start value by lane (R170; PRESUMED, log entry 117). -/
def scrSeed (lane : Nat) : Nat :=
  [0x1DBFBC, 0x0607BB, 0x1EC760, 0x18C0DB, 0x010F12, 0x19CFC9, 0x0277CE, 0x1BB807].getD (lane % 8) 0
def scrNext (x : Nat) : Nat := if 0x400000 ≤ x then (x * 2 % 0x800000) ^^^ 0x210125 else x * 2
def scrSkip : Nat → Nat → Nat
  | 0, x => x
  | k + 1, x => scrSkip k (scrNext x)

/-- Bytes scrambled least significant bit first, from a scrambler value. -/
def scramble : Nat → List Byte → List Byte
  | _, [] => []
  | x, b :: r =>
    let key := (List.range 8).foldl (fun k i => k + (scrSkip i x / 0x400000) * 2 ^ i) 0
    (b ^^^ BitVec.ofNat 8 key) :: scramble (scrSkip 8 x) r

/-- A lane's blocks: sync header 0b10 and 16 scrambled bytes each (R170). -/
def dataBlocks : Nat → Nat → List Byte → List (Nat × List Byte)
  | 0, _, _ => []
  | k + 1, x, l => (2, scramble x (l.take 16)) :: dataBlocks k (scrSkip 128 x) (l.drop 16)

/-- Groups that the device drives (R168, R187, R190): none while the link is DOWN, those present in training, those in use and
those under probe. -/
def State.probedGroups (s : State) (n : Fin 4) : Nat :=
  let p := Page.sxl n
  if s.sxlState n = SXL_ACTIVE ∧ s.infFlag p SXL_CFG_PROBE_EN ∧ s.sxl[n].probeAt + msU (s.get p SXL_RETRY_PROBE_MS) ≤ s.now then
    (List.range 4).foldl (fun m g =>
      if bitOf (s.inf p SXL_CFG_GROUP_EN) g && bitOf (s.get p SXL_ARRAY_CAP_GROUPS) g && !bitOf (s.linkSet n).1 g then m + 2 ^ g
      else m) 0
  else 0
def State.sbRuns (s : State) (n : Fin 4) : Bool := s.domOn (PD_SXL n.val) && s.sxlState n != SXL_DOWN
def State.drivenGroups (s : State) (n : Fin 4) : Nat :=
  if !s.sbRuns n then 0
  else if s.linkUp n then (s.linkSet n).1 ||| s.probedGroups n
  else if 4 ≤ s.sxl[n].step then s.get (.sxl n) SXL_ARRAY_CAP_GROUPS
  else 0

/-- A lane in electrical idle, the forwarded clock in electrical idle, and the sideband clock and data line (R167, R168, R181): the
clock runs and the line is high between frames while the sideband is up; both are low otherwise. -/
def State.laneIdle (s : State) (n : Fin 4) (lane : Fin 16) : Bool := !bitOf (s.drivenGroups n) (lane.val / 4)
def State.ckIdle (s : State) (n : Fin 4) : Bool := s.drivenGroups n == 0
def State.sbckRuns (s : State) (n : Fin 4) : Bool := s.sbRuns n
def State.sbdoIdle (s : State) (n : Fin 4) : Bool := s.sbRuns n

/-- The 130-bit blocks of a lane in use that carry what was sent last (R170), as sync header and scrambled bytes: the items begin
on a block and IDL words fill the last one (log entry 117). -/
def State.laneBlocks (s : State) (n : Fin 4) (lane : Fin 16) : List (Nat × List Byte) :=
  let l := s.sxl[n]
  let used := (List.range 16).filter fun k => bitOf (s.drivenGroups n) (k / 4)
  if s.laneIdle n lane then []
  else
    let mine := stripe used.length l.tx.flatten (used.idxOf lane.val)
    let k := ceilDiv mine.length 16
    let gone := (l.txAt - l.syncAt) * rateG (s.sendRate n) / 16 / 130
    dataBlocks k (scrSkip (128 * gone) (scrSeed lane.val)) (mine ++ List.replicate 16 0)

/-- `SXL_STATUS.PROBING` lies in no cell: it reads 1 while a probe is in progress (R190). -/
def State.sxlShow (s : State) (n : Fin 4) (off : Nat) : Option Nat :=
  if off = SXL_STATUS.off then
    some (withBits (s.reg ((Page.sxl n).base + off)).toNat 13 1 (ofBool (s.probedGroups n != 0)))
  else none

/-! ### The sideband (R181) -/

/-- CRC-8, polynomial x⁸ + x² + x + 1, initial value 0xFF, over bits [39:8] of a frame. -/
def sbCrc (frame : Nat) : Nat :=
  (List.range 32).foldl (fun c i =>
    let b := bitsOf frame (39 - i) 1
    let top := c / 128 % 2
    let c := c * 2 % 256
    if top ^^^ b = 1 then c ^^^ 0x07 else c) 0xFF

/-- A request frame: OP, TAG, ADDR, DATA and CRC. -/
def sbRequest (op tag addr data : Nat) : Nat :=
  let f := op % 16 * 2 ^ 36 + tag % 16 * 2 ^ 32 + addr % 256 * 2 ^ 24 + data % 65536 * 2 ^ 8
  f + sbCrc f

/-- Whether a response answers the request with `tag`: its TAG and CRC check. -/
def sbOk (tag resp : Nat) : Bool := bitsOf resp 32 4 == tag && sbCrc resp == bitsOf resp 0 8

end Sys2Proof.Machine
end

