-- ==== Sys2Proof/Machine/Commit.lean ====
section
/-!
DEFINITION. The commit model (R41–R47): releasing staged fields, the pending commit of a group, its
outcome at a commit point, and the choice among several causes of rejection.
-/

namespace Sys2Proof.Machine

/-- Addresses of the registers with RWS fields on a page, with their RWS masks. -/
def Page.stagedRegs (p : Page) : List (Nat × Nat) :=
  p.rows.flatMap fun r =>
    if r.rws = 0 then [] else (List.range r.count).map fun i => (p.base + r.off + r.stride * i, r.rws)

/-- One register's RWS fields take effect (R41). -/
def State.release (s : State) (e : Nat × Nat) : State :=
  s.setInfReg e.1 (BitVec.ofNat 32 (mixBits e.2 (s.reg e.1).toNat (s.infReg e.1).toNat))

/-- The released fields of some pages take effect (R44); `sel` picks page offsets. -/
def State.releasePages (s : State) (ps : List Page) (sel : Nat → Bool) : State :=
  ps.foldl (fun s p => (p.stagedRegs.filter fun e => sel (e.1 - p.base)).foldl State.release s) s

/-- The group's pages that the package declares. -/
def State.groupPages (s : State) (g : Group) : List Page := g.pages.filter (·.declared s.pkg)

def State.commitPending (s : State) (g : Group) : Bool := s.flag g.home COMMIT_PENDING
def State.commitRec (s : State) (g : Group) : CommitRec :=
  ((s.commits.find? fun e => e.1 == g.home.base).map (·.2)).getD {}
def State.setCommitRec (s : State) (g : Group) (r : CommitRec) : State :=
  { s with commits := s.commits.filter (·.1 != g.home.base) ++ [(g.home.base, r)] }
def State.dropCommitRec (s : State) (g : Group) : State :=
  { s with commits := s.commits.filter (·.1 != g.home.base) }

/-- A GO is accepted (R44): PENDING, with what the group keeps of it. -/
def State.commitOpen (s : State) (g : Group) (r : CommitRec) : State :=
  (s.setCommitRec g r).put g.home COMMIT_PENDING 1

/-- The commit is over (R42, R45, R46): PENDING clears, and COMMIT_DONE, LATE and REJECT latch on every page
of the group. `blame` is the page that a rejection is recorded on. -/
def State.commitClose (s : State) (g : Group) (late reject : Bool) (blame : Page := g.home) : State :=
  let s := (s.dropCommitRec g).put g.home COMMIT_PENDING 0
  let s := if late then s.mark g.home COMMIT_LATE else s
  let s := if reject then s.mark g.home COMMIT_REJECT else s
  let s := (s.groupPages g).foldl (fun s p =>
    let s := s.raise p 30
    let s := if late then s.raise p 29 else s
    if reject then s.raise p 28 else s) s
  s.mbxCommit g.home.base late reject blame.base

/-- A failed check of a commit: class, detail, page of the block that defines the detail (R46). -/
abbrev CommitFail := Nat × Nat × Page

/-- The place of a class in the order of R11. -/
def classOrder (c : Nat) : Nat :=
  if c = ST_AUTH_FAIL then 0 else if c = ST_BUSY then 1 else if c = ST_BAD_OPCODE then 2
  else if c = ST_LEN_ERR then 3 else if c = ST_BAD_PARAM then 4 else 5

/-- The one cause reported (R11, R46): class first, then the lowest detail, then the order of the list. -/
def worstFail {α : Type} : List (Nat × Nat × α) → Option (Nat × Nat × α)
  | [] => none
  | f :: r =>
    match worstFail r with
    | none => some f
    | some b =>
      if classOrder b.1 < classOrder f.1 ∨ (classOrder b.1 = classOrder f.1 ∧ b.2.1 < f.2.1) then some b else some f

/-- A rejection (R46): `ERR_CODE` on one page, nothing applied. -/
def State.commitReject (s : State) (g : Group) (late : Bool) (f : CommitFail) : State :=
  (s.errHw f.2.2 f.1 f.2.1).commitClose g late true f.2.2

/-- A commit takes effect as a whole, or is rejected as a whole (R46). Answers whether it applied. -/
def State.commitWhole (s : State) (g : Group) (late : Bool) (fails : List CommitFail) : State × Bool :=
  match worstFail fails with
  | some f => (s.commitReject g late f, false)
  | none => ((s.releasePages (s.groupPages g) fun _ => true).commitClose g late false, true)

/-- Whether any RWS field of an in-force register would change. -/
def State.stagedDiffers (s : State) (a : Nat) : Bool := s.reg a != s.infReg a

end Sys2Proof.Machine
end

