-- ==== Sys2Proof/Machine/Engine.lean ====
section
/-!
DEFINITION. The mirror engines (spec/04): commit validation of the group "Mirror engine n" (R46, R101,
R105, R112, R136, R152), state transitions (R113–R116) with what the Lantern and the link do at each,
frame starts (R98–R104, R128–R131, R137, R138, R150), HOLD (R117, R118) and the engine commands (R114).
-/

namespace Sys2Proof.Machine

def State.modEng (s : State) (n : Fin 4) (f : Engine → Engine) : State :=
  { s with eng := s.eng.set n.val (f s.eng[n]) }

/-- Engine state codes (R113). Scanner engines use them too. -/
def E_OFF : Nat := 0
def E_TRAIN : Nat := 1
def E_READY : Nat := 2
def E_LIT : Nat := 3
def E_HOLD : Nat := 4
def E_SAFE : Nat := 5
def E_FAULT : Nat := 6

/-- ENG events (R120) and details (R121). -/
def ENG_EV_FRAME_START : Nat := 0
def ENG_EV_REPEAT : Nat := 1
def ENG_EV_UNDERRUN : Nat := 2
def ENG_EV_STATE_CHANGE : Nat := 3
def ENG_EV_HOLD_ENTER : Nat := 4
def ENG_EV_OVERLONG : Nat := 5
def ENG_EV_FLUX_CLAMP : Nat := 6
def ENG_EV_UNDERRUN_PERSIST : Nat := 7
def ENG_CMD_STATE : Nat := 0x16
def ENG_CMD_UNKNOWN : Nat := 0x17
def CAUSE_LINK_DEAD : Nat := 0x20
def CAUSE_LINK_LOST : Nat := 0x21
def CAUSE_HOLD_EXPIRED : Nat := 0x22
def CAUSE_UNDERRUN : Nat := 0x23
def CAUSE_WDOG_SAFE : Nat := 0x24
def CAUSE_INTERLOCK : Nat := 0x25
def CAUSE_XTAL : Nat := 0x26
def CAUSE_PARK : Nat := 0x27
def CAUSE_THERMAL : Nat := 0x28

def State.engState (s : State) (n : Fin 4) : Nat := s.get (.eng n) BLK_STATE
/-- LIT or HOLD: the engine shows frames. -/
def State.engFrames (s : State) (n : Fin 4) : Bool := s.engState n == E_LIT || s.engState n == E_HOLD

/-- The next TCLK tick at or after an instant. -/
def tickUp (u : Nat) : Nat := ceilDiv u tickU * tickU
/-- The present instant lies in the tick of a due instant. -/
def State.onTick (s : State) (due : Nat) : Bool := s.now / tickU == due / tickU

/-- A window value in ns rounded down to 4 ns, in 62.5 ps (R97). -/
def winU (ns : Nat) : Nat := ns / 4 * tickU

/-! ### Commit validation -/

/-- ENG causes (R121) at the staged values, with P_nom of the program in force (R97); `sync` says that a sync set would differ (R101). -/
def State.engChecks (s : State) (n : Fin 4) (sync : Bool) : List CommitFail :=
  let p := Page.eng n
  let fmin := s.get p ENG_FRAME_MIN
  let fmax := s.get p ENG_FRAME_MAX
  let pnom := s.get (.grd n) (if s.engFrames n ∧ s.grd[n].sel = 1 then GRD_PRG1_PNOM else GRD_PRG0_PNOM)
  let w := s.get p ENG_GEOM_WIDTH
  let h := s.get p ENG_GEOM_HEIGHT
  let aw := s.get (.sxl n) SXL_ARRAY_GEOM_WIDTH
  let ah := s.get (.sxl n) SXL_ARRAY_GEOM_HEIGHT
  let wid := s.get p ENG_FSYNC_WIDTH
  let lead := s.get p ENG_FENCE_LEAD
  let f (d : Nat) (b : Bool) : List CommitFail := if b then [(ST_BAD_PARAM, d, p)] else []
  f 0x10 (decide (fmin < 2083334) || decide (fmax < fmin) || decide (5555556 < fmax) || decide (pnom < fmin) ||
    decide (fmax < pnom)) ++
  f 0x11 (w == 0 || h == 0 || decide (2560 < w) || decide (1600 < h) || (aw != 0 && decide (aw < w)) ||
    (ah != 0 && decide (ah < h))) ++
  f 0x12 (s.flag (.ltn (ltnOfEng n)) LTN_CFG_FLUX_HOLD && (decide (5 * pnom < 4 * fmax) || decide (4 * fmin < 3 * pnom))) ++
  f 0x13 (decide (2 * fmin < (if s.flag p ENG_FSYNC_REF then pnom else 0) + 2 * (s.get p ENG_FSYNC_OFS + 1000 * wid))) ++
  f 0x14 sync ++
  f 0x15 (decide (1 < s.get p ENG_CFG_BG_PATTERN) || decide (lead < 20) || decide (1000 < lead) || wid == 0)

/-- GRD causes (R136) at the staged values, with the program and plane of each. `lg` is lanes × Gbit/s in
force after the commit, none where the link has no lane set. -/
def State.grdChecks (s : State) (n : Fin 4) (lg : Option Nat) : List ProgFail :=
  let rd := s.grdStaged n
  let off := s.engState n == E_OFF
  let p0 := progOf rd 0
  let p1 := progOf rd 1
  let blocks := rd GRD_CFG_BLOCKS_M1 + 1
  let h := s.get (.eng n) ENG_GEOM_HEIGHT
  let seen := s.get (.sxl n) SXL_ARRAY_GEOM != 0
  let cap := s.get (.sxl n) SXL_ARRAY_CAP_CAP
  let v : LoadEnv := { w := s.get (.eng n) ENG_GEOM_WIDTH, h := h, blocks := blocks
                       slots := if seen then slotsOf (bitsOf cap 8 3) else 3
                       lead := usU (min (s.get (.eng n) ENG_FENCE_LEAD) 50)
                       margin := nsU (rd GRD_LOAD_MARGIN), guard := nsU (rd GRD_GUARD) }
  let run := s.runProg n
  let old (es : List Entry) : Option (Nat × List Nat) :=
    if !s.engFrames n ∨ (s.grd[n].sel ≠ 2 ∧ run.es = es) then none
    else some (if s.grd[n].sel = 2 then safe8Holds (safe8Unit (s.grdInf n) run.es) run.pnom
      else (0, demandingHolds v.guard run.es))
  let one (d : Nat) (b : Bool) : List ProgFail := if b then [(ST_BAD_PARAM, d, 0, 0)] else []
  let load (x : Nat) (o : Option Nat) : List ProgFail :=
    match o with | some i => [(ST_BAD_PARAM, 0x18, x, i)] | none => []
  progChecks rd 0 p0 off ++ progChecks rd 1 p1 true ++
  (if p0.es = [] then [] else match lg with | some l => load 0 (progLoadFail v l (old p0.es) p0.es) | none => []) ++
  (if p1.es = [] then [] else load 1 (progLoadFail v 64 (old p1.es) p1.es)) ++
  one 0x19 (decide (h < blocks) || (seen && decide (bitsOf cap 0 6 + 1 < blocks))) ++
  one 0x1A (seen && decide (bitsOf cap 8 3 < 2)) ++
  one 0x1B (decide (rd GRD_GUARD < 100) || decide (1000 < rd GRD_GUARD) || decide (rd GRD_LOAD_MARGIN < 50) ||
    decide (1000 < rd GRD_LOAD_MARGIN) || decide (0x40000 < rd GRD_GAIN) || decide (1 < rd GRD_CFG_DITHER) ||
    (List.range 3).any fun k => decide (0x8000 < rd (GRD_LVL_RATIO1 k)))

/-- Field ranges of a Lantern at the staged values (R164, R166). -/
def State.ltnRangeFail (s : State) (x : Fin 6) : Bool :=
  let p := Page.ltn x
  let mx := s.get p LTN_LOOP_MAXSTEP
  let ho := s.get p LTN_LSEL_TIME_HOLD
  let su := s.get p LTN_LSEL_TIME_SETUP
  mx == 0 || decide (100 < mx) || s.get p LTN_LOOP_KI == 0 || decide (s.get p LTN_MEAS_MIN_WIN < 200) ||
    decide (ho < 50) || decide (500 < ho) || decide (su < 100) || decide (1000 < su)

/-- LTN causes (R152, R166) of a mirror engine's Lantern at the staged values. -/
def State.ltnChecks (s : State) (n : Fin 4) : List CommitFail :=
  let x := ltnOfEng n
  let p := Page.ltn x
  let rd := s.grdStaged n
  let progs := [progOf rd 0, progOf rd 1].filter fun q => q.es != []
  let fmax := nsU (s.get (.eng n) ENG_FRAME_MAX)
  let code (j : Nat) := s.get p (LTN_LVL_CODE j)
  let used (q : Prog) (j : Nat) : Bool := j == 0 || q.usesLevel j
  let f (d : Nat) (b : Bool) : List CommitFail := if b then [(ST_BAD_PARAM, d, p)] else []
  let lim := nsU (s.get p LTN_WIN_MAX - 100000)
  let long (q : Prog) : Bool :=
    (match longestWindow (rd GRD_CFG_LEVEL_COMP != 0) q.es with
      | none => true
      | some w => decide (lim < w)) || decide (lim < 255 * safe8Unit rd q.es)
  f 0x10 (s.ltnRangeFail x) ++
  f 0x11 (s.flag p LTN_CFG_FLUX_HOLD && progs.any fun q => (List.range 4).any fun j =>
    used q j && decide (4095 * q.pnom < code j * fmax)) ++
  f 0x12 (progs.any long) ++
  f 0x13 (progs.any fun q => (List.range 4).any fun j => used q j && code j == 0)

/-- SXL causes (R196) at the staged values. -/
def State.sxlChecks (s : State) (n : Fin 4) : List CommitFail :=
  let p := Page.sxl n
  let present := s.get p SXL_ARRAY_CAP_GROUPS
  let en := s.get p SXL_CFG_GROUP_EN
  let mn := s.get p SXL_EYE_MIN
  let dg := s.get p SXL_EYE_DEGRADE
  if s.get p SXL_CFG_RATE_MAX = 3 ∨ groupCount (if present = 0 then en else en &&& present) < 2 ∨ mn < 100 ∨
      800 < mn ∨ dg < 50 ∨ mn < dg ∨ s.get p SXL_CRC_LIMIT_CRC = 0 then [(ST_BAD_PARAM, 0x10, p)] else []

/-- lanes × Gbit/s that a commit leaves in force (R136): none while OFF, TRAIN or SAFE, or with no link. -/
def State.lanesAfter (s : State) (n : Fin 4) : Option Nat :=
  let st := s.engState n
  if st = E_OFF ∨ st = E_TRAIN ∨ st = E_SAFE ∨ !s.linkUp n then none
  else
    let s' := s.release ((Page.sxl n).base + SXL_CFG.off, 0x33F)
    match s'.linkPending n with
    | some w => some (laneRate w.1 w.2)
    | none => some (s.linkLanes n)

/-- All failed checks of a commit of the group "Mirror engine n" (R46). -/
def State.engFails (s : State) (n : Fin 4) (sync : Bool) : List CommitFail :=
  s.engChecks n sync ++ ((s.grdChecks n (s.lanesAfter n)).map fun f => (f.1, f.2.1, Page.grd n)) ++
  s.ltnChecks n ++ s.sxlChecks n

/-- `GRD_VAL_INFO` of the first GRD cause (R136). -/
def State.grdValInfo (s : State) (n : Fin 4) : State :=
  let fs := s.grdChecks n (s.lanesAfter n)
  match worstFail (fs.map fun f => (f.1, f.2.1, Page.grd n)) with
  | none => s
  | some w =>
    match fs.find? fun f => f.1 == w.1 && f.2.1 == w.2.1 with
    | some f => s.put (.grd n) GRD_VAL_INFO (f.2.2.1 * 0x10000 + f.2.2.2 % 32 * 0x100 + f.2.1)
    | none => s

/-- The changes of a commit that are incompatible (R117), beside the lane set. -/
def State.engIncompatible (s : State) (n : Fin 4) : Bool :=
  s.stagedDiffers ((Page.eng n).base + ENG_GEOM.off) ||
    s.get (.grd n) GRD_CFG_BLOCKS_M1 != s.inf (.grd n) GRD_CFG_BLOCKS_M1

/-- The commit of the group at a commit point or at once (R43, R46, R106): the late counter, the outcome,
`GRD_VAL_INFO`, and the array's FILL_ON_ERR (R179). Answers whether it applied and was incompatible. -/
def State.engCommit (s : State) (n : Fin 4) (sync : Bool) : State × Bool :=
  let g := Group.eng n
  let late := (s.commitRec g).late
  let s := if late then s.bump (.eng n) ENG_LATE_CNT else s
  let fails := s.engFails n sync
  let inc := s.engIncompatible n
  let s := if fails = [] then s else s.grdValInfo n
  let (s, ok) := s.commitWhole g late fails
  let s := if ok then { s with planAt := s.now } else s
  let s := if ok ∧ s.linkUp n then
      s.modSxl n fun l => { l with fillOnErr := s.inf (.eng n) ENG_CFG_BG_PATTERN } else s
  (s, ok && inc)

/-- A pending commit of a group that stops running applies at once, LATE if its GO was late (R43, R116). -/
def State.engCommitStopped (s : State) (n : Fin 4) : State :=
  if s.commitPending (.eng n) then (s.engCommit n false).1 else s

/-! ### What the Lantern does when its engine changes state (R158, R159) -/

/-- The setpoint load for ARMED starts where the engine's state and `BLK_CTRL.EN` ask for it (R158, R503). -/
def State.ltnWantArm (s : State) (x : Fin 6) (engState : Nat) : State :=
  if s.ltnState x = LTN_OFF ∧ !s.ltn[x].loading ∧ s.flag (.ltn x) BLK_CTRL_EN ∧ s.domOn PD_LTN ∧
      (engState = E_TRAIN ∨ engState = E_READY ∨ engState = E_LIT ∨ engState = E_HOLD ∨ engState = E_SAFE) then s.ltnLoad x
  else s

/-- The Lantern follows its engine from `old` to `new` (R158). -/
def State.ltnFollow (s : State) (x : Fin 6) (old new : Nat) : State :=
  let st := s.ltnState x
  let s := if old = E_SAFE then
      let s := s.modLtn x fun l => { l with safeAt := none }
      if st = LTN_FALLBACK_ST ∧ new ≠ E_OFF then (s.ltnDark x).ltnTo x LTN_ARMED else s
    else s
  if new = E_OFF then
    if st = LTN_TRIPPED then s else (s.ltnOffPins x).ltnTo x LTN_OFF
  else if new = E_SAFE then
    let s := s.modLtn x fun l => { l with safeAt := some s.now, darkRaised := false, final := false }
    if st = LTN_RUN then (s.ltnDark x).ltnTo x LTN_ARMED else s
  else if new = E_TRAIN then s.ltnWantArm x new
  else s

/-! ### Transitions (R114, R115) -/

/-- Causes of class HW_FAULT, which write `ERR_CODE` (R115, R121). -/
def hwCause (c : Nat) : Bool := decide (0x20 ≤ c) && c != CAUSE_PARK

/-- An engine leaves frames: pins, flags and the Grinder (R112, R116). -/
def State.engStopFrames (s : State) (n : Fin 4) : State :=
  let s := s.modEng n fun e => { e with fin := none, stop := false, fsync := false, fsyncDone := true, ur := false, urRun := 0, urCnt := 0 }
  let s := (s.put (.eng n) ENG_STATUS_BLANKING 0).put (.eng n) ENG_STATUS_HOLD_PHASE 0
  let s := (s.put (.eng n) ENG_STATUS_OVERLONG 0).put (.eng n) ENG_STATUS_FLUX_CLAMP 0
  s.grdStop n

/-- An engine enters a state with a cause (R113–R116, R185): `ENG_STATE_INFO`, STATE_CHANGE, `ERR_CODE` for
a cause of class HW_FAULT, the Lantern, the PARK command, and the pending commit when frames end. -/
def State.engTo (s : State) (n : Fin 4) (new cause : Nat) : State :=
  let p := Page.eng n
  let old := s.engState n
  let frames := s.engFrames n
  let s := { (s.put p ENG_STATE_INFO (cause * 256 + old)).put p BLK_STATE new with planAt := s.now }
  let s := s.raise p ENG_EV_STATE_CHANGE
  let s := if hwCause cause then s.errHw p ST_HW_FAULT cause else s
  let stays := new = E_LIT ∨ new = E_HOLD
  let s := if stays then s else s.engStopFrames n
  let s := if old = E_TRAIN then s.put p ENG_STATUS_PBA_WAIT 0 else s
  let s := if frames ∧ !decide stays then (s.calLeave (ltnOfEng n)).ltnForget (ltnOfEng n) else s
  let s := if frames ∧ !decide stays then s.engCommitStopped n else s
  let s := s.ltnFollow (ltnOfEng n) old new
  let s := if new = E_SAFE then s.linkPark n (s.get p ENG_SAFE_PARK)
    else if new = E_FAULT ∨ (old = E_SAFE ∧ new = E_READY) then s.linkPark n 0 else s
  let s := if new = E_SAFE ∧ cause = CAUSE_LINK_DEAD then
      s.modEng n fun e => { e with retryAt := some (s.now + msU (s.get (.sxl n) SXL_RETRY_RETRAIN_RETRY_MS)) }
    else s.modEng n fun e => { e with retryAt := none }
  s.noteState n.val old new cause

/-- OFF: link and domains off; the request is withdrawn or the grant released (R114, R376, R380). -/
def State.engOff (s : State) (n : Fin 4) : State :=
  let s := s.engTo n E_OFF 0
  let s := (s.linkStop n).put (.eng n) ENG_STATUS_PBA_WAIT 0
  let s := s.modEng n fun e => { e with start := false, ready := none }
  let s := s.put (.comp 0) ⟨COMP_STATUS.off, 8 + n.val, 1⟩ 0
  s.pbaRelease (ID_ENG n.val) NO_PORT

/-- Retraining through TRAIN (R114, R187): where the START from OFF still waits for its grant it goes on waiting. -/
def State.engRetrain (s : State) (n : Fin 4) : State :=
  let s := s.engTo n E_TRAIN 0
  if s.pba.grants.contains (ID_ENG n.val, NO_PORT) && s.domOn (PD_SXL n.val) then s.trainStart n
  else s.put (.eng n) ENG_STATUS_PBA_WAIT 1

/-- A granted engine whose domains are on proceeds with TRAIN (R379, R114). -/
def State.engProceed (s : State) (n : Fin 4) : State :=
  if s.engState n = E_TRAIN then
    ((s.put (.eng n) ENG_STATUS_PBA_WAIT 0).trainStart n).ltnWantArm (ltnOfEng n) E_TRAIN
  else s

/-- Link up: TRAIN, or SAFE after LINK_DEAD or LINK_LOST, goes READY (R114, R192). -/
def State.engLinkUp (s : State) (n : Fin 4) : State :=
  let st := s.engState n
  let cause := s.get (.eng n) ENG_STATE_INFO_CAUSE
  let s := s.modSxl n fun l => { l with
    parkDefault := s.get (.eng n) ENG_SAFE_PARK, fillOnErr := s.inf (.eng n) ENG_CFG_BG_PATTERN }
  if st = E_TRAIN ∨ (st = E_SAFE ∧ (cause = CAUSE_LINK_DEAD ∨ cause = CAUSE_LINK_LOST)) then s.engTo n E_READY 0 else s

/-- Training failed at every step-down: LINK_DEAD (R114, R188). -/
def State.engLinkDead (s : State) (n : Fin 4) : State :=
  let st := s.engState n
  if st = E_TRAIN ∨ (st = E_SAFE ∧ s.get (.eng n) ENG_STATE_INFO_CAUSE ≠ CAUSE_WDOG_SAFE) then
    s.engTo n E_SAFE CAUSE_LINK_DEAD
  else s

/-- A link loss (R192): the Lantern closes its window and starts its lit check, the engine enters SAFE, or TRAIN from READY when
no rank is left in the ceiling (R191), and the link retrains; a loss in SAFE retrains at once too (log entry 40). -/
def State.engLinkLoss (s : State) (n : Fin 4) (detail groups : Nat) : State :=
  let x := ltnOfEng n
  let st := s.engState n
  let s := s.linkDrop n detail groups
  let s := (s.ltnDark x).modLtn x fun l => { l with lossAt := some s.now, cut := true }
  if st = E_READY ∧ detail = SXL_NO_CONFIG then s.engRetrain n
  else if st = E_READY ∨ st = E_LIT ∨ st = E_HOLD then (s.engTo n E_SAFE CAUSE_LINK_LOST).trainStart n
  else if st = E_SAFE ∧ s.get (.eng n) ENG_STATE_INFO_CAUSE ≠ CAUSE_WDOG_SAFE then s.trainStart n
  else s

/-- The interlock trips (R160, R161): the latch sets, and the engine enters FAULT except for TEST. -/
def State.engTrip (s : State) (n : Fin 4) (cause : Nat) : State :=
  let was := s.tripped (ltnOfEng n)
  let s := s.ltnLatch (ltnOfEng n) cause
  let st := s.engState n
  if was ∨ cause = 6 ∨ st = E_OFF ∨ st = E_FAULT then s else s.engTo n E_FAULT CAUSE_INTERLOCK

/-! ### Frame timing (R97–R100, R106) -/

/-- The sync set of an engine: LIT engines with SYNC = 1, or the engine alone (R100). -/
def State.inSync (s : State) (n : Fin 4) : Bool := s.engState n == E_LIT && s.infFlag (.eng n) ENG_CFG_SYNC
def State.syncSet (s : State) (n : Fin 4) : List (Fin 4) :=
  if s.inSync n then (List.finRange 4).filter fun m => s.inSync m else [n]

/-- E and M of an engine alone (R98). -/
def State.engE (s : State) (n : Fin 4) : Nat :=
  tickUp (s.eng[n].sk + max (winU (s.inf (.eng n) ENG_FRAME_MIN)) s.eng[n].lk)
def State.engM (s : State) (n : Fin 4) : Nat :=
  tickUp (s.eng[n].sk + max (winU (s.inf (.eng n) ENG_FRAME_MAX)) s.eng[n].lk)

/-- E and M of the set of an engine (R100). -/
def State.setE (s : State) (n : Fin 4) : Nat := (s.syncSet n).foldl (fun m k => max m (s.engE k)) 0
def State.setM (s : State) (n : Fin 4) : Nat := (s.syncSet n).foldl (fun m k => max m (s.engM k)) 0

/-- The swap guard of 50 µs (R98). -/
def swapGuard : Nat := usU 50

/-- R of a set: every member has an image of one composition ready (R97, R100). -/
def State.setReady (s : State) (ms : List (Fin 4)) : Option Nat :=
  match ms with
  | [] => none
  | k :: _ =>
    if ms.all fun m => s.eng[m].ready.isSome && s.eng[m].readyComp == s.eng[k].readyComp then
      some (ms.foldl (fun r m => max r (s.eng[m].ready.getD 0)) 0)
    else none

/-- A start whose computed instant had passed when the engine's circumstances last changed (it could not light, or it waited
for a member that has left its set) takes place `wait` after that change (log entry 30). -/
def State.notPast (s : State) (t wait : Nat) : Nat := if t + tickU ≤ s.planAt then tickUp (s.planAt + wait) else t

/-- The start of the next frame of a LIT engine, and whether it shows a new image (R98, R100). -/
def State.engPlan (s : State) (n : Fin 4) : Nat × Bool :=
  let m := s.setM n
  match s.setReady (s.syncSet n) with
  | some r =>
    if r + swapGuard ≤ m then (s.notPast (tickUp (max (s.setE n) (r + swapGuard))) 0, true) else (s.notPast m 0, false)
  | none => (s.notPast m 0, false)

/-- Two engines whose ready images, where both have one, come from one composition. -/
def State.oneComp (s : State) (n m : Fin 4) : Bool :=
  s.eng[n].ready.isNone || s.eng[m].ready.isNone || s.eng[n].readyComp == s.eng[m].readyComp

/-- READY engines that light together with this one: SYNC members of one composition (R472). -/
def State.firstSet (s : State) (n : Fin 4) : List (Fin 4) :=
  if s.infFlag (.eng n) ENG_CFG_SYNC then
    (List.finRange 4).filter fun m => s.engState m == E_READY && s.infFlag (.eng m) ENG_CFG_SYNC && s.oneComp n m &&
      s.infFlag (compOfEng m) CE_CFG_EN && (s.eng[m].start || s.infFlag (.eng m) ENG_CFG_AUTO_RELIGHT)
  else [n]

/-- The tick on which an engine joins a running sync set: the set's frame start (R100, R118). -/
def State.joinTick (s : State) (m : Fin 4) : Nat :=
  if s.onTick s.eng[m].sk then s.eng[m].sk else (s.engPlan m).1

/-- A member of the running sync set that an engine would join. -/
def State.joinable (s : State) (n : Fin 4) : Option (Fin 4) :=
  if s.infFlag (.eng n) ENG_CFG_SYNC then (List.finRange 4).find? fun m => s.inSync m && m != n else none

/-- The first LIT frame of a READY engine (R114, R472): 50 µs after the image is ready, or after a START
that came later, or after the engine became READY with its image kept (R108, log entry 30); none while it may not light.
An engine that joins a running set starts with it (R100). -/
def State.firstPlan (s : State) (n : Fin 4) : Option Nat :=
  let e := s.eng[n]
  if !(e.start || s.infFlag (.eng n) ENG_CFG_AUTO_RELIGHT) then none
  else match s.joinable n, s.setReady (s.firstSet n) with
    | some m, _ =>
      match e.ready with
      | some r => if r + swapGuard ≤ s.joinTick m then some (s.joinTick m) else none
      | none => none
    | none, some r => some (s.notPast (tickUp ((s.firstSet n).foldl (fun t m => max t s.eng[m].mark) r + swapGuard)) swapGuard)
    | none, none => none

/-- The end of H2, or for a member of a sync set the first set frame start at or after it (R118). -/
def State.holdEndPlan (s : State) (n : Fin 4) : Nat :=
  match s.joinable n with
  | some m => if s.eng[n].holdEnd ≤ s.joinTick m then s.joinTick m else s.eng[n].holdEnd + msU 1000
  | none => s.notPast s.eng[n].holdEnd 0

/-- The fence: the latest GO that applies at the next commit point (R106, R116). -/
def State.engFence (s : State) (n : Fin 4) : Nat :=
  (if s.engState n = E_HOLD then s.eng[n].holdEnd else s.setE n) - usU (s.inf (.eng n) ENG_FENCE_LEAD)

/-- r of a frame that starts at `t` after S_k, Q2.14, and whether its limit acts (R104). -/
def fluxRatio (d pnom : Nat) : Nat × Bool :=
  if 4 * d < 3 * pnom then (0x3000, true)
  else if 5 * pnom < 4 * d then (0x5000, true)
  else (roundDiv (d * 0x4000) pnom, false)

/-! ### The Grinder's frame -/

/-- The phase of a frame: an ordinary LIT frame, H1, H2, or a first LIT frame (R102, R118). -/
inductive Phase | lit | h1 | h2 | first
  deriving DecidableEq, Repr

/-- The change of a HOLD alters the block count or the rows of a block (R130, R131). -/
def State.holdRows (s : State) (n : Fin 4) : Bool :=
  decide (s.blockCount n ≠ s.eng[n].holdBlocks) || decide (bitsOf s.eng[n].holdGeom 16 11 ≠ s.inf (.eng n) ENG_GEOM_HEIGHT)

/-- Whether the members of a set would differ in window or P_nom after their commits (R101). -/
def State.syncDiffers (s : State) (ms : List (Fin 4)) : Bool :=
  let v (m : Fin 4) : Nat × Nat × Nat :=
    let c := s.commitPending (.eng m) && !(s.commitRec (.eng m)).skip && (s.engFails m false).isEmpty
    let rd (p : Page) (f : RF) : Nat := if c then s.get p f else s.inf p f
    (rd (.eng m) ENG_FRAME_MIN, rd (.eng m) ENG_FRAME_MAX,
      rd (.grd m) (if s.grd[m].sel = 1 then GRD_PRG1_PNOM else GRD_PRG0_PNOM))
  match ms with
  | [] => false
  | m :: r => r.any fun k => v k != v m

/-- The members of a LIT engine's set that start its next frame: one whose STOP waits ends with its frame (R100, R114). -/
def State.startSet (s : State) (n : Fin 4) : List (Fin 4) := (s.syncSet n).filter fun m => !s.eng[m].stop

/-- Commit, mode change and the Grinder's figures of a frame that starts at `start` (R102, R118, R128, R129, R138, R180,
R415): the state with them in force, the phase as it turns out, and the planes of the frame. The SAFE8 of a HOLD is that
of the program before the commit (R135). -/
def State.framePrep (s : State) (n : Fin 4) (ph : Phase) (fromReady sync : Bool) (start : Nat) :
    State × Phase × List Plane :=
  let s := s.calDeliver n.val false
  let oldBlocks := s.blockCount n
  let oldGeom := (s.infReg ((Page.eng n).base + ENG_GEOM.off)).toNat
  let pnomOld := s.pnomOf n s.grd[n].sel
  let f8 := safe8Planes (safe8Unit (s.grdInf n) (s.runProg n).es) pnomOld
  let point := ph = .lit ∨ ph = .first
  let rec' := s.commitRec (.eng n)
  let (s, inc) :=
    if point ∧ s.commitPending (.eng n) then
      if rec'.skip then (s.setCommitRec (.eng n) { rec' with skip := false }, false) else s.engCommit n sync
    else (s, false)
  let lanes := s.linkUp n && !s.ceilingLost n && (s.linkDue n start).isSome
  let ph := if point ∧ !fromReady ∧ (inc || lanes) then Phase.h1 else ph
  let s := s.epsRamp n fromReady
  match ph with
  | .h1 =>
    let s := (s.grdRamp n oldBlocks).modEng n fun e => { e with
      holdPnom := pnomOld, holdEnd := tickUp (tickUp (start + pnomOld) + pnomOld), holdBlocks := oldBlocks, holdGeom := oldGeom
      hold8 := f8 }
    (match s.linkDue n start with | some w => s.linkInterim n w start | none => s, ph, f8)
  | .h2 =>
    let rows := s.holdRows n
    let s := s.linkFinal n
    let s := if rows then s.grdRestart n else s
    let s := s.useProg n (s.selectProg n (s.linkLanes n))
    (s.grdRamp n (s.blockCount n), ph, s.eng[n].hold8)
  | _ =>
    let s := if fromReady then (s.useProg n (s.selectProg n (s.linkLanes n))).grdRestart n else s
    let s := (s.grdRamp n (s.blockCount n)).grdPulses n
    (s, ph, s.framePlanes n s.grd[n].sel 0 start (s.blockCount n))

/-- Whether the back buffer holds an image of the geometry in force, which a frame after HOLD shows (R118). -/
def State.holdImage (s : State) (n : Fin 4) : Bool :=
  s.eng[n].ready.isSome && decide (s.eng[n].readyGeom = (s.infReg ((Page.eng n).base + ENG_GEOM.off)).toNat)

/-- The flux ratio of a frame that starts `d` after the frame before it, with its configuration in force: 1 in HOLD and
in a first LIT frame (R102, R104). -/
def State.frameRatio (s : State) (n : Fin 4) (ph : Phase) (d : Nat) : Nat × Bool :=
  if ph = .lit then fluxRatio d (s.pnomOf n s.grd[n].sel) else (0x4000, false)

/-- The next start of an engine with its phase, whether it shows a new image, and the instant from which it
is final; none while none is known. -/
def State.nextStart (s : State) (n : Fin 4) : Option (Nat × Phase × Bool × Nat) :=
  let st := s.engState n
  let e := s.eng[n]
  if e.stop then none
  else if st = E_LIT then
    let (due, new) := s.engPlan n
    some (due, .lit, new, if new then 0 else due - swapGuard)
  else if st = E_HOLD then
    if s.flag (.eng n) ENG_STATUS_HOLD_PHASE then some (s.holdEndPlan n, .first, s.holdImage n, 0)
    else some (tickUp (e.sk + e.holdPnom), .h2, s.holdImage n, 0)
  else if st = E_READY then (s.firstPlan n).map fun d => (d, .first, true, 0)
  else none

/-- The engine's next frame as far as it is known now: the state with its commit, program and figures in force, its phase,
its planes, and its flux ratio. -/
def State.nextPrep (s : State) (n : Fin 4) : Option (State × Phase × List Plane × Nat) :=
  (s.nextStart n).map fun p =>
    let sync := decide (p.2.1 = .lit) && s.syncDiffers (s.startSet n)
    let f := s.framePrep n p.2.1 (s.engState n == E_READY) sync p.1
    (f.1, f.2.1, f.2.2, (f.1.frameRatio n f.2.1 (p.1 - s.eng[n].sk)).1)

/-- What the loads, resets and windows of the next frame are made from (R126, R131, R178). -/
def State.grdNext (s : State) (n : Fin 4) (v : State) (ph : Phase) (pl : List Plane) : State :=
  let cnt := if ph = .h1 then v.eng[n].holdBlocks else v.blockCount n
  s.modGrd n fun g => { g with
    next := pl, nextE := (v.blocks n cnt).map (·.2), nextEps := v.sxl[n].eps, nextRate := v.get (.sxl n) SXL_STATUS_RATE_IN_USE }

/-- A GO before the fence, or a new target, may change the next frame (R106, R128): where its start is final, its planes and
the Lantern's codes are made anew. -/
def State.engReplan (s : State) (n : Fin 4) : State :=
  match s.eng[n].fin, s.nextPrep n with
  | some _, some (v, ph, pl, r) =>
    let s := s.grdNext n v ph pl
    if s.ltn[ltnOfEng n].final then s.ltnFinal (ltnOfEng n) v r else s
  | _, _ => s

/-- The planes a frame in LIT or HOLD gets, its base count, and its status (R131, R135, R137). -/
def State.grdFrame (s : State) (n : Fin 4) (ph : Phase) (pl : List Plane) : State :=
  let g := s.grd[n]
  let slack := match g.slack with | some k => toNs k | none => s.get (.grd n) GRD_MIN_SLACK
  let base := g.base + g.planes.length
  let s := s.put (.grd n) GRD_MIN_SLACK slack
  let s := s.modGrd n fun g => { g with
    planes := pl, next := [], base := base, begun := 0, slack := none
    resets := g.resets.filter fun r => decide (base ≤ r.1 + 3)
    loaded := g.loaded.filter fun l => decide (base ≤ l.1 + 3), missed := g.missed.filter fun l => decide (base ≤ l.1) }
  let hold := ph = .h1 ∨ ph = .h2
  let safe8 := decide hold || g.sel == 2
  let s := (s.put (.grd n) GRD_STATUS_SAFE8 (ofBool safe8)).put (.grd n) GRD_STATUS_COUNT pl.length
  let s := s.put (.grd n) GRD_STATUS_SLOTS (slotsOf (s.get (.sxl n) ⟨SXL_ARRAY_CAP.off, 8, 3⟩))
  let s := s.put (.grd n) BLK_STATE (if safe8 then GRD_SAFE8_ST else GRD_RUN)
  if !decide hold ∧ s.pnomOf n s.grd[n].sel < lengthOf pl then
    (s.bump (.grd n) GRD_STRETCH_CNT).raise (.grd n) GRD_EV_STRETCH else s

/-! ### The Lantern's frame -/

/-- The last close of a level-0 window in a frame (R154). -/
def lastClose0 (ws : List (Nat × Nat × Nat)) : Nat := ws.foldl (fun m w => if w.2.2 = 0 then max m w.2.1 else m) 0

/-- Measured ratios start at their nominal values when the engine leaves READY (R153). -/
def State.ratioStart (s : State) (n : Fin 4) : State :=
  let x := ltnOfEng n
  let rd := s.grdInf n
  let s := s.modLtn x fun l => { l with
    ratio := Vector.ofFn fun j => ratioOf rd j.val * 65536, formed := #v[true, false, false, false], unmeas := #v[0, 0, 0, 0] }
  (List.range 3).foldl (fun s k => s.put (.ltn x) (LTN_MEAS_RATIO1 k) (ratioOf rd (k + 1))) s

/-- The Lantern's part of a frame start (R148, R150, R151, R158): the loop, the ramp, the frame mark, and
ARMED becomes RUN. -/
def State.ltnEngFrame (s : State) (n : Fin 4) (fromReady : Bool) : State :=
  let x := ltnOfEng n
  let st := s.ltnState x
  let s := if fromReady then s.ratioStart n else s
  let s := (s.ltnLoop x (s.levelUsed n)).ltnRamp x
  if st = LTN_ARMED ∨ st = LTN_RUN then
    let s := s.ltnFrameStart x
    if st = LTN_ARMED then (s.ltnTo x LTN_RUN).softRun (ID_ENG n.val) else s
  else s

/-! ### A frame start (R102, R118) -/

/-- The image a frame shows: swap, and the warp slip of an image shown later than predicted (R22, R76, R108). -/
def State.engSwap (s : State) (n : Fin 4) : State :=
  let e := s.eng[n]
  let late := decide (e.readyPred < s.now / tickU * tickU)
  let s := s.put (.eng n) ENG_STATUS_FRONT (1 - s.get (.eng n) ENG_STATUS_FRONT)
  let s := s.modEng n fun e => { e with ready := none, frontGeom := e.readyGeom }
  let s := s.put (.comp 0) ⟨COMP_STATUS.off, 8 + n.val, 1⟩ 0
  if late then (s.bump (compOfEng n) CE_WARP_SLIP_CNT).raise (.comp 0) 9 else s

/-- One engine starts a frame at the present tick (R102): the flux ratio takes P_nom as the commit of this start leaves it.
`new`: the frame shows the image in the back buffer; `sync`: the set of R101 would differ. -/
def State.engFrame (s : State) (n : Fin 4) (ph : Phase) (new sync : Bool) : State :=
  let p := Page.eng n
  let st0 := s.engState n
  let fromReady := st0 == E_READY
  let e0 := s.eng[n]
  let start := s.now / tickU * tickU
  let fmaxOld := winU (s.inf p ENG_FRAME_MAX)
  let (s, ph', pl) := s.framePrep n ph fromReady sync start
  if s.ceilingLost n ∧ (ph = .lit ∨ ph = .first) then s.engLinkLoss n SXL_NO_CONFIG s.sxl[n].locked
  else
    let geom := (s.infReg (p.base + ENG_GEOM.off)).toNat
    if ph' = .h2 ∧ !new ∧ e0.frontGeom ≠ geom then s.engTo n E_SAFE CAUSE_HOLD_EXPIRED
    else
      let s := match ph' with
        | .h1 =>
          let s := if st0 = E_HOLD then s else s.engTo n E_HOLD 0
          (s.bump p ENG_HOLD_CNT).raise p ENG_EV_HOLD_ENTER
        | .h2 => s
        | _ =>
          if st0 = E_LIT then s
          else
            let s := s.engTo n E_LIT 0
            if fromReady then (s.modEng n fun e => { e with start := false }).linkRelease n else s
      let s := if new then s.engSwap n else s
      let (r, clamp) := s.frameRatio n ph' (start - e0.sk)
      let s := (s.put p ENG_FLUX_RATIO r).put p ENG_STATUS_FLUX_CLAMP (ofBool clamp)
      let s := if clamp then (s.bump p ENG_FLUX_CLAMP_CNT).raise p ENG_EV_FLUX_CLAMP else s
      let long := ph = .lit ∧ fmaxOld < e0.lk
      let s := s.put p ENG_STATUS_OVERLONG (ofBool (decide long))
      let s := if long then (s.bump p ENG_OVERLONG_CNT).raise p ENG_EV_OVERLONG else s
      let s := s.stamp p ENG_FSTART_NS
      let s := (s.bump p ENG_FRAME_CNT).raise p ENG_EV_FRAME_START
      let s := if new then s else (s.bump p ENG_REPEAT_CNT).raise p ENG_EV_REPEAT
      let s := if fromReady then s
        else (s.put p ENG_LAST_PERIOD (toNs (start - e0.sk))).put p ENG_LAST_BLANK (toNs (start - e0.sk - e0.lk))
      let s := s.grdFrame n ph' pl
      let s := s.modEng n fun e => { e with
        sk := start, lk := lengthOf pl, fin := none, fsync := false, fsyncDone := false
        urRun := if e.ur then e.urRun + 1 else 0, ur := false, urLast := e.urCnt, urCnt := 0 }
      let s := (s.put p ENG_PROG_LEN (toNs (lengthOf pl))).put p ENG_NOM_PERIOD (toNs (s.pnomOf n s.grd[n].sel))
      let s := (s.put p ENG_STATUS_REPEAT (ofBool (!new))).put p ENG_STATUS_BLANKING 0
      let s := s.put p ENG_STATUS_HOLD_PHASE (ofBool (decide (ph' = .h2)))
      let s := (s.ltnEngFrame n fromReady).calFrame (ltnOfEng n)
      s.noteFrame n.val

/-- The frame start of a LIT engine, with its whole sync set on the same tick (R100–R102). -/
def State.litStart (s : State) (n : Fin 4) (new : Bool) : State :=
  let ms := s.startSet n
  let bad := s.syncDiffers ms
  ms.foldl (fun s m => s.engFrame m .lit new bad) s

/-! ### Commands (R114, R136) -/

/-- The outcome of an engine command: its status code and detail. -/
abbrev CmdResult := Nat × Nat

/-- A refused engine command is recorded (R12, R114). -/
def State.engRefuse (s : State) (p : Page) (path off cls detail : Nat) : State × CmdResult :=
  (s.err p path off cls detail, (cls, detail))

/-- START (R114, R136). `path` and `off` say where it came from. -/
def State.engStart (s : State) (n : Fin 4) (path off : Nat) : State × CmdResult :=
  let st := s.engState n
  if s.inf (.grd n) GRD_PRG0_CTRL_COUNT = 0 then s.engRefuse (.grd n) path 0 ST_BAD_PARAM 0x10
  else if st = E_OFF then
    let s := s.modEng n fun e => { e with start := true, mark := s.now }
    let s := (s.engTo n E_TRAIN 0).put (.eng n) ENG_STATUS_PBA_WAIT 1
    (s.pbaRequest (ID_ENG n.val) NO_PORT, (ST_OK, 0))
  else if st = E_READY then (s.modEng n fun e => { e with start := true, mark := s.now }, (ST_OK, 0))
  else if st = E_SAFE then
    ((s.modEng n fun e => { e with start := true, mark := s.now }).engRetrain n, (ST_OK, 0))
  else s.engRefuse (.eng n) path off ST_STATE_REJECT ENG_CMD_STATE

/-- STOP (R114): at once, or after the current frame. -/
def State.engStop (s : State) (n : Fin 4) (path off : Nat) : State × CmdResult :=
  let st := s.engState n
  if st = E_TRAIN ∨ st = E_READY ∨ st = E_SAFE then ((s.mbxStartCut n.val).engOff n, (ST_OK, 0))
  else if st = E_LIT ∨ st = E_HOLD then
    ((s.mbxStartCut n.val).modEng n fun e => { e with stop := true, fin := none }, (ST_OK, 0))
  else s.engRefuse (.eng n) path off ST_STATE_REJECT ENG_CMD_STATE

/-- PARK (R114): light ends at once. -/
def State.engPark (s : State) (n : Fin 4) (path off : Nat) : State × CmdResult :=
  let st := s.engState n
  if st = E_READY ∨ st = E_LIT ∨ st = E_HOLD then ((s.mbxStartCut n.val).engTo n E_SAFE CAUSE_PARK, (ST_OK, 0))
  else s.engRefuse (.eng n) path off ST_STATE_REJECT ENG_CMD_STATE

/-- Whether FAULT_CLEAR may act: the interlock is cleared and the cause gone (R114). -/
def State.faultGone (s : State) (n : Fin 4) : Bool :=
  !s.tripped (ltnOfEng n) &&
    (s.get (.eng n) ENG_STATE_INFO_CAUSE != CAUSE_XTAL || s.flag .basecamp BC_STATUS_XTAL_OK)

/-- FAULT_CLEAR (R114). -/
def State.engFaultClear (s : State) (n : Fin 4) (path off : Nat) : State × CmdResult :=
  if s.engState n = E_FAULT ∧ s.faultGone n then (s.engOff n, (ST_OK, 0))
  else s.engRefuse (.eng n) path off ST_STATE_REJECT ENG_CMD_STATE

/-- A write of `ENG_CMD` (R119). -/
def State.engCmdWrite (s : State) (path : Path) (n : Fin 4) (v : Nat) : State :=
  let p := pathCode path
  match bitsOf v 0 4 with
  | 1 => (s.engStart n p ENG_CMD.off).1
  | 2 => (s.engStop n p ENG_CMD.off).1
  | 3 => (s.engPark n p ENG_CMD.off).1
  | 4 => (s.engFaultClear n p ENG_CMD.off).1
  | _ => s.err (.eng n) p ENG_CMD.off ST_BAD_OPCODE ENG_CMD_UNKNOWN

/-! ### Images and other events -/

/-- The compositor marks the back buffer ready (R84, R97). -/
def State.engImage (s : State) (n : Fin 4) (comp geom pred : Nat) : State :=
  let s := s.modEng n fun e => { e with
    ready := some s.now, readyGeom := geom, readyComp := comp, readyPred := pred }
  s.put (.comp 0) ⟨COMP_STATUS.off, 8 + n.val, 1⟩ 1

/-- A ready mark is withdrawn (R88). -/
def State.engWithdraw (s : State) (n : Fin 4) : State :=
  (s.modEng n fun e => { e with ready := none, fin := none }).put (.comp 0) ⟨COMP_STATUS.off, 8 + n.val, 1⟩ 0

/-- An underrun of a block and plane is charged to the engine (R110, R179). -/
def State.engUnderrun (s : State) (n : Fin 4) (plane block : Nat) : State :=
  let s := (s.bump (.eng n) ENG_UNDERRUN_CNT).raise (.eng n) ENG_EV_UNDERRUN
  (s.put (.eng n) ENG_UNDERRUN_INFO (plane % 32 * 0x10000 + block % 32)).modEng n fun e => { e with
    ur := true, urCnt := e.urCnt + 1 }

/-- XTAL_FAIL (R20, R113, R114): the engine enters FAULT from any state but OFF, its interlock latched, and a Lantern that
is active or loads trips; one whose engine is OFF stays OFF (R157). -/
def State.engXtalFail (s : State) (n : Fin 4) : State :=
  let x := ltnOfEng n
  let st := s.engState n
  let s := if s.ltnActive x ∨ s.tripped x ∨ s.ltn[x].loading ∨ st ≠ E_OFF then s.ltnLatch x 5 else s
  if st = E_OFF then s else s.engTo n E_FAULT CAUSE_XTAL

/-- The second watchdog expiry (R30, R114, R334). -/
def State.engWdogSafe (s : State) (n : Fin 4) : State :=
  let st := s.engState n
  if st = E_OFF ∨ st = E_FAULT then s
  else
    let s := if s.sxlState n = SXL_SB_INIT ∨ s.sxlState n = SXL_TRAINING then
        (s.modSxl n fun l => { l with step := 0 }).sxlTo n SXL_WAIT else s
    if st = E_SAFE then
      let s := (s.put (.eng n) ENG_STATE_INFO_CAUSE CAUSE_WDOG_SAFE).errHw (.eng n) ST_HW_FAULT CAUSE_WDOG_SAFE
      s.modEng n fun e => { e with retryAt := none }
    else s.engTo n E_SAFE CAUSE_WDOG_SAFE

/-- Whether an address is in the front buffer of an engine in LIT or HOLD (R22). -/
def State.engFront (s : State) (n : Fin 4) (off : Nat) : Bool :=
  let b := n.val * quarterSize + s.get (.eng n) ENG_STATUS_FRONT * 0x800000
  s.engFrames n && decide (b ≤ off) && decide (off < b + 0x800000)

/-- SRST of ENG, only in OFF (R36): what the engine keeps starts again. -/
def State.engSrst (s : State) (n : Fin 4) : State := s.modEng n fun _ => {}

end Sys2Proof.Machine
end

