-- ==== Sys2Proof/Machine/GrinderCmds.lean ====
section
/-!
DEFINITION. The steps of a mirror engine's frame: frame starts, repeats, HOLD, blanking, planes, block
loads, resets, underruns and the FSYNC pin (spec/04 and spec/05). A step whose condition does not hold in
the state does not take place: only time goes on (log entry 2).
-/

namespace Sys2Proof.Machine

/-- The outcome of a step. -/
abbrev Out := Host.Outcome State Fault Refusal

/-- A step at instant `t`. -/
def State.step' (s : State) (t : Nat) (f : State → State) : Out := .next (f (s.at t))

/-- FRAME_START (R102): a frame that shows a new image, in LIT (R98) or the first after READY (R114). -/
def execFrameStart (t : Nat) (n : Fin 4) (s : State) : Out := s.step' t fun s =>
  if s.engState n = E_LIT ∧ !s.eng[n].stop then
    let (due, new) := s.engPlan n
    if new ∧ s.onTick due then s.litStart n true else s
  else if s.engState n = E_READY then
    match s.firstPlan n with
    | some due =>
      if s.onTick due then
        (if (s.joinable n).isSome then [n] else s.firstSet n).foldl (fun s m => s.engFrame m .first true false) s
      else s
    | none => s
  else s

/-- REPEAT (R98): at M with no new image the frame repeats the front buffer. -/
def execRepeat (t : Nat) (n : Fin 4) (s : State) : Out := s.step' t fun s =>
  let (due, new) := s.engPlan n
  if s.engState n = E_LIT ∧ !s.eng[n].stop ∧ !new ∧ s.onTick due then s.litStart n false else s

/-- HOLD_H2_START (R118): P_nom after H1 started. -/
def execHoldH2Start (t : Nat) (n : Fin 4) (s : State) : Out := s.step' t fun s =>
  if s.engState n = E_HOLD ∧ !s.eng[n].stop ∧ !s.flag (.eng n) ENG_STATUS_HOLD_PHASE ∧
      s.onTick (tickUp (s.eng[n].sk + s.eng[n].holdPnom)) then s.engFrame n .h2 (s.holdImage n) false
  else s

/-- HOLD_END (R118): the first LIT frame with the new program. -/
def execHoldEnd (t : Nat) (n : Fin 4) (s : State) : Out := s.step' t fun s =>
  if s.engState n = E_HOLD ∧ !s.eng[n].stop ∧ s.flag (.eng n) ENG_STATUS_HOLD_PHASE ∧ s.onTick (s.holdEndPlan n) then
    s.engFrame n .first (s.holdImage n) false
  else s

/-- BLANKING_START (R103): the program of the frame has ended; the source is off. -/
def execBlankingStart (t : Nat) (n : Fin 4) (s : State) : Out := s.step' t fun s =>
  if s.engFrames n ∧ !s.flag (.eng n) ENG_STATUS_BLANKING ∧ s.eng[n].sk + s.eng[n].lk ≤ s.now then
    (s.ltnDark (ltnOfEng n)).put (.eng n) ENG_STATUS_BLANKING 1
  else s

/-- PLANE_START (R124): the next plane begins at its entry light edge. -/
def execPlaneStart (t : Nat) (n : Fin 4) (s : State) : Out := s.step' t fun s =>
  match s.grd[n].planes[s.grd[n].begun]? with
  | some p =>
    if s.engFrames n ∧ s.now = s.eng[n].sk + p.entry then s.modGrd n fun g => { g with begun := g.begun + 1 } else s
  | none => s

/-! ### Block loads (R131, R132) -/

/-- The entry light edge of the plane with running count `c`, where it is known: in the current frame, or in
the next one once its start is final; with whether it belongs to the next frame. -/
def State.entryEdge (s : State) (n : Fin 4) (c : Nat) : Option (Nat × Bool) :=
  let g := s.grd[n]
  let k := c - g.base
  if c < g.base then none
  else match g.planes[k]? with
    | some p => some (s.eng[n].sk + p.entry, false)
    | none =>
      match g.next[k - g.planes.length]?, s.eng[n].fin with
      | some p, some f => some (f.1 + p.entry, true)
      | _, _ => none

/-- The plane with running count `c`, and the buffer (0 A, 1 B) its frame shows (R22). -/
def State.planeAt (s : State) (n : Fin 4) (c : Nat) : Option (Plane × Nat) :=
  let g := s.grd[n]
  let front := s.get (.eng n) ENG_STATUS_FRONT
  let k := c - g.base
  match g.planes[k]? with
  | some p => some (p, front)
  | none =>
    match g.next[k - g.planes.length]?, s.eng[n].fin with
    | some p, some f => some (p, if f.2 then 1 - front else front)
    | _, _ => none

/-- The instant of the reset of block `b` into the plane with running count `c` (R126), with e_b of the plane's frame. -/
def State.resetInstant (s : State) (n : Fin 4) (c b : Nat) : Option Nat :=
  (s.entryEdge n c).map fun e =>
    e.1 - if e.2 then s.grd[n].nextE.getD b 0 else s.get (.grd n) ⟨(GRD_BLK_E b).off, 0, 24⟩

/-- The deadline of a load (R131). -/
def State.loadDeadline (s : State) (n : Fin 4) (c b : Nat) : Option Nat :=
  (s.resetInstant n c b).map fun r => r - nsU (s.inf (.grd n) GRD_LOAD_MARGIN)

/-- The prefetch start of the next frame (R131). -/
def State.prefetchAt (s : State) (n : Fin 4) (start : Nat) : Nat :=
  start - usU (min (s.inf (.eng n) ENG_FENCE_LEAD) 50)

/-- Q′ in use (R131). -/
def State.slotCount (s : State) (n : Fin 4) : Nat := slotsOf (s.get (.sxl n) ⟨SXL_ARRAY_CAP.off, 8, 3⟩)

/-- Whether the plane with running count `c` belongs to the next frame. -/
def State.loadAhead (s : State) (n : Fin 4) (c : Nat) : Bool := decide (s.grd[n].base + s.grd[n].planes.length ≤ c)

/-- The count that decides a plane's slot (R131): its running count, but from 0 for the planes of an H2 at whose start the count
starts again. -/
def State.slotPlane (s : State) (n : Fin 4) (c : Nat) : Nat :=
  if s.engState n = E_HOLD ∧ !s.flag (.eng n) ENG_STATUS_HOLD_PHASE ∧ s.holdRows n ∧ s.loadAhead n c then
    c - (s.grd[n].base + s.grd[n].planes.length)
  else c

/-- Whether the load window of a block for a plane has opened (R131). -/
def State.loadOpen (s : State) (n : Fin 4) (c b : Nat) : Bool :=
  let g := s.grd[n]
  let q := s.slotCount n
  let slot := decide (s.slotPlane n c < q) || g.resets.any fun r => r.1 == c - q && r.2.1 == b && decide (r.2.2 ≤ 16 * (s.now : Int))
  match s.entryEdge n c with
  | none => false
  | some (_, false) => slot
  | some (_, true) =>
    match s.eng[n].fin with
    | some f => slot && decide (s.prefetchAt n f.1 ≤ s.now)
    | none => false

/-- Blocks, width and height of the frame with the plane of count `c`: those in force, but in H1 the old ones (R118, R130). -/
def State.loadShape (s : State) (n : Fin 4) (c : Nat) : Nat × Nat × Nat :=
  if s.engState n = E_HOLD ∧ !s.flag (.eng n) ENG_STATUS_HOLD_PHASE ∧ !s.loadAhead n c then
    (s.eng[n].holdBlocks, bitsOf s.eng[n].holdGeom 0 12, bitsOf s.eng[n].holdGeom 16 11)
  else (s.blockCount n, s.inf (.eng n) ENG_GEOM_WIDTH, s.inf (.eng n) ENG_GEOM_HEIGHT)

/-- Running counts of the planes whose loads may be sent. -/
def State.loadCounts (s : State) (n : Fin 4) : List Nat :=
  (List.range (s.grd[n].planes.length + s.grd[n].next.length)).map (· + s.grd[n].base)

/-- Loads not done yet, with their deadlines, in the order of R132: plane, then block. -/
def State.loadsDue (s : State) (n : Fin 4) : List (Nat × Nat × Nat) :=
  let g := s.grd[n]
  (s.loadCounts n).flatMap fun c => (List.range (s.loadShape n c).1).filterMap fun b =>
    if g.loaded.contains (c, b) || g.missed.contains (c, b) then none
    else (s.loadDeadline n c b).map fun d => (d, c, b)

/-- The first of the smallest deadlines. -/
def earliest : List (Nat × Nat × Nat) → Option (Nat × Nat × Nat)
  | [] => none
  | a :: r => match earliest r with | none => some a | some b => if b.1 < a.1 then some b else some a

/-- The time of the load of block `b` for the plane of count `c` on the link (R132, R173). -/
def State.loadTime (s : State) (n : Fin 4) (c b : Nat) : Nat :=
  let (cnt, w, h) := s.loadShape n c
  bytesTime (blockBytes (blockRows h cnt b) w) (s.linkLanes n)

/-- The load of a block for a plane is sent: its packet has the bits of the frame the plane belongs to, with the program and gain
that a commit at its start leaves in force. -/
def State.sendLoad (s : State) (n : Fin 4) (c b : Nat) : State :=
  match s.planeAt n c with
  | none => s
  | some (p, buf) =>
    let (cnt, w, h) := s.loadShape n c
    let ahead := s.loadAhead n c
    let v := if ahead then (match s.nextPrep n with | some f => f.1 | none => s) else s
    s.linkTxPackets n (s.loadPacket v n buf (s.slotPlane n c) b cnt w h ((s.get (.eng n) ENG_FRAME_CNT + ofBool ahead) % 4) p) 1

/-- A packet begins when the commands before it have gone out (R174, R175). -/
def State.loadStart (s : State) (n : Fin 4) : Nat := max s.now s.sxl[n].busyTo

/-- The last packet boundary of H1 has come when the packet would end in H2: groups that the new set adds join (R191). -/
def State.lastBoundary (s : State) (n : Fin 4) (c b : Nat) : State :=
  if s.engState n = E_HOLD ∧ !s.flag (.eng n) ENG_STATUS_HOLD_PHASE ∧
      s.eng[n].sk + s.eng[n].holdPnom ≤ s.loadStart n + s.loadTime n c b then s.linkJoin n
  else s

/-- BLOCK_LOAD (R132): the open load with the earliest deadline is sent. At the prefetch of the first LIT
frame the Grinder enters PREFETCH and PARK is released (R185). -/
def execBlockLoad (t : Nat) (n : Fin 4) (s : State) : Out := s.step' t fun s =>
  if s.grd[n].load.isSome ∨ s.linkLanes n = 0 then s
  else match earliest ((s.loadsDue n).filter fun l => s.loadOpen n l.2.1 l.2.2) with
    | none => s
    | some (_, c, b) =>
      let s := s.lastBoundary n c b
      let s := (s.sendLoad n c b).modGrd n fun g => { g with
        load := some { count := c, block := b, start := s.loadStart n, finish := s.loadStart n + s.loadTime n c b } }
      if s.engState n = E_READY ∧ s.get (.grd n) BLK_STATE = GRD_IDLE then
        (s.put (.grd n) BLK_STATE GRD_PREFETCH).linkRelease n
      else s

/-- The margin of a load is kept when it is the smallest of the frame; below 2 µs it raises SLACK_LOW (R132). -/
def State.loadSlack (s : State) (n : Fin 4) (m : Nat) : State :=
  let old := s.grd[n].slack
  let least := match old with | some k => min k m | none => m
  let wasLow := match old with | some k => decide (k < usU 2) | none => false
  let s := s.modGrd n fun g => { g with slack := some least }
  if least < usU 2 ∧ !wasLow then s.raise (.grd n) GRD_EV_SLACK_LOW else s

/-- BLOCK_LOAD_COMPLETE (R132). -/
def execBlockLoadComplete (t : Nat) (n : Fin 4) (s : State) : Out := s.step' t fun s =>
  match s.grd[n].load with
  | none => s
  | some l =>
    if s.now < l.finish then s
    else match s.loadDeadline n l.count l.block with
      | none => s.modGrd n fun g => { g with load := none }
      | some d =>
        if d < l.finish then s
        else (s.modGrd n fun g => { g with load := none, loaded := g.loaded ++ [(l.count, l.block)] }).loadSlack n
          (d - l.finish)

/-- The next reset that is due to be issued: the earliest instant, then plane, then block (R126). -/
def State.nextReset (s : State) (n : Fin 4) : Option (Nat × Nat × Nat) :=
  earliest ((s.loadCounts n).flatMap fun c => (List.range (s.loadShape n c).1).filterMap fun b =>
    if s.grd[n].resets.any (fun r => r.1 == c && r.2.1 == b) then none
    else (s.resetInstant n c b).map fun i => (i, c, b))

/-- ε of the frame of the plane with count `c` (R178). -/
def State.resetEps (s : State) (n : Fin 4) (c : Nat) : Int :=
  if s.loadAhead n c then s.grd[n].nextEps else s.sxl[n].eps

/-- The stamp of a reset at an instant, on the link's clock at the rate in use (R126, R178). -/
def State.resetStamp (s : State) (n : Fin 4) (c i : Nat) : Int :=
  stampOf (rateG (s.get (.sxl n) SXL_STATUS_RATE_IN_USE)) (s.resetEps n c) (16 * (i : Int))

/-- The instant at which the array applies that reset, in 1/16 of a time unit. -/
def State.resetApplied (s : State) (n : Fin 4) (c i : Nat) : Int :=
  appliedOf (rateG (s.get (.sxl n) SXL_STATUS_RATE_IN_USE)) (s.resetEps n c) (s.resetStamp n c i)

/-- A reset of a frame that starts with a change of rate is not stamped before the switch (R191). -/
def State.resetWaits (s : State) (n : Fin 4) (c : Nat) : Bool :=
  s.switching n || (s.loadAhead n c && s.grd[n].nextRate != s.get (.sxl n) SXL_STATUS_RATE_IN_USE)

/-- The latest instant at which that reset may be sent, in 1/16 of a time unit: 150 ns and the link's latency before it
is due (R174, R178). -/
def State.resetLatest (s : State) (n : Fin 4) (c i : Nat) : Int :=
  let g := rateG (s.get (.sxl n) SXL_STATUS_RATE_IN_USE)
  roundDivI (s.resetStamp n c i * 256) g - 16 * nsU 150 - roundDivI (((s.get (.sxl n) SXL_LAT_COMP : Nat) : Int) * 256) g

/-- RESET_ISSUE (R126, R176, R178): the next reset is stamped and sent, no later than its latest send instant, with the block
packet in flight if there is one (R174). None is stamped while a
rate switch is under way (R191), nor more than four outstanding for one block (R176). -/
def execResetIssue (t : Nat) (n : Fin 4) (s : State) : Out := s.step' t fun s =>
  match s.nextReset n with
  | none => s
  | some (i, c, b) =>
    let stamp := s.resetStamp n c i
    let applied := s.resetApplied n c i
    let latest := s.resetLatest n c i
    let out := (s.grd[n].resets.filter fun r => r.2.1 == b && decide (16 * (s.now : Int) < r.2.2)).length
    let ready := s.grd[n].loaded.contains (c, b) || s.grd[n].missed.contains (c, b)
    if !s.linkUp n ∨ s.resetWaits n c ∨ 4 ≤ out ∨ !ready ∨ latest < 16 * (s.now : Int) then s
    else
      let slot := s.slotPlane n c % s.slotCount n
      (s.linkCmd n (linkCommand 0xC1 b slot 0 (stamp.toNat % 2 ^ 48)) latest).modGrd n fun gr => { gr with
        resets := gr.resets ++ [(c, b, applied)] }

/-- The load that missed its deadline: the earliest whose deadline has passed (R110, R132). -/
def State.missedLoad (s : State) (n : Fin 4) : Option (Nat × Nat × Nat) :=
  earliest ((s.loadsDue n).filter fun l => decide (l.1 ≤ s.now))

/-- The FILL of a missed load, with the background mode (R175): after the aborted packet of the load, or among the commands of
the packet in flight, before the reset that follows the deadline. -/
def State.sendFill (s : State) (n : Fin 4) (c b : Nat) : State :=
  let slot := s.slotPlane n c % s.slotCount n
  let fill := linkCommand 0xC2 b slot (s.inf (.eng n) ENG_CFG_BG_PATTERN) 0
  match s.grd[n].load with
  | some l =>
    if l.count = c ∧ l.block = b then (s.linkAbort n b slot fill).modGrd n fun g => { g with load := none }
    else s.linkCmd n fill (match s.resetInstant n c b with | some i => s.resetLatest n c i | none => 16 * (s.now : Int))
  | none => s.linkTx n [fill]

/-- UNDERRUN (R110, R132, R175): the load incomplete at its deadline is abandoned, the link sends FILL to the slot, and the engine
counts the block-plane. Its margin counts as 0 in `GRD_MIN_SLACK`, though
R132 defines a margin only for a load that completes (log entry 116). -/
def execUnderrun (t : Nat) (n : Fin 4) (s : State) : Out := s.step' t fun s =>
  match s.missedLoad n with
  | none => s
  | some (_, c, b) =>
    let s := (s.sendFill n c b).modGrd n fun g => { g with missed := g.missed ++ [(c, b)] }
    let k := c - s.grd[n].base
    let plane := if k < s.grd[n].planes.length then k else k - s.grd[n].planes.length
    (s.engUnderrun n plane b).loadSlack n 0

/-! ### FSYNC (R112) -/

/-- The instant at which the pulse of the current frame begins. -/
def State.fsyncAt (s : State) (n : Fin 4) : Nat :=
  s.eng[n].sk + (if s.infFlag (.eng n) ENG_FSYNC_REF then s.pnomOf n s.grd[n].sel / 2 else 0) +
    nsU (s.inf (.eng n) ENG_FSYNC_OFS)

/-- FSYNC_PULSE (R112): the pulse of this frame begins. -/
def execFsyncPulse (t : Nat) (n : Fin 4) (s : State) : Out := s.step' t fun s =>
  if s.engFrames n ∧ s.infFlag (.eng n) ENG_FSYNC_EN ∧ !s.eng[n].fsyncDone ∧ s.onTick (s.fsyncAt n) then
    s.modEng n fun e => { e with
      fsync := true, fsyncDone := true, fsyncEnd := s.fsyncAt n + usU (s.inf (.eng n) ENG_FSYNC_WIDTH) }
  else s

/-- FSYNC_PULSE_END (R112). -/
def execFsyncPulseEnd (t : Nat) (n : Fin 4) (s : State) : Out := s.step' t fun s =>
  if s.eng[n].fsync ∧ s.eng[n].fsyncEnd ≤ s.now then s.modEng n fun e => { e with fsync := false } else s

/-- The level of pin FSYNCn (R112). -/
def State.fsyncPin (s : State) (n : Fin 4) : Bool := s.eng[n].fsync != s.infFlag (.eng n) ENG_FSYNC_POL

/-! ### Ends and retries (R114) -/

/-- ENG_STOP_DONE (R114): the current frame of a stopping engine completes, with its measurement (R154). -/
def execEngStopDone (t : Nat) (n : Fin 4) (s : State) : Out := s.step' t fun s =>
  if s.eng[n].stop ∧ s.engFrames n ∧ s.eng[n].sk + s.eng[n].lk ≤ s.now then
    (s.ltnLoop (ltnOfEng n) (s.levelUsed n)).engOff n
  else s

/-- RETRAIN_RETRY (R114): the LINK_DEAD timer expires in SAFE. -/
def execRetrainRetry (t : Nat) (n : Fin 4) (s : State) : Out := s.step' t fun s =>
  match s.eng[n].retryAt with
  | some r =>
    if s.engState n = E_SAFE ∧ s.get (.eng n) ENG_STATE_INFO_CAUSE = CAUSE_LINK_DEAD ∧ r ≤ s.now then s.engRetrain n
    else s
  | none => s

/-! ### The next frame becomes final (R150) -/

/-- The values in force take their targets before the first LIT frame that follows READY (R128), without a ramp. -/
def State.grdSnap (s : State) (n : Fin 4) : State :=
  (s.grdRamp n (s.blockCount n)).modGrd n fun g => { g with snap := true }

/-- What the Grinder shows at an offset whose value does not lie in a cell: RAMP reads 1 in frames while a value in force
differs from its target (R128). -/
def State.grdShow (s : State) (n : Fin 4) (off : Nat) : Option Nat :=
  if off = GRD_STATUS.off then
    some (withBits (s.reg ((Page.grd n).base + off)).toNat 3 1 (ofBool (s.engFrames n && s.grdMoves n)))
  else none

/-- The start of the next frame is final (R98, R131, R150): its planes are known for the prefetch, the loop
takes the frame's figures when its last level-0 window closed at least 1 µs ago (R154), and the Lantern
computes scale and codes. -/
def State.engFinal (s : State) (n : Fin 4) : State :=
  let x := ltnOfEng n
  match s.nextStart n with
  | none => s
  | some (due, _, new, from') =>
    if s.now < from' ∨ s.eng[n].fin = some (due, new) then s
    else
      let s := if s.engState n = E_READY then s.grdSnap n else s
      let last := s.eng[n].sk + lastClose0 (windowsOf s.grd[n].planes)
      let s := if s.engFrames n ∧ last + usU 1 ≤ s.now then s.ltnEarly x else s
      let s := (s.modEng n fun e => { e with fin := some (due, new) }).modGrd n fun g =>
        let top := g.base + g.planes.length
        { g with
          loaded := g.loaded.filter fun l => decide (l.1 < top), missed := g.missed.filter fun l => decide (l.1 < top)
          load := g.load.filter fun l => decide (l.count < top) }
      match s.nextPrep n with
      | none => s
      | some (v, ph, pl, r) =>
        let s := s.grdNext n v ph pl
        if s.ltnState x = LTN_ARMED ∨ s.ltnState x = LTN_RUN then s.ltnFinal x v r else s

end Sys2Proof.Machine
end

