-- ==== Sys2Proof/Machine/Scanner.lean ====
section
/-!
DEFINITION. The scanner engines (spec/08): commit validation (R199–R203, R220), states (R215, R216),
spin-up and fast axis (R208, R209), monitoring (R211), frames (R212–R214, R217), pixels (R202, R205, R206)
and the pixel-timing tables (R204).
-/

namespace Sys2Proof.Machine

def State.modScn (s : State) (k : Fin 2) (f : Scanner → Scanner) : State :=
  { s with scn := s.scn.set k.val (f s.scn[k]) }

/-- SCN causes (R220). The events are numbered as an engine's, with AMP_LOSS and FREQ_LIMIT at 5 and 6. -/
def SCN_SPINUP_FAIL : Nat := 0x20
def SCN_AMP_LOST : Nat := 0x21
def SCN_SLOW_LOST : Nat := 0x22
def SCN_UNDERRUN_PERSIST : Nat := 0x23
def SCN_HOLD_EXPIRED : Nat := 0x24
def SCN_WDOG_SAFE : Nat := 0x25
def SCN_INTERLOCK : Nat := 0x26
def SCN_XTAL_FAIL : Nat := 0x27
def SCN_PARK_CMD : Nat := 0x28
def SCN_THERMAL : Nat := 0x29
def SCN_EV_AMP_LOSS : Nat := 5
def SCN_EV_FREQ_LIMIT : Nat := 6

def State.scnState (s : State) (k : Fin 2) : Nat := s.get (.scn k) BLK_STATE
def State.scnFrames (s : State) (k : Fin 2) : Bool := s.scnState k == E_LIT || s.scnState k == E_HOLD

/-! ### Pixel-timing tables (R202–R204) -/

def State.tau (s : State) (k : Fin 2) (table i : Nat) : Nat :=
  ((cellGet s.scn[k].ptt (2048 * table + i)).getD 0).toNat

/-- The shortest slot of a table, 2⁻²⁴ of H (R205). -/
def State.minSlot (s : State) (k : Fin 2) (table n : Nat) : Nat :=
  (List.range n).foldl (fun m i => min m (s.tau k table (i + 1) - s.tau k table i)) (2 ^ 24)

/-- Whether a table passes R203 at FMAX `fm` (Hz) with N pixels and the phase offsets. H in 62.5 ps is
8·10⁹ / f. -/
def State.pttValid (s : State) (k : Fin 2) (table n fm : Nat) (fwd ret : Int) : Bool :=
  let h := 8000000000
  let mono := decide (0 < s.tau k table 0) && (List.range n).all fun i => decide (s.tau k table i < s.tau k table (i + 1))
  let slot := decide (128 * fm * 2 ^ 24 ≤ s.minSlot k table n * h)
  let gap := s.tau k table 0 + 2 ^ 24 - s.tau k table n
  mono && slot && decide ((3200 + fwd.natAbs + ret.natAbs) * fm * 2 ^ 24 ≤ gap * h)

/-- A write of `SCN_PTT_DATA` (R204). -/
def State.pttWrite (s : State) (path : Path) (k : Fin 2) (v : Nat) : State :=
  let p := Page.scn k
  let t := s.get p SCN_PTT_IDX_TABLE
  let i := s.get p SCN_PTT_IDX_INDEX
  let busy := (s.scnFrames k && t == s.inf p SCN_CFG_PTT) || (s.commitPending (.scn k) && t == s.get p SCN_CFG_PTT)
  if busy then s.err p (pathCode path) SCN_PTT_DATA.off ST_STATE_REJECT 0x15
  else
    let s := s.modScn k fun c => { c with ptt := cellPut 0 c.ptt (2048 * t + i) (BitVec.ofNat 32 (v % 2 ^ 24)) }
    s.put p SCN_PTT_IDX_INDEX (min 1024 (i + 1))

/-! ### Commit validation (R46, R199, R201, R203, R220) -/

def State.scnFails (s : State) (k : Fin 2) : List CommitFail :=
  let p := Page.scn k
  let x := ltnOfScn k
  let px := s.get p SCN_GEOM_PIXELS
  let ln := s.get p SCN_GEOM_LINES
  let fb := s.get p SCN_FLYBACK_FB_LINES
  let fmin := s.get p SCN_FAST_FREQ_FMIN
  let fmax := s.get p SCN_FAST_FREQ_FMAX
  let lead := s.get p SCN_FENCE_LEAD
  let low := s.get p SCN_FAST_AMP_LOW_PCT
  let lt := ln + fb
  let top := s.get p SCN_SLOW_RANGE_TOP
  let fwd := signed 16 (s.get p SCN_PHASE_OFS_FWD) + s.phaseTrim k true
  let ret := signed 16 (s.get p SCN_PHASE_OFS_RET) + s.phaseTrim k false
  let f (d : Nat) (b : Bool) : List CommitFail := if b then [(ST_BAD_PARAM, d, p)] else []
  f 0x10 (px == 0 || decide (1024 < px) || ln == 0 || decide (512 < ln) || decide (fb < 2) || decide (64 < fb) ||
    decide (0x100000 < px * ln * 2) || lt % 2 == 1) ++
  f 0x11 (decide (fmin < 18000) || decide (32000 < fmax) || decide (fmax < fmin)) ++
  f 0x12 (decide (2 * fmin < 60 * lt) || decide (240 * lt < 2 * fmax) || decide (fb * 1000000 < 120 * fmax) ||
    top == s.get p SCN_SLOW_RANGE_BOT) ++
  f 0x13 (!s.pttValid k (s.get p SCN_CFG_PTT) px fmax fwd ret) ++
  f 0x14 (decide (low < 50) || decide (99 < low) || s.get p SCN_LOOP_PH_KI == 0 || s.get p SCN_LOOP_AMP_KI == 0 ||
    s.get p SCN_SLOW_TOL_COUNT == 0 || decide (lead < 20) || decide (1000 < lead)) ++
  (if s.ltnRangeFail x then [(ST_BAD_PARAM, 0x10, Page.ltn x)] else [])

/-- Whether the staged set is incompatible (R217). -/
def State.scnIncompatible (s : State) (k : Fin 2) : Bool :=
  let p := Page.scn k
  let d (f : RF) : Bool := s.get p f != s.inf p f
  d SCN_GEOM || d SCN_FLYBACK || d SCN_CFG_SLOW_MODE || d SCN_CFG_LINE0_DIR || d SCN_FAST_AMP_TARGET

/-- The configuration in force comes into use: at a frame start, but of H1, and at once without frames (R217). -/
def State.scnUse (s : State) (k : Fin 2) : State :=
  let p := Page.scn k
  s.modScn k fun c => { c with
    lact := s.inf p SCN_GEOM_LINES, lfb := s.inf p SCN_FLYBACK_FB_LINES, dir0 := s.inf p SCN_CFG_LINE0_DIR
    target := s.inf p SCN_FAST_AMP_TARGET, px := s.inf p SCN_GEOM_PIXELS, tab := s.inf p SCN_CFG_PTT
    top := s.inf p SCN_SLOW_RANGE_TOP, bot := s.inf p SCN_SLOW_RANGE_BOT, stair := s.infFlag p SCN_CFG_SLOW_MODE
    ofs := s.inf p SCN_PHASE_OFS, bg := s.inf p SCN_BG }

/-- The slow-axis drive outside frames (R197, R210, R215): `SCN_SLOW_PARK` in READY and SAFE, zero where the axis is stopped;
in OFF and FAULT it ramps down with the fast drive. -/
def State.slowRest (s : State) (k : Fin 2) (st : Nat) : Nat :=
  if st = E_READY ∨ st = E_SAFE then s.inf (.scn k) SCN_SLOW_PARK_DAC
  else if (st = E_OFF ∨ st = E_FAULT) ∧ s.scn[k].running then s.scn[k].slow else 0

/-- The group's commit at a commit point or at once (R43, R46, R213). Answers whether it applied and was
incompatible. -/
def State.scnCommit (s : State) (k : Fin 2) : State × Bool :=
  let g := Group.scn k
  let late := (s.commitRec g).late
  let s := if late then s.bump (.scn k) SCN_LATE_CNT else s
  let inc := s.scnIncompatible k
  let (s, ok) := s.commitWhole g late (s.scnFails k)
  let s := if ok ∧ !s.scnFrames k then
      (s.scnUse k).modScn k fun c => { c with slow := s.slowRest k (s.scnState k) } else s
  (s, ok && inc)

def State.scnCommitStopped (s : State) (k : Fin 2) : State :=
  if s.commitPending (.scn k) then (s.scnCommit k).1 else s

/-! ### States (R215, R216) -/

/-- The image stops: pins and flags. -/
def State.scnStopFrames (s : State) (k : Fin 2) : State :=
  let s := s.modScn k fun c => { c with
    lmod := 0, stop := false, under := false, ur := false, urRun := 0, due := false, energy := 0
    slow := s.slowRest k (s.scnState k) }
  ((s.put (.scn k) SCN_STATUS_HOLD_PHASE 0).put (.scn k) SCN_STATUS_FLYBACK 0).put (.scn k) SCN_STATUS_REPEAT 0

/-- The drives ramp down, within 10 ms, to zero (R211, R216). -/
def State.scnRampDown (s : State) (k : Fin 2) : State :=
  (s.modScn k fun c => { c with rampDown := c.running, lockedFrom := none }).put (.scn k) SCN_STATUS_LOCKED 0

/-- The drives have stopped: monitoring is disarmed (R211); in SAFE the slow axis holds its park position (R210). -/
def State.scnDrivesZero (s : State) (k : Fin 2) : State :=
  let s := s.modScn k fun c => { c with
    running := false, rampDown := false, drive := 0, freq := 0, ampTgt := 0, lmod := 0, swept := false
    lockedFrom := none, near := false, weak := 0, slowBad := 0, missed := false }
  let s := s.modScn k fun c => { c with slow := s.slowRest k (s.scnState k) }
  ((s.put (.scn k) SCN_STATUS_MON_ARMED 0).put (.scn k) SCN_STATUS_LOCKED 0).put (.scn k) SCN_STATUS_FREQ_LIMIT 0

/-- A scanner enters a state with a cause (R115, R216). -/
def State.scnTo (s : State) (k : Fin 2) (new cause : Nat) : State :=
  let p := Page.scn k
  let old := s.scnState k
  let frames := s.scnFrames k
  let s := (s.put p SCN_STATE_INFO (cause * 256 + old)).put p BLK_STATE new
  let s := s.raise p ENG_EV_STATE_CHANGE
  let s := if 0x20 ≤ cause ∧ cause ≠ SCN_PARK_CMD then s.errHw p ST_HW_FAULT cause else s
  let stays := new = E_LIT ∨ new = E_HOLD
  let s := if stays then s else s.scnStopFrames k
  let s := if old = E_TRAIN then s.put p SCN_STATUS_PBA_WAIT 0 else s
  let s := if frames ∧ !decide stays then (s.calLeave (ltnOfScn k)).ltnForget (ltnOfScn k) else s
  let s := if frames ∧ !decide stays then s.scnCommitStopped k else s
  let s := s.ltnFollow (ltnOfScn k) old new
  s.noteState (4 + k.val) old new cause

/-- The grant is released once the drives are at zero in OFF (R376, R380). -/
def State.scnRelease (s : State) (k : Fin 2) : State := s.pbaRelease (ID_SCN k.val) NO_PORT

/-- OFF (R216): the drives ramp down; with no drive running the grant goes at once. -/
def State.scnOff (s : State) (k : Fin 2) : State :=
  let s := ((s.scnTo k E_OFF 0).put (.scn k) SCN_STATUS_PBA_WAIT 0).modScn k fun c => { c with start := false, ready := none }
  let s := s.put (.comp 0) ⟨COMP_STATUS.off, 12 + k.val, 1⟩ 0
  if s.scn[k].running then s.scnRampDown k else s.scnRelease k

/-- Spin-up starts (R209). -/
def State.spinUp (s : State) (k : Fin 2) : State :=
  (((s.scnUse k).modScn k fun c => { c with
    running := true, rampDown := false, spinAt := s.now, swept := false, lockedFrom := none, near := false, ampTgt := 0
    weak := 0, missed := false
    freq := 16 * s.inf (.scn k) SCN_FAST_FREQ_FMIN, drive := s.inf (.scn k) SCN_LOOP_DRV_MAX / 10 }).put (.scn k)
      SCN_STATUS_LOCKED 0).put (.scn k) SCN_STATUS_FREQ_LIMIT 0

/-- A scanner in SAFE with its axis stopped trains again (R216): where the START from OFF still waits for its grant it goes on
waiting. -/
def State.scnRespin (s : State) (k : Fin 2) : State :=
  let s := s.scnTo k E_TRAIN 0
  if s.pba.grants.contains (ID_SCN k.val, NO_PORT) && s.domOn PD_SCN then s.spinUp k else s.put (.scn k) SCN_STATUS_PBA_WAIT 1

/-- A granted scanner whose domains are on proceeds with spin-up (R379, R216). -/
def State.scnProceed (s : State) (k : Fin 2) : State :=
  if s.scnState k = E_TRAIN then
    ((s.put (.scn k) SCN_STATUS_PBA_WAIT 0).spinUp k).ltnWantArm (ltnOfScn k) E_TRAIN
  else s

/-- The registers that a frame start writes. -/
def scnFrameRegs (k : Fin 2) : List Nat :=
  ((Page.comp 0).base + COMP_STATUS.off) ::
    [BLK_STATE.off, IRQ_STAT.off, SCN_PNOM.off, SCN_FSTART_NS.off, SCN_STATE_INFO.off, SCN_STATUS.off, SCN_FRAME_CNT.off,
      SCN_REPEAT_CNT.off].map fun o => (Page.scn k).base + o

/-- What is kept of the state before a frame start. -/
def State.scnKeep (s : State) (k : Fin 2) : ScnBack :=
  let c := s.scn[k]
  { instant := s.now, cells := (scnFrameRegs k).map fun a => (a, s.reg a), ready := c.ready, readyGeom := c.readyGeom
    frontGeom := c.frontGeom, sk := c.sk, pred := c.pred, urRun := c.urRun }

/-- A trip on the tick of a frame start: no frame starts (R216). Its buffers, counters, events and status are as before; a commit
that applied at it stands, as R43 applies it at once. What the Lantern's loop and the mailbox took at that start stays
(log entry 47). -/
def State.scnUnstart (s : State) (k : Fin 2) : State :=
  match s.scn[k].back with
  | none => s
  | some b =>
    if b.instant / tickU ≠ s.now / tickU then s
    else
      let s := b.cells.foldl (fun (s : State) c => s.setReg c.1 c.2) s
      s.modScn k fun c => { c with
        back := none, ready := b.ready, readyGeom := b.readyGeom, frontGeom := b.frontGeom, sk := b.sk, pred := b.pred
        urRun := b.urRun }

/-- The interlock trips (R160, R161, R211, R216): FAULT with cause INTERLOCK, and both drives ramp to zero. -/
def State.scnTrip (s : State) (k : Fin 2) (cause : Nat) : State :=
  let x := ltnOfScn k
  let was := s.tripped x
  let s := s.ltnLatch x cause
  let st := s.scnState k
  if was ∨ cause = 6 ∨ st = E_OFF ∨ st = E_FAULT then s
  else ((s.scnUnstart k).scnTo k E_FAULT SCN_INTERLOCK).scnRampDown k

/-- A trip of any Lantern's interlock. -/
def State.trip (s : State) (x : Fin 6) (cause : Nat) : State :=
  if h : x.val < 4 then s.engTrip ⟨x.val, h⟩ cause else s.scnTrip ⟨x.val - 4, by omega⟩ cause

/-- An amplitude loss while monitoring is armed (R211). -/
def State.ampLoss (s : State) (k : Fin 2) (detail : Nat) : State :=
  if s.flag (.scn k) SCN_STATUS_MON_ARMED then
    let s := (s.bump (.scn k) SCN_AMP_LOSS_CNT).raise (.scn k) SCN_EV_AMP_LOSS
    let s := s.errHw (.scn k) ST_HW_FAULT detail
    if s.ltnActive (ltnOfScn k) ∨ s.tripped (ltnOfScn k) then s.scnTrip k 4 else s
  else s

/-- XTAL_FAIL (R20, R216): as for a mirror engine, a Lantern that is active or loads trips. -/
def State.scnXtalFail (s : State) (k : Fin 2) : State :=
  let x := ltnOfScn k
  let s := if s.ltnActive x ∨ s.tripped x ∨ s.ltn[x].loading ∨ s.scnState k ≠ E_OFF then s.ltnLatch x 5 else s
  if s.scnState k = E_OFF then s else (s.scnTo k E_FAULT SCN_XTAL_FAIL).scnRampDown k

/-- The second watchdog expiry (R30, R216). -/
def State.scnWdogSafe (s : State) (k : Fin 2) : State :=
  let st := s.scnState k
  if st = E_OFF ∨ st = E_FAULT then s
  else if st = E_SAFE then
    (s.put (.scn k) SCN_STATE_INFO_CAUSE SCN_WDOG_SAFE).errHw (.scn k) ST_HW_FAULT SCN_WDOG_SAFE
  else
    let s := s.scnTo k E_SAFE SCN_WDOG_SAFE
    if st = E_TRAIN then s.scnRampDown k else s

/-- The drives are stopped or amplitude is reported within limits, so cause 0x4 is gone (R162, R211). -/
def State.scnGone (s : State) (x : Fin 6) : Bool :=
  if h : x.val < 4 then true
  else
    let k : Fin 2 := ⟨x.val - 4, by omega⟩
    s.scnState k == E_OFF || !s.flag (.scn k) SCN_STATUS_MON_ARMED

/-! ### The fast axis (R208, R209) -/

/-- Half-period in 62.5 ps of a frequency in 1/16 Hz. -/
def halfOf (f16 : Nat) : Nat := if f16 = 0 then 0 else roundDiv 128000000000 f16

/-- The amplitude loop (R208): the drive level moves by the error × AMP_KI / 16 within 0 to DRV_MAX. -/
def ampStep (drive tgt peak ki drvMax : Nat) : Nat :=
  (clampI 0 drvMax ((drive : Int) + tdivI (((tgt : Int) - peak) * ki) 16)).toNat

/-- The drive frequency takes a value, held within FMIN to FMAX; reaching a limit raises FREQ_LIMIT (R208). -/
def State.freqTo (s : State) (k : Fin 2) (f : Int) : State :=
  let p := Page.scn k
  let lo := 16 * s.inf p SCN_FAST_FREQ_FMIN
  let hi := 16 * s.inf p SCN_FAST_FREQ_FMAX
  let f := (clampI lo hi f).toNat
  let lim := f == lo || f == hi
  let was := s.flag p SCN_STATUS_FREQ_LIMIT
  let s := (s.modScn k fun c => { c with freq := f }).put p SCN_STATUS_FREQ_LIMIT (ofBool lim)
  if lim ∧ !was then s.raise p SCN_EV_FREQ_LIMIT else s

/-- The phase loop (R208): the frequency moves against the phase error, by the error times PH_KI / 16 in a unit that the
spec leaves open (log entry 3); a larger lag asks for a lower frequency. -/
def State.phaseStep (s : State) (k : Fin 2) (lag : Nat) : State :=
  let p := Page.scn k
  let err := signed 16 ((lag + 65536 - s.inf p SCN_FAST_PHASE % 65536) % 65536)
  s.freqTo k (s.scn[k].freq - tdivI (err * (s.inf p SCN_LOOP_PH_KI * Config.phaseUnit : Nat)) 16)

/-- The slow-axis drive `dt` after the start of line `l` (R210): from TOP at line 0 to BOT at the last active line, in STAIR held
during each line; then back to TOP along a raised cosine that ends at the next frame start. Codes are rounded towards
TOP in the active lines and down in flyback (log entry 47). -/
def Scanner.slowAt (c : Scanner) (l dt : Nat) : Nat :=
  let h := max c.half 1
  let dt := min dt h
  if l < c.lact then
    let at' := min (l * h + if c.stair then 0 else dt) ((c.lact - 1) * h)
    if c.lact ≤ 1 then c.top else ((c.top : Int) + tdivI (((c.bot : Int) - c.top) * at') ((c.lact - 1) * h)).toNat
  else ((c.bot : Int) + ((c.top : Int) - c.bot) * raisedCos ((l - c.lact) * h + dt) (max 1 (c.lfb * h)) / 2 ^ 40).toNat

/-- The level of the slow-axis drive now, as a DAC code; 0 is zero differential (R197, R210). -/
def State.slowPin (s : State) (k : Fin 2) : Nat :=
  let c := s.scn[k]
  if s.scnFrames k then c.slowAt c.line (s.now - c.lastTp) else c.slow

/-- The next line of the raster (R199, R210), with the slow-axis drive at its start. -/
def State.nextLine (s : State) (k : Fin 2) : State :=
  let p := Page.scn k
  let c := s.scn[k]
  let tot := c.lact + c.lfb
  let l := if tot ≤ c.line + 1 then 0 else c.line + 1
  let s := s.modScn k fun c => { c with line := l, due := l == 0, pixel := 0, under := false, lmod := 0 }
  if s.scnFrames k then
    let s := s.put p SCN_STATUS_FLYBACK (ofBool (decide (c.lact ≤ l)))
    let s := if l = c.lact then
        s.modLtn (ltnOfScn k) fun n => { n with wSum := n.wSum + c.energy } else s
    s.modScn k fun c => { c with slow := c.slowAt l 0 }
  else s

/-- A turning point (R208): both loops, the measured figures, the next line, and amplitude loss at the second of two
weak half-periods (R211). `peak` is the sensed peak, `lag` the sensed phase lag in 1/65536 turn, `locked`
whether the phase loop is locked. -/
def State.turningPoint (s : State) (k : Fin 2) (peak lag : Nat) (locked : Bool) : State :=
  let p := Page.scn k
  let c := s.scn[k]
  if !c.running then s
  else
    let h := s.now - c.lastTp
    let tgt := s.inf p SCN_FAST_AMP_TARGET
    let tgt := if s.scnState k = E_HOLD then c.target else tgt
    let st := s.scnState k
    let ramp := if st = E_TRAIN then
        (if c.swept then min tgt (c.ampTgt + tgt * h / msU 10) else 0) else tgt
    let near := decide (100 * ((peak : Int) - tgt).natAbs ≤ tgt)
    let phase := locked && c.swept && !c.rampDown
    let ok := phase && near
    let low := decide (100 * peak < s.inf p SCN_FAST_AMP_LOW_PCT * tgt)
    let s := s.modScn k fun c => { c with
      lastTp := s.now, half := h, ampTgt := ramp
      drive := if c.swept && !c.rampDown then ampStep c.drive ramp peak (s.inf p SCN_LOOP_AMP_KI) (s.inf p SCN_LOOP_DRV_MAX)
        else c.drive
      lockedFrom := if phase then (match c.lockedFrom with | some f => some f | none => some s.now) else none
      near := near, missed := false, weak := if low then c.weak + 1 else 0 }
    let s := s.put p ⟨SCN_FAST_MEAS.off, 0, 20⟩ (if h = 0 then 0 else 128000000000 / h)
    let s := s.put p SCN_FAST_AMP_MEAS (min 65535 s.scn[k].drive * 0x10000 + min 65535 peak)
    let s := s.put p SCN_STATUS_LOCKED (ofBool ok)
    let s := if c.swept ∧ !c.rampDown then s.phaseStep k lag else s
    let s := s.nextLine k
    if s.scn[k].weak = 2 then s.ampLoss k SCN_AMP_LOST else s

/-! ### Frames (R212–R214, R217) -/

/-- The scanner's image geometry in force. -/
def State.scnGeom (s : State) (k : Fin 2) : Nat := (s.infReg ((Page.scn k).base + SCN_GEOM.off)).toNat

/-- The Lantern's part of a scanner frame start (R148, R150, R151, R158). -/
def State.ltnScnFrame (s : State) (k : Fin 2) : State :=
  let x := ltnOfScn k
  let st := s.ltnState x
  let s := (s.ltnLoop x fun j => j == 0).ltnRamp x
  if st = LTN_ARMED ∨ st = LTN_RUN then
    let s := s.ltnFrameStart x
    if st = LTN_ARMED then (s.ltnTo x LTN_RUN).softRun (ID_SCN k.val) else s
  else s

/-- Steps 3 to 5 of a frame start (R212), with the figures of the frame. -/
def State.scnFrame (s : State) (k : Fin 2) (new : Bool) : State :=
  let p := Page.scn k
  let c0 := s.scn[k]
  let s := if new then
      let s := s.put p SCN_STATUS_FRONT (1 - s.get p SCN_STATUS_FRONT)
      (s.modScn k fun c => { c with ready := none, frontGeom := c.readyGeom }).put (.comp 0)
        ⟨COMP_STATUS.off, 12 + k.val, 1⟩ 0
    else s
  let s := s.stamp p SCN_FSTART_NS
  let s := (s.bump p SCN_FRAME_CNT).raise p ENG_EV_FRAME_START
  let s := if new then s else (s.bump p SCN_REPEAT_CNT).raise p ENG_EV_REPEAT
  let s := (s.put p SCN_STATUS_REPEAT (ofBool (!new))).put p SCN_STATUS_FLYBACK 0
  let lt := s.scn[k].lact + s.scn[k].lfb
  let pnom := if c0.sk ≠ 0 ∧ c0.ltot ≠ 0 then (s.now - c0.sk) * lt / c0.ltot else lt * c0.half
  let s := s.put p ⟨SCN_PNOM.off, 0, 25⟩ (toNs pnom)
  let s := s.modScn k fun c => { c with
    sk := s.now, pred := s.now + lt * c.half, ltot := lt, due := false, urRun := if c.ur then c.urRun + 1 else 0
    ur := false, energy := 0, slow := c.slowAt 0 0 }
  ((s.calDeliver (ltnOfScn k).val false).ltnScnFrame k).calFrame (ltnOfScn k)

/-- Whether a new image may be shown at the start due now (R212). -/
def State.scnNew (s : State) (k : Fin 2) : Bool :=
  match s.scn[k].ready with | some r => decide (r + swapGuard ≤ s.scn[k].pred) | none => false

/-- What a frame start of a scanner does (R212, R216, R217): a stop completes, or a LIT frame with its commit, or the
two HOLD frames, or the first frame after READY. -/
def State.scnBegin (s : State) (k : Fin 2) : State :=
  let st := s.scnState k
  let c := s.scn[k]
  let g := Group.scn k
  if st = E_READY then
    match c.ready with
    | some r =>
      if (c.start || s.infFlag (.scn k) SCN_CFG_AUTO_RELIGHT) && decide (r + swapGuard ≤ s.now) then
        let s := ((s.scnTo k E_LIT 0).modScn k fun c => { c with start := false, sk := 0 }).scnUse k
        s.scnFrame k true
      else s
    | none => s
  else if c.stop then (s.ltnLoop (ltnOfScn k) fun j => j == 0).scnOff k
  else if st = E_LIT then
    let new := s.scnNew k
    let rec' := s.commitRec g
    let (s, inc) := if s.commitPending g then
        (if rec'.skip then (s.setCommitRec g { rec' with skip := false }, false) else s.scnCommit k)
      else (s, false)
    if inc then
      let s := (s.scnTo k E_HOLD 0).raise (.scn k) ENG_EV_HOLD_ENTER
      let s := s.scnFrame k new
      let fresh := s.inf (.scn k) SCN_GEOM_LINES + s.inf (.scn k) SCN_FLYBACK_FB_LINES
      s.modScn k fun c => { c with holdEnd := c.pred + fresh * c.half }
    else (s.scnUse k).scnFrame k new
  else if st = E_HOLD then
    let geom := s.scnGeom k
    let have' := s.scnNew k && c.readyGeom == geom
    if !s.flag (.scn k) SCN_STATUS_HOLD_PHASE then
      (((s.put (.scn k) SCN_STATUS_HOLD_PHASE 1).scnUse k).scnFrame k false).modScn k fun c => { c with holdEnd := c.pred }
    else if have' || c.frontGeom == geom then
      let s := (s.put (.scn k) SCN_STATUS_HOLD_PHASE 0).scnTo k E_LIT 0
      let rec' := s.commitRec g
      let (s, _) := if s.commitPending g then
          (if rec'.skip then (s.setCommitRec g { rec' with skip := false }, false) else s.scnCommit k)
        else (s, false)
      (s.scnUse k).scnFrame k have'
    else s.scnTo k E_SAFE SCN_HOLD_EXPIRED
  else s

/-- A frame start of a scanner, with what a trip on its tick undoes. -/
def State.scnStart (s : State) (k : Fin 2) : State :=
  (s.scnBegin k).modScn k fun c => { c with back := some (s.scnKeep k) }

/-- The photon instant of the scanner's first frame that can show an image complete at `base` − 50 µs (R200): S + P_nom / 2,
S the first predicted frame start from `base` on, or `base` where none is predicted. -/
def State.scnPhoton (s : State) (k : Fin 2) (base : Nat) : Nat :=
  let c := s.scn[k]
  let pnom := (c.lact + c.lfb) * c.half
  let start := if s.scnFrames k ∧ pnom ≠ 0 ∧ c.pred < base then c.pred + ceilDiv (base - c.pred) pnom * pnom
    else if s.scnFrames k then c.pred else base
  start + pnom / 2

/-- The fence (R213, R116). -/
def State.scnFence (s : State) (k : Fin 2) : Nat :=
  (if s.scnState k = E_HOLD then s.scn[k].holdEnd else s.scn[k].pred) - usU (s.inf (.scn k) SCN_FENCE_LEAD)

/-! ### Pixels (R202, R205, R206, R214) -/

/-- Whether the source is lit in this frame: LIT, or H1 (R217). -/
def State.scnLit (s : State) (k : Fin 2) : Bool :=
  s.scnState k == E_LIT || (s.scnState k == E_HOLD && !s.flag (.scn k) SCN_STATUS_HOLD_PHASE)

/-- Whether line `l` runs in the direction of pixel order (R199). -/
def Scanner.forward (c : Scanner) : Bool := (c.line + c.dir0) % 2 == 0

/-- The phase offset of a scan direction in the frame that runs: the committed offset it uses, with the trim. -/
def State.frameOfs (s : State) (k : Fin 2) (fwd : Bool) : Int :=
  signed 16 (bitsOf s.scn[k].ofs (if fwd then 0 else 16) 16) + s.phaseTrim k fwd

/-- The instant of a pixel edge `i` of a line that begins at turning point `tp`, in 62.5 ps (R202). -/
def State.edgeOf (s : State) (k : Fin 2) (tp : Nat) (fwd : Bool) (i : Nat) : Nat :=
  let c := s.scn[k]
  let tau := s.tau k c.tab i
  (((tp + (if fwd then tau else 2 ^ 24 - tau) * c.half / 2 ^ 24 : Nat) : Int) + s.frameOfs k fwd).toNat

/-- The instant of a pixel edge of the line under way. -/
def State.edgeAt (s : State) (k : Fin 2) (i : Nat) : Nat := s.edgeOf k s.scn[k].lastTp s.scn[k].forward i

/-- The pixel whose slot is the `i`-th of the line, and the instant at which that slot starts. -/
def State.slotOf (s : State) (k : Fin 2) (i : Nat) : Nat × Nat :=
  let n := s.scn[k].px
  if s.scn[k].forward then (i, s.edgeAt k i) else (n - 1 - i, s.edgeAt k (n - i))

/-- Offset of a scanner buffer in the Frame SRAM window (R21). -/
def scnBuffer (k : Fin 2) (b : Nat) : Nat := k.val * quarterSize + 0x1000000 + b * 0x100000

/-- t_min of the frame that runs, 2⁻²⁴ of H (R205). -/
def State.tMin (s : State) (k : Fin 2) : Nat := s.minSlot k s.scn[k].tab s.scn[k].px

/-- M_p of a code (R205). -/
def State.modCode (s : State) (k : Fin 2) (p v : Nat) : Nat :=
  let t := s.scn[k].tab
  let tp := s.tau k t (p + 1) - s.tau k t p
  let kp := if tp = 0 then 65535 else min 65535 (roundDiv (65536 * s.tMin k) tp)
  (v * kp + 32768) / 65536

/-- The modulation at the start of the next pixel slot, through the delay line of the Lantern (R205, R206); the background after an underrun (R214). -/
def State.lmodUpdate (s : State) (k : Fin 2) : State :=
  let p := Page.scn k
  let c := s.scn[k]
  let n := c.px
  if !s.scnLit k ∨ c.lact ≤ c.line ∨ n ≤ c.pixel then s
  else
    let (px, due) := s.slotOf k c.pixel
    if s.now ≠ due then s
    else
      let a := scnBuffer k (s.get p SCN_STATUS_FRONT) + 2 * (c.line * n + px)
      let v := if c.under then c.bg else memLE s.fsram a 2
      (s.edgeCommand (ltnOfScn k) true).modScn k fun c => { c with
        lmod := s.modCode k px v, pixel := c.pixel + 1, energy := c.energy + s.tMin k * c.half * v }

/-- An underrun (R214): this pixel and the rest of the line show `SCN_BG`. -/
def State.scnUnderrun (s : State) (k : Fin 2) : State :=
  let c := s.scn[k]
  if s.scnLit k ∧ c.line < c.lact ∧ !c.under then
    let s := (s.bump (.scn k) SCN_UNDERRUN_CNT).raise (.scn k) ENG_EV_UNDERRUN
    let s := s.put (.scn k) ⟨SCN_UNDERRUN_INFO.off, 0, 9⟩ c.line
    s.modScn k fun c => { c with under := true, ur := true }
  else s

/-! ### Commands and images -/

def State.scnStartCmd (s : State) (k : Fin 2) (path off : Nat) : State × CmdResult :=
  let st := s.scnState k
  if st = E_OFF then
    let s := s.modScn k fun c => { c with start := true }
    let s := (s.scnTo k E_TRAIN 0).put (.scn k) SCN_STATUS_PBA_WAIT 1
    if s.pba.grants.contains (ID_SCN k.val, NO_PORT) then (s.scnProceed k, (ST_OK, 0))
    else (s.pbaRequest (ID_SCN k.val) NO_PORT, (ST_OK, 0))
  else if st = E_READY then (s.modScn k fun c => { c with start := true }, (ST_OK, 0))
  else if st = E_SAFE then
    let s := s.modScn k fun c => { c with start := true }
    if s.flag (.scn k) SCN_STATUS_LOCKED then (s.scnTo k E_READY 0, (ST_OK, 0))
    else (s.scnRespin k, (ST_OK, 0))
  else s.engRefuse (.scn k) path off ST_STATE_REJECT ENG_CMD_STATE

def State.scnStopCmd (s : State) (k : Fin 2) (path off : Nat) : State × CmdResult :=
  let st := s.scnState k
  if st = E_TRAIN ∨ st = E_READY ∨ st = E_SAFE then ((s.mbxStartCut (4 + k.val)).scnOff k, (ST_OK, 0))
  else if st = E_LIT ∨ st = E_HOLD then ((s.mbxStartCut (4 + k.val)).modScn k fun c => { c with stop := true }, (ST_OK, 0))
  else s.engRefuse (.scn k) path off ST_STATE_REJECT ENG_CMD_STATE

def State.scnParkCmd (s : State) (k : Fin 2) (path off : Nat) : State × CmdResult :=
  let st := s.scnState k
  if st = E_READY ∨ st = E_LIT ∨ st = E_HOLD then (((s.mbxStartCut (4 + k.val)).ltnDark (ltnOfScn k)).scnTo k E_SAFE SCN_PARK_CMD, (ST_OK, 0))
  else s.engRefuse (.scn k) path off ST_STATE_REJECT ENG_CMD_STATE

def State.scnFaultClear (s : State) (k : Fin 2) (path off : Nat) : State × CmdResult :=
  if s.scnState k = E_FAULT ∧ !s.tripped (ltnOfScn k) then (s.scnOff k, (ST_OK, 0))
  else s.engRefuse (.scn k) path off ST_STATE_REJECT ENG_CMD_STATE

/-- A write of `SCN_CMD` (R218). -/
def State.scnCmdWrite (s : State) (path : Path) (k : Fin 2) (v : Nat) : State :=
  let p := pathCode path
  match bitsOf v 0 4 with
  | 1 => (s.scnStartCmd k p SCN_CMD.off).1
  | 2 => (s.scnStopCmd k p SCN_CMD.off).1
  | 3 => (s.scnParkCmd k p SCN_CMD.off).1
  | 4 => (s.scnFaultClear k p SCN_CMD.off).1
  | _ => s.err (.scn k) p SCN_CMD.off ST_BAD_OPCODE ENG_CMD_UNKNOWN

/-- The compositor marks a scanner's back buffer ready (R83, R212). -/
def State.scnImage (s : State) (k : Fin 2) (geom : Nat) : State :=
  (s.modScn k fun c => { c with ready := some s.now, readyGeom := geom }).put (.comp 0)
    ⟨COMP_STATUS.off, 12 + k.val, 1⟩ 1

def State.scnWithdraw (s : State) (k : Fin 2) : State :=
  (s.modScn k fun c => { c with ready := none }).put (.comp 0) ⟨COMP_STATUS.off, 12 + k.val, 1⟩ 0

/-- Whether an address is in the front buffer of a scanner in LIT or HOLD (R22). -/
def State.scnFront (s : State) (k : Fin 2) (off : Nat) : Bool :=
  let b := scnBuffer k (s.get (.scn k) SCN_STATUS_FRONT)
  s.scnFrames k && decide (b ≤ off) && decide (off < b + 0x100000)

/-- Registers of SCNk with rules of their own (R204, R218). -/
def State.scnWrite (s : State) (path : Path) (k : Fin 2) (off v : Nat) : State :=
  if off = SCN_CMD.off then s.scnCmdWrite path k v
  else if off = SCN_PTT_DATA.off then s.pttWrite path k v
  else s.plainWrite path (.scn k) off v

/-- What SCNk shows at an offset whose value does not lie in a cell: the entry at INDEX (R204), and while its domain is on t_min
and the number of the table in force (R205, R218). -/
def State.scnShow (s : State) (k : Fin 2) (off : Nat) : Option Nat :=
  let p := Page.scn k
  let t := s.inf p SCN_CFG_PTT
  if off = SCN_PTT_DATA.off then some (s.tau k (s.get p SCN_PTT_IDX_TABLE) (s.get p SCN_PTT_IDX_INDEX))
  else if !s.domOn PD_SCN then none
  else if off = SCN_MIN_SLOT.off then some (s.minSlot k t (s.inf p SCN_GEOM_PIXELS) % 2 ^ 24)
  else if off = SCN_STATUS.off then some (withBits (s.reg (p.base + off)).toNat 1 1 t)
  else none

/-- SRST of SCN, only in OFF (R36). -/
def State.scnSrst (s : State) (k : Fin 2) : State := s.modScn k fun c => { ptt := c.ptt }

end Sys2Proof.Machine
end

