-- ==== Sys2Proof/Machine/LanternCmds.lean ====
section
/-!
DEFINITION. The steps of the Lantern units (spec/06): final frame starts, the setpoint port, window edges,
level select, samples, the fallback train, and the interlock's triggers and command register.
-/

namespace Sys2Proof.Machine

/-- The mirror engine, or the scanner, that a Lantern serves. -/
def engOfLtn (x : Fin 6) : Option (Fin 4) := finOf 4 x.val
def scnOfLtn (x : Fin 6) : Option (Fin 2) := finOf 2 (x.val - 4)

/-- The state of the engine that a Lantern serves. -/
def State.unitState (s : State) (x : Fin 6) : Nat :=
  match engOfLtn x with
  | some n => s.engState n
  | none => match scnOfLtn x with | some k => s.scnState k | none => 0

/-! ### The next frame becomes final (R150, R207) -/

/-- The next start of a scanner is final from the flyback on: r is 1, and the loop takes the frame's
figures first when its last window closed at least 1 µs ago (R154, R207). -/
def State.scnFinal (s : State) (k : Fin 2) : State :=
  let x := ltnOfScn k
  let c := s.scn[k]
  let waits := s.scnState k == E_READY && c.ready.isSome && (c.start || s.infFlag (.scn k) SCN_CFG_AUTO_RELIGHT)
  if (s.scnFrames k || waits) ∧ c.lact ≤ c.line ∧ !s.ltn[x].final ∧ (s.ltnState x = LTN_ARMED ∨ s.ltnState x = LTN_RUN) then
    let s := if s.scnFrames k ∧ s.ltn[x].closeAt + usU 1 ≤ s.now then s.ltnEarly x else s
    s.ltnFinal x s 0x4000
  else s

/-- FRAME_START_FINAL (R150). -/
def execFrameStartFinal (t : Nat) (x : Fin 6) (s : State) : Out := s.step' t fun s =>
  match engOfLtn x with
  | some n => s.engFinal n
  | none => match scnOfLtn x with | some k => s.scnFinal k | none => s

/-! ### The setpoint port (R144, R145, R151, R503) -/

/-- Confirmations end 5 µs before the frame start (R151). -/
def State.portOpen (s : State) (x : Fin 6) : Bool :=
  let start := match engOfLtn x with
    | some n => (s.eng[n].fin.map (·.1)).getD (s.now + secU 1)
    | none => match scnOfLtn x with | some k => s.scn[k].pred | none => 0
  !s.ltn[x].final || decide (s.now + usU 5 ≤ start)

/-- One frame of the setpoint bus has gone and its response has come (R144): the response confirms or fails the write before,
the next frame follows, and a port that is done arms the Lantern or marks the fallback code. -/
def State.setpointFrame (s : State) (x : Fin 6) (resp : Nat) : State :=
  let sent := s.ltn[x].sent
  let s := if s.portOpen x then s else s.modLtn x fun l => { l with sent := none }
  let s := s.ltnResponse x resp
  let s := (s.modLtn x fun l => { l with sent := sent }).ltnSendNext x (!s.ltn[x].confirmed && s.portOpen x)
  if !s.ltn[x].confirmed then s
  else if s.ltn[x].loading then s.ltnArm x
  else if s.ltnState x = LTN_FALLBACK_ST ∧ s.ltn[x].markDue ∧ !s.flag (.ltn x) LTN_STATUS_WIN then s.ltnMark x
  else s

/-- SETPOINT_FRAME (R144): a port frame completes, and `resp` is what the driver returned in it. When the last
write of a load is confirmed, the frame mark is issued and the Lantern is ARMED (R503); in the fallback
train the mark waits for a dark gap (R159). -/
def execSetpointFrame (t : Nat) (x : Fin 6) (resp : Nat) (s : State) : Out := s.step' t fun s =>
  if s.domOn PD_LTN then s.setpointFrame x resp else s

/-- SETPT_DEAD (R151, R503). -/
def execSetptDead (t : Nat) (x : Fin 6) (s : State) : Out := s.step' t fun s =>
  if 16 ≤ s.ltn[x].miss ∧ !s.ltn[x].dead then
    ((s.modLtn x fun l => { l with dead := true }).raise (.ltn x) LTN_EV_SETPT_DEAD).errHw (.ltn x) ST_HW_FAULT 0x27
  else s

/-- SETPOINT_LOAD_RETRY (R503): 100 µs after it began, an unconfirmed load has failed and starts again. -/
def execSetpointLoadRetry (t : Nat) (x : Fin 6) (s : State) : Out := s.step' t fun s =>
  if s.ltn[x].loading ∧ s.ltn[x].loadAt + usU 100 ≤ s.now then (s.ltnMiss x).ltnLoad x else s

/-! ### Windows (R143, R147) -/

/-- Windows of the current frame of a mirror engine, unless the Lantern waits in ARMED for the next, and of the next one once
it is final: open, close, level. -/
def State.planned (s : State) (n : Fin 4) : List (Nat × Nat × Nat) :=
  let at' (o : Nat) (w : Nat × Nat × Nat) := (o + w.1, o + w.2.1, w.2.2)
  (if s.engFrames n ∧ s.ltnState (ltnOfEng n) ≠ LTN_ARMED then (windowsOf s.grd[n].planes).map (at' s.eng[n].sk) else []) ++
    (match s.eng[n].fin with
      | some f => (windowsOf s.grd[n].next).map (at' f.1)
      | none => [])

/-- The open and close instants of the light gate of a scanner line that begins at turning point
`tp`: 100 ns before its first slot, and at the end of its last (R205). -/
def State.lineGate (s : State) (k : Fin 2) (tp : Nat) (fwd : Bool) : Nat × Nat :=
  let n := s.scn[k].px
  let edge := s.edgeOf k tp fwd
  if fwd then (edge 0 - nsU 100, edge n) else (edge n - nsU 100, edge 0)

/-- The gates of the line under way and of the next one, for lines that are lit. -/
def State.gates (s : State) (k : Fin 2) : List (Nat × Nat × Nat) :=
  let c := s.scn[k]
  let one (tp l : Nat) : List (Nat × Nat × Nat) :=
    if l < c.lact then let g := s.lineGate k tp ((l + c.dir0) % 2 == 0); [(g.1, g.2, 0)] else []
  if s.scnLit k then one c.lastTp c.line ++ one (c.lastTp + c.half) (c.line + 1) else []

/-- All windows a Lantern knows of. -/
def State.windows (s : State) (x : Fin 6) : List (Nat × Nat × Nat) :=
  match engOfLtn x with
  | some n => s.planned n
  | none => match scnOfLtn x with | some k => s.gates k | none => []

/-- Whether the source may be lit: RUN, or ARMED of a mirror engine for the windows of the frame whose start is final, where an
edge at its very start is commanded before it (R147, R158). -/
def State.mayLight (s : State) (x : Fin 6) : Bool :=
  s.ltnState x == LTN_RUN || (s.ltnState x == LTN_ARMED && s.ltn[x].final && !scanMode x)

/-- The frame start of a mirror engine, where the last window of the frame before may end (R124). -/
def State.frameEdge (s : State) (x : Fin 6) (edge : Nat) : Bool :=
  match engOfLtn x with
  | some n => edge == s.eng[n].sk
  | none => false

/-- WINDOW_EDGE (R147): the open or close command whose edge at the source comes D_open or D_close later.
A window that goes on across a frame start has no edge there. No window below 32 ns and no gap below
100 ns is emitted (R143). -/
def execWindowEdge (t : Nat) (x : Fin 6) (on : Bool) (s : State) : Out := s.step' t fun s =>
  let ws := s.windows x
  let lit := s.flag (.ltn x) LTN_STATUS_WIN
  let edge := s.now + s.get (.ltn x) (if on then LTN_DOUT_OPEN else LTN_DOUT_CLOSE)
  if on then
    if !lit ∧ s.mayLight x ∧ s.ltn[x].closeAt + nsU 100 ≤ edge ∧
        ws.any (fun w => w.1 == edge && decide (edge + nsU 32 ≤ w.2.1)) then s.ltnWin x true edge
    else s
  else if lit ∧ (ws.any (fun w => w.2.1 == edge) || s.frameEdge x edge) ∧ !ws.any (fun w => w.1 == edge) then s.ltnWin x false edge
  else s

/-- The next window that opens after an instant. -/
def nextOpen (ws : List (Nat × Nat × Nat)) (now : Nat) : Option (Nat × Nat × Nat) :=
  (ws.filter fun w => decide (now < w.1)).foldl (fun b w =>
    match b with | none => some w | some a => if w.1 < a.1 then some w else some a) none

/-- The window whose level is to be driven next (R149): the next to open at the source or, while the source is lit, the one lit,
where it opened before the HOLD time after the last close was over. -/
def State.levelWindow (s : State) (x : Fin 6) : Option (Nat × Nat × Nat) :=
  let l := s.ltn[x]
  if s.flag (.ltn x) LTN_STATUS_WIN ∧ l.openAt ≤ s.now then
    (s.windows x).find? fun w => w.1 == l.openAt && decide (w.1 ≤ l.closeAt + nsU (s.inf (.ltn x) LTN_LSEL_TIME_HOLD))
  else nextOpen (s.windows x) s.now

/-- LSEL_CHANGE (R149): in the dark, at the later of the last close plus HOLD and the next open less SETUP; in a gap shorter than
the two at close plus HOLD, with LSEL_TIGHT. -/
def execLselChange (t : Nat) (x : Fin 6) (s : State) : Out := s.step' t fun s =>
  let p := Page.ltn x
  match s.levelWindow x with
  | none => s
  | some w =>
    let hold := nsU (s.inf p LTN_LSEL_TIME_HOLD)
    let setup := nsU (s.inf p LTN_LSEL_TIME_SETUP)
    let close := s.ltn[x].closeAt
    let tight := decide (w.1 < close + hold + setup)
    let due := if tight then close + hold else w.1 - setup
    if !s.mayLight x ∨ s.now < due ∨ s.get p LTN_STATUS_LSEL = w.2.2 then s
    else
      let s := s.put p LTN_STATUS_LSEL w.2.2
      if tight then (s.bump p LTN_LSEL_TIGHT_CNT).raise p LTN_EV_LSEL_TIGHT else s

/-! ### Samples (R153, R160) -/

/-- Whether the aperture of 100 ns that ends now is dark: 300 ns from every window. -/
def State.darkAperture (s : State) (x : Fin 6) : Bool :=
  let a0 := s.now - nsU 100
  let far := nsU 300
  !s.flag (.ltn x) LTN_STATUS_WIN && decide (s.ltn[x].closeAt + far ≤ a0) &&
    (!s.mayLight x || (s.windows x).all fun w => decide (s.now + far ≤ w.1) || decide (w.2.1 + far ≤ a0)) &&
    (!(s.ltnState x == LTN_FALLBACK_ST) || decide (s.now + far ≤ s.ltn[x].closeAt + usU 2))

/-- The level of the window the aperture is interior to, if that window counts (R153); in the fallback train every window
does (R159). -/
def State.interiorOf (s : State) (x : Fin 6) : Option (Fin 4) :=
  let a0 := s.now - nsU 100
  let minWin := nsU (s.inf (.ltn x) LTN_MEAS_MIN_WIN)
  if s.ltnState x = LTN_RUN then
    match (s.windows x).find? fun w => decide (w.1 + nsU 200 ≤ a0) && decide (s.now ≤ w.2.1) && decide (w.1 + minWin ≤ w.2.1) with
    | some w => finOf 4 w.2.2
    | none => none
  else if s.ltnState x = LTN_FALLBACK_ST ∧ s.ltn[x].openAt + nsU 200 ≤ a0 ∧ s.now ≤ s.ltn[x].openAt + s.ltn[x].fbLen ∧
      (s.flag (.ltn x) LTN_STATUS_WIN ∨ s.now ≤ s.ltn[x].closeAt) then some 0
  else none

/-- One sample of the photodiode is taken in (R153, R160): the over-power trigger, the dark figures, the error sum of a scanner
or the level figures of a mirror engine. -/
def State.photoSample (s : State) (x : Fin 6) (code : Nat) (echo : Bool) : State :=
  let (s, fire) := s.ltnSample x code echo
  let s := if s.darkAperture x then s.ltnDarkSample x code else s
  let s := if scanMode x then
      (if s.ltnState x = LTN_RUN then
        s.modLtn x fun l => { l with eSum := l.eSum + ((code * 65536 : Nat) : Int) - l.dark } else s)
    else match s.interiorOf x with
      | some j => s.ltnInterior x j code
      | none => s
  if fire then s.trip x 1 else s

/-- PD_SAMPLE (R153, R160): the aperture that ends now gave `code`; `echo` is the level of `LSx_ECHO`. -/
def execPdSample (t : Nat) (x : Fin 6) (code : Nat) (echo : Bool) (s : State) : Out := s.step' t fun s =>
  if s.domOn PD_LTN then s.photoSample x (min code 65535) echo else s

/-- RATIO_STALE (R153): a level that the program uses had no measurement for 256 frames. -/
def execRatioStale (t : Nat) (x : Fin 6) (lvl : Fin 4) (s : State) : Out := s.step' t fun s =>
  let f : RF := ⟨LTN_STATUS.off, 8 + lvl.val, 1⟩
  if !scanMode x ∧ 256 ≤ s.ltn[x].unmeas[lvl] ∧ s.get (.ltn x) f = 0 then (s.put (.ltn x) f 1).raise (.ltn x) LTN_EV_RATIO_STALE
  else s

/-! ### Triggers (R160) -/

/-- WIN_STUCK: `LSx_WIN` or `LSx_ECHO` high for longer than `LTN_WIN_MAX`; `echo` is the level seen now. -/
def execWinStuck (t : Nat) (x : Fin 6) (echo : Bool) (s : State) : Out := s.step' t fun s =>
  let s := s.ltnEcho x echo
  let lim := nsU (s.get (.ltn x) LTN_WIN_MAX)
  let win := s.flag (.ltn x) LTN_STATUS_WIN && decide (s.ltn[x].riseAt + lim < s.now)
  let ech := echo && decide (s.ltn[x].echoRise + lim < s.now)
  if s.ltnActive x ∧ (win ∨ ech) then s.trip x 2 else s

/-- What the check 20 µs after a link's loss sees is recorded: the echo, and when light was last seen. -/
def State.lossSeen (s : State) (x : Fin 6) (echo : Bool) (pd : Nat) : State :=
  (s.ltnEcho x echo).modLtn x fun l => { l with
    lossAt := none, lastLit := if s.offDark x pd then s.now else l.lastLit }

/-- LINK_LIT_CHECK: 20 µs after a link-loss report the source is still lit; `pd` is the sample seen now. -/
def execLinkLitCheck (t : Nat) (x : Fin 6) (echo : Bool) (pd : Nat) (s : State) : Out := s.step' t fun s =>
  match s.ltn[x].lossAt with
  | none => s
  | some a =>
    if s.now < a + usU 20 then s
    else
      let bright := decide (s.get (.ltn x) LTN_DARK + 1024 ≤ pd)
      let s := s.lossSeen x echo pd
      if (s.ltnActive x || s.tripped x) ∧ (echo ∨ bright) then s.trip x 3 else s

/-- What is read back from the kill pin is recorded: its level while it differs, and since when. -/
def State.pinSeen (s : State) (x : Fin 6) (pin : Bool) (dur : Nat) : State :=
  let differs := pin != s.ltn[x].killN
  s.modLtn x fun l => { l with
    pinRead := if differs then some pin else none, pinSince := if l.mismatch || differs then s.now - dur else l.pinSince }

/-- PIN_MISMATCH: the read-back of `LSx_KILL_N` has been at `pin` for `dur` units. A difference from the
driven level for more than 1 µs trips the interlock. -/
def execPinMismatch (t : Nat) (x : Fin 6) (pin : Bool) (dur : Nat) (s : State) : Out := s.step' t fun s =>
  let differs := pin != s.ltn[x].killN
  let s := s.pinSeen x pin dur
  if differs ∧ usU 1 < dur ∧ (s.ltnActive x ∨ s.tripped x) then
    (s.trip x 7).modLtn x fun l => { l with pinSince := s.now }
  else s

/-! ### The interlock command register (R162, R163) -/

/-- CLEAR (R162): without effect when not TRIPPED. -/
def State.ilkClear (s : State) (path : Path) (x : Fin 6) : State :=
  let p := Page.ltn x
  if pathCode path ≠ 0 then s.err p (pathCode path) LTN_ILK_CMD.off ST_STATE_REJECT 0x15
  else if !s.tripped x then s
  else if s.causePresent x (s.scnGone x) then s.err p (pathCode path) LTN_ILK_CMD.off ST_STATE_REJECT 0x14
  else s.ltnUnlatch x (s.unitState x == E_OFF)

/-- TEST (R163): from the MP in OFF and ARMED while the engine is in OFF, TRAIN or READY. -/
def State.ilkTest (s : State) (path : Path) (x : Fin 6) : State :=
  let p := Page.ltn x
  let st := s.ltnState x
  let e := s.unitState x
  if pathCode path ≠ 0 then s.err p (pathCode path) LTN_ILK_CMD.off ST_STATE_REJECT 0x15
  else if (st = LTN_OFF ∨ st = LTN_ARMED) ∧ (e = E_OFF ∨ e = E_TRAIN ∨ e = E_READY) then s.trip x 6
  else s.err p (pathCode path) LTN_ILK_CMD.off ST_STATE_REJECT 0x16

/-- A write to a Lantern page. -/
def State.ltnWrite (s : State) (path : Path) (x : Fin 6) (off v : Nat) : State :=
  if off = LTN_ILK_CMD.off then
    match bitsOf v 0 4 with
    | 1 => s.ilkClear path x
    | 2 => s.ilkTest path x
    | _ => s.err (.ltn x) (pathCode path) LTN_ILK_CMD.off ST_BAD_OPCODE 0x17
  else s.ltnPlainWrite path x off v

/-- What a Lantern shows at an offset whose value does not lie in a cell. -/
def State.ltnShow (s : State) (x : Fin 6) (off : Nat) : Option Nat :=
  if off = LTN_ILK_STAT.off then some (s.ilkStat x (s.scnGone x)) else none

/-- `BLK_CTRL.EN` of a Lantern (R158): set, it loads for ARMED; cleared, ARMED goes OFF, which RUN and
FALLBACK refuse (R36). -/
def State.ltnEnable (s : State) (x : Fin 6) (en : Bool) : State :=
  if en then s.ltnWantArm x (s.unitState x)
  else if s.ltnState x = LTN_ARMED ∨ s.ltn[x].loading then (s.ltnOffPins x).ltnTo x LTN_OFF
  else s

/-! ### The fallback train (R159) -/

/-- The train starts once the PARK pattern is confirmed in SAFE; after a link loss had cut it, it goes on then. -/
def State.fallbackTry (s : State) (n : Fin 4) : State :=
  let x := ltnOfEng n
  if s.engState n = E_SAFE ∧ s.ltnState x = LTN_ARMED ∧ s.flag (.ltn x) LTN_FALLBACK_MODE ∧
      s.flag (.sxl n) SXL_STATUS_PARK_CONFIRMED then s.fallbackStart x
  else if s.ltnState x = LTN_FALLBACK_ST ∧ s.flag (.sxl n) SXL_STATUS_PARK_CONFIRMED then s.modLtn x fun l => { l with cut := false }
  else s

/-- FALLBACK_WINDOW: the window of W_fb, as it was at its opening, closes, and a due frame mark is placed in the gap; 2 µs later the next
one opens. -/
def execFallbackWindow (t : Nat) (x : Fin 6) (s : State) : Out := s.step' t fun s =>
  if s.ltnState x ≠ LTN_FALLBACK_ST then s
  else if s.flag (.ltn x) LTN_STATUS_WIN then
    if s.ltn[x].openAt + s.ltn[x].fbLen ≤ s.now then
      let s := s.ltnWin x false s.now
      if s.ltn[x].markDue ∧ s.ltn[x].confirmed then s.ltnMark x else s
    else s
  else if s.ltn[x].fbReady ∧ !s.ltn[x].cut ∧ s.ltn[x].closeAt + usU 2 ≤ s.now then
    (s.ltnWin x true s.now).modLtn x fun l => { l with fbLen := s.fallbackWin x }
  else s

/-- The fallback loop at the end of a refresh period (R154, R159): F against `LTN_FALLBACK_TGT`, with s = λ_eff. -/
def State.fallbackLoop (s : State) (x : Fin 6) : State :=
  let p := Page.ltn x
  let tgt := s.get p LTN_FALLBACK_TGT
  match s.ltn[x].flux false with
  | none => s
  | some f =>
    let s := s.put p LTN_FLUX_LAST (ratReg f)
    if tgt = 0 then s
    else
      let (g, sat) := loopStep s.ltn[x].gFb tgt f (s.inf p LTN_LOOP_KI) (s.inf p LTN_LOOP_MAXSTEP)
      let s := (s.modLtn x fun l => { l with gFb := g }).put p LTN_STATUS_LOOP_SAT (ofBool sat)
      if sat then (s.bump p LTN_LOOP_SAT_CNT).raise p LTN_EV_LOOP_SAT else s

/-- The loop of the fallback train takes the figures of 100 ms, and its code is written anew (R159). -/
def State.fallbackRefresh (s : State) (x : Fin 6) : State :=
  let s := (s.fallbackLoop x).ltnDarkMean x
  let s := s.modLtn x fun l => { l with
    sum := #v[0, 0, 0, 0], cnt := #v[0, 0, 0, 0], darkSum := 0, darkCnt := 0, refreshAt := l.refreshAt + msU 100 }
  s.fallbackWrite x

/-- FALLBACK_REFRESH: every 100 ms the loop acts, λ_eff is taken again, and the code is written with a new
frame mark. -/
def execFallbackRefresh (t : Nat) (x : Fin 6) (s : State) : Out := s.step' t fun s =>
  if s.ltnState x = LTN_FALLBACK_ST ∧ s.ltn[x].refreshAt ≤ s.now then s.fallbackRefresh x else s

/-- FALLBACK_DARK: no confirmation 10 ms after SAFE began, reported once per entry. -/
def execFallbackDark (t : Nat) (x : Fin 6) (s : State) : Out := s.step' t fun s =>
  match s.ltn[x].safeAt, engOfLtn x with
  | some a, some n =>
    if s.engState n = E_SAFE ∧ s.flag (.ltn x) LTN_FALLBACK_MODE ∧ s.ltnState x ≠ LTN_FALLBACK_ST ∧
        !s.flag (.sxl n) SXL_STATUS_PARK_CONFIRMED ∧ !s.ltn[x].darkRaised ∧ a + msU 10 ≤ s.now then
      (s.modLtn x fun l => { l with darkRaised := true }).raise (.ltn x) LTN_EV_FALLBACK_DARK
    else s
  | _, _ => s

end Sys2Proof.Machine
end

