-- ==== Sys2Proof/Machine/LinkCmds.lean ====
section
/-!
DEFINITION. The steps of the Selxis links (spec/07): training, the sideband and its polls, step-downs and
probes, losses, the latency marks and PARK stores.
-/

namespace Sys2Proof.Machine

/-! ### Training (R187–R189) -/

/-- Training fails (R187, R188): the link's record, and LINK_DEAD at the engine. -/
def State.trainDead (s : State) (n : Fin 4) (detail : Nat) : State := (s.trainFail n detail).engLinkDead n

/-- Rates that training visits: from RATE_MAX down, as far as the array supports them (R187). -/
def State.visits (s : State) (n : Fin 4) (rate : Nat) : Bool :=
  decide (s.inf (.sxl n) SXL_CFG_RATE_MAX ≤ rate) && decide (rate ≤ 2) &&
    bitOf (s.get (.sxl n) SXL_ARRAY_CAP_CAP) (12 + rate)

/-- The limit of a training step, in step 4 of one rate, and the detail it fails with (R187). Steps 3 to 5 have no detail of their
own in the table: a silent sideband is SB_DEAD, and no trained rate is NO_CONFIG (log entry 41). -/
def State.stepLimit (s : State) (n : Fin 4) : Nat × Nat :=
  match s.sxl[n].step with
  | 1 => (usU 200, SXL_PLL_LOCK)
  | 2 => (msU 1, SXL_SB_DEAD)
  | 3 => (usU 500, SXL_SB_DEAD)
  | 4 => (msU 8, SXL_NO_CONFIG)
  | _ => (usU 300, SXL_NO_CONFIG)

/-- TRAINING_STEP_TIMEOUT (R187). -/
def execTrainingStepTimeout (t : Nat) (n : Fin 4) (s : State) : Out := s.step' t fun s =>
  let (lim, detail) := s.stepLimit n
  if s.sxl[n].step ≠ 0 ∧ s.sxl[n].stepAt + lim ≤ s.now then s.trainDead n detail else s

/-- Of what training measured, the rates that it tries (R187). -/
def State.measured (s : State) (n : Fin 4) (ms : List RateMeas) : List RateMeas :=
  ms.filter fun m => m.tried && s.visits n m.rate

/-- The geometry in force fits the array (R114). -/
def State.geomFits (s : State) (n : Fin 4) : Bool :=
  decide (s.inf (.eng n) ENG_GEOM_WIDTH ≤ s.get (.sxl n) SXL_ARRAY_GEOM_WIDTH) &&
    decide (s.inf (.eng n) ENG_GEOM_HEIGHT ≤ s.get (.sxl n) SXL_ARRAY_GEOM_HEIGHT)

/-- TRAINING_DONE (R114, R188): the geometry is checked, the measurements at every visited rate are judged, and the best rank
comes up. An array too small for the geometry fails like one without a rank (log entry 41). -/
def execTrainingDone (t : Nat) (n : Fin 4) (ms : List RateMeas) (s : State) : Out := s.step' t fun s =>
  if s.sxl[n].step < 4 then s
  else
    let s := s.keepRates n (s.measured n ms)
    match s.geomFits n, s.bestRank n with
    | true, some (g, r) => (s.linkRise n g r).engLinkUp n
    | _, _ => s.trainDead n SXL_NO_CONFIG

/-! ### Latency calibration (R180) -/

/-- The link sends a MARK 10 µs ahead, which drives an echo edge at its stamp (R172, R180), with at most four outstanding (R176). -/
def State.sendMark (s : State) (n : Fin 4) : State :=
  let stamp := (s.linkTime (s.sendRate n) + usU 10 * rateG (s.sendRate n) / 16) % 2 ^ 48
  if 4 ≤ s.sxl[n].markOut.length then s
  else (s.linkTx n [linkCommand 0xC3 0 0 0 stamp]).modSxl n fun l => { l with markOut := l.markOut ++ [stamp] }

/-- A pass begins with a SYNC after `LAT_COMP` is written, and its first MARK (R180). -/
def State.passStart (s : State) (n : Fin 4) (fine : Bool) (lat : Nat) : State :=
  let s := (s.linkSync n s.sxl[n].calRate lat).modSxl n fun l => { l with
    fine := fine, markSum := 0, markCnt := 0, markMin := 0, markMax := 0, markOut := [] }
  s.sendMark n

/-- Training step 4 visits a rate (R187): LINK_CFG is written and TS1 goes out on every present lane. -/
def State.visitRate (s : State) (n : Fin 4) (rate : Nat) : State :=
  s.modSxl n fun l => { l with
    calRate := rate, fine := false, stepAt := s.now, markSum := 0, markCnt := 0, markMin := 0, markMax := 0, markOut := []
    linkCfg := s.linkCfgOf n (s.get (.sxl n) SXL_ARRAY_CAP_GROUPS) rate, latComp := 0, os := some .ts1 }

/-- The next rate below one that training visits; after the last, step 5 selects the rank (R187). -/
def State.visitNext (s : State) (n : Fin 4) (from' : Nat) : State :=
  match (List.range 3).find? fun r => decide (from' ≤ r) && s.visits n r with
  | some r => (s.modSxl n fun l => { l with step := 4 }).visitRate n r
  | none => s.modSxl n fun l => { l with step := 5, stepAt := s.now }

/-- A sample of a training pass (R180): after 16 the coarse mean gives `LAT_COMP` and the fine pass begins; after 256 the fine mean
is ε, and the next rate is visited. A pass out of range fails training with LAT_RANGE. -/
def State.trainMark (s : State) (n : Fin 4) (sample : Int) (stamp : Nat) : State :=
  let s := s.modSxl n fun l => { l with
    markSum := l.markSum + sample, markCnt := l.markCnt + 1, markOut := l.markOut.erase stamp
    markMin := if l.markCnt = 0 then sample else min l.markMin sample
    markMax := if l.markCnt = 0 then sample else max l.markMax sample }
  let l := s.sxl[n]
  let mean := roundDivI l.markSum l.markCnt
  if !l.fine then
    if l.markCnt < 16 then s.sendMark n
    else if coarseOk mean then s.passStart n true (roundDivI (mean * rateG l.calRate) 256).toNat
    else s.trainDead n SXL_LAT_RANGE
  else if l.markCnt < 256 then s.sendMark n
  else if fineOk l.calRate mean (l.markMax - l.markMin) then
    (s.modSxl n fun l => { l with lats := l.lats.set! l.calRate (some (l.latComp, mean)) }).visitNext n (l.calRate + 1)
  else s.trainDead n SXL_LAT_RANGE

/-- MARK_ECHO (R180): a time-stamped echo edge, in 1/16 of 62.5 ps, of the MARK with `stamp`: a sample of training's pass, or of
the measurement that the Percolator repeats while the link runs, for which the next MARK goes out. -/
def execMarkEcho (t : Nat) (n : Fin 4) (echo : Int) (stamp : Nat) (s : State) : Out := s.step' t fun s =>
  if s.sxl[n].step = 4 then s.trainMark n (s.markSample n echo stamp) stamp
  else if s.sxlState n = SXL_ACTIVE then
    s.modSxl n fun l => { l with
      markSum := l.markSum + s.markSample n echo stamp, markCnt := l.markCnt + 1, markOut := l.markOut.erase stamp }
  else s

/-! ### Counters the array reports (R177, R179) -/

/-- The plane of the current frame that a slot of the array last held for a block (R131). -/
def State.planeOfSlot (s : State) (n : Fin 4) (slot block : Nat) : Nat :=
  let g := s.grd[n]
  let q := s.slotCount n
  let c := (g.loaded.filter fun l => l.2 == block && s.slotPlane n l.1 % q == slot).foldl (fun m l => max m l.1) g.base
  c - g.base

/-- `k` CRC failures that the array reports are counted; their block and plane come with ERR_INFO (R179, R183). -/
def State.arrayCrc (s : State) (n : Fin 4) (k : Nat) : State :=
  if k = 0 then s
  else
    let s := (s.count (.sxl n) SXL_CRC_CNT k).raise (.sxl n) SXL_EV_CRC_ERR
    s.modSxl n fun l => { l with crcWin := l.crcWin + k, crcOwed := l.crcOwed + k }

/-- `k` underruns of a block and plane (R110, R179). -/
def State.engUnderruns (s : State) (n : Fin 4) (plane block : Nat) : Nat → State
  | 0 => s
  | k + 1 => (s.engUnderruns n plane block k).engUnderrun n plane block

/-- ERR_INFO is read (R179): every CRC failure counted since the last reading is one underrun of its block and plane. Outside
frames no frame is marked for `UNDERRUN_LIMIT`. -/
def State.arrayErr (s : State) (n : Fin 4) (errInfo : Nat) : State :=
  let k := s.sxl[n].crcOwed
  let s := s.modSxl n fun l => { l with errInfo := errInfo, crcOwed := 0 }
  let b := bitsOf errInfo 8 5
  let e := s.eng[n]
  let f := s.engFrames n
  let s := s.engUnderruns n (s.planeOfSlot n (bitsOf errInfo 0 3) b) b k
  if f then s else s.modEng n fun g => { g with ur := e.ur, urCnt := e.urCnt }

/-- `k` late commands. -/
def State.arrayLate (s : State) (n : Fin 4) (k : Nat) : State :=
  if k = 0 then s else (s.count (.sxl n) SXL_LATE_CMD_CNT k).raise (.sxl n) SXL_EV_LATE_CMD

/-- A LINK_STAT read (R183, R185, R192): its fields, the loss it may show, and the fallback train that a PARK
confirmation starts (R159). -/
def State.statRead (s : State) (n : Fin 4) (v : Nat) : State :=
  let s := s.linkStatRead n v
  let s := if s.linkStatLoss n v then s.engLinkLoss n SXL_LANE_LOSS (bitsOf v 0 4) else s
  s.fallbackTry n

/-! ### The sideband (R181, R182) -/

/-- `k` good reads of which the last has address `addr`: their requests take `k` tags (R181). -/
def State.sbReads (s : State) (n : Fin 4) (k addr : Nat) : State :=
  s.modSxl n fun l => { l with
    tag := (l.tag + k) % 16, retried := false, failed := 0, sbdo := sbRequest 1 ((l.tag + k - 1) % 16) addr 0 }

/-- A sideband error (R181): counted; the request is retried once, then the transaction has failed. -/
def State.sbError (s : State) (n : Fin 4) : State :=
  let s := (s.bump (.sxl n) SXL_SB_ERR_CNT).raise (.sxl n) SXL_EV_SB_ERR
  s.modSxl n fun l => { l with
    tag := (l.tag + 1) % 16
    failed := if l.retried then l.failed + 1 else l.failed
    retried := !l.retried }

/-- The lane PLL of step 1 is locked as soon as the sideband is used (R187). -/
def State.sbStep1 (s : State) (n : Fin 4) : State :=
  if s.sxl[n].step = 1 then s.modSxl n fun l => { l with step := 2, stepAt := s.now } else s

/-- Step 2 has read 0x00–0x08, and step 3 has written `PARK_DEFAULT` and `FILL_ON_ERR` (R187). -/
def readAll : Nat := 0x1FF
def wroteBoth : Nat := 0x600

/-- Training steps 2 to 4 as the sideband carries them out (R187, R189): the identity is judged when both its registers are read.
In step 4 the last EYE register leads to TS2, and a LINK_STAT that shows the lanes deskewed to the coarse pass. -/
def State.sbTrain (s : State) (n : Fin 4) (op addr data : Nat) : State :=
  let st := s.sxl[n].step
  let bit := if op = 1 ∧ addr ≤ 8 then addr else if op = 2 ∧ addr = 0x14 then 9 else if op = 2 ∧ addr = 0x15 then 10 else 11
  let s := if st = 2 ∨ st = 3 then s.modSxl n fun l => { l with seen := l.seen ||| 2 ^ bit } else s
  let seen := s.sxl[n].seen
  if st = 2 ∧ op = 1 ∧ addr ≤ 1 ∧ seen % 4 = 3 ∧ !s.idPass n then s.trainDead n SXL_ID_MISMATCH
  else if st = 2 ∧ seen &&& readAll = readAll then s.modSxl n fun l => { l with step := 3, stepAt := s.now, seen := 0 }
  else if st = 3 ∧ seen &&& wroteBoth = wroteBoth then
    let s := (s.modSxl n fun l => { l with step := 4, stepAt := s.now }).sxlTo n SXL_TRAINING
    if (List.range 3).any (s.visits n) then s.visitNext n 0 else s
  else if st = 4 ∧ op = 1 ∧ addr = 0x3F then s.modSxl n fun l => { l with os := some .ts2 }
  else if st = 4 ∧ op = 1 ∧ addr = 0x20 ∧ bitOf data 4 ∧ !s.sxl[n].fine ∧ s.sxl[n].markCnt = 0 ∧ s.sxl[n].markOut = [] then
    s.passStart n false 0
  else s

/-- The request frame of the present tag on `SXLn_SBDO` (R181). -/
def State.sbSend (s : State) (n : Fin 4) (op addr data : Nat) : State :=
  s.modSxl n fun l => { l with sbdo := sbRequest op l.tag addr data }

/-- A write of one of the array's registers (R182); LINK_CFG in training step 4 leads to the rate it names (R187). -/
def State.sbWrite (s : State) (n : Fin 4) (addr data : Nat) : State :=
  match addr with
  | 0x10 =>
    let s := if s.sxl[n].step = 4 ∧ data % 4 ≠ s.sxl[n].calRate ∧ s.visits n (data % 4) then s.visitRate n (data % 4) else s
    s.modSxl n fun l => { l with linkCfg := data }
  | 0x11 => s.modSxl n fun l => { l with latComp := data % 65536 * 65536 + l.latComp % 65536 }
  | 0x12 => s.modSxl n fun l => { l with latComp := l.latComp / 65536 * 65536 + data % 65536 }
  | 0x14 => s.modSxl n fun l => { l with parkDefault := data % 4 }
  | 0x15 => s.modSxl n fun l => { l with fillOnErr := data % 2 }
  | _ => s

/-- A sideband exchange with a good response (R181): the tag advances, the sideband is up, and a response without an error code
has its effect. -/
def State.sbDone (s : State) (n : Fin 4) (op addr data resp : Nat) : State :=
  let up := s.flag (.sxl n) SXL_STATUS_SB_OK
  let s := s.modSxl n fun l => { l with tag := (l.tag + 1) % 16, retried := false, failed := 0 }
  let s := s.put (.sxl n) SXL_STATUS_SB_OK 1
  let s := if s.engState n = E_TRAIN ∧ (!up ∨ s.sxl[n].park ≠ some 0) then s.linkPark n 0 else s
  if bitsOf resp 36 4 ≠ 0 then s
  else
    let d := bitsOf resp 8 16
    let s :=
      if op = 1 then
        (if addr = 0x20 then s.statRead n d
        else if addr = 0x22 then s.arrayCrc n d
        else if addr = 0x23 then s.arrayLate n d
        else if addr = 0x24 then s.arrayErr n d
        else s.sbRead n addr d)
      else if op = 2 then s.sbWrite n addr data
      else if op = 3 then (if bitOf data 8 then s.linkPark n (data % 4) else s.linkRelease n)
      else s
    s.sbTrain n op addr d

/-- SIDEBAND_TRANSACTION (R181): the request frame with OP, ADDR and DATA goes out, and the 40-bit response `resp` comes back. -/
def execSidebandTransaction (t : Nat) (n : Fin 4) (op addr data resp : Nat) (s : State) : Out := s.step' t fun s =>
  if !s.sbRuns n then s
  else
    let s := (s.sbStep1 n).sbSend n op addr data
    if sbOk s.sxl[n].tag resp then s.sbDone n op addr data resp else s.sbError n

/-- SIDEBAND_TIMEOUT (R181). -/
def execSidebandTimeout (t : Nat) (n : Fin 4) (s : State) : Out := s.step' t fun s =>
  if s.sbRuns n then (s.sbStep1 n).sbError n else s

/-- SB_DEAD (R181): three consecutive failed transactions. -/
def execSbDead (t : Nat) (n : Fin 4) (s : State) : Out := s.step' t fun s =>
  if s.sxl[n].failed < 3 then s
  else
    let s := s.modSxl n fun l => { l with failed := 0 }
    if s.sxl[n].step ≠ 0 then s.trainDead n SXL_SB_DEAD
    else if s.linkUp n then s.engLinkLoss n SXL_SB_DEAD s.sxl[n].locked
    else ((s.put (.sxl n) SXL_STATUS_SB_OK 0).sxlTo n SXL_DOWN).errHw (.sxl n) ST_HW_FAULT SXL_SB_DEAD

/-- The answer to ATTN (R183): LINK_STAT, unless a periodic read at this instant has read it (R193), then the counters, then
ERR_INFO. -/
def State.attnRead (s : State) (n : Fin 4) (linkStat crc late errInfo : Nat) : State :=
  let once := s.sxl[n].pollAt == some s.now
  let s := s.sbReads n (if once then 3 else 4) 0x24
  (((if once then s else s.statRead n linkStat).arrayCrc n crc).arrayLate n late).arrayErr n errInfo

/-- ATTN (R183). -/
def execAttn (t : Nat) (n : Fin 4) (linkStat crc late errInfo : Nat) (s : State) : Out := s.step' t fun s =>
  if s.sbRuns n ∧ s.flag (.sxl n) SXL_STATUS_SB_OK then s.attnRead n linkStat crc late errInfo else s

/-- A periodic read of LINK_STAT (R183). -/
def State.statPoll (s : State) (n : Fin 4) (linkStat : Nat) : State :=
  ((s.sbReads n 1 0x20).modSxl n fun l => { l with pollAt := some s.now }).statRead n linkStat

/-- LINK_STAT_POLL (R183): every 1 ms. -/
def execLinkStatPoll (t : Nat) (n : Fin 4) (linkStat : Nat) (s : State) : Out := s.step' t fun s =>
  if s.sbRuns n ∧ s.flag (.sxl n) SXL_STATUS_SB_OK ∧ s.sxl[n].statAt + msU 1 ≤ s.now then s.statPoll n linkStat else s

/-- TEMP_POLL (R183): every 100 ms. -/
def execTempPoll (t : Nat) (n : Fin 4) (temp : Nat) (s : State) : Out := s.step' t fun s =>
  if s.sbRuns n ∧ s.flag (.sxl n) SXL_STATUS_SB_OK ∧ s.sxl[n].tempAt + msU 100 ≤ s.now then
    ((s.sbReads n 1 0x08).sbRead n 0x08 temp).modSxl n fun l => { l with tempAt := s.now }
  else s

/-! ### Step-downs, probes and rank changes (R190, R191) -/

/-- A decision applies at once while the engine shows no frames (R191). -/
def State.decideNow (s : State) (n : Fin 4) : State :=
  if s.engFrames n then s
  else match s.linkPending n with
    | some w => if s.sxl[n].change.isSome then s.linkChangeNow n w else s
    | none => s

/-- The worst eye of a group. -/
def groupEye (eyes : Vector Nat 16) (g : Nat) : Nat :=
  (List.range 4).foldl (fun m j => min m (eyes.toList.getD (4 * g + j) 0)) (eyes.toList.getD (4 * g) 0)

/-- A group in use whose eye was low three times: dropped, or one rate lower with two groups in use (R190). -/
def State.eyeStep (s : State) (n : Fin 4) (g : Nat) : State :=
  let (set, rate) := s.linkGoal n
  let s := s.modSxl n fun l => { l with low := l.low.set! g 0 }
  if !bitOf set g then s
  else if 3 ≤ groupCount set then s.stepDown n (set - 2 ^ g) rate
  else s.stepDown n set (rate + 1)

/-- The eyes of the lanes are shown, and a group low three times in a row steps down (R190). -/
def State.eyePoll (s : State) (n : Fin 4) (eyes : Vector Nat 16) : State :=
  let s := ((s.sbReads n 16 0x3F).modSxl n fun l => { l with eyeAt := s.now }).eyeShow n eyes
  let deg := s.inf (.sxl n) SXL_EYE_DEGRADE
  let set := (s.linkSet n).1
  let s := s.modSxl n fun l => { l with
    low := Vector.ofFn fun i => if bitOf set i.val ∧ groupEye eyes i.val < deg then l.low[i] + 1 else 0 }
  if s.infFlag (.sxl n) SXL_CFG_AUTO_STEP then
    ((List.range 4).foldl (fun s g => if 3 ≤ s.sxl[n].low.toList.getD g 0 then s.eyeStep n g else s) s).decideNow n
  else s

/-- EYE_POLL (R183, R190): every 100 ms while ACTIVE. -/
def execEyePoll (t : Nat) (n : Fin 4) (eyes : Vector Nat 16) (s : State) : Out := s.step' t fun s =>
  if s.sxlState n ≠ SXL_ACTIVE ∨ s.now < s.sxl[n].eyeAt + msU 100 then s else s.eyePoll n eyes

/-- A window of 1 s ends: the failures in it are compared with `SXL_CRC_LIMIT` (R190). -/
def State.crcWindow (s : State) (n : Fin 4) : State :=
  let hit := decide (s.inf (.sxl n) SXL_CRC_LIMIT_CRC ≤ s.sxl[n].crcWin)
  let s := s.modSxl n fun l => { l with crcAt := l.crcAt + secU 1, crcWin := 0 }
  if hit ∧ s.infFlag (.sxl n) SXL_CFG_AUTO_STEP ∧ s.sxlState n = SXL_ACTIVE then
    let (set, rate) := s.linkGoal n
    (s.stepDown n set (rate + 1)).decideNow n
  else s

/-- CRC_WINDOW (R190): the end of a 1 s window from link up. -/
def execCrcWindow (t : Nat) (n : Fin 4) (s : State) : Out := s.step' t fun s =>
  if !s.linkUp n ∨ s.now < s.sxl[n].crcAt + secU 1 then s else s.crcWindow n

/-- The groups out of use are probed, and one that passes three times in a row rejoins (R190), beside another that is about to;
while a step-down is pending the pass is discarded (R193). -/
def State.groupProbe (s : State) (n : Fin 4) (pass : Nat) : State :=
  let p := Page.sxl n
  let idle (g : Nat) : Bool := bitOf (s.inf p SXL_CFG_GROUP_EN) g && bitOf (s.get p SXL_ARRAY_CAP_GROUPS) g && !bitOf (s.linkSet n).1 g
  let s := s.modSxl n fun l => { l with
    probeAt := s.now, probes := Vector.ofFn fun i => if idle i.val ∧ bitOf pass i.val then l.probes[i] + 1 else 0 }
  ((List.range 4).foldl (fun s g =>
    if 3 ≤ s.sxl[n].probes.toList.getD g 0 then
      let s := s.modSxl n fun l => { l with probes := l.probes.set! g 0 }
      let (set, rate) := s.linkSet n
      let (goal, grate) := s.linkGoal n
      if goal &&& set = set ∧ grate = rate then
        (s.modSxl n fun l => { l with change := some (goal ||| 2 ^ g, rate, s.now) }).raise p SXL_EV_GROUP_RESTORED
      else s
    else s) s).decideNow n

/-- GROUP_PROBE (R190): every PROBE_MS the enabled and present groups not in use are probed; `pass` has a bit
for each that locked with its eye. The third pass in a row makes a group rejoin, unless a step-down is
pending (R193). -/
def execGroupProbe (t : Nat) (n : Fin 4) (pass : Nat) (s : State) : Out := s.step' t fun s =>
  let p := Page.sxl n
  if s.sxlState n ≠ SXL_ACTIVE ∨ !s.infFlag p SXL_CFG_PROBE_EN ∨ s.now < s.sxl[n].probeAt + msU (s.get p SXL_RETRY_PROBE_MS) then s
  else s.groupProbe n pass

/-! ### Losses (R192) -/

/-- RATE_SWITCH_TIMEOUT: a rate switch not complete within 4 µs. -/
def execRateSwitchTimeout (t : Nat) (n : Fin 4) (s : State) : Out := s.step' t fun s =>
  match s.sxl[n].switchAt with
  | some a => if s.linkUp n ∧ a + usU 4 ≤ s.now then s.engLinkLoss n SXL_LANE_LOSS s.sxl[n].locked else s
  | none => s

/-- LINK_LOSS: the lane PLL lost lock (`pll`), or lock, deskew or sync was lost; `groups` are still locked. -/
def execLinkLoss (t : Nat) (n : Fin 4) (pll : Bool) (groups : Nat) (s : State) : Out := s.step' t fun s =>
  if s.linkUp n then s.engLinkLoss n (if pll then SXL_PLL_LOCK else SXL_LANE_LOSS) groups else s

/-! ### PARK stores and the SXL page (R185, R186, R194) -/

/-- A write of `SXL_PARK_LOAD` with GO (R186): the block packets of one bit plane of a buffer, with DEST PARK2
or PARK3. -/
def State.parkLoad (s : State) (path : Path) (n : Fin 4) (v : Nat) : State :=
  let p := Page.sxl n
  let pat := bitsOf v 1 2
  if v % 2 = 0 then s
  else if pat < 2 then s.err p (pathCode path) SXL_PARK_LOAD.off ST_BAD_PARAM 0x12
  else if s.engState n ≠ E_READY then s.err p (pathCode path) SXL_PARK_LOAD.off ST_STATE_REJECT 0x11
  else
    let buf := bitsOf v 3 1
    let bit := bitsOf v 4 5
    let w := s.inf (.eng n) ENG_GEOM_WIDTH
    let h := s.inf (.eng n) ENG_GEOM_HEIGHT
    let cnt := s.blockCount n
    let items := (List.range cnt).flatMap fun b =>
      blockPacket (pat - 1) b 0 (blockRow0 h cnt b) (blockRows h cnt b) w ((s.sxl[n].seq + b) % 2 ^ 32) fun px py =>
        bitOf (s.engPixel n buf w px py) bit
    (s.linkTxPackets n items cnt).modSxl n fun l => { l with parkWait := true }

/-- A write to an SXL page. -/
def State.sxlWrite (s : State) (path : Path) (n : Fin 4) (off v : Nat) : State :=
  if off = SXL_PARK_LOAD.off then s.parkLoad path n v else s.plainWrite path (.sxl n) off v

/-- A write to an ENG page: commands, and `ENG_SAFE.PARK`, which the sideband passes on (R185). -/
def State.engWrite (s : State) (path : Path) (n : Fin 4) (off v : Nat) : State :=
  if off = ENG_CMD.off then s.engCmdWrite path n v
  else
    let s := s.plainWrite path (.eng n) off v
    if off = ENG_SAFE.off ∧ s.flag (.sxl n) SXL_STATUS_SB_OK then
      s.modSxl n fun l => { l with parkDefault := s.get (.eng n) ENG_SAFE_PARK } else s

/-- SRST of SXL, only in DOWN (R36), and of GRD, only in IDLE: what they keep starts again. -/
def State.sxlSrst (s : State) (n : Fin 4) : State := s.modSxl n fun _ => {}
def State.grdSrst (s : State) (n : Fin 4) : State := s.modGrd n fun _ => {}

end Sys2Proof.Machine
end

