-- ==== Sys2Proof/Machine/ScannerCmds.lean ====
section
/-!
DEFINITION. The steps of the scanner engines (spec/08): turning points, monitoring, pixels, frame starts, spin-up
and ramp-down; and UNDERRUN_PERSIST of engines and scanners (R111, R214).
-/

namespace Sys2Proof.Machine

/-- TURNING_POINT (R208): the sensed peak, the phase lag in 1/65536 of a turn, and whether the phase loop is
locked. -/
def execTurningPoint (t : Nat) (k : Fin 2) (peak lag : Nat) (locked : Bool) (s : State) : Out := s.step' t fun s =>
  s.turningPoint k peak lag locked

/-- TURNING_POINT_MISSED (R211): none within 1.25 H of its prediction; reported once, while monitoring is armed. -/
def execTurningPointMissed (t : Nat) (k : Fin 2) (s : State) : Out := s.step' t fun s =>
  let c := s.scn[k]
  if c.running ∧ !c.missed ∧ c.lastTp + 9 * c.half / 4 ≤ s.now then
    (s.modScn k fun c => { c with missed := true }).ampLoss k SCN_AMP_LOST
  else s

/-- SLOW_AXIS_CHECK (R211): `err` is the distance of the sense from the expected position, codes, at the middle
of a line. A run of such lines is reported once. -/
def execSlowAxisCheck (t : Nat) (k : Fin 2) (err : Nat) (s : State) : Out := s.step' t fun s =>
  let p := Page.scn k
  if !s.scn[k].running then s
  else
    let bad := decide (s.inf p SCN_SLOW_TOL_TOL < err)
    let s := s.modScn k fun c => { c with slowBad := if bad then c.slowBad + 1 else 0 }
    if s.scn[k].slowBad = s.inf p SCN_SLOW_TOL_COUNT ∧ bad then s.ampLoss k SCN_SLOW_LOST else s

/-- LMOD_UPDATE (R205). -/
def execLmodUpdate (t : Nat) (k : Fin 2) (s : State) : Out := s.step' t fun s => s.lmodUpdate k

/-- SCN_UNDERRUN (R214). -/
def execScnUnderrun (t : Nat) (k : Fin 2) (s : State) : Out := s.step' t fun s => s.scnUnderrun k

/-- SCN_FRAME_START (R212): the turning point that begins line 0. -/
def execScnFrameStart (t : Nat) (k : Fin 2) (s : State) : Out := s.step' t fun s =>
  if s.scn[k].due ∧ s.onTick s.scn[k].lastTp then (s.modScn k fun c => { c with due := false }).scnStart k else s

/-- SPINUP_SWEEP_DONE (R209): the frequency of the largest response, 1/16 Hz, within FMIN to FMAX. -/
def execSpinupSweepDone (t : Nat) (k : Fin 2) (freq : Nat) (s : State) : Out := s.step' t fun s =>
  let c := s.scn[k]
  if s.scnState k = E_TRAIN ∧ c.running ∧ !c.swept ∧ c.spinAt + msU 40 ≤ s.now then
    (s.modScn k fun c => { c with swept := true }).freqTo k freq
  else s

/-- SPINUP_DONE (R209, R211, R216): the amplitude within 1 % and the phase loop locked for 10 ms; the slow axis starts at line 0, monitoring is armed. -/
def execSpinupDone (t : Nat) (k : Fin 2) (s : State) : Out := s.step' t fun s =>
  match s.scn[k].lockedFrom with
  | none => s
  | some f =>
    if s.scnState k = E_TRAIN ∧ s.scn[k].swept ∧ s.scn[k].near ∧ f + msU 10 ≤ s.now then
      let s := (s.scnUse k).modScn k fun c => { c with line := 0, due := true, pixel := 0 }
      (s.put (.scn k) SCN_STATUS_MON_ARMED 1).scnTo k E_READY 0
    else s

/-- SPINUP_FAIL (R209, R216): not READY within 250 ms. -/
def execSpinupFail (t : Nat) (k : Fin 2) (s : State) : Out := s.step' t fun s =>
  if s.scnState k = E_TRAIN ∧ s.scn[k].running ∧ s.scn[k].spinAt + msU 250 ≤ s.now then
    (s.scnTo k E_SAFE SCN_SPINUP_FAIL).scnRampDown k
  else s

/-- DRIVES_STOPPED (R211, R380): both drives are at zero after the ramp; in OFF the grant is released. -/
def execDrivesStopped (t : Nat) (k : Fin 2) (s : State) : Out := s.step' t fun s =>
  if s.scn[k].rampDown then
    let s := s.scnDrivesZero k
    if s.scnState k = E_OFF then s.scnRelease k else s
  else s

/-- UNDERRUN_PERSIST (R111, R214): underruns in UNDERRUN_LIMIT consecutive frames, the frame under way counted,
put the unit in SAFE. Units 0–3 are the mirror engines, 4 and 5 the scanners. -/
def execUnderrunPersist (t : Nat) (u : Fin 6) (s : State) : Out := s.step' t fun s =>
  match engOfLtn u with
  | some n =>
    let lim := s.inf (.eng n) ENG_CFG_UNDERRUN_LIMIT
    if s.engFrames n ∧ lim ≠ 0 ∧ lim ≤ s.eng[n].urRun + (if s.eng[n].ur then 1 else 0) then
      (s.raise (.eng n) ENG_EV_UNDERRUN_PERSIST).engTo n E_SAFE CAUSE_UNDERRUN
    else s
  | none =>
    match scnOfLtn u with
    | some k =>
      let lim := s.inf (.scn k) SCN_CFG_UNDERRUN_LIMIT
      if s.scnFrames k ∧ lim ≠ 0 ∧ lim ≤ s.scn[k].urRun + (if s.scn[k].ur then 1 else 0) then
        ((s.ltnDark u).raise (.scn k) ENG_EV_UNDERRUN_PERSIST).scnTo k E_SAFE SCN_UNDERRUN_PERSIST
      else s
    | none => s

end Sys2Proof.Machine
end

