-- ==== Sys2Proof/Machine/Narpa.lean ====
section
/-!
DEFINITION. The Narpa ports (spec/09): commit validation and application port by port (R47, R237, R243, R249),
duty codes (R233–R235), frames and slices (R221–R225, R231), latches and strobes (R228, R237, R238), return
frames, node records and diagnostic coverage (R227, R239–R241).
-/

namespace Sys2Proof.Machine

/-! ### Cells (R221–R225) -/

/-- The cell T of a rate, 62.5 ps. -/
def cellOf (rate : Nat) : Nat := match rate with | 0 => usU 1 | 1 => nsU 500 | _ => nsU 250

/-- CRC-8 of a slice, polynomial x⁸ + x⁵ + x³ + x² + x + 1, initial value 0xFF (R223). -/
def npCrc (bytes : List Nat) : Nat :=
  bytes.foldl (fun c b => (List.range 8).foldl (fun c _ =>
    if 128 ≤ c then (c * 2 % 256) ^^^ 0x2F else c * 2) (c ^^^ b % 256)) 0xFF

/-- The bytes of a slice, MSB first: OPCODE, LEN, PAYLOAD, CRC (R223). -/
def sliceBytes (sl : Nat × List Nat) : List Nat :=
  let b := [sl.1, sl.2.length] ++ sl.2.flatMap fun w => [w / 256 % 256, w % 256]
  b ++ [npCrc b]

/-- Cells of a frame: a mark of 3 T and its slices (R221, R223). -/
def frameCells (sl : List (Nat × List Nat)) : Nat := 3 + (sl.map fun x => 24 + 16 * x.2.length).sum

/-- The cells of slices, MSB first (R221, R223). -/
def byteBits (b : Nat) : List Bool := (List.range 8).map fun i => bitOf b (7 - i)
def sliceBits (sl : List (Nat × List Nat)) : List Bool := sl.flatMap fun x => (sliceBytes x).flatMap byteBits

/-- The level of a line `since` after the rising edge of a start mark of 2 T that is followed by cells (R221): a cell is high for
T/4 or 3T/4. -/
def cellLevel (T since : Nat) (bits : List Bool) : Bool :=
  if since < 2 * T then true
  else if since < 3 * T then false
  else match bits[(since - 3 * T) / T]? with
    | none => false
    | some b => decide ((since - 3 * T) % T < (if b then 3 * T / 4 else T / 4))

/-- The cells of the highs after a mark, sampled T/2 after each rising edge; the frame ends with no edge for 1.5 T (R221). None where
a further mark stands among them, or an edge after the end. -/
def cellsOf (T : Nat) : List (Nat × Nat) → Option (List Bool)
  | [] => some []
  | [p] => if 3 * T < 2 * (p.2 - p.1) then none else some [decide (p.1 + T / 2 < p.2)]
  | p :: n :: r =>
    if 3 * T < 2 * (p.2 - p.1) ∨ p.1 * 2 + 3 * T < n.1 * 2 then none
    else (cellsOf T (n :: r)).map fun l => decide (p.1 + T / 2 < p.2) :: l

/-- What a receiver reads from a line that is high for `mark` and then in `cells` (R221): a high of more than 1.5 T is a start
mark, and the first cell begins T after its falling edge. -/
def npReceive (T mark : Nat) (cells : List (Nat × Nat)) : Option (List Bool) :=
  let near : Bool := match cells with | [] => true | c :: _ => decide (mark * 2 + T ≤ c.1 * 2) && decide (c.1 * 2 ≤ mark * 2 + 3 * T)
  if 3 * T < 2 * mark ∧ near then cellsOf T cells else none

/-- A number from cells, MSB first, and the status words of 48 cells each (R227). -/
def bitsNat (l : List Bool) : Nat := l.foldl (fun x b => 2 * x + ofBool b) 0
def statusWords : Nat → List Bool → List Nat
  | 0, _ => []
  | k + 1, l => bitsNat (l.take 48) :: statusWords k (l.drop 48)

/-- A return frame in parts (R225, R231, R239): unused slices, status words, and whether it could be parsed. A count pass brings back
the slices that no node took and a status word of each node; every other frame N status words alone. -/
def npReturned (kind : NpKind) (n : Nat) (sent : List (Nat × List Nat)) (bits : Option (List Bool)) : Nat × List Nat × Bool :=
  match bits with
  | none => (0, [], false)
  | some b =>
    if kind = .count then
      let u := (64 * 48 - b.length) / 8
      if u ≤ 64 ∧ b.length = 40 * u + 48 * (64 - u) ∧ b.take (40 * u) = sliceBits (sent.drop (64 - u)) then
        (u, statusWords (64 - u) (b.drop (40 * u)), true)
      else (0, [], false)
    else if b.length = 48 * n then (0, statusWords n b, true)
    else (0, [], false)

/-! ### Values in effect -/

/-- Whether a pending commit governs the next frames of a port (R237). -/
def State.npPending (s : State) (q : NpIx) : Bool :=
  s.commitPending (.np (npGroup q)) && (s.commitRec (.np (npGroup q))).ports.any fun e => e.1 == npLane q

/-- A commit that clears EN, or changes NODES or CH_M1, on a port in RUN: no further image frame is sent, and
it takes effect after the frame in flight (R243). -/
def State.npTear (s : State) (q : NpIx) : Bool :=
  let p := npPage q
  let l := npLane q
  s.npState q == NP_RUN && (s.get p (NP_CFG_EN l) == 0 || s.get p (NP_CFG_NODES l) != s.inf p (NP_CFG_NODES l) ||
    s.get p (NP_CFG_CH_M1 l) != s.inf p (NP_CFG_CH_M1 l))

/-- A field as the next frame uses it: staged when a commit governs it, else in effect. -/
def State.npVal (s : State) (q : NpIx) (f : Nat → RF) : Nat :=
  if s.npPending q ∧ !s.npTear q then s.get (npPage q) (f (npLane q)) else s.inf (npPage q) (f (npLane q))

/-- T, N and C of a port in effect. -/
def State.npT (s : State) (q : NpIx) : Nat := cellOf (s.inf (npPage q) (NP_CFG_RATE (npLane q)))
def State.npN (s : State) (q : NpIx) : Nat := s.inf (npPage q) (NP_CFG_NODES (npLane q))
def State.npC (s : State) (q : NpIx) : Nat := s.inf (npPage q) (NP_CFG_CH_M1 (npLane q)) + 1
def State.npStrobeMode (s : State) (q : NpIx) : Bool := s.infFlag (npPage q) (NP_CFG_LATCH_MODE (npLane q))

/-- A frame still occupies the line. -/
def State.npBusy (s : State) (q : NpIx) : Bool :=
  match s.np[q].frame with | some f => decide (s.now < f.fin) | none => false

/-- The port has sent an image whose latch has not come, or a frame is on the line (R243, "frame in flight"). -/
def State.npFlight (s : State) (q : NpIx) : Bool :=
  s.npBusy q || (!s.npStrobeMode q && !s.np[q].latches.isEmpty)

/-! ### Duty codes (R233–R235) -/

/-- Offset of the Narpa region in the Frame SRAM window (R21). -/
def npRegion : Nat := 0x4C00000

/-- G of a class at a node temperature: linear between the 16 points at −40 + 12 j °C, Q2.14 (R234). -/
def State.npGain (s : State) (cls : Nat) (temp : Int) : Nat :=
  let t := (clampI (-40) 140 temp + 40).toNat
  let pt (j : Nat) : Nat :=
    let w := s.inf (.np 0) (NP_CLASS_TBL (8 * cls + j / 2))
    bitsOf w (16 * (j % 2)) 16
  let j := min (t / 12) 14
  (roundDivI ((pt j : Int) * (12 * (j + 1) - t : Int) + (pt (j + 1) : Int) * (t - 12 * j : Int)) 12).toNat

/-- λ_eff of a port, Q1.15 (R234). -/
def State.npLam (s : State) (q : NpIx) : Nat :=
  max (s.get (npPage q) NP_LIMIT_IN) (s.get (npPage q) (NP_LEGAL_FLOOR (npLane q)))

/-- The colour class of a channel (R234, `NP_CLASSx`). -/
def State.npClass (s : State) (q : NpIx) (c : Nat) : Nat :=
  let f : Nat → RF := fun i => match c / 10 with | 0 => NP_CLASS0 i | 1 => NP_CLASS1 i | 2 => NP_CLASS2 i | _ => NP_CLASS3 i
  bitsOf (s.npVal q f) (3 * (c % 10)) 3

/-- The duty code of one value of channel `c` of node `k` (0-based) (R234). -/
def State.npDuty (s : State) (q : NpIx) (curve k c v : Nat) : Nat :=
  let v := hwCurve curve v
  let v := if s.npVal q NP_CFG_TCOMP_EN = 1 then
      let temp : Int := (((s.np[q].nodes.getD k {}).temp : Nat) : Int) - 64
      roundDiv (v * s.npGain (s.npClass q c) temp) 16384
    else v
  min 65535 (roundDiv (v * s.npLam q) 32768)

/-- The duty codes of all values of a frame, in order, with `C` channels per node. -/
def State.npDuties (s : State) (q : NpIx) (curve C : Nat) (vals : List Nat) : List Nat :=
  vals.zipIdx.map fun v => s.npDuty q curve (v.2 / C) (v.2 % C) v.1

/-- The values of the next image frame (R233, R235): the image, or the next step of a fade; with the curve
that applies to them. A governed frame of a new image address with F > 0 starts a fade from the values in use. -/
def State.npValues (s : State) (q : NpIx) (N C : Nat) : State × List Nat × Nat :=
  let l := npLane q
  let p := npPage q
  let gov := s.npPending q && !s.npTear q
  let base := npRegion + s.npVal q NP_IMG_ADDR
  let img := (List.range (N * C)).map fun i => memLE s.fsram (base + 2 * i) 2
  let curve := s.npVal q NP_CFG_CURVE
  let target := if curve = 0 then img.map toPerceptual else img
  let F := bitsOf (s.npVal q NP_FADE) 0 8
  let o := s.np[q]
  let moved := gov && !o.govSent && s.get p (NP_IMG_ADDR l) != s.inf p (NP_IMG_ADDR l)
  let s := if moved then
      s.modNp q fun o => if F = 0 ∨ o.inUse.length ≠ target.length then { o with fadeF := 0, fadeJ := 0, fadeFrom := [] }
        else { o with fadeFrom := o.inUse, fadeJ := 0, fadeF := F }
    else s
  let o := s.np[q]
  if o.fadeJ < o.fadeF then
    let j := o.fadeJ + 1
    let vals := (o.fadeFrom.zip target).map fun e =>
      ((e.1 : Int) + roundDivI (((e.2 : Int) - e.1) * j) o.fadeF).toNat
    let s := s.modNp q fun o => { o with fadeJ := j, inUse := vals }
    (s.put p (NP_STATUS_FADE_POS l) (o.fadeF - j), vals, if curve = 0 then 2 else curve)
  else
    ((s.modNp q fun o => { o with inUse := target }).put p (NP_STATUS_FADE_POS l) 0, img, curve)

/-! ### Sending (R225, R236) -/

/-- A frame goes out (R225, R236): the line is taken until E₁ and for GAP after it; the return frame ends
N × 50 T after E₁. -/
def State.npSend (s : State) (q : NpIx) (kind : NpKind) (nodes gap T : Nat) (strobe gov : Bool) (sl : List (Nat × List Nat)) : State :=
  let l := npLane q
  let p := npPage q
  let fin := s.now + frameCells sl * T
  let ret := fin + 50 * T * (if kind = .count then 64 else nodes)
  let s := (s.bump p (NP_FRAME_CNT l)).put p (NP_FRAME_LEN l) (min (frameCells sl - 3) 0xFFFFF)
  s.modNp q fun o => { o with
    frame := some { kind := kind, start := s.now, fin := fin, nodes := nodes, strobe := strobe, gov := gov }
    free := fin + gap * T, last := s.now, tx := sl, rets := o.rets ++ [{ kind := kind, nodes := nodes, fin := ret, cell := T }] }

/-- Whether a frame of `cells` may start: the line is free, and it ends GAP before the mark of a scheduled
strobe (R236, R238). -/
def State.npFree (s : State) (q : NpIx) (cells gap T : Nat) : Bool :=
  decide (s.np[q].free ≤ s.now) && (match s.np[q].strobe with
    | none => true
    | some b => decide (((s.localTime + toNs ((cells + gap) * T) : Nat) : Int) ≤ b.mark))

def State.npGap (s : State) (q : NpIx) : Nat := s.npVal q NP_TIMING_GAP

/-- The count and position passes (R231). -/
def State.npEnumFrame (s : State) (q : NpIx) : State :=
  let T := s.npT q
  let gap := s.npGap q
  let n := s.get (npPage q) (NP_STATUS_FOUND (npLane q))
  if s.np[q].offWant then s
  else if s.np[q].pass = 1 then
    let sl := (List.range 64).map fun k => (0x06, [(k + 1) * 256])
    if s.npFree q (frameCells sl) gap T then
      (s.npSend q .count 64 gap T false false sl).modNp q fun o => { o with pass := 0 }
    else s
  else if s.np[q].pass = 2 then
    let sl := (List.range n).map fun k => (0x06, [(k + 1) * 256 + n])
    if s.npFree q (frameCells sl) gap T then
      (s.npSend q .position n gap T false false sl).modNp q fun o => { o with pass := 0 }
    else s
  else s

/-- A configuration access frame (R236): NOP slices of LEN 0 for the other nodes. -/
def State.npCfgFrame (s : State) (q : NpIx) : State :=
  let v := s.get (npPage q) (NP_CFGACC (npLane q))
  let k := bitsOf v 24 6
  let n := s.npN q
  let mine := if bitOf v 30 then (0x02, [bitsOf v 16 8, bitsOf v 0 16]) else (0x03, [bitsOf v 16 8])
  let sl := (List.range n).map fun i => if i = k then mine else (0x00, [])
  if s.npFree q (frameCells sl) (s.npGap q) (s.npT q) then s.npSend q .config n (s.npGap q) (s.npT q) false false sl else s

/-- The slices of an image (R224, R241): PWM_SET or LATCH_AT per node, and DIAG_REQ in its place for a node
whose codes repeat. -/
def imageSlices (op C : Nat) (diag : List (Nat × Nat)) (old new : List Nat) (N : Nat) : List (Nat × List Nat) :=
  (List.range N).map fun k =>
    let w := (new.drop (k * C)).take C
    match diag.find? fun e => e.1 == k with
    | some e => if (old.drop (k * C)).take C = w then (0x05, [e.2 / 65536, e.2 % 65536]) else (op, w)
    | none => (op, w)

/-- Whether the next image frame would repeat the codes of a node that waits for its DIAG_REQ (R241). -/
def State.npRepeats (s : State) (q : NpIx) : Bool :=
  let C := s.npVal q NP_CFG_CH_M1 + 1
  let N := s.npVal q NP_CFG_NODES
  let (v, vals, curve) := s.npValues q N C
  let o := s.np[q]
  (imageSlices 1 C o.diag o.duty (v.npDuties q curve C vals) N).any fun x => x.1 == 5

/-- An image frame is due (R236): a commit or the first image, a fade step or REFRESH, or a DIAG_REQ that a repeated frame takes. -/
def State.npImageDue (s : State) (q : NpIx) : Bool :=
  let o := s.np[q]
  let gov := s.npPending q && !s.npTear q
  o.due || (gov && !o.govSent) || decide (o.last + usU (100 * s.npVal q NP_TIMING_REFRESH) ≤ s.now) ||
    (!o.diag.isEmpty && decide (o.fadeF ≤ o.fadeJ) && s.npRepeats q)

/-- An image frame starts (R236, R237). -/
def State.npImageFrame (s : State) (q : NpIx) : State :=
  let l := npLane q
  let p := npPage q
  let gov := s.npPending q && !s.npTear q
  let N := s.npVal q NP_CFG_NODES
  let C := s.npVal q NP_CFG_CH_M1 + 1
  let T := cellOf (s.npVal q NP_CFG_RATE)
  let gap := s.npGap q
  let strobe := s.npVal q NP_CFG_LATCH_MODE == 1
  if !s.npFree q (3 + N * (24 + 16 * C)) gap T then s
  else
    let old := s.np[q].duty
    let (s, vals, curve) := s.npValues q N C
    let duty := s.npDuties q curve C vals
    let diag := if s.npVal q NP_CFG_DIAG_EN = 1 then s.np[q].diag else []
    let sl := imageSlices (if strobe then 0x04 else 0x01) C diag old duty N
    let sent := diag.filter fun e => (sl.getD e.1 (0, [])).1 == 0x05
    let s := s.count p (NP_DIAGREQ_CNT l) sent.length
    let s := s.npSend q .image N gap T strobe gov sl
    let fin := s.now + frameCells sl * T
    s.modNp q fun o => { o with
      due := false, govSent := o.govSent || gov, duty := duty, await := o.await || strobe
      latches := if strobe then o.latches else o.latches ++ [(fin + (8 + 50 * (N - 1)) * T, gov)]
      diag := diag.filter fun e => !sent.contains e
      nodes := o.nodes.zipIdx.map fun e =>
        match sent.find? fun d => d.1 == e.2 with
        | some d => { e.1 with uncov := e.1.uncov.zipIdx.map fun u => if bitOf d.2 u.2 then 0 else u.1 }
        | none => e.1 }

/-! ### States (R243) -/

/-- Enumeration starts: the count pass, after the frame in flight. -/
def State.npEnum (s : State) (q : NpIx) : State :=
  (s.modNp q fun o => { o with pass := 1, enumWant := false, offWant := false, fadeF := 0, fadeJ := 0, fadeFrom := [] }).npTo q NP_ENUM_ST

/-- The port switches on: it waits for its grant, after a keeper frame in flight (R243, R376). -/
def State.npOn (s : State) (q : NpIx) : State :=
  let s := s.put (npPage q) (NP_STATUS_PBA_WAIT (npLane q)) 1
  let s := s.modNp q fun _ => {}
  let s := s.npTo q NP_ENUM_ST
  if s.keeper.line.any fun e => e.1 == q.val then s else s.pbaRequest (ID_NP (npGroup q).val) (npLane q)

/-- The grant has switched the bank on (R379): the port enumerates. -/
def State.npProceed (s : State) (q : NpIx) : State :=
  if s.npState q = NP_ENUM_ST ∧ s.flag (npPage q) (NP_STATUS_PBA_WAIT (npLane q)) then
    (s.put (npPage q) (NP_STATUS_PBA_WAIT (npLane q)) 0).npEnum q
  else s

/-- The port switches off: line low, grant released (R243, R380). -/
def State.npOffNow (s : State) (q : NpIx) : State :=
  let p := npPage q
  let l := npLane q
  let s := ((s.put p (NP_STATUS_PBA_WAIT l) 0).put p (NP_STATUS_CHAIN_OPEN l) 0).put p (NP_STATUS_STROBE_PEND l) 0
  let s := (s.put p (NP_STATUS_FADE_POS l) 0).modNp q fun _ => {}
  let s := s.npTo q (if s.keeperServes q then NP_KEEPER else NP_OFF)
  s.pbaRelease (ID_NP (npGroup q).val) l

/-! ### Commits (R46, R47, R233, R249) -/

def State.npFails (s : State) (g : Fin 13) : List CommitFail :=
  let p := Page.np g
  let f (c d : Nat) (b : Bool) : List CommitFail := if b then [(c, d, p)] else []
  f ST_BAD_PARAM 0x10 (s.get p NP_GRP_CFG_DIAG_UNCOV_LIMIT == 0) ++
  (List.range 8).flatMap fun l =>
    let en := s.flag p (NP_CFG_EN l)
    let n := s.get p (NP_CFG_NODES l)
    let c := s.get p (NP_CFG_CH_M1 l) + 1
    let img := bitsOf (s.get p (NP_IMG_ADDR l)) 0 22
    let st := bitsOf (s.get p (NP_STAT_ADDR l)) 0 22
    let gap := s.get p (NP_TIMING_GAP l)
    let ref := s.get p (NP_TIMING_REFRESH l)
    f ST_BAD_PARAM 0x10 (s.get p (NP_CFG_RATE l) == 3 || s.get p (NP_CFG_CURVE l) == 3 || decide (64 < n) ||
      (en && n == 0) || decide (gap < 10) || decide (ref < 10) || decide (10000 < ref)) ++
    f ST_LEN_ERR 0x11 (decide (0x400000 < img + 2 * n * c) || decide (0x400000 < st + 128 * n)) ++
    f ST_BAD_PARAM 0x12 (img % 64 != 0 || st % 64 != 0)

/-- Page offsets of the fields of port `l`, and of the fields of the whole page. -/
def npPortOff (l off : Nat) : Bool := decide (0x100 + 0x80 * l ≤ off) && decide (off < 0x180 + 0x80 * l)
def npWholeOff (off : Nat) : Bool := decide (off < 0x100) || decide (0x600 ≤ off)

/-- The fields of one port take effect, and what R243 makes of them. -/
def State.npApply (s : State) (q : NpIx) : State :=
  let p := npPage q
  let l := npLane q
  let st := s.npState q
  let old := (s.inf p (NP_CFG_NODES l), s.inf p (NP_CFG_CH_M1 l))
  let s := s.releasePages [p] (npPortOff l)
  let s := s.modNp q fun o => { o with
    govSent := false, offWant := false, diag := if s.infFlag p (NP_CFG_DIAG_EN l) then o.diag else [] }
  if !s.infFlag p (NP_CFG_EN l) then
    (if st = NP_ENUM_ST ∨ st = NP_RUN ∨ st = NP_ENUM_FAIL then
      (if s.npBusy q then s.modNp q fun o => { o with offWant := true } else s.npOffNow q)
    else s)
  else if st = NP_OFF ∨ st = NP_KEEPER then s.npOn q
  else if (st = NP_RUN ∨ st = NP_ENUM_FAIL) ∧ old ≠ (s.inf p (NP_CFG_NODES l), s.inf p (NP_CFG_CH_M1 l)) then s.npEnum q
  else s

/-- A port reaches its commit point (R47): its fields, the page's with the first one, and the end of the
commit with the last. -/
def State.npPoint (s : State) (q : NpIx) : State :=
  let g := Group.np (npGroup q)
  let l := npLane q
  if !s.npPending q then s
  else
    let r := s.commitRec g
    let late := r.ports.any fun e => e.1 == l && e.2
    let s := if r.skip then s else (s.releasePages [npPage q] npWholeOff).setCommitRec g { r with skip := true }
    let s := s.npApply q
    let s := if late then s.bump (npPage q) (NP_LATE_CNT l) else s
    let r := s.commitRec g
    let r := { r with ports := r.ports.filter fun e => e.1 != l }
    let s := s.setCommitRec g r
    if r.ports.isEmpty then s.commitClose g r.late false else s

/-- GO of a Narpa group (R43, R47): rejected, or applied at once by ports without frames and kept pending for
the others. A port whose image frame has started is late (R237). -/
def State.npGo (s : State) (g : Fin 13) : State :=
  let grp := Group.np g
  let s := s.commitOpen grp {}
  match worstFail (s.npFails g) with
  | some f => s.commitReject grp false f
  | none =>
    let run := (npPorts g).filter fun q => s.npState q == NP_RUN && !(s.npTear q && !s.npFlight q)
    let ent (q : NpIx) : Nat × Bool := (npLane q, !s.npTear q && !s.npStrobeMode q && !s.np[q].latches.isEmpty)
    let ports := run.map ent
    let s := s.setCommitRec grp { late := ports.any (·.2), skip := run.isEmpty, ports := ports }
    let s := if run.isEmpty then s.releasePages [.np g] npWholeOff else s
    let s := ((npPorts g).filter fun q => !run.contains q).foldl (fun s q => s.npApply q) s
    if run.isEmpty then s.commitClose grp false false else s

/-- What waits for the frame in flight takes place once it has ended (R43, R243): a commit of a port that leaves RUN, the end of a
port that a commit switched off, and a wanted enumeration. -/
def State.npSettle (s : State) (q : NpIx) : State :=
  let s := if s.npPending q ∧ (s.npTear q ∨ s.np[q].enumWant) ∧ !s.npFlight q then s.npPoint q else s
  let s := if s.np[q].offWant ∧ !s.npBusy q then s.npOffNow q else s
  if s.np[q].enumWant ∧ !s.npFlight q then s.npEnum q else s

/-! ### Latches and strobes (R228, R237, R238) -/

/-- The earliest immediate latch that has been reached (R237): its instant is recorded, and it is the commit
point of a governed frame. -/
def State.npLatch (s : State) (q : NpIx) : State :=
  match s.np[q].latches with
  | [] => s
  | (at', gov) :: r =>
    if s.now < at' then s
    else
      let s := s.modNp q fun o => { o with latches := r }
      let s := s.stampAt (npPage q) (NP_LATCH_NS (npLane q)) (s.localTime - toNs (s.now - at'))
      (if gov then s.npPoint q else s).npSettle q

/-- A strobe is scheduled for latch instant `L` of local time (R238); one of `NP_CMD` waits while the port has another (R287). -/
def State.npSchedule (s : State) (q : NpIx) (L : Int) (entry : Option Nat) : State :=
  let b : NpStrobe := { latch := L, mark := L - toNs (2 * (s.npN q + 1) * s.npT q), entry := entry, since := s.now }
  (s.modNp q fun o => if o.strobe.isSome then { o with more := o.more ++ [b] } else { o with strobe := some b }).put (npPage q)
    (NP_STATUS_STROBE_PEND (npLane q)) 1

/-- The strobe leaves the port, which takes the next one that waits. -/
def State.npWithdraw (s : State) (q : NpIx) : State :=
  (s.modNp q fun o => { o with strobe := o.more.head?.map fun b => { b with since := s.now }, more := o.more.tail }).put (npPage q)
    (NP_STATUS_STROBE_PEND (npLane q)) (ofBool !s.np[q].more.isEmpty)

/-- The strobe mark is sent at S, or after the frame on the line (R238): the latch instant 2 (N + 1) T later,
lateness, and the commit point of strobe mode (R237). -/
def State.npMark (s : State) (q : NpIx) (late : Bool) : State :=
  let p := npPage q
  let l := npLane q
  let T := s.npT q
  let n := s.npN q
  let s := s.npWithdraw q
  let waited := s.np[q].await
  let sent := s.np[q].govSent
  let s := s.modNp q fun o => { o with await := false, markAt := some s.now, free := s.now + (3 + s.npGap q) * T }
  let s := s.stampAt p (NP_LATCH_NS l) (s.localTime + toNs (2 * (n + 1) * T))
  let s := if late then (s.bump p (NP_LATE_CNT l)).raise p NP_EV_STROBE_LATE else s
  if s.npPending q ∧ sent ∧ waited then s.npPoint q
  else if s.npPending q ∧ waited ∧ !s.npTear q then
    let g := Group.np (npGroup q)
    let r := s.commitRec g
    s.setCommitRec g { r with late := true, ports := r.ports.map fun e => if e.1 = l then (l, true) else e }
  else s

/-! ### Return frames (R227, R239–R241) -/

/-- Even parity over the 48 bits of a status word (R227). -/
def npParity (w : Nat) : Bool := ((List.range 48).filter fun i => bitOf w i).length % 2 == 0

/-- A node after a valid status word at an instant (R227, R239, R241). `duty` are its duty codes. -/
def NpNode.take (o : NpNode) (w now : Nat) (duty : List Nat) (diagEn : Bool) : NpNode :=
  let kind := bitsOf w 5 2
  let op := bitsOf w 32 16
  let sh := bitsOf w 16 16
  let (a, b) := match kind with
    | 0 => (withBits o.open_ 0 16 op, withBits o.short 0 16 sh)
    | 1 => (withBits o.open_ 16 16 op, withBits o.short 16 16 sh)
    | _ => (o.open_, o.short)
  let dt := match o.seen with | some t => now - t | none => 0
  { open_ := a, short := b, temp := bitsOf w 8 8, flags := bitsOf w 0 8, age := 0, seen := some now
    uncov := o.uncov.zipIdx.map fun u =>
      if diagEn && bitOf a u.2 && bitOf b u.2 && decide (0 < duty.getD u.2 0) then u.1 + dt else 0 }

/-- The 128 bytes of a node record (R239). -/
def NpNode.record (o : NpNode) : List Byte :=
  let le (n v : Nat) : List Byte := (List.range n).map fun i => BitVec.ofNat 8 (v / 256 ^ i)
  le 4 o.open_ ++ le 4 o.short ++ le 1 o.temp ++ le 1 o.flags ++ le 2 (min o.age 65535) ++ le 4 0 ++
    (o.uncov.flatMap fun u => le 2 (min (u / msU 10) 65535)) ++ le 48 0

/-- The node records go to the status area (R239). -/
def State.npRecords (s : State) (q : NpIx) : State :=
  let base := npRegion + bitsOf (s.inf (npPage q) (NP_STAT_ADDR (npLane q))) 0 22
  if s.domOn (PD_FSRAM 3) then
    { s with fsram := s.np[q].nodes.zipIdx.foldl (fun m e => memSetBytes m (base + 128 * e.2) e.1.record) s.fsram }
  else s

/-- Channels whose uncovered time has reached the limit get a DIAG_REQ (R241). -/
def State.npDiag (s : State) (q : NpIx) : State :=
  let lim := secU (s.inf (npPage q) NP_GRP_CFG_DIAG_UNCOV_LIMIT)
  let due := s.np[q].nodes.zipIdx.filterMap fun e =>
    let m : Nat := e.1.uncov.zipIdx.foldl (fun x u => if lim ≤ u.1 then x + 2 ^ u.2 else x) 0
    if m = 0 ∨ lim = 0 then none else some (e.2, m)
  s.modNp q fun o => { o with diag := o.diag ++ due.filter fun d => !(o.diag.any fun e => e.1 == d.1) }

/-- AGE of every record grows by the frames without a valid status (R239). -/
def State.npAge (s : State) (q : NpIx) (k : Nat) : State :=
  s.modNp q fun o => { o with nodes := o.nodes.map fun e => { e with age := e.age + k } }

/-- A node error is counted and reported (R239). -/
def State.npNodeErr (s : State) (q : NpIx) (f : Nat → RF) (k : Nat) : State :=
  if k = 0 then s else (s.count (npPage q) (f (npLane q)) k).raise (npPage q) (16 + npLane q)

/-- The result of a configuration access (R236, `NP_CFGRD`). -/
def State.npCfgDone (s : State) (q : NpIx) (w : Option Nat) : State :=
  let l := npLane q
  let p := npPage q
  let v := match w with
    | some w => 0x80000000 + (if bitsOf w 0 3 = 0 then 0 else 0x40000000) + (if bitsOf w 5 2 = 2 then bitsOf w 16 16 else 0)
    | none => 0xC0000000
  ((s.put p (NP_CFGRD l) v).put p (NP_CFGACC_GO l) 0).raise p NP_EV_CFG_DONE

/-- A return frame of an image or a configuration frame of `n` nodes (R239, R240). -/
def State.npReturn (s : State) (q : NpIx) (kind : NpKind) (n unused : Nat) (ws : List Nat) (ok : Bool) : State :=
  let p := npPage q
  let l := npLane q
  let C := s.np[q].duty.length / n
  let valid := ok && unused == 0 && ws.length == n && ws.all npParity
  let diagEn := s.infFlag p (NP_CFG_DIAG_EN l)
  let s :=
    if valid then
      let duty := s.np[q].duty
      let s := s.modNp q fun o => { o with
        nodes := ws.zipIdx.map fun w => (o.nodes.getD w.2 {}).take w.1 s.now ((duty.drop (w.2 * C)).take C) diagEn }
      let s := s.put p (NP_STATUS_CHAIN_OPEN l) 0
      let bad := (ws.filter fun w => bitsOf w 0 3 != 0).length
      let fault := ws.any fun w => decide (bitsOf w 5 2 < 2) && (bitsOf w 32 16 ^^^ bitsOf w 16 16) != 0
      let s := s.npNodeErr q NP_NODE_ERR_CNT bad
      let s := if fault then (s.bump p (NP_FAULT_CNT l)).raise p l else s
      if diagEn then s.npDiag q else s
    else (s.npAge q 1).npNodeErr q NP_RI_ERR_CNT 1
  let s := (s.npRecords q).npShowGroup (npGroup q)
  if kind = .config then
    s.npCfgDone q (if valid then ws[bitsOf (s.get p (NP_CFGACC l)) 24 6]? else none)
  else s

/-- Enumeration ends (R231, R243). -/
def State.npEnumDone (s : State) (q : NpIx) (found minch : Nat) (silent : Bool) : State :=
  let p := npPage q
  let l := npLane q
  let s := ((s.put p (NP_STATUS_FOUND l) found).put p (NP_STATUS_MINCH l) minch).raise p NP_EV_ENUM_DONE
  let fits := !silent && found == s.npN q
  if fits ∧ s.npC q ≤ minch then (s.modNp q fun o => { o with due := true }).npTo q NP_RUN
  else (s.npTo q NP_ENUM_FAIL).errHw p ST_HW_FAULT (if fits then 0x14 else 0x13)

/-- A return frame of an enumeration pass (R231). -/
def State.npEnumReturn (s : State) (q : NpIx) (kind : NpKind) (n unused : Nat) (ws : List Nat) (ok : Bool) : State :=
  if s.npState q ≠ NP_ENUM_ST then s
  else if kind = .count then
    let found := 64 - unused
    if !ok ∨ 64 < unused ∨ ws.length ≠ found ∨ found = 0 then s.npEnumDone q 0 0 true
    else (s.put (npPage q) (NP_STATUS_FOUND (npLane q)) found).modNp q fun o => { o with pass := 2 }
  else if !ok ∨ unused ≠ 0 ∨ ws.length ≠ n ∨ !ws.all npParity then s.npEnumDone q 0 0 true
  else
    let ch := ws.map fun w => bitsOf w 16 6
    let s := s.modNp q fun o => { o with nodes := ws.map fun w => ({} : NpNode).take w s.now [] false }
    let s := s.put (npPage q) (NP_STATUS_CHAIN_OPEN (npLane q)) 0
    (s.npRecords q).npEnumDone q n (ch.foldl min 63) false

/-- A return frame at least this long overdue, in cells, will not come. -/
def retSlack : Nat := 8

/-- The awaited return frames that have passed unheard, then the rest. -/
def splitRets (now : Nat) : List NpRet → List NpRet × List NpRet
  | [] => ([], [])
  | r :: rest =>
    if r.fin + retSlack * r.cell < now then
      let (k, l) := splitRets now rest
      (r :: k, l)
    else ([], r :: rest)

/-- A return frame has not come (R231, R236, R239, R240): the silent frames and the AGE of the records grow, a configuration access ends
without a status, and enumeration fails. -/
def State.npLost (s : State) (q : NpIx) (r : NpRet) : State :=
  let s := (s.npAge q 1).modNp q fun o => { o with silent := o.silent + 1 }
  match r.kind with
  | .image => s
  | .config => s.npCfgDone q none
  | _ => if s.npState q = NP_ENUM_ST then s.npEnumDone q 0 0 true else s

/-- The return frames that have passed unheard are given up. -/
def State.npExpire (s : State) (q : NpIx) : State :=
  let (gone, rest) := splitRets s.now s.np[q].rets
  if gone.isEmpty then s
  else (gone.foldl (fun s r => s.npLost q r) (s.modNp q fun o => { o with rets := rest })).npRecords q

/-! ### XTAL and domains -/

/-- XTAL_FAIL cuts the frame on the line short (R20, R230): it ends now, and its latch and its return frame follow from there. -/
def State.npCut (s : State) (q : NpIx) : State :=
  match s.np[q].frame with
  | some f =>
    if s.now < f.fin then
      let T := s.npT q
      s.modNp q fun o => { o with
        frame := none, free := s.now + s.npGap q * T
        rets := o.rets.dropLast ++ (o.rets.getLast?.toList.map fun r => { r with fin := r.fin - (f.fin - s.now) })
        latches := if f.kind = .image ∧ !f.strobe then
            o.latches.dropLast ++ (o.latches.getLast?.toList.map fun l => (l.1 - (f.fin - s.now), l.2))
          else o.latches }
    else s
  | none => s

/-- The level of `NPn_DO` (R221): the frame on the line, the mark of a strobe, or low. -/
def State.npLevel (s : State) (q : NpIx) : Bool :=
  let o := s.np[q]
  let T := s.npT q
  let strobe := match o.markAt with | some m => decide (s.now < m + 2 * T) | none => false
  let frame := match o.frame with
    | some f => decide (s.now < f.fin) && cellLevel ((f.fin - f.start) / frameCells o.tx) (s.now - f.start) (sliceBits o.tx)
    | none => false
  let keeper := s.keeper.sent.any fun e => e.1 == q.val && cellLevel e.2.2.1 (s.now - e.2.1) e.2.2.2
  strobe || frame || (decide (q.val < 8) && keeper)

end Sys2Proof.Machine
end

