-- ==== Sys2Proof/Machine/Matrix.lean ====
section
/-!
DEFINITION. The matrix ports (spec/10): commit validation and application port by port (R47, R258, R265,
R270), codes (R253, R256), LINE_SCAN frames and rows (R255–R260), FRAME_MEMORY transfers and TE edges
(R261–R264), and the port states (R266).
-/

namespace Sys2Proof.Machine

/-- Offset of the matrix region in the Frame SRAM window (R21, R252). -/
def mxRegion : Nat := 0x3800000

/-- A field in effect of a matrix port. -/
def State.mxInf (s : State) (q : MxIx) (f : Nat → RF) : Nat := s.inf (mxPage q) (f (mxLane q))
def State.mxRows (s : State) (q : MxIx) : Nat := s.mxInf q MX_CFG_ROWS_M1 + 1
def State.mxCols (s : State) (q : MxIx) : Nat := s.mxInf q MX_CFG_COLS_M1 + 1
/-- FRAME_MEMORY mode in effect. -/
def State.mxMem (s : State) (q : MxIx) : Bool := s.mxInf q MX_CFG_MODE == 1
/-- P in effect, in ns, rounded down to 4 ns (R257). -/
def State.mxP (s : State) (q : MxIx) : Nat := bitsOf (s.mxInf q MX_PERIOD) 0 23 / 4 * 4
/-- tPRE rounded down to 4 ns, and t_SLOT, in ns (R255). -/
def rowPre (rowt : Nat) : Nat := bitsOf rowt 0 11 / 4 * 4
def rowSlot (rowt : Nat) : Nat := 200 + rowPre rowt + 2 ^ bitsOf rowt 16 5 * bitsOf rowt 24 8 * 4
/-- t_SHIFT in ns (R256). -/
def rowShift (cols clkDiv : Nat) : Nat := ceilDiv cols 4 * 16 * clkDiv * 4

/-! ### Codes (R252, R253, R256) -/

/-- λ_eff of a matrix port now (R253). -/
def State.mxLam (s : State) (q : MxIx) : Nat :=
  max (s.get (mxPage q) MX_LIMIT_IN) (s.get (mxPage q) (MX_LEGAL_FLOOR (mxLane q)))

/-- A duty code: the value times λ_eff (R253). -/
def mxDuty (v lam : Nat) : Nat := min 65535 (roundDiv (v * lam) 32768)

/-- Whether a pending commit waits for a port. -/
def State.mxPending (s : State) (q : MxIx) : Bool :=
  s.commitPending (.mx (mxGroup q)) && (s.commitRec (.mx (mxGroup q))).ports.any fun e => e.1 == mxLane q

/-- A field as the frame after the next frame start has it: staged where a commit governs that start, else in effect (R259). -/
def State.mxAhead (s : State) (q : MxIx) (f : Nat → RF) : Nat :=
  if s.mxPending q ∧ !s.mx[q].skip then s.get (mxPage q) (f (mxLane q)) else s.mxInf q f

/-- The image address a port takes (R265) with fields from `v`: its own, or what the source of a clone has in force; a clone
whose source does not fit keeps the last address it took. -/
def State.mxSource (s : State) (q : MxIx) (v : (Nat → RF) → Nat) : Nat :=
  let own := bitsOf (v MX_IMG_ADDR) 0 22
  if v MX_CFG_CLONE = 0 then own
  else match finOf 24 (v MX_CFG_CLONE_SRC) with
    | none => s.mx[q].img.getD own
    | some m =>
      let src := bitsOf (s.mxInf m MX_IMG_ADDR) 0 22
      if s.cloneFits q m then src else s.mx[q].img.getD src

/-- The port latches λ_eff and takes its image address: at the fence, or at the start of a transfer (R253, R265). -/
def State.mxTake (s : State) (q : MxIx) (v : (Nat → RF) → Nat) : State :=
  let a := s.mxSource q v
  let lam := s.mxLam q
  (s.modMx q fun o => { o with lam := lam, img := some a }).mxHold q

/-- The duty code of an image code, with the curve given (R253). -/
def State.mxCode (s : State) (q : MxIx) (curve c : Nat) : Nat := mxDuty (hwCurve curve c) s.mx[q].lam

/-- `n` image codes from index `i` of the image taken. -/
def State.mxImage (s : State) (q : MxIx) (i n : Nat) : List Nat :=
  let a := mxRegion + s.mx[q].img.getD 0
  (List.range n).map fun k => memLE s.fsram (a + 2 * (i + k)) 2

/-- D′: the code rounded to GBITS bits (R256). -/
def gbitsCode (gbits d : Nat) : Nat :=
  if 16 ≤ gbits then d
  else
    let r := 2 ^ (16 - gbits)
    min (d + 2 ^ (15 - gbits)) 65535 / r * r

/-- The shift of a row begins (R255, R256, R260): its codes are read, with the fields from `v`, and from the column where data
was lost on they show the background. -/
def State.mxShift (s : State) (q : MxIx) (v : (Nat → RF) → Nat) (row at' : Nat) (lost : Option Nat) : State :=
  let n := v MX_CFG_COLS_M1 + 1
  let cut := lost.getD n
  let d := (s.mxImage q (row * n) n).map (s.mxCode q (v MX_CFG_CURVE))
  let bg := mxDuty (bitsOf (v MX_BG) 0 16) s.mx[q].lam
  let codes := (d.take cut ++ List.replicate (n - cut) bg).map (gbitsCode (bitsOf (v MX_ROWT) 16 5))
  s.modMx q fun o => { o with codes := codes, shiftRow := row, shiftAt := at', lost := lost }

/-! ### Frames of a LINE_SCAN port (R255, R257, R259) -/

/-- The fence (R259): the latch of the last row of the running frame. -/
def State.mxFence (s : State) (q : MxIx) : Nat :=
  let rowt := s.mxInf q MX_ROWT
  s.mx[q].start + nsU ((s.mxRows q - 1) * rowSlot rowt + 200 + rowPre rowt)

/-- Whether the present tick is the first at or past an instant at which local time is congruent to the
phase modulo P (R257). -/
def State.mxPhaseHit (s : State) (q : MxIx) : Bool :=
  let P := s.mxP q * 2 ^ 32
  let loc := s.clock.sec * secAcc + s.clock.acc
  decide (0 < P) && s.clock.passed ((loc + P - bitsOf (s.mxInf q MX_PHASE) 0 23 * 2 ^ 32 % P) % P)

/-- The instant of the next unlocked frame start, or the earliest locked one: the end of the last row. -/
def State.mxNext (s : State) (q : MxIx) : Nat :=
  let o := s.mx[q]
  if !o.running then o.nextAt
  else if s.mxInf q MX_CFG_PHASE_LOCK = 0 then o.start + nsU (s.mxP q)
  else o.start + nsU (s.mxRows q * rowSlot (s.mxInf q MX_ROWT))

/-- Whether a frame starts now (R257). -/
def State.mxStartDue (s : State) (q : MxIx) : Bool :=
  s.mxState q == MX_RUN && !s.mxMem q && !s.flag .basecamp BC_STATUS_HOLD_UP && decide (s.mxNext q ≤ s.now) &&
    (s.mxInf q MX_CFG_PHASE_LOCK == 0 || s.mxPhaseHit q)

/-! ### Transfers of a FRAME_MEMORY port (R261, R263) -/

/-- CRC-16 over bytes, polynomial 0x1021, initial value 0xFFFF (R261). -/
def mxCrc (bytes : List Nat) : Nat :=
  bytes.foldl (fun c b => (List.range 8).foldl (fun c _ =>
    if 0x8000 ≤ c then (c * 2 % 0x10000) ^^^ 0x1021 else c * 2) (c ^^^ b % 256 * 256)) 0xFFFF

/-- The bytes with their CRC-16, big-endian (R8, R261). -/
def withCrc16 (b : List Nat) : List Nat := b ++ [mxCrc b / 256, mxCrc b % 256]

/-- WRITE_HIDDEN and SHOW (R261). -/
def writeHidden (rows cols : Nat) (codes : List Nat) : List Nat :=
  withCrc16 ([0xA5, rows - 1, cols - 1] ++ codes.flatMap fun d => [d / 256, d % 256])
def showBytes : List Nat := withCrc16 [0xA6]

/-- The time of `n` bytes on the transfer clock: two clocks each (R261). -/
def State.mxBytesU (s : State) (q : MxIx) (n : Nat) : Nat := nsU (2 * n * bitsOf (s.mxInf q MX_BUS) 0 8 * 4)

/-- A WRITE_HIDDEN starts (R253, R261, R263). -/
def State.mxTransfer (s : State) (q : MxIx) : State :=
  let s := s.mxTake q (s.mxInf q)
  let lam := s.mx[q].lam
  let a := s.mx[q].img.getD 0
  let d := (s.mxImage q 0 (s.mxRows q * s.mxCols q)).map (s.mxCode q (s.mxInf q MX_CFG_CURVE))
  let b := writeHidden (s.mxRows q) (s.mxCols q) d
  let fin := s.now + s.mxBytesU q b.length
  let bg := bitsOf (s.mxInf q MX_BG) 0 16
  s.modMx q fun o => { o with
    xfer := some fin, tx := b.map (BitVec.ofNat 8), txAt := s.now, resend := false, lateShow := false, last := some (lam, bg, a) }

/-! ### Pins and status (R250, R251, R255, R261, R268) -/

/-- The levels of R251: `MXn_ROWEN_N` high and every other output low. -/
def mxIdlePins : MxPins := { clk := false, lat := false, gclk := false, rowenN := true, pre := false, dat := 0, row := 0 }

/-- Whether a port scans rows, and the slot of its frame that lies at this instant with the time since its start (R255). -/
def State.mxScans (s : State) (q : MxIx) : Bool := s.mxState q == MX_RUN && !s.mxMem q && s.mx[q].running
def State.mxSlotNow (s : State) (q : MxIx) : Option (Nat × Nat) :=
  let w := nsU (rowSlot (s.mxInf q MX_ROWT))
  let since := s.now - s.mx[q].start
  if s.mxScans q ∧ since / w < s.mxRows q then some (since / w, since % w) else none

/-- The nibble of the lanes at clock `k` of a shift (R256): lane l sends the codes of columns 4 i + l, the highest position first,
each MSB first. -/
def laneBits (codes : List Nat) (k : Nat) : Nat :=
  let pos := ceilDiv codes.length 4 - 1 - k / 16
  (List.range 4).foldl (fun x l => x + bitsOf (codes.getD (4 * pos + l) 0) (15 - k % 16) 1 * 2 ^ l) 0

/-- Whether a transaction of a FRAME_MEMORY port is on the pins. -/
def State.mxTxOn (s : State) (q : MxIx) : Bool :=
  let o := s.mx[q]
  (o.xfer.isSome || (match o.showEnd with | some e => decide (s.now < e) | none => false)) && decide (o.txAt ≤ s.now)

/-- The clock of a transfer or shift: data change on its falling edge, and it is low for the first half of a period (R254). -/
def clkHigh (T since : Nat) : Bool := decide (T ≤ 2 * (since % T))

/-- The output pins of a port now (R250, R251, R255, R256, R261). -/
def State.mxPins (s : State) (q : MxIx) : MxPins :=
  let o := s.mx[q]
  let T := nsU (4 * bitsOf (s.mxInf q MX_BUS) 0 8)
  let rowt := s.mxInf q MX_ROWT
  if !s.domOn (mxBank q) then mxIdlePins
  else if s.mxMem q then
    if s.mxTxOn q then
      let k := (s.now - o.txAt) / T
      let b := (o.tx.getD (k / 2) 0).toNat
      { mxIdlePins with rowenN := false, clk := clkHigh T (s.now - o.txAt), dat := if k % 2 = 0 then b / 16 else b % 16 }
    else mxIdlePins
  else if !s.mxScans q then mxIdlePins
  else
    let since := s.now - o.shiftAt
    let shifts := decide (since < ceilDiv o.codes.length 4 * 16 * T)
    let on := nsU (200 + rowPre rowt)
    let pins : MxPins := { mxIdlePins with
      clk := shifts && clkHigh T since, dat := if shifts then laneBits o.codes (since / T) else 0, row := s.mxRows q - 1 }
    match s.mxSlotNow q with
    | none => pins
    | some (r, τ) =>
      let per := nsU (4 * bitsOf rowt 24 8)
      { pins with
        lat := decide (on ≤ τ) && decide (τ < on + nsU 20), gclk := decide (on ≤ τ) && decide (2 * ((τ - on) % per) < per)
        rowenN := decide (τ < on), pre := decide (nsU 100 ≤ τ) && decide (τ < nsU (100 + rowPre rowt))
        row := if τ < nsU 100 then (r + s.mxRows q - 1) % s.mxRows q else r }

/-- `MX_STATUS` BUSY, ARMED, ROW and BLANKING lie in no cell: they are as the port is when it is read (R255, R268). -/
def State.mxStatus (s : State) (q : MxIx) (v : Nat) : Nat :=
  let slot := s.mxSlotNow q
  let v := withBits v 5 1 (ofBool (s.mxTxOn q || slot.isSome))
  let v := withBits v 6 1 (ofBool s.mx[q].showEnd.isSome)
  let v := withBits v 8 4 (match slot with | some r => r.1 | none => 0)
  withBits v 7 1 (ofBool (s.mxScans q && slot.isNone))
def State.mxRead (s : State) (g : Fin 3) (off : Nat) : Option Nat :=
  if 0x100 ≤ off ∧ off < 0x500 ∧ (off - 0x100) % 0x80 = 0x28 then
    (mxPort g ((off - 0x100) / 0x80)).map fun q => s.mxStatus q (s.reg ((Page.mx g).base + off)).toNat
  else none

/-! ### Port states (R266) -/

/-- The port switches off: R251 levels, grant released (R376). -/
def State.mxOffNow (s : State) (q : MxIx) (st : Nat) : State :=
  let s := s.put (mxPage q) (MX_STATUS_PBA_WAIT (mxLane q)) 0
  let s := (s.modMx q fun _ => {}).mxTo q st
  (s.pbaRelease (ID_MX (mxGroup q).val) (mxLane q)).domRefresh

/-- A commit with EN = 1 in OFF (R266). -/
def State.mxOn (s : State) (q : MxIx) : State :=
  let s := (s.modMx q fun _ => {}).put (mxPage q) (MX_STATUS_PBA_WAIT (mxLane q)) 1
  (s.mxTo q MX_WAIT).pbaRequest (ID_MX (mxGroup q).val) (mxLane q)

/-- The grant has switched the bank on (R266, R267, R379). -/
def State.mxProceed (s : State) (q : MxIx) : State :=
  let s := s.put (mxPage q) (MX_STATUS_PBA_WAIT (mxLane q)) 0
  if s.mxState q ≠ MX_WAIT then s.mxShowGroup (mxGroup q)
  else
    let s := s.modMx q fun _ => { nextAt := s.now + usU 20, resend := true, teFrom := s.now }
    s.mxTo q MX_RUN

/-! ### Commits (R47, R252, R258, R265, R266, R270) -/

/-- A field the commit of group `g` leaves in force (R258, log entry 43). -/
def State.mxLeft (s : State) (g : Fin 3) (q : MxIx) (f : Nat → RF) : Nat :=
  if mxGroup q = g then s.get (mxPage q) (f (mxLane q)) else s.mxInf q f

/-- The clone checks of R265. -/
def State.cloneFails (s : State) (g : Fin 3) (q : MxIx) (f : Nat → Nat → Bool → List CommitFail) : List CommitFail :=
  match finOf 24 (s.mxLeft g q MX_CFG_CLONE_SRC) with
  | none => f ST_BAD_PARAM 0x16 true
  | some m =>
    f ST_BAD_PARAM 0x15 (s.mxLeft g q MX_CFG_ROWS_M1 != s.mxLeft g m MX_CFG_ROWS_M1 ||
      s.mxLeft g q MX_CFG_COLS_M1 != s.mxLeft g m MX_CFG_COLS_M1) ++
    f ST_BAD_PARAM 0x16 (m == q || s.mxLeft g m MX_CFG_CLONE == 1 || !mxDeclared s.pkg m || s.mxLeft g m MX_CFG_EN == 0)

def State.mxFails (s : State) (g : Fin 3) : List CommitFail :=
  let f (c d : Nat) (b : Bool) : List CommitFail := if b then [(c, d, Page.mx g)] else []
  (mxPorts g).flatMap fun q =>
    let v (x : Nat → RF) : Nat := s.mxLeft g q x
    let en := v MX_CFG_EN == 1
    let clone := v MX_CFG_CLONE == 1
    let rows := v MX_CFG_ROWS_M1 + 1
    let cols := v MX_CFG_COLS_M1 + 1
    let per := bitsOf (v MX_PERIOD) 0 23
    let P := per / 4 * 4
    let rowt := v MX_ROWT
    let pre := bitsOf rowt 0 11
    let gb := bitsOf rowt 16 5
    let clk := bitsOf (v MX_BUS) 0 8
    let te := v MX_TE_TIMEOUT
    let img := bitsOf (v MX_IMG_ADDR) 0 22
    f ST_BAD_PARAM 0x10 (v MX_CFG_CURVE == 3 || decide (per < 500000) || decide (5555556 < per) ||
      decide (P ≤ bitsOf (v MX_PHASE) 0 23) || decide (bitsOf rowt 24 8 < 4) || decide (gb < 8) || decide (16 < gb) ||
      decide (pre < 20) || decide (2000 < pre) || decide (clk < 5) || te == 0 || decide (1000 < te)) ++
    f ST_LEN_ERR 0x11 (decide (0x400000 < img + 2 * rows * cols)) ++
    f ST_BAD_PARAM 0x12 (img % 64 != 0) ++
    f ST_BAD_PARAM 0x13 (v MX_CFG_MODE == 0 &&
      (decide (P < rows * rowSlot rowt) || decide (rowSlot rowt < rowShift cols clk + 20))) ++
    f ST_BAD_PARAM 0x14 (s.mxState q != MX_OFF && v MX_CFG_MODE != s.mxInf q MX_CFG_MODE) ++
    (if en && clone then s.cloneFails g q f else [])

/-- Page offsets of the fields of port `l`. -/
def mxPortOff (l off : Nat) : Bool := decide (0x100 + 0x80 * l ≤ off) && decide (off < 0x180 + 0x80 * l)

/-- A transfer is in progress, from the start of its WRITE_HIDDEN to the end of its SHOW (R264, R266). -/
def State.mxSends (s : State) (q : MxIx) : Bool :=
  s.mx[q].xfer.isSome || (match s.mx[q].showEnd with | some e => decide (s.now < e) | none => false)

/-- A port that a commit has switched off goes OFF when its transfer and the SHOW of it have ended (R266). -/
def State.mxSettle (s : State) (q : MxIx) : State := if s.mx[q].stop ∧ !s.mxSends q then s.mxOffNow q MX_OFF else s
/-- The fields of one port take effect, and what R266 makes of them. -/
def State.mxApply (s : State) (q : MxIx) : State :=
  let st := s.mxState q
  let s := (s.releasePages [mxPage q] (mxPortOff (mxLane q))).mxHolds
  let s := s.modMx q fun o => { o with skip := false, stop := false }
  if s.mxInf q MX_CFG_EN = 0 then
    if st = MX_OFF then s
    else if s.mxSends q then s.modMx q fun o => { o with stop := true }
    else s.mxOffNow q MX_OFF
  else if st = MX_OFF then s.mxOn q
  else s

/-- A port reaches its commit point (R47, R259, R263): its fields apply, a late one is counted, and the
commit ends with the last port. -/
def State.mxPoint (s : State) (q : MxIx) : State :=
  let g := Group.mx (mxGroup q)
  let l := mxLane q
  if !s.mxPending q then s
  else
    let r := s.commitRec g
    let late := r.ports.any fun e => e.1 == l && e.2
    let s := s.mxApply q
    let s := if late then s.bump (mxPage q) (MX_LATE_CNT l) else s
    let r := { r with ports := r.ports.filter fun e => e.1 != l }
    let s := s.setCommitRec g r
    if r.ports.isEmpty then s.commitClose g r.late false else s

/-- A GO on the tick of an edge that is a commit point applies there (R263), and a GO at the fence governs the frame whose row 0 is read
there (R259). -/
def State.mxGoOnTick (s : State) (q : MxIx) : State :=
  let o := s.mx[q]
  if s.mxMem q then
    if o.pointAt.any fun e => e / tickU == s.now / tickU then
      let s := s.mxPoint q
      if s.mxState q = MX_RUN then s.mxTransfer q else s
    else s
  else if o.running ∧ o.stage = .latch ∧ s.mxRows q ≤ o.row + 1 ∧ s.now ≤ s.mxFence q then
    (s.mxTake q (s.mxAhead q)).mxShift q (s.mxAhead q) 0 s.now none
  else s

/-- GO of a matrix group (R43, R47, R259): rejected, or applied at once by ports without frames and kept
pending for the others. -/
def State.mxGo (s : State) (g : Fin 3) : State :=
  let grp := Group.mx g
  let s := s.commitOpen grp {}
  match worstFail (s.mxFails g) with
  | some f => s.commitReject grp false f
  | none =>
    let run := (mxPorts g).filter fun q => s.mxState q == MX_RUN
    let late (q : MxIx) : Bool := !s.mxMem q && s.mx[q].running && decide (s.mxFence q < s.now)
    let ports := run.map fun q => (mxLane q, late q)
    let s := run.foldl (fun s q => s.modMx q fun o => { o with skip := late q }) s
    let s := s.setCommitRec grp { late := ports.any (·.2), ports := ports }
    let s := ((mxPorts g).filter fun q => !run.contains q).foldl (fun s q => s.mxApply q) s
    let s := run.foldl (fun s q => s.mxGoOnTick q) s
    if run.isEmpty then s.commitClose grp false false else s

/-- XTAL_FAIL (R20, R266): R251 levels, any transfer abandoned; a pending commit applies at once (R43). -/
def State.mxXtalFail (s : State) (q : MxIx) : State :=
  let st := s.mxState q
  if st = MX_WAIT ∨ st = MX_RUN ∨ st = MX_TE_LOST then
    ((s.errHw (mxPage q) ST_HW_FAULT 0x21).mxOffNow q MX_FAULT).mxPoint q
  else s

/-! ### Meanings -/

/-- The instant at which the frame that starts now starts: its plan for a free-running port, else now (R257). -/
def State.mxStartAt (s : State) (q : MxIx) : Nat :=
  if s.mxInf q MX_CFG_PHASE_LOCK = 0 ∧ s.mx[q].running then s.mxNext q else s.now

/-- A frame starts at `S` (R254, R257): row 0, which the first frame reads now, follows, and start and count show it. -/
def State.mxFrame (s : State) (q : MxIx) (S : Nat) : State :=
  let p := mxPage q
  let l := mxLane q
  let s := if s.mx[q].running then s
    else (s.mxTake q (s.mxInf q)).mxShift q (s.mxInf q) 0 S s.mx[q].lost
  let s := s.modMx q fun o => { o with running := true, start := S, row := 0, stage := .slot, shown := [] }
  let s := (s.stampAt p (MX_FSTART_NS l) (s.localTime - toNs (s.now - S))).bump p (MX_FRAME_CNT l)
  s.raise p (16 + l)

/-- The instant at which the row under way begins (R254). -/
def State.mxRowAt (s : State) (q : MxIx) : Nat := s.mx[q].start + nsU (s.mx[q].row * rowSlot (s.mxInf q MX_ROWT))

/-- The latch of the row under way (R255): its codes light it, and the shift of the next row begins. The latch of the last row is
the fence: λ_eff is latched, the image of the next frame is taken, with the commit that governs it, and its row 0 is read
(R253, R259, R265). -/
def State.mxLatch (s : State) (q : MxIx) : State :=
  let at' := s.mxRowAt q + nsU (200 + rowPre (s.mxInf q MX_ROWT))
  let s := s.modMx q fun o => { o with stage := .latch, shown := o.codes }
  if s.mxRows q ≤ s.mx[q].row + 1 then (s.mxTake q (s.mxAhead q)).mxShift q (s.mxAhead q) 0 at' none
  else s.mxShift q (s.mxInf q) (s.mx[q].row + 1) at' none

/-- The end of the slot of the row under way (R255): the row is off, and the next slot or the blanking begins. -/
def State.mxRowEnd (s : State) (q : MxIx) : State :=
  s.modMx q fun o => if s.mxRows q ≤ o.row + 1 then { o with stage := .blank, shown := [] }
    else { o with stage := .slot, row := o.row + 1, shown := [] }

/-- The next phase of the row under way, when its instant has come. -/
def State.mxPhase (s : State) (q : MxIx) : Option State :=
  if s.mxScans q then
    match s.mx[q].stage with
    | .blank => none
    | .slot => if s.mxRowAt q + nsU (200 + rowPre (s.mxInf q MX_ROWT)) ≤ s.now then some (s.mxLatch q) else none
    | .latch => if s.mxRowAt q + nsU (rowSlot (s.mxInf q MX_ROWT)) ≤ s.now then some (s.mxRowEnd q) else none
  else none

/-- The phases whose instants have come, at most `k`: a frame has two for each of up to 16 rows. -/
def State.mxAdvance (s : State) (q : MxIx) : Nat → State
  | 0 => s
  | k + 1 => match s.mxPhase q with | some u => u.mxAdvance q k | none => s
def State.mxNow (s : State) (q : MxIx) : State := s.mxAdvance q 32

/-- MX_FRAME_START (R257, R259): the next frame of a LINE_SCAN port starts, with the port's commit, or the
port goes OFF by it. -/
def execMxFrameStart (t : Nat) (q : MxIx) (s : State) : Out :=
  s.step' t fun s =>
    let s := s.mxNow q
    if !s.mxStartDue q then s
    else
      let S := s.mxStartAt q
      let s := if s.mx[q].skip then s.modMx q fun o => { o with skip := false } else s.mxPoint q
      if s.mxState q ≠ MX_RUN then s else s.mxFrame q S

/-- MX_ROW_SLOT (R253, R255, R256, R259, R260, R265): the phases of the frame's rows whose instants have come. -/
def execMxRowSlot (t : Nat) (q : MxIx) (s : State) : Out := s.step' t fun s => s.mxNow q

/-- The row being shifted shows the background from column `c` on (R260). -/
def State.mxLose (s : State) (q : MxIx) (c : Nat) : State :=
  let bg := gbitsCode (bitsOf (s.mxInf q MX_ROWT) 16 5) (mxDuty (bitsOf (s.mxInf q MX_BG) 0 16) s.mx[q].lam)
  s.modMx q fun o => { o with lost := some c, codes := o.codes.take c ++ List.replicate (o.codes.length - c) bg }

/-- MX_UNDERRUN (R260): the code of column `c` of the row that is shifted has not arrived. -/
def execMxUnderrun (t : Nat) (q : MxIx) (c : Fin 64) (s : State) : Out :=
  s.step' t fun s =>
    let s := s.mxNow q
    if s.mxState q ≠ MX_RUN ∨ s.mxMem q ∨ s.mx[q].lost.isSome ∨ s.mxCols q ≤ c.val then s
    else
      let p := mxPage q
      let l := mxLane q
      let s := (s.mxLose q c.val).bump p (MX_UNDERRUN_CNT l)
      (s.put p (MX_UNDERRUN_INFO l) (s.mx[q].shiftRow * 2 ^ 16 + c.val)).raise p l

/-- An edge of TE of the selected polarity (R262–R264): the period, the image shown since the edge before, the return from
TE_LOST, and the transfer that the edge starts. -/
def State.mxEdge (s : State) (q : MxIx) : State :=
  let st := s.mxState q
  let p := mxPage q
  let l := mxLane q
  let s := match s.mx[q].edge with
    | some e => s.put p (MX_TE_PERIOD l) (toNs (s.now - e) % 2 ^ 30)
    | none => s
  let s := s.modMx q fun o => { o with edge := some s.now, teFrom := s.now }
  let s : State := match s.mx[q].showEnd with
    | none => s
    | some e =>
      if e + usU 1 ≤ s.now then
        let late := s.mx[q].lateShow
        let s := s.modMx q fun o => { o with showEnd := none, lateShow := false }
        let s := ((s.stamp p (MX_FSTART_NS l)).bump p (MX_FRAME_CNT l)).raise p (16 + l)
        if late then (s.bump p (MX_LATE_CNT l)).raise p MX_EV_LATE_SWAP else s
      else if e ≤ s.now then s.modMx q fun o => { o with lateShow := true }
      else s
  let s : State := if st = MX_TE_LOST then
      ((s.modMx q fun o => { o with resend := true, showEnd := if o.xfer.isSome then o.showEnd else none }).mxTo q
        MX_RUN).pbaRequest (ID_MX (mxGroup q).val) l
    else s
  if s.mx[q].xfer.isSome ∨ s.mx[q].showEnd.isSome then s
  else
    let had := s.mxPending q
    let s := (s.modMx q fun o => { o with pointAt := some s.now }).mxPoint q
    if s.mxState q ≠ MX_RUN then s
    else
      let now : Nat × Nat × Nat := (s.mxLam q, bitsOf (s.mxInf q MX_BG) 0 16, s.mxSource q (s.mxInf q))
      if had || s.mx[q].resend || s.mx[q].last != some now then s.mxTransfer q else s

/-- TE_EDGE (R263, R264): an edge of `MXn_TE`; the active one is a swap, a commit point and a transfer start
as its conditions allow. -/
def execTeEdge (t : Nat) (q : MxIx) (falling : Bool) (s : State) : Out :=
  s.step' t fun s =>
    let st := s.mxState q
    let s := s.mxSettle q
    if s.flag .basecamp BC_STATUS_HOLD_UP || !(st == MX_RUN || st == MX_TE_LOST) || !s.mxMem q || falling != (s.mxInf q MX_TE_POL == 1) then s
    else s.mxEdge q

/-- MX_TRANSFER_COMPLETE (R261, R263, R266): the WRITE_HIDDEN ends and the port sends SHOW, which begins 100 ns later; or the SHOW has
ended, and a port that waits for it goes OFF. -/
def execMxTransferComplete (t : Nat) (q : MxIx) (s : State) : Out :=
  s.step' t fun s =>
    match s.mx[q].xfer with
    | none => s.mxSettle q
    | some fin =>
      if s.now < fin then s
      else
        let e := s.now + nsU 100 + s.mxBytesU q showBytes.length
        let s := s.bump (mxPage q) (MX_XFER_CNT (mxLane q))
        s.modMx q fun o => { o with
          xfer := none, showEnd := some e, tx := showBytes.map (BitVec.ofNat 8), txAt := s.now + nsU 100 }

/-- An active edge of TE that waits. -/
def teWaits (q : MxIx) (falling : Bool) : Instr → Option Nat
  | .teEdge t q' f => if q' = q ∧ f = falling then some t else none
  | _ => none

/-- TE_TIMEOUT (R264): no active edge within the timeout; the port stops writing and enters TE_LOST, where a
pending commit applies at once (R43). An active edge on the same tick wins (R267). -/
def execTeTimeout (t : Nat) (q : MxIx) (s : State) : Out :=
  s.step' t fun s =>
    let p := mxPage q
    let l := mxLane q
    if s.mxState q ≠ MX_RUN ∨ !s.mxMem q ∨ s.now < s.mx[q].teFrom + msU (s.mxInf q MX_TE_TIMEOUT) ∨
        s.waits (teWaits q (s.mxInf q MX_TE_POL == 1)) then s
    else
      let s := ((s.bump p (MX_TE_TIMEOUT_CNT l)).raise p (8 + l)).errHw p ST_TIMEOUT 0x20
      ((s.mxTo q MX_TE_LOST).pbaRelease (ID_MX (mxGroup q).val) l).mxPoint q

/-- `MX_CMD` (R266): RESEND in RUN of a FRAME_MEMORY port; logged rejections otherwise. -/
def State.mxCmd (s : State) (path : Nat) (q : MxIx) (v : Nat) : State :=
  let off := (MX_CMD (mxLane q)).off
  if bitsOf v 0 4 ≠ 1 then s.err (mxPage q) path off ST_BAD_OPCODE 0x18
  else if s.mxState q = MX_RUN ∧ s.mxMem q then s.modMx q fun o => { o with resend := true }
  else s.err (mxPage q) path off ST_STATE_REJECT 0x17

/-- A write to a matrix page that is a command. -/
def State.mxWrite (s : State) (path : Nat) (g : Fin 3) (off v : Nat) : State :=
  (mxPorts g).foldl (fun s q => if off = (MX_CMD (mxLane q)).off then s.mxCmd path q v else s) s

end Sys2Proof.Machine
end

