-- ==== Sys2Proof/Machine/Ims.lean ====
section
/-!
DEFINITION. IMS ingest on COMP page 7 (R17, R70–R74, R94): segments, mask slots, completion, rejection,
and the mask a composition latches.
-/

namespace Sys2Proof.Machine

def MASK_FREE : Nat := 0
def MASK_FILLING : Nat := 1
def MASK_COMPLETE : Nat := 2
def MASK_IN_USE : Nat := 3
def COMP_EV_MASK_COMPLETE : Nat := 1
def COMP_EV_MASK_ERR : Nat := 2
def COMP_EV_MASK_SUPERSEDED : Nat := 3
def COMP_EV_ASSEMBLY_TIMEOUT : Nat := 12

/-- The slot registers (R94). -/
def State.imsShow (s : State) : State :=
  (List.finRange 4).foldl (fun s i =>
    let m := s.ims.slots[i]
    let s := s.put (.comp 7) (MASK_SLOT_STAT i.val)
      (if m.state = MASK_FREE then 0 else m.id * 65536 + (if m.hdr.mode = 2 then 4 else 0) + m.state)
    s.put (.comp 7) (MASK_SLOT_CAP i.val) (if m.state = MASK_FREE then 0 else m.hdr.capture % 1000000000)) s

def State.setSlot (s : State) (i : Fin 4) (m : MaskSlot) : State :=
  { s with ims := { s.ims with slots := s.ims.slots.set i.val m } }.imsShow

/-- A complete mask that no composition latched is counted once when it can no longer be shown (R17). -/
def State.supersede (s : State) (i : Fin 4) : State :=
  let m := s.ims.slots[i]
  if m.latched ∨ m.superseded then s
  else ((s.setSlot i { m with superseded := true }).bump (.comp 7) MASK_SUPERSEDED_CNT).raise (.comp 0)
    COMP_EV_MASK_SUPERSEDED

/-- The timeout of assembly and of reject records (R74). -/
def State.imsTimeout (s : State) : Nat := usU (s.get (.comp 7) IMS_ASSEMBLY_TIMEOUT)

/-- A rejection (R74): counted, MASK_ERR raised, the slot freed, the MASK_ID recorded among the last four. -/
def State.imsReject (s : State) (slot : Option (Fin 4)) (id : Option Nat) (cnt : RF) : State :=
  let s := (s.bump (.comp 7) cnt).raise (.comp 0) COMP_EV_MASK_ERR
  let s := match slot with | some i => s.setSlot i {} | none => s
  match id with
  | none => s
  | some k =>
    let l := (s.ims.rejected.filter fun e => decide (s.now < e.2)) ++ [(k, s.now + s.imsTimeout)]
    { s with ims := { s.ims with rejected := l.drop (l.length - 4) } }

/-- Whether a MASK_ID is in the record of rejected masks (R74). -/
def State.imsRejected (s : State) (id : Nat) : Bool := s.ims.rejected.any fun e => e.1 == id && decide (s.now < e.2)

/-! ### Bodies (R71, R72) -/

/-- What a body holds, or the error class of its first bad record: length or parameter. -/
inductive BodyErr | len | param
  deriving DecidableEq, Repr

/-- The 1024 codes of a tile from its coding and data (R71). -/
def tileCodes (coding : Nat) (data : List Nat) : Option (List Nat) :=
  match coding with
  | 0 => if data.length = 1024 then some data else none
  | 2 => if data.length = 1 then some (List.replicate 1024 (data.headD 0)) else none
  | _ =>
    let n := data.length
    if n % 2 = 1 ∨ n < 2 ∨ 1024 < n then none
    else
      let codes := (List.range (n / 2)).flatMap fun i =>
        List.replicate (data.getD (2 * i) 0 + 1) (data.getD (2 * i + 1) 0)
      if codes.length = 1024 then some codes else none

/-- The tile records of a body (R71, R74); `fuel` bounds their number. Of one record the length is checked first, then the
coding, the data and the index (log entry 20). -/
def tileRecords (tiles : Nat) : Nat → List Nat → Except BodyErr (List (Nat × List Nat))
  | 0, _ => .ok []
  | _, [] => .ok []
  | fuel + 1, b =>
    let idx := b.getD 0 0 * 256 + b.getD 1 0
    let len := b.getD 4 0 * 256 + b.getD 5 0
    if b.length < 6 + len then .error .len
    else if 2 < b.getD 2 0 then .error .param
    else match tileCodes (b.getD 2 0) ((b.drop 6).take len) with
      | none => .error .len
      | some c =>
        if tiles ≤ idx then .error .param
        else match tileRecords tiles fuel (b.drop (6 + len)) with
          | .error e => .error e
          | .ok l => .ok ((idx, c) :: l)

/-- An object record (R72). -/
def objRecord (b : List Nat) : MaskObj :=
  let w (o : Nat) : Nat := b.getD o 0 * 256 + b.getD (o + 1) 0
  { atten := b.getD 1 0, cx := w 2, cy := w 4, hw := w 6, hh := w 8, feather := w 10
    vx := signed 16 (w 12), vy := signed 16 (w 14), range := w 16 }

/-- The object records of a body (R72, R74). -/
def objRecords (b : List Nat) : Except BodyErr (List MaskObj) :=
  if b.length % 20 ≠ 0 then .error .len
  else .ok ((List.range (b.length / 20)).map fun i => objRecord ((b.drop (20 * i)).take 20))

/-- Tiles across and down (R71). -/
def maskTiles (h : MaskHdr) : Nat := ceilDiv h.width 32 * ceilDiv h.height 32

/-! ### Segments (R70, R73, R74) -/

/-- A slot for a new mask (R73): a FREE one, else the oldest COMPLETE one, else the oldest FILLING one. -/
def State.imsAlloc (s : State) : State × Option (Fin 4) :=
  let of (st : Nat) : List (Fin 4) := (List.finRange 4).filter fun i => s.ims.slots[i].state == st
  let oldest (l : List (Fin 4)) : Option (Fin 4) := l.foldl (fun o i =>
    match o with
    | none => some i
    | some k => if s.ims.slots[i].hdr.capture < s.ims.slots[k].hdr.capture then some i else some k) none
  match of MASK_FREE with
  | i :: _ => (s, some i)
  | [] =>
    match oldest (of MASK_COMPLETE) with
    | some i => (s.supersede i, some i)
    | none =>
      match oldest (of MASK_FILLING) with
      | some i => (s.bump (.comp 7) MASK_DROP_CNT, some i)
      | none => (s, none)

/-- A mask whose every segment has arrived (R17, R73): it is complete, and discarded where its CAPTURE is not later than
that of the newest completed. A complete mask is superseded by one of later CAPTURE (log entry 20). -/
def State.imsComplete (s : State) (i : Fin 4) : State :=
  let m := s.ims.slots[i]
  let s := (s.bump (.comp 7) MASK_COMPLETE_CNT).raise (.comp 0) COMP_EV_MASK_COMPLETE
  if (match s.ims.newest with | some c => decide (m.hdr.capture ≤ c) | none => false) then
    (s.setSlot i {}).bump (.comp 7) MASK_ORDER_CNT
  else
    let s := (List.finRange 4).foldl (fun s k =>
      if s.ims.slots[k].state = MASK_COMPLETE ∧ s.ims.slots[k].hdr.capture < m.hdr.capture then s.supersede k else s) s
    let s := s.setSlot i { m with state := MASK_COMPLETE }
    { s with ims := { s.ims with newest := some m.hdr.capture, completeAt := some s.now } }

/-- What a segment puts into slot `i` in DRAM (R73): free bytes, since the spec gives the slot's place and not how it
holds tiles or objects; `sizes` are the bytes of each record, each record at a free place of the slot (log entry 20). -/
def State.imsStore (s : State) (i : Fin 4) (sizes : List Nat) : State :=
  sizes.foldl (fun s n =>
    let at' := 64 * s.get (.comp 7) IMS_MASK_BASE + i.val * 0x100000 + s.freeWord.toNat % (0x100000 - n)
    let s := s.tookFree
    let bytes := (List.range n).map fun j => BitVec.ofNat 8 (Config.freeWord (s.fresh + j)).toNat
    { s with dram := memSetBytes s.dram at' bytes, fresh := s.fresh + n }) s

/-- A body that passed the checks joins a slot, which a new mask takes first (R73, R74). -/
def State.imsJoin (s : State) (slot : Option (Fin 4)) (m : MaskSlot) (idx : Nat) (tiles : List (Nat × List Nat))
    (objs : List MaskObj) : State :=
  let new := tiles.foldl (fun (l : List (Nat × List Nat)) t =>
    if m.tiles.any (·.1 == t.1) || l.any (·.1 == t.1) then l else l ++ [t]) []
  let s := s.count (.comp 7) TILE_DUP_CNT (tiles.length - new.length)
  let (s, at') := match slot with | some i => (s, some i) | none => s.imsAlloc
  match at' with
  | none => s
  | some i =>
    let m := { m with segs := m.segs ++ [idx], tiles := m.tiles ++ new, objs := m.objs ++ objs }
    let s := (s.setSlot i m).imsStore i (new.map (·.2.length) ++ objs.map fun _ => 20)
    if m.segs.length = m.hdr.count then s.imsComplete i else s

/-- One segment as delivered by the Ethernet receiver (R70, R74). No check of R74 refuses a SEG_COUNT above 1024, a byte 23
that is not 0, or a TILE_DEFAULT in OBJECT mode, so the model takes them; a MASK_ID that no FILLING slot has opens a new
mask, that of a COMPLETE or IN_USE slot too; of several failing checks the first in the order below counts (log entry
20). -/
def State.imsSegment (s : State) (b : List Nat) : State :=
  let be (o n : Nat) : Nat := ((b.drop o).take n).foldl (fun x y => x * 256 + y) 0
  if b.length < 28 then s.imsReject none none MASK_LEN_CNT
  else
    let id := be 2 2
    let idx := be 4 2
    let ns := be 14 4
    let len := be 26 2
    let hdr : MaskHdr := { mode := be 1 1, count := be 6 2, capture := be 8 6 * 1000000000 + ns, width := be 18 2
                           height := be 20 2, tdef := be 22 1, ref := be 24 2 }
    let slot := (List.finRange 4).find? fun i => s.ims.slots[i].state == MASK_FILLING && s.ims.slots[i].id == id
    if slot.isNone ∧ s.imsRejected id then s
    else if be 0 1 ≠ 1 ∨ (hdr.mode ≠ 1 ∧ hdr.mode ≠ 2) ∨ hdr.count = 0 ∨ hdr.count ≤ idx ∨ 1000000000 ≤ ns then
      s.imsReject slot (slot.map fun _ => id) MASK_PARAM_CNT
    else
      let m : MaskSlot := match slot with
        | some i => s.ims.slots[i]
        | none => { state := MASK_FILLING, id := id, hdr := hdr, since := s.now }
      if m.hdr ≠ hdr then s.imsReject slot (some id) MASK_PARAM_CNT
      else if 1280 < hdr.width ∨ 800 < hdr.height ∨ 1440 < len ∨ b.length - 28 < len then
        s.imsReject slot (some id) MASK_LEN_CNT
      else if m.segs.contains idx then s.bump (.comp 7) SEG_DUP_CNT
      else
        let body := (b.drop 28).take len
        let bad (e : BodyErr) : State :=
          s.imsReject slot (some id) (match e with | .len => MASK_LEN_CNT | .param => MASK_PARAM_CNT)
        if hdr.mode = 1 then
          match tileRecords (maskTiles hdr) body.length body with
          | .error e => bad e
          | .ok t => s.imsJoin slot m idx t []
        else match objRecords body with
          | .error e => bad e
          | .ok o => if 64 < m.objs.length + o.length then bad .len else s.imsJoin slot m idx [] o

/-- Clearing `IMS_CFG.EN` discards every FILLING slot; setting it starts a new order of masks (R73, R94). -/
def State.imsEnable (s : State) (en : Bool) : State :=
  let was := s.flag (.comp 7) IMS_CFG_EN
  let s := s.setFlag (.comp 7) IMS_CFG_EN en
  if en ∧ !was then { s with ims := { s.ims with newest := none } }
  else if !en ∧ was then
    (List.finRange 4).foldl (fun s i => if s.ims.slots[i].state = MASK_FILLING then s.setSlot i {} else s) s
  else s

/-- A write of `IMS_CFG` (R94): PORT_EN only while EN = 0, with the bits of absent ports reading 0. -/
def State.imsCfgWrite (s : State) (path : Path) (v : Nat) : State :=
  let ports := (List.range 4).foldl (fun m i =>
    match finOf 4 i with
    | some n => if bitOf v (4 + i) && (Page.eth n).declared s.pkg then m + 2 ^ i else m
    | none => m) 0
  if s.flag (.comp 7) IMS_CFG_EN ∧ ports ≠ s.get (.comp 7) IMS_CFG_PORT_EN then
    s.err (.comp 7) (pathCode path) IMS_CFG.off ST_STATE_REJECT 0x1C
  else (s.put (.comp 7) IMS_CFG_PORT_EN ports).imsEnable (bitOf v 0)

/-- A write of `IMS_MASK_BASE` (R94). -/
def State.imsBaseWrite (s : State) (path : Path) (v : Nat) : State :=
  if s.flag (.comp 7) IMS_CFG_EN then s.err (.comp 7) (pathCode path) IMS_MASK_BASE.off ST_STATE_REJECT 0x1C
  else s.plainWrite path (.comp 7) IMS_MASK_BASE.off v

/-- The newest complete mask (R17). -/
def State.imsNewest (s : State) : Option (Fin 4) :=
  (List.finRange 4).foldl (fun o i =>
    if s.ims.slots[i].state ≠ MASK_COMPLETE then o
    else match o with
      | none => some i
      | some k => if s.ims.slots[k].hdr.capture < s.ims.slots[i].hdr.capture then some i else some k) none

/-- The code of a mask pixel (R71): the tile that arrived first, else TILE_DEFAULT. -/
def MaskSlot.code (m : MaskSlot) (u v : Nat) : Nat :=
  match m.tiles.find? fun t => t.1 == v / 32 * ceilDiv m.hdr.width 32 + u / 32 with
  | some t => t.2.getD (v % 32 * 32 + u % 32) 0
  | none => m.hdr.tdef

/-- ASSEMBLY_TIMEOUT (R74): FILLING masks that have been filling for the timeout lose their slots. -/
def execAssemblyTimeout (t : Nat) (i : Fin 4) (s : State) : Out :=
  s.step' t fun s =>
    let m := s.ims.slots[i]
    if m.state ≠ MASK_FILLING ∨ s.now < m.since + s.imsTimeout then s
    else ((s.setSlot i {}).bump (.comp 7) MASK_TIMEOUT_CNT).raise (.comp 0) COMP_EV_ASSEMBLY_TIMEOUT

/-- REJECT_RECORD_EXPIRY (R74): entries whose time has passed leave the record. -/
def execRejectRecordExpiry (t : Nat) (s : State) : Out :=
  s.step' t fun s =>
    { s with ims := { s.ims with rejected := s.ims.rejected.filter fun e => decide (s.now < e.2) } }

end Sys2Proof.Machine
end

