-- ==== Sys2Proof/Machine/Pixels.lean ====
section
/-!
DEFINITION. The arithmetic of the compositor (spec/03): bilinear sampling (R64), the warp mesh (R78), the
Crema mask and its prediction (R67, R72, R75), stitch weights (R79), uniformity gain (R81), and the pixel
computation (R60–R63). Canvas positions are in 1/256 pixel.
-/

namespace Sys2Proof.Machine

/-- A texel index limited to a surface (R64). -/
def edgeTexel (n : Nat) (i : Int) : Nat := (clampI 0 ((n : Int) - 1) i).toNat

/-- Bilinear sampling at (u, v), weights in 1/256 of a texel, rounded to nearest with halves up (R64). -/
def bilinear (tex : Nat → Nat → Nat) (w h : Nat) (u v : Int) : Nat :=
  let u := u - 128
  let v := v - 128
  let fu := (u % 256).toNat
  let fv := (v % 256).toNat
  let i := u / 256
  let j := v / 256
  let row (j : Int) : Nat :=
    tex (edgeTexel w i) (edgeTexel h j) * (256 - fu) + tex (edgeTexel w (i + 1)) (edgeTexel h j) * fu
  (row j * (256 - fv) + row (j + 1) * fv + 32768) / 65536

/-- Bilinear interpolation between the nodes of a grid of `nx` × `ny` cells over `w` × `h` pixels, at the centre
of pixel (x, y), rounded to nearest with halves up (R78, R81). -/
def gridAt (node : Nat → Nat → Int) (nx ny w h x y : Nat) : Int :=
  let fi := (2 * x + 1) * nx
  let fj := (2 * y + 1) * ny
  let i := min (fi / (2 * w)) (nx - 1)
  let j := min (fj / (2 * h)) (ny - 1)
  let ti : Int := (fi : Int) - (i * (2 * w) : Nat)
  let tj : Int := (fj : Int) - (j * (2 * h) : Nat)
  let di : Int := (2 * w : Nat)
  let dj : Int := (2 * h : Nat)
  let row (j : Nat) : Int := node i j * (di - ti) + node (i + 1) j * ti
  roundDivI (row j * (dj - tj) + row (j + 1) * tj) (2 * w * (2 * h))

/-- `MESH(x + 0.5, y + 0.5)` (R78). -/
def meshAt (dram : List (Nat × Byte)) (addr w h x y : Nat) : Int × Int :=
  let node (c : Nat) (i j : Nat) : Int := signed 32 (memLE dram (addr + 8 * (65 * j + i) + 4 * c) 4)
  (gridAt (node 0) 64 40 w h x y, gridAt (node 1) 64 40 w h x y)

/-- The 81 × 51 nodes of a uniformity map (R81). -/
def unifNodes (dram : List (Nat × Byte)) (addr : Nat) : List Nat :=
  (List.range (81 * 51)).map fun i => memLE dram (addr + 2 * i) 2

/-- Step `k` of `n` of a uniformity fade, node by node (R81). -/
def fadeNodes (old new : List Nat) (k n : Nat) : List Nat :=
  (old.zip new).map fun e => ((e.1 : Int) + roundDivI (((e.2 : Int) - e.1) * k) n).toNat

/-- Gn at the centre of a pixel, Q1.15 (R81). -/
def gainAt (nodes : List Nat) (w h x y : Nat) : Nat :=
  (gridAt (fun i j => (nodes.getD (81 * j + i) 0 : Nat)) 80 50 w h x y).toNat

/-! ### Stitching (R79) -/

/-- round(65536 × f(a / b)), linear or smoothstep. -/
def rampF (smooth : Bool) (a b : Nat) : Nat :=
  if smooth then roundDiv (65536 * (3 * a * a * b - 2 * a * a * a)) (b * b * b) else roundDiv (65536 * a) b

/-- The weight along one axis: window from `x0`, `w` wide, ramps `lo` and `hi`, at `c` in 1/256 pixel. -/
def axisWeight (smooth : Bool) (x0 w lo hi : Nat) (c : Int) : Nat :=
  let a : Int := c - (256 * x0 : Nat)
  let b : Int := c - (256 * (x0 + w - hi) : Nat)
  if 0 < lo ∧ 0 ≤ a ∧ a < (256 * lo : Nat) then rampF smooth a.toNat (256 * lo)
  else if 0 < hi ∧ 0 ≤ b ∧ b < (256 * hi : Nat) then 65536 - rampF smooth b.toNat (256 * hi)
  else 65536

/-! ### Crema (R67, R72, R75) -/

/-- Held to 1/256: rounded to nearest, halves up. -/
def heldRat (x : Rat) : Int := (x + 1 / 2).floor

/-- A mask as a composition samples it: rectangle on the canvas, s = `sNum / sDen`, and its content. -/
structure CremaView where
  mode : Nat
  width : Nat
  height : Nat
  code : Nat → Nat → Nat
  objs : List PredObj
  outside : Nat
  orgX : Int
  orgY : Int
  scale : Nat
  foeX : Int
  foeY : Int
  dx : Int
  dy : Int
  sNum : Nat
  sDen : Nat

/-- The mask coordinate of a canvas coordinate in 1/256 mask pixel, as a quotient (R67, R75). -/
def CremaView.coord (v : CremaView) (p d foe org : Int) (num den : Nat) : Int × Nat :=
  let D := den + num
  (((p - d - foe) * den + (foe - org) * D) * 256, D * v.scale)

/-- Whether a quotient lies in [0, n) mask pixels. -/
def inMask (q : Int × Nat) (n : Nat) : Bool := decide (0 ≤ q.1) && decide (q.1 < (n * 256 * q.2 : Nat))

/-- The code of an object at a point (R72). -/
def PredObj.codeAt (o : PredObj) (x y : Int) : Nat :=
  let ax : Int := max ((x - o.cx).natAbs - o.hw) 0
  let ay : Int := max ((y - o.cy).natAbs - o.hh) 0
  let d := max ax ay
  if 0 < o.feather then (roundDivI (o.atten * max (o.feather - d) 0) o.feather.toNat).toNat
  else if d = 0 then o.atten else 0

/-- CREMA(p) (R67, R72, R75). -/
def CremaView.at (v : CremaView) (x y : Int) : Nat :=
  if v.width = 0 ∨ v.height = 0 then v.outside
  else if v.mode = 1 then
    let a := v.coord x v.dx v.foeX v.orgX v.sNum v.sDen
    let b := v.coord y v.dy v.foeY v.orgY v.sNum v.sDen
    if inMask a v.width && inMask b v.height then
      bilinear v.code v.width v.height (roundDivI a.1 a.2) (roundDivI b.1 b.2)
    else v.outside
  else
    let a := v.coord x v.dx v.foeX v.orgX 0 1
    let b := v.coord y v.dy v.foeY v.orgY 0 1
    let base := if inMask a v.width && inMask b v.height then 0 else v.outside
    v.objs.foldl (fun m o => max m (o.codeAt x y)) base

/-! ### The pixel (R60–R63) -/

/-- What the computation of one image needs; a disabled layer is the constant of R61. -/
structure PixelEnv where
  canvasW : Nat
  canvasH : Nat
  mesh : Nat → Nat → Int × Int
  base : Int → Int → Nat
  signal : Int → Int → Nat
  l3 : Int → Int → Nat × Nat
  crema : Int → Int → Nat
  weight : Int → Int → Nat

/-- V after the blend, and whether the pixel saturated or met FLOOR above CEIL (R60, R62, R63). -/
def PixelEnv.blend (e : PixelEnv) (x y : Nat) : Nat × Bool × Bool :=
  let (cx, cy) := e.mesh x y
  if cx < 0 ∨ (256 * e.canvasW : Nat) ≤ cx ∨ cy < 0 ∨ (256 * e.canvasH : Nat) ≤ cy then (0, false, false)
  else
    let b := e.base cx cy
    let sg := e.signal cx cy
    let (f, c) := e.l3 cx cy
    let t := (b * (255 - e.crema cx cy) + 127) / 255
    let v := min (t + sg) 65535
    let v := min (max v f) c
    ((v * e.weight cx cy + 32768) / 65536, decide (65535 < t + sg), decide (c < f))

/-- The uniformity step, and whether it saturated (R60, R63). -/
def unifStep (v g : Nat) : Nat × Bool :=
  let x := (v * g + 16384) / 32768
  (min x 65535, decide (65535 < x))

end Sys2Proof.Machine
end

