-- ==== Sys2Proof/Machine/Comp.lean ====
section
/-!
DEFINITION. The compositor (spec/03): commit validation (R80, R82, R96), the composition set and triggers
(R84, R85), what a composition latches (R17, R29, R68, R75, R81, R83), its images and ready marks (R60,
R82–R84), its end and its abandonment (R88).
-/

namespace Sys2Proof.Machine

def COMP_OFF : Nat := 0
def COMP_WAIT : Nat := 1
def COMP_SETUP : Nat := 2
def COMP_COMPOSING : Nat := 3
def COMP_EV_DONE : Nat := 0
def COMP_EV_MOTION_STALE : Nat := 4
def COMP_EV_MASK_STALE : Nat := 5
def COMP_EV_PTW_CLIP : Nat := 6
def COMP_EV_SATURATE : Nat := 7
def COMP_EV_L3_CONFLICT : Nat := 8
def COMP_EV_SCN_SKIP : Nat := 10
def COMP_EV_THROTTLED : Nat := 11

def State.compState (s : State) : Nat := s.get (.comp 0) BLK_STATE

/-- Pages 1–7 show the state of page 0 (R89). -/
def State.compTo (s : State) (st : Nat) : State :=
  (List.finRange 8).foldl (fun s i => s.put (.comp i) BLK_STATE st) s

def State.modCmp (s : State) (f : Comp → Comp) : State := { s with cmp := f s.cmp }

/-! ### Fields of one image: engine or scanner -/

/-- Origin and size of a window (R91). -/
structure Win where
  x : Nat
  y : Nat
  w : Nat
  h : Nat
  deriving DecidableEq, Repr

def winOf (org size : Nat) : Win := { x := bitsOf org 0 13, y := bitsOf org 16 11, w := bitsOf size 0 14, h := bitsOf size 16 12 }

/-- The window of an engine, staged or in effect by `g`. -/
def engWin (g : Page → RF → Nat) (n : Fin 4) : Win := winOf (g (compOfEng n) CE_WIN_ORG) (g (compOfEng n) CE_WIN_SIZE)
def scnWin (g : Page → RF → Nat) (k : Fin 2) : Win := winOf (g (.comp 5) (CS_WIN_ORG k.val)) (g (.comp 5) (CS_WIN_SIZE k.val))

/-- Width and height of a geometry word of ENG or SCN (R78, R83). -/
def geomW (g : Nat) : Nat := bitsOf g 0 12
def geomH (g : Nat) : Nat := bitsOf g 16 11
def State.engGeom (s : State) (n : Fin 4) : Nat := (s.infReg ((Page.eng n).base + ENG_GEOM.off)).toNat

/-! ### Commit validation (R65, R69, R80, R82, R96) -/

/-- Whether one window's axis overlaps another's partially, with the overlap and the facing ramps (R80). -/
def axisPair (s0 w0 s1 w1 lo0 hi0 lo1 hi1 : Nat) : Option (Nat × Nat × Nat) :=
  let inter := min (s0 + w0) (s1 + w1) - max s0 s1
  if inter < w0 ∧ inter < w1 then
    (if s0 < s1 then some (inter, hi0, lo1) else some (inter, hi1, lo0))
  else none

/-- The stitch faults of a pair of windows with their ramps L, R, T, B (R80). -/
def stitchPair (a b : Win) (ra rb : Nat × Nat × Nat × Nat) : Bool × Bool :=
  let meets (s0 w0 s1 w1 : Nat) : Bool := decide (max s0 s1 < min (s0 + w0) (s1 + w1))
  if !(meets a.x a.w b.x b.w && meets a.y a.h b.y b.h) then (false, false)
  else
    let px := axisPair a.x a.w b.x b.w ra.1 ra.2.1 rb.1 rb.2.1
    let py := axisPair a.y a.h b.y b.h ra.2.2.1 ra.2.2.2 rb.2.2.1 rb.2.2.2
    let ps := px.toList ++ py.toList
    (ps.isEmpty || ps.any (fun p => p.2.1 != p.1 || p.2.2 != p.1), ps.any fun p => decide (128 < p.1))

/-- Ramps L, R, T, B of an engine as staged (R79). -/
def State.rampsOf (g : Page → RF → Nat) (n : Nat) : Nat × Nat × Nat × Nat :=
  (g (.comp 0) (STITCH_ENG_LEFT n), g (.comp 0) (STITCH_ENG_RIGHT n), g (.comp 0) (STITCH_ENG_TOP n), g (.comp 0) (STITCH_ENG_BOTTOM n))

def State.compFails (s : State) : List CommitFail :=
  let p0 := Page.comp 0
  let f (c d : Nat) (b : Bool) : List CommitFail := if b then [(c, d, p0)] else []
  let cw := s.get p0 COMP_CANVAS_WIDTH
  let ch := s.get p0 COMP_CANVAS_HEIGHT
  let comp := (List.finRange 4).filter fun n => (Page.eng n).declared s.pkg && s.flag (compOfEng n) CE_CFG_EN
  let own := comp.filter fun n => !s.flag (compOfEng n) CE_CFG_CLONE
  let scns := (List.finRange 2).filter fun k => (Page.scn k).declared s.pkg && s.flag (.comp 5) (CS_CFG_EN k.val)
  let inside (w : Win) : Bool := w.w != 0 && w.h != 0 && decide (w.x + w.w ≤ cw) && decide (w.y + w.h ≤ ch)
  let stride (v least : Nat) : List CommitFail := f ST_LEN_ERR 0x16 (decide (v < least)) ++ f ST_BAD_PARAM 0x17 (v % 64 != 0)
  let base := s.flag p0 COMP_LAYER_EN_BASE
  let wins := own.map (engWin s.get) ++ scns.map (scnWin s.get)
  let stale := s.get (.comp 6) CREMA_STALE_MODE
  let scale := bitsOf (s.get (.comp 6) CREMA_SCALE) 0 16
  let tt := bitsOf (s.get p0 COMP_TRIG_TIMEOUT) 0 16
  let wide (n : Fin 4) : Bool :=
    let (l, r, t, b) := State.rampsOf s.get n.val
    let w := engWin s.get n
    decide (128 < max (max l r) (max t b)) || decide (w.w < 2 * max l r) || decide (w.h < 2 * max t b)
  let above (n : Fin 4) : Bool :=
    let (l, r, t, b) := State.rampsOf s.get n.val
    decide (128 < max (max l r) (max t b))
  let pairs := own.flatMap fun a => (own.filter fun b => decide (a.val < b.val)).map fun b =>
    stitchPair (engWin s.get a) (engWin s.get b) (State.rampsOf s.get a.val) (State.rampsOf s.get b.val)
  let stitch := s.flag p0 STITCH_CFG_EN
  f ST_BAD_PARAM 0x10 (cw == 0 || ch == 0 || decide (8192 < cw) || decide (2048 < ch)) ++
  f ST_BAD_PARAM 0x11 (wins.any fun w => !inside w) ++
  f ST_BAD_PARAM 0x12 (stitch && pairs.any (·.1)) ++
  f ST_BAD_PARAM 0x13 (stitch && (pairs.any (·.2) || own.any wide)) ++
  ((comp.filter fun n => s.flag (compOfEng n) CE_CFG_CLONE).flatMap fun n =>
    match finOf 4 (s.get (compOfEng n) CE_CFG_CLONE_SRC) with
    | none => []
    | some m => f ST_BAD_PARAM 0x14 (s.engGeom n != s.engGeom m) ++ f ST_BAD_PARAM 0x15 (!own.contains m)) ++
  (if base then own.flatMap fun n => stride (bitsOf (s.get (compOfEng n) CE_BASE_STRIDE) 0 20) (2 * (engWin s.get n).w) else []) ++
  (if base then scns.flatMap fun k => stride (bitsOf (s.get (.comp 5) (CS_BASE_STRIDE k.val)) 0 20) (2 * (scnWin s.get k).w)
    else []) ++
  (if s.flag p0 COMP_LAYER_EN_SIGNAL then stride (bitsOf (s.get (.comp 6) SIGNAL_STRIDE) 0 20) (2 * cw) else []) ++
  (if s.flag p0 COMP_LAYER_EN_L3 then
    stride (bitsOf (s.get (.comp 6) L3_STRIDE) 0 20) (4 * ceilDiv cw (2 ^ s.get (.comp 6) L3_CFG_SCALE)) else []) ++
  f ST_BAD_PARAM 0x18 (s.flag p0 COMP_SAFETY_L3_REQUIRED && !s.flag p0 COMP_LAYER_EN_L3) ++
  f ST_BAD_PARAM 0x19 (s.flag p0 COMP_SAFETY_CREMA_REQUIRED && (!s.flag p0 COMP_LAYER_EN_CREMA || stale == 0)) ++
  f ST_BAD_PARAM 0x1A (s.get p0 COMP_CFG_TRIG_MODE == 3 || decide (tt < 100) || decide (5000 < tt) || decide (scale < 0x40) ||
    decide (0x1000 < scale) || decide (cw ≤ s.get p0 PTW_FOE_X) || decide (ch ≤ s.get p0 PTW_FOE_Y) ||
    s.get p0 PTW_LIMITS_MAX_EXPAND == 0 || s.get p0 PTW_LIMITS_MAX_SHIFT == 0 ||
    bitsOf (s.get p0 PTW_MAX_HORIZON) 0 16 == 0 || s.get (.comp 6) CREMA_STALE_MAX_AGE == 0 ||
    (List.finRange 4).any above) ++
  f ST_BAD_PARAM 0x1B (s.flag p0 PTW_CFG_EN &&
    (bitsOf (s.get p0 CANVAS_RES_X) 0 24 == 0 || bitsOf (s.get p0 CANVAS_RES_Y) 0 24 == 0))

/-! ### Applying a commit (R42, R68, R81, R86) -/

/-- A change of `CE_UNIF_ADDR` starts a fade from the gains in use, or ends one (R81). -/
def State.unifChange (s : State) (n : Fin 4) (old : Nat) : State :=
  let p := compOfEng n
  let k := s.inf p CE_CFG_UNIF_FADE
  let o := s.cmp.fade[n]
  let base := if k = 0 then [] else if o.inUse.isEmpty then unifNodes s.dram (64 * old) else o.inUse
  (s.modCmp fun c => { c with fade := c.fade.set n.val { o with base := base, done := 0, total := k } }).put p
    CE_UNIF_FADE_POS k

/-- The commit applies or is rejected as a whole (R46, R86). -/
def State.compApply (s : State) (late : Bool) : State :=
  let crema := s.inf (.comp 0) COMP_LAYER_EN_CREMA
  let addr (n : Fin 4) : Nat := s.inf (compOfEng n) CE_UNIF_ADDR
  let (s', ok) := s.commitWhole .comp late s.compFails
  if !ok then s'
  else
    let s' := { s' with planAt := s'.now }
    let s' := if crema = 0 ∧ s'.inf (.comp 0) COMP_LAYER_EN_CREMA = 1 then s'.modCmp fun c => { c with cremaAt := s'.now } else s'
    (List.finRange 4).foldl (fun s' n =>
      if s'.inf (compOfEng n) CE_UNIF_ADDR = addr n then s' else s'.unifChange n (addr n)) s'

/-- GO of the compositor group (R43, R86): at once in OFF, and while its domains are off before the grant (R39). -/
def State.compGo (s : State) : State :=
  let after := s.compState == COMP_SETUP
  let s' := s.commitOpen .comp { late := after, skip := after }
  if s.compState = COMP_OFF ∨ !s.cmp.granted then s'.compApply false else s'

/-- A pending commit reaches a composition start (R45, R86). -/
def State.compPoint (s : State) : State :=
  if !s.commitPending .comp then s
  else
    let r := s.commitRec .comp
    if r.skip then s.setCommitRec .comp { r with skip := false } else s.compApply r.late

/-! ### The composition set (R83–R85) -/

def isComposable (st : Nat) : Bool := st == E_READY || st == E_LIT || st == E_HOLD

/-- The composition set (R84). -/
def State.compSet (s : State) : List (Fin 4) :=
  (List.finRange 4).filter fun n => s.infFlag (compOfEng n) CE_CFG_EN && isComposable (s.engState n)

/-- The scanners with `CS_CFG.EN` = 1, whatever their state: one whose back buffer is free is composed (R83). -/
def State.compScns (s : State) : List (Fin 2) :=
  (List.finRange 2).filter fun k => (Page.scn k).declared s.pkg && s.infFlag (.comp 5) (CS_CFG_EN k.val)

/-- The DMC is in RUN, without which no composition runs (R316). -/
def State.dmcRunning (s : State) : Bool := s.get (.dmc 0) BLK_STATE == 2

/-- A composition can begin (R84, R85, R316). With an empty set and every enabled scanner's back buffer busy no scanner is
to be composed, so none begins and `CS_SKIP_CNT` stays (log entry 24). -/
def State.compCan (s : State) : Bool :=
  s.compState == COMP_WAIT && s.cmp.granted && s.dmcRunning &&
    (!s.compSet.isEmpty || s.compScns.any fun k => s.scn[k].ready.isNone) && s.compSet.all fun n => s.eng[n].ready.isNone

/-- A mask newer than the last one latched is complete (R85). -/
def State.maskNewer (s : State) : Bool :=
  match s.imsNewest with
  | none => false
  | some i => match s.cmp.lastCap with
    | none => true
    | some c => decide (c < s.ims.slots[i].hdr.capture)

/-- The set's last frame start, or the enabling of the compositor (R85, R473); the enabling alone for an empty set (log
entry 24). -/
def State.compLastStart (s : State) : Nat := s.compSet.foldl (fun m n => max m s.eng[n].sk) s.cmp.enAt

/-- Set-up begins (R85). -/
def State.compSetup (s : State) : State := (s.modCmp fun c => { c with setupAt := s.now }).compTo COMP_SETUP

/-! ### The prediction (R75–R77) -/

/-- Motion age in ns: the stamp's SECONDS are the nearest to the local time (R77). -/
def State.motionAge (s : State) (m : Motion) : Int :=
  let sec := s.localSec
  let base : Int := (sec / 2 ^ 32 * 2 ^ 32 + m.sec : Nat)
  let d := base - sec
  let st := if 2 ^ 31 < d then base - 2 ^ 32 else if d < -(2 ^ 31) then base + 2 ^ 32 else base
  (s.localTime : Int) - (st * 1000000000 + m.ns)

/-- The motion set a composition latches now (R77). -/
def State.motionNow (s : State) : Option Motion := if s.cmp.motAt = s.now then s.cmp.motPrev else s.cmp.mot

/-- The mask is stale (R68). -/
def State.maskStale (s : State) (m : Option MaskSlot) : Bool :=
  match m, s.ims.completeAt with
  | some m, some t =>
    let age : Int := (s.localTime : Int) - m.hdr.capture
    decide (t < max s.cmp.enAt s.cmp.cremaAt) || s.get .time BLK_STATE == 0 || decide (age < -1000000) ||
      decide (((s.inf (.comp 6) CREMA_STALE_MAX_AGE * 1000000 : Nat) : Int) < age)
  | _, _ => true

/-- A value limited to ±`m`, and whether it was. -/
def clipAbs (m x : Rat) : Rat × Bool := if m < x then (m, true) else if x < -m then (-m, true) else (x, false)

/-- The expansion term of a range (R75), as a quotient, and whether it was limited. -/
def State.expansion (s : State) (v h range : Nat) : (Nat × Nat) × Bool :=
  let m := s.inf (.comp 0) PTW_LIMITS_MAX_EXPAND
  if s.inf (.comp 0) PTW_CFG_EXPAND_EN = 0 ∨ range = 0 then ((0, 1), false)
  else
    let num := v * h * 10
    let den := 1000000000000 * range
    if m * den < num * 256 then ((m, 256), true) else ((num, den), false)

/-- A predicted object and whether it clipped (R75). `h` is in ns, dx and dy in 1/256 pixel. -/
def State.predictObj (s : State) (o : MaskObj) (ref v h : Nat) (dx dy : Int) : PredObj × Bool :=
  let (e, c1) := s.expansion v h (if o.range = 0 then ref else o.range)
  let k : Rat := 1 + (e.1 : Rat) / (e.2 : Rat)
  let sc := bitsOf (s.inf (.comp 6) CREMA_SCALE) 0 16
  let org := s.inf (.comp 6) CREMA_ORG
  let shift : Rat := (s.inf (.comp 0) PTW_LIMITS_MAX_SHIFT * 256 : Nat)
  let move (w : Int) : Rat × Bool := clipAbs shift ((w * (sc * h : Nat) : Int) / (16000000000 : Rat))
  let (mx, c2) := move o.vx
  let (my, c3) := move o.vy
  let foeX : Rat := (s.inf (.comp 0) PTW_FOE_X * 256 : Nat)
  let foeY : Rat := (s.inf (.comp 0) PTW_FOE_Y * 256 : Nat)
  let size (x : Nat) : Rat := (x * sc : Nat) / (16 : Rat)
  let cx : Rat := (bitsOf org 0 13 * 256 : Nat) + size o.cx
  let cy : Rat := (bitsOf org 16 11 * 256 : Nat) + size o.cy
  ({ atten := o.atten, cx := heldRat (foeX + (cx - foeX) * k + dx + mx), cy := heldRat (foeY + (cy - foeY) * k + dy + my)
     hw := heldRat (size o.hw * k), hh := heldRat (size o.hh * k), feather := heldRat (size o.feather * k) },
    c1 || c2 || c3)

/-- The prediction of a mask for a photon instant in local ns (R75, R76): the run with it, h, and whether
anything clipped. -/
def State.predict (s : State) (r : CompRun) (m : MaskSlot) (mot : Option Motion) (tP : Nat) : CompRun × Nat × Bool :=
  let p := Page.comp 0
  let en := s.infFlag p PTW_CFG_EN
  let hmax := bitsOf (s.inf p PTW_MAX_HORIZON) 0 16 * 1000
  let raw : Int := (tP : Int) - m.hdr.capture
  let h := if en then (clampI 0 hmax raw).toNat else 0
  let c0 := en && (decide (raw < 0) || decide ((hmax : Int) < raw))
  let mo : Motion := mot.getD { yaw := 0, pitch := 0, speed := 0, sec := 0, ns := 0 }
  let lim : Rat := (s.inf p PTW_LIMITS_MAX_SHIFT * 256 : Nat)
  let shift (rate : Int) (res : Nat) : Rat := if res = 0 then 0 else (rate * (h * 65536 : Nat) : Int) / ((1000000000 * res : Nat) : Rat)
  let (dx, c1) := clipAbs lim (shift mo.yaw (bitsOf (s.inf p CANVAS_RES_X) 0 24))
  let (dy, c2) := clipAbs lim (-(shift mo.pitch (bitsOf (s.inf p CANVAS_RES_Y) 0 24)))
  let dx := heldRat dx
  let dy := heldRat dy
  if m.hdr.mode = 1 then
    let (e, c3) := s.expansion mo.speed h m.hdr.ref
    ({ r with dx := dx, dy := dy, sNum := e.1, sDen := e.2 }, h, c0 || c1 || c2 || c3)
  else
    let os := m.objs.map fun o => s.predictObj o m.hdr.ref mo.speed h dx dy
    ({ r with dx := dx, dy := dy, objs := os.map (·.1) }, h, c0 || c1 || c2 || os.any (·.2))

/-! ### A composition starts (R85) -/

/-- The time of `pix` pixels at the rate of the PCLK in force (R87). -/
def compDur (low : Bool) (pix : Nat) : Nat := ceilDiv (pix * 16) (if low then 4 else 6)

/-- Running sums of pixels over a list of images in the order they are composed. -/
def cumPix {α : Type} : Nat → List (α × Nat) → List (α × Nat × Nat)
  | _, [] => []
  | a, (x, g) :: r => (x, g, a + geomW g * geomH g) :: cumPix (a + geomW g * geomH g) r

/-- The predicted start of an engine's frame (R27). -/
def State.predStart (s : State) (n : Fin 4) (base : Nat) : Nat :=
  tickUp (if s.engState n = E_LIT then max base (s.setE n)
    else if s.engState n = E_HOLD then max base s.eng[n].holdEnd else base)

/-- The next step of an engine's uniformity fade (R81): the gains in use and what is left. -/
def State.fadeStep (s : State) (n : Fin 4) : State :=
  let p := compOfEng n
  let new := unifNodes s.dram (64 * s.inf p CE_UNIF_ADDR)
  let o := s.cmp.fade[n]
  let k := o.done + 1
  let o := if o.done < o.total then
      { o with done := k, inUse := if k = o.total then new else fadeNodes o.base new k o.total }
    else { o with inUse := new }
  (s.modCmp fun c => { c with fade := c.fade.set n.val o }).put p CE_UNIF_FADE_POS (o.total - o.done)

/-- The flag, counter and event of a staleness check (R29, R68). -/
def State.staleFlag (s : State) (fl cnt : RF) (ev : Nat) (b : Bool) : State :=
  let s := s.setFlag (.comp 0) fl b
  if b then (s.bump (.comp 0) cnt).raise (.comp 0) ev else s

/-- The mask is selected and its slot set to IN_USE (R17, R85). -/
def State.latchMask (s : State) : State × Option (Fin 4) :=
  match s.imsNewest with
  | none => (s, none)
  | some i =>
    let m := s.ims.slots[i]
    let s := s.setSlot i { m with state := MASK_IN_USE, latched := true }
    (s.modCmp fun c => { c with lastCap := some m.hdr.capture }, some i)

/-- Mask, motion and prediction of a composition (R17, R29, R68, R75), for the photon instant `tP` in local ns. With no
complete mask none is made: `PTW_LAST_DX`, `_DY`, `_HORIZON` and `PTW_CLIP_CNT` stay (log entry 24). -/
def State.compLatch (s : State) (r : CompRun) (tP : Nat) : State × CompRun :=
  let p := Page.comp 0
  let mot := s.motionNow
  let old := match mot with | none => true | some m => decide (100000000 < s.motionAge m)
  let mStale := s.infFlag p PTW_CFG_EN && old
  let sel := s.imsNewest.map fun i => s.ims.slots[i]
  let stale := s.infFlag p COMP_LAYER_EN_CREMA && s.maskStale sel
  let (s, slot) := s.latchMask
  let s := match slot with | some i => s.noteMask i | none => s
  let s := s.staleFlag COMP_STATUS_MOTION_STALE COMP_MOTION_STALE_CNT COMP_EV_MOTION_STALE mStale
  let s := s.staleFlag COMP_STATUS_MASK_STALE COMP_MASK_STALE_CNT COMP_EV_MASK_STALE stale
  let fill := if stale && s.infFlag (.comp 6) CREMA_STALE_MODE then some (s.inf (.comp 6) CREMA_STALE_FILL) else none
  let r := { r with slot := slot.map (·.val), fill := fill }
  match sel with
  | none => (s, r)
  | some m =>
    let (r, h, clip) := s.predict r m (if mStale then none else mot) tP
    let s := (s.put p PTW_LAST_DX (unsigned 32 r.dx)).put p PTW_LAST_DY (unsigned 32 r.dy)
    let s := s.put p PTW_LAST_HORIZON h
    (if clip then (s.bump p PTW_CLIP_CNT).raise p COMP_EV_PTW_CLIP else s, r)

/-- Scanners whose back buffer is not free are skipped (R83). -/
def State.skipScns (s : State) (l : List (Fin 2)) : State :=
  l.foldl (fun s k => (s.bump (.comp 5) (CS_SKIP_CNT k.val)).raise (.comp 0) COMP_EV_SCN_SKIP) s

/-- Composition start (R85, R86, R345): a new content package, the commit point, then everything that is latched. With an empty
set and no scanner to compose the compositor waits again (R84); a clone whose source is not composed is skipped (R82)
but stays in the set, whose lowest engine gives the photon instant (R75); a scanner's frame gives it where the set is
empty (R200, log entry 24). -/
def State.compStart (s : State) : State :=
  let s := s.contentSwap.compPoint
  let all := s.compSet
  let set := all.filter fun n => s.eng[n].ready.isNone
  let isClone (n : Fin 4) : Bool := s.infFlag (compOfEng n) CE_CFG_CLONE
  let own := set.filter fun n => !isClone n
  let src (n : Fin 4) : Nat := s.inf (compOfEng n) CE_CFG_CLONE_SRC
  let clones := set.filter fun n => isClone n && own.any fun m => m.val == src n && s.engGeom m == s.engGeom n
  let scns := s.compScns.filter fun k => s.scn[k].ready.isNone
  if (all.isEmpty ∧ scns.isEmpty) ∨ !s.dmcRunning then s.compTo COMP_WAIT
  else
    let s := s.skipScns (s.compScns.filter fun k => s.scn[k].ready.isSome)
    let low := s.flag .therm THERM_STATUS_PCLK_LOW
    let s := s.setFlag (.comp 0) COMP_STATUS_THROTTLED low
    let s := if low then s.raise (.comp 0) COMP_EV_THROTTLED else s
    let e := cumPix 0 (own.map fun n => (n, s.engGeom n))
    let pixE := (own.map fun n => geomW (s.engGeom n) * geomH (s.engGeom n)).sum
    let c := cumPix pixE (scns.map fun k => (k, s.scnGeom k))
    let pix := pixE + (scns.map fun k => geomW (s.scnGeom k) * geomH (s.scnGeom k)).sum
    let base := s.now + compDur low pix + swapGuard
    let photon := match all, scns with
      | n :: _, _ => s.predStart n base + s.pnomOf n s.grd[n].sel / 2
      | [], k :: _ => s.scnPhoton k base
      | [], [] => base
    let r : CompRun := {
      start := s.now, low := low
      engs := e.map fun x => (x.1.val, x.2.1, s.predStart x.1 base, x.2.2)
      clones := clones.map fun n => (n.val, src n, s.engGeom n, s.predStart n base)
      scns := c.map fun x => (x.1.val, x.2.1, x.2.2) }
    let (s, r) := s.compLatch r (s.at photon).localTime
    let s := (own ++ clones).foldl State.fadeStep s
    (s.modCmp fun c => { c with run := some r, serial := c.serial + 1 }).compTo COMP_COMPOSING

/-! ### Images (R60–R67, R78–R83) -/

/-- The mask as the running composition samples it. -/
def State.cremaView (s : State) (r : CompRun) : CremaView :=
  let m : MaskSlot := match r.slot with
    | some i => s.ims.slots.toList.getD i {}
    | none => {}
  let org := s.inf (.comp 6) CREMA_ORG
  { mode := m.hdr.mode, width := m.hdr.width, height := m.hdr.height, code := m.code, objs := r.objs
    outside := bitsOf (s.inf (.comp 6) CREMA_OUTSIDE) 0 8
    orgX := (bitsOf org 0 13 * 256 : Nat), orgY := (bitsOf org 16 11 * 256 : Nat)
    scale := bitsOf (s.inf (.comp 6) CREMA_SCALE) 0 16
    foeX := (s.inf (.comp 0) PTW_FOE_X * 256 : Nat), foeY := (s.inf (.comp 0) PTW_FOE_Y * 256 : Nat)
    dx := r.dx, dy := r.dy, sNum := r.sNum, sDen := r.sDen }

/-- The layers of one image (R60–R64): window, BASE surface, mesh and stitch weight are the image's own. -/
def State.pixelEnv (s : State) (r : CompRun) (w : Win) (base stride mesh geom : Nat) (weight : Int → Int → Nat) :
    PixelEnv :=
  let cw := s.inf (.comp 0) COMP_CANVAS_WIDTH
  let ch := s.inf (.comp 0) COMP_CANVAS_HEIGHT
  let view := s.cremaView r
  let l3 := 64 * s.inf (.comp 6) L3_ADDR
  let l3s := bitsOf (s.inf (.comp 6) L3_STRIDE) 0 20
  let sh := s.inf (.comp 6) L3_CFG_SCALE
  let inWin (x y : Int) : Bool :=
    decide ((256 * w.x : Nat) ≤ x) && decide (x < (256 * (w.x + w.w) : Nat)) && decide ((256 * w.y : Nat) ≤ y) &&
      decide (y < (256 * (w.y + w.h) : Nat))
  { canvasW := cw, canvasH := ch
    mesh := meshAt s.dram (64 * mesh) (geomW geom) (geomH geom)
    base := fun x y =>
      if s.infFlag (.comp 0) COMP_LAYER_EN_BASE ∧ inWin x y then
        bilinear (fun i j => memLE s.dram (64 * base + j * stride + 2 * i) 2) w.w w.h (x - (256 * w.x : Nat)) (y - (256 * w.y : Nat))
      else 0
    signal := fun x y =>
      if s.infFlag (.comp 0) COMP_LAYER_EN_SIGNAL then
        let a := 64 * s.inf (.comp 6) SIGNAL_ADDR
        let st := bitsOf (s.inf (.comp 6) SIGNAL_STRIDE) 0 20
        bilinear (fun i j => memLE s.dram (a + j * st + 2 * i) 2) cw ch x y
      else 0
    l3 := fun x y =>
      if s.infFlag (.comp 0) COMP_LAYER_EN_L3 then
        let a := l3 + (y / 256).toNat / 2 ^ sh * l3s + (x / 256).toNat / 2 ^ sh * 4
        (memLE s.dram a 2, memLE s.dram (a + 2) 2)
      else (0, 65535)
    crema := fun x y =>
      if !s.infFlag (.comp 0) COMP_LAYER_EN_CREMA then 0
      else match r.fill with
        | some c => c
        | none => view.at x y
    weight := weight }

/-- The stitch weight of an engine (R61, R79). -/
def State.stitchAt (s : State) (n : Fin 4) (x y : Int) : Nat :=
  if !s.infFlag (.comp 0) STITCH_CFG_EN then 65536
  else
    let w := engWin s.inf n
    let (l, r, t, b) := State.rampsOf s.inf n.val
    let sm := s.infFlag (.comp 0) STITCH_CFG_PROFILE
    (axisWeight sm w.x w.w l r x * axisWeight sm w.y w.h t b y + 32768) / 65536

/-- All pixels of an image, row by row. -/
def pixelList (e : PixelEnv) (geom : Nat) : List (Nat × Bool × Bool) :=
  (List.range (geomH geom)).flatMap fun y => (List.range (geomW geom)).map fun x => e.blend x y

/-- An image with an engine's own uniformity gain, and whether it saturated (R60, R61, R81, R82). -/
def State.withGain (s : State) (n : Fin 4) (geom : Nat) (px : List Nat) : List Nat × Bool :=
  let en := s.infFlag (compOfEng n) CE_CFG_UNIF_EN
  let nodes := s.cmp.fade[n].inUse
  let w := geomW geom
  let l := px.zipIdx.map fun v =>
    unifStep v.1 (if en then gainAt nodes w (geomH geom) (v.2 % w) (v.2 / w) else 32768)
  (l.map (·.1), l.any (·.2))

/-- 16-bit codes to memory, little-endian (R8, R21). -/
def State.putImage (s : State) (a : Nat) (px : List Nat) : State :=
  { s with fsram := memSetBytes s.fsram a (px.flatMap fun v => [BitVec.ofNat 8 v, BitVec.ofNat 8 (v / 256)]) }

/-- The back buffer of an engine (R21, R22). -/
def State.engBack (s : State) (n : Fin 4) : Nat := n.val * quarterSize + (1 - s.get (.eng n) ENG_STATUS_FRONT) * 0x800000

/-- The back buffer of an engine is complete (R84): written, marked ready, its duration shown. -/
def State.engDone (s : State) (r : CompRun) (n : Fin 4) (geom pred : Nat) (px : List Nat) : State × CompRun :=
  let (img, sat) := s.withGain n geom px
  let s := (s.putImage (s.engBack n) img).put (compOfEng n) CE_DONE (toNs (s.now - r.start))
  (s.engImage n s.cmp.serial geom pred, { r with sat := r.sat || sat, marked := r.marked ++ [n.val] })

/-- The next engine of the composition is complete, with its clones (R82, R84). -/
def State.compEngine (s : State) (r : CompRun) (n : Fin 4) (geom pred : Nat) : State × CompRun :=
  let p := compOfEng n
  let e := s.pixelEnv r (engWin s.inf n) (s.inf p CE_BASE_ADDR) (bitsOf (s.inf p CE_BASE_STRIDE) 0 20)
    (s.inf p CE_MESH_ADDR) geom (s.stitchAt n)
  let px := pixelList e geom
  let r := { r with sat := r.sat || px.any (·.2.1), conflict := r.conflict || px.any (·.2.2) }
  let codes := px.map (·.1)
  let out := s.engDone r n geom pred codes
  r.clones.foldl (fun (o : State × CompRun) c =>
    if c.2.1 ≠ n.val then o
    else match finOf 4 c.1 with
      | none => o
      | some k => o.1.engDone o.2 k c.2.2.1 c.2.2.2 codes) out

/-- The next scanner of the composition is complete (R83). -/
def State.compScanner (s : State) (r : CompRun) (k : Fin 2) (geom : Nat) : State × CompRun :=
  let p := Page.comp 5
  let e := s.pixelEnv r (scnWin s.inf k) (s.inf p (CS_BASE_ADDR k.val)) (bitsOf (s.inf p (CS_BASE_STRIDE k.val)) 0 20)
    (s.inf p (CS_MESH_ADDR k.val)) geom (fun _ _ => 65536)
  let px := pixelList e geom
  let r := { r with sat := r.sat || px.any (·.2.1), conflict := r.conflict || px.any (·.2.2), marked := r.marked ++ [4 + k.val] }
  ((s.putImage (scnBuffer k (1 - s.get (.scn k) SCN_STATUS_FRONT)) (px.map (·.1))).scnImage k geom, r)

/-! ### End, abandonment, enabling (R73, R84, R88) -/

/-- The slot of the latched mask is COMPLETE again (R73). -/
def State.compRelease (s : State) (r : CompRun) : State :=
  match r.slot.bind (finOf 4) with
  | some i =>
    let m := s.ims.slots[i]
    if m.state = MASK_IN_USE then s.setSlot i { m with state := MASK_COMPLETE } else s
  | none => s

/-- A composition is abandoned (R88, R316): its ready marks still waiting are withdrawn, it is not counted, and raises no
L3_CONFLICT or SATURATE (log entry 24). A GO after the beginning of the abandoned set-up applies at the next composition
start, still late. -/
def State.compAbandon (s : State) : State :=
  if s.compState ≠ COMP_SETUP ∧ s.compState ≠ COMP_COMPOSING then s
  else
    let s := if s.commitPending .comp then s.setCommitRec .comp { s.commitRec .comp with skip := false } else s
    let s := match s.cmp.run with
      | none => s
      | some r =>
        let s := r.marked.foldl (fun (s : State) u =>
          match finOf 4 u, finOf 2 (u - 4) with
          | some n, _ => if s.eng[n].ready.isSome then s.engWithdraw n else s
          | none, some k => if s.scn[k].ready.isSome then s.scnWithdraw k else s
          | none, none => s) s
        s.compRelease r
    (s.modCmp fun c => { c with run := none }).compTo COMP_WAIT

/-- `BLK_CTRL.EN` of page 0 changes (R88, R376): the compositor requests its grant, or goes OFF and its
pending commit applies at once (R43). -/
def State.compEnable (s : State) (en : Bool) : State :=
  if en then
    if s.compState ≠ COMP_OFF then s
    else ((s.modCmp fun c => { c with enAt := s.now }).compTo COMP_WAIT).pbaRequest ID_COMP NO_PORT
  else if s.compState = COMP_OFF then s
  else
    let s := (s.compAbandon.modCmp fun c => { c with granted := false }).compTo COMP_OFF
    let s := s.pbaRelease ID_COMP NO_PORT
    if s.commitPending .comp then s.compApply (s.commitRec .comp).late else s

/-- The grant has switched the compositor's domains on (R379). -/
def State.compProceed (s : State) : State :=
  if s.compState = COMP_OFF then s else s.modCmp fun c => { c with granted := true }

/-- SRST of a compositor page (R36, R88): of page 0 the compositor, of page 7 ingest starts again; of any page it abandons
the composition, whose configuration it takes away. -/
def State.compSrst (s : State) (i : Fin 8) : State :=
  if i.val = 0 then
    let s := s.compEnable false
    s.modCmp fun _ => {}
  else
    let s := s.compAbandon
    if i.val = 7 then { s with ims := {} }.imsShow else s

/-- A motion set is published (R77). -/
def State.motionPublish (s : State) : State :=
  let p := Page.comp 0
  let m : Motion := { yaw := signed 32 (s.get p MOT_YAW), pitch := signed 32 (s.get p MOT_PITCH), speed := s.get p MOT_SPEED
                      sec := s.get p MOT_STAMP_SEC, ns := s.get p MOT_STAMP_NS }
  s.modCmp fun c => { c with motPrev := if c.motAt = s.now then c.motPrev else c.mot, mot := some m, motAt := s.now }

/-- Registers of the compositor pages with rules of their own (R77, R94). -/
def State.compWrite (s : State) (path : Path) (i : Fin 8) (off v : Nat) : State :=
  if i.val = 0 ∧ off = MOT_STAMP_NS.off then (s.plainWrite path (.comp i) off v).motionPublish
  else if i.val = 7 ∧ off = IMS_CFG.off then s.imsCfgWrite path v
  else if i.val = 7 ∧ off = IMS_MASK_BASE.off then s.imsBaseWrite path v
  else s.plainWrite path (.comp i) off v

/-! ### Meanings -/

/-- SETUP_START (R84, R85): set-up begins when the trigger of TRIG_MODE 0, 1 or 2 is met. -/
def execSetupStart (t : Nat) (s : State) : Out :=
  s.step' t fun s =>
    let m := s.inf (.comp 0) COMP_CFG_TRIG_MODE
    if s.compCan ∧ (m = 0 ∨ (m ≠ 3 ∧ s.maskNewer)) then s.compSetup else s

/-- COMP_TRIG_TIMEOUT (R85, R473). -/
def execCompTrigTimeout (t : Nat) (s : State) : Out :=
  s.step' t fun s =>
    if s.compCan ∧ s.inf (.comp 0) COMP_CFG_TRIG_MODE = 2 ∧
        s.compLastStart + usU (bitsOf (s.inf (.comp 0) COMP_TRIG_TIMEOUT) 0 16) ≤ s.now then s.compSetup
    else s

/-- COMPOSITION_START (R17, R29, R68, R75, R81, R83, R85–R87). -/
def execCompositionStart (t : Nat) (s : State) : Out :=
  s.step' t fun s => if s.compState = COMP_SETUP then s.compStart else s

/-- ENG_BACK_BUFFER_READY (R60–R67, R78–R84): the next image of the composition is complete, not before its
pixels at the rate of R87. -/
def execEngBackBufferReady (t : Nat) (s : State) : Out :=
  s.step' t fun s =>
    match s.cmp.run with
    | none => s
    | some r =>
      match r.engs with
      | (n, geom, pred, pix) :: rest =>
        (match finOf 4 n with
        | some n =>
          if s.now < r.start + compDur r.low pix then s
          else
            let (s, r) := s.compEngine { r with engs := rest } n geom pred
            s.modCmp fun c => { c with run := some r }
        | none => s)
      | [] =>
        match r.scns with
        | (k, geom, pix) :: rest =>
          (match finOf 2 k with
          | some k =>
            if s.now < r.start + compDur r.low pix then s
            else
              let (s, r) := s.compScanner { r with scns := rest } k geom
              s.modCmp fun c => { c with run := some r }
          | none => s)
        | [] => s

/-- COMPOSITION_END (R62, R63, R73, R84). A composition that is abandoned does not come here (log entry 24). -/
def execCompositionEnd (t : Nat) (s : State) : Out :=
  s.step' t fun s =>
    match s.cmp.run with
    | none => s
    | some r =>
      if !(r.engs.isEmpty && r.scns.isEmpty) then s
      else
        let p := Page.comp 0
        let s := (s.put p COMP_LAST_DUR (toNs (s.now - r.start))).bump p COMP_CNT
        let s := if r.sat then (s.bump p COMP_SAT_CNT).raise p COMP_EV_SATURATE else s
        let s := if r.conflict then (s.bump p COMP_L3_CONFLICT_CNT).raise p COMP_EV_L3_CONFLICT else s
        let s := (s.compRelease r).raise p COMP_EV_DONE
        (s.modCmp fun c => { c with run := none }).compTo COMP_WAIT

end Sys2Proof.Machine
end

