-- ==== Sys2Proof/Machine/Therm.lean ====
section
/-!
DEFINITION. Thermal sensing (spec/16): samples and their plausibility (R392–R394), junction temperature and
substitutes (R395), WARN, the throttle level and the level in force (R396–R399), external inputs (R400) and
`THERM_CMD` (R394).
-/

namespace Sys2Proof.Machine

def THERM_EV_WARN : Nat := 0
def THERM_EV_WARN_END : Nat := 1
def THERM_EV_THROT_UP : Nat := 2
def THERM_EV_THROT_DOWN : Nat := 3
def THERM_EV_SENSOR_FAIL : Nat := 4
def THERM_EV_SUBST_NONE : Nat := 5
def THERM_EV_XT_FAIL : Nat := 6
def THERM_EV_XT_DERATE : Nat := 7
def THERM_EV_DRAM_HOT_REQ : Nat := 8
def THERM_EV_RESTART : Nat := 9

def State.modTherm (s : State) (f : Therm → Therm) : State := { s with therm := f s.therm }

/-- °C in 0.125 °C. -/
def degC (c : Nat) : Int := (8 * c : Nat)

/-- The level in force, PCLK request, THROT and `BLK_STATE` (R398, R399, R406). -/
def State.thermShow (s : State) : State :=
  let p := Page.therm
  let max' := s.get p THERM_CFG_MAX_LVL
  let l := max s.therm.lvl (max (if s.flag p THERM_STATUS_DRAM_REQ then s.get p THERM_CFG_DRAM_LVL else 0)
    (if s.flag p THERM_STATUS_SUBST_NONE then max' else 0))
  let s := (s.put p THERM_STATUS_LEVEL l).put p THERM_STATUS_PCLK_LOW (s.get p (THERM_LVL_PCLK_LOW l))
  let s := s.setFlag p THERM_STATUS_THROT (s.therm.lvl != 0)
  s.put p BLK_STATE (if s.therm.lvl ≠ 0 then 2 else if s.flag p THERM_STATUS_WARN then 1 else 0)

/-- The band-3 request of the DMC (R307, R398). -/
def State.thermDram (s : State) (b : Bool) : State :=
  if s.flag .therm THERM_STATUS_DRAM_REQ = b then s
  else
    let s := s.setFlag .therm THERM_STATUS_DRAM_REQ b
    (if b then s.raise .therm THERM_EV_DRAM_HOT_REQ else s).thermShow

/-! ### On-die sensors (R392–R395) -/

/-- The orthogonal neighbours of a sensor in the grid of 6 columns by 4 rows (R392). -/
def sensorNbrs (i : Fin 24) : List (Fin 24) :=
  (List.finRange 24).filter fun j =>
    let dc : Nat := max (i.val % 6) (j.val % 6) - min (i.val % 6) (j.val % 6)
    let dr : Nat := max (i.val / 6) (j.val / 6) - min (i.val / 6) (j.val / 6)
    dc + dr == 1

def State.tsFailed (s : State) (i : Fin 24) : Bool := s.flag .therm (THERM_TS_FAILED i.val)
def State.tsValid (s : State) (i : Fin 24) : Bool := s.therm.ts[i].seen && !s.tsFailed i

/-- The highest reading among valid sensors of a list. -/
def State.hottest (s : State) (l : List (Fin 24)) : Option Int :=
  l.foldl (fun o i =>
    if !s.tsValid i then o
    else match o with
      | none => some s.therm.ts[i].last
      | some m => some (max m s.therm.ts[i].last)) none

/-- The value a sensor gives to T_J, and whether it is a substitute (R395). -/
def State.tsValue (s : State) (i : Fin 24) : Option (Int × Bool) :=
  if s.tsValid i then some (s.therm.ts[i].last, false)
  else if s.tsFailed i then (s.hottest (sensorNbrs i)).map fun m => (m + degC 8, true)
  else none

/-- T_J with its sensor, and whether a substitute is in control (R395). -/
def State.junction (s : State) : Option (Int × Fin 24 × Bool) :=
  (List.finRange 24).foldl (fun o i =>
    match s.tsValue i, o with
    | none, _ => o
    | some v, none => some (v.1, i, v.2)
    | some v, some b => if b.1 < v.1 then some (v.1, i, v.2) else o) none

/-- T_J as last updated, 0.125 °C. -/
def State.tj (s : State) : Int := signed 16 (s.get .therm THERM_TJ_T_J)

/-- The sampling interval code of a reading (R393): 0 10 ms, 1 1 ms, 2 100 µs. -/
def State.intervalCode (s : State) (r : Int) : Nat :=
  let d (f : RF) : Nat := (r - degC (s.get .therm f)).natAbs
  let m := min (d THERM_THR_WARN) (min (d THERM_THR_THROT) (d THERM_THR_SHUT))
  if 80 < m then 0 else if 24 < m then 1 else 2

def intervalU (c : Nat) : Nat := match c with | 0 => msU 10 | 1 => msU 1 | _ => usU 100

/-- Whether a reading is implausible (R394): outside −55 to 175 °C, or moved by more than 20 °C per ms. -/
def Sensor.implausible (o : Sensor) (r : Int) (now : Nat) : Bool :=
  decide (r < -440) || decide (1400 < r) ||
    (match o.at? with | some t => decide (now - t < (r - o.last).natAbs * 100000) | none => false)

/-- The register of a sensor (R406). -/
def State.tsShow (s : State) (i : Fin 24) : State :=
  let o := s.therm.ts[i]
  let failed := s.tsFailed i
  let sub := if failed then s.hottest (sensorNbrs i) else none
  let v : Int := match sub with | some m => m + degC 8 | none => o.last
  s.put .therm (THERM_TS i.val) ((if o.seen && !failed then 2 ^ 31 else 0) + (if failed then 2 ^ 30 else 0) +
    (if sub.isSome then 2 ^ 29 else 0) + s.intervalCode o.last * 2 ^ 16 + unsigned 16 v)

def State.tsShowAll (s : State) : State :=
  (List.finRange 24).foldl (fun s i => if s.therm.ts[i].seen ∨ s.tsFailed i then s.tsShow i else s) s

/-- SUBST_NONE (R398): some failed sensor has no valid neighbour. -/
def State.substNone (s : State) : State :=
  let b := (List.finRange 24).any fun i => s.tsFailed i && (s.hottest (sensorNbrs i)).isNone
  let was := s.flag .therm THERM_STATUS_SUBST_NONE
  let s := s.setFlag .therm THERM_STATUS_SUBST_NONE b
  if b ∧ !was then (s.raise .therm THERM_EV_SUBST_NONE).errHw .therm ST_HW_FAULT 0x21 else s

/-- T_J and the sensor in control (R395). -/
def State.tjUpdate (s : State) : State :=
  match s.junction with
  | none => s
  | some (v, i, sub) =>
    ((s.put .therm THERM_TJ_T_J (unsigned 16 v)).put .therm THERM_STATUS_HOT i.val).setFlag .therm THERM_STATUS_SUBST sub

/-- WARN (R396). -/
def State.warnUpdate (s : State) : State :=
  let p := Page.therm
  let w := degC (s.get p THERM_THR_WARN)
  if s.flag p THERM_STATUS_WARN then
    if s.tj ≤ w - degC (s.get p THERM_HYST_WARN_H) then (s.put p THERM_STATUS_WARN 0).raise p THERM_EV_WARN_END else s
  else if w ≤ s.tj then ((s.put p THERM_STATUS_WARN 1).bump p THERM_WARN_CNT).raise p THERM_EV_WARN
  else s

/-- J rises by one (R397). -/
def State.throtUp (s : State) : State :=
  if s.get .therm THERM_CFG_MAX_LVL ≤ s.therm.lvl then s
  else ((s.modTherm fun o => { o with lvl := o.lvl + 1 }).bump .therm THERM_THROT_CNT).raise .therm THERM_EV_THROT_UP

/-- J falls by one (R397). -/
def State.throtDown (s : State) : State :=
  if s.therm.lvl = 0 then s
  else (s.modTherm fun o => { o with lvl := o.lvl - 1 }).raise .therm THERM_EV_THROT_DOWN

/-- The step timers follow T_J, and J leaves 0 at once (R397). -/
def State.throtUpdate (s : State) : State :=
  let p := Page.therm
  let hi := degC (s.get p THERM_THR_THROT)
  let lo := hi - degC (s.get p THERM_HYST_THROT_H)
  if hi ≤ s.tj then
    let s := s.modTherm fun o => { o with belowFrom := none, aboveFrom := if o.aboveFrom.isSome then o.aboveFrom else some s.now }
    if s.therm.lvl = 0 then (s.modTherm fun o => { o with aboveFrom := some s.now }).throtUp else s
  else if s.tj ≤ lo then
    s.modTherm fun o => { o with aboveFrom := none, belowFrom := if o.belowFrom.isSome then o.belowFrom else some s.now }
  else s.modTherm fun o => { o with aboveFrom := none, belowFrom := none }

/-- A sample of an on-die sensor (R393–R398): the machine after it, and the sensor and value that reach
SHUT, if any (R403). -/
def State.tsSample (s : State) (i : Fin 24) (r : Int) : State × Option (Nat × Int) :=
  let o := s.therm.ts[i]
  let bad := o.implausible r s.now
  let newly := bad && !s.tsFailed i
  let s := s.modTherm fun m => { m with ts := m.ts.set i.val { last := r, seen := true, bad := ofBool bad, at? := some s.now } }
  let s := if newly then
      (((s.put .therm (THERM_TS_FAILED i.val) 1).bump .therm THERM_FAIL_CNT).raise .therm THERM_EV_SENSOR_FAIL).errHw
        .therm ST_HW_FAULT 0x20
    else s
  let s := s.tjUpdate.substNone.tsShowAll
  match s.junction with
  | none => (s.thermShow, none)
  | some (v, h, _) =>
    if degC (s.get .therm THERM_THR_SHUT) ≤ v then (s.thermShow, some (h.val, v))
    else (s.warnUpdate.throtUpdate.thermShow, none)

/-! ### External inputs (R393, R394, R400) -/

def State.xtFailed (s : State) (i : Fin 8) : Bool := s.flag .therm (THERM_XT_FAILED i.val)
/-- Whether an input is converted (R393). -/
def State.xtConverted (s : State) (i : Fin 8) : Bool :=
  s.domOn PD_NOC && s.flag .therm BLK_CTRL_EN && (s.flag .therm (THERM_XT_CFG_EN i.val) ||
    (s.flag (.dmc 0) DMC_TEMP_SRC_EN && s.get (.dmc 0) ⟨DMC_TEMP_SRC.off, 0, 3⟩ == i.val))

/-- θ_X of an input in 1/256 (R400). -/
def State.thetaXOf (s : State) (i : Fin 8) : Nat :=
  let c := s.get .therm (THERM_XT_CFG i.val)
  let lo := bitsOf c 16 8
  let hi := bitsOf c 8 8
  let m := bitsOf c 0 8
  let r := s.therm.xt[i].last
  if !s.flag .therm BLK_CTRL_EN || !bitOf c 31 then 256
  else if s.xtFailed i then m
  else if !s.therm.xt[i].seen then 256
  else if r ≤ degC lo then 256
  else if degC hi ≤ r then m
  else (256 + roundDivI (((m : Int) - 256) * (r - degC lo)) (8 * (hi - lo))).toNat

/-- θ_X, the registers and XT_DERATE of the inputs (R400, R406); an input that is not converted reads
VALID = 0. -/
def State.xtShow (s : State) : State :=
  let s := (List.finRange 8).foldl (fun (s : State) i =>
    let conv := s.xtConverted i
    let s := if conv then s else s.modTherm fun m => { m with xt := m.xt.set i.val { m.xt[i] with seen := false, at? := none } }
    let th := s.thetaXOf i
    let o := s.therm.xt[i]
    let failed := s.xtFailed i
    (s.modTherm fun m => { m with thX := m.thX.set i.val th }).put .therm (THERM_XT i.val)
      ((if o.seen && !failed then 2 ^ 31 else 0) + (if failed then 2 ^ 30 else 0) + min th 255 * 2 ^ 16 + unsigned 16 o.last)) s
  let b := (List.finRange 8).any fun i => decide (s.therm.thX[i] < 256)
  let was := s.flag .therm THERM_STATUS_XT_DERATE
  let s := s.setFlag .therm THERM_STATUS_XT_DERATE b
  if b ∧ !was then s.raise .therm THERM_EV_XT_DERATE else s

/-- An external input is marked failed (R394). -/
def State.xtFail (s : State) (i : Fin 8) : State :=
  (((s.put .therm (THERM_XT_FAILED i.val) 1).bump .therm THERM_FAIL_CNT).raise .therm THERM_EV_XT_FAIL).errHw
    .therm ST_HW_FAULT 0x22

/-- A conversion of an external input (R393, R394, R400). -/
def State.xtSample (s : State) (i : Fin 8) (r : Int) : State :=
  if !s.xtConverted i then s
  else
    let o := s.therm.xt[i]
    let bad := o.implausible r s.now
    let newly := bad && !s.xtFailed i
    let s := s.modTherm fun m => { m with xt := m.xt.set i.val { last := r, seen := true, bad := ofBool bad, at? := some s.now } }
    (if newly then s.xtFail i else s).xtShow

/-! ### Commands and writes (R394, R406) -/

/-- The reference of a REVALIDATE (R394). -/
def State.revalRef (s : State) (i : Fin 24) : Int :=
  match s.hottest (sensorNbrs i) with
  | some m => m
  | none => (s.hottest (List.finRange 24)).getD s.therm.tsb.last

/-- REVALIDATE of a source (R394): whether it is accepted. -/
def State.revalidate (s : State) (src : Nat) : State × Bool :=
  if h : src < 24 then
    let i : Fin 24 := ⟨src, h⟩
    let o := s.therm.ts[i]
    if o.seen ∧ o.bad = 0 ∧ (o.last - s.revalRef i).natAbs ≤ 64 then
      (((s.put .therm (THERM_TS_FAILED src) 0).substNone.tsShowAll).thermShow, true)
    else (s, false)
  else match finOf 8 (src - 24) with
    | none => (s, false)
    | some i =>
      let o := s.therm.xt[i]
      if o.seen ∧ o.bad = 0 then ((s.put .therm (THERM_XT_FAILED i.val) 0).xtShow, true) else (s, false)

/-- Registers of THERM with rules of their own (R394, R397, R400, R406). -/
def State.thermWrite (s : State) (path : Path) (off v : Nat) : State :=
  let p := Page.therm
  if off = THERM_CMD.off then
    if bitsOf v 0 4 ≠ 1 then s.err p (pathCode path) off ST_BAD_OPCODE 0x11
    else
      let (s', ok) := s.revalidate (bitsOf v 8 5)
      if ok then s' else s.err p (pathCode path) off ST_STATE_REJECT 0x12
  else
    let s := s.plainWrite path p off v
    if off = THERM_CFG.off then
      (s.modTherm fun o => { o with lvl := min o.lvl (s.get p THERM_CFG_MAX_LVL) }).thermShow
    else if 0x80 ≤ off ∧ off < 0xA0 then s.thermShow
    else if 0x200 ≤ off ∧ off < 0x240 then s.xtShow
    else s

/-! ### Meanings -/

/-- XT_SAMPLE (R392–R394, R400). `r` is the converted reading in 0.125 °C. -/
def execXtSample (t : Nat) (i : Fin 8) (r : Int) (s : State) : Out :=
  s.step' t fun s => (s.xtSample i r).pbaDue

/-- THROT_STEP_UP (R397). -/
def execThrotStepUp (t : Nat) (s : State) : Out :=
  s.step' t fun s =>
    match s.therm.aboveFrom with
    | none => s.pbaDue
    | some f =>
      if s.now < f + msU (s.get .therm THERM_STEP_UP_MS) then s.pbaDue
      else ((s.modTherm fun o => { o with aboveFrom := some s.now }).throtUp.thermShow).pbaDue

/-- THROT_STEP_DOWN (R397). -/
def execThrotStepDown (t : Nat) (s : State) : Out :=
  s.step' t fun s =>
    match s.therm.belowFrom with
    | none => s.pbaDue
    | some f =>
      if s.now < f + msU (s.get .therm THERM_STEP_DOWN_MS) then s.pbaDue
      else
        let s := s.modTherm fun o => { o with belowFrom := some s.now }
        (if s.flag .therm THERM_STATUS_SUBST then s else s.throtDown.thermShow).pbaDue

end Sys2Proof.Machine
end

