-- ==== Sys2Proof/Machine/Dmc.lean ====
section
/-!
DEFINITION. The LPDDR5X controller (spec/12): address mapping (R299, R300), ports and the write queue
(R301–R305), grants (R306), refresh (R307, R308), row hammer (R310), power-down and self-refresh (R311,
R312), training and drift (R313, R314), link ECC (R315), and the states (R316).
-/

namespace Sys2Proof.Machine

def DMC_OFF : Nat := 0
def DMC_TRAIN : Nat := 1
def DMC_RUN : Nat := 2
def DMC_SELF_REFRESH : Nat := 3
def DMC_FAULT : Nat := 4
def DMC_EV_STATE_CHANGE : Nat := 0
def DMC_EV_TRAIN_DONE : Nat := 1
def DMC_EV_TRAIN_FAIL : Nat := 2
def DMC_EV_OVER_TARGET : Nat := 3
def DMC_EV_FORCED_REF : Nat := 4
def DMC_EV_RH_DETECT : Nat := 5
def DMC_EV_BAND_CHANGE : Nat := 6
def DMC_EV_DRAM_HOT : Nat := 7
def DMC_EV_DRIFT_LIMIT : Nat := 8
def DMC_EV_LECC_CE : Nat := 9
def DMC_EV_LECC_UE : Nat := 10
def DMC_EV_FAULT_DROP : Nat := 11

def State.dmcState (s : State) : Nat := s.get (.dmc 0) BLK_STATE
def State.modDmc (s : State) (f : Dmc → Dmc) : State := { s with dmcs := f s.dmcs }
def State.modChan (s : State) (c : Fin 8) (f : DmcChan → DmcChan) : State :=
  s.modDmc fun d => { d with chans := d.chans.set c.val (f d.chans[c]) }
def State.modRank (s : State) (c : Fin 8) (r : Fin 2) (f : DmcRank → DmcRank) : State :=
  s.modChan c fun k => { k with ranks := k.ranks.set r.val (f k.ranks[r]) }

/-! ### Configuration and addresses (R297–R300) -/

/-- Capacity in 256 MiB units of a `DMC_CFG` word (R297). -/
def dmcUnits (cfg : Nat) : Nat :=
  (if bitOf cfg 4 then 4 else 8) * (if bitOf cfg 6 then 2 else 1) * (if bitOf cfg 7 then 8 else 4)

def unit256M : Nat := 0x10000000

/-- Whether a channel is in use (R297). -/
def chanUsed (cfg : Nat) (c : Fin 8) : Bool := !bitOf cfg 4 || (decide (4 ≤ c.val) == bitOf cfg 5)

/-- Channel and channel address of a physical address (R299). -/
def dmcMap (cfg pa : Nat) : Nat × Nat :=
  let s := if bitOf cfg 10 then 12 else 8
  let c := if bitOf cfg 4 then 2 else 3
  (bitsOf pa s c + (if bitOf cfg 4 && bitOf cfg 5 then 4 else 0), pa / 2 ^ (s + c) * 2 ^ s + pa % 2 ^ s)

/-- Rank, bank and row of a channel address (R299). -/
def dmcPlace (cfg ca : Nat) : Nat × Nat × Nat :=
  let rb := if bitOf cfg 7 then 16 else 15
  let rank := if bitOf cfg 6 then ca / 2 ^ (15 + rb) % 2 else 0
  match bitsOf cfg 8 2 with
  | 0 => (rank, bitsOf ca 11 4, bitsOf ca 15 rb)
  | 1 => (rank, bitsOf ca 5 4, bitsOf ca 15 rb)
  | _ => (rank, bitsOf ca (11 + rb) 4, bitsOf ca 11 rb)

def State.dmcCfg (s : State) : Nat := s.get (.dmc 0) DMC_CFG
/-- The channel of a physical address. -/
def State.chanOf (s : State) (pa : Nat) : Nat := (dmcMap s.dmcCfg pa).1

/-- The rows a range of one segment touches, by 32-byte bursts, each once (R299). -/
def State.rowsOf (s : State) (pa len : Nat) : List (Nat × Nat × Nat) :=
  ((List.range (ceilDiv (pa % 32 + len) 32)).map fun i =>
    dmcPlace s.dmcCfg (dmcMap s.dmcCfg (pa / 32 * 32 + 32 * i)).2).eraseDups

/-- The time of a transfer on one channel, 62.5 ps (R297): two bytes per transfer. -/
def State.xferU (s : State) (bytes : Nat) : Nat :=
  ceilDiv (bytes * 8000) (match bitsOf s.dmcCfg 0 2 with | 0 => 8533 | 1 => 7500 | _ => 6400)

/-- The physical address of an aperture address (R300). -/
def State.aperPa (s : State) (a : Nat) : Nat := bitsOf (s.get (.dmc 0) DMC_APER_BASE) 0 7 * unit256M + (a - 0x80000000)

/-! ### What the pages show (R318, R319) -/

/-- The level of an age against a target (R303). -/
def urgency (age target : Nat) : Nat :=
  if target ≤ age then 3 else if 3 * target ≤ 4 * age then 2 else if target ≤ 2 * age then 1 else 0

def State.portTarget (s : State) (p : Fin 8) : Nat := nsU (bitsOf (s.get (.dmc 1) (DMC_P_TARGET p.val)) 0 20)

/-- The outstanding read bytes of P0 on a channel (R302). -/
def State.p0Bytes (s : State) (l : List DmcReq) (c : Nat) : Nat :=
  ((l.filter fun q => !q.write && s.chanOf q.pa == c).map fun q => q.data.length).sum

/-- `DMC_P_STATUS` of a port now. -/
def State.portStatus (s : State) (p : Fin 8) : Nat :=
  let l := s.dmcs.ports[p]
  let lvl := match l with | [] => 0 | q :: _ => urgency (s.now - q.since) q.target
  let wait := l.any (·.write) || (p.val == 0 && (List.range 8).any fun c => decide (0x8000 < s.p0Bytes l c))
  let thr := s.dmcs.chans.toList.any fun k => k.throttle.any fun e => e.1 == p.val
  lvl + (if thr then 4 else 0) + (if wait then 8 else 0)

/-- `DMC_CH_STAT` of a channel now. -/
def State.chanStatus (s : State) (c : Fin 8) : Nat :=
  let k := s.dmcs.chans[c]
  if !chanUsed s.dmcCfg c then 0
  else
    let st := s.dmcState
    let failed := s.get (.dmc 2) (DMC_CH_STAT_STATE c.val) == 4
    (if st = DMC_FAULT then (if failed then 4 else 0) else st) + k.band * 2 ^ 4 + k.ranks[0].debt * 2 ^ 8 +
      k.ranks[1].debt * 2 ^ 12 + k.wq.length * 2 ^ 16 + (if k.drain then 2 ^ 23 else 0) + (if k.ranks[0].pd then 2 ^ 24 else 0) +
      (if k.ranks[1].pd then 2 ^ 25 else 0)

/-- Registers of the DMC pages that a read computes. -/
def State.dmcShow (s : State) (i : Fin 4) (off : Nat) : Option Nat :=
  if i.val = 1 then
    ((List.finRange 8).find? fun p => (DMC_P_STATUS p.val).off == off).map s.portStatus
  else if i.val = 2 then
    match (List.finRange 8).find? fun c => decide ((DMC_CH_STAT c.val).off ≤ off) && decide (off < (DMC_CH_STAT c.val).off + 0x20) with
    | none => none
    | some c => if off = (DMC_CH_STAT c.val).off then some (s.chanStatus c) else if chanUsed s.dmcCfg c then none else some 0
  else none

/-! ### States (R312, R313, R316) -/

/-- A request completed outside RUN: zeros or discarded, and counted (R316). -/
def State.faultDrop (s : State) (k : Nat) : State :=
  if k = 0 then s else (s.count (.dmc 0) DMC_FAULT_DROP_CNT k).raise (.dmc 0) DMC_EV_FAULT_DROP

/-- Every outstanding request is completed at once, and the queues are empty. -/
def State.dmcFlush (s : State) : State :=
  let n := (s.dmcs.ports.toList.map List.length).sum
  let s := s.modDmc fun d => { d with
    ports := Vector.replicate 8 []
    chans := d.chans.map fun k => { k with wq := [], drain := false, open_ := [], sliceDue := none, until' := 0 } }
  s.faultDrop n

/-- The DMC changes state: shown on its four pages; leaving RUN abandons a composition (R316). -/
def State.dmcTo (s : State) (st : Nat) : State :=
  if s.dmcState = st then s
  else
    let was := s.dmcState
    let s := (List.finRange 4).foldl (fun s i => s.put (.dmc i) BLK_STATE st) s
    let s := s.raise (.dmc 0) DMC_EV_STATE_CHANGE
    if was = DMC_RUN then s.dmcFlush.compAbandon else s

def bandInterval (b : Nat) : Nat := nsU (match b with | 0 => 3904 | 1 => 1952 | _ => 976)

/-- D := 0 and the due instants start, those of the two ranks half an interval apart (R307, R308, R312, R313); refresh counts of a window
start with RUN (R310), and so do the readings of MR4. -/
def State.dmcStart (s : State) (slices : Bool) : State :=
  let ms := msU (bitsOf (s.get (.dmc 0) DMC_RETRAIN) 0 14)
  s.modDmc fun d => { d with
    rhFrom := s.now
    chans := d.chans.map fun k => { k with
      ranks := k.ranks.mapFinIdx fun i r _ => { r with
        debt := 0, due := s.now + bandInterval k.band + bandInterval k.band / 2 * i, mr4At := s.now, busy := 0, idleFrom := s.now, pd := false }
      wq := [], drain := false, until' := s.now, slice := s.now + ms, sliceDue := none, sliceNow := slices
      open_ := [], rh := [], rfm := [], throttle := [] } }

/-- The throttle request stands while some channel's band is 3 (R307, R398). -/
def State.bandRequest (s : State) : State :=
  s.thermDram ((List.finRange 8).any fun c => chanUsed s.dmcCfg c && s.dmcs.chans[c].band == 3)

/-- What the DMC keeps beside its pages is as at reset; no band is in force. -/
def State.dmcClear (s : State) : State := (s.modDmc fun _ => {}).bandRequest

/-- `DMC_CMD` TRAIN, SR_ENTER, SR_EXIT, STOP (R312, R313, R316). -/
def State.dmcCmd (s : State) (path v : Nat) : State :=
  let p := Page.dmc 0
  let off := DMC_CMD.off
  let st := s.dmcState
  let refuse := s.err p path off ST_STATE_REJECT 0x13
  match bitsOf v 0 4 with
  | 1 => if st = DMC_OFF then (s.dmcTo DMC_TRAIN).pbaRequest ID_DMC NO_PORT else refuse
  | 2 =>
    if st ≠ DMC_RUN then refuse
    else if s.dmcs.ports.toList.any (!·.isEmpty) then
      s.err p path off ST_STATE_REJECT 0x15
    else (s.dmcTo DMC_SELF_REFRESH).setDom PD_DPHY false true
  | 3 =>
    if st ≠ DMC_SELF_REFRESH then refuse
    else (((s.setDom PD_DPHY true false).dmcStart true).dmcTo DMC_RUN)
  | 4 =>
    if st = DMC_RUN ∨ st = DMC_SELF_REFRESH ∨ st = DMC_FAULT then
      ((s.dmcTo DMC_OFF).dmcClear.pbaRelease ID_DMC NO_PORT).domOff PD_DPHY
    else refuse
  | _ => s.err p path off ST_BAD_OPCODE 0x14

/-- The grant has switched the domains on: training runs (R313, R379). -/
def State.dmcProceed (s : State) : State :=
  if s.dmcState = DMC_TRAIN then s.modDmc fun d => { d with trainAt := some s.now } else s

/-- PHY PLL loss or XTAL_FAIL (R316). -/
def State.dmcFault (s : State) : State :=
  let st := s.dmcState
  if st = DMC_TRAIN ∨ st = DMC_RUN ∨ st = DMC_SELF_REFRESH then
    ((s.modDmc fun d => { d with trainAt := none }).dmcTo DMC_FAULT).errHw (.dmc 0) ST_HW_FAULT 0x24
  else s

/-- Whether `BLK_CTRL` writes that reset or disable the DMC are refused (R316). -/
def State.dmcLive (s : State) : Bool :=
  s.dmcState == DMC_TRAIN || s.dmcState == DMC_RUN || s.dmcState == DMC_SELF_REFRESH

/-- SRST of the DMC in OFF or FAULT (R316). -/
def State.dmcSrst (s : State) : State :=
  if s.dmcState = DMC_FAULT then
    ((s.dmcTo DMC_OFF).dmcClear.pbaRelease ID_DMC NO_PORT).domOff PD_DPHY
  else s.dmcClear

/-- Registers of the DMC pages with rules of their own (R300, R316, R317). -/
def State.dmcWrite (s : State) (path : Path) (i : Fin 4) (off v : Nat) : State :=
  let p := Page.dmc i
  let err (cls d : Nat) : State := s.err p (pathCode path) off cls d
  if i.val = 0 then
    if off = DMC_CMD.off then s.dmcCmd (pathCode path) v
    else if off = DMC_CFG.off ∨ off = DMC_EYE_MIN.off then
      if !s.rangeOk p off v then err ST_BAD_PARAM 0x10
      else if off = DMC_CFG.off ∧ dmcUnits v < bitsOf (s.get p DMC_APER_BASE) 0 7 + 8 then err ST_BAD_PARAM 0x12
      else if s.dmcState ≠ DMC_OFF then err ST_STATE_REJECT 0x11
      else s.plainWrite path p off v
    else if off = DMC_APER_BASE.off ∧ dmcUnits s.dmcCfg < bitsOf v 0 7 + 8 then err ST_BAD_PARAM 0x12
    else
      let s := s.plainWrite path p off v
      if off = DMC_TEMP_SRC.off then s.xtShow else s
  else if i.val = 1 ∧ (List.range 8).any (fun q => (DMC_P_MAXLAT q).off == off) then s.setReg (p.base + off) 0
  else s.plainWrite path p off v

/-! ### Requests (R301, R302, R304, R305) -/

/-- The bytes a read of a port finds: DRAM, with the port's own waiting writes in issue order (R304). -/
def overlay (l : List DmcReq) (pa : Nat) (b : List Byte) : List Byte :=
  l.foldl (fun b q =>
    if !q.write then b
    else b.zipIdx.map fun e =>
      let a := pa + e.2
      if q.pa ≤ a ∧ a < q.pa + q.data.length then q.data.getD (a - q.pa) e.1 else e.1) b

/-- The ranks of a request leave power-down (R311). -/
def State.wakeRanks (s : State) (pa len : Nat) : State :=
  match finOf 8 (s.chanOf pa) with
  | none => s
  | some c => (s.rowsOf pa len).foldl (fun (s : State) e =>
      match finOf 2 e.1 with | some r => s.modRank c r fun k => { k with pd := false } | none => s) s

/-- Bytes are counted in units of 64 (R318). -/
def State.countBytes (s : State) (p : Fin 8) (write : Bool) (n : Nat) : State :=
  let b := (if write then s.dmcs.wrBytes[p] else s.dmcs.rdBytes[p]) + n
  let s := s.modDmc fun d =>
    if write then { d with wrBytes := d.wrBytes.set p.val (b % 64) } else { d with rdBytes := d.rdBytes.set p.val (b % 64) }
  s.count (.dmc 1) (if write then DMC_P_WR_CNT p.val else DMC_P_RD_CNT p.val) (b / 64)

/-- The port of an access through the aperture (R300): P4 for the MP, P7 for HSPI and ICP. -/
def aperPort (path : Path) : Fin 8 := match path with | .mp => 4 | .ext => 4 | .hspi => 7 | .icp => 7

/-- A word read through the aperture, after the writes that wait at its port (R300, R304). -/
def State.aperRead (s : State) (path : Path) (a : Nat) : Nat :=
  let pa := s.aperPa a
  leNat (overlay s.dmcs.ports[aperPort path] pa (memBytes s.dram pa 4))

/-- A word written through the aperture (R300): it takes effect after the writes that wait at its port, which no longer reach its
bytes (R304), and it is counted. -/
def State.aperWrite (s : State) (path : Path) (a v : Nat) : State :=
  let p := aperPort path
  let pa := s.aperPa a
  let w : List DmcReq := [{ write := true, pa := pa, data := leBytes 4 v, since := s.now, target := 0 }]
  let later (q : DmcReq) : DmcReq := if q.write then { q with data := overlay w q.pa q.data } else q
  let s := s.modDmc fun d => { d with ports := d.ports.set p.val (d.ports[p].map later) }
  ({ s with dram := memSetLE s.dram pa 4 v } : State).countBytes p true 4

/-- A request reaches a port (R301, R316). One that is not 32 to 256 bytes of one aligned segment within the memory is none (log entry
62). -/
def State.portRequest (s : State) (p : Fin 8) (write : Bool) (pa len : Nat) (data : List Byte) : State :=
  if len < 32 ∨ 256 < len ∨ 256 < pa % 256 + len ∨ dmcUnits s.dmcCfg * unit256M < pa + len then s
  else if s.dmcState ≠ DMC_RUN then
    let s := s.faultDrop 1
    if write then s else s.modDmc fun d => { d with rdData := d.rdData.set p.val (List.replicate len 0) }
  else
    let l := s.dmcs.ports[p]
    let b := if write then (List.range len).map fun i => data.getD i 0 else overlay l pa (memBytes s.dram pa len)
    let q : DmcReq := { write := write, pa := pa, data := b, since := s.now, target := s.portTarget p }
    (s.modDmc fun d => { d with ports := d.ports.set p.val (l ++ [q]) }).wakeRanks pa len

/-- The latency of a completed request is checked (R301). -/
def State.latency (s : State) (p : Fin 8) (q : DmcReq) : State :=
  let lat := s.now - q.since
  let s := s.keepMax (.dmc 1) (DMC_P_MAXLAT p.val) (toNs lat)
  if q.target < lat then (s.bump (.dmc 1) (DMC_P_OVER_CNT p.val)).raise (.dmc 0) DMC_EV_OVER_TARGET else s

/-- The oldest request of a port leaves it. -/
def State.popPort (s : State) (p : Fin 8) : State :=
  s.modDmc fun d => { d with ports := d.ports.set p.val (d.ports[p].drop 1) }

/-- Link ECC on a channel (R315): 0 none, 1 corrected, 2 uncorrectable. -/
def State.linkEcc (s : State) (c e : Nat) : State :=
  if !bitOf s.dmcCfg 11 then s
  else match e with
    | 0 => s
    | 1 => (s.bump (.dmc 2) (DMC_CH_LECC_CE_CNT (c % 8))).raise (.dmc 0) DMC_EV_LECC_CE
    | _ => ((s.bump (.dmc 2) (DMC_CH_LECC_UE_CNT (c % 8))).raise (.dmc 0) DMC_EV_LECC_UE).errHw (.dmc 0) ST_HW_FAULT 0x23

/-! ### Row hammer (R310) -/

/-- One more activation next to a row: its count after it, among the 32 tracked rows of the bank. -/
def rhTrack (l : List (Nat × Nat × Nat × Nat)) (r b row : Nat) : List (Nat × Nat × Nat × Nat) × Nat :=
  let mine := l.filter fun e => e.1 == r && e.2.1 == b
  let rest := l.filter fun e => !(e.1 == r && e.2.1 == b)
  match mine.find? fun e => e.2.2.1 == row with
  | some e => (rest ++ mine.map (fun x => if x.2.2.1 = row then (r, b, row, x.2.2.2 + 1) else x), e.2.2.2 + 1)
  | none =>
    if mine.length < 32 then (rest ++ mine ++ [(r, b, row, 1)], 1)
    else
      let lo := mine.foldl (fun (m : Nat × Nat) e => if e.2.2.2 < m.2 then (e.2.2.1, e.2.2.2) else m) (0, 2 ^ 32)
      (rest ++ (mine.filter fun e => e.2.2.1 != lo.1) ++ [(r, b, row, lo.2 + 1)], lo.2 + 1)

/-- A neighbour's activation of a row by a port (R310). -/
def State.hammer (s : State) (c : Fin 8) (port r b row : Nat) : State :=
  let (l, n) := rhTrack s.dmcs.chans[c].rh r b row
  let s := s.modChan c fun k => { k with rh := l }
  if n < s.get (.dmc 3) DMC_RH_CFG_THRESHOLD then s
  else
    let s := s.modChan c fun k => { k with
      rh := k.rh.map fun e => if e.1 = r ∧ e.2.1 = b ∧ e.2.2.1 = row then (r, b, row, 0) else e
      rfm := if k.rfm.contains (r, b) then k.rfm else k.rfm ++ [(r, b)]
      throttle := if k.throttle.contains (port, r, b) then k.throttle else k.throttle ++ [(port, r, b)] }
    let s := s.mark (.dmc 3) ⟨DMC_RH_FLAG.off, port, 1⟩
    let s := s.put (.dmc 3) DMC_RH_INFO (c.val * 2 ^ 29 + r * 2 ^ 28 + b * 2 ^ 24 + row % 2 ^ 16 * 2 ^ 8 + port)
    (s.bump (.dmc 3) DMC_RH_CNT).raise (.dmc 0) DMC_EV_RH_DETECT

/-- A row is activated for a port, closing the bank's open row; the counts of its neighbours rise. -/
def State.activate (s : State) (c : Fin 8) (port r b row : Nat) : State :=
  if s.dmcs.chans[c].open_.contains (r, b, row) then s
  else
    let rows := 2 ^ (if bitOf s.dmcCfg 7 then 16 else 15)
    let s := s.modChan c fun k => { k with open_ := (k.open_.filter fun e => !(e.1 == r && e.2.1 == b)) ++ [(r, b, row)] }
    let s := if row = 0 then s else s.hammer c port r b (row - 1)
    if row + 1 < rows then s.hammer c port r b (row + 1) else s

/-- The channel serves a range for a port: rows open, the ranks leave power-down. -/
def State.serve (s : State) (c : Fin 8) (port pa len : Nat) : State :=
  (s.rowsOf pa len).foldl (fun (s : State) e =>
    let s := s.activate c port e.1 e.2.1 e.2.2
    match finOf 2 e.1 with
    | some r => s.modRank c r fun k => { k with pd := false, idleFrom := s.now }
    | none => s) s

/-! ### Grants (R303, R305, R306) -/

/-- Whether a range can be served now: its ranks do not refresh, and a throttled port's activations have
waited (R306, R310). -/
def State.canServe (s : State) (c : Fin 8) (port pa len since : Nat) : Bool :=
  let k := s.dmcs.chans[c]
  (s.rowsOf pa len).all fun e =>
    (match finOf 2 e.1 with | some r => decide (k.ranks[r].busy ≤ s.now) | none => true) &&
      (k.open_.contains e || !k.throttle.contains (port, e.1, e.2.1) ||
        decide (since + nsU (s.get (.dmc 3) DMC_RH_CFG_THROTTLE_NS) ≤ s.now))

/-- The reads of a port that a channel may serve, oldest first (R302, R304). -/
def State.portReads (s : State) (c : Fin 8) (p : Fin 8) : List DmcReq :=
  let l := s.dmcs.ports[p].filter fun q => !q.write && !q.served && s.chanOf q.pa == c.val
  if p.val ≠ 0 then l
  else (l.foldl (fun (a : Nat × List DmcReq) q =>
    if a.1 + q.data.length ≤ 0x8000 then (a.1 + q.data.length, a.2 ++ [q]) else (0x8001, a.2)) (0, [])).2

/-- Candidates for a read grant: port, level, open-row hit, age and target of its next request. -/
def State.readCands (s : State) (c : Fin 8) : List (Fin 8 × Nat × Bool × Nat × Nat) :=
  (List.finRange 8).filterMap fun p =>
    match s.portReads c p with
    | [] => none
    | q :: _ =>
      if !s.canServe c p.val q.pa q.data.length q.since then none
      else
        let oldest := s.dmcs.ports[p].find? fun x => s.chanOf x.pa == c.val
        let age := s.now - (oldest.getD q).since
        let hit := (s.rowsOf q.pa q.data.length).all fun e => s.dmcs.chans[c].open_.contains e
        let target := (oldest.getD q).target
        some (p, urgency age target, hit, age, target)

/-- The order of item 6 of R306. -/
def candBefore (a b : Fin 8 × Nat × Bool × Nat × Nat) : Bool :=
  decide (b.2.1 < a.2.1) || (a.2.1 == b.2.1 &&
    ((a.2.1 == 0 && a.2.2.1 && !b.2.2.1) || ((a.2.1 != 0 || a.2.2.1 == b.2.2.1) &&
      (decide (b.2.2.2.1 * a.2.2.2.2 < a.2.2.2.1 * b.2.2.2.2) ||
        (b.2.2.2.1 * a.2.2.2.2 == a.2.2.2.1 * b.2.2.2.2 && decide (a.1.val < b.1.val))))))

def bestCand : List (Fin 8 × Nat × Bool × Nat × Nat) → Option (Fin 8)
  | [] => none
  | a :: r => some ((r.foldl (fun m x => if candBefore x m then x else m) a).1)

/-- The prefix of a list of requests that one grant takes: at most 4 KiB, while each can be served (R305). -/
def takeGrant (ok : Nat → Nat → Nat → Bool) : Nat → List (Nat × Nat × Nat) → List (Nat × Nat × Nat)
  | _, [] => []
  | n, (pa, len, since) :: r => if n + len ≤ 4096 ∧ ok pa len since then (pa, len, since) :: takeGrant ok (n + len) r else []

/-- A read grant to a port (R305, R306). -/
def State.readGrant (s : State) (c : Fin 8) (p : Fin 8) : State :=
  let l := takeGrant (fun pa len since => s.canServe c p.val pa len since) 0
    ((s.portReads c p).map fun q => (q.pa, q.data.length, q.since))
  let s := l.foldl (fun s q => s.serve c p.val q.1 q.2.1) s
  let s := s.modDmc fun d => { d with
    ports := d.ports.set p.val ((d.ports[p].foldl (fun (a : Nat × List DmcReq) q =>
      if !q.write && !q.served && s.chanOf q.pa == c.val && decide (0 < a.1) then (a.1 - 1, a.2 ++ [{ q with served := true }])
      else (a.1, a.2 ++ [q])) (l.length, [])).2) }
  s.modChan c fun k => { k with until' := s.now + s.xferU ((l.map (·.2.1)).sum) }

/-- The number of queued writes that a write grant takes: the oldest ones, at most 4 KiB, while each can be served (R305, R310). -/
def State.writesReady (s : State) (c : Fin 8) : List WqEntry → Nat → Nat
  | [], _ => 0
  | e :: r, n => if n + e.len ≤ 4096 ∧ s.canServe c e.port e.pa e.len e.since then s.writesReady c r (n + e.len) + 1 else 0

/-- A write grant of the oldest queued writes (R305, R306). -/
def State.writeGrant (s : State) (c : Fin 8) (ecc : Nat) : State :=
  let wq := s.dmcs.chans[c].wq
  let n := s.writesReady c wq 0
  let s := (wq.take n).foldl (fun s e => s.serve c e.port e.pa e.len) s
  let bytes := ((wq.take n).map (·.len)).sum
  let s := s.modChan c fun k => { k with
    wq := k.wq.drop n, drain := k.drain && decide (16 < k.wq.length - n), until' := s.now + s.xferU bytes }
  s.linkEcc c.val ecc

/-- tRFCab (R307). -/
def State.trfc (s : State) : Nat := nsU (if bitOf s.dmcCfg 7 then 280 else 210)

/-- A refresh of a rank (R308). -/
def State.refresh (s : State) (c : Fin 8) (r : Fin 2) (forced : Bool) : State :=
  let s := s.modRank c r fun k => { k with debt := k.debt - 1, busy := s.now + s.trfc, pd := false, idleFrom := s.now }
  let s := s.modChan c fun k => { k with open_ := k.open_.filter fun e => e.1 != r.val }
  if forced then (s.bump (.dmc 2) (DMC_CH_FORCED_REF_CNT c.val)).raise (.dmc 0) DMC_EV_FORCED_REF else s

/-- A retraining slice (R314) with the drift it measured, in 1/128 UI: at most one step of correction. -/
def State.retrain (s : State) (c : Fin 8) (drift : Int) : State :=
  let f := DMC_CH_DRIFT c.val
  let old := signed 16 (bitsOf (s.get (.dmc 2) f) 0 16)
  let new := old + clampI (-1) 1 drift
  let lim := decide (32 < new.natAbs)
  let s := s.modChan c fun k => { k with sliceDue := none, sliceNow := false, until' := s.now + nsU 400 }
  if lim then (s.raise (.dmc 0) DMC_EV_DRIFT_LIMIT).errHw (.dmc 0) ST_HW_FAULT 0x22
  else s.put (.dmc 2) f (unsigned 16 new)

/-- Ranks in use. -/
def State.dmcRanks (s : State) : List (Fin 2) := if bitOf s.dmcCfg 6 then [0, 1] else [0]

/-- A grant boundary (R306): the first applicable item. -/
def State.grantBoundary (s : State) (c : Fin 8) (drift : Int) (ecc : Nat) : State :=
  let k := s.dmcs.chans[c]
  let free (r : Fin 2) : Bool := decide (k.ranks[r].busy ≤ s.now)
  let p0 := s.dmcs.ports[(0 : Fin 8)].any fun q => s.chanOf q.pa == c.val
  let overdue := match k.sliceDue with | some d => decide (d + msU 10 ≤ s.now) | none => false
  match s.dmcRanks.find? fun r => free r && decide (8 ≤ k.ranks[r].debt) with
  | some r => s.refresh c r true
  | none =>
    if k.sliceNow || overdue then s.retrain c drift
    else match k.rfm with
      | _ :: rest => s.modChan c fun k => { k with rfm := rest }
      | [] =>
        match (if p0 then none else s.dmcRanks.find? fun r => free r && decide (1 ≤ k.ranks[r].debt)) with
        | some r => s.refresh c r false
        | none =>
          if k.sliceDue.isSome && !p0 then s.retrain c drift
          else
            let cands := s.readCands c
            let writes := decide (0 < s.writesReady c k.wq 0)
            match (if k.drain && writes then bestCand (cands.filter fun a => a.2.1 == 3) else bestCand cands) with
            | some p => s.readGrant c p
            | none => if writes then s.writeGrant c ecc else s

/-! ### Bands (R307) -/

/-- The temperature of the external input, while it is enabled and good (R307). -/
def State.extTemp (s : State) : Option Int :=
  let v := s.get (.dmc 0) DMC_TEMP_SRC
  match finOf 8 (bitsOf v 0 3) with
  | some i => if bitOf v 3 && s.therm.xt[i].seen && !s.xtFailed i then some s.therm.xt[i].last else none
  | none => none

/-- The upper boundary of a band in °C. -/
def bandTop (b : Nat) : Nat := match b with | 0 => 85 | 1 => 95 | _ => 105

/-- The band of the external temperature, and whether it lies at least 2 °C below the upper boundary of band `b` (R307). -/
def State.extBand (s : State) : Nat :=
  match s.extTemp with
  | some t => if t < degC 85 then 0 else if t < degC 95 then 1 else if t ≤ degC 105 then 2 else 3
  | none => 0
def State.extCool (s : State) (b : Nat) : Bool :=
  match s.extTemp with
  | some t => decide (t ≤ degC (bandTop b - 2))
  | none => true

/-- MR4 of a rank is read (R307): its code, the band it reports, and whether the DRAM lies at least 2 °C below the upper boundary of
a lower band, as the external temperature must. The band falls with the second such reading of one rank in a row, no reading between
them being another. -/
def State.mr4Read (s : State) (c : Fin 8) (r : Fin 2) (code band : Nat) (cool : Bool) : State :=
  let s := s.put (.dmc 2) ⟨(DMC_CH_TEMP c.val).off, 8 * r.val, 8⟩ code
  let s := s.modRank c r fun k => { k with band := band, mr4At := s.now }
  let k := s.dmcs.chans[c]
  let want := max s.extBand (s.dmcRanks.foldl (fun m r => max m k.ranks[r].band) 0)
  let go (b : Nat) : State :=
    let s := (s.modChan c fun k => { k with band := b, cool := none }).raise (.dmc 0) DMC_EV_BAND_CHANGE
    (if b = 3 then s.raise (.dmc 0) DMC_EV_DRAM_HOT else s).bandRequest
  if k.band < want then go want
  else if want = k.band ∨ !cool ∨ !s.extCool want then s.modChan c fun k => { k with cool := none }
  else match k.cool with
    | none => s.modChan c fun k => { k with cool := some r }
    | some r0 => if r0 = r then go want else s

/-! ### Meanings -/

/-- TRAIN_DONE (R298, R313, R316): training ends with the outcome of each channel. -/
def execTrainDone (t : Nat) (res : Vector ChanTrain 8) (s : State) : Out :=
  s.step' t fun s =>
    match s.dmcs.trainAt with
    | none => s
    | some t0 =>
      let used := (List.finRange 8).filter fun c => chanUsed s.dmcCfg c
      let eye := bitsOf (s.get (.dmc 0) DMC_EYE_MIN) 0 10
      let passes (c : Fin 8) : Bool :=
        res[c].steps && decide (eye ≤ bitsOf res[c].rd 0 10) && decide (eye ≤ bitsOf res[c].wr 0 10)
      let mask (f : Fin 8 → Bool) : Nat := used.foldl (fun m c => if f c then m + 2 ^ c.val else m) 0
      let geom := mask fun c => res[c].geom
      let bad := mask fun c => !passes c && !res[c].geom
      let s := used.foldl (fun s c => s.put (.dmc 2) (DMC_CH_MARGIN c.val) (bitsOf res[c].wr 0 10 * 2 ^ 16 + bitsOf res[c].rd 0 10)) s
      let s := s.put (.dmc 0) DMC_TRAIN_TIME (min 65535 (toUs (s.now - t0)))
      let s := used.foldl (fun s c => (s.put (.dmc 2) (DMC_CH_DRIFT c.val) 0).put (.dmc 2) (DMC_CH_STAT_STATE c.val)
        (if bitOf (geom + bad) c.val then 4 else 2)) s
      let s := s.modDmc fun d => { d with trainAt := none }
      if geom = 0 ∧ bad = 0 then
        let s := s.put (.dmc 0) DMC_SIZE (dmcUnits s.dmcCfg)
        ((s.dmcStart false).dmcTo DMC_RUN).raise (.dmc 0) DMC_EV_TRAIN_DONE
      else
        let s := (s.dmcTo DMC_FAULT).raise (.dmc 0) DMC_EV_TRAIN_FAIL
        let s := if bad = 0 then s else s.errInfo (.dmc 0) PATH_HW 0 ST_HW_FAULT 0x20 bad
        if geom = 0 then s else s.errInfo (.dmc 0) PATH_HW 0 ST_HW_FAULT 0x21 geom

/-- PHY_PLL_LOSS (R316). -/
def execPhyPllLoss (t : Nat) (s : State) : Out := s.step' t State.dmcFault

/-- PORT_REQUEST (R301, R316). -/
def execPortRequest (t : Nat) (p : Fin 8) (write : Bool) (pa len : Nat) (data : List Byte) (s : State) : Out :=
  s.step' t fun s => s.portRequest p write pa len data

/-- The write at the front of a port enters the queue of its channel: memory shows it from now on, and the 48th entry starts a
drain (R302). -/
def State.enterWrite (s : State) (p : Fin 8) (q : DmcReq) (c : Fin 8) : State :=
  let n := s.dmcs.chans[c].wq.length
  let s := { (s.popPort p) with dram := memSetBytes s.dram q.pa q.data }
  let start := decide (48 ≤ n + 1) && !s.dmcs.chans[c].drain
  let s := s.modChan c fun k => { k with wq := k.wq ++ [{ port := p.val, pa := q.pa, len := q.data.length, since := q.since }], drain := k.drain || start }
  if start then s.bump (.dmc 2) (DMC_CH_DRAIN_CNT c.val) else s

/-- WRITE_QUEUE_ENTRY (R304, R305): the oldest request of a port, a write accepted before this instant, enters
the queue of its channel, becomes visible, and completes. -/
def execWriteQueueEntry (t : Nat) (p : Fin 8) (s : State) : Out :=
  s.step' t fun s =>
    match s.dmcs.ports[p] with
    | [] => s
    | q :: _ =>
      match finOf 8 (s.chanOf q.pa) with
      | none => s
      | some c =>
        if !q.write ∨ s.now ≤ q.since ∨ 64 ≤ s.dmcs.chans[c].wq.length then s
        else ((s.enterWrite p q c).latency p q).countBytes p true q.data.length

/-- What a port receives for a read (R315): its data, or free bytes when the link changed them beyond correction. -/
def State.received (s : State) (q : DmcReq) (ecc : Nat) : List Byte :=
  if ecc = 0 ∨ (ecc = 1 ∧ bitOf s.dmcCfg 11) then q.data
  else (List.range q.data.length).map fun i => (Config.freeWord (s.fresh + i)).setWidth 8

/-- REQUEST_COMPLETE (R301, R304, R315): the oldest request of a port, a read that a grant has served, returns
its data. -/
def execRequestComplete (t : Nat) (p : Fin 8) (ecc : Fin 3) (s : State) : Out :=
  s.step' t fun s =>
    match s.dmcs.ports[p] with
    | [] => s
    | q :: _ =>
      if q.write ∨ !q.served then s
      else
        let b := s.received q ecc.val
        let s := (({ s with fresh := s.fresh + q.data.length } : State).popPort p).modDmc fun d => { d with rdData := d.rdData.set p.val b }
        ((s.latency p q).countBytes p false q.data.length).linkEcc (s.chanOf q.pa) ecc.val

/-- GRANT_BOUNDARY (R306, R308, R310, R314, R315). -/
def execGrantBoundary (t : Nat) (c : Fin 8) (drift : Int) (ecc : Fin 3) (s : State) : Out :=
  s.step' t fun s =>
    if s.dmcState ≠ DMC_RUN ∨ !chanUsed s.dmcCfg c ∨ s.now < s.dmcs.chans[c].until' then s
    else s.grantBoundary c drift ecc.val

/-- REFRESH_DUE (R307, R308). -/
def execRefreshDue (t : Nat) (c : Fin 8) (r : Fin 2) (s : State) : Out :=
  s.step' t fun s =>
    let k := s.dmcs.chans[c]
    if s.dmcState ≠ DMC_RUN ∨ !chanUsed s.dmcCfg c ∨ !s.dmcRanks.contains r ∨ s.now < k.ranks[r].due then s
    else s.modRank c r fun x => { x with debt := min 8 (x.debt + 1), due := x.due + bandInterval k.band }

/-- RETRAIN_SLICE (R314): a slice falls due; the next grant boundaries run it. -/
def execRetrainSlice (t : Nat) (c : Fin 8) (s : State) : Out :=
  s.step' t fun s =>
    let ms := msU (bitsOf (s.get (.dmc 0) DMC_RETRAIN) 0 14)
    let k := s.dmcs.chans[c]
    if s.dmcState ≠ DMC_RUN ∨ !chanUsed s.dmcCfg c ∨ ms = 0 ∨ s.now < k.slice then s
    else s.modChan c fun k => { k with slice := s.now + ms, sliceDue := if k.sliceDue.isSome then k.sliceDue else some s.now }

/-- MR4_READ (R307): every `DMC_TEMP_MS`. -/
def execMr4Read (t : Nat) (c : Fin 8) (r : Fin 2) (code : Fin 256) (band : Fin 4) (cool : Bool) (s : State) : Out :=
  s.step' t fun s =>
    if s.dmcState ≠ DMC_RUN ∨ !chanUsed s.dmcCfg c ∨ !s.dmcRanks.contains r ∨
        s.now < s.dmcs.chans[c].ranks[r].mr4At + msU (bitsOf (s.get (.dmc 0) DMC_TEMP_MS) 0 8) then s
    else s.mr4Read c r code.val band.val cool

/-- RH_WINDOW_END (R310). -/
def execRhWindowEnd (t : Nat) (s : State) : Out :=
  s.step' t fun s =>
    if s.dmcState ≠ DMC_RUN ∨ s.now < s.dmcs.rhFrom + msU 32 then s
    else s.modDmc fun d => { d with rhFrom := s.now, chans := d.chans.map fun k => { k with rh := [], throttle := [] } }

/-- POWER_DOWN_ENTRY (R311). -/
def execPowerDownEntry (t : Nat) (c : Fin 8) (r : Fin 2) (s : State) : Out :=
  s.step' t fun s =>
    let idle := bitsOf (s.get (.dmc 0) DMC_PD_IDLE) 0 16
    let k := s.dmcs.chans[c].ranks[r]
    let wanted := s.dmcs.ports.toList.any fun l => l.any fun q => s.chanOf q.pa == c.val &&
      (s.rowsOf q.pa q.data.length).any fun e => e.1 == r.val
    let queued := s.dmcs.chans[c].wq.any fun q => (s.rowsOf q.pa q.len).any fun e => e.1 == r.val
    if s.dmcState ≠ DMC_RUN ∨ !chanUsed s.dmcCfg c ∨ !s.dmcRanks.contains r ∨ idle = 0 ∨ k.debt ≠ 0 ∨ wanted ∨ queued ∨
        s.now < k.idleFrom + nsU idle then s
    else s.modRank c r fun k => { k with pd := true }

end Sys2Proof.Machine
end

