-- ==== Sys2Proof/Machine/Cal.lean ====
section
/-!
DEFINITION. The Percolator (R409–R419, R429–R431): preconditions, background measurements and runs,
acceptance, delay lines and converters that fail, and the reference.
-/

namespace Sys2Proof.Machine

def CAL_UNKNOWN : Nat := 0x11
def CAL_BUSY_D : Nat := 0x12
def CAL_ABSENT : Nat := 0x13
def CAL_PRECOND_FAIL : Nat := 0x20
def CAL_UNSTABLE_D : Nat := 0x21
def CAL_DL_FAIL : Nat := 0x22
def CAL_ADC_FAIL : Nat := 0x23
def CAL_REF_FAIL : Nat := 0x24
def CAL_TIMEOUT_D : Nat := 0x25

def CAL_EV_RUN_DONE : Nat := 0
def CAL_EV_PRECOND : Nat := 1
def CAL_EV_UNSTABLE : Nat := 2
def CAL_EV_QUAL_LOW : Nat := 3
def CAL_EV_DL_FAIL : Nat := 4
def CAL_EV_ADC_FAIL : Nat := 5
def CAL_EV_REF_FAIL : Nat := 6

/-- Whether a class exists and the package declares its instance (R411, R418). -/
def State.calDeclared (s : State) (cls inst : Nat) : Bool :=
  let d (p : Page) : Bool := p.declared s.pkg
  if cls = 1 then (match finOf 4 inst with | some n => d (.eng n) | none => false)
  else if cls = 2 ∨ cls = 3 ∨ cls = 5 then (match finOf 6 inst with | some x => d (.ltn x) | none => false)
  else if cls = 4 then decide (inst < 2)
  else if cls = 6 ∨ cls = 7 then (match finOf 4 inst with | some n => d (.sxl n) | none => false)
  else if cls = 8 then (match finOf 2 inst with | some k => d (.scn k) | none => false)
  else cls == 9 && inst == 0

/-- `CAL_QUAL[k][i]` of a class and instance (R429). -/
def calQual (cls inst : Nat) : RF := CAL_QUAL (8 * (cls - 1) + inst)

def State.calOf (s : State) (cls inst : Nat) : CalInst :=
  match finOf 9 (cls - 1), finOf 8 inst with
  | some k, some i => s.cal.inst[k][i]
  | _, _ => {}

def State.modCalOf (s : State) (cls inst : Nat) (f : CalInst → CalInst) : State :=
  match finOf 9 (cls - 1), finOf 8 inst with
  | some k, some i => s.modCal fun c => { c with inst := c.inst.set k (c.inst[k].set i (f c.inst[k][i])) }
  | _, _ => s

/-- Number of light edges from a duration plane to a duration plane in the frame of an engine (R412). -/
def durationEdges : List Plane → Nat
  | a :: b :: r => (if a.kind = .duration ∧ b.kind = .duration then 1 else 0) + durationEdges (b :: r)
  | _ => 0

/-- The precondition of a class and instance (R411), with the signal figures `a` and `b` of R412 and R413. -/
def State.calPrecond (s : State) (cls inst a b : Nat) : Bool :=
  match cls with
  | 1 =>
    match finOf 4 inst with
    | some n => s.engState n == E_LIT && decide (4 ≤ durationEdges s.grd[n].planes) && decide (b + 1024 ≤ a)
    | none => false
  | 2 => s.domOn PD_LTN
  | 3 =>
    match finOf 6 inst with
    | some x => let st := s.get (.ltn x) BLK_STATE; st == LTN_RUN || st == 3
    | none => false
  | 4 => s.domOn PD_LTN
  | 5 =>
    match finOf 6 inst with
    | some x =>
      let st := s.get (.ltn x) BLK_STATE
      (st == LTN_OFF || st == LTN_ARMED) && decide (s.ltn[x].closeAt + msU 1 ≤ s.now ∨ s.ltn[x].closeAt = 0) &&
        decide (((a : Int) - (b : Int)).natAbs ≤ 1024)
    | none => false
  | 6 =>
    match finOf 4 inst with
    | some n => s.get (.sxl n) BLK_STATE == SXL_ACTIVE && (s.engState n == E_READY || s.engState n == E_LIT)
    | none => false
  | 7 => match finOf 4 inst with | some n => s.get (.sxl n) BLK_STATE == SXL_ACTIVE | none => false
  | 8 =>
    match finOf 2 inst with
    | some k => s.scnState k == E_LIT && s.flag (.scn k) SCN_STATUS_LOCKED
    | none => false
  | _ => cls == 9

/-- `BLK_STATE` of CAL: IDLE, BACKGROUND or RUN. -/
def State.calState (s : State) : State :=
  s.put .cal BLK_STATE
    (if s.cal.run.isSome then 2
      else if s.cal.inst.toList.any fun v => v.toList.any fun c => c.from?.isSome then 1 else 0)

/-- The period of a class in 62.5 ps; 0 measures continuously (R413). -/
def calPeriod (cls : Nat) : Nat :=
  if cls = 2 ∨ cls = 4 ∨ cls = 6 then secU 1 else if cls = 5 ∨ cls = 9 then secU 10
  else if cls = 7 then msU 100 else 0

/-! ### Failures -/

/-- The ADC failure of a bank's second converter trips an active Lantern (R156, R160). -/
def State.adcTrip (s : State) (x : Fin 6) : State :=
  if s.ltnActive x ∨ s.tripped x then s.trip x 8 else s

/-- A converter is declared failed (R156, R417, R419): the spare replaces it for good, at a frame start where its Lantern's unit
runs frames; the second failure of a bank trips the Lantern; a spare that fails leaves the bank without rotation, its figures STALE. -/
def State.adcFail (s : State) (b : Fin 2) (j : Fin 4) : State :=
  let k := s.cal.banks[b]
  if k.failed[j] then s
  else
    let first := !(k.failed.toList.any id)
    let s := s.modBank b fun k => { k with failed := k.failed.set j true, stage := 0 }
    let s := (s.raise .cal CAL_EV_ADC_FAIL).errHw .cal ST_HW_FAULT CAL_ADC_FAIL
    match finOf 3 j.val with
    | none =>
      let s := s.put .cal ⟨(calQual 4 b.val).off, 30, 1⟩ 1
      match k.standIn with
      | some i =>
        if k.failed[i.castSucc] then
          (match finOf 6 (3 * b.val + i.val) with | some x => s.adcTrip x | none => s)
        else
          let s := s.modBank b fun k => { k with standIn := none }
          match finOf 6 (3 * b.val + i.val) with | some x => s.put (.ltn x) LTN_ADC_IN_USE 0 | none => s
      | none => s
    | some i =>
      match finOf 6 (3 * b.val + i.val) with
      | none => s
      | some x =>
        if !first then s.adcTrip x
        else if s.unitFrames x.val ∧ k.standIn ≠ some i then s.modBank b fun k => { k with owed := some i }
        else s.adcReplace x

/-- Whether a tap table makes its line fail: its 64 taps span less than 3.6 ns or more than 4.4 ns, or are not
monotonic (R416). -/
def lineBad (t : List Int) : Bool :=
  let e := t.getD 63 0
  decide (e < 3600) || decide (4400 < e) || !((List.range 63).all fun i => decide (t.getD i 0 ≤ t.getD (i + 1) 0))

/-- A delay line fails (R416). -/
def State.lineFail (s : State) (x : Fin 6) (l : Fin 3) : State :=
  let d := s.cal.lines[x]
  if d.failed[l] then s
  else
    let s := s.modLines x fun d => { d with
      failed := d.failed.set l true, ready := none, urgent := if l = d.third then d.urgent else some l }
    let s := s.put .cal ⟨(CAL_DL_STAT x.val).off, 8 + l.val, 1⟩ 1
    (s.raise .cal CAL_EV_DL_FAIL).errHw .cal ST_HW_FAULT CAL_DL_FAIL

/-- A REF measurement (R410): a ratio more than 5 % off puts every reference on the internal resistor and fails
every NTC input that is converted (R393, log entry 91); three good ones in a row return to `RREF`. -/
def State.refMeasured (s : State) (e : Int) : State :=
  let s := s.put .cal CAL_REF (2 ^ 31 + unsigned 16 e)
  if 50000 < e.natAbs then
    let s := s.modCal fun c => { c with refGood := 0, refBack := none }
    if s.cal.refInt then s
    else
      let s := s.modCal fun c => { c with refInt := true }
      let s := (s.raiseCond .cal CAL_EV_REF_FAIL).errHw .cal ST_HW_FAULT CAL_REF_FAIL
      ((List.finRange 8).foldl (fun (s : State) i =>
        if s.flag .therm (THERM_XT_CFG_TYPE i.val) ∨ !s.xtConverted i ∨ s.xtFailed i then s else s.xtFail i) s).xtShow
  else if s.cal.refInt then
    let g := s.cal.refGood + 1
    if g < 3 then s.modCal fun c => { c with refGood := g }
    else (s.modCal fun c => { c with refInt := false, refGood := 0, refBack := some (s.now, e) }).dropCond .cal CAL_EV_REF_FAIL
  else s

/-- Ratio error of the references while they return to `RREF`: 0.02 % per 10 ms (R415). -/
def State.refError (s : State) : Int :=
  match s.cal.refBack with
  | none => 0
  | some (t0, e) =>
    let moved : Int := ((s.now - t0) / msU 10 * 200 : Nat)
    if 0 ≤ e then max 0 (e - moved) else min 0 (e + moved)

/-! ### Acceptance (R414, R415) -/

/-- Whether two measurements of a class agree within `CAL_TOL.TOL` (R414). -/
def State.calAgree (s : State) (cls : Nat) (x y : List Int) : Bool :=
  let tol := s.get .cal (CAL_TOL_TOL (cls - 1))
  let (x', y') := if cls = 7 then (x.take 16, y.take 16) else (x, y)
  x'.length == y'.length && (x'.zip y').all fun p =>
    let d := (p.1 - p.2).natAbs
    if cls = 6 then decide (d * 625 ≤ tol * 160) else decide (d ≤ tol)

/-- The accepted value: the mean of the two measurements (R414); presets are those of the later one. -/
def calMean (cls : Nat) (x y : List Int) : List Int :=
  let m := (x.zip y).map fun p => roundDivI (p.1 + p.2) 2
  if cls = 7 then m.take 16 ++ y.drop 16 else m

/-- The unit whose frames a class and instance is applied at (R415). -/
def calUnit (cls inst : Nat) : Nat := if cls = 8 then 4 + inst else inst

/-- An accepted result sets out to its consumer (R415–R417). -/
def State.calDeliverNew (s : State) (cls inst : Nat) (vals : List Int) : State :=
  match cls with
  | 2 =>
    match finOf 6 inst with
    | none => s
    | some x => if lineBad vals then s.lineFail x s.cal.lines[x].third
        else s.modLines x fun d => { d with table := d.table.set d.third vals, ready := some s.now }
  | 4 =>
    match finOf 2 inst with
    | none => s
    | some b =>
      let s := s.modBank b fun k => { k with
        gainTgt := k.gainTgt.set k.turn (vals.getD 0 0), ofsTgt := k.ofsTgt.set k.turn (vals.getD 1 0)
        accAt := some (s.now, k.turn) }
      let off := (List.finRange 6).all fun x => bankOf x != b || s.get (.ltn x) BLK_STATE == LTN_OFF
      if off then s.modBank b fun k => { k with gain := k.gainTgt, ofs := k.ofsTgt } else s
  | 9 => s
  | _ =>
    let u := calUnit cls inst
    if s.unitFrames u then s.modCal fun c => { c with fresh := c.fresh ++ [⟨cls, inst, vals, u, s.now⟩] }
    else s.calApply cls inst vals true

/-- An acceptance (R414): counted, with its figures. -/
def State.calAccept (s : State) (cls inst : Nat) (vals : List Int) (m : CalMeas) : State :=
  let s := s.bump .cal CAL_ACCEPT_CNT
  let s := s.put .cal (calQual cls inst) (2 ^ 31 + m.second % 2 ^ 14 * 2 ^ 16 + m.quality % 2 ^ 16)
  let lim := s.get .cal (CAL_TOL_QUAL_LIM (cls - 1))
  let low := if cls = 7 then decide (m.quality < lim) else decide (lim < m.quality)
  let s := if low then s.raise .cal CAL_EV_QUAL_LOW else s
  (s.modCalOf cls inst fun c => { c with dis := 0, unstable := false }).calDeliverNew cls inst vals

/-- A disagreement (R414). -/
def State.calDisagree (s : State) (cls inst : Nat) : State :=
  (s.bump .cal CAL_DISAGREE_CNT).modCalOf cls inst fun c => { c with dis := c.dis + 1 }

/-- The measurement before this one of the same quantity (R414): of the line out of service for DELAY_LINE, of the converter in
turn for ADC_GAIN, else of the instance. -/
def State.calPrev (s : State) (cls inst : Nat) : Option (List Int) :=
  if cls = 2 then (match finOf 6 inst with | some x => (let d := s.cal.lines[x]; d.prev[d.third]) | none => none)
  else if cls = 4 then (match finOf 2 inst with | some b => (let k := s.cal.banks[b]; k.prev[k.turn]) | none => none)
  else (s.calOf cls inst).prev

def State.setCalPrev (s : State) (cls inst : Nat) (v : List Int) : State :=
  if cls = 2 then
    match finOf 6 inst with
    | some x => s.modLines x fun d => { d with prev := d.prev.set d.third (some v) }
    | none => s
  else if cls = 4 then
    match finOf 2 inst with
    | some b => s.modBank b fun k => { k with prev := k.prev.set k.turn (some v) }
    | none => s
  else s.modCalOf cls inst fun c => { c with prev := some v }

/-- A measurement of a converter is over: the converter returns at a later frame start of its Lantern, or at
once when that runs no frames (R417). -/
def State.adcTurnOver (s : State) (cls inst : Nat) : State :=
  if cls ≠ 4 then s
  else
    match finOf 2 inst with
    | none => s
    | some b =>
      let k := s.cal.banks[b]
      if k.stage = 0 then s
      else
        let x := 3 * b.val + k.turn.val
        if s.unitFrames x then s.modBank b fun k => { k with stage := 3, since := s.now }
        else
          let s := s.modBank b fun k => { k with stage := 0, standIn := none }
          match finOf 6 x with | some x => s.put (.ltn x) LTN_ADC_IN_USE 0 | none => s

/-! ### Starting -/

/-- The signal figures last seen for a class and instance (R412, R413). -/
def State.calSignals (s : State) (cls inst : Nat) : Nat × Nat :=
  if cls = 1 then (match finOf 4 inst with | some n => s.cal.dump[n] | none => (0, 0))
  else if cls = 5 then (match finOf 6 inst with | some x => s.cal.light[x] | none => (0, 0))
  else (0, 0)

def State.setCalSignals (s : State) (cls inst a b : Nat) : State :=
  if cls = 1 then
    match finOf 4 inst with | some n => s.modCal fun c => { c with dump := c.dump.set n (a, b) } | none => s
  else if cls = 5 then
    match finOf 6 inst with | some x => s.modCal fun c => { c with light := c.light.set x (a, b) } | none => s
  else s

/-- The next converter of a bank in turn that has not failed; none when the spare is gone or in lasting use (R417). -/
def AdcBank.nextTurn (k : AdcBank) : Option (Fin 4) :=
  if k.failed.toList.any id then none
  else some ⟨(k.turn.val + 1) % 4, Nat.mod_lt _ (by decide)⟩

/-- ADC_GAIN opens with the spare converting beside converter j (R417); `matched`: the match is within 50 ppm
and 1 code. Three misses in a row fail the converter. Answers whether the measurement goes on. -/
def State.adcBegin (s : State) (b : Fin 2) (matched : Bool) : State × Bool :=
  match s.cal.banks[b].nextTurn with
  | none => (s, false)
  | some j =>
    let s := s.modBank b fun k => { k with turn := j }
    match finOf 3 j.val with
    | none => (s.modBank b fun k => { k with stage := 0 }, true)
    | some i =>
      if matched then
        (s.modBank b fun k => { k with stage := 1, since := s.now, misses := k.misses.set i 0 }, true)
      else
        let n := s.cal.banks[b].misses[i] + 1
        let s := s.modBank b fun k => { k with misses := k.misses.set i n }
        (if 3 ≤ n then s.adcFail b j else s, false)

/-- A measurement of an instance starts. -/
def State.calBegin (s : State) (cls inst : Nat) : State :=
  (s.modCalOf cls inst fun c => { c with from? := some s.now, lost := false }).calState

/-- Whether another background measurement of the class is under way; each class takes its instances in turn (R413). -/
def State.calClassBusy (s : State) (cls : Nat) : Bool :=
  match finOf 9 (cls - 1) with
  | some k => s.cal.inst[k].toList.any fun c => c.from?.isSome
  | none => false

/-- Whether a background measurement falls due (R413, R418). -/
def State.calDue (s : State) (cls inst : Nat) : Bool :=
  let c := s.calOf cls inst
  s.flag .cal BLK_CTRL_EN && s.calDeclared cls inst && bitOf (s.get .cal CAL_CFG) cls && !s.calClassBusy cls &&
    (s.cal.run.all fun r => !(r.cls == cls && r.inst == inst)) &&
    (match c.ended with | none => true | some e => decide (e + calPeriod cls ≤ s.now))

/-- CAL_MEASUREMENT_START (R413): a background measurement starts, or is skipped and counted. `matched` is the
spare's match of ADC_GAIN (R417). -/
def execCalMeasurementStart (t : Nat) (cls inst a b : Nat) (matched : Bool) (s : State) : Out := s.step' t fun s =>
  if s.domOn PD_NOC ∧ s.calDue cls inst then
    let s := s.setCalSignals cls inst a b
    if s.calPrecond cls inst a b then
      if cls = 4 then
        match finOf 2 inst with
        | none => s
        | some k =>
          let (s, go) := s.adcBegin k matched
          if go then s.calBegin cls inst else s.modCalOf cls inst fun c => { c with ended := some s.now }
      else s.calBegin cls inst
    else (s.bump .cal CAL_SKIP_CNT).modCalOf cls inst fun c => { c with ended := some s.now }
  else s

/-! ### Runs (R418) -/

/-- A run ends: status, `ERR_CODE` for a failure, RUN_DONE, and the mailbox completion (R342, R418). -/
def State.calRunEnd (s : State) (status detail : Nat) : State :=
  match s.cal.run with
  | none => s
  | some r =>
    let s := s.modCal fun c => { c with run := none }
    let s := (s.modCalOf r.cls r.inst fun c => { c with from? := none, ended := some s.now }).adcTurnOver r.cls r.inst
    let s := s.put .cal CAL_CMD_STAT (status * 2 ^ 8 + detail)
    let s := if status = ST_OK then s else s.errHw .cal status detail
    let s := if detail = CAL_PRECOND_FAIL then (s.bump .cal CAL_PRECOND_CNT).raise .cal CAL_EV_PRECOND else s
    let s := (s.raise .cal CAL_EV_RUN_DONE).calState
    s.mbxFinishAll (· == .cal) status 0 (if status = ST_OK then 0 else s.get .cal ERR_CODE)

/-- A write of `CAL_CMD` (R418, R419). Answers the outcome of its checks. -/
def State.calCmd (s : State) (path : Path) (v : Nat) : State × CmdResult :=
  let cls := bitsOf v 0 4
  let inst := bitsOf v 16 3
  let refuse (c d : Nat) : State × CmdResult := (s.err .cal (pathCode path) CAL_CMD.off c d, (c, d))
  if bitsOf v 31 1 = 0 then (s, (ST_OK, 0))
  else if s.cal.run.isSome then refuse ST_BUSY CAL_BUSY_D
  else if cls = 0 ∨ 9 < cls then refuse ST_BAD_OPCODE CAL_UNKNOWN
  else if !s.calDeclared cls inst then refuse ST_BAD_PARAM CAL_ABSENT
  else
    let (a, b) := s.calSignals cls inst
    let s := s.modCal fun c => { c with run := some { cls := cls, inst := inst, start := s.now } }
    let s := s.put .cal CAL_CMD_STAT (2 ^ 31)
    if s.calPrecond cls inst a b then
      let s := if cls = 4 then
          (match finOf 2 inst with
          | some k => if s.cal.banks[k].stage = 0 then (s.adcBegin k true).1 else s
          | none => s)
        else s
      (s.calBegin cls inst, (ST_ACCEPTED, 0))
    else (s.calRunEnd ST_HW_FAULT CAL_PRECOND_FAIL, (ST_ACCEPTED, 0))

/-- CAL_TIMEOUT (R418). -/
def execCalTimeout (t : Nat) (s : State) : Out := s.step' t fun s =>
  match s.cal.run with
  | some r => if r.start + secU 10 ≤ s.now then s.calRunEnd ST_TIMEOUT CAL_TIMEOUT_D else s
  | none => s

/-! ### Results (R414, R416–R418) -/

/-- Failure checks on a fresh result (R410, R416, R417). Answers whether the result can still be used. -/
def State.calScreen (s : State) (cls inst : Nat) (m : CalMeas) : State × Bool :=
  match cls with
  | 2 =>
    match finOf 6 inst with
    | none => (s, false)
    | some x =>
      if m.line = s.cal.lines[x].third then (s, !s.cal.lines[x].failed[m.line])
      else (if lineBad m.vals then s.lineFail x m.line else s, false)
  | 4 =>
    match finOf 2 inst with
    | none => (s, false)
    | some b =>
      let j := s.cal.banks[b].turn
      if 20000 < (m.vals.getD 0 0).natAbs ∨ 512 < (m.vals.getD 1 0).natAbs then (s.adcFail b j, false) else (s, true)
  | 9 => (s.refMeasured (m.vals.getD 0 0), true)
  | _ => (s, true)

/-- A converter's two-point measurement waits until the spare stands in for it (R417). -/
def State.adcReady (s : State) (cls inst : Nat) : Bool :=
  if cls ≠ 4 then true
  else
    match finOf 2 inst with
    | none => false
    | some b =>
      let k := s.cal.banks[b]
      k.turn == 3 || k.stage == 2 ||
        (k.stage == 1 && !s.unitFrames (3 * b.val + k.turn.val) && decide (k.since + msU 100 ≤ s.now))

/-- CAL_MEASUREMENT_DONE (R410, R414–R419): the result of a background measurement or of a run's measurement. -/
def execCalMeasurementDone (t : Nat) (cls inst : Nat) (m : CalMeas) (s : State) : Out := s.step' t fun s =>
  let c := s.calOf cls inst
  if c.from?.isNone ∨ !s.adcReady cls inst then s
  else
    let ok := !c.lost && s.calPrecond cls inst m.a m.b && (cls != 3 || decide (256 ≤ m.a))
    let s := s.setCalSignals cls inst m.a m.b
    match s.cal.run.filter fun r => r.cls == cls && r.inst == inst with
    | some r =>
      if r.start + secU 10 < s.now then s
      else if !ok then s.calRunEnd ST_HW_FAULT CAL_PRECOND_FAIL
      else
        let (s, use) := s.calScreen cls inst m
        if !use then s.calRunEnd ST_HW_FAULT CAL_UNSTABLE_D
        else
          let s := s.setCalPrev cls inst m.vals
          match r.first with
          | none => s.modCal fun c => { c with run := some { r with first := some m.vals } }
          | some f =>
            if s.calAgree cls f m.vals then (s.calAccept cls inst (calMean cls f m.vals) m).calRunEnd ST_OK 0
            else (s.calDisagree cls inst).calRunEnd ST_HW_FAULT CAL_UNSTABLE_D
    | none =>
      let s := s.modCalOf cls inst fun c => { c with from? := none, ended := some s.now }
      if !ok then ((s.bump .cal CAL_SKIP_CNT).adcTurnOver cls inst).calState
      else
        let (s, use) := s.calScreen cls inst m
        if !use then (s.adcTurnOver cls inst).calState
        else
          let prev := s.calPrev cls inst
          let s := s.setCalPrev cls inst m.vals
          let s := match prev with
            | none => s
            | some p => if s.calAgree cls p m.vals then s.calAccept cls inst (calMean cls p m.vals) m
                else s.calDisagree cls inst
          (s.adcTurnOver cls inst).calState

/-- CAL_UNSTABLE (R414): DISAGREE_MAX disagreements in a row on one instance. -/
def execCalUnstable (t : Nat) (cls inst : Nat) (s : State) : Out := s.step' t fun s =>
  let c := s.calOf cls inst
  if s.get .cal CAL_CFG_DISAGREE_MAX ≤ c.dis ∧ 0 < c.dis ∧ !c.unstable then
    let s := s.modCalOf cls inst fun c => { c with unstable := true }
    let s := s.put .cal ⟨(calQual cls inst).off, 30, 1⟩ 1
    (s.raise .cal CAL_EV_UNSTABLE).errHw .cal ST_HW_FAULT CAL_UNSTABLE_D
  else s

/-! ### Registers -/

/-- `BLK_CTRL.EN` of CAL is written: 0 stops background measurement (spec/17). -/
def State.calEnable (s : State) (en : Bool) : State :=
  if en then s
  else
    let stays (k i : Nat) : Bool := s.cal.run.any fun r => r.cls == k + 1 && r.inst == i
    let cut (k : Fin 9) (i : Fin 8) (x : CalInst) : CalInst :=
      if stays k.val i.val then x else { x with from? := none }
    let s := s.modCal fun c => { c with inst := Vector.ofFn fun k => Vector.ofFn fun i => cut k i c.inst[k][i] }
    ((List.range 2).foldl (fun (s : State) b => if stays 3 b then s else s.adcTurnOver 4 b) s).calState

/-- Registers of CAL with rules of their own. -/
def State.calWrite (s : State) (path : Path) (off v : Nat) : State :=
  if off = CAL_CMD.off then (s.calCmd path v).1 else s.plainWrite path .cal off v

end Sys2Proof.Machine
end

