-- ==== Sys2Proof/Machine/Nvm.lean ====
section
/-!
DEFINITION. The non-volatile memory (R420–R428, R432–R434): commands granule by granule, records and their
selection, the record scan, the interruption marker, and the Runtime's stores.
-/

namespace Sys2Proof.Machine

def NVM_UNKNOWN : Nat := 0x11
def NVM_BUSY_D : Nat := 0x12
def NVM_REGION : Nat := 0x13
def NVM_WRITE_PROT : Nat := 0x14
def NVM_PFW_BLOCK_D : Nat := 0x15
def NVM_PROG_FAIL : Nat := 0x20
def NVM_ECC_UE : Nat := 0x21
def NVM_REC_INTERRUPTED : Nat := 0x22
def NVM_PFW_STOP_D : Nat := 0x23

def NVM_EV_CMD_DONE : Nat := 0
def NVM_EV_PFW_STOP : Nat := 1
def NVM_EV_ECC_UE : Nat := 2
def NVM_EV_ECC_CE : Nat := 3
def NVM_EV_SCAN_DONE : Nat := 4
def NVM_EV_WEAR : Nat := 5

def NVM_SCAN : Nat := 0
def NVM_IDLE : Nat := 1
def NVM_BUSY_S : Nat := 2

def State.modNvm (s : State) (f : Nvm → Nvm) : State := { s with nvm := f s.nvm }

/-! ### Areas and records (R420, R423–R425) -/

def nvmRecBase : Nat := 0x40000
def nvmContentBase : Nat := 0xC0000
def nvmSize : Nat := 0x400000

/-- The area that holds a whole range: 1 records, 2 content; none for the security area, a boundary crossing, or
beyond the end (R420, R421). -/
def nvmArea (a len : Nat) : Option Nat :=
  if nvmRecBase ≤ a ∧ a + len ≤ nvmContentBase then some 1
  else if nvmContentBase ≤ a ∧ a + len ≤ nvmSize then some 2
  else none

/-- Slot size of a record class (R424). -/
def recSize (c : Nat) : Nat :=
  if c < 2 then 0x1000 else if c < 6 then 0x2000 else if c < 8 then 0x4000 else if c < 0xE then 0x800
  else if c = 0xE then 0x10000 else if c = 0xF then 0x8000 else 0x4000

/-- Start of slot A (0) or B (1) of a record class (R424). -/
def recSlot (c slot : Nat) : Nat :=
  let a := if c = 0 then 0x40000 else if c = 1 then 0x42000 else if c < 6 then 0x44000 + 0x4000 * (c - 2)
    else if c < 8 then 0x54000 + 0x8000 * (c - 6) else if c < 0xE then 0x64000 + 0x1000 * (c - 8)
    else if c = 0xE then 0x6A000 else if c = 0xF then 0x8A000 else 0x9A000
  a + slot * recSize c

/-- The record classes (R424). -/
def recClasses : List Nat := List.range 0x11

/-- The class and slot whose bytes hold an address. -/
def recAt (a : Nat) : Option (Nat × Nat) :=
  ((recClasses.flatMap fun c => [(c, 0), (c, 1)]).find? fun e =>
    decide (recSlot e.1 e.2 ≤ a) && decide (a < recSlot e.1 e.2 + recSize e.1))

def State.nvmWord (s : State) (a : Nat) : Nat := memLE s.nvmMem a 4

/-- MAGIC of a slot matches its class (R423, R425). -/
def State.recMagic (s : State) (c slot : Nat) : Bool := s.nvmWord (recSlot c slot) == 0x494C5200 + c

/-- A slot is valid: MAGIC, LEN and CRC (R425). -/
def State.recValid (s : State) (c slot : Nat) : Bool :=
  let b := recSlot c slot
  let len := s.nvmWord (b + 8)
  s.recMagic c slot && decide (len ≤ recSize c - 32) &&
    s.nvmWord (b + 12) == crc32 (memBytes s.nvmMem b 12 ++ memBytes s.nvmMem (b + 32) len)

/-- The slot in use: the valid one, of two the newer, A when equal; none when the class is missing (R425). -/
def State.recSel (s : State) (c : Nat) : Option Nat :=
  match s.recValid c 0, s.recValid c 1 with
  | true, true =>
    let d := (s.nvmWord (recSlot c 1 + 4) + 2 ^ 32 - s.nvmWord (recSlot c 0 + 4)) % 2 ^ 32
    if 1 ≤ d ∧ d < 2 ^ 31 then some 1 else some 0
  | true, false => some 0
  | false, true => some 1
  | false, false => none

/-! ### Commands (R421, R422) -/

/-- A command ends with a status and detail (R421, R422). -/
def State.nvmEnd (s : State) (status detail : Nat) : State :=
  let done := match s.nvm.run with | some r => r.done | none => 0
  let pfw := s.get .nvm NVM_STAT_PFW_BLOCK
  let s := s.modNvm fun n => { n with run := none }
  let s := s.put .nvm NVM_STAT (pfw * 2 ^ 30 + done * 2 ^ 16 + status * 2 ^ 8 + detail)
  let s := s.put .nvm BLK_STATE NVM_IDLE
  let s := if status = ST_OK then s else s.errHw .nvm status detail
  s.raise .nvm NVM_EV_CMD_DONE

/-- A command starts (R421, R427): the marker is set by a PROGRAM into payload granules of a slot. -/
def State.nvmBegin (s : State) (r : NvmRun) : State :=
  let s := s.modNvm fun n => { n with run := some { r with stat := s.get .nvm NVM_STAT, mark := s.get .nvm NVM_INTR } }
  let s := (s.put .nvm NVM_STAT (2 ^ 31 + s.get .nvm NVM_STAT_PFW_BLOCK * 2 ^ 30)).put .nvm BLK_STATE NVM_BUSY_S
  if r.op = 1 then
    let pay := (List.range r.count).findSome? fun i =>
      let a := r.addr + 32 * i
      match recAt a with
      | some (c, slot) => if recSlot c slot < a then some (c, slot) else none
      | none => none
    match pay with
    | some (c, slot) => s.put .nvm NVM_INTR (2 ^ 31 + c * 2 ^ 8 + slot)
    | none => s
  else s

/-- The checks of a command in the order of R11 (R421); a supply loss or shutdown starts no granule either (R358, R403). -/
def State.nvmCheck (s : State) (op addr count : Nat) : CmdResult :=
  if s.nvm.run.isSome ∨ s.get .nvm BLK_STATE = NVM_SCAN then (ST_BUSY, NVM_BUSY_D)
  else if op ≠ 1 ∧ op ≠ 2 then (ST_BAD_OPCODE, NVM_UNKNOWN)
  else
    match if addr % 32 = 0 then nvmArea addr (32 * count) else none with
    | none => (ST_BAD_PARAM, NVM_REGION)
    | some a =>
      if op = 2 then (ST_OK, 0)
      else if (a = 1 ∧ s.flag .nvm NVM_PROT_RECORD_WP) ∨ (a = 2 ∧ s.flag .nvm NVM_PROT_CONTENT_WP) then
        (ST_STATE_REJECT, NVM_WRITE_PROT)
      else if s.flag .basecamp BC_STATUS_PFW ∨ s.flag .basecamp BC_STATUS_HOLD_UP then (ST_STATE_REJECT, NVM_PFW_BLOCK_D)
      else (ST_OK, 0)

/-- The bytes of `NVM_WBUF`, word 0 first, little-endian (R8, R421). -/
def State.nvmWbuf (s : State) (n : Nat) : List Byte :=
  (List.range n).map fun i => BitVec.ofNat 8 (s.get .nvm (NVM_WBUF (i / 4)) / 256 ^ (i % 4))

/-- A write of `NVM_CMD` (R421). -/
def State.nvmCmd (s : State) (path : Path) (v : Nat) : State :=
  if bitsOf v 31 1 = 0 then s
  else
    let op := bitsOf v 0 4
    let count := bitsOf v 8 3 + 1
    let addr := s.get .nvm NVM_ADDR
    let (c, d) := s.nvmCheck op addr count
    if c ≠ ST_OK then s.err .nvm (pathCode path) NVM_CMD.off c d
    else
      s.nvmBegin { op := op, addr := addr, count := count, since := s.now, path := pathCode path
                   data := if op = 1 then s.nvmWbuf (32 * count) else [] }

/-! ### The Runtime's stores (R426) -/

/-- A record as it is programmed: groups of at most 8 granules from slot offset 32 upwards, the header last. -/
def recordPlan (c slot seq : Nat) (payload : List Byte) : List (Nat × List Byte) :=
  let le (n v : Nat) : List Byte := (List.range n).map fun i => BitVec.ofNat 8 (v / 256 ^ i)
  let head := le 4 (0x494C5200 + c) ++ le 4 seq ++ le 4 payload.length
  let hdr := head ++ le 4 (crc32 (head ++ payload)) ++ List.replicate 16 0
  let body := payload ++ List.replicate ((32 - payload.length % 32) % 32) 0
  let base := recSlot c slot
  ((List.range ((body.length + 255) / 256)).map fun i => (base + 32 + 256 * i, (body.drop (256 * i)).take 256)) ++
    [(base, hdr)]

/-- The store ends, and with it its mailbox command (R342, R426). -/
def State.storeEnd (s : State) (status : Nat) : State :=
  (s.modNvm fun n => { n with job := none }).mbxStored status
    (if status = ST_HW_FAULT then s.get .nvm ERR_CODE else 0)

/-- A PROGRAM whose GO came on the tick of the onset of PFW is refused (R422): it leaves nothing but the error. -/
def State.nvmUndo (s : State) (r : NvmRun) : State :=
  let s := ((s.modNvm fun n => { n with run := none }).put .nvm NVM_STAT r.stat).put .nvm NVM_INTR r.mark
  let s := (s.put .nvm NVM_STAT_PFW_BLOCK 1).put .nvm BLK_STATE NVM_IDLE
  if r.store then s.storeEnd ST_INTERRUPTED else s.err .nvm r.path NVM_CMD.off ST_STATE_REJECT NVM_PFW_BLOCK_D

/-- PFW (`pfw`), a supply loss or a thermal shutdown begins (R422): a PROGRAM in progress stops after its granule. -/
def State.nvmStop (s : State) (pfw : Bool) : State :=
  let s := s.put .nvm NVM_STAT_PFW_BLOCK 1
  match s.nvm.run with
  | some r =>
    if r.op ≠ 1 then s
    else if pfw ∧ r.since / tickU = s.now / tickU ∧ r.done = 0 then s.nvmUndo r
    else s.modNvm fun n => { n with run := some { r with stop := true } }
  | none => s

/-- The Runtime issues the next PROGRAM of a store, goes on to the next class, or ends (R426). -/
def State.storeNext (s : State) : Nat → State
  | 0 => s
  | fuel + 1 =>
    match s.nvm.job with
    | none => s
    | some j =>
      match j.pending with
      | (a, bytes) :: rest =>
        match s.nvmCheck 1 a (bytes.length / 32) with
        | (0x22, _) => s
        | (0x00, _) =>
          (s.modNvm fun n => { n with job := some { j with pending := rest } }).nvmBegin
            { op := 1, addr := a, count := bytes.length / 32, since := s.now, data := bytes, store := true }
        | (_, d) => s.storeEnd (if d = NVM_PFW_BLOCK_D then ST_INTERRUPTED else ST_HW_FAULT)
      | [] =>
        match j.todo with
        | [] => s.storeEnd ST_OK
        | (c, payload) :: todo =>
          let sel := s.recSel c
          let slot := match sel with | some 0 => 1 | _ => 0
          let seq := match sel with
            | some x => (s.nvmWord (recSlot c x + 4) + 1) % 2 ^ 32
            | none => 1
          (s.modNvm fun n => { n with job := some { todo := todo, cls := c, slot := slot, seq := seq
                                                    pending := recordPlan c slot seq payload } }).storeNext fuel

/-- A command of a store has ended: the next one, the read-back check after the header (R426), or the end. -/
def State.storeStep (s : State) (status : Nat) : State :=
  match s.nvm.job with
  | none => s
  | some j =>
    if status = ST_INTERRUPTED then s.storeEnd ST_INTERRUPTED
    else if status ≠ ST_OK then s.storeEnd ST_HW_FAULT
    else if j.pending.isEmpty ∧ !s.recValid j.cls j.slot then s.storeEnd ST_HW_FAULT
    else s.storeNext 40

/-- A store begins with the classes and payloads of the Runtime's image. -/
def State.storeBegin (s : State) (todo : List (Nat × List Byte)) : State :=
  (s.modNvm fun n => { n with job := some { todo := todo } }).storeNext 40

/-! ### Granules and the scan -/

/-- A granule holds what the spec does not state: eight free words. -/
def State.nvmSpoil (s : State) (a : Nat) : State :=
  (List.range 8).foldl (fun (s : State) i =>
    { s with nvmMem := memSetLE s.nvmMem (a + 4 * i) 4 s.freeWord.toNat }.tookFree) s

/-- After a granule (R421, R422): the command ends when it was stopped, with an uncorrectable error or when it is done; else the
next granule starts (log entry 92). -/
def State.granuleNext (s : State) (r : NvmRun) : State :=
  let r := { r with done := r.done + 1, again := false }
  let s := (s.modNvm fun n => { n with run := some r }).put .nvm NVM_STAT_GRANULES r.done
  let fin (s : State) (status detail : Nat) : State :=
    let s := s.nvmEnd status detail
    if r.store then s.storeStep status else s.storeNext 40
  if r.bad then fin (s.raise .nvm NVM_EV_ECC_UE) ST_HW_FAULT NVM_ECC_UE
  else if r.stop then
    fin ((s.bump .nvm NVM_PFW_STOP_CNT).raise .nvm NVM_EV_PFW_STOP) ST_INTERRUPTED NVM_PFW_STOP_D
  else if r.done = r.count then fin s ST_OK 0
  else s

/-- NVM_GRANULE_DONE (R421, R422, R427, R428). `res` is what the granule's check found: for PROGRAM 0 a read-back
that matches; for READ 0 no error, 1 a corrected bit, 2 an uncorrectable error. -/
def execNvmGranuleDone (t : Nat) (res : Fin 3) (s : State) : Out := s.step' t fun s =>
  match s.nvm.run with
  | none => s
  | some r =>
    let a := r.addr + 32 * r.done
    if r.op = 1 then
      if res = 0 then
        let bytes := (r.data.drop (32 * r.done)).take 32
        let s := { s with nvmMem := memSetBytes s.nvmMem a bytes }
        let s := s.bump .nvm NVM_PROG_CNT
        let s := match recAt a with
          | some (c, slot) =>
            if a = recSlot c slot then
              let s := if 180000 < leNat ((bytes.drop 4).take 4) then s.raise .nvm NVM_EV_WEAR else s
              let m := s.get .nvm NVM_INTR
              if bitOf m 31 ∧ bitsOf m 8 5 = c ∧ bitsOf m 0 1 = slot then s.put .nvm NVM_INTR 0 else s
            else s
          | none => s
        s.granuleNext r
      else if !r.again then
        s.modNvm fun n => { n with run := some { r with again := true } }
      else
        let s := (s.nvmSpoil a).nvmEnd ST_HW_FAULT NVM_PROG_FAIL
        if r.store then s.storeStep ST_HW_FAULT else s.storeNext 40
    else
      let s := if res = 2 then
          (List.range 8).foldl (fun (s : State) i =>
            (s.put .nvm (NVM_RBUF ((8 * r.done + i) % 64)) s.freeWord.toNat).tookFree) s
        else (List.range 8).foldl (fun (s : State) i => s.put .nvm (NVM_RBUF ((8 * r.done + i) % 64)) (s.nvmWord (a + 4 * i))) s
      let s := if res = 1 then (s.bump .nvm NVM_ECC_CE_CNT).raise .nvm NVM_EV_ECC_CE else s
      s.granuleNext { r with bad := r.bad || res == 2 }

/-- NVM_SCAN (R427): the scan of the record slots starts after PD_NVM was switched on. -/
def execNvmScan (t : Nat) (s : State) : Out := s.step' t fun s =>
  if s.domOn PD_NVM ∧ s.get .nvm BLK_STATE = NVM_SCAN ∧ s.nvm.scanAt = none then
    s.modNvm fun n => { n with scanAt := some s.now }
  else s

/-- SCAN_DONE (R425, R427): the record status registers, the report of an interrupted record, and IDLE. -/
def execScanDone (t : Nat) (s : State) : Out := s.step' t fun s =>
  if s.nvm.scanAt = none then s
  else
    let bits (f : Nat → Bool) : Nat := (recClasses.filter f).foldl (fun x c => x + 2 ^ c) 0
    let v := bits fun c => s.recValid c 0 || s.recValid c 1
    let b := bits fun c => s.recSel c == some 1
    let torn := bits fun c => [0, 1].any fun k => s.recMagic c k && !s.recValid c k
    let s := ((s.put .nvm NVM_REC_VALID v).put .nvm NVM_REC_SEL b).put .nvm NVM_REC_TORN torn
    let s := (s.modNvm fun n => { n with scanAt := none }).put .nvm BLK_STATE NVM_IDLE
    let s := s.raise .nvm NVM_EV_SCAN_DONE
    let m := s.get .nvm NVM_INTR
    if bitOf m 31 then
      (s.errInfo .nvm PATH_HW 0 ST_INTERRUPTED NVM_REC_INTERRUPTED (bitsOf m 8 5 * 2 ^ 8 + bitsOf m 0 1)).put .nvm NVM_INTR 0
    else s

/-- Registers of NVM with rules of their own (R421): a buffer or address write while BUSY is discarded. -/
def State.nvmWrite (s : State) (path : Path) (off v : Nat) : State :=
  if off = NVM_CMD.off then s.nvmCmd path v
  else if s.nvm.run.isSome ∧ (off = NVM_ADDR.off ∨ (0x100 ≤ off ∧ off < 0x200)) then
    s.err .nvm (pathCode path) off ST_BUSY NVM_BUSY_D
  else s.plainWrite path .nvm off v

end Sys2Proof.Machine
end

