-- ==== Sys2Proof/Machine/Time.lean ====
section
/-!
DEFINITION. TIME (spec/11, R271–R284, R291–R293, R502): servo updates, SET and STEP, slews, path steps
and the hold-off, time-stamp queues and the PPS pins.
-/

namespace Sys2Proof.Machine

/-- The state code of TIME (R291): UNSET, SYNC, FREERUN, HOLDOFF. -/
def State.timeState (s : State) : Nat := s.get .time BLK_STATE

/-- TIME leaves UNSET or HOLDOFF for SYNC, or FREERUN when the servo timeout has expired (R278, R502). -/
def State.timeSyncOrFree (s : State) : State :=
  let s := s.put .time TIME_STATUS_HOLDOFF 0
  if s.timeState = 0 then s else s.put .time BLK_STATE (if s.clock.servoExpired then 2 else 1)

/-- What every servo update does (R277): it restarts the servo timeout, and ends FREERUN with SERVO_RESUME. -/
def State.servoUpdate (s : State) : State :=
  if s.timeState = 0 then s
  else
    let s' := { s with clock := { s.clock with servoFrom := some s.now, servoExpired := false } }
    if s.clock.servoExpired then
      let s' := s'.put .time TIME_STATUS_FREERUN 0
      (if s.timeState = 2 then s'.put .time BLK_STATE 1 else s').raise .time 10
    else s'

/-- A servo write that HOLDOFF discards (R278). -/
def State.holdDiscard (s : State) : State := s.bump .time TIME_HOLD_DISC_CNT

/-- The limits of the increment, 2⁻³² ns (R272). -/
def incrLo : Nat := 0x0003FEFA0000
def incrHi : Nat := 0x000401060000

/-- A write of `TIME_INCR` (R272, R278): a servo update with the extension, limited to ±1000 ppm. `TIME_INCR` reads the increment
applied; `TIME_INCR_EXT` stays as last written (log entry 54). -/
def State.timeIncrWrite (s : State) (v : Nat) : State :=
  if s.flag .time TIME_STATUS_HOLDOFF then s.holdDiscard.servoUpdate
  else
    let inc := bitsOf v 0 20 * 2 ^ 16 + s.get .time TIME_INCR_EXT
    let lim := clampN incrLo incrHi inc
    let s := { s with clock := { s.clock with incr := lim } }
    let s := s.put .time TIME_INCR (lim / 2 ^ 16)
    let s := if lim = inc then s.put .time TIME_STATUS_INCR_LIMIT 0
      else ((s.put .time TIME_STATUS_INCR_LIMIT 1).bump .time TIME_INCR_LIMIT_CNT).raise .time 7
    s.servoUpdate

/-- A write of `TIME_INCR_EXT` (R272, R278). -/
def State.timeExtWrite (s : State) (v : Nat) : State :=
  if s.flag .time TIME_STATUS_HOLDOFF then s.holdDiscard else s.put .time TIME_INCR_EXT (bitsOf v 0 16)

/-- A write of `TIME_ADJ` (R274): SET or STEP, accepted for the next tick or rejected. -/
def State.timeAdjWrite (s : State) (path : Path) (v : Nat) : State :=
  match bitsOf v 0 4 with
  | 1 =>
    let ns := s.get .time TIME_SET_NS
    if 1000000000 ≤ ns then s.err .time (pathCode path) TIME_ADJ.off ST_BAD_PARAM 0x10
    else
      let sec := bitsOf (s.get .time TIME_SET_HI) 0 16 * 2 ^ 32 + s.get .time TIME_SET_SEC
      { s with clock := { s.clock with adj := some (.set sec ns) } }
  | 2 =>
    let d := signed 32 (s.get .time TIME_STEP_OFS)
    let next := s.clock.ticks (s.get .time TIME_SLEW_RATE) 1
    if ((next.sec * secAcc + next.acc : Nat) : Int) + d * 2 ^ 32 < 0 then
      s.err .time (pathCode path) TIME_ADJ.off ST_BAD_PARAM 0x11
    else { s with clock := { s.clock with adj := some (.step d) } }
  | _ => s.err .time (pathCode path) TIME_ADJ.off ST_BAD_OPCODE 0x13

/-- A write of `TIME_SLEW` (R275, R278): a new slew replaces the remainder of an earlier one. -/
def State.timeSlewWrite (s : State) (path : Path) (v : Nat) : State :=
  if s.flag .time TIME_STATUS_HOLDOFF then s.holdDiscard
  else
    let o := signed 32 v
    if 10000000 < o.natAbs then s.err .time (pathCode path) TIME_SLEW.off ST_BAD_PARAM 0x10
    else
      { s with clock := { s.clock with slewRem := o.natAbs * 2 ^ 32, slewNeg := decide (o < 0) } }.put
        .time TIME_STATUS_SLEWING 1

/-- A write of `TIME_PDELAY[p]` (R278): compared with the last value; a step beyond the threshold raises
PATH_STEP, and on the source port starts or restarts the hold-off. -/
def State.pdelayWrite (s : State) (p : Nat) (v : Nat) : State :=
  let new := bitsOf v 0 24
  let old := s.get .time (TIME_PDELAY p)
  let seen := s.clock.pdelaySeen.contains p
  let s := s.put .time (TIME_PDELAY p) new
  let s := if seen then s else { s with clock := { s.clock with pdelaySeen := s.clock.pdelaySeen ++ [p] } }
  let d : Int := (new : Int) - old
  if seen ∧ s.get .time TIME_PDELAY_THR * 16 < d.natAbs then
    let s := s.put .time TIME_PATH_INFO (p * 2 ^ 28 + unsigned 28 d)
    let s := (s.bump .time TIME_PATH_STEP_CNT).raise .time 1
    let h := s.get .time TIME_PATH_HOLDOFF
    if s.get .time TIME_CFG_SRC_PORT = p ∧ h ≠ 0 then
      let s := { s with clock := { s.clock with holdEnd := some (s.now + msU h) } }
      let s := s.put .time TIME_STATUS_HOLDOFF 1
      if s.timeState = 0 then s else s.put .time BLK_STATE 3
    else s
  else s

/-- A servo update that waits: a write of `TIME_INCR`. -/
def servoWaits : Instr → Option Nat
  | .timeIncrWrite t _ _ => some t
  | .registerWrite t _ a _ _ => if a = Page.time.base + TIME_INCR.off then some t else none
  | _ => none

/-- The servo timeout expires (R277): FREERUN at the last rate. An update on the same tick is on time. -/
def State.freerun (s : State) : State :=
  match s.clock.servoFrom with
  | none => s
  | some f =>
    if s.clock.servoExpired ∨ s.timeState = 0 ∨ s.now < f + msU (s.get .time TIME_SERVO_TMO) ∨ s.waits servoWaits then s
    else
      let s := { s with clock := { s.clock with servoExpired := true } }
      let s := (s.put .time TIME_STATUS_FREERUN 1).bump .time TIME_FREERUN_CNT
      (if s.timeState = 1 then s.put .time BLK_STATE 2 else s).raise .time 0

/-- The hold-off expires (R278). -/
def State.holdoffEnd (s : State) : State :=
  match s.clock.holdEnd with
  | none => s
  | some e =>
    if s.now < e then s
    else ({ s with clock := { s.clock with holdEnd := none } }.timeSyncOrFree).raise .time 2

/-- Index of the read latch of a path (R273). -/
def pathIx (p : Path) : Fin 3 := match p with | .mp => 0 | .ext => 0 | .hspi => 1 | .icp => 2

/-- A read of `TIME_NOW_NS` latches SECONDS and FRACT of the same tick for its path (R273). -/
def State.latchNow (s : State) (path : Path) : State :=
  let i := pathIx path
  { s with clock := { s.clock with
      latchSec := s.clock.latchSec.set i (BitVec.ofNat 32 s.localSec)
      latchHi := s.clock.latchHi.set i (BitVec.ofNat 32 (s.localFract * 2 ^ 16 + s.localSec / 2 ^ 32)) } }

/-- Whether a port takes time-stamps at the medium boundary (R4: capability 0x0160). -/
def State.boundaryPort (s : State) (p : Fin 4) : Bool := s.pkg == .f && decide (p.val < 2)

/-- A pop of the queue of a port that waits: a read of `TIME_TXQ_W3`. -/
def popWaits (p : Fin 4) : Instr → Option Nat
  | .txqPop t _ q => if q = p then some t else none
  | _ => none

/-- A push to the TX time-stamp queue of a port (R282); a seventeenth entry is dropped, unless a pop comes on the same tick. -/
def State.txqPush (s : State) (p : Fin 4) (e : Vector Word 4) : State :=
  let q := s.clock.txq[p]
  if 16 ≤ q.length ∧ !s.waits (popWaits p) then
    (((s.mark .time ⟨(TIME_TXQ_STAT p.val).off, 8, 1⟩).bump .time (TIME_TXQ_DROP_CNT p.val))).raise .time 4
  else
    let s := { s with clock := { s.clock with txq := s.clock.txq.set p (q ++ [e]) } }
    let s := s.put .time ⟨(TIME_TXQ_STAT p.val).off, 0, 5⟩ (q.length + 1)
    if q.isEmpty then s.raise .time 3 else s

/-- A read of `TIME_TXQ_W3` pops the oldest entry; an empty queue pops nothing (R282). -/
def State.txqPop (s : State) (p : Fin 4) : State :=
  match s.clock.txq[p] with
  | [] => s
  | _ :: r =>
    { s with clock := { s.clock with txq := s.clock.txq.set p r } }.put .time
      ⟨(TIME_TXQ_STAT p.val).off, 0, 5⟩ r.length

/-- Word `w` of the oldest entry of a TX time-stamp queue; 0 when empty (R282). -/
def State.txqWord (s : State) (p w : Nat) : Word :=
  if h : p < 4 then
    match s.clock.txq[p] with
    | [] => 0
    | e :: _ => if hw : w < 4 then e[w] else 0
  else 0

/-- A write of `TIME_TXQ_PUSHw` of a port (R282): PUSH3 pushes; any push write on a boundary port is
discarded with PUSH_PORT. The pushed W0 has VALID set, as the entry format gives it. -/
def State.txqPushWrite (s : State) (path : Path) (p : Fin 4) (w : Nat) (v : Word) : State :=
  if s.boundaryPort p then s.err .time (pathCode path) (0x140 + 0x10 * p.val + 4 * w) ST_STATE_REJECT 0x12
  else
    let q := s.clock.push[p]
    if h : w < 3 then { s with clock := { s.clock with push := s.clock.push.set p (q.set w v) } }
    else s.txqPush p #v[q[0] ||| 1, q[1], q[2], v]

/-- The remainder of a slew in ns, rounded towards zero, as `TIME_SLEW` reads (R275). -/
def State.slewRead (s : State) : Nat :=
  let r := s.clock.slewRem / 2 ^ 32
  unsigned 32 (if s.clock.slewNeg then -(Int.ofNat r) else Int.ofNat r)

/-- The local clock passed a second boundary plus `TIME_PPS_OFS` on the last tick (R283). -/
def State.ppsDue (s : State) : Bool :=
  let ofs := s.get .time TIME_PPS_OFS * 2 ^ 32
  s.clock.passed ((s.clock.acc + secAcc - ofs % secAcc) % secAcc)

/-- SRST of TIME (R502): the clock, UNSET, the servo timeout and the counters stay; the increment is
nominal from the next tick; slew, hold-off, queues, compared path delays and read latches end. -/
def State.timeSrst (s : State) : State :=
  let c := s.clock
  let s := { s with clock := { c with
      incr := 0x400000000, slewRem := 0, slewNeg := false, adj := none, holdEnd := none, pdelaySeen := [],
      latchSec := #v[0, 0, 0], latchHi := #v[0, 0, 0], txq := #v[[], [], [], []],
      push := #v[#v[0, 0, 0], #v[0, 0, 0], #v[0, 0, 0], #v[0, 0, 0]] } }
  let s := (s.put .time TIME_STATUS_SLEWING 0).put .time TIME_STATUS_INCR_LIMIT 0
  let s := (List.range 4).foldl (fun s p => s.put .time (TIME_TXQ_STAT p) 0) s
  s.timeSyncOrFree

/-- A register write to TIME (R291). -/
def State.timeWrite (s : State) (path : Path) (off v : Nat) : State :=
  if off = TIME_INCR.off then s.timeIncrWrite v
  else if off = TIME_INCR_EXT.off then s.timeExtWrite v
  else if off = TIME_ADJ.off then s.timeAdjWrite path v
  else if off = TIME_SLEW.off then s.timeSlewWrite path v
  else if 0xB0 ≤ off ∧ off < 0xC0 then s.pdelayWrite ((off - 0xB0) / 4) v
  else if 0x140 ≤ off ∧ off < 0x180 then
    match finOf 4 ((off - 0x140) / 0x10) with
    | none => s
    | some p => s.txqPushWrite path p (off % 0x10 / 4) (BitVec.ofNat 32 v)
  else s.plainWrite path .time off v

/-- What TIME shows at an offset whose value does not lie in a cell (R273, R275, R282). -/
def State.timeShow (s : State) (path : Path) (off : Nat) : Option Nat :=
  if off = TIME_NOW_NS.off then some s.localNs
  else if off = TIME_NOW_SEC.off then some (s.clock.latchSec[pathIx path]).toNat
  else if off = TIME_NOW_HI.off then some (s.clock.latchHi[pathIx path]).toNat
  else if off = TIME_SLEW.off then some s.slewRead
  else if 0x100 ≤ off ∧ off < 0x140 then some (s.txqWord ((off - 0x100) / 0x10) (off % 0x10 / 4)).toNat
  else none

end Sys2Proof.Machine
end

