-- ==== Sys2Proof/Machine/Net.lean ====
section
/-!
DEFINITION. Ethernet, MACsec and CAN (R435–R443, R447, R459, R460): classification of received frames, rings,
queues, key-slot sequences, and the ports' registers.
-/

namespace Sys2Proof.Machine

def NET_CFG_LIVE : Nat := 0x11
def NET_CMD_STATE : Nat := 0x12
def NET_CMD_UNKNOWN : Nat := 0x13
def NET_MSEC_SA : Nat := 0x14

def ETH_EV_LINK : Nat := 0
def ETH_EV_RX : Nat := 1
def ETH_EV_TX : Nat := 2
def ETH_EV_RX_OVF : Nat := 3
def ETH_EV_IMS_AUTH : Nat := 4
def ETH_EV_ICP_AUTH : Nat := 5
def ETH_EV_REPLAY : Nat := 6
def ETH_EV_MSEC : Nat := 7
def ETH_EV_PN_HIGH : Nat := 8

def State.modEth (s : State) (n : Fin 4) (f : EthPort → EthPort) : State := { s with eth := s.eth.set n (f s.eth[n]) }
def State.modCan (s : State) (n : Fin 4) (f : CanPort → CanPort) : State := { s with can := s.can.set n (f s.can[n]) }

/-- The port works: declared, enabled, PD_NET on. -/
def State.ethOn (s : State) (n : Fin 4) : Bool :=
  (Page.eth n).declared s.pkg && s.domOn PD_NET && s.flag (.eth n) BLK_CTRL_EN
def State.canOn (s : State) (n : Fin 4) : Bool :=
  (Page.can n).declared s.pkg && s.domOn PD_NET && s.flag (.can n) BLK_CTRL_EN

/-- The rate of a port in kbit/s (R435). -/
def State.ethRate (s : State) (n : Fin 4) : Nat :=
  if n.val < 2 then 10000000 else if s.get (.eth n) ETH_CFG_SPEED = 0 then 100000 else 1000000

/-! ### Frames (R436) -/

def frBE (b : List Byte) (o n : Nat) : Nat := beNat ((b.drop o).take n)

/-- Offset of the EtherType: after one 802.1Q tag when there is one (R435). -/
def etOff (b : List Byte) : Nat := if frBE b 12 2 = 0x8100 then 16 else 12
def etherType (b : List Byte) : Nat := frBE b (etOff b) 2

/-- The ones-complement sum of 16-bit words. -/
def ocSum : List Byte → Nat
  | a :: b :: r => let x := a.toNat * 256 + b.toNat + ocSum r; x % 65536 + x / 65536
  | [a] => a.toNat * 256
  | [] => 0

/-- An IPv4 UDP datagram of a frame: destination address, whether it is a fragment, destination port, whether its
checksum is right or 0, and its payload. -/
structure UdpView where
  dst : Nat
  frag : Bool
  port : Nat
  sumOk : Bool
  payload : List Byte
  deriving DecidableEq, Repr

/-- The UDP datagram in a frame, if it carries one (R436). -/
def udpOf (b : List Byte) : Option UdpView :=
  let ip := b.drop (etOff b + 2)
  let ihl := 4 * (frBE ip 0 1 % 16)
  if etherType b ≠ 0x0800 ∨ frBE ip 0 1 / 16 ≠ 4 ∨ ihl < 20 ∨ frBE ip 9 1 ≠ 17 ∨ ip.length < ihl + 8 then none
  else
    let fo := frBE ip 6 2
    let u := ip.drop ihl
    let len := frBE u 4 2
    let seg := u.take len
    let sum := ocSum ((ip.drop 12).take 8 ++ [0, 17] ++ (u.drop 4).take 2 ++ seg)
    some { dst := frBE ip 16 4, frag := fo % 0x4000 ≠ 0, port := if fo % 0x2000 = 0 then frBE u 2 2 else 0
           sumOk := frBE u 6 2 == 0 || sum == 0xFFFF, payload := seg.drop 8 }

/-! ### MACsec (R440) -/

/-- `ETH_STATUS` [3]: MACsec is active. -/
def State.msecShow (s : State) (n : Fin 4) : State :=
  s.put (.eth n) ETH_STATUS_MSEC (ofBool (s.flag (.eth n) ETH_CFG_MSEC_EN && !s.eth[n].txSa.isEmpty))

/-- A secured frame passes when its ICV verifies under an installed SA of its SCI and AN, and its PN is within
the replay window; the SA's PN moves on (R440). -/
def State.msecCheck (s : State) (n : Fin 4) (f : EthRx) : State × Bool :=
  let b := f.bytes
  let o := etOff b + 2
  let tci := frBE b o 1
  let an := tci % 4
  let pn := frBE b (o + 2) 4
  let sci := frBE b (o + 6) 8
  let p : EthPort := s.eth[n]
  match (List.finRange 4).find? fun (k : Fin 4) =>
      p.rxSa[k].any fun e => e.1 == an && (!bitOf tci 5 || e.2.sci == sci) with
  | none => (s, false)
  | some k =>
    match p.rxSa[k].find? fun e => e.1 == an with
    | none => (s, false)
    | some (_, sa) =>
      let full := if sa.cipher < 2 then pn
        else
          let hi := sa.pn / 2 ^ 32
          let c := hi * 2 ^ 32 + pn
          if c + 2 ^ 31 < sa.pn then c + 2 ^ 32 else c
      let win := s.get (.eth n) ⟨ETH_MSEC_WIN.off, 0, 30⟩
      if !f.icv ∨ full + win < sa.pn ∨ full = 0 then (s, false)
      else
        (s.modEth n fun p => { p with rxSa := p.rxSa.set k (p.rxSa[k].map fun e =>
          if e.1 = an then (an, { e.2 with pn := max e.2.pn (full + 1) }) else e) }, true)

/-- The PN from which PN_HIGH is raised, and the last usable PN (R440). -/
def pnHigh (cipher : Nat) : Nat := if cipher < 2 then 0xC0000000 else 0xC000000000000000
def pnLast (cipher : Nat) : Nat := if cipher < 2 then 2 ^ 32 - 1 else 2 ^ 64 - 1

/-- A frame leaves secured under the newest TX SA (R440): its PN moves on, PN_HIGH is raised once. Answers whether
the frame can be sent. -/
def State.msecSend (s : State) (n : Fin 4) : State × Bool :=
  match s.eth[n].txSa.reverse with
  | [] => (s, false)
  | (an, sa) :: _ =>
    if pnLast sa.cipher < sa.pn then (s, false)
    else
      let high := decide (pnHigh sa.cipher ≤ sa.pn)
      let s := if high ∧ !sa.high then s.raise (.eth n) ETH_EV_PN_HIGH else s
      (s.modEth n fun p => { p with txSa := p.txSa.map fun e =>
        if e.1 = an then (an, { sa with pn := sa.pn + 1, high := sa.high || high }) else e }, true)

/-- At most two SAs of an SC: a third takes the place of the oldest (R440). -/
def saPut (l : List (Nat × MsecSa)) (an : Nat) (sa : MsecSa) : List (Nat × MsecSa) :=
  (if 2 ≤ l.length then l.drop (l.length - 1) else l) ++ [(an, sa)]

/-- A write of `ETH_MSEC_CTL` (R440, R459, R464). -/
def State.msecInstall (s : State) (path : Path) (n : Fin 4) (v : Nat) : State :=
  if bitsOf v 31 1 = 0 then s
  else
    let p := Page.eth n
    let cipher := bitsOf v 16 2
    let an := bitsOf v 8 2
    let k : Fin 4 := ⟨bitsOf v 0 2, Nat.mod_lt _ (by decide)⟩
    let rx := bitOf v 4
    let l := if rx then (s.eth[n].rxSa[k]) else s.eth[n].txSa
    let ssci := s.get p ETH_MSEC_SSCI
    if (l.any fun e => e.1 == an) ∨ (2 ≤ cipher ∧ ssci = 0) then
      s.err p (pathCode path) ETH_MSEC_CTL.off ST_BAD_PARAM NET_MSEC_SA
    else
      let pn := s.get p ⟨ETH_MSEC_PN_HI.off, 0, 32⟩ * 2 ^ 32 + s.get p ETH_MSEC_PN_LO
      let sa : MsecSa := {
        cipher := cipher, sci := s.get p ETH_MSEC_SCI_HI * 2 ^ 32 + s.get p ETH_MSEC_SCI_LO, ssci := ssci
        key := s.eth[n].sak.toList, pn := if cipher < 2 then pn % 2 ^ 32 else pn }
      let s := s.modEth n fun p =>
        if rx then { p with rxSa := p.rxSa.set k (saPut (p.rxSa[k]) an sa) } else { p with txSa := saPut p.txSa an sa }
      s.msecShow n

/-! ### Rings (R437) -/

/-- The RX stamp of a frame that starts now, 2⁻¹⁶ ns (R279, R281). -/
def State.rxStamp (s : State) (n : Fin 4) (b : List Byte) : Nat :=
  let c : Int := (s.localTime * 65536 + s.localFract : Nat)
  let ing : Int := (s.get .time (TIME_PHY_LAT_INGRESS n.val) * 4096 : Nat)
  let a : Int := if frBE b (etOff b + 2) 1 % 16 = 0 then signed 16 (s.get .time ⟨(TIME_ASYM n.val).off, 0, 16⟩) * 4096 else 0
  (c - ing - a).toNat

/-- Words 2–4 or 5–7 of a descriptor: NANOSECONDS, SECONDS, FRACT and SECONDS high (R437). -/
def stampWords (t : Nat) : List Nat :=
  let ns := t / 65536
  [ns % 1000000000, ns / 1000000000 % 2 ^ 32, t % 65536 * 65536 + ns / 1000000000 / 2 ^ 32 % 65536]

/-- A word of DRAM. -/
def State.dramWord (s : State) (a : Nat) : Nat := memLE s.dram a 4
def State.setDramWord (s : State) (a v : Nat) : State := { s with dram := memSetLE s.dram a 4 v }

/-- One received item enters a ring of a page (R437): data into the descriptor's buffer, then the descriptor.
Answers none when the ring is full. `words` are the descriptor words to write, by index. -/
def State.ringPut (s : State) (p : Page) (base ctl tail : RF) (data : List Byte) (words : List (Nat × Nat)) : Option State :=
  let n := s.get p ⟨ctl.off, 0, 13⟩
  let t := s.get p ⟨tail.off, 0, 12⟩
  let next := if n = 0 then 0 else (t + 1) % n
  if n = 0 ∨ next = s.get p ⟨ctl.off, 16, 12⟩ then none
  else
    let d := s.get p base * 64 + 32 * t
    let buf := s.dramWord (d + 4) * 64
    let s := { s with dram := memSetBytes s.dram buf data }
    let s := words.foldl (fun (s : State) w => s.setDramWord (d + 4 * w.1) w.2) s
    some (s.put p ⟨tail.off, 0, 12⟩ next)

/-- A frame goes to the RX ring (R436, R437). -/
def State.ethRing (s : State) (n : Fin 4) (b : List Byte) (verified : Bool) : State :=
  let p := Page.eth n
  let drop (s : State) : State := s.bump p ETH_RX_DROP_CNT
  if !s.dmcRunning then drop (s.faultDrop 1)
  else
    let ptp := etherType b == 0x88F7 && s.boundaryPort n
    let st := if ptp then stampWords (s.rxStamp n b) else [0, 0, 0]
    let w0 := b.length + ofBool ptp * 2 ^ 16 + ofBool verified * 2 ^ 17 + ofBool (frBE b 12 2 == 0x8100) * 2 ^ 18
    match s.ringPut p ETH_RX_BASE ETH_RX_CTL ETH_RX_TAIL b
        [(0, w0), (2, st.getD 0 0), (3, st.getD 1 0), (4, st.getD 2 0), (5, 0), (6, 0), (7, 0)] with
    | none => (drop s).raise p ETH_EV_RX_OVF
    | some s => s.raise p ETH_EV_RX

/-- Steps 2 to 6 of the classification (R436). -/
def State.ethClassify (s : State) (n : Fin 4) (b : List Byte) (verified tag : Bool) : State :=
  let p := Page.eth n
  let mac := s.get p ⟨ETH_MAC_HI.off, 0, 16⟩ * 2 ^ 32 + s.get p ETH_MAC_LO
  if !(frBE b 0 6 == mac || frBE b 0 1 % 2 == 1 || s.flag p ETH_CFG_PROMISC) ∨ etherType b = 0x8808 then s
  else
    let s := s.bump p ETH_RX_CNT
    let ims := s.get p ETH_UDP_IMS
    let icp := s.get p ⟨ETH_UDP.off, 16, 16⟩
    match udpOf b with
    | none => s.ethRing n b verified
    | some u =>
      let mine := u.dst == s.get p ETH_IP
      let ours := mine && (u.port == ims || u.port == icp)
      if (u.frag ∧ ours) ∨ (!u.frag ∧ !u.sumOk) then s.bump p ETH_RX_DROP_CNT
      else if mine ∧ u.port = ims ∧ bitOf (s.get (.comp 7) IMS_CFG_PORT_EN) n.val then
        s.modEth n fun e => { e with ims := e.ims ++ [{ bytes := u.payload, tag := tag, at' := s.now }] }
      else if mine ∧ u.port = icp ∧ s.flag p ETH_CFG_ICP_EN then
        if 8 ≤ s.eth[n].reqs.length then s.bump p ETH_ICP_DROP_CNT
        else s.modEth n fun e => { e with reqs := e.reqs ++ [{ bytes := u.payload, tag := tag, at' := s.now }] }
      else s.ethRing n b verified

/-- A gPTP frame, which MACsec always lets pass unsecured (R436). -/
def isGptp (b : List Byte) : Bool := frBE b 0 6 == 0x0180C200000E

/-- ETH_FRAME_RX (R435, R436). -/
def execEthFrameRx (t : Nat) (n : Fin 4) (f : EthRx) (s : State) : Out := s.step' t fun s =>
  let p := Page.eth n
  let b := f.bytes
  if !s.ethOn n ∨ !s.flag p ETH_STATUS_LINK ∨ b.length < 14 then s
  else if !f.fcs then s.bump p ETH_FCS_ERR_CNT
  else if 1996 < b.length then s.bump p ETH_RX_DROP_CNT
  else if s.flag p ETH_CFG_MSEC_EN then
    let bad (s : State) : State := (s.bump p ETH_MSEC_DROP_CNT).raise p ETH_EV_MSEC
    if etherType b = 0x88E5 then
      let (s, ok) := s.msecCheck n f
      if ok then s.ethClassify n f.plain true f.tag else bad s
    else if s.flag p ETH_CFG_MSEC_REQ ∧ !isGptp b then bad s
    else s.ethClassify n b false f.tag
  else s.ethClassify n b false f.tag

/-- LINK_CHANGE (R463). -/
def execLinkChange (t : Nat) (n : Fin 4) (up : Bool) (s : State) : Out := s.step' t fun s =>
  let p := Page.eth n
  if !s.ethOn n ∨ s.flag p ETH_STATUS_LINK = up then s
  else
    let speed := if n.val < 2 then 2 else s.get p ETH_CFG_SPEED
    let s := (s.put p ETH_STATUS_LINK (ofBool up)).put p ⟨ETH_STATUS.off, 0, 2⟩ speed
    (if up then s else s.bump p ETH_LINK_DOWN_CNT).raise p ETH_EV_LINK

/-! ### Transmission (R437, R439) -/

/-- Descriptors from the next one to the tail are fetched into their queues; with DRAM not answering, none is (R316, R437). -/
def State.txFetch (s : State) (n : Fin 4) : Nat → State
  | 0 => s
  | fuel + 1 =>
    let p := Page.eth n
    let cnt := s.get p ⟨ETH_TX_CTL.off, 0, 13⟩
    let tail := s.get p ⟨ETH_TX_CTL.off, 16, 12⟩
    let i := s.eth[n].txNext
    if i = tail ∨ cnt = 0 ∨ cnt ≤ i then s
    else
      let d := s.get p ETH_TX_BASE * 64 + 32 * i
      let w0 := s.dramWord d
      let q : Fin 4 := ⟨bitsOf w0 17 2, Nat.mod_lt _ (by decide)⟩
      let data := memBytes s.dram (s.dramWord (d + 4) * 64) (min (bitsOf w0 0 16) 2048)
      (s.modEth n fun e => { e with
        txq := e.txq.set q (e.txq[q] ++ [(i, data)]), txNext := (i + 1) % cnt }).txFetch n fuel

/-- ETH_TX_DOORBELL: the new tail in `ETH_TX_CTL` hands its descriptors to the MAC. -/
def State.txDoorbell (s : State) (n : Fin 4) : State :=
  if s.ethOn n then (if s.dmcRunning then s.txFetch n 4096 else s.faultDrop 1) else s

/-- idleSlope of a queue in kbit/s: queues 1 and 2 (R439). -/
def State.idleSlope (s : State) (n : Fin 4) (q : Nat) : Nat :=
  if q = 1 then s.get (.eth n) ⟨(ETH_CBS 0).off, 0, 28⟩ else if q = 2 then s.get (.eth n) ⟨(ETH_CBS 1).off, 0, 28⟩ else 0

/-- Credits as of now (IEEE 802.1Qav): while a shaped queue waits its credit grows at idleSlope; an empty queue
holds none above 0. Units of 10⁻⁹ bit × 62.5 (kbit/s × 62.5 ps). -/
def State.creditNow (s : State) (n : Fin 4) (q : Fin 2) : Int :=
  let e := s.eth[n]
  let c := e.credit[q] + ((s.now - e.creditAt) * s.idleSlope n (q.val + 1) : Nat)
  if (match finOf 4 (q.val + 1) with | some j => e.txq[j].isEmpty | none => true) then min 0 c else c

/-- The queue that is served: the highest with a frame and, when shaped, credit not negative (R439). -/
def State.txPick (s : State) (n : Fin 4) : Option (Fin 4) :=
  ([3, 2, 1, 0] : List (Fin 4)).find? fun q =>
    !(s.eth[n].txq[q]).isEmpty && (s.idleSlope n q.val == 0 ||
      (match finOf 2 (q.val - 1) with | some j => decide (0 ≤ s.creditNow n j) | none => true))

/-- `TX_HEAD` passes the descriptors sent (R459). -/
def State.txHeadMove (s : State) (n : Fin 4) : Nat → State
  | 0 => s
  | fuel + 1 =>
    let p := Page.eth n
    let h := s.get p ⟨ETH_TX_HEAD.off, 0, 12⟩
    let cnt := max 1 (s.get p ⟨ETH_TX_CTL.off, 0, 13⟩)
    if s.eth[n].sent.contains h then
      ((s.modEth n fun e => { e with sent := e.sent.filter (· != h) }).put p ⟨ETH_TX_HEAD.off, 0, 12⟩
        ((h + 1) % cnt)).txHeadMove n fuel
    else s

/-- The TX time-stamp of a PTP event frame on a boundary port (R281, R282). -/
def State.ptpStamp (s : State) (n : Fin 4) (b : List Byte) : State :=
  let m := b.drop (etOff b + 2)
  if etherType b = 0x88F7 ∧ s.boundaryPort n ∧ frBE m 0 1 % 16 < 4 then
    let st := stampWords (s.localTime * 65536 + s.localFract + s.get .time (TIME_PHY_LAT_EGRESS n.val) * 4096)
    let w (v : Nat) : Word := BitVec.ofNat 32 v
    s.txqPush n #v[w (frBE m 30 2 * 2 ^ 16 + frBE m 4 1 * 2 ^ 8 + frBE m 0 1 % 16 * 2 ^ 4 + 1), w (st.getD 0 0),
      w (st.getD 1 0), w (st.getD 2 0)]
  else s

/-- The line carries a frame of `len` bytes: preamble, FCS and gap add 24 (R443). -/
def State.txLine (s : State) (n : Fin 4) (len : Nat) (last : List Byte) : State :=
  let u := ceilDiv ((len + 24) * 8 * 16000000) (s.ethRate n)
  s.modEth n fun e => { e with busy := s.now + u, last := last }

/-- The bytes of an ICP reply without its TAG (R441). -/
def IcpReply.bytes (r : IcpReply) : List Byte :=
  let be (n v : Nat) : List Byte := (List.range n).map fun i => BitVec.ofNat 8 (v / 256 ^ (n - 1 - i))
  be 2 0x4943 ++ be 1 r.key ++ be 1 1 ++ be 4 r.seq ++ be 4 r.ref ++ be 1 r.op ++ be 1 r.status ++ be 1 r.detail ++
    be 1 0 ++ be 2 r.payload.length ++ be 2 0 ++ r.payload

/-- ETH_FRAME_TX (R439, R440, R445): the next ICP reply, or a frame of the queue in turn, leaves on the line. -/
def execEthFrameTx (t : Nat) (n : Fin 4) (icp : Bool) (s : State) : Out := s.step' t fun s =>
  let p := Page.eth n
  if !s.ethOn n ∨ !s.flag p ETH_STATUS_LINK ∨ s.now < s.eth[n].busy then s
  else
    let sec := s.flag p ETH_CFG_MSEC_EN
    if icp then
      match s.eth[n].replies with
      | [] => s
      | r :: rest =>
        let s := (s.modEth n fun e => { e with replies := rest }).icpSent r
        let (s, ok) := if sec then s.msecSend n else (s, true)
        if ok then (s.txLine n (14 + 20 + 8 + r.bytes.length + 8) r.bytes).raise p ETH_EV_TX else s
    else
      let s := if s.dmcRunning then s.txFetch n 4096 else s
      match s.txPick n with
      | none => s
      | some q =>
        match s.eth[n].txq[q] with
        | [] => s
        | (i, b) :: rest =>
          let credit : Vector Int 2 := Vector.ofFn fun (j : Fin 2) =>
            let c := s.creditNow n j
            if q.val = j.val + 1 ∧ s.idleSlope n q.val ≠ 0 then
              c - (((b.length + 24) * 8 * 16000000 : Nat) : Int) else c
          let s := s.modEth n fun e => { e with
            txq := e.txq.set q rest, sent := e.sent ++ [i], credit := credit, creditAt := s.now }
          let (s, ok) := if sec ∧ !isGptp b then s.msecSend n else (s, true)
          let s := if ok then (s.txLine n b.length b).ptpStamp n b else s
          (s.txHeadMove n 4096).raise p ETH_EV_TX

/-! ### Authentication (R442, R443) -/

/-- Whether a key slot's window accepts a sequence (R443); nothing after 0xFFFF_FFFF. -/
def KeySlot.accepts (k : KeySlot) (q : Nat) : Bool :=
  q != 0 && k.high != 0xFFFFFFFF && (decide (k.high < q) || (decide (q < k.high) && decide (k.high < q + 64) && !k.seen.contains q))

/-- The slot after a sequence is accepted. -/
def KeySlot.accept (k : KeySlot) (q : Nat) : KeySlot :=
  if k.high < q then
    { k with high := q, seen := ((if k.high = 0 then [] else [k.high]) ++ k.seen).filter fun x => q < x + 64 }
  else { k with seen := q :: k.seen }

/-- Step 2 (R442): the slot is valid and not revoked, used for this protocol (bit 0 ICP, 1 IMS), at this port; a key operation
counts from the tick after it (R457). -/
def State.keyUsable (s : State) (key usage : Nat) (n : Fin 4) : Bool :=
  if key < 8 then false
  else
    match finOf 16 key with
    | none => false
    | some i =>
      let k : KeySlot := s.sec.keys[i]
      let (ok, cfg) := match k.before with
        | some (a, v, c) => if a / tickU = s.now / tickU then (v, c) else (k.valid && !k.revoked, k.cfg)
        | none => (k.valid && !k.revoked, k.cfg)
      ok && bitOf cfg.toNat usage && bitOf cfg.toNat (12 + n.val)

/-- Steps 2–4 for a packet (R442): the step that fails, or none, with the sequence taken. -/
def State.authenticate (s : State) (usage : Nat) (n : Fin 4) (f : NetPkt) : State × Option Nat :=
  let key := frBE f.bytes 2 1
  let q := frBE f.bytes 4 4
  if !s.keyUsable key usage n then (s, some 2)
  else if !f.tag then (s, some 3)
  else
    match finOf 16 key with
    | none => (s, some 2)
    | some i =>
      let k : KeySlot := s.sec.keys[i]
      if !k.accepts q then (s, some 4)
      else ({ s with sec := { s.sec with keys := s.sec.keys.set i (k.accept q) } }, none)

/-- A packet of the same key slot that arrived on a lower port on the same tick is checked first (R443). -/
def State.lowerFirst (s : State) (n : Fin 4) (f : NetPkt) : Bool :=
  (List.finRange 4).any fun m => decide (m < n) &&
    ((s.eth[m].ims ++ s.eth[m].reqs).any fun g => g.at' / tickU == f.at' / tickU && frBE g.bytes 2 1 == frBE f.bytes 2 1)

/-- The oldest IMS packet of a port is checked (R442), and its segment ingested (R74). -/
def State.imsTake (s : State) (n : Fin 4) : State :=
  match s.eth[n].ims with
  | [] => s
  | f :: rest =>
    let p := Page.eth n
    let s := s.modEth n fun e => { e with ims := rest }
    let body := (f.bytes.drop 8).take (f.bytes.length - 16)
    if frBE f.bytes 0 2 ≠ 0x494D ∨ f.bytes.length < 16 then s
    else
      let (s, r) := s.authenticate 1 n f
      match r with
      | some 4 => (s.bump p ETH_REPLAY_CNT).raise p ETH_EV_REPLAY
      | some _ => (s.bump p ETH_IMS_AUTH_CNT).raise p ETH_EV_IMS_AUTH
      | none => if s.flag (.comp 7) IMS_CFG_EN then s.imsSegment (body.map (·.toNat)) else s

/-- The oldest packet of a lower port, of this key slot and tick, is taken first (R443). -/
def State.imsLower (s : State) (n : Fin 4) (f : NetPkt) : State :=
  (List.finRange 4).foldl (fun (s : State) m =>
    if m < n ∧ s.eth[m].ims.head?.any (fun g => g.at' / tickU == f.at' / tickU && frBE g.bytes 2 1 == frBE f.bytes 2 1) then
      s.imsTake m else s) s

/-- IMS_PACKET (R442, R443). -/
def execImsPacket (t : Nat) (n : Fin 4) (s : State) : Out := s.step' t fun s =>
  match s.eth[n].ims with
  | [] => s
  | f :: _ =>
    let s := s.imsLower n f
    if s.lowerFirst n f then s else s.imsTake n

/-! ### Registers of an Ethernet port (R459) -/

/-- A write that changes a field which only EN = 0 may change (R459–R461). -/
def State.liveChange (s : State) (p : Page) (off v lo w : Nat) : Bool :=
  s.flag p BLK_CTRL_EN && bitsOf v lo w != s.get p ⟨off, lo, w⟩

/-- A write to a register of which some fields only EN = 0 may change; the ranges go before CFG_LIVE (R11). -/
def State.liveWrite (s : State) (path : Path) (p : Page) (off v lo w : Nat) : State :=
  if s.liveChange p off v lo w ∧ s.rangeOk p off v then s.err p (pathCode path) off ST_STATE_REJECT NET_CFG_LIVE
  else s.plainWrite path p off v

def State.ethWrite (s : State) (path : Path) (n : Fin 4) (off v : Nat) : State :=
  let p := Page.eth n
  if off = ETH_CFG.off then
    if n.val < 2 then (s.plainWrite path p off v).msecShow n
    else if 1 < bitsOf v 0 2 then s.err p (pathCode path) off ST_BAD_PARAM 0x10
    else if s.liveChange p off v 0 2 then s.liveWrite path p off v 0 2 else (s.plainWrite path p off v).msecShow n
  else if off = ETH_MAC_HI.off ∨ off = ETH_MAC_LO.off ∨ off = ETH_RX_BASE.off ∨ off = ETH_TX_BASE.off then s.liveWrite path p off v 0 32
  else if off = ETH_RX_CTL.off then s.liveWrite path p off v 0 13
  else if off = ETH_TX_CTL.off then (s.plainWrite path p off v).txDoorbell n
  else if off = (ETH_CBS 0).off ∨ off = (ETH_CBS 1).off then
    let other := if off = (ETH_CBS 0).off then s.idleSlope n 2 else s.idleSlope n 1
    if 3 * s.ethRate n < 4 * (bitsOf v 0 28 + other) then s.err p (pathCode path) off ST_BAD_PARAM 0x10
    else s.plainWrite path p off v
  else if off = ETH_MSEC_CTL.off then s.msecInstall path n v
  else if 0x90 ≤ off ∧ off < 0xB0 then
    match finOf 8 ((off - 0x90) / 4) with
    | some i => s.modEth n fun e => { e with sak := e.sak.set i (BitVec.ofNat 32 v) }
    | none => s
  else s.plainWrite path p off v

def State.ethShow (s : State) (n : Fin 4) (off : Nat) : Option Nat :=
  if off = ETH_CFG.off ∧ n.val < 2 then some ((s.reg ((Page.eth n).base + off)).toNat / 4 * 4 + 2) else none

/-! ### CAN (R447, R460) -/

def CAN_EV_RX : Nat := 0
def CAN_EV_TX : Nat := 1
def CAN_EV_RX_OVF : Nat := 2
def CAN_EV_STATE : Nat := 3
def CAN_EV_OFF : Nat := 4

def State.canState (s : State) (n : Fin 4) : Nat := s.get (.can n) ⟨CAN_STATUS.off, 0, 2⟩
def State.canTo (s : State) (n : Fin 4) (st : Nat) : State :=
  if s.canState n = st then s else (s.put (.can n) ⟨CAN_STATUS.off, 0, 2⟩ st).raise (.can n) CAN_EV_STATE

/-- Whether an acceptance filter lets a frame pass (R447, R460). -/
def State.canAccepts (s : State) (n : Fin 4) (f : CanFrame) : Bool :=
  (List.range 64).any fun i =>
    let a := (s.reg ((Page.can n).base + (CAN_FLT_ID i).off)).toNat
    let m := bitsOf (s.reg ((Page.can n).base + (CAN_FLT_MASK i).off)).toNat 0 29
    bitOf a 31 && (bitOf a 30 == f.ext) && (Nat.land (bitsOf a 0 29) m == Nat.land (bitsOf f.id 0 29) m)

/-- A received CAN frame is written to the RX ring with its stamp; none when the ring is full (R447). -/
def State.canPut (s : State) (n : Fin 4) (f : CanFrame) : Option State :=
  let st := stampWords (s.localTime * 65536 + s.localFract)
  s.ringPut (.can n) CAN_RX_BASE CAN_RX_CTL CAN_RX_TAIL f.data
    [(0, f.data.length + 2 ^ 16), (2, bitsOf f.id 0 29), (3, 0), (4, 0), (5, st.getD 0 0), (6, st.getD 1 0), (7, st.getD 2 0)]

/-- CAN_FRAME_RX (R447). -/
def execCanFrameRx (t : Nat) (n : Fin 4) (f : CanFrame) (s : State) : Out := s.step' t fun s =>
  let p := Page.can n
  if !s.canOn n ∨ s.canState n = 2 ∨ s.get p CAN_CFG_MODE < f.kind ∨ !s.canAccepts n f then s
  else if (s.get p CAN_RX_CTL_BUFSZ + 1) * 128 < f.data.length then s.bump p CAN_RX_OVF_CNT
  else if !s.dmcRunning then (s.faultDrop 1).bump p CAN_RX_OVF_CNT
  else
    match s.canPut n f with
    | none => (s.bump p CAN_RX_OVF_CNT).raise p CAN_EV_RX_OVF
    | some s => ((s.put p CAN_STATUS_REC (s.get p CAN_STATUS_REC - 1)).bump p CAN_RX_CNT).raise p CAN_EV_RX

/-- CAN_FRAME_TX (R447): the frame at the head of the TX ring has been sent. -/
def execCanFrameTx (t : Nat) (n : Fin 4) (s : State) : Out := s.step' t fun s =>
  let p := Page.can n
  let cnt := s.get p ⟨CAN_TX_CTL.off, 0, 13⟩
  let h := s.get p ⟨CAN_TX_HEAD.off, 0, 12⟩
  if !s.canOn n ∨ s.canState n = 2 ∨ s.flag p CAN_CFG_LISTEN_ONLY ∨ cnt ≤ h ∨
      h = s.get p ⟨CAN_TX_CTL.off, 16, 12⟩ then s
  else if !s.dmcRunning then s.faultDrop 1
  else
    let d := s.get p CAN_TX_BASE * 64 + 32 * h
    let data := memBytes s.dram (s.dramWord (d + 4) * 64) (min (bitsOf (s.dramWord d) 0 16) 2048)
    let s := (s.modCan n fun c => { c with last := data }).put p ⟨CAN_TX_HEAD.off, 0, 12⟩ ((h + 1) % max 1 cnt)
    let tec := s.get p CAN_STATUS_TEC
    ((s.put p CAN_STATUS_TEC (tec - 1)).bump p CAN_TX_CNT).raise p CAN_EV_TX

/-- BUS_OFF (R447): with AUTO_RECOVER recovery starts at once. -/
def execBusOff (t : Nat) (n : Fin 4) (s : State) : Out := s.step' t fun s =>
  let p := Page.can n
  if !s.canOn n ∨ s.canState n = 2 then s
  else
    let s := (s.canTo n 2).put p CAN_STATUS_TEC 255
    let s := s.modCan n fun c => { c with offAt := some s.now, recov := s.flag p CAN_CFG_AUTO_RECOVER }
    (s.bump p CAN_BUSOFF_CNT).raise p CAN_EV_OFF

/-- BUS_OFF_RECOVERY_DONE (R447): back to error-active with both counters 0. -/
def execBusOffRecoveryDone (t : Nat) (n : Fin 4) (s : State) : Out := s.step' t fun s =>
  let p := Page.can n
  if s.canOn n ∧ s.canState n = 2 ∧ s.can[n].recov then
    let s := ((s.put p CAN_STATUS_TEC 0).put p CAN_STATUS_REC 0).modCan n fun c => { c with offAt := none, recov := false }
    s.canTo n 0
  else s

/-- A write of `CAN_CMD` (R460). -/
def State.canCmd (s : State) (path : Path) (n : Fin 4) (v : Nat) : State :=
  let p := Page.can n
  if bitsOf v 0 4 ≠ 1 then s.err p (pathCode path) CAN_CMD.off ST_BAD_OPCODE NET_CMD_UNKNOWN
  else if s.canState n ≠ 2 then s.err p (pathCode path) CAN_CMD.off ST_STATE_REJECT NET_CMD_STATE
  else s.modCan n fun c => { c with recov := true }

def State.canWrite (s : State) (path : Path) (n : Fin 4) (off v : Nat) : State :=
  let p := Page.can n
  if off = CAN_CMD.off then s.canCmd path n v
  else if off = CAN_CFG.off ∨ off = CAN_NBT.off ∨ off = CAN_RX_BASE.off ∨ off = CAN_TX_BASE.off then
    s.liveWrite path p off v 0 32
  else if off = CAN_RX_CTL.off then s.liveWrite path p off v 0 13
  else s.plainWrite path p off v

end Sys2Proof.Machine
end

