-- ==== Sys2Proof/Machine/StorSec.lean ====
section
/-!
DEFINITION. Storage (R448, R449, R461) and the security block (R455–R458, R462): the storage link and its
NVMe commands, key slots, the OTP version, and the boot ROM's choice of an image (R456, R467).
-/

namespace Sys2Proof.Machine

def STOR_DOWN : Nat := 0
def STOR_TRAINING : Nat := 1
def STOR_INIT : Nat := 2
def STOR_READY : Nat := 3
def STOR_FAULT : Nat := 4
def STOR_LINK_FAIL : Nat := 0x26
def STOR_NO_NAMESPACE : Nat := 0x27
def STOR_NVME_TIMEOUT : Nat := 0x28
def STOR_EV_STATE : Nat := 0
def STOR_EV_CQ : Nat := 1
def STOR_EV_TIMEOUT : Nat := 2

def State.modStor (s : State) (f : Stor → Stor) : State := { s with stor := f s.stor }
def State.storState (s : State) : Nat := s.get .stor ⟨STOR_STATUS.off, 0, 3⟩
def State.storOn (s : State) : Bool :=
  Page.declared s.pkg .stor && s.domOn PD_STOR && s.flag .stor BLK_CTRL_EN

/-- STOR enters a state, raising STATE_CHANGE (R463). -/
def State.storTo (s : State) (st : Nat) : State :=
  if s.storState = st then s
  else ((s.put .stor ⟨STOR_STATUS.off, 0, 3⟩ st).put .stor BLK_STATE st).raise .stor STOR_EV_STATE

/-- A write of `STOR_CMD` (R461). -/
def State.storCmd (s : State) (path : Path) (v : Nat) : State :=
  let refuse (c d : Nat) : State := s.err .stor (pathCode path) STOR_CMD.off c d
  match bitsOf v 0 4 with
  | 1 =>
    if s.storState = STOR_DOWN ∧ s.storOn then (s.modStor fun c => { c with retrains := 0 }).storTo STOR_TRAINING
    else refuse ST_STATE_REJECT NET_CMD_STATE
  | 2 =>
    if s.storState = STOR_READY ∨ s.storState = STOR_FAULT then (s.modStor fun _ => {}).storTo STOR_DOWN
    else refuse ST_STATE_REJECT NET_CMD_STATE
  | _ => refuse ST_BAD_OPCODE NET_CMD_UNKNOWN

/-- STOR_INIT_DONE (R448, R449): READY on the lowest active namespace with 512- or 4096-byte LBAs, or FAULT. -/
def execStorInitDone (t : Nat) (i : StorInit) (s : State) : Out := s.step' t fun s =>
  if s.storState ≠ STOR_TRAINING ∧ s.storState ≠ STOR_INIT then s
  else if !i.link then (s.storTo STOR_FAULT).errHw .stor ST_HW_FAULT STOR_LINK_FAIL
  else
    let s := (s.put .stor ⟨STOR_STATUS.off, 12, 1⟩ (ofBool (i.x2 && !s.flag .stor ⟨STOR_CFG.off, 4, 1⟩))).put .stor
      ⟨STOR_STATUS.off, 8, 2⟩ (max i.rate (s.get .stor ⟨STOR_CFG.off, 0, 2⟩))
    let s := s.storTo STOR_INIT
    let ok := i.ns.filter fun e => e.2.1 == 512 || e.2.1 == 4096
    match ok.foldl (fun (b : Option (Nat × Nat × Nat)) e =>
        match b with | none => some e | some x => if e.1 < x.1 then some e else b) none with
    | none => (s.storTo STOR_FAULT).errHw .stor ST_HW_FAULT STOR_NO_NAMESPACE
    | some (id, lba, cap) =>
      let trunc := decide (2 ^ 30 < cap)
      let s := (s.put .stor STOR_NSID id).put .stor STOR_CAP (min cap (2 ^ 30))
      let s := (s.put .stor STOR_LBAF (if lba = 4096 then 1 else 0)).put .stor STOR_STATUS_NS_TRUNC (ofBool trunc)
      (s.modStor fun c => { c with retrains := 0, timeouts := 0 }).storTo STOR_READY

/-- STOR_LINK_DROP (R448): up to three retrains, then FAULT with LINK_FAIL. -/
def execStorLinkDrop (t : Nat) (s : State) : Out := s.step' t fun s =>
  if s.storState = STOR_DOWN ∨ s.storState = STOR_FAULT then s
  else if s.stor.retrains < 3 then
    let s := s.modStor fun c => { c with retrains := c.retrains + 1, cmds := [] }
    (s.bump .stor STOR_RETRAIN_CNT).storTo STOR_TRAINING
  else ((s.modStor fun c => { c with cmds := [] }).storTo STOR_FAULT).errHw .stor ST_HW_FAULT STOR_LINK_FAIL

/-- A write of `STOR_IOSQ_TAIL` submits the entries up to the new tail (R449). -/
def State.storDoorbell (s : State) (tail : Nat) : State :=
  if s.storState ≠ STOR_READY then s
  else
    let n := (tail + 64 - s.stor.sqTail) % 64
    let new := (List.range n).map fun i => ({ index := (s.stor.sqTail + i) % 64, since := s.now } : NvmeCmd)
    (s.modStor fun c => { c with cmds := c.cmds ++ new, sqTail := tail }).count .stor STOR_CMD_CNT n

/-- CQ_POSTED (R449): the controller completes the command of a submission index; an error is counted. -/
def execCqPosted (t : Nat) (index : Nat) (error : Bool) (s : State) : Out := s.step' t fun s =>
  if s.storState = STOR_READY ∧ s.stor.cmds.any (fun c => c.index == index) then
    let s := s.modStor fun c => { c with cmds := c.cmds.filter (fun x => x.index != index), timeouts := 0 }
    (if error then s.bump .stor STOR_NVME_ERR_CNT else s).raise .stor STOR_EV_CQ
  else s

/-- NVME_TIMEOUT (R449): a command not complete within 2 s is aborted; three in a row reset the controller. -/
def execNvmeTimeout (t : Nat) (index : Nat) (s : State) : Out := s.step' t fun s =>
  match s.stor.cmds.find? fun c => c.index == index with
  | none => s
  | some c =>
    if s.now < c.since + secU 2 then s
    else
      let n := s.stor.timeouts + 1
      let s := s.modStor fun x => { x with cmds := x.cmds.filter (fun y => y.index != index), timeouts := n }
      let s := (s.bump .stor STOR_TIMEOUT_CNT).raise .stor STOR_EV_TIMEOUT
      if n < 3 then s
      else
        let s := s.modStor fun x => { x with cmds := [], timeouts := 0, sqTail := 0 }
        (s.errHw .stor ST_TIMEOUT STOR_NVME_TIMEOUT).storTo STOR_INIT

def State.storWrite (s : State) (path : Path) (off v : Nat) : State :=
  if off = STOR_CMD.off then s.storCmd path v
  else if off = STOR_CFG.off ∨ off = STOR_Q_BASE.off then
    if s.liveChange .stor off v 0 32 then s.err .stor (pathCode path) off ST_STATE_REJECT NET_CFG_LIVE
    else s.plainWrite path .stor off v
  else if off = STOR_IOSQ_TAIL.off then (s.plainWrite path .stor off v).storDoorbell (bitsOf v 0 6)
  else s.plainWrite path .stor off v

/-! ### Keys (R455–R457) -/

def SEC_PATH : Nat := 0x29
def SEC_KEY_LOCKED : Nat := 0x2A
def SEC_OTP_USED : Nat := 0x2B
def SEC_SVN_RANGE : Nat := 0x2C
def SEC_BOOT_IMAGE : Nat := 0x2D
def SEC_EV_BOOT_FAIL : Nat := 0
def SEC_EV_EXT_REJECT : Nat := 1
def SEC_EV_KEY_DONE : Nat := 2

/-- `SEC_KEY_STAT[s]` (R462). -/
def State.keyStat (s : State) (i : Fin 16) : Nat :=
  let k : KeySlot := s.sec.keys[i]
  ofBool k.valid * 2 ^ 31 + ofBool k.locked * 2 ^ 30 + ofBool k.revoked * 2 ^ 29 + ofBool (decide (i.val < 3)) * 2 ^ 28 +
    Nat.land k.cfg.toNat 0x1F003

def State.modKey (s : State) (i : Fin 16) (f : KeySlot → KeySlot) : State :=
  { s with sec := { s.sec with keys := s.sec.keys.set i (f s.sec.keys[i]) } }

/-- The checks of a key operation (R457): `op` 1 WRITE, 2 ERASE, 3 LOCK, 4 REVOKE. -/
def State.keyCheck (s : State) (op slot : Nat) : CmdResult :=
  if op = 0 ∨ 4 < op then (ST_BAD_OPCODE, NET_CMD_UNKNOWN)
  else
    match finOf 16 slot with
    | none => (ST_BAD_PARAM, 0x10)
    | some i =>
      let k : KeySlot := s.sec.keys[i]
      if slot = 0 ∨ (5 ≤ slot ∧ slot < 8) ∨ (op = 4 ∧ slot ≠ 1 ∧ slot ≠ 2) then (ST_BAD_PARAM, 0x10)
      else if (op = 1 ∨ op = 2) ∧ k.locked then (ST_STATE_REJECT, SEC_KEY_LOCKED)
      else if op = 1 ∧ slot < 3 ∧ k.written then (ST_STATE_REJECT, SEC_OTP_USED)
      else (ST_OK, 0)

/-- A key operation takes effect (R443, R457); packets checked on this tick still find the slot as it was. -/
def State.keyApply (s : State) (op : Nat) (i : Fin 16) : State :=
  let s := if op = 3 ∨ (s.sec.keys[i].before.any fun b => b.1 / tickU == s.now / tickU) then s
    else s.modKey i fun k => { k with before := some (s.now, k.valid && !k.revoked, k.cfg) }
  match op with
  | 1 => s.modKey i fun k => { k with
      valid := true, written := true, cfg := s.reg (Page.base .sec + SEC_KEY_CFG.off), data := s.sec.keyData.toList
      high := 0, seen := [], replies := 0 }
  | 2 => s.modKey i fun k => { k with valid := false, data := [] }
  | 3 => s.modKey i fun k => { k with locked := true }
  | _ => s.modKey i fun k => { k with revoked := true }

/-- A write of `SEC_KEY_CTL` (R457): privileged MP writes only. -/
def State.keyCtl (s : State) (path : Path) (v : Nat) : State :=
  if path ≠ .mp then s.err .sec (pathCode path) SEC_KEY_CTL.off ST_STATE_REJECT SEC_PATH
  else if bitsOf v 31 1 = 0 then s
  else
    let op := bitsOf v 8 4
    let slot := bitsOf v 0 4
    let (c, d) := s.keyCheck op slot
    let s := s.put .sec SEC_KEY_RES (c * 2 ^ 8 + d)
    let s := if c = ST_OK then (match finOf 16 slot with | some i => s.keyApply op i | none => s)
      else s.err .sec (pathCode path) SEC_KEY_CTL.off c d
    s.raise .sec SEC_EV_KEY_DONE

/-- A write of `SEC_SVN_CMD` (R456): from the current OTP SVN to the running one. -/
def State.svnCmd (s : State) (path : Path) (v : Nat) : State :=
  if bitsOf v 31 1 = 0 then s
  else
    let n := bitsOf v 0 6
    let run := s.get .sec ⟨SEC_STATUS.off, 16, 8⟩
    if n < s.sec.svn ∨ run < n then s.err .sec (pathCode path) SEC_SVN_CMD.off ST_BAD_PARAM SEC_SVN_RANGE
    else { s with sec := { s.sec with svn := n } }.put .sec SEC_STATUS_OTP n

def State.secWrite (s : State) (path : Path) (off v : Nat) : State :=
  if off = SEC_KEY_CTL.off then s.keyCtl path v
  else if off = SEC_SVN_CMD.off then s.svnCmd path v
  else if off = SEC_RECOVERY.off then
    if bitsOf v 31 1 = 1 ∧ s.flag .sec SEC_STATUS_RECOVERY then { s with sec := { s.sec with recovGo := true } } else s
  else if 0x50 ≤ off ∧ off < 0x70 then
    match finOf 8 ((off - 0x50) / 4) with
    | some i => { s with sec := { s.sec with keyData := s.sec.keyData.set i (BitVec.ofNat 32 v) } }
    | none => s
  else s.plainWrite path .sec off v

def State.secShow (s : State) (off : Nat) : Option Nat :=
  if 0x80 ≤ off ∧ off < 0xC0 then (finOf 16 ((off - 0x80) / 4)).map s.keyStat else none

/-! ### Boot (R335, R456, R467) -/

/-- A field of the 160-byte header, most significant byte first (R8, R456). -/
def imgField (i : BootImg) (off n : Nat) : Nat := beNat ((i.bytes.drop off).take n)

def imgMagic (i : BootImg) : Nat := imgField i 0 4
def imgVer (i : BootImg) : Nat := imgField i 4 4
def imgSvn (i : BootImg) : Nat := imgField i 8 1
def imgType (i : BootImg) : Nat := imgField i 9 1
def imgLen (i : BootImg) : Nat := imgField i 12 4

/-- The body, `LENGTH` bytes from offset 160 (R456). -/
def imgBody (i : BootImg) : List Byte := (i.bytes.drop 160).take (imgLen i)

/-- The fields of a header that need no cryptography (R456). -/
def State.imgPlausible (s : State) (i : BootImg) : Bool :=
  imgMagic i == 0x494C5254 && imgType i == 1 && decide (imgLen i ≤ 0x180000) && decide (s.sec.svn ≤ imgSvn i)

/-- The image is valid (R456). -/
def State.imgValid (s : State) (i : BootImg) : Bool := s.imgPlausible i && i.key && i.sig

/-- The extension's key slot: 1, or 2 once slot 1 is revoked (R455, R456). -/
def State.extKeyOk (s : State) : Bool :=
  let a : KeySlot := s.sec.keys[(1 : Fin 16)]
  let b : KeySlot := s.sec.keys[(2 : Fin 16)]
  if a.revoked then b.valid && !b.revoked else a.valid

/-- The extension image passes its checks; it lands in its partition (R456). -/
def State.extLoad (s : State) (i : BootImg) : State :=
  if imgMagic i = 0x494C5254 ∧ imgType i = 2 ∧ imgLen i ≤ 0x80000 ∧ s.extKeyOk ∧ i.key ∧ i.sig then
    { s with tcm := memSetBytes s.tcm 0x280000 (imgBody i) }.put .sec SEC_STATUS_EXT_OK 1
  else (s.put .sec SEC_STATUS_EXT_OK 0).raise .sec SEC_EV_EXT_REJECT

/-- The recorded commands of a mailbox that was cleared are answered INTERRUPTED (R13, R335). -/
def State.mbxRecover (s : State) : State :=
  let rec' := s.mbxRec
  rec'.foldl (fun (s : State) e =>
    if e.bulk then s.icpReplyFor (some e) e.port 0x12 ST_INTERRUPTED 0 e.ref e.key []
    else match (List.finRange 32).find? fun i => let c : MbxSlot := s.mbx.slots[i]; c.st == SL_FREE with
    | none => s
    | some i =>
      let w : Vector Word 16 := (Vector.replicate 16 0).set 0 (BitVec.ofNat 32 (e.op * 2 ^ 24 + e.seq * 2 ^ 16))
      let s := s.modSlot i fun _ => { st := SL_EXEC, origin := e.origin, cmd := w, acc := true, port := e.port, ref := e.ref, key := e.key }
      s.mbxPost i ST_INTERRUPTED 0 0 []) { s with mbxRec := [] }

/-- The Runtime starts from a valid image (R456): `slot` 0 A, 1 B, 2 recovery. -/
def State.runtimeStart (s : State) (i : BootImg) (slot : Nat) : State :=
  let s := { s with tcm := memSetBytes s.tcm 0x100000 (imgBody i) }
  let s := ((s.put .sec ⟨SEC_STATUS.off, 16, 8⟩ (imgSvn i)).put .sec SEC_STATUS_OTP s.sec.svn).put .sec
    ⟨SEC_STATUS.off, 4, 2⟩ slot
  let s := s.put .sec SEC_STATUS_RECOVERY 0
  let s := { s with mp := { s.mp with up := true, loadFrom := s.now, extFrom := s.now }
                    sec := { s.sec with booted := true, recovGo := false } }
  s.mbxRecover

/-- Counting of signatures that fail (R462). -/
def State.sigCount (s : State) (i : BootImg) : State :=
  if s.imgPlausible i ∧ !(i.key && i.sig) then s.bump .sec SEC_SIG_FAIL_CNT else s

/-- BOOT (R456, R467): the boot ROM takes the valid image with the higher version, A when equal, and otherwise
enters recovery. `a` and `b` are the image slots, `ext` the extension image. -/
def execBoot (t : Nat) (a b ext : BootImg) (s : State) : Out := s.step' t fun s =>
  if !s.domOn PD_MP ∨ s.mp.up ∨ s.sec.booted then s
  else
    let bFirst := s.imgPlausible b && (!s.imgPlausible a || decide (imgVer a < imgVer b))
    let (x, y, sx) := if bFirst then (b, a, 1) else (a, b, 0)
    let s1 := s.sigCount x
    if s.imgValid x then ((s1.runtimeStart x sx).extLoad ext)
    else
      let s2 := s1.sigCount y
      if s.imgValid y then (s2.runtimeStart y (1 - sx)).extLoad ext
      else
        let s := { s2 with sec := { s2.sec with booted := true } }
        ((s.put .sec SEC_STATUS_RECOVERY 1).put .sec ⟨SEC_STATUS.off, 4, 2⟩ 2).raise .sec SEC_EV_BOOT_FAIL

/-- The recovery image in Frame SRAM: its header, and the body its LENGTH tells, when that is admitted (R456); the
verdicts come from outside. -/
def State.recoveryImg (s : State) (key sig : Bool) : BootImg :=
  let len := beNat (memBytes s.fsram 12 4)
  { bytes := memBytes s.fsram 0 (160 + if len ≤ 0x180000 then len else 0), key := key, sig := sig }

/-- The ROM checks the recovery image it was told of (R456). -/
def State.recoveryCheck (s : State) (key sig : Bool) : State :=
  if !s.sec.recovGo then s
  else
    let s := { s with sec := { s.sec with recovGo := false } }
    let i := s.recoveryImg key sig
    let s' := s.sigCount i
    if s.imgValid i then s'.runtimeStart i 2 else s'.errHw .sec ST_HW_FAULT SEC_BOOT_IMAGE

end Sys2Proof.Machine
end

