-- ==== Sys2Proof/Machine/Power.lean ====
section
/-!
DEFINITION. Requesters and their domains: what a grant does when its domains are on (R362, R376, R379), the
firmware's domain requests (R362, R376), the requests of the network and storage pages, and the arbiter's
commands (R378, R382, R383).
-/

namespace Sys2Proof.Machine

/-! ### Grants whose domains are on (R379) -/

/-- A granted requester proceeds. NET, STOR and FW need nothing but their domains. -/
def State.proceed (s : State) (id port : Nat) : State :=
  if id < 4 then (match finOf 4 id with | some n => s.engProceed n | none => s)
  else if id < 6 then (match finOf 2 (id - 4) with | some k => s.scnProceed k | none => s)
  else if id = ID_DMC then s.dmcProceed
  else if id = ID_COMP then s.compProceed
  else if 0x10 ≤ id ∧ id < 0x20 then (match finOf 104 (8 * (id - 0x10) + port) with | some q => s.npProceed q | none => s)
  else if 0x20 ≤ id then (match finOf 24 (8 * (id - 0x20) + port) with | some q => s.mxProceed q | none => s)
  else s

/-- Every granted requester whose domains are all on proceeds, in the order of the grants. -/
def State.proceedAll (s : State) : State :=
  s.pba.proceeding.foldl (fun (s : State) e =>
    if s.domainsOn e.1 e.2 then
      ({ s with pba := { s.pba with proceeding := s.pba.proceeding.filter (· != e) } }).proceed e.1 e.2
    else s) s

/-- Requests of FW whose domain is on for another owner are granted at once, without a slot (R376). -/
def State.fwFree (s : State) : State :=
  (s.pba.queue.filter fun q => q.id == ID_FW && s.domOn q.port).foldl (fun (s : State) q =>
    let s : State := { s with pba := { s.pba with
      queue := s.pba.queue.filter fun r => !(r.id == ID_FW && r.port == q.port)
      grants := s.pba.grants ++ [(ID_FW, q.port)]
      loaded := if s.pba.loaded.contains ID_FW then s.pba.loaded else s.pba.loaded ++ [ID_FW] } }
    let s := (s.bump .pba PBA_GRANT_CNT).keepMax .pba PBA_WAIT_MAX (toUs (s.now - q.since))
    ((s.put .pba PBA_LAST_GRANT (lastGrant ID_FW q.port)).raise .pba 0).pbaEvaluate) s

/-- A domain completes its switch-on (R362). -/
def State.domSwitchOn (s : State) (d : Nat) : State :=
  let s := s.setDom d true false
  let s := if d = PD_NVM then s.put .nvm BLK_STATE NVM_SCAN else s
  s.fwFree.proceedAll

/-- Whether a request for a domain has been granted and waits for the switch-on (R362, R379). -/
def State.domDue (s : State) (d : Nat) : Bool :=
  !s.domOn d && !domAbsent s.pkg d && s.domOwned d &&
    (match domParent d with | some p => s.domOn p | none => true) &&
    !(d == PD_DPHY && s.dmcState == DMC_SELF_REFRESH) && !(d == PD_MP && s.flag .mbx MP_RESTART_INFO_HELD)

/-- DOMAIN_ON (R362, R379): a granted domain is on, after its parent. -/
def execDomainOn (t : Nat) (d : Fin 26) (s : State) : Out := s.step' t fun s =>
  if s.domDue d.val then s.domSwitchOn d.val else s

/-! ### The arbiter's commands -/

/-- PBA_GRANT (R378, R379, R381). -/
def execPbaGrant (t : Nat) (s : State) : Out := s.step' t fun s =>
  if s.now < s.pba.nextAt ∨ !s.domOn PD_NOC then s.pbaDue
  else match s.nextGrant with
    | none => s.pbaDue
    | some q => (s.pbaGrant q).proceedAll.pbaDue

/-- PBA_EVALUATION (R383, R388): the timed evaluation, 1 ms after the last; what comes first on its tick goes before it. -/
def execPbaEvaluation (t : Nat) (s : State) : Out := s.step' t fun s =>
  if !s.domOn PD_NOC ∨ s.now < s.pba.evalAt + msU 1 then s
  else ({ s with pba := { s.pba with evalAt := s.now, evalDue := true } }).pbaDue

/-- WAIT_LONG (R382): every request that has waited `PBA_WAIT_WARN` and has not been reported. -/
def execWaitLong (t : Nat) (s : State) : Out := s.step' t fun s =>
  let due (q : PbaReq) : Bool := !q.warned && decide (q.since + msU (s.get .pba PBA_WAIT_WARN) ≤ s.now)
  if s.pba.queue.any due then
    ({ s with pba := { s.pba with queue := s.pba.queue.map fun (q : PbaReq) => { q with warned := q.warned || due q } } }).raise .pba 1
  else s

/-! ### Firmware requests (R362, R376) -/

/-- FW requests every domain whose bit is set and which is off. -/
def State.fwRequests (s : State) : State :=
  (List.range 26).foldl (fun (s : State) d =>
    if bitOf (s.get .basecamp BC_PD_REQ) d ∧ !s.domOn d then s.pbaRequest ID_FW d else s) s

/-- A write of `BC_PD_REQ` (R362, R376). -/
def State.pdReqWrite (s : State) (v : Nat) : State :=
  let v := (List.range 26).foldl (fun x d => if bitOf v d && !domAbsent s.pkg d then x + 2 ^ d else x) 0
  let old := s.get .basecamp BC_PD_REQ
  let s := s.put .basecamp BC_PD_REQ v
  let s := (List.range 26).foldl (fun (s : State) d =>
    if bitOf old d ∧ !bitOf v d then s.pbaRelease ID_FW d else s) s
  s.domRefresh.fwRequests.pbaShow

/-! ### Requests of pages (R361, R376) -/

/-- Whether any ETH or CAN page is enabled. -/
def State.netEnabled (s : State) : Bool :=
  (List.finRange 4).any fun n =>
    ((Page.eth n).declared s.pkg && s.flag (.eth n) BLK_CTRL_EN) || ((Page.can n).declared s.pkg && s.flag (.can n) BLK_CTRL_EN)

/-- After `BLK_CTRL.EN` of an ETH or CAN page has changed. -/
def State.netRequest (s : State) : State :=
  if s.netEnabled then s.pbaRequest ID_NET NO_PORT else s.pbaRelease ID_NET NO_PORT

/-- After `BLK_CTRL.EN` of STOR has changed. -/
def State.storRequest (s : State) : State :=
  if s.flag .stor BLK_CTRL_EN then s.pbaRequest ID_STOR NO_PORT else s.pbaRelease ID_STOR NO_PORT

end Sys2Proof.Machine
end

