-- ==== Sys2Proof/Machine/Basecamp.lean ====
section
/-!
DEFINITION. Basecamp: rails and sequencing (R352–R356), VBAT monitoring (R357–R360), power states, wake and
restarts (R363–R367, R403–R405), the XTAL monitor (R20, R474), the watchdog and the restarts of the MP (R324,
R332–R334, R370), resets (R371, R372), and the BASECAMP page (R373–R375).
-/

namespace Sys2Proof.Machine

/-! ### Codes -/

def PS_INIT : Nat := 0
def PS_SEQ_UP : Nat := 1
def PS_RUN : Nat := 2
def PS_STANDBY : Nat := 3
def PS_BIVOUAC : Nat := 4
def PS_SEQ_DOWN : Nat := 5
def PS_SUPPLY_OFF : Nat := 6
def PS_THERM_OFF : Nat := 7
def PS_LOCKOUT : Nat := 8
def BC_EV_PSTATE : Nat := 0
def BC_EV_PFW : Nat := 1
def BC_EV_PFW_END : Nat := 2
def BC_EV_VBAT_OV : Nat := 3
def BC_EV_SUPPLY_FAULT : Nat := 4
def BC_EV_WAKE : Nat := 5
def BC_EV_WDOG : Nat := 6
def BC_EV_AVS_LIMIT : Nat := 7
def BC_EV_KEEPER_DONE : Nat := 8
def MBX_EV_WARM_RESTART : Nat := 5
def MBX_EV_MP_HELD : Nat := 6
/-- Details of R375. -/
def BC_PATH : Nat := 0x11
def BC_PSTATE_ILLEGAL : Nat := 0x12
def BC_CMD_UNKNOWN : Nat := 0x13
def BC_PG_TIMEOUT : Nat := 0x20
def BC_XTAL_START : Nat := 0x26
def BC_RESTART_LIMIT : Nat := 0x27
def BC_THERMAL : Nat := 0x28
def supplyDetail (f : SupplyFault) : Nat :=
  match f with
  | .pg _ => 0x21 | .rail _ => 0x22 | .track => 0x23 | .order => 0x24 | .vbat => 0x25

def BC_RST_CAUSE_DETAIL : RF := ⟨0x8C, 16, 8⟩
def BC_RST_CAUSE_CAUSE : RF := ⟨0x8C, 0, 8⟩
def BC_HIST_SUPPLY : RF := ⟨0x90, 8, 4⟩
def BC_KEEPER_SENT : RF := ⟨0x94, 8, 8⟩
/-- Level of `PGk` and of `PWR_ENk`. -/
def BC_PG (k : Nat) : RF := ⟨0x48, 24 + k, 1⟩
def BC_EN (k : Nat) : RF := ⟨0x48, 20 + k, 1⟩
def MP_RESTARTS : RF := ⟨0x68, 16, 8⟩
def MP_EXPIRIES : RF := ⟨0x68, 8, 2⟩
def MP_CAUSE : RF := ⟨0x68, 0, 8⟩

/-- Bits of `BC_RAIL_MON` of a step's rails (R352). -/
def stepRails (k : Nat) : List Nat :=
  match k with | 0 => [0, 1, 2] | 1 => [3, 4, 9] | 2 => [5, 6, 7] | _ => [8]
/-- The step of a rail. -/
def railStep (r : Nat) : Nat := if r < 3 then 0 else if r < 5 then 1 else if r < 8 then 2 else 3

def State.modBc (s : State) (f : Bc → Bc) : State := { s with bc := f s.bc }
def State.pstate (s : State) : Nat := s.get .basecamp BLK_STATE
/-- SEQ_UP, RUN, STANDBY, SEQ_DOWN: the states of a supply loss (R364). -/
def State.pActive (s : State) : Bool := s.pstate == 1 || s.pstate == 2 || s.pstate == 3 || s.pstate == 5

/-- The power state changes (R364): PSTATE_CHANGE, and the POWER_STATE that waits for it (R346). -/
def State.pstateTo (s : State) (st : Nat) : State :=
  if s.pstate = st then s
  else
    let s := (s.put .basecamp BLK_STATE st).raise .basecamp BC_EV_PSTATE
    let s := if st = PS_RUN then s.modBc fun b => { b with runAt := s.now } else s
    s.mbxFinishAll (· == .power st) ST_OK 0 0

/-! ### Cold resets (R371) -/

/-- Register cells a cold reset keeps: the BASECAMP page but `LOCK` and its RWL fields, the keeper registers, and
the cells of THERM and NVM that lie in Basecamp (R371, R403, R427). -/
def keepCell (a : Nat) : Bool :=
  let p := a / 0x1000
  let o := a % 0x1000
  (p == 0x40001 && o != LOCK.off && o != BC_SEQ_CFG.off && o != BC_WDOG.off) ||
  (p == 0x40060 && decide (0x80 ≤ o) && decide (o < 0xC0)) ||
  (p == 0x40003 && (o == 0x64 || o == 0x68 || o == 0x6C || o == 0x7C)) || (p == 0x40005 && o == 0x60)

/-- The MBX record (R335): what it holds already, and every slot in EXEC or RUNNING. A POSTED slot whose command was
answered ACCEPTED is recorded too, since its completion was not delivered (R13, log entry 114); that of ICP waits in its reply. -/
def State.recordSlots (s : State) : List MbxRec :=
  s.mbxRec ++ ((List.finRange 32).filterMap fun i =>
    let c : MbxSlot := s.mbx.slots[i]
    if c.st = SL_EXEC ∨ c.st = SL_RUNNING ∨ 
        (c.st = SL_POSTED ∧ c.acc ∧ (c.origin ≠ ORG_ICP ∨ !c.final)) then some c.owes else none)

/-- Completions of ICP that a reset of the network catches (R13, log entry 114): replies not sent yet, and a BULK_CLOSE
under way. -/
def State.recordIcp (s : State) : List MbxRec :=
  ((List.finRange 4).flatMap fun n => (s.eth[n] : EthPort).replies.filterMap (·.owed)) ++
    (match s.bulk with
    | some b => if b.closing then [b.owes] else []
    | none => [])

/-- Port states of NP0–NP7 outside ENUM, RUN and ENUM_FAIL: KEEPER where the keeper serves the port (R243, R369). -/
def State.keeperPorts (s : State) : State :=
  (List.range 8).foldl (fun (s : State) p =>
    match finOf 104 p with
    | some q =>
      let st := s.npState q
      if st = NP_OFF ∨ st = NP_KEEPER then
        let st' := if s.keeperServes q then NP_KEEPER else NP_OFF
        if st' = st then s else s.npTo q st'
      else s
    | none => s) s

/-- The security block after its domain was off: keys, fuses and their locks stay (R443, R457). -/
def Sec.cold (x : Sec) : Sec :=
  { x with booted := false, recovGo := false, keyData := Vector.replicate 8 0
           keys := x.keys.map fun k => { k with high := 0, seen := [], replies := 0 } }

/-- A cold reset (R371): every domain is off, every page but BASECAMP and what lies in Basecamp starts from its
reset values, the local clock, SCHED entries, mailbox, DRAM and Frame SRAM content are lost, and light is dark. -/
def State.coldReset (s : State) : State :=
  let bb := Page.base .basecamp
  let r : State := { State.reset with
    now := s.now, pkg := s.pkg, fresh := s.fresh, out := s.out, pending := s.pending
    regs := s.regs.filter fun c => keepCell c.1
    held := s.held.filter fun c => c.1 / 0x1000 == 0x40001
    pulses := s.pulses.filter fun e => e.1 == bb
    conds := s.conds.filter fun e => e.1 == bb
    stampSec := s.stampSec.filter fun c => c.1 == (Page.base .therm) + THERM_SHUT_NS.off
    mbxRec := s.recordIcp ++ s.recordSlots
    therm := { tsb := s.therm.tsb, shutAt := s.therm.shutAt, restarts := s.therm.restarts, report := s.therm.report }
    nvmMem := s.nvmMem
    sec := s.sec.cold
    keeper := s.keeper
    bc := { s.bc with kickAt := none } }
  let r := (r.put .basecamp BC_PD_ON 0).put .basecamp BC_PD_RET 0
  (r.put .basecamp BC_STATUS_WDOG_RUN 0).keeperPorts

/-- Loss of VBAT (R371): only the NVM, fuses and keys, and the levels outside the device, stay. -/
def State.vbatLost (s : State) : State :=
  { State.reset with
    now := s.now, pkg := s.pkg, fresh := s.fresh, pending := s.pending, nvmMem := s.nvmMem, sec := s.sec.cold
    bc := { wakePin := s.bc.wakePin } }

/-! ### Release of the MP (R355, R370) -/

/-- The watchdog expects its first service within 1.5 s of a release at `at'` (R370). -/
def State.wdogStart (s : State) (at' : Nat) : State :=
  (s.modBc fun b => { b with wdogFrom := at', wdogDue := at' + msU 1500, wdogFirst := true, kickAt := none }).put
    .basecamp BC_STATUS_WDOG_RUN 1

/-- With XTAL good and PD_NOC on, the PLLs lock, PD_MP switches on and the MP is released (R355). -/
def State.mpRelease (s : State) : State :=
  if s.domOn PD_NOC ∧ s.flag .basecamp BC_STATUS_XTAL_OK ∧ !s.domOn PD_MP ∧ !s.flag .mbx MP_RESTART_INFO_HELD then
    (s.domSwitchOn PD_MP).wdogStart s.now
  else s

/-- What is reported at the first boot after a fault: `ERR_CODE` and SUPPLY_FAULT of BASECAMP (R375), and after a
thermal restart THERMAL_RESTART and the cause of every engine (R404). -/
def State.bootReports (s : State) : State :=
  let s := s.bc.errs.foldl (fun (s : State) d => (s.errHw .basecamp ST_HW_FAULT d).raise .basecamp BC_EV_SUPPLY_FAULT) s
  let s := s.modBc fun b => { b with errs := [] }
  if !s.therm.report then s
  else
    let s : State := { s with therm := { s.therm with report := false } }
    let s := (s.raise .therm THERM_EV_RESTART).errHw .therm ST_HW_FAULT 0x23
    let s := (List.finRange 4).foldl (fun (s : State) n =>
      if (Page.eng n).declared s.pkg then
        (s.put (.eng n) ENG_STATE_INFO (0x28 * 256)).errHw (.eng n) ST_HW_FAULT 0x28
      else s) s
    (List.finRange 2).foldl (fun (s : State) k =>
      if (Page.scn k).declared s.pkg then
        (s.put (.scn k) SCN_STATE_INFO (0x29 * 256)).errHw (.scn k) ST_HW_FAULT 0x29
      else s) s

/-- Step 4 is complete (R355, R361): PD_NOC, PD_SEC and PD_NVM switch on without the PBA (R376). -/
def State.nocOn (s : State) : State :=
  let s := ((s.setDom PD_NOC true false).setDom PD_SEC true false).domSwitchOn PD_NVM
  let s := if s.flag .basecamp BC_STATUS_PFW then s.put .nvm NVM_STAT_PFW_BLOCK 1 else s
  let s : State := { s with mp := { s.mp with loadFrom := s.now, extFrom := s.now } }
  s.domRefresh.fwRequests.bootReports.mpRelease

/-! ### Power-up (R355) -/

/-- The keeper starts its wake frames (R245, R369). -/
def State.keeperWake (s : State) : State :=
  let ports := (List.range 8).filter fun p => bitOf (s.get (.np 0) NPK_CFG_WAKE_PLAY) p
  ({ s with keeper := { s.keeper with play := ports, first := none, latch := [] } }).put .basecamp BC_KEEPER_SENT 0

/-- A step is complete: its action, and RUN or the delay before the next enable (R355). -/
def State.stepDone (s : State) : State :=
  let k := s.bc.step
  let s := s.modBc fun b => { b with stepOn := b.stepOn.toList.zipIdx.foldl (fun v e => v.set! e.2 (e.1 || e.2 == k)) b.stepOn }
  let s := s.put .basecamp (BC_PG k) 1
  let s := (stepRails k).foldl (fun (s : State) r => s.put .basecamp ⟨BC_RAIL_MON.off, r, 1⟩ 1) s
  let s := if k = 0 ∧ s.bc.xtalFrom = none then s.modBc fun b => { b with xtalFrom := some s.now, xtalRun := 0 }
    else if k = 1 then s.nocOn else s
  if k = 3 then s.pstateTo PS_RUN
  else s.modBc fun b => { b with delayAt := some (s.now + usU (s.get .basecamp BC_SEQ_CFG_STEP_DLY)) }

def Bc.on (b : Bc) (k : Nat) : Bool := b.stepOn.toList.getD k false

/-- The enable of the present step rises; a step that is still on is complete at once (R355, R372). -/
def State.stepBegin (s : State) : State :=
  if s.bc.nrstLow then s
  else
    let k := s.bc.step
    let s := (s.put .basecamp (BC_EN k) 1).modBc fun b => { b with stepAt := s.now, delayAt := none }
    if s.bc.on k then s.stepDone else s

/-- Entry to SEQ_UP with the cause of `BC_RST_CAUSE` (R364, R373). -/
def State.goUp (s : State) (cause : Nat) : State :=
  let s := (s.put .basecamp BC_RST_CAUSE_CAUSE cause).put .basecamp BC_STATUS_HOLD_UP 0
  let s := s.modBc fun b => { b with
    step := 0, delayAt := none, down := none, lossSupply := false, lossTherm := false, supplyWait := false
    wakeHeld := false, wakePend := false }
  (s.pstateTo PS_SEQ_UP).keeperWake.stepBegin

/-! ### Wake (R367, R405) -/

/-- TSB is at or above SHUT − SHUT_H (R404, R405). -/
def State.tsbHot (s : State) : Bool :=
  decide (degC (s.get .therm THERM_THR_SHUT) - degC (s.get .therm THERM_HYST_SHUT_H) ≤ s.therm.tsb.last)

/-- A qualified wake in BIVOUAC: power-up, or held while TSB is hot (R364, R405). -/
def State.wakeGo (s : State) : State :=
  if s.pstate ≠ PS_BIVOUAC then s
  else if s.tsbHot then s.modBc fun b => { b with wakeHeld := true }
  else s.goUp 0x06

/-- A wake source qualifies (R365, R367). -/
def State.wakeRecord (s : State) (src : Nat) : State :=
  let s := ((s.mark .basecamp ⟨BC_WAKE_SRC.off, src, 1⟩).bump .basecamp BC_WAKE_CNT).raise .basecamp BC_EV_WAKE
  let s := s.modBc fun b => { b with wakeAt := s.now }
  if s.pstate = PS_SEQ_DOWN then s.modBc fun b => { b with wakePend := true } else s.wakeGo

/-- Whether a pin's level is active (R367). -/
def State.wakeActive (s : State) (i : Fin 4) : Bool :=
  s.bc.wakePin[i] != bitOf (s.get .basecamp BC_WAKE_CFG_POL) i.val
def State.wakeEnabled (s : State) (i : Fin 4) : Bool := bitOf (s.get .basecamp BC_WAKE_CFG_EN) i.val

/-- Entry to BIVOUAC (R364, R365, R367): pins at their active level start their filters. -/
def State.enterBivouac (s : State) : State :=
  let s := s.pstateTo PS_BIVOUAC
  let s := s.modBc fun b => { b with bivAt := s.now, timerDone := false }
  let s := (List.finRange 4).foldl (fun (s : State) i =>
    if s.wakeActive i ∧ s.bc.wakeFrom[i] = none then
      s.modBc fun b => { b with wakeFrom := b.wakeFrom.set i (some s.now) }
    else s) s
  if s.bc.wakePend then (s.modBc fun b => { b with wakePend := false }).wakeGo else s

/-! ### Power-down (R356) -/

/-- The DMC stops before its rails fall. -/
def State.dmcHalt (s : State) : State :=
  if s.dmcState = DMC_OFF then s
  else ((s.dmcTo DMC_OFF).dmcClear.pbaRelease ID_DMC NO_PORT).domOff PD_DPHY

/-- Power-down is complete: BIVOUAC after SEQ_DOWN (R364). -/
def State.downDone (s : State) : State :=
  let s := (s.modBc fun b => { b with down := none }).put .basecamp BC_STATUS_HOLD_UP 0
  if s.pstate = PS_SEQ_DOWN then s.enterBivouac else s

/-- The highest enable that is high is lowered, after the domains its step supplies (R356). -/
def State.downLower (s : State) : State :=
  match [3, 2, 1, 0].find? fun k => s.flag .basecamp (BC_EN k) with
  | none => s.downDone
  | some k =>
    let s := if k = 2 then s.dmcHalt else s
    let s := if k ≤ 1 ∧ s.domOn PD_NOC then s.coldReset else s
    let s := s.put .basecamp (BC_EN k) 0
    let s := if k = 0 then (s.put .basecamp BC_STATUS_XTAL_OK 0).modBc fun b => { b with xtalFrom := none, xtalRun := 0, xtalFail := none }
      else s
    s.modBc fun b => { b with
      stepOn := b.stepOn.toList.zipIdx.foldl (fun v e => v.set! e.2 (e.1 && e.2 != k)) b.stepOn
      down := some k, downAt := s.now }

/-! ### Supply loss and thermal shutdown (R358, R403) -/

/-- Light is cut (R358 step 1): every `LSx_KILL_N` low, without a trip, and the matrix pins at the levels of R251. -/
def State.cutLight (s : State) : State :=
  let s := (List.finRange 6).foldl (fun (s : State) x => s.ltnOffPins x) s
  (List.finRange 24).foldl (fun (s : State) q => s.modMx q fun o => { o with
    running := false, stage := .blank, shown := [], xfer := none, showEnd := none }) s

/-- Steps 1 and 2 of R358: light is cut, the NVM starts no granule, and the sequence runs. -/
def State.holdUp (s : State) : State :=
  let s := s.cutLight
  let s := if s.domOn PD_NVM then s.nvmStop false else s
  let s := s.modBc fun b => { b with
    t0 := if b.lossSupply || b.lossTherm then b.t0 else s.now, delayAt := none, down := none, wakePend := false }
  s.put .basecamp BC_STATUS_HOLD_UP 1

/-- A supply loss (R358): recorded with its detail at t0. -/
def State.supplyLoss (s : State) (detail : Nat) : State :=
  if !s.pActive ∨ s.bc.lossSupply then s
  else
    let s := s.holdUp
    let s := s.modBc fun b => { b with lossSupply := true, lossVbat := detail == 0x25, errs := b.errs ++ [detail] }
    (s.put .basecamp BC_RST_CAUSE_DETAIL detail).bump .basecamp BC_SUPPLY_FAULT_CNT

/-- A thermal shutdown (R403): the sensor, coded 0–23 or 0x1F, and its value. -/
def State.thermShut (s : State) (sensor : Nat) (value : Int) : State :=
  if !(s.pActive || s.pstate == PS_SUPPLY_OFF) ∨ s.bc.lossTherm then s
  else
    let s := (s.put .therm THERM_SHUT_INFO (sensor * 2 ^ 24 + unsigned 16 value)).stamp .therm THERM_SHUT_NS
    let s := s.bump .therm THERM_SHUT_CNT
    let s : State := { s with therm := { s.therm with shutAt := some s.now } }
    let s := (s.modBc fun b => { b with errs := b.errs ++ [BC_THERMAL] }).put .basecamp BC_RST_CAUSE_DETAIL
      (if s.bc.lossSupply then s.get .basecamp BC_RST_CAUSE_DETAIL else BC_THERMAL)
    if s.pstate = PS_SUPPLY_OFF then (s.modBc fun b => { b with supplyWait := true }).pstateTo PS_THERM_OFF
    else s.holdUp.modBc fun b => { b with lossTherm := true }

/-- LOCKOUT (R359, R364). -/
def State.lockout (s : State) : State :=
  ((s.modBc fun b => { b with errs := b.errs ++ [BC_RESTART_LIMIT] }).put .basecamp BC_RST_CAUSE_DETAIL
    BC_RESTART_LIMIT).pstateTo PS_LOCKOUT

/-! ### The MP's restarts (R324, R332–R334) -/

/-- An expiry in a window (R334): one that finds it closed opens it. -/
def inWindow (now span : Nat) (from? : Option Nat) (n : Nat) : Option Nat × Nat :=
  match from? with
  | some f => if now ≤ f + span then (some f, n + 1) else (some now, 1)
  | none => (some now, 1)

/-- Whether the MP runs, so that an expiry can happen. -/
def State.mpRuns (s : State) : Bool := s.domOn PD_MP && !s.flag .mbx MP_RESTART_INFO_HELD

/-- The extension stops with the MP. -/
def State.extHalt (s : State) : State := s.put .mbx MP_EXT_CTRL_RUN 0

/-- An expiry, LOCKSTEP or MP_FAULT (R332, R334): warm restart; SAFE for every engine at the second in the short
window; the MP held at the third in the long one. -/
def State.mpExpiry (s : State) (cause : Nat) : State :=
  let a := inWindow s.now (secU 2) s.mp.shortFrom s.mp.shortCnt
  let b := inWindow s.now (secU 10) s.mp.longFrom s.mp.longCnt
  let s : State := { s with mp := { s.mp with
    shortFrom := a.1, shortCnt := a.2, longFrom := b.1, longCnt := b.2, up := false } }
  let s := ((s.put .mbx MP_EXPIRIES (min 3 b.2)).put .mbx MP_CAUSE cause).extHalt
  let s := if 2 ≤ a.2 then
      let s := (List.finRange 4).foldl (fun (s : State) n => s.engWdogSafe n) s
      (List.finRange 2).foldl (fun (s : State) k => s.scnWdogSafe k) s
    else s
  if 3 ≤ b.2 then
    let s := (s.put .mbx MP_RESTART_INFO_HELD 1).raise .mbx MBX_EV_MP_HELD
    let s : State := { s with mp := { s.mp with restart := false } }
    ((s.setDom PD_MP false false).put .mbx BLK_STATE 2).put .basecamp BC_STATUS_WDOG_RUN 0
  else
    let s : State := { s with mp := { s.mp with restart := true } }
    let s := (s.put .mbx MP_RESTARTS (min 255 (s.get .mbx MP_RESTARTS + 1))).raise .mbx MBX_EV_WARM_RESTART
    (s.put .mbx BLK_STATE 1).wdogStart (s.now + usU 10)

/-- A watchdog expiry (R370). -/
def State.wdogExpire (s : State) : State :=
  ((s.bump .basecamp BC_WDOG_EXP_CNT).raise .basecamp BC_EV_WDOG).mpExpiry 0x01

/-- A complete service (R370): early within the closed part of the period, it is an expiry; later than half the period, it is a deadline
that class 0 misses (R329). -/
def State.wdogService (s : State) : State :=
  if !s.flag .basecamp BC_STATUS_WDOG_RUN then s
  else
    let per := msU (s.get .basecamp BC_WDOG_PERIOD)
    let e := s.now - s.bc.wdogFrom
    if !s.bc.wdogFirst ∧ e * 100 < s.get .basecamp BC_WDOG_CLOSED * per then s.wdogExpire
    else
      let s := if !s.bc.wdogFirst ∧ per < 2 * e then s.bump .mbx (MP_DL_MISS 0) else s
      s.modBc fun b => { b with wdogFrom := s.now, wdogDue := s.now + per, wdogFirst := false }

/-- A write of `BC_WDOG_KICK` (R370). -/
def State.wdogKick (s : State) (path : Path) (v : Nat) : State :=
  if path ≠ .mp then s.err .basecamp (pathCode path) BC_WDOG_KICK.off ST_STATE_REJECT BC_PATH
  else if v = 0xA5 then s.modBc fun b => { b with kickAt := some s.now }
  else
    let first := s.bc.kickAt
    let s := s.modBc fun b => { b with kickAt := none }
    match first with
    | some f => if v = 0x5A ∧ s.now ≤ f + usU 100 then s.wdogService else s
    | none => s

/-- The restarted Runtime (R332, R333): INTERRUPTED for every slot in EXEC or RUNNING, the completions that came
meanwhile for the others, and the extension where it may run. -/
def State.runtimeUp (s : State) : State :=
  let s : State := { s with mp := { s.mp with up := true, restart := false } }
  let s := s.put .mbx BLK_STATE 0
  let s := (List.finRange 32).foldl (fun (s : State) i =>
    let c : MbxSlot := s.mbx.slots[i]
    if c.st = SL_EXEC ∨ c.st = SL_RUNNING then
      (s.modSlot i fun c => { c with missed := none }).mbxPost i ST_INTERRUPTED 0 0 []
    else match c.missed with
      | some (status, detail, w2) =>
        (s.modSlot i fun c => { c with missed := none }).mbxFinish i status detail w2
      | none => s) s
  s.setFlag .mbx MP_EXT_CTRL_RUN (s.flag .mbx MP_EXT_CTRL_EN && !s.mp.extStopped && !s.mp.extBlame && s.flag .sec SEC_STATUS_EXT_OK)

/-! ### XTAL (R20, R474) -/

/-- What a failed window does (R20): every Lantern trips, every engine and scanner is in FAULT, matrix ports and the DMC
stop, and frames on Narpa lines are cut. `again`: XTAL was bad already; what was started since is met, and a unit in
FAULT stays as it is. -/
def State.xtalHits (s : State) (again : Bool) : State :=
  let s := (List.finRange 4).foldl (fun (s : State) n => if again ∧ s.engState n = E_FAULT then s else s.engXtalFail n) s
  let s := (List.finRange 2).foldl (fun (s : State) k => if again ∧ s.scnState k = E_FAULT then s else s.scnXtalFail k) s
  let s := (List.finRange 24).foldl (fun (s : State) q => s.mxXtalFail q) s
  let s := (List.finRange 104).foldl (fun (s : State) q => s.npCut q) s
  s.dmcFault

/-- XTAL_FAIL (R20): XTAL is bad from now on. -/
def State.xtalFailed (s : State) : State :=
  let s := (s.put .basecamp BC_STATUS_XTAL_OK 0).modBc fun b => { b with xtalFail := some s.now }
  (s.put .basecamp BC_AVS_TARGET 750).xtalHits false

/-! ### Registers and commands (R364, R372, R373) -/

/-- Every engine and scanner is OFF. -/
def State.unitsOff (s : State) : Bool :=
  (List.finRange 4).all (fun n => s.engState n == 0) && (List.finRange 2).all (fun k => s.scnState k == 0)

/-- Entry to SEQ_DOWN (R356, R364): light is cut, and the domains of the blocks switch off. -/
def State.goDown (s : State) : State :=
  let s := s.pstateTo PS_SEQ_DOWN
  let s := s.cutLight
  let s := ((List.range 22).map (· + 2)).foldl (fun (s : State) d =>
    if (s.domOn d || s.domRet d) && d != PD_DMC && d != PD_DPHY then s.domOff d else s) s
  let s : State := { s with pba := { s.pba with
    queue := [], proceeding := [], soft := [], grants := s.pba.grants.filter (·.1 == ID_DMC)
    loaded := s.pba.loaded.filter (· == ID_DMC) } }
  s.downLower

/-- Whether `BC_PWR_CMD` with a target is legal now (R364, R365). -/
def State.pwrLegal (s : State) (target : Nat) : Bool :=
  !s.flag .basecamp BC_STATUS_HOLD_UP &&
  (match target with
  | 0 => s.pstate == PS_STANDBY
  | 1 => s.pstate == PS_RUN && s.unitsOff && s.compState == COMP_OFF && !s.flag .stor BLK_CTRL_EN &&
      (s.dmcState == DMC_OFF || s.dmcState == DMC_SELF_REFRESH)
  | _ => (s.pstate == PS_RUN || s.pstate == PS_STANDBY) && s.unitsOff)

/-- A legal `BC_PWR_CMD` (R364). -/
def State.pwrGo (s : State) (target : Nat) : State :=
  match target with
  | 0 => s.pstateTo PS_RUN
  | 1 => s.domRefresh.pstateTo PS_STANDBY
  | _ => s.goDown

/-- A write of `BC_PWR_CMD` (R364, R365, R373). -/
def State.pwrCmd (s : State) (path : Path) (v : Nat) : State :=
  let off := BC_PWR_CMD.off
  if path ≠ .mp then s.err .basecamp (pathCode path) off ST_STATE_REJECT BC_PATH
  else if bitsOf v 8 1 = 0 then s
  else
    let target := bitsOf v 0 2
    if target = 3 then s.err .basecamp (pathCode path) off ST_BAD_OPCODE BC_CMD_UNKNOWN
    else if s.pwrLegal target then s.pwrGo target
    else s.err .basecamp (pathCode path) off ST_STATE_REJECT BC_PSTATE_ILLEGAL

/-- A write of `BC_RST` (R372). -/
def State.rstWrite (s : State) (path : Path) (v : Nat) : State :=
  if path ≠ .mp then s.err .basecamp (pathCode path) BC_RST.off ST_STATE_REJECT BC_PATH
  else if v = 0xC01D then s.coldReset.goUp 0x03
  else s

/-- Registers of BASECAMP with rules of their own. -/
def State.bcWrite (s : State) (path : Path) (off v : Nat) : State :=
  if off = BC_PWR_CMD.off then s.pwrCmd path v
  else if off = BC_WDOG_KICK.off then s.wdogKick path v
  else if off = BC_RST.off then s.rstWrite path v
  else if off = BC_VBAT_MIN.off then s.put .basecamp BC_VBAT_MIN (s.get .basecamp BC_VBAT_VBAT)
  else if off = BC_PD_REQ.off then s.pdReqWrite v
  else
    let s := s.plainWrite path .basecamp off v
    if off = BC_PD_RETEN.off then s.domRefresh
    else if off = BC_AVS.off ∧ !s.flag .basecamp BC_AVS_EN then s.put .basecamp BC_AVS_TARGET 750
    else s

/-- Ports the keeper serves now (R369). -/
def State.keeperServing (s : State) : List Nat :=
  (List.range 8).filter fun p =>
    match finOf 104 p with
    | some q => s.keeperServes q && s.npState q != NP_ENUM_ST && s.npState q != NP_RUN
    | none => false

/-- What a read of a computed BASECAMP register answers (R370, R373). -/
def State.bcShow (s : State) (off : Nat) : Option Nat :=
  if off = BC_WDOG_REMAIN.off then
    some (if s.flag .basecamp BC_STATUS_WDOG_RUN then min 65535 (toMs (s.bc.wdogDue - s.now)) else 0)
  else if off = BC_KEEPER_STAT.off then
    some ((if s.keeper.play.isEmpty && !s.keeper.line.any (fun e => e.2.2 && decide (s.now < e.2.1)) then 0 else 2 ^ 16) +
      s.get .basecamp BC_KEEPER_SENT * 2 ^ 8 + s.keeperServing.foldl (fun x p => x + 2 ^ p) 0)
  else if off = BC_RESTART_HIST.off then
    some (withBits (s.get .basecamp BC_RESTART_HIST) 0 4
      (min 15 (s.therm.restarts.filter fun x => decide (s.now < x + secU 3600)).length))
  else if off = BC_STATUS.off then
    some (withBits (s.get .basecamp BC_STATUS) 5 1 (ofBool (!s.keeper.line.isEmpty)))
  else none

/-! ### Meanings: power states and sequencing -/

/-- A command that VBAT above its absolute maximum would accompany: no behaviour is guaranteed (R481). -/
def State.vbatStep (s : State) (t v : Nat) (f : State → State) : Out :=
  if 5800 < v then .fault .overstress else s.step' t f

/-- BASECAMP_POWER_ON (R364, R465). `v` is VBAT in 10 mV. -/
def execBasecampPowerOn (t v : Nat) (s : State) : Out := s.vbatStep t v fun s =>
  if s.pstate ≠ PS_INIT ∨ v ≤ 300 then s
  else ((s.put .basecamp BC_VBAT_VBAT v).put .basecamp BC_VBAT_MIN (min v 65535)).enterBivouac

/-- SEQ_STEP_COMPLETE (R355, R364). -/
def execSeqStepComplete (t : Nat) (s : State) : Out := s.step' t fun s =>
  if s.pstate = PS_SEQ_UP ∧ !s.bc.nrstLow ∧ !s.flag .basecamp BC_STATUS_HOLD_UP ∧ s.flag .basecamp (BC_EN s.bc.step) ∧
      !s.bc.on s.bc.step ∧ s.bc.delayAt = none ∧ s.now < s.bc.stepAt + usU (100 * s.get .basecamp BC_SEQ_CFG_PG_TMO) then
    s.stepDone
  else s

/-- STEP_DELAY_EXPIRY (R355). -/
def execStepDelayExpiry (t : Nat) (s : State) : Out := s.step' t fun s =>
  match s.bc.delayAt with
  | none => s
  | some d =>
    if s.pstate = PS_SEQ_UP ∧ d ≤ s.now ∧ s.bc.step < 3 then (s.modBc fun b => { b with step := b.step + 1 }).stepBegin
    else s

/-- PG_TIMEOUT (R355). -/
def execPgTimeout (t : Nat) (s : State) : Out := s.step' t fun s =>
  if s.pstate = PS_SEQ_UP ∧ !s.bc.nrstLow ∧ s.flag .basecamp (BC_EN s.bc.step) ∧ !s.bc.on s.bc.step ∧
      s.bc.stepAt + usU (100 * s.get .basecamp BC_SEQ_CFG_PG_TMO) ≤ s.now then
    s.supplyLoss BC_PG_TIMEOUT
  else s

/-- XTAL_GOOD (R20, R355): four consecutive good windows. -/
def execXtalGood (t : Nat) (s : State) : Out := s.step' t fun s =>
  if s.bc.xtalFrom.isSome ∧ 4 ≤ s.bc.xtalRun ∧ !s.flag .basecamp BC_STATUS_XTAL_OK then
    ((s.put .basecamp BC_STATUS_XTAL_OK 1).modBc fun b => { b with xtalFail := none }).mpRelease
  else s

/-- XTAL_START (R355): not good within 10 ms of the oscillator's start. -/
def execXtalStart (t : Nat) (s : State) : Out := s.step' t fun s =>
  match s.bc.xtalFrom with
  | none => s
  | some f =>
    if !s.flag .basecamp BC_STATUS_XTAL_OK ∧ s.bc.xtalFail = none ∧ f + msU 10 ≤ s.now then s.supplyLoss BC_XTAL_START else s

/-- SEQ_DOWN_STEP (R356): the rails of the step have fallen below 10 %, or 2 ms have passed. -/
def execSeqDownStep (t : Nat) (fell : Bool) (s : State) : Out := s.step' t fun s =>
  match s.bc.down with
  | none => s
  | some k =>
    if fell ∨ s.bc.downAt + msU 2 ≤ s.now then
      let s := s.put .basecamp (BC_PG k) 0
      let s := (stepRails k).foldl (fun (s : State) r => s.put .basecamp ⟨BC_RAIL_MON.off, r, 1⟩ 0) s
      s.downLower
    else s

/-- XTAL_MONITOR_WINDOW (R20). `good` says whether the window saw edges within 2 % of 25 MHz. -/
def execXtalMonitorWindow (t : Nat) (good : Bool) (s : State) : Out := s.step' t fun s =>
  if s.bc.xtalFrom = none then s
  else if good then s.modBc fun b => { b with xtalRun := b.xtalRun + 1 }
  else
    let s := s.modBc fun b => { b with xtalRun := 0 }
    if s.flag .basecamp BC_STATUS_XTAL_OK then s.xtalFailed else s.xtalHits true

/-- XTAL_FAIL_PERSIST (R474). -/
def execXtalFailPersist (t : Nat) (s : State) : Out := s.step' t fun s =>
  match s.bc.xtalFail with
  | none => s
  | some f => if f + msU 100 ≤ s.now then s.supplyLoss BC_XTAL_START else s

/-- AVS_UPDATE (R354). `want` is the target the monitors ask for, mV. -/
def execAvsUpdate (t : Nat) (want : Int) (s : State) : Out := s.step' t fun s =>
  if !s.flag .basecamp BC_AVS_EN ∨ !s.flag .basecamp BC_STATUS_XTAL_OK ∨ s.now < s.bc.avsAt + usU 100 then s
  else
    let goal : Int := max 700 (min 820 want) + signed 8 (s.get .basecamp BC_AVS_OFFSET)
    let cur : Int := s.get .basecamp BC_AVS_TARGET
    let next := max (cur - 5) (min (cur + 5) goal)
    let overLim := decide (820 < want)
    let s' := s.modBc fun b => { b with avsAt := s.now, avsLimit := overLim }
    let s' := s'.put .basecamp BC_AVS_TARGET next.toNat
    if overLim ∧ !s.bc.avsLimit then s'.raise .basecamp BC_EV_AVS_LIMIT else s'

/-- The duty cycle of `AVS_PWM` in 0.1 % (R354); 0 while the pin is held low. -/
def State.avsDuty (s : State) : Nat :=
  if s.flag .basecamp BC_AVS_EN ∧ s.flag .basecamp BC_STATUS_XTAL_OK then 4 * (s.get .basecamp BC_AVS_TARGET - 600) else 0

/-! ### Meanings: VBAT (R357–R360) -/

/-- VBAT_SAMPLE. -/
def execVbatSample (t v : Nat) (s : State) : Out := s.vbatStep t v fun s =>
  if s.pstate = PS_INIT then s
  else (s.put .basecamp BC_VBAT_VBAT v).put .basecamp BC_VBAT_MIN (min v (s.get .basecamp BC_VBAT_MIN))

/-- PFW: VBAT, in 10 mV, has been below 4.5 V for `dur` (R357). -/
def execPfw (t v dur : Nat) (s : State) : Out := s.vbatStep t v fun s =>
  if s.pstate = PS_INIT ∨ 450 ≤ v ∨ dur ≤ msU 1 ∨ s.flag .basecamp BC_STATUS_PFW then s
  else
    let s := ((s.put .basecamp BC_STATUS_PFW 1).bump .basecamp BC_PFW_CNT).raise .basecamp BC_EV_PFW
    if s.domOn PD_NVM then s.nvmStop true else s

/-- PFW_END: VBAT has been at or above 4.7 V for `dur`. -/
def execPfwEnd (t v dur : Nat) (s : State) : Out := s.vbatStep t v fun s =>
  if v < 470 ∨ dur < msU 10 ∨ !s.flag .basecamp BC_STATUS_PFW then s
  else
    let s := (s.put .basecamp BC_STATUS_PFW 0).raise .basecamp BC_EV_PFW_END
    if s.flag .basecamp BC_STATUS_HOLD_UP then s else s.put .nvm NVM_STAT_PFW_BLOCK 0

/-- VBAT_OV: VBAT has been above 42 V for `dur` (R360). -/
def execVbatOv (t v dur : Nat) (s : State) : Out := s.vbatStep t v fun s =>
  if s.pstate = PS_INIT ∨ v ≤ 4200 ∨ dur < msU 1 ∨ s.flag .basecamp BC_STATUS_VBAT_OV then s
  else (s.put .basecamp BC_STATUS_VBAT_OV 1).raise .basecamp BC_EV_VBAT_OV

/-- VBAT_OV_END: VBAT has been at or below 41 V for `dur`. -/
def execVbatOvEnd (t v dur : Nat) (s : State) : Out := s.vbatStep t v fun s =>
  if 4100 < v ∨ dur < msU 10 then s else s.put .basecamp BC_STATUS_VBAT_OV 0

/-- Whether a monitored fault is a supply loss now (R353, R358): power-good inputs and rails count while their
step is on, TRACK at any time. -/
def State.faultCounts (s : State) (f : SupplyFault) : Bool :=
  match f with
  | .vbat => true
  | .pg k => s.bc.on k.val
  | .rail r => s.bc.on (railStep r.val)
  | .track => true
  | .order => s.pstate == PS_SEQ_UP

/-- SUPPLY_LOSS (R358): the fault has lasted as long as R358 and R352 ask. -/
def execSupplyLoss (t : Nat) (f : SupplyFault) (s : State) : Out := s.step' t fun s =>
  if !s.faultCounts f then s
  else
    let s : State := match f with
      | .pg k => if s.pActive then s.put .basecamp (BC_PG k.val) 0 else s
      | .rail r => if s.pActive then s.put .basecamp ⟨BC_RAIL_MON.off, r.val, 1⟩ 0 else s
      | .track => if s.pActive then s.put .basecamp BC_RAIL_MON_TRACK 0 else s
      | _ => s
    s.supplyLoss (supplyDetail f)

/-- SUPPLY_POWER_DOWN (R358, R403): 40 µs after t0 every domain is off and power-down runs. -/
def execSupplyPowerDown (t : Nat) (s : State) : Out := s.step' t fun s =>
  if !(s.bc.lossSupply || s.bc.lossTherm) ∨ s.now < s.bc.t0 + usU 40 ∨ !s.pActive then s
  else
    let therm := s.bc.lossTherm
    let s := s.coldReset.modBc fun b => { b with lossSupply := false, lossTherm := false, supplyWait := therm && b.lossSupply }
    (s.pstateTo (if therm then PS_THERM_OFF else PS_SUPPLY_OFF)).downLower

/-- Whether the supply allows a restart (R359): VBAT at or above 5.0 V for 10 ms, 100 ms after t0. -/
def State.supplyReady (s : State) (v dur : Nat) : Bool :=
  decide (500 ≤ v) && decide (msU 10 ≤ dur) && decide (s.bc.t0 + msU 100 ≤ s.now)

/-- SUPPLY_RESTART (R359, R364). VBAT has been at `v` or above for `dur`. -/
def execSupplyRestart (t v dur : Nat) (s : State) : Out := s.vbatStep t v fun s =>
  if s.pstate ≠ PS_SUPPLY_OFF then s
  else
    let n := s.get .basecamp BC_HIST_SUPPLY
    if !s.bc.lossVbat ∧ 3 ≤ n then s.lockout
    else if !s.supplyReady v dur ∨ s.bc.down.isSome then s
    else (if s.bc.lossVbat then s else s.put .basecamp BC_HIST_SUPPLY (n + 1)).goUp 0x04

/-- RESTART_COUNT_CLEAR (R359). -/
def execRestartCountClear (t : Nat) (s : State) : Out := s.step' t fun s =>
  if s.pstate = PS_RUN ∧ s.bc.runAt + secU 60 ≤ s.now then s.put .basecamp BC_HIST_SUPPLY 0 else s

/-- VBAT_LOSS (R371): VBAT below 3.0 V. -/
def execVbatLoss (t v : Nat) (s : State) : Out := s.vbatStep t v fun s => if v < 300 then s.vbatLost else s

/-! ### Meanings: wake and resets -/

/-- WAKE_PIN (R367): a pin takes a level; an active level or edge starts its filter. -/
def execWakePin (t : Nat) (i : Fin 4) (level : Bool) (s : State) : Out := s.step' t fun s =>
  let was := s.wakeActive i
  let s := s.modBc fun b => { b with wakePin := b.wakePin.set i level }
  if !s.wakeActive i then s.modBc fun b => { b with wakeFrom := b.wakeFrom.set i none }
  else if (s.pstate = PS_BIVOUAC ∨ s.pstate = PS_SEQ_DOWN) ∧ !was then
    s.modBc fun b => { b with wakeFrom := b.wakeFrom.set i (some s.now) }
  else s

/-- WAKE_QUALIFIED (R365, R367): a pin has stayed active for FILT. -/
def execWakeQualified (t : Nat) (i : Fin 4) (s : State) : Out := s.step' t fun s =>
  match s.bc.wakeFrom[i] with
  | none => s
  | some f =>
    if s.wakeEnabled i ∧ f + usU (10 * s.get .basecamp BC_WAKE_CFG_FILT) ≤ s.now ∧
        (s.pstate = PS_BIVOUAC ∨ s.pstate = PS_SEQ_DOWN ∨ (s.pstate = PS_SEQ_UP ∧ s.bc.wakeAt = s.now)) then
      (s.modBc fun b => { b with wakeFrom := b.wakeFrom.set i none }).wakeRecord i.val
    else s

/-- WAKE_TIMER (R367). -/
def execWakeTimer (t : Nat) (s : State) : Out := s.step' t fun s =>
  if s.flag .basecamp BC_WAKE_CFG_TIMER_EN ∧ s.bc.bivAt + secU (s.get .basecamp BC_WAKE_TIMER) ≤ s.now ∧
      !s.bc.timerDone ∧ (s.pstate = PS_BIVOUAC ∨ (s.pstate = PS_SEQ_UP ∧ s.bc.wakeAt = s.now)) then
    (s.modBc fun b => { b with timerDone := true }).wakeRecord 4
  else s

/-- PIN_RESET (R364, R371, R372, R494): `nRESET` has been low for `dur`. A pulse of 1–5 µs is not defined. -/
def execPinReset (t dur : Nat) (s : State) : Out :=
  if dur < usU 1 then s.step' t fun s => s
  else if dur < usU 5 then .fault .resetPulseUndefined
  else s.step' t fun s =>
    if s.pstate = PS_INIT ∨ s.bc.nrstLow then s
    else
      let biv := s.pstate = PS_BIVOUAC
      (s.coldReset.modBc fun b => { b with nrstLow := true, nrstWake := biv }).goUp 0x02

/-- NRESET_RISE (R367, R372): power-up goes on from step 1. -/
def execNresetRise (t : Nat) (s : State) : Out := s.step' t fun s =>
  if !s.bc.nrstLow then s
  else
    let wake := s.bc.nrstWake
    let s := s.modBc fun b => { b with nrstLow := false, nrstWake := false }
    let s := if wake then
        ((s.mark .basecamp BC_WAKE_SRC_NRESET).bump .basecamp BC_WAKE_CNT).raise .basecamp BC_EV_WAKE else s
    if s.pstate = PS_SEQ_UP then s.stepBegin else s

/-! ### Meanings: watchdog and MP -/

/-- WDOG_EXPIRY (R370): no service by the deadline. -/
def execWdogExpiry (t : Nat) (s : State) : Out := s.step' t fun s =>
  if s.flag .basecamp BC_STATUS_WDOG_RUN ∧ s.bc.wdogDue ≤ s.now then s.wdogExpire else s

/-- LOCKSTEP (R324, R332). -/
def execLockstep (t : Nat) (s : State) : Out := s.step' t fun s => if s.mpRuns then s.mpExpiry 0x02 else s

/-- MP_FAULT (R324, R332). `ext` says that the exception came inside the extension. -/
def execMpFault (t : Nat) (ext : Bool) (s : State) : Out := s.step' t fun s =>
  if s.mpRuns then ({ s with mp := { s.mp with extBlame := ext } }).mpExpiry 0x03 else s

/-- RUNTIME_UP (R332, R333). -/
def execRuntimeUp (t : Nat) (s : State) : Out := s.step' t fun s =>
  if s.mpRuns ∧ s.mp.restart ∧ s.sec.booted ∧ !s.flag .sec SEC_STATUS_RECOVERY then s.runtimeUp else s

/-- SHORT_WINDOW_CLOSE (R334). -/
def execShortWindowClose (t : Nat) (s : State) : Out := s.step' t fun s =>
  match s.mp.shortFrom with
  | some f => if f + secU 2 ≤ s.now then { s with mp := { s.mp with shortFrom := none, shortCnt := 0 } } else s
  | none => s

/-- LONG_WINDOW_CLOSE (R334). -/
def execLongWindowClose (t : Nat) (s : State) : Out := s.step' t fun s =>
  match s.mp.longFrom with
  | some f =>
    if f + secU 10 ≤ s.now then
      ({ s with mp := { s.mp with longFrom := none, longCnt := 0 } }).put .mbx MP_EXPIRIES 0
    else s
  | none => s

/-! ### Meanings: temperatures that reach Basecamp (R392, R393, R403–R405) -/

/-- SENSOR_SAMPLE (R393–R398, R403). `r` is the reading in 0.125 °C. -/
def execSensorSample (t : Nat) (i : Fin 24) (r : Int) (s : State) : Out := s.step' t fun s =>
  if !s.domOn PD_NOC then s
  else
    let (s, sh) := s.tsSample i r
    match sh with
    | some (sensor, v) => s.thermShut sensor v
    | none => s.pbaDue

/-- TSB_SAMPLE (R392, R403, R405). -/
def execTsbSample (t : Nat) (r : Int) (s : State) : Out := s.step' t fun s =>
  if s.pstate = PS_INIT then s
  else
    let s : State := { s with therm := { s.therm with tsb := { last := r, seen := true, bad := 0, at? := some s.now } } }
    if s.domOn PD_NOC then
      let s := s.put .therm THERM_TSB (2 ^ 31 + unsigned 16 r)
      if degC (s.get .therm THERM_THR_SHUT) ≤ r then s.thermShut 0x1F r else s
    else if s.bc.wakeHeld ∧ !s.tsbHot then s.wakeGo
    else s

/-- THERMAL_RESTART (R364, R365, R404). VBAT has been at `v` or above for `dur`. -/
def execThermalRestart (t v dur : Nat) (s : State) : Out := s.vbatStep t v fun s =>
  let since := s.therm.shutAt.getD 0
  if s.pstate ≠ PS_THERM_OFF ∨ s.tsbHot ∨ s.now < since + secU 2 ∨ s.bc.down.isSome ∨
      (s.bc.supplyWait ∧ !s.supplyReady v dur) then s
  else
    let hour := s.therm.restarts.filter fun x => decide (s.now < x + secU 3600)
    if 3 ≤ hour.length then
      ({ s with therm := { s.therm with restarts := hour } }).lockout
    else
      let s : State := { s with therm := { s.therm with restarts := hour ++ [s.now], report := true } }
      s.goUp 0x05

end Sys2Proof.Machine
end

