-- ==== Sys2Proof/Machine/Sched.lean ====
section
/-!
DEFINITION. SCHED (R285–R290, R294–R296): the entries, `SCHED_ACC`, what an occurrence leaves behind, and the
handover of strobes to Narpa ports. The dispatch of register actions lies in `Sys2Proof.Machine.SchedCmds`.
-/

namespace Sys2Proof.Machine

def SCHED_EV_EVENT : Nat := 0
def SCHED_EV_LATE : Nat := 1
def SCHED_EV_MISSED : Nat := 2
def SCHED_EV_TARGET_ERR : Nat := 3
/-- An occurrence at most this late, in ns, is on time (R287). -/
def onTimeNs : Nat := 2000

def schedCode (x : SchedState) : Nat :=
  match x with | .free => 0 | .armed => 1 | .handed => 2 | .done => 3 | .missed => 4 | .error => 5

def State.schedGet (s : State) (i : Nat) : SchedEntry := (cellGet s.sched i).getD {}

/-- The local instant at which an entry falls due: T, or the handover of a strobe `NP_LEAD` before it (R286). -/
def State.schedDueAt (s : State) (e : SchedEntry) : Int :=
  if e.action = 3 then (e.time : Int) - s.get .sched SCHED_CFG_NP_LEAD * 1000000 else e.time

/-- `SCHED_NEXT`, `SCHED_ARMED` and `BLK_STATE` (R294). A strobe that its port holds counts as armed (log entry 55). -/
def State.schedShow (s : State) : State :=
  let next := s.sched.foldl (fun (b : Option (Nat × Int)) c =>
    if c.2.st ≠ .armed then b
    else match b with
      | none => some (c.1, s.schedDueAt c.2)
      | some (_, T) => if s.schedDueAt c.2 < T then some (c.1, s.schedDueAt c.2) else b) none
  let n := (s.sched.filter fun c => c.2.st == .armed || c.2.st == .handed).length
  let s := s.put .sched SCHED_NEXT (match next with | some (i, _) => 2 ^ 8 + i | none => 0)
  let s := s.put .sched SCHED_ARMED n
  s.put .sched BLK_STATE (if !s.flag .sched BLK_CTRL_EN then 0 else if n = 0 then 1 else 2)

def State.schedSet (s : State) (i : Nat) (e : SchedEntry) : State :=
  ({ s with sched := cellPut {} s.sched i e }).schedShow

/-- Whether SCHED evaluates entries (R290). -/
def State.schedRuns (s : State) : Bool := s.domOn PD_NOC && s.flag .sched BLK_CTRL_EN && s.timeState != 0

/-! ### Occurrences (R287–R289) -/

/-- What an occurrence becomes (R287): executed, and whether it is flagged LATE; or dropped. -/
inductive Verdict | run (late : Bool) | drop
  deriving DecidableEq, Repr

/-- The policy of an entry on a lateness in ns (R287). -/
def SchedEntry.verdict (e : SchedEntry) (late : Int) : Verdict :=
  if late ≤ onTimeNs then .run false
  else match e.policy with
    | 0 => .run true
    | 2 => if late ≤ e.window * 1000 then .run true else .drop
    | _ => .drop

/-- A LATE or MISSED flag of entry `i` (R287). -/
def State.schedFlag (s : State) (i : Nat) (missed : Bool) : State :=
  let s := s.mark .sched ⟨(SCHED_FLAG_MAP (i / 32 % 8)).off, i % 32, 1⟩
  if missed then (s.bump .sched SCHED_MISSED_CNT).raise .sched SCHED_EV_MISSED
  else (s.bump .sched SCHED_LATE_CNT).raise .sched SCHED_EV_LATE

/-- An entry after an occurrence at local time `now` with a lateness (R287, R288): DONE or MISSED, or armed for its
next T that is not more than 2 µs past; and how many occurrences between were missed. -/
def SchedEntry.after (e : SchedEntry) (now lateness : Nat) (late missed : Bool) : SchedEntry × Nat :=
  let e := { e with late := late, missed := missed, lateness := min lateness 0xFFFFFFFF }
  let per := e.period * 1000
  if per = 0 then ({ e with st := if missed then .missed else .done }, 0)
  else
    let T := e.time + per
    let k := if now ≤ T + onTimeNs then 0 else ceilDiv (now - onTimeNs - T) per
    let e := { e with st := .armed, time := T + k * per }
    if k = 0 then (e, 0)
    else ({ e with late := false, missed := true, lateness := min (now - (e.time - per)) 0xFFFFFFFF }, k)

/-- Occurrences of a periodic entry that passed meanwhile are MISSED (R288). -/
def State.schedMissedRun (s : State) (i : Nat) : Nat → State
  | 0 => s
  | k + 1 => (s.schedFlag i true).schedMissedRun i k

/-- The end of an occurrence of entry `i`. -/
def State.schedOccurred (s : State) (i : Nat) (e : SchedEntry) (lateness : Nat) (late missed : Bool) : State :=
  let s := if missed then s.schedFlag i true else
    let s := s.bump .sched SCHED_EXEC_CNT
    if late then s.schedFlag i false else s
  let (e, k) := e.after s.localTime lateness late missed
  (s.count .sched SCHED_MISSED_CNT (k - 1)).schedMissedRun i (min k 1) |>.schedSet i e

/-- An entry goes to ERROR (R289). -/
def State.schedError (s : State) (i : Nat) (e : SchedEntry) : State :=
  let s := s.errHw .sched ST_STATE_REJECT 0x20
  ((s.bump .sched SCHED_TERR_CNT).raise .sched SCHED_EV_TARGET_ERR).schedSet i { e with st := .error }

/-! ### Strobes (R238, R286, R287, R290) -/

/-- Whether a Narpa port takes strobes of SCHED: RUN with LATCH_MODE 1, in force or with a LATCH_AT image sent for a pending
commit (R237, R289). -/
def State.npTakes (s : State) (q : NpIx) : Bool :=
  npDeclared s.pkg q && s.npState q == NP_RUN && (s.npStrobeMode q || s.np[q].await)

/-- The armed NP_STROBE entry with the lowest index that is due at its port and finds it free (R286, R287). -/
def State.strobeDue (s : State) : Option (Nat × SchedEntry) :=
  s.sched.find? fun c =>
    c.2.st == .armed && c.2.action == 3 &&
      decide (c.2.time ≤ s.localTime + s.get .sched SCHED_CFG_NP_LEAD * 1000000) &&
      (match finOf 104 (bitsOf c.2.target 0 7) with | some q => s.np[q].strobe.isNone | none => true)

/-- The handover of an entry (R286, R287, R289): the strobe goes to its port, is dropped as late, or finds no port. -/
def State.strobeHand (s : State) (i : Nat) (e : SchedEntry) : State :=
  match finOf 104 (bitsOf e.target 0 7) with
  | none => s.schedError i e
  | some q =>
    if !s.npTakes q then s.schedError i e
    else
      let S : Int := (e.time : Int) - toNs (2 * (s.npN q + 1) * s.npT q)
      let late : Int := (s.localTime : Int) - S
      match e.verdict late with
      | .drop => s.schedOccurred i e late.toNat false true
      | .run _ => (s.npSchedule q e.time (some i)).schedSet i { e with st := .handed }

/-- STROBE_HANDOVER (R286, R287). -/
def execStrobeHandover (t : Nat) (s : State) : Out := s.step' t fun s =>
  if !s.schedRuns then s
  else match s.strobeDue with
    | none => s
    | some (i, e) => s.strobeHand i e

/-- The mark of a port's strobe has started (R287): the entry it came from is done, late when the mark did not start
at S. -/
def State.schedMarked (s : State) (b : NpStrobe) (late : Bool) : State :=
  match b.entry with
  | none => s
  | some i =>
    let e := s.schedGet i
    if e.st ≠ .handed then s else s.schedOccurred i e ((s.localTime : Int) - b.mark).toNat late false

/-! ### `SCHED_ACC` (R285) -/

/-- The entry that the staging registers hold. -/
def State.schedStaged (s : State) (path : Path) : SchedEntry :=
  let ctl := s.get .sched SCHED_E_CTL
  { st := .armed
    time := (bitsOf ctl 0 16 * 2 ^ 32 + s.get .sched SCHED_E_SEC) * 1000000000 + bitsOf (s.get .sched SCHED_E_NS) 0 30
    action := bitsOf ctl 28 4, policy := bitsOf ctl 26 2
    target := s.get .sched SCHED_E_TARGET, value := s.get .sched SCHED_E_VALUE
    window := bitsOf (s.get .sched SCHED_E_WINDOW) 0 24, period := bitsOf (s.get .sched SCHED_E_PERIOD) 0 28
    path := path }

/-- TARGET has the form that the action requires (R286). -/
def State.schedTargetOk (s : State) (action target : Nat) : Bool :=
  let page := target / 0x1000
  let barred := page == 0x40008 || page == 0x40009 || page == 0x400A0
  match action with
  | 1 => decide (0x40001 ≤ page) && decide (page ≤ 0x400A0) && !barred && decide (0x40 ≤ target % 0x1000) &&
      decide (target % 0x1000 < 0x800) && target % 4 == 0
  | 2 => target % 0x1000 == 0 && decide (0x40001 ≤ page) && !barred &&
      (match Page.ofAddr target with | some p => p.declared s.pkg | none => false)
  | 3 => decide (bitsOf target 0 7 < 104)
  | _ => true

/-- The detail of a rejected WRITE, none when it is accepted (R285). -/
def State.schedFail (s : State) (e : SchedEntry) : Option Nat :=
  if e.policy = 3 ∨ 1000000000 ≤ bitsOf (s.get .sched SCHED_E_NS) 0 30 ∨
      (e.period ≠ 0 ∧ (e.period < 10 ∨ 100000000 < e.period)) ∨
      (e.policy = 2 ∧ (e.window = 0 ∨ 16000000 < e.window)) then some 0x10
  else if 4 < e.action then some 0x11
  else if !s.schedTargetOk e.action e.target then some 0x12
  else none

/-- A handed strobe whose mark has not started is withdrawn from its port (R285). -/
def State.schedWithdraw (s : State) (i : Nat) : State :=
  match finOf 104 (bitsOf (s.schedGet i).target 0 7) with
  | none => s
  | some q =>
    match s.np[q].strobe with
    | some b => if b.entry = some i then s.npWithdraw q else s
    | none => s

/-- The strobe that entry `i` handed over stays at its port without its entry. -/
def State.schedLetGo (s : State) (i : Nat) : State :=
  match finOf 104 (bitsOf (s.schedGet i).target 0 7) with
  | none => s
  | some q => s.modNp q fun o => { o with strobe := o.strobe.map fun b => if b.entry = some i then { b with entry := none } else b }

/-- An entry is stored (R285). One that falls due on this very tick still executes; a strobe handed over on it stays at its port. -/
def State.schedStore (s : State) (i : Nat) (e : SchedEntry) : State :=
  let old := s.schedGet i
  let due := s.schedRuns && decide (s.schedDueAt old ≤ s.localTime) && decide ((s.localTime : Int) < s.schedDueAt old + 4)
  let s := if old.st = .handed then (if due then s.schedLetGo i else s.schedWithdraw i)
    else if old.st = .armed ∧ due then
      (if old.action ≠ 3 then { s with schedOld := s.schedOld ++ [(i, old)] }
      else match finOf 104 (bitsOf old.target 0 7) with
        | some q => if s.np[q].strobe.isNone then (s.strobeHand i old).schedLetGo i else s
        | none => s.strobeHand i old)
    else s
  s.schedSet i e

/-- An operation starts: BUSY reads 1 for a free time of at most 64 PCLK cycles, at 1.0 GHz while the chip is throttled
(R285). -/
def State.schedTake (s : State) : State :=
  { s.tookFree with schedBusy :=
      s.now + s.freeWord.toNat % ((if s.flag .therm THERM_STATUS_PCLK_LOW then nsU 64 else 682) + 1) }

/-- `SCHED_ACC.BUSY` (R285). -/
def State.schedIsBusy (s : State) : Bool := decide (s.now < s.schedBusy)

/-- What a read of a computed SCHED register answers (R285). -/
def State.schedRead (s : State) (off : Nat) : Option Nat :=
  if off = SCHED_ACC.off then some (withBits (s.get .sched SCHED_ACC) 31 1 (ofBool s.schedIsBusy)) else none

/-- A write of `SCHED_ACC` (R285): a GO while BUSY is refused. -/
def State.schedAcc (s : State) (path : Path) (v : Nat) : State :=
  if bitsOf v 31 1 = 1 ∧ s.schedIsBusy then s.err .sched (pathCode path) SCHED_ACC.off ST_BUSY 0x13 else
  let s := s.put .sched SCHED_ACC (bitsOf v 28 3 * 2 ^ 28 + bitsOf v 0 8)
  if bitsOf v 31 1 = 0 then s
  else
    let i := bitsOf v 0 8
    match bitsOf v 28 3 with
    | 1 =>
      let e := s.schedStaged path
      match s.schedFail e with
      | some d => s.err .sched (pathCode path) SCHED_ACC.off ST_BAD_PARAM d
      | none => (s.schedStore i e).schedTake
    | 2 =>
      let e := s.schedGet i
      let sec := e.time / 1000000000
      let s := (s.put .sched SCHED_E_NS (e.time % 1000000000)).put .sched SCHED_E_SEC (sec % 2 ^ 32)
      let s := s.put .sched SCHED_E_CTL (e.action * 2 ^ 28 + e.policy * 2 ^ 26 + sec / 2 ^ 32 % 2 ^ 16)
      let s := (s.put .sched SCHED_E_TARGET e.target).put .sched SCHED_E_VALUE e.value
      let s := (s.put .sched SCHED_E_WINDOW e.window).put .sched SCHED_E_PERIOD e.period
      let s := s.put .sched SCHED_E_STAT
        (pathCode e.path * 2 ^ 8 + ofBool e.missed * 2 ^ 4 + ofBool e.late * 2 ^ 3 + schedCode e.st)
      (s.put .sched SCHED_E_LATENESS e.lateness).schedTake
    | 3 => ((s.schedWithdraw i).schedSet i {}).schedTake
    | _ => s.err .sched (pathCode path) SCHED_ACC.off ST_BAD_OPCODE 0x14

/-- Registers of SCHED with rules of their own. -/
def State.schedWrite (s : State) (path : Path) (off v : Nat) : State :=
  if off = SCHED_ACC.off then s.schedAcc path v
  else if off = SCHED_CFG_NP_LEAD.off then (s.plainWrite path .sched off v).schedShow
  else s.plainWrite path .sched off v

/-- SRST of SCHED (R290). -/
def State.schedSrst (s : State) : State :=
  let s := (List.range 256).foldl (fun (s : State) i => if (s.schedGet i).st = .handed then s.schedWithdraw i else s) s
  ({ s with sched := [], schedOld := [] }).schedShow

end Sys2Proof.Machine
end

