-- ==== Sys2Proof/Machine/NarpaCmds.lean ====
section
/-!
DEFINITION. The commands of the Narpa ports (R231, R236–R240, R243, R247) and of the keeper (R244–R246, R368,
R369), and the registers of the NP pages with rules of their own.
-/

namespace Sys2Proof.Machine

/-! ### Registers -/

/-- A write of `NP_CMD` (R238, R243). -/
def State.npCmd (s : State) (path : Path) (q : NpIx) (off v : Nat) : State :=
  let p := npPage q
  let st := s.npState q
  let refuse := s.err p (pathCode path) off ST_STATE_REJECT 0x15
  match bitsOf v 0 4 with
  | 1 => if st = NP_RUN ∨ st = NP_ENUM_FAIL then (s.modNp q fun o => { o with enumWant := true }).npSettle q else refuse
  | 2 =>
    if st = NP_RUN then
      s.npSchedule q ((s.localTime : Int) + toNs (2 * (s.npN q + 1) * s.npT q) + 4000) none
    else refuse
  | _ => s.err p (pathCode path) off ST_BAD_OPCODE 0x16

/-- A write of `NP_CFGACC` (R236): GO queues an access; the port serves it in its own frame. -/
def State.npCfgAcc (s : State) (path : Path) (q : NpIx) (off v : Nat) : State :=
  let p := npPage q
  let busy := s.flag p (NP_CFGACC_GO (npLane q))
  if busy ∧ bitsOf v 31 1 = 1 then s.err p (pathCode path) off ST_BUSY 0x17
  else s.setReg (p.base + off) (BitVec.ofNat 32 (withBits v 31 1 (if busy then 1 else bitsOf v 31 1)))

/-- Byte address in the keeper store, and the step to the next word (R244, R247). -/
def State.npkAddr (s : State) : Nat := s.get (.np 0) NPK_ADDR / 4 * 4 % 0x4000
def State.npkNext (s : State) : State := s.put (.np 0) NPK_ADDR ((s.npkAddr + 4) % 0x4000)

/-- Registers of an NP page with rules of their own. -/
def State.npWrite (s : State) (path : Path) (g : Fin 13) (off v : Nat) : State :=
  let p := Page.np g
  if g.val = 0 ∧ off = NPK_DATA.off then
    ({ s with keeper := { s.keeper with store := memSetLE s.keeper.store s.npkAddr 4 v } }).npkNext
  else if g.val = 0 ∧ off = NPK_CFG.off then (s.plainWrite path p off v).keeperPorts
  else if g.val = 0 ∧ 0xA0 ≤ off ∧ off < 0xC0 ∧ 64 < bitsOf v 16 7 then s.err p (pathCode path) off ST_LEN_ERR 0x18
  else if 0x100 ≤ off ∧ off < 0x500 then
    match npPort g ((off - 0x100) / 0x80) with
    | none => s
    | some q =>
      match (off - 0x100) % 0x80 with
      | 0x28 => s.npCmd path q off v
      | 0x2C => s.npCfgAcc path q off v
      | _ => s.plainWrite path p off v
  else s.plainWrite path p off v

/-- What a read of a computed NP register answers (R247). -/
def State.npShow (s : State) (g : Fin 13) (off : Nat) : Option Nat :=
  if g.val = 0 ∧ off = NPK_DATA.off then some (memLE s.keeper.store s.npkAddr 4)
  else if 0x100 ≤ off ∧ off < 0x500 ∧ (off - 0x100) % 0x80 = 0x34 then
    match npPort g ((off - 0x100) / 0x80) with
    | none => none
    | some q => some (withBits (s.reg ((Page.np g).base + off)).toNat 4 1 (ofBool (s.npBusy q)))
  else none

/-! ### Ports -/

/-- A port as it is at this instant: return frames that did not come are given up, and what waited for a frame in flight is done. -/
def State.npReady (s : State) (q : NpIx) : State := (s.npExpire q).npSettle q

/-- NP_FRAME (R231, R235–R237, R243): the port starts the next frame it owes, in the order of R236. -/
def execNpFrame (t : Nat) (q : Fin 104) (s : State) : Out := s.step' t fun s =>
  if !s.domOn (npBank q) then s
  else
    let s := s.npReady q
    let p := npPage q
    let l := npLane q
    if s.npState q = NP_ENUM_ST then (if s.flag p (NP_STATUS_PBA_WAIT l) then s else s.npEnumFrame q)
    else if s.npState q ≠ NP_RUN ∨ s.npTear q ∨ s.np[q].enumWant then s
    else if s.flag p (NP_CFGACC_GO l) ∧ !(s.np[q].rets.any fun r => r.kind == .config) then s.npCfgFrame q
    else if s.npImageDue q then s.npImageFrame q
    else s

/-- NP_LATCH (R228, R237). -/
def execNpLatch (t : Nat) (q : Fin 104) (s : State) : Out := s.step' t fun s => s.npLatch q

/-- A return frame comes in (R227, R231, R239, R240): unused slices, status words, and whether it could be parsed. -/
def State.npTakeReturn (s : State) (q : NpIx) (r : NpRet) (rest : List NpRet) (got : Nat × List Nat × Bool) : State :=
  let s := s.modNp q fun o => { o with rets := rest, silent := 0 }
  let s := if r.kind = .count ∨ r.kind = .position then s.npEnumReturn q r.kind r.nodes got.1 got.2.1 got.2.2
    else s.npReturn q r.kind r.nodes got.1 got.2.1 got.2.2
  s.npSettle q

/-- NP_RETURN_FRAME (R221, R225): the highs at `NPn_RI` are received as the return of the oldest frame that still awaits one, once
the line has stayed low for the 1.5 T that end a frame. -/
def execNpReturnFrame (t : Nat) (q : Fin 104) (mark : Nat) (cells : List (Nat × Nat)) (quiet : Nat) (s : State) : Out :=
  s.step' t fun s =>
    let s := s.npReady q
    match s.np[q].rets with
    | [] => s
    | r :: rest =>
      if 2 * quiet < 3 * r.cell then s
      else s.npTakeReturn q r rest (npReturned r.kind r.nodes s.np[q].tx (npReceive r.cell mark cells))

/-- CHAIN_OPEN (R240): three consecutive frames without a return frame. -/
def execChainOpen (t : Nat) (q : Fin 104) (s : State) : Out := s.step' t fun s =>
  let p := npPage q
  let l := npLane q
  let s := s.npReady q
  if s.np[q].silent < 3 ∨ s.npState q ≠ NP_RUN ∨ s.flag p (NP_STATUS_CHAIN_OPEN l) then s
  else ((s.put p (NP_STATUS_CHAIN_OPEN l) 1).npShowGroup (npGroup q)).raise p (8 + l)

/-- Whether a strobe mark sent now is late (R238): the line was busy at its instant, or it is past the slack. -/
def State.strobeLate (s : State) (q : NpIx) (mark : Int) : Bool :=
  let now : Int := s.localTime
  decide (mark < now - toNs (s.now - s.np[q].free)) || decide ((onTimeNs : Int) < now - mark)

/-- The tick on which the mark of a strobe starts (R229, R238): that of S, of the instant from which the line is free, or of the
handover, whichever is last. -/
def State.strobeTick (s : State) (q : NpIx) (b : NpStrobe) : Nat :=
  let S : Int := (s.now : Int) + 16 * (b.mark - (s.localTime : Int))
  tickUp (max S.toNat (max s.np[q].free b.since))

/-- A handed strobe whose S a step of the clock has passed counts as a late handover (R290): the policy of its entry may drop it. -/
def State.strobeDropped (s : State) (b : NpStrobe) : Option (Nat × SchedEntry × Nat) :=
  match b.entry with
  | none => none
  | some i =>
    let late := (s.localTime : Int) - b.mark
    let e := s.schedGet i
    if b.jumped ∧ e.st = .handed then
      (match e.verdict late with | .drop => some (i, e, late.toNat) | .run _ => none)
    else none

/-- NP_STROBE_MARK (R229, R236–R238, R287, R290). -/
def execNpStrobeMark (t : Nat) (q : Fin 104) (s : State) : Out := s.step' t fun s =>
  match s.np[q].strobe with
  | none => s
  | some b =>
    match s.strobeDropped b with
    | some (i, e, late) => (s.npWithdraw q).schedOccurred i e late false true
    | none =>
    if !s.onTick (s.strobeTick q b) ∨ (s.npState q ≠ NP_RUN ∧ s.npState q ≠ NP_ENUM_ST) then s
    else
      let late := s.strobeLate q b.mark
      ((s.npMark q late).schedMarked b late).npSettle q

/-! ### The keeper (R244–R246, R368, R369) -/

/-- A number of keeper cells, 62.5 ps: 16 or 8 KCLK periods each (R368). -/
def keeperCells (rate n : Nat) : Nat := n * 15625 / (rate + 1)

/-- Whether the port engine has the port (R369). -/
def State.keeperBarred (s : State) (p : Fin 8) : Bool :=
  match finOf 104 p.val with
  | some q => s.npState q == NP_ENUM_ST || s.npState q == NP_RUN
  | none => true

def State.modKeeper (s : State) (f : Keeper → Keeper) : State := { s with keeper := f s.keeper }

/-- Whether the line of a port carries a keeper frame. -/
def State.keeperLine (s : State) (p : Nat) : Bool := s.keeper.line.any fun e => e.1 == p

/-- KEEPER_DONE when the last wake frame has latched (R374). -/
def State.keeperDone (s : State) : State :=
  if s.keeper.latch.isEmpty then s
  else
    let s' := s.modKeeper fun k => { k with latch := k.latch.filter fun x => decide (s.now < x) }
    if s'.keeper.latch.isEmpty ∧ s'.keeper.play.isEmpty then s'.raise .basecamp BC_EV_KEEPER_DONE else s'

/-- The cells of a port's wake frame, from the keeper's store (R244): LEN of them from byte p × 0x800, MSB first. -/
def State.wakeCells (s : State) (p len : Nat) : List Bool :=
  (List.range len).map fun i => bitOf (memByte s.keeper.store (p * 0x800 + i / 8)).toNat (7 - i % 8)

/-- The wake frame of a port goes out: the cells of the store; its line is busy to the end of the frame, its nodes latch later, and it is counted (R245,
R369). -/
def State.keeperSend (s : State) (p : Fin 8) : State :=
  let rate := s.get (.np 0) (NPK_PORT_RATE p.val)
  let len := s.get (.np 0) (NPK_PORT_LEN p.val)
  let n := s.get (.np 0) ⟨(NPK_PORT p.val).off, 16, 7⟩
  let fin := s.now + keeperCells rate (len + 3)
  let s := s.modKeeper fun k => { k with
    sent := k.sent.filter (fun e => e.1 != p.val) ++ [(p.val, s.now, keeperCells rate 1, s.wakeCells p.val len)]
    line := k.line ++ [(p.val, fin, true)], latch := k.latch ++ [s.now + keeperCells rate (len + 11 + (n - 1) * 50)] }
  s.put .basecamp BC_KEEPER_SENT (s.get .basecamp BC_KEEPER_SENT + 1)

/-- The port at the front of the wake frames to play takes its slot; the first slot fixes the others (R245). -/
def State.keeperTake (s : State) (p : Fin 8) (rest : List Nat) : State :=
  s.modKeeper fun k => { k with play := rest, first := some (k.first.getD (s.now - usU (50 * p.val))) }

/-- KEEPER_WAKE_FRAME (R245, R369): the lowest port whose frame is to be played, in its slot of 50 µs. -/
def execKeeperWakeFrame (t : Nat) (p : Fin 8) (s : State) : Out := s.step' t fun s =>
  match s.keeper.play with
  | [] => s
  | p0 :: rest =>
    let due := match s.keeper.first with
      | none => true
      | some f => decide (f + usU (50 * p.val) ≤ s.now)
    if p0 ≠ p.val ∨ !due ∨ s.keeperLine p.val then s
    else if s.keeperBarred p then (s.keeperTake p rest).keeperDone
    else (s.keeperTake p rest).keeperSend p

/-- Whether the keeper sends keepalive strobes on a port now (R246, R369). -/
def State.aliveNow (s : State) (p : Fin 8) : Bool :=
  let st := s.pstate
  let own := match finOf 104 p.val with
    | some q => s.npState q == NP_KEEPER
    | none => false
  bitOf (s.get (.np 0) NPK_CFG_KEEPALIVE) p.val && !s.keeperBarred p &&
    (st == PS_BIVOUAC || st == PS_THERM_OFF || (st == PS_SUPPLY_OFF && decide (450 ≤ s.get .basecamp BC_VBAT_VBAT)) ||
      ((st == PS_RUN || st == PS_STANDBY) && own))

/-- KEEPALIVE_STROBE (R246, R369): once per second; its mark lasts two BCLK periods. -/
def execKeepaliveStrobe (t : Nat) (p : Fin 8) (s : State) : Out := s.step' t fun s =>
  if s.now < s.keeper.alive[p] ∨ !s.aliveNow p ∨ s.keeperLine p.val then s
  else s.modKeeper fun k => { k with
    alive := k.alive.set p (s.now + secU 1), line := k.line ++ [(p.val, s.now + 31250, false)] }

/-- KEEPER_FRAME_END (R243, R245): the line is free, a port that waits for it requests its grant, and the nodes reach
their latch. -/
def execKeeperFrameEnd (t : Nat) (p : Fin 8) (s : State) : Out := s.step' t fun s =>
  let ended := s.keeper.line.any fun e => e.1 == p.val && decide (e.2.1 ≤ s.now)
  let s := s.modKeeper fun k => { k with line := k.line.filter fun e => !(e.1 == p.val && decide (e.2.1 ≤ s.now)) }
  let s := match finOf 104 p.val with
    | some q =>
      if ended ∧ s.npState q = NP_ENUM_ST ∧ s.flag (npPage q) (NP_STATUS_PBA_WAIT (npLane q)) then
        s.pbaRequest (ID_NP (npGroup q).val) (npLane q)
      else s
    | none => s
  s.keeperDone

end Sys2Proof.Machine
end

