-- ==== Sys2Proof/Machine/Bus.lean ====
section
/-!
DEFINITION. The bus (R31–R59): what a register shows, the causes of `BUS_ERR` in their order, the writes of
the common header (enable, soft reset, freeze, lock, commit, error and interrupt registers), the dispatch of
block registers to their chapters, the memories, and the accesses of the four paths.
-/

namespace Sys2Proof.Machine

/-! ### What a register shows -/

/-- Event bits of a page (R95 to R463); the other bits of [27:0] are reserved. -/
def Page.events : Page → Nat
  | .sys => 0
  | .basecamp => 0x1FF | .pba => 0x3F | .therm => 0x3FF | .cal => 0x7F | .nvm => 0x3F | .mbx => 0x1FF
  | .time => 0x7FF | .sched => 0xF | .eng _ => 0xFF | .grd _ => 0x3F | .ltn _ => 0xFFF | .scn _ => 0xFF
  | .sxl _ => 0x3FF
  | .comp i => if i.val = 0 then 0x1FFF else 0
  | .dmc i => if i.val = 0 then 0xFFF else 0
  | .np _ => 0x7FFFFFF | .mx _ => 0x3FFFFFF | .eth _ => 0x1FF | .can _ => 0x1F | .stor => 0x1F | .sec => 0xF

/-- The bits that `IRQ_STAT`, `IRQ_EN` and `IRQ_SET` of a page hold (R34). -/
def Page.irqMask (p : Page) : Nat := 0xF0000000 + p.events

/-- A page's interrupt line (R56). -/
def State.lineActive (s : State) (p : Page) : Bool :=
  (s.get p IRQ_STAT &&& s.get p IRQ_EN) != 0 &&
    (match p with
    | .nvm => s.domOn PD_NVM
    | .sec => s.domOn PD_SEC
    | _ => true)

/-- `SYS_IRQ_PEND` of word 0 or 1 (R57). -/
def State.irqPend (s : State) (w : Nat) : Nat :=
  (allPages.filter fun p => p.declared s.pkg && p.source / 32 == w && s.lineActive p).foldl
    (fun m p => m ||| 2 ^ (p.source % 32)) 0

/-- The MP interrupt is active (R58). -/
def State.mpIrq (s : State) : Bool :=
  ((s.irqPend 0 &&& s.get .sys SYS_IRQ_MP_EN0) != 0) || ((s.irqPend 1 &&& s.get .sys SYS_IRQ_MP_EN1) != 0)

/-- `nIRQ_HOST` is driven low (R58). -/
def State.hostIrqLow (s : State) : Bool :=
  s.domOn PD_NOC &&
    (((s.irqPend 0 &&& s.get .sys SYS_IRQ_HOST_EN0) != 0) || ((s.irqPend 1 &&& s.get .sys SYS_IRQ_HOST_EN1) != 0))

/-- What PBA shows beside its cells (R389): the head of the queue and SLOT_BUSY, and the next opportunity. -/
def State.pbaRead (s : State) (off : Nat) : Option Nat :=
  if off = PBA_STATUS.off then
    let v := withBits (s.get .pba PBA_STATUS) 0 1 (ofBool (decide (s.now < s.pba.nextAt)))
    some (withBits v 16 8 (match firstBy s.reqBefore s.pba.queue with | some q => q.id | none => 0))
  else if off = PBA_NEXT_NS.off then some ((s.localNs + toNs (s.pba.nextAt - s.now)) % 1000000000)
  else none

/-- Registers whose value is not a cell. -/
def State.hookRead (s : State) (path : Path) (p : Page) (off : Nat) : Option Nat :=
  match p with
  | .sys =>
    if 0x100 ≤ off then some (capWord s.pkg off)
    else if off = SYS_IRQ_PEND0.off then some (s.irqPend 0)
    else if off = SYS_IRQ_PEND1.off then some (s.irqPend 1)
    else none
  | .basecamp => s.bcShow off
  | .pba => s.pbaRead off
  | .mbx => s.mbxShow path off
  | .time => s.timeShow path off
  | .sched => s.schedRead off
  | .ltn x => s.ltnShow x off
  | .grd n => s.grdShow n off
  | .sxl n => s.sxlShow n off
  | .scn k => s.scnShow k off
  | .dmc i => s.dmcShow i off
  | .np g => s.npShow g off
  | .mx g => s.mxRead g off
  | .eth n => s.ethShow n off
  | .sec => s.secShow off
  | _ => none

/-- The live value of the register at page offset `off`, below 0x800. -/
def State.regLive (s : State) (path : Path) (p : Page) (off : Nat) : Nat :=
  if off = BLK_ID.off then p.typeId * 0x10000 + p.inst * 0x100 + 1
  else if off = BLK_FEAT.off then p.blkFeat s.pkg * 0x10000 + p.capFlags
  else if off = IRQ_RAW.off then s.irqRaw p
  else if off = COMMIT.off then (s.reg (p.group.home.base + off)).toNat
  else match s.hookRead path p off with
    | some v => v
    | none => (s.reg (p.base + off)).toNat

/-- Registers with a copy per path (R273, R350). -/
def perPath (p : Page) (off : Nat) : Bool :=
  match p with
  | .mbx => off == MBX_PUSH_STAT.off || off == MBX_RSP_STAT.off || decide (0x100 ≤ off ∧ off < 0x180)
  | .time => off == TIME_NOW_SEC.off || off == TIME_NOW_HI.off
  | _ => false

/-- Where a held value is kept: one place per path for registers with a copy per path. -/
def heldKey (path : Path) (p : Page) (off : Nat) : Nat :=
  p.base + off + (if perPath p off then (pathCode path + 1) * 2 ^ 32 else 0)

/-- What a read of the register at page offset `off` below 0x800 returns, FREEZE included (R37). -/
def State.regRead (s : State) (path : Path) (p : Page) (off : Nat) : Nat :=
  let live := s.regLive path p off
  if s.frozen p then
    let k := heldKey path p off
    mixBits (heldMask p off) ((cellGet s.held k).getD (resetAt k)).toNat live
  else live

/-- The bits of the register at `off` that are staged (R9). -/
def Page.rwsMask (p : Page) (off : Nat) : Nat := match p.row? off with | some r => r.rws | none => 0

/-- A value in effect as the active view shows it: the scanner trims are added (R41, R415). -/
def State.inEffect (s : State) (p : Page) (x : Nat) : Nat :=
  match p with
  | .scn k =>
    if x = SCN_PHASE_OFS.off then unsigned 16 (s.phaseOfs k false) * 2 ^ 16 + unsigned 16 (s.phaseOfs k true)
    else (s.infReg (p.base + x)).toNat
  | _ => (s.infReg (p.base + x)).toNat

/-- What a read of a page returns, the active view included (R32, R41). -/
def State.pageRead (s : State) (path : Path) (p : Page) (off : Nat) : Nat :=
  if off < 0x800 then s.regRead path p off
  else
    let x := off - 0x800
    mixBits (p.rwsMask x) (s.inEffect p x) (s.regRead path p x)

/-- Side effects of a register read (R119, R164, R218, R244, R247, R268, R273, R282, R291, R406). -/
def State.readSide (s : State) (path : Path) (p : Page) (off : Nat) : State :=
  match p with
  | .eng _ => if off = ENG_FSTART_NS.off then s.latchStamp p ENG_FSTART_NS else s
  | .scn _ => if off = SCN_FSTART_NS.off then s.latchStamp p SCN_FSTART_NS else s
  | .ltn _ => if off = LTN_ILK_TIME_NS.off then s.latchStamp p LTN_ILK_TIME_NS else s
  | .therm => if off = THERM_SHUT_NS.off then s.latchStamp p THERM_SHUT_NS else s
  | .np g =>
    let l := (off - 0x100) / 0x80
    if 0x100 ≤ off ∧ l < 8 ∧ off = (NP_LATCH_NS l).off then s.latchStamp p (NP_LATCH_NS l)
    else if g.val = 0 ∧ off = NPK_DATA.off then s.npkNext
    else s
  | .mx _ =>
    let l := (off - 0x100) / 0x80
    if 0x100 ≤ off ∧ l < 8 ∧ off = (MX_FSTART_NS l).off then s.latchStamp p (MX_FSTART_NS l) else s
  | .time =>
    if off = TIME_NOW_NS.off then s.latchNow path
    else if off = TIME_PPSIN_NS.off then s.latchStamp p TIME_PPSIN_NS
    else if 0x100 ≤ off ∧ off < 0x140 ∧ off % 0x10 = 0xC then
      (match finOf 4 ((off - 0x100) / 0x10) with | some q => s.txqPop q | none => s)
    else s
  | _ => s

/-! ### The causes of `BUS_ERR` (R38) -/

/-- What an address selects (R31). -/
inductive Place
  | rom | tcm | fsram (off : Nat) | dram | page (p : Page) (off : Nat) | nowhere
  deriving DecidableEq, Repr

def placeOf (a : Nat) : Place :=
  if a < 0x20000 then .rom
  else if 0x100000 ≤ a ∧ a < 0x300000 then .tcm
  else if 0x20000000 ≤ a ∧ a < 0x25000000 then .fsram (a - 0x20000000)
  else if 0x80000000 ≤ a ∧ a < 0x100000000 then .dram
  else match Page.ofAddr a with
    | some p => .page p (a % 0x1000)
    | none => .nowhere

/-- HSPI or ICP. -/
def hostPath : Path → Bool
  | .hspi => true | .icp => true | _ => false

/-- SEC refuses a write (R458). -/
def State.secRefuses (s : State) (path : Path) (pl : Place) : Bool :=
  hostPath path &&
    (match pl with
    | .page p _ =>
      (match p with
      | .sec => true
      | _ =>
        let w := p.source / 32
        !bitOf (s.get .sec (if path = .hspi then SEC_HSPI_WR w else SEC_ICP_WR w)) (p.source % 32))
    | .fsram _ => !bitOf (s.get .sec SEC_HOST_MEM) (if path = .hspi then 0 else 2)
    | .dram => !bitOf (s.get .sec SEC_HOST_MEM) (if path = .hspi then 1 else 3)
    | _ => false)

/-- The front buffer of an engine or scanner in LIT or HOLD (R22). -/
def State.frontBuffer (s : State) (off : Nat) : Bool :=
  ((List.finRange 4).any fun n => s.engFront n off) || ((List.finRange 2).any fun k => s.scnFront k off)

/-- The cause of the failure of an access, none when it proceeds (R38), in the order of that list. -/
def State.busCause (s : State) (path : Path) (a width : Nat) (write : Bool) : Option Nat :=
  let pl := placeOf a
  if width ≠ 4 then some 0x01
  else if a % 4 ≠ 0 then some 0x02
  else match pl with
    | .nowhere => some 0x03
    | .rom => if hostPath path then some 0x05 else if write then some 0x06 else none
    | .tcm => if hostPath path then some 0x05 else none
    | .fsram off =>
      if write ∧ s.secRefuses path pl then some 0x0A
      else if !s.domOn (PD_FSRAM (off / quarterSize)) ∨ (write ∧ s.frontBuffer off) then some 0x08
      else none
    | .dram =>
      if write ∧ s.secRefuses path pl then some 0x0A
      else if s.dmcRunning then none else some 0x07
    | .page p off =>
      if !p.declared s.pkg then some 0x04
      else if write ∧ s.secRefuses path pl then some 0x0A
      else if (p = .nvm ∧ !s.domOn PD_NVM) ∨ (p = .sec ∧ !s.domOn PD_SEC) then some 0x07
      else if write ∧ off < 0x800 ∧ p.rwsMask off ≠ 0 ∧ s.commitPending p.group then some 0x09
      else none

/-- A failing access (R38, R40): what it records beside `SYS_BERR_*` (R48, R458). -/
def State.busFail (s : State) (path : Path) (a cause : Nat) : State :=
  let s := if cause = 0x0A then (s.bump .sec SEC_BLOCK_CNT).raise .sec 3
    else if cause = 0x09 then
      (match placeOf a with
      | .page p off => s.err p (pathCode path) off ST_BUSY 0x02
      | _ => s)
    else s
  s.busErr path a cause

/-! ### The common header (R34–R37, R49) -/

/-- A state in which the block emits light or drives an output (R36). -/
def State.emits (s : State) (p : Page) : Bool :=
  match p with
  | .eng n => s.engState n != E_OFF
  | .grd _ => s.get p BLK_STATE != GRD_IDLE
  | .ltn x => s.ltnState x == LTN_RUN || s.ltnState x == LTN_FALLBACK_ST
  | .sxl _ => s.get p BLK_STATE != SXL_DOWN
  | .scn k => s.scnState k != E_OFF && s.scnState k != E_FAULT
  | .np g => (npPorts g).any fun q => s.npState q == NP_RUN
  | .mx g => (mxPorts g).any fun q => s.mxState q == MX_RUN
  | .dmc _ => s.dmcLive
  | _ => false

/-- `BLK_CTRL.EN` takes a value, with what the block's chapter says of a change. On pages 1 to 7 of the compositor the bit
can be written and does nothing (log entry 24). -/
def State.enWrite (s : State) (p : Page) (en : Bool) : State :=
  if s.flag p BLK_CTRL_EN = en then s
  else
    let s := s.setFlag p BLK_CTRL_EN en
    match p with
    | .comp i => if i.val = 0 then s.compEnable en else s
    | .ltn x => s.ltnEnable x en
    | .cal => s.calEnable en
    | .eth _ => s.netRequest
    | .can _ => s.netRequest
    | .stor => s.storRequest
    | .pba => s.pbaShow
    | .sched => s.schedShow
    | .therm => s.xtShow
    | _ => s

/-- The paths whose copies FREEZE holds. -/
def heldPaths (p : Page) (off : Nat) : List Path := if perPath p off then [.mp, .hspi, .icp] else [.mp]

/-- `BLK_CTRL.FREEZE` takes a value (R37): the held values are those shown at its rise. -/
def State.freezeWrite (s : State) (p : Page) (fr : Bool) : State :=
  if s.frozen p = fr then s
  else if fr then
    let keep := p.regAddrs.filter fun a => heldMask p (a - p.base) != 0
    let held := keep.foldl (fun l a => (heldPaths p (a - p.base)).foldl (fun l path =>
      let k := heldKey path p (a - p.base)
      cellPut (resetAt k) l k (BitVec.ofNat 32 (s.regLive path p (a - p.base)))) l) s.held
    ({ s with held := held }).setFlag p BLK_CTRL_FREEZE true
  else
    ({ s with held := s.held.filter fun c => c.1 % 2 ^ 32 / 0x1000 != p.base / 0x1000 }).setFlag p BLK_CTRL_FREEZE false

/-! ### Soft reset (R36) -/

/-- Status that a soft reset leaves: that of blocks whose function goes on (R381, R406, R502, log entry 70). -/
def Page.keepsStatus : Page → Bool
  | .basecamp => true | .pba => true | .therm => true | .mbx => true | .time => true | _ => false

/-- Registers that lie outside the block that is reset: the interlock (R163), limits delivered by PBA (R386),
the keeper (R371), the reset marker of NVM (R427), boot status (R456). -/
def State.srstKeeps (s : State) (p : Page) (off : Nat) : Bool :=
  match p with
  | .ltn _ => ilkOffsets off || off == LTN_LIMIT_IN.off
  | .np g =>
    off == NP_LIMIT_IN.off || (g.val == 0 && decide (0x80 ≤ off) && decide (off < 0xC0)) ||
      ((npPorts g).any fun q => off == (NP_STATUS (npLane q)).off && s.npState q == NP_KEEPER)
  | .mx _ => off == MX_LIMIT_IN.off
  | .nvm => off == 0x60
  | .sec => off == SEC_STATUS.off
  | _ => false

/-- The registers of a page after a soft reset (R36): RW and RWS fields, and the status of the block's logic;
not the counters, RWL fields, `ERR_CODE`, `ERR_INFO`, `LOCK` and `COMMIT`. -/
def State.srstRegs (s : State) (p : Page) : State :=
  (p.rows.filter fun r => !r.cnt && r.off != ERR_CODE.off && r.off != ERR_INFO.off && r.off != LOCK.off &&
      r.off != COMMIT.off && r.off != BLK_STATE.off).foldl (fun (s : State) r =>
    (List.range r.count).foldl (fun (s : State) i =>
      let off := r.off + r.stride * i
      let a := p.base + off
      if s.srstKeeps p off then s
      else
        let status := r.off = IRQ_STAT.off ∨ !p.keepsStatus
        let m := r.rw ||| r.rws ||| (if status then r.roMask ||| r.w1c else 0)
        let s := s.setReg a (BitVec.ofNat 32 (mixBits m (r.resetOf i) (s.reg a).toNat))
        if r.rws = 0 then s else { s with inForce := cellErase s.inForce a }) s) s

/-- What the reset of a block's logic takes with it before its registers change. -/
def State.srstBefore (s : State) (p : Page) : State :=
  match p with
  | .comp i => s.compSrst i
  | .dmc i => if i.val = 0 then s.dmcSrst else s
  | .eng n => s.engSrst n
  | .grd n => s.grdSrst n
  | .sxl n => s.sxlSrst n
  | .ltn x => s.ltnSrst x
  | .scn k => s.scnSrst k
  | .np g => (npPorts g).foldl (fun (s : State) q =>
      if s.npState q = NP_OFF ∨ s.npState q = NP_KEEPER then s
      else if s.npBusy q then s.modNp q fun o => { o with offWant := true, pass := 0 }
      else s.npOffNow q) s
  | .mx g => (mxPorts g).foldl (fun (s : State) q => if s.mxState q = MX_OFF then s else s.mxOffNow q MX_OFF) s
  | .sched => s.schedSrst
  | .time => s.timeSrst
  | .basecamp => s.pdReqWrite 0
  | .mbx => { s with mbxRec := s.recordSlots, mbx := {} }
  | .nvm =>
    let s := (match s.nvm.run with
      | some r => if r.op = 1 then s.nvmSpoil (r.addr + 32 * r.done) else s
      | none => s)
    ({ s with nvm := {} }).mbxFinishAll (· == MbxWait.store) ST_INTERRUPTED 0 0
  | .cal =>
    let s := (s.adcTurnOver 4 0).adcTurnOver 4 1
    let c := s.cal
    let s : State := { s with cal := { fresh := c.fresh, stepAt := c.stepAt, lines := c.lines, banks := c.banks, dark := c.dark, trimTgt := c.trimTgt
                                       presets := c.presets, refInt := c.refInt, refBack := c.refBack } }
    s.mbxFinishAll (· == MbxWait.cal) ST_INTERRUPTED 0 0
  | .eth n => { s with eth := s.eth.set n {} }
  | .can n => { s with can := s.can.set n {} }
  | .stor => { s with stor := {} }
  | .sec => { s with sec := { s.sec with keyData := Vector.replicate 8 0 } }
  | _ => s

/-- What a block shows again after its registers are reset. -/
def State.srstAfter (s : State) (p : Page) : State :=
  match p with
  | .pba => s.pbaShow
  | .therm => s.xtShow.thermShow
  | .cal => s.calState
  | .nvm => s.put .nvm BLK_STATE 0
  | .sched => s.schedShow
  | .eth n => (s.netRequest).msecShow n
  | .can _ => s.netRequest
  | .stor => (s.put .stor BLK_STATE 0).storRequest
  | .basecamp => if s.flag .basecamp BC_AVS_EN then s else s.put .basecamp BC_AVS_TARGET 750
  | .np g => ((npPorts g).foldl (fun (s : State) q => if s.np[q].offWant then s.npTo q NP_ENUM_ST else s) s).npShowGroup g
  | .mx g => s.mxShowGroup g
  | .comp i => if i.val = 7 then s.imsShow else s
  | _ => s

/-- SRST of a block that does not emit light (R36). -/
def State.softReset (s : State) (p : Page) : State :=
  let g := p.group
  let s := if s.commitPending g then
      ((s.dropCommitRec g).put g.home COMMIT_PENDING 0).mbxFinishAll (· == MbxWait.commit g.home.base) ST_INTERRUPTED 0 0
    else s
  let s := s.srstBefore p
  let s := s.srstRegs p
  let s : State := { s with held := s.held.filter fun c => c.1 % 2 ^ 32 / 0x1000 != p.base / 0x1000 }
  let s : State := if p.keepsStatus then s else { s with conds := s.conds.filter fun e => e.1 != p.base }
  s.srstAfter p

/-- A write of `BLK_CTRL` (R34–R37). -/
def State.ctrlWrite (s : State) (path : Path) (p : Page) (v : Nat) : State :=
  let srst := bitOf v 1
  let clears := !p.enFixed && s.flag p BLK_CTRL_EN && !bitOf v 0
  let refused := (srst || clears) && s.emits p
  let s := if refused then s.err p (pathCode path) BLK_CTRL.off ST_STATE_REJECT 0x01 else s
  if srst && !refused then s.softReset p
  else
    let s := if p.enFixed || refused then s else s.enWrite p (bitOf v 0)
    s.freezeWrite p (bitOf v 2)

/-! ### `COMMIT` (R42–R45) -/

/-- GO for a mirror engine's group: immediate outside LIT and HOLD (R43). -/
def State.engGo (s : State) (n : Fin 4) : State :=
  if s.engFrames n then
    let late := decide (s.engFence n < s.now)
    (s.commitOpen (.eng n) { late := late, skip := late }).engReplan n
  else
    let s := ((s.commitOpen (.eng n) {}).engCommit n false).1
    if s.ceilingLost n then s.engLinkLoss n SXL_NO_CONFIG 0
    else if s.linkUp n then
      (match s.linkPending n with | some w => s.linkChangeNow n w | none => s)
    else s

/-- GO for a scanner's group. -/
def State.scnGo (s : State) (k : Fin 2) : State :=
  if s.scnFrames k then
    let late := decide (s.scnFence k < s.now)
    s.commitOpen (.scn k) { late := late, skip := late }
  else ((s.commitOpen (.scn k) {}).scnCommit k).1

/-- A write of `COMMIT.GO` on a page (R42–R44): no effect while PENDING is 1. -/
def State.commitGo (s : State) (g : Group) : State :=
  if s.commitPending g then s
  else match g with
    | .eng n => s.engGo n
    | .scn k => s.scnGo k
    | .comp => s.compGo
    | .np g => s.npGo g
    | .mx g => s.mxGo g
    | .alone p => ((s.commitOpen (.alone p) {}).commitWhole (.alone p) false []).1

/-- A write of `COMMIT`: W1C of LATE and REJECT, but for one set at this very instant (R9), then GO. -/
def State.commitWrite (s : State) (p : Page) (v : Nat) : State :=
  let h := p.group.home
  let now := (s.recentReg (h.base + COMMIT.off)).toNat
  let s := if bitOf v 2 && !bitOf now 2 then s.put h COMMIT_LATE 0 else s
  let s := if bitOf v 3 && !bitOf now 3 then s.put h COMMIT_REJECT 0 else s
  if bitOf v 0 then s.commitGo p.group else s

/-! ### Writes of the header -/

/-- A write of `ERR_CODE` (R15). -/
def State.errCodeWrite (s : State) (p : Page) (v : Nat) : State :=
  if bitsOf v 8 8 = s.get p ERR_CODE_CLASS then (s.put p ERR_CODE 0).put p ERR_INFO 0 else s

/-- A write of `LOCK` (R49). -/
def State.lockWrite (s : State) (p : Page) (v : Nat) : State :=
  if bitsOf v 16 16 = 0x5AFE ∧ !s.flag p LOCK_LOCKED then
    (s.put p LOCK_TAG (bitsOf v 1 15)).put p LOCK_LOCKED 1
  else s

/-- W1C of `IRQ_STAT`: a bit whose event comes at this very instant stays set (R9). -/
def State.irqClear (s : State) (p : Page) (v : Nat) : State :=
  s.put p IRQ_STAT (s.get p IRQ_STAT &&& (allBits - (v &&& (allBits - (s.recentReg (p.base + IRQ_STAT.off)).toNat))))

/-- A write of `IRQ_SET` (R34). -/
def State.irqSet (s : State) (p : Page) (v : Nat) : State :=
  s.put p IRQ_STAT (s.get p IRQ_STAT ||| (v &&& p.irqMask))

/-! ### Writes of block registers -/

/-- Effects of a write of `MP_EXT_CTRL` (R325, R327): clearing EN ends a stop; the extension runs while EN is 1. -/
def State.extCtrl (s : State) : State :=
  if !s.flag .mbx MP_EXT_CTRL_EN then
    ({ s with mp := { s.mp with extStopped := false, extBlame := false } }).put .mbx MP_EXT_CTRL_RUN 0
  else if s.mp.up ∧ !s.mp.extStopped ∧ !s.mp.extBlame ∧ s.flag .sec SEC_STATUS_EXT_OK then
    s.put .mbx MP_EXT_CTRL_RUN 1
  else s

/-- A write to the MBX page (R336, R340, R350). -/
def State.mbxWrite (s : State) (path : Path) (off v : Nat) : State :=
  if off = MBX_PUSH.off then (if bitOf v 0 then s.mbxPushWrite path else s)
  else if off = MBX_POP.off then (if bitOf v 0 then s.mbxPop path else s)
  else if 0x100 ≤ off ∧ off < 0x13C then s.mbxWinWrite path off (BitVec.ofNat 32 v)
  else if off = MP_LOAD_PEAK.off then s.put .mbx MP_LOAD_PEAK 0
  else
    let s := s.plainWrite path .mbx off v
    if off = MP_EXT_CTRL.off then s.extCtrl else s

/-- A write to a GRD page: a new transit target changes the next frame while that is final (R128). -/
def State.grdWrite (s : State) (path : Path) (n : Fin 4) (off v : Nat) : State :=
  let s := s.plainWrite path (.grd n) off v
  if 0x400 ≤ off ∧ off < 0x500 then s.engReplan n else s

/-- A write of the register at page offset `off` from 0x044 to 0x7FF, by the rules of its chapter. -/
def State.blockWrite (s : State) (path : Path) (p : Page) (off v : Nat) : State :=
  match p with
  | .sys => s.plainWrite path p off v
  | .basecamp => s.bcWrite path off v
  | .pba => if off = PBA_WAIT_MAX.off then s.put .pba PBA_WAIT_MAX 0 else s.plainWrite path p off v
  | .therm => s.thermWrite path off v
  | .cal => s.calWrite path off v
  | .nvm => s.nvmWrite path off v
  | .mbx => s.mbxWrite path off v
  | .time => s.timeWrite path off v
  | .sched => s.schedWrite path off v
  | .eng n => s.engWrite path n off v
  | .grd n => s.grdWrite path n off v
  | .ltn x => s.ltnWrite path x off v
  | .scn k => s.scnWrite path k off v
  | .sxl n => s.sxlWrite path n off v
  | .comp i => s.compWrite path i off v
  | .dmc i => s.dmcWrite path i off v
  | .np g => s.npWrite path g off v
  | .mx g => (s.mxWrite (pathCode path) g off v).plainWrite path p off v
  | .eth n => s.ethWrite path n off v
  | .can n => s.canWrite path n off v
  | .stor => s.storWrite path off v
  | .sec => s.secWrite path off v

/-- A write that reached its page. Writes to the active view are ignored (R41). -/
def State.pageWrite (s : State) (path : Path) (p : Page) (off v : Nat) : State :=
  if 0x800 ≤ off then s
  else if off = BLK_CTRL.off then s.ctrlWrite path p v
  else if off = IRQ_STAT.off then s.irqClear p v
  else if off = IRQ_EN.off then s.put p IRQ_EN (v &&& p.irqMask)
  else if off = IRQ_SET.off then s.irqSet p v
  else if off = COMMIT.off then s.commitWrite p v
  else if off = ERR_CODE.off then s.errCodeWrite p v
  else if off = LOCK.off then s.lockWrite p v
  else if off < ERR_CNT.off then s
  else if off = ERR_CNT.off then s.plainWrite path p off v
  else s.blockWrite path p off v

/-! ### The memories -/

/-- A 32-bit write that reached a memory or a page. -/
def State.placeWrite (s : State) (path : Path) (a v : Nat) : State :=
  match placeOf a with
  | .tcm => { s with tcm := memSetLE s.tcm a 4 v }
  | .fsram off => { s with fsram := memSetLE s.fsram off 4 v }
  | .dram => s.aperWrite path a v
  | .page p off => s.pageWrite path p off v
  | _ => s

/-- What a 32-bit read of a memory or a page returns. -/
def State.placeRead (s : State) (path : Path) (a : Nat) : Nat :=
  match placeOf a with
  | .rom => (Config.bootRom a).toNat
  | .tcm => memLE s.tcm a 4
  | .fsram off => memLE s.fsram off 4
  | .dram => s.aperRead path a
  | .page p off => s.pageRead path p off
  | .nowhere => 0

/-- Side effects of a read (R41: none in the active view). -/
def State.placeSide (s : State) (path : Path) (a : Nat) : State :=
  match placeOf a with
  | .page p off => if off < 0x800 then s.readSide path p off else s
  | .dram => s.countBytes (aperPort path) false 4
  | _ => s

/-! ### The extension (R326, R327) -/

/-- The protection unit lets an access of the extension pass (R323, R326). -/
def State.extMay (s : State) (a : Nat) (write : Bool) : Bool :=
  match placeOf a with
  | .tcm => decide (0x280000 ≤ a)
  | .page p _ =>
    !write ||
      (match p with
      | .time => false
      | .sched => false
      | .sec => false
      | _ => bitOf (s.get .mbx (if p.source < 32 then MP_EXT_GRANT0 else MP_EXT_GRANT1)) (p.source % 32))
  | _ => false

/-- An extension fault (R327): the extension stops, and its slots in EXEC or RUNNING are completed. -/
def State.extFault (s : State) : State :=
  let s := ({ s with mp := { s.mp with extStopped := true } }).put .mbx MP_EXT_CTRL_RUN 0
  let s := (s.bump .mbx MP_EXT_FAULT_CNT).raise .mbx 8
  (s.mbxSlots ORG_EXT).foldl (fun (s : State) i =>
    let c : MbxSlot := s.mbx.slots[i]
    if c.st = SL_EXEC ∨ c.st = SL_RUNNING then s.mbxPost i ST_INTERRUPTED 0 0 [] else s) s

/-! ### Accesses -/

/-- A write access (R33, R38). While PD_NOC is off nothing can be reached, SYS included (R39). -/
def State.busWrite (s : State) (path : Path) (a width v : Nat) : State :=
  if !s.domOn PD_NOC then { s with out := [none] }
  else match s.busCause path a width true with
    | some c => s.busFail path a c
    | none => (s.placeWrite path a (v % 2 ^ 32)).answer (BitVec.ofNat 32 v)

/-- A read access (R33, R38). -/
def State.busRead (s : State) (path : Path) (a width : Nat) : State :=
  if !s.domOn PD_NOC then { s with out := [none] }
  else match s.busCause path a width false with
    | some c => s.busFail path a c
    | none =>
      let v := s.placeRead path a
      (s.placeSide path a).answer (BitVec.ofNat 32 v)

/-- The agent of a path issues accesses: the MP while it is not held, the extension while it runs and is not preempted
(R325). -/
def State.pathLive (s : State) (path : Path) : Bool :=
  match path with
  | .mp => s.mpRuns
  | .ext => s.mpRuns && s.flag .mbx MP_EXT_CTRL_RUN && !s.mp.extCut
  | _ => true

/-- An access of a path: one of the extension that R326 does not allow is stopped before it leaves the MP. -/
def State.access (s : State) (path : Path) (a : Nat) (write : Bool) (f : State → State) : State :=
  if !s.pathLive path then { s with out := [] }
  else if path = .ext ∧ !s.extMay a write then ({ s with out := [] }).extFault
  else f s

/-- Whether an access of a path reaches its place: the agent issues it, the extension may, PD_NOC is on, and no
cause of `BUS_ERR` holds (R38, R39, R326). -/
def State.reaches (s : State) (path : Path) (a width : Nat) (write : Bool) : Bool :=
  s.pathLive path && (path != .ext || s.extMay a write) && s.domOn PD_NOC && (s.busCause path a width write).isNone

/-- A write of a path. -/
def State.writeBy (s : State) (path : Path) (a width v : Nat) : State :=
  s.access path a true fun s => s.busWrite path a width v

/-- A read of a path. -/
def State.readBy (s : State) (path : Path) (a width : Nat) : State :=
  s.access path a false fun s => s.busRead path a width

end Sys2Proof.Machine
end

