-- ==== Sys2Proof/Machine/BusCmds.lean ====
section
/-!
DEFINITION. The commands that are a register access: writes by access code, writes of the common header (R15,
R34–R37, R44, R49), the memories (R22, R300), every command register, and the reads that have an effect. Each
is an access of a path at the address of its register, with the checks of R38 and R326.
-/

namespace Sys2Proof.Machine

/-- The address of a register of page number `pg`, counted from 0x4000_0000 (R31). -/
def pageAddr (pg off : Nat) : Nat := 0x40000000 + pg * 0x1000 + off

/-- A write of a register of a page. -/
def State.regBy (s : State) (path : Path) (p : Page) (f : RF) (v : Nat) : State :=
  s.writeBy path (p.base + f.off) 4 v

/-- A read of a register of a page. -/
def State.getBy (s : State) (path : Path) (p : Page) (f : RF) : State := s.readBy path (p.base + f.off) 4

/-- `BLK_CTRL` of a page with EN and FREEZE as they stand. -/
def State.ctrlNow (s : State) (pg : Nat) : Nat :=
  match Page.ofAddr (pageAddr pg 0) with
  | some p => s.get p BLK_CTRL &&& 5
  | none => 0

/-! ### Access codes and header -/

/-- REGISTER_WRITE (R5–R9, R38, R48, R50, R501): a write of `width` bytes at any address. -/
def execRegisterWrite (t : Nat) (path : Path) (a width v : Nat) (s : State) : Out := s.step' t fun s =>
  s.writeBy path a width v

/-- FSRAM_WRITE (R22, R23): a write at an offset of the Frame SRAM window. -/
def execFsramWrite (t : Nat) (path : Path) (off v : Nat) (s : State) : Out := s.step' t fun s =>
  if off < 0x5000000 then s.writeBy path (0x20000000 + off) 4 v else s

/-- APERTURE_ACCESS (R300): a read or write at an offset of the DRAM aperture. -/
def execApertureAccess (t : Nat) (path : Path) (off : Nat) (write : Bool) (v : Nat) (s : State) : Out := s.step' t fun s =>
  if 0x80000000 ≤ off then s
  else if write then s.writeBy path (0x80000000 + off) 4 v
  else s.readBy path (0x80000000 + off) 4

/-- ERR_CODE_CLEAR (R15). -/
def execErrCodeClear (t : Nat) (path : Path) (pg v : Nat) (s : State) : Out := s.step' t fun s =>
  s.writeBy path (pageAddr pg ERR_CODE.off) 4 v

/-- SOFT_RESET (R36): SRST written as 1, beside the other bits of the write. -/
def execSoftReset (t : Nat) (path : Path) (pg v : Nat) (s : State) : Out := s.step' t fun s =>
  s.writeBy path (pageAddr pg BLK_CTRL.off) 4 (v ||| 2)

/-- BLOCK_ENABLE (R36): EN written, FREEZE as it stands. -/
def execBlockEnable (t : Nat) (path : Path) (pg : Nat) (en : Bool) (s : State) : Out := s.step' t fun s =>
  s.writeBy path (pageAddr pg BLK_CTRL.off) 4 (withBits (s.ctrlNow pg) 0 1 (ofBool en))

/-- FREEZE (R37): FREEZE written, EN as it stands. -/
def execFreeze (t : Nat) (path : Path) (pg : Nat) (fr : Bool) (s : State) : Out := s.step' t fun s =>
  s.writeBy path (pageAddr pg BLK_CTRL.off) 4 (withBits (s.ctrlNow pg) 2 1 (ofBool fr))

/-- IRQ_SET (R34). -/
def execIrqSet (t : Nat) (path : Path) (pg v : Nat) (s : State) : Out := s.step' t fun s =>
  s.writeBy path (pageAddr pg IRQ_SET.off) 4 v

/-- LOCK (R49): the key with the low half word of the write, which holds TAG. -/
def execLock (t : Nat) (path : Path) (pg low : Nat) (s : State) : Out := s.step' t fun s =>
  s.writeBy path (pageAddr pg LOCK.off) 4 (0x5AFE0000 + low % 0x10000)

/-- COMMIT_GO (R42–R45). -/
def execCommitGo (t : Nat) (path : Path) (pg : Nat) (s : State) : Out := s.step' t fun s =>
  s.writeBy path (pageAddr pg COMMIT.off) 4 1

/-! ### Compositor, engines, Lanterns, links, scanners -/

/-- MOTION_PUBLISH (R77). -/
def execMotionPublish (t : Nat) (path : Path) (v : Nat) (s : State) : Out := s.step' t fun s =>
  s.regBy path (.comp 0) MOT_STAMP_NS v

/-- IMS_CFG_WRITE (R94). -/
def execImsCfgWrite (t : Nat) (path : Path) (v : Nat) (s : State) : Out := s.step' t fun s =>
  s.regBy path (.comp 7) IMS_CFG v

/-- ENG_START (R114). -/
def execEngStart (t : Nat) (path : Path) (n : Fin 4) (s : State) : Out := s.step' t fun s =>
  s.regBy path (.eng n) ENG_CMD 1

/-- ENG_STOP (R114). -/
def execEngStop (t : Nat) (path : Path) (n : Fin 4) (s : State) : Out := s.step' t fun s =>
  s.regBy path (.eng n) ENG_CMD 2

/-- ENG_PARK (R114). -/
def execEngPark (t : Nat) (path : Path) (n : Fin 4) (s : State) : Out := s.step' t fun s =>
  s.regBy path (.eng n) ENG_CMD 3

/-- ENG_FAULT_CLEAR (R114). -/
def execEngFaultClear (t : Nat) (path : Path) (n : Fin 4) (s : State) : Out := s.step' t fun s =>
  s.regBy path (.eng n) ENG_CMD 4

/-- ILK_CLEAR (R162). -/
def execIlkClear (t : Nat) (path : Path) (x : Fin 6) (s : State) : Out := s.step' t fun s =>
  s.regBy path (.ltn x) LTN_ILK_CMD 1

/-- ILK_TEST (R163). -/
def execIlkTest (t : Nat) (path : Path) (x : Fin 6) (s : State) : Out := s.step' t fun s =>
  s.regBy path (.ltn x) LTN_ILK_CMD 2

/-- PARK_LOAD (R186): GO with the pattern, buffer and bit of the write. -/
def execParkLoad (t : Nat) (path : Path) (n : Fin 4) (v : Nat) (s : State) : Out := s.step' t fun s =>
  s.regBy path (.sxl n) SXL_PARK_LOAD (v ||| 1)

/-- SCN_START (R216). -/
def execScnStart (t : Nat) (path : Path) (k : Fin 2) (s : State) : Out := s.step' t fun s =>
  s.regBy path (.scn k) SCN_CMD 1

/-- SCN_STOP (R216). -/
def execScnStop (t : Nat) (path : Path) (k : Fin 2) (s : State) : Out := s.step' t fun s =>
  s.regBy path (.scn k) SCN_CMD 2

/-- SCN_PARK (R216). -/
def execScnPark (t : Nat) (path : Path) (k : Fin 2) (s : State) : Out := s.step' t fun s =>
  s.regBy path (.scn k) SCN_CMD 3

/-- SCN_FAULT_CLEAR (R216). -/
def execScnFaultClear (t : Nat) (path : Path) (k : Fin 2) (s : State) : Out := s.step' t fun s =>
  s.regBy path (.scn k) SCN_CMD 4

/-- PTT_DATA_WRITE (R204). -/
def execPttDataWrite (t : Nat) (path : Path) (k : Fin 2) (v : Nat) (s : State) : Out := s.step' t fun s =>
  s.regBy path (.scn k) SCN_PTT_DATA v

/-! ### Narpa and matrix ports -/

/-- NP_ENUM (R243). -/
def execNpEnum (t : Nat) (path : Path) (q : Fin 104) (s : State) : Out := s.step' t fun s =>
  s.regBy path (npPage q) (NP_CMD (npLane q)) 1

/-- NP_STROBE (R238). -/
def execNpStrobe (t : Nat) (path : Path) (q : Fin 104) (s : State) : Out := s.step' t fun s =>
  s.regBy path (npPage q) (NP_CMD (npLane q)) 2

/-- CFG_ACCESS (R236): `NP_CFGACC` written with GO. -/
def execCfgAccess (t : Nat) (path : Path) (q : Fin 104) (v : Nat) (s : State) : Out := s.step' t fun s =>
  s.regBy path (npPage q) (NP_CFGACC (npLane q)) (v ||| 2 ^ 31)

/-- NPK_DATA_ACCESS (R244): a read or a write. -/
def execNpkDataAccess (t : Nat) (path : Path) (write : Bool) (v : Nat) (s : State) : Out := s.step' t fun s =>
  if write then s.regBy path (.np 0) NPK_DATA v else s.getBy path (.np 0) NPK_DATA

/-- MX_RESEND (R266). -/
def execMxResend (t : Nat) (path : Path) (q : Fin 24) (s : State) : Out := s.step' t fun s =>
  s.regBy path (mxPage q) (MX_CMD (mxLane q)) 1

/-! ### TIME and SCHED -/

/-- TIME_INCR_WRITE (R272). -/
def execTimeIncrWrite (t : Nat) (path : Path) (v : Nat) (s : State) : Out := s.step' t fun s =>
  s.regBy path .time TIME_INCR v

/-- TIME_ADJ_SET (R274). -/
def execTimeAdjSet (t : Nat) (path : Path) (s : State) : Out := s.step' t fun s => s.regBy path .time TIME_ADJ 1

/-- TIME_ADJ_STEP (R274). -/
def execTimeAdjStep (t : Nat) (path : Path) (s : State) : Out := s.step' t fun s => s.regBy path .time TIME_ADJ 2

/-- TIME_SLEW_WRITE (R275). -/
def execTimeSlewWrite (t : Nat) (path : Path) (v : Nat) (s : State) : Out := s.step' t fun s =>
  s.regBy path .time TIME_SLEW v

/-- PDELAY_WRITE (R278). -/
def execPdelayWrite (t : Nat) (path : Path) (p : Fin 4) (v : Nat) (s : State) : Out := s.step' t fun s =>
  s.regBy path .time (TIME_PDELAY p.val) v

/-- TIME_NOW_READ (R273). -/
def execTimeNowRead (t : Nat) (path : Path) (s : State) : Out := s.step' t fun s => s.getBy path .time TIME_NOW_NS

/-- ENG_FSTART_NS_READ (R119). -/
def execEngFstartNsRead (t : Nat) (path : Path) (n : Fin 4) (s : State) : Out := s.step' t fun s =>
  s.getBy path (.eng n) ENG_FSTART_NS

/-- SCN_FSTART_NS_READ (R218). -/
def execScnFstartNsRead (t : Nat) (path : Path) (k : Fin 2) (s : State) : Out := s.step' t fun s =>
  s.getBy path (.scn k) SCN_FSTART_NS

/-- LTN_ILK_TIME_NS_READ (R164). -/
def execLtnIlkTimeNsRead (t : Nat) (path : Path) (x : Fin 6) (s : State) : Out := s.step' t fun s =>
  s.getBy path (.ltn x) LTN_ILK_TIME_NS

/-- NP_LATCH_NS_READ (R247). -/
def execNpLatchNsRead (t : Nat) (path : Path) (q : Fin 104) (s : State) : Out := s.step' t fun s =>
  s.getBy path (npPage q) (NP_LATCH_NS (npLane q))

/-- MX_FSTART_NS_READ (R268). -/
def execMxFstartNsRead (t : Nat) (path : Path) (q : Fin 24) (s : State) : Out := s.step' t fun s =>
  s.getBy path (mxPage q) (MX_FSTART_NS (mxLane q))

/-- TIME_PPSIN_NS_READ (R291). -/
def execTimePpsinNsRead (t : Nat) (path : Path) (s : State) : Out := s.step' t fun s =>
  s.getBy path .time TIME_PPSIN_NS

/-- THERM_SHUT_NS_READ (R406). -/
def execThermShutNsRead (t : Nat) (path : Path) (s : State) : Out := s.step' t fun s =>
  s.getBy path .therm THERM_SHUT_NS

/-- TXQ_PUSH (R282): `TIME_TXQ_PUSH3` of a port. -/
def execTxqPush (t : Nat) (path : Path) (p : Fin 4) (v : Nat) (s : State) : Out := s.step' t fun s =>
  s.regBy path .time (TIME_TXQ_PUSH3 p.val) v

/-- TXQ_POP (R282): a read of `TIME_TXQ_W3` of a port. -/
def execTxqPop (t : Nat) (path : Path) (p : Fin 4) (s : State) : Out := s.step' t fun s =>
  s.getBy path .time (TIME_TXQ_W3 p.val)

/-- TCLK_TICK (R271): one tick beyond the instant `t`. -/
def execTclkTick (t : Nat) (s : State) : Out := s.step' t fun s => s.at ((s.now / tickU + 1) * tickU)

/-- FREERUN (R277). -/
def execFreerun (t : Nat) (s : State) : Out := s.step' t fun s => if s.domOn PD_NOC then s.freerun else s

/-- HOLDOFF_END (R278). -/
def execHoldoffEnd (t : Nat) (s : State) : Out := s.step' t fun s => if s.domOn PD_NOC then s.holdoffEnd else s

/-- The level of `PPS_OUT` (R283). -/
def State.ppsPin (s : State) : Bool :=
  s.domOn PD_NOC && s.flag .time TIME_CFG_PPSOUT_EN && s.timeState != 0 && s.clock.ppsOut

/-- PPS_OUT (R283): the clock has passed a second boundary plus `TIME_PPS_OFS` on this tick. -/
def execPpsOut (t : Nat) (s : State) : Out := s.step' t fun s =>
  if s.domOn PD_NOC ∧ s.flag .time TIME_CFG_PPSOUT_EN ∧ s.timeState ≠ 0 ∧ s.ppsDue then
    { s with clock := { s.clock with ppsOut := true, ppsEnd := some (s.now + msU (s.get .time TIME_PPS_WIDTH)) } }
  else s

/-- PPS_OUT_END (R283). -/
def execPpsOutEnd (t : Nat) (s : State) : Out := s.step' t fun s =>
  match s.clock.ppsEnd with
  | some e => if e ≤ s.now then { s with clock := { s.clock with ppsOut := false, ppsEnd := none } } else s
  | none => s

/-- PPS_IN (R284): an edge of the pin. -/
def execPpsIn (t : Nat) (falling : Bool) (s : State) : Out := s.step' t fun s =>
  if !s.domOn PD_NOC ∨ !s.flag .time TIME_CFG_PPSIN_EN ∨ s.flag .time TIME_CFG_PPSIN_POL ≠ falling then s
  else if s.clock.ppsInLast.any fun l => decide (s.now < l + msU 500) then
    (s.bump .time TIME_PPSIN_GLITCH_CNT).raise .time 9
  else
    let s : State := { s with clock := { s.clock with ppsInLast := some s.now } }
    let s := s.stamp .time TIME_PPSIN_NS
    let e : Int := if s.localNs < 500000000 then s.localNs else (s.localNs : Int) - 1000000000
    ((s.put .time TIME_PPSIN_ERR (unsigned 32 e)).put .time TIME_STATUS_PPSIN_VALID 1).raise .time 8

/-- PPSIN_VALID_EXPIRY (R284). -/
def execPpsinValidExpiry (t : Nat) (s : State) : Out := s.step' t fun s =>
  match s.clock.ppsInLast with
  | some l => if l + msU 1200 ≤ s.now then s.put .time TIME_STATUS_PPSIN_VALID 0 else s
  | none => s

/-- SCHED_WRITE (R285): the staging registers become entry `i`. -/
def execSchedWrite (t : Nat) (path : Path) (i : Fin 256) (s : State) : Out := s.step' t fun s =>
  s.regBy path .sched SCHED_ACC (2 ^ 31 + 1 * 2 ^ 28 + i.val)

/-- SCHED_READ (R285). -/
def execSchedRead (t : Nat) (path : Path) (i : Fin 256) (s : State) : Out := s.step' t fun s =>
  s.regBy path .sched SCHED_ACC (2 ^ 31 + 2 * 2 ^ 28 + i.val)

/-- SCHED_CANCEL (R285). -/
def execSchedCancel (t : Nat) (path : Path) (i : Fin 256) (s : State) : Out := s.step' t fun s =>
  s.regBy path .sched SCHED_ACC (2 ^ 31 + 3 * 2 ^ 28 + i.val)

/-! ### The dispatch of SCHED (R286–R289) -/

/-- The address that a REG_WRITE or COMMIT_GO entry writes. -/
def SchedEntry.addr (e : SchedEntry) : Nat := if e.action = 2 then e.target / 0x1000 * 0x1000 + COMMIT.off else e.target

/-- A REG_WRITE or COMMIT_GO finds its page (R289): none when it does, else the cause recorded for a refusal by SEC. -/
def State.schedBlocked (s : State) (e : SchedEntry) : Option Nat :=
  match placeOf e.addr with
  | .page p _ =>
    if !p.declared s.pkg ∨ (p = .nvm ∧ !s.domOn PD_NVM) ∨ (p = .sec ∧ !s.domOn PD_SEC) then some 0
    else if s.secRefuses e.path (placeOf e.addr) then some 0x0A
    else none
  | _ => some 0

/-- The action of an entry that is executed (R286): none when its target is in the wrong state. -/
def State.schedAction (s : State) (i : Nat) (e : SchedEntry) : State × Bool :=
  match e.action with
  | 1 | 2 =>
    match s.schedBlocked e with
    | some c => (if c = 0x0A then s.busFail e.path e.addr 0x0A else s, false)
    | none => (s.busWrite e.path e.addr 4 (if e.action = 2 then 1 else e.value), true)
  | 4 => ((s.put .sched SCHED_LAST (e.target % 256 * 2 ^ 24 + i)).raise .sched SCHED_EV_EVENT, true)
  | _ => (s, true)

/-- One entry is dispatched (R287). -/
def State.schedDispatch (s : State) (i : Nat) (e : SchedEntry) : State :=
  let late := s.localTime - e.time
  match e.verdict (late : Int) with
  | .drop => s.schedOccurred i e late false true
  | .run fl =>
    let (s, ok) := s.schedAction i e
    if ok then s.schedOccurred i e late fl false else s.schedError i e

/-- The armed entry with the lowest index that is due, strobes apart (R286, R287). -/
def State.schedDue (s : State) : Option (Nat × SchedEntry) :=
  s.sched.find? fun c => c.2.st == .armed && c.2.action != 3 && decide (c.2.time ≤ s.localTime)

/-- SCHED_DISPATCH (R286, R287): at most one entry per tick; an entry replaced on the tick it fell due goes first and
leaves its successor armed (R285). -/
def execSchedDispatch (t : Nat) (s : State) : Out := s.step' t fun s =>
  if !s.schedRuns ∨ s.schedAt = s.now / tickU + 1 then s
  else
    match s.schedOld with
    | (i, e) :: r =>
      let new := s.schedGet i
      let s : State := { s with schedOld := r, schedAt := s.now / tickU + 1 }
      (s.schedDispatch i e).schedSet i new
    | [] =>
      match s.schedDue with
      | none => s
      | some (i, e) => ({ s with schedAt := s.now / tickU + 1 }).schedDispatch i e

/-! ### DMC, mailbox windows, Basecamp, thermal -/

/-- DMC_TRAIN (R313). -/
def execDmcTrain (t : Nat) (path : Path) (s : State) : Out := s.step' t fun s => s.regBy path (.dmc 0) DMC_CMD 1

/-- SR_ENTER (R312). -/
def execSrEnter (t : Nat) (path : Path) (s : State) : Out := s.step' t fun s => s.regBy path (.dmc 0) DMC_CMD 2

/-- SR_EXIT (R312). -/
def execSrExit (t : Nat) (path : Path) (s : State) : Out := s.step' t fun s => s.regBy path (.dmc 0) DMC_CMD 3

/-- DMC_STOP (R316). -/
def execDmcStop (t : Nat) (path : Path) (s : State) : Out := s.step' t fun s => s.regBy path (.dmc 0) DMC_CMD 4

/-- MBX_PUSH (R336). -/
def execMbxPush (t : Nat) (path : Path) (s : State) : Out := s.step' t fun s => s.regBy path .mbx MBX_PUSH 1

/-- WDOG_KICK (R370). -/
def execWdogKick (t : Nat) (path : Path) (v : Nat) (s : State) : Out := s.step' t fun s =>
  s.regBy path .basecamp BC_WDOG_KICK v

/-- PD_REQ_WRITE (R362). -/
def execPdReqWrite (t : Nat) (path : Path) (v : Nat) (s : State) : Out := s.step' t fun s =>
  s.regBy path .basecamp BC_PD_REQ v

/-- PWR_CMD_RUN (R364). -/
def execPwrCmdRun (t : Nat) (path : Path) (s : State) : Out := s.step' t fun s =>
  s.regBy path .basecamp BC_PWR_CMD 0x100

/-- PWR_CMD_STANDBY (R364). -/
def execPwrCmdStandby (t : Nat) (path : Path) (s : State) : Out := s.step' t fun s =>
  s.regBy path .basecamp BC_PWR_CMD 0x101

/-- PWR_CMD_BIVOUAC (R364). -/
def execPwrCmdBivouac (t : Nat) (path : Path) (s : State) : Out := s.step' t fun s =>
  s.regBy path .basecamp BC_PWR_CMD 0x102

/-- SYSTEM_RESET (R372): the key or another value. -/
def execSystemReset (t : Nat) (path : Path) (v : Nat) (s : State) : Out := s.step' t fun s =>
  s.regBy path .basecamp BC_RST v

/-- VBAT_MIN_WRITE (R373). -/
def execVbatMinWrite (t : Nat) (path : Path) (v : Nat) (s : State) : Out := s.step' t fun s =>
  s.regBy path .basecamp BC_VBAT_MIN v

/-- REVALIDATE (R394). -/
def execRevalidate (t : Nat) (path : Path) (src : Fin 32) (s : State) : Out := s.step' t fun s =>
  s.regBy path .therm THERM_CMD (1 + src.val * 2 ^ 8)

/-! ### CAL and NVM -/

/-- CAL_CMD (R418): GO with a class and an instance. -/
def execCalCmd (t : Nat) (path : Path) (cls : Fin 16) (inst : Fin 8) (s : State) : Out := s.step' t fun s =>
  s.regBy path .cal CAL_CMD (2 ^ 31 + inst.val * 2 ^ 16 + cls.val)

/-- NVM_PROGRAM (R421): `count` more than one granule. -/
def execNvmProgram (t : Nat) (path : Path) (count : Fin 8) (s : State) : Out := s.step' t fun s =>
  s.regBy path .nvm NVM_CMD (2 ^ 31 + count.val * 2 ^ 8 + 1)

/-- NVM_READ (R421). -/
def execNvmRead (t : Nat) (path : Path) (count : Fin 8) (s : State) : Out := s.step' t fun s =>
  s.regBy path .nvm NVM_CMD (2 ^ 31 + count.val * 2 ^ 8 + 2)

/-! ### SEC -/

/-- RECOVERY_BOOT (R456): GO in recovery; `key` and `sig` are the outcomes of the check of the image in Frame SRAM. -/
def execRecoveryBoot (t : Nat) (path : Path) (key sig : Bool) (s : State) : Out := s.step' t fun s =>
  (s.regBy path .sec SEC_RECOVERY (2 ^ 31)).recoveryCheck key sig

/-- KEY_WRITE (R457). -/
def execKeyWrite (t : Nat) (path : Path) (slot : Fin 16) (s : State) : Out := s.step' t fun s =>
  s.regBy path .sec SEC_KEY_CTL (2 ^ 31 + 1 * 2 ^ 8 + slot.val)

/-- KEY_ERASE (R457). -/
def execKeyErase (t : Nat) (path : Path) (slot : Fin 16) (s : State) : Out := s.step' t fun s =>
  s.regBy path .sec SEC_KEY_CTL (2 ^ 31 + 2 * 2 ^ 8 + slot.val)

/-- KEY_LOCK (R457). -/
def execKeyLock (t : Nat) (path : Path) (slot : Fin 16) (s : State) : Out := s.step' t fun s =>
  s.regBy path .sec SEC_KEY_CTL (2 ^ 31 + 3 * 2 ^ 8 + slot.val)

/-- KEY_REVOKE (R457). -/
def execKeyRevoke (t : Nat) (path : Path) (slot : Fin 16) (s : State) : Out := s.step' t fun s =>
  s.regBy path .sec SEC_KEY_CTL (2 ^ 31 + 4 * 2 ^ 8 + slot.val)

/-- SVN_ADVANCE (R456). -/
def execSvnAdvance (t : Nat) (path : Path) (svn : Nat) (s : State) : Out := s.step' t fun s =>
  s.regBy path .sec SEC_SVN_CMD (2 ^ 31 + svn % 2 ^ 31)

/-! ### Network and storage -/

/-- ETH_TX_DOORBELL (R437): a write of the TX tail with the ring's entries. -/
def execEthTxDoorbell (t : Nat) (path : Path) (n : Fin 4) (v : Nat) (s : State) : Out := s.step' t fun s =>
  s.regBy path (.eth n) ETH_TX_CTL v

/-- MSEC_SA_INSTALL (R440): GO with the fields of the write. -/
def execMsecSaInstall (t : Nat) (path : Path) (n : Fin 4) (v : Nat) (s : State) : Out := s.step' t fun s =>
  s.regBy path (.eth n) ETH_MSEC_CTL (v ||| 2 ^ 31)

/-- CAN_RECOVER (R460). -/
def execCanRecover (t : Nat) (path : Path) (n : Fin 4) (s : State) : Out := s.step' t fun s =>
  s.regBy path (.can n) CAN_CMD 1

/-- STOR_LINK_UP (R448). -/
def execStorLinkUp (t : Nat) (path : Path) (s : State) : Out := s.step' t fun s => s.regBy path .stor STOR_CMD 1

/-- STOR_SHUTDOWN (R461). -/
def execStorShutdown (t : Nat) (path : Path) (s : State) : Out := s.step' t fun s => s.regBy path .stor STOR_CMD 2

/-- STOR_DOORBELL (R449): the submission tail, or the completion head. -/
def execStorDoorbell (t : Nat) (path : Path) (cq : Bool) (v : Nat) (s : State) : Out := s.step' t fun s =>
  s.regBy path .stor (if cq then STOR_IOCQ_HEAD else STOR_IOSQ_TAIL) v

end Sys2Proof.Machine
end

