-- ==== Sys2Proof/Machine/MbxCmds.lean ====
section
/-!
DEFINITION. The mailbox commands (R338, R342–R347): each row takes the oldest QUEUED command when it is its own,
checks it in the order of R11, and acts. Before them pops and drops, after them the time limits, the load windows
and the extension (R325–R328).
-/

namespace Sys2Proof.Machine

/-! ### Popping and dropping (R340) -/

/-- MBX_POP (R340). -/
def execMbxPop (t : Nat) (path : Path) (s : State) : Out := s.step' t fun s => s.regBy path .mbx MBX_POP 1

/-- RSP_DROP (R340): a final response of slot `i` has stayed unread for `MBX_RSP_TMO`. -/
def execRspDrop (t : Nat) (i : Fin 32) (s : State) : Out := s.step' t fun s =>
  let c : MbxSlot := s.mbx.slots[i]
  if s.domOn PD_NOC ∧ c.st = SL_POSTED ∧ c.final ∧ c.rsp.isSome ∧
      c.postedAt + msU (bitsOf (s.get .mbx MBX_RSP_TMO) 0 16) ≤ s.now then
    ((s.modSlot i fun _ => {}).bump .mbx MBX_RSP_DROP_CNT).raise .mbx 4
  else s

/-- MBX_COMMAND_TIMEOUT (R115, R342, R345, R346): the command in slot `i` reaches its limit; the content library goes
back to its previous state. -/
def execMbxCommandTimeout (t : Nat) (i : Fin 32) (s : State) : Out := s.step' t fun s =>
  let c : MbxSlot := s.mbx.slots[i]
  match c.deadline with
  | none => s
  | some d =>
    if !s.mp.up ∨ s.now < d then s
    else
      let s := if c.wait = .content then
          { s with content := { s.content with st := s.content.prev, next := none } }
        else s
      s.mbxPost i ST_TIMEOUT 0 0 []

/-! ### Taking a command (R338) -/

/-- The oldest QUEUED slot. -/
def State.mbxHead (s : State) : Option (Fin 32) :=
  (List.finRange 32).foldl (fun (b : Option (Fin 32)) i =>
    if (s.mbx.slots[i] : MbxSlot).st ≠ SL_QUEUED then b
    else match b with
      | none => some i
      | some j => if (s.mbx.slots[i] : MbxSlot).order < (s.mbx.slots[j] : MbxSlot).order then some i else b) none

/-- LEN of a command and the bits of its payload words that are not reserved (R342); none for a reserved opcode. -/
def mbxForm (op : Nat) : Option (Nat × List Nat) :=
  if op = 0x01 then some (0, [])
  else if 0x10 ≤ op ∧ op ≤ 0x13 then some (4, [0x1F])
  else if op = 0x14 then some (8, [0x111F, 0xFFFF])
  else if op = 0x20 then some (8, [0xFF, 0xFFFF])
  else if op = 0x21 then some (0, [])
  else if op = 0x22 then some (4, [0xFF])
  else if op = 0x30 then some (12, [allBits, 0xFFFF, 0x3FFFFFFF])
  else if op = 0x31 then some (16, [0x3FFFF, allBits, 0xFFFF, 0x3FFFFFFF])
  else if op = 0x32 then some (12, [0x3, allBits, allBits])
  else if op = 0x40 then some (8, [0x3, allBits])
  else if op = 0x41 then some (4, [0x3])
  else if op = 0x50 then some (4, [allBits])
  else none

/-- A failed check of a command: class, detail, STATE (R338, R339). -/
abbrev MbxFail := Nat × Nat × Nat

/-- The checks that every command has: a known opcode, its LEN, reserved payload bits 0 (R338, R342). -/
def MbxSlot.formFails (c : MbxSlot) : List MbxFail :=
  match mbxForm c.opcode with
  | none => [(ST_BAD_OPCODE, 0, 0)]
  | some (len, masks) =>
    (if c.len = len then [] else [(ST_LEN_ERR, 0, 0)]) ++
      (masks.zipIdx.filterMap fun e => if c.word (e.2 + 1) &&& (allBits - e.1) = 0 then none else some (ST_BAD_PARAM, 0, 0))

/-- A failed check, when `b` holds. -/
def failIf (b : Bool) (cls detail st : Nat) : List MbxFail := if b then [(cls, detail, st)] else []

/-- The command in slot `i` goes to EXEC and is checked; with every check passed it acts. -/
def State.mbxExec (s : State) (i : Fin 32) (fails : List MbxFail) (act : State → State) : State :=
  let s := s.modSlot i fun c => { c with st := SL_EXEC }
  match worstFail ((s.mbx.slots[i] : MbxSlot).formFails ++ fails) with
  | some (cls, d, st) => s.mbxPost i cls d st []
  | none => act s

/-- Commands at the head of the queue that are no row's: a reserved opcode, and POWER_STATE with a target that is
not encoded (R342). -/
def State.mbxOrphans (s : State) : Nat → State
  | 0 => s
  | fuel + 1 =>
    match s.mbxHead with
    | none => s
    | some i =>
      let c : MbxSlot := s.mbx.slots[i]
      if (mbxForm c.opcode).isNone ∨ (c.opcode = 0x41 ∧ bitsOf (c.word 1) 0 2 = 3) then
        (s.mbxExec i [(ST_BAD_PARAM, 0, 0)] id).mbxOrphans fuel
      else s

/-- The Runtime takes the oldest QUEUED command when `own` says that it is this row's. -/
def State.mbxRow (s : State) (own : MbxSlot → Bool) (fails : State → MbxSlot → List MbxFail)
    (act : State → Fin 32 → MbxSlot → State) : State :=
  if !s.mp.up then s
  else
    let s := s.mbxOrphans 32
    match s.mbxHead with
    | none => s
    | some i =>
      let c : MbxSlot := s.mbx.slots[i]
      if own c then s.mbxExec i (fails s c) fun s => act s i c else s

/-- A command of one opcode. -/
def ownOp (op : Nat) (c : MbxSlot) : Bool := c.opcode == op
/-- A command of one opcode whose W1 [1:0] selects it. -/
def ownSub (op sub : Nat) (c : MbxSlot) : Bool := c.opcode == op && bitsOf (c.word 1) 0 2 == sub

/-- The command is accepted (R339) and waits for `w`, at most `lim` units when there is a limit. -/
def State.mbxAccept (s : State) (i : Fin 32) (w : MbxWait) (lim : Option Nat) : State :=
  (s.modSlot i fun c => { c with wait := w, deadline := lim.map (s.now + ·) }).mbxPost i ST_ACCEPTED 0 0 []

/-- The state code of a STATE_REJECT by Basecamp (R342). -/
def State.powerReject (s : State) : MbxFail := (ST_STATE_REJECT, 0, s.pstate)

/-- Checks that the Runtime's stores make: no store in progress, and no PFW (R342, R351). -/
def State.storeFails (s : State) : List MbxFail :=
  failIf s.nvm.job.isSome ST_BUSY MBX_TARGET_BUSY 0 ++
    (if s.flag .basecamp BC_STATUS_PFW then [s.powerReject] else [])

/-- A DMC that does not run (R342). -/
def State.dmcFails (s : State) : List MbxFail := failIf (!s.dmcRunning) ST_STATE_REJECT MBX_DMC_STATE s.dmcState

/-- The content library is not OPEN (R342). -/
def State.contentFails (s : State) : List MbxFail := failIf (s.content.st != 2) ST_STATE_REJECT MBX_CONTENT_STATE s.content.st

/-! ### PING and engine commands (R115, R342, R343) -/

/-- PING (R342). -/
def execPing (t : Nat) (s : State) : Out := s.step' t fun s =>
  s.mbxRow (ownOp 0x01) (fun _ _ => []) fun s i _ =>
    s.mbxPost i ST_OK 0 0 [Config.runtimeVersion.toNat, s.get .mbx MP_LOAD]

/-- A unit: a mirror engine or a scanner. -/
abbrev EngUnit := Fin 4 ⊕ Fin 2

/-- Engine target code T (R342). -/
def unitOfT (t : Nat) : Option EngUnit :=
  match finOf 4 t with
  | some n => some (.inl n)
  | none => if 0x10 ≤ t then (finOf 2 (t - 0x10)).map .inr else none

def targetPage : EngUnit → Page
  | .inl n => .eng n
  | .inr k => .scn k
/-- The number of a unit in what a command waits for: engines 0–3, scanners 4–5. -/
def unitNo : EngUnit → Nat
  | .inl n => n.val
  | .inr k => 4 + k.val
/-- The Lantern of a unit. -/
def unitLtn : EngUnit → Fin 6
  | .inl n => ltnOfEng n
  | .inr k => ltnOfScn k
def State.unitSt (s : State) (u : EngUnit) : Nat := s.get (targetPage u) BLK_STATE

/-- Checks of the target code: encoded, and declared by the package (R342, R351). -/
def State.targetFails (s : State) (t : Nat) : List MbxFail :=
  match unitOfT t with
  | none => [(ST_BAD_PARAM, 0, 0)]
  | some u => failIf (!(targetPage u).declared s.pkg) ST_BAD_PARAM MBX_TARGET_ABSENT 0

def State.unitStart (s : State) : EngUnit → State × CmdResult
  | .inl n => s.engStart n 0 0
  | .inr k => s.scnStartCmd k 0 0
def State.unitStop (s : State) : EngUnit → State × CmdResult
  | .inl n => s.engStop n 0 0
  | .inr k => s.scnStopCmd k 0 0
def State.unitPark (s : State) : EngUnit → State × CmdResult
  | .inl n => s.engPark n 0 0
  | .inr k => s.scnParkCmd k 0 0
def State.unitFaultClear (s : State) : EngUnit → State × CmdResult
  | .inl n => s.engFaultClear n 0 0
  | .inr k => s.scnFaultClear k 0 0

/-- An engine command on its target (R115, R342): refused, it has no effect but the record of an empty program (R136);
else ACCEPTED, with 2 s to complete. -/
def State.unitCmd (s : State) (i : Fin 32) (c : MbxSlot) (w : Nat → MbxWait)
    (f : State → EngUnit → State × CmdResult) : State :=
  match unitOfT (bitsOf (c.word 1) 0 5) with
  | none => s
  | some u =>
    let (s', cls, _) := f s u
    if cls = ST_OK then (f (s.mbxAccept i (w (unitNo u)) (some (secU 2))) u).1
    else if cls = ST_BAD_PARAM then s'.mbxPost i ST_BAD_PARAM 0 0 []
    else s.mbxPost i cls 0 (s.unitSt u) []

/-- ENGINE_START (R114, R115, R216). -/
def execEngineStart (t : Nat) (s : State) : Out := s.step' t fun s =>
  s.mbxRow (ownOp 0x10) (fun s c => s.targetFails (bitsOf (c.word 1) 0 5)) fun s i c => s.unitCmd i c .start State.unitStart

/-- ENGINE_STOP (R114, R342). -/
def execEngineStop (t : Nat) (s : State) : Out := s.step' t fun s =>
  s.mbxRow (ownOp 0x11) (fun s c => s.targetFails (bitsOf (c.word 1) 0 5)) fun s i c => s.unitCmd i c .stop State.unitStop

/-- ENGINE_PARK (R114, R342). -/
def execEnginePark (t : Nat) (s : State) : Out := s.step' t fun s =>
  s.mbxRow (ownOp 0x12) (fun s c => s.targetFails (bitsOf (c.word 1) 0 5)) fun s i c => s.unitCmd i c .park State.unitPark

/-- Both writes of ENGINE_FAULT_CLEAR, or neither (R343). -/
def State.unitClear (s : State) (i : Fin 32) (u : EngUnit) : State :=
  let x := unitLtn u
  let st := s.unitSt u
  if st ≠ E_FAULT then s.mbxPost i ST_STATE_REJECT 0 st []
  else if s.tripped x ∧ s.causePresent x (s.scnGone x) then s.mbxPost i ST_STATE_REJECT MBX_ILK_CAUSE st []
  else
    let (s', cls, _) := (s.ilkClear .mp x).unitFaultClear u
    if cls = ST_OK then s'.mbxPost i ST_OK 0 0 [] else s.mbxPost i ST_STATE_REJECT 0 st []

/-- ENGINE_FAULT_CLEAR (R343). -/
def execEngineFaultClear (t : Nat) (s : State) : Out := s.step' t fun s =>
  s.mbxRow (ownOp 0x13) (fun s c => s.targetFails (bitsOf (c.word 1) 0 5)) fun s i c =>
    match unitOfT (bitsOf (c.word 1) 0 5) with
    | none => s
    | some u => s.unitClear i u

/-! ### PROGRAM_LOAD (R344) -/

/-- Words A and B of P240-16, in plane order (R133). -/
def p240d16 : List (Nat × Nat) :=
  [(0x107, 0x7E10), (0x011, 0x1F86000), (0x106, 0x3F10), (0x010, 0xFC3000), (0x105, 0x1F80), (0x00F, 0x7E1800),
    (0x104, 0x0FC0), (0x00E, 0x3F0C00), (0x103, 0x07E0), (0x00D, 0x1F8600), (0x102, 0x03F0), (0x00C, 0xFC300),
    (0x009, 0x1F860), (0x008, 0x0FC30), (0x00B, 0x7E180), (0x00A, 0x3F0C0)]

/-- Words A and B of P240-18, in plane order (R134). -/
def p240d18 : List (Nat × Nat) :=
  [(0x507, 0x1F840), (0x011, 0x1F86000), (0x506, 0x0FC40), (0x505, 0x07E00), (0x010, 0xFC3000), (0x504, 0x03F00),
    (0x503, 0x01F80), (0x00F, 0x7E1800), (0x502, 0x00FC0), (0x501, 0x007E0), (0x00E, 0x3F0C00), (0x500, 0x003F0),
    (0x00A, 0x3F0C0), (0x00D, 0x1F8600), (0x009, 0x1F860), (0x008, 0x0FC30), (0x00C, 0xFC300), (0x00B, 0x7E180)]

/-- A plane program: P_nom in ns and words A and B. -/
abbrev PlaneTable := Nat × List (Nat × Nat)

/-- A reduced form that the Runtime supplies (R138). -/
def reducedTable (form : Nat) : PlaneTable :=
  ((Config.reducedProgram form 1).toNat, (List.range ((Config.reducedProgram form 0).toNat % 33)).map fun k =>
    ((Config.reducedProgram form (2 + 2 * k)).toNat, (Config.reducedProgram form (3 + 2 * k)).toNat))

/-- A PROGRAM section's table (R452). -/
def Section.table (x : Section) : PlaneTable :=
  let be (o : Nat) : Nat := beNat ((x.bytes.drop o).take 4)
  (be 4, (List.range (be 0)).map fun k => (be (8 + 8 * k), be (12 + 8 * k)))

/-- The section of a type and index in the package in use. -/
def State.section? (s : State) (type index : Nat) : Option Section :=
  s.content.pkg.find? fun x => x.type == type && x.index == index

/-- The program of a number (R344). -/
def State.program? (s : State) (n : Nat) : Option PlaneTable :=
  if n = 1 then some (0x3F940B, p240d16)
  else if n = 2 then some (0x3F940B, p240d18)
  else if n = 3 then some (reducedTable 0)
  else if n = 4 then some (reducedTable 1)
  else if 0x1000 ≤ n then (s.section? 0x10 (n - 0x1000)).map Section.table
  else none

/-- The table, COUNT and P_nom as RWS fields of GRDn (R344). -/
def State.programStage (s : State) (n : Fin 4) (prg1 : Bool) (p : PlaneTable) : State :=
  let w (s : State) (f : RF) (v : Nat) : State := s.busWrite .mp ((Page.grd n).base + f.off) 4 v
  let s := p.2.zipIdx.foldl (fun (s : State) e =>
    w (w s (if prg1 then GRD_PRG1_A e.2 else GRD_PRG0_A e.2) e.1.1) (if prg1 then GRD_PRG1_B e.2 else GRD_PRG0_B e.2) e.1.2) s
  let s := w s (if prg1 then GRD_PRG1_CTRL else GRD_PRG0_CTRL) p.2.length
  { w s (if prg1 then GRD_PRG1_PNOM else GRD_PRG0_PNOM) p.1 with out := [] }

/-- Checks of PROGRAM_LOAD (R342, R344). -/
def State.programFails (s : State) (c : MbxSlot) : List MbxFail :=
  let tgt := bitsOf (c.word 1) 0 5
  let prg := bitsOf (c.word 2) 0 16
  (if 0x1000 ≤ prg then s.contentFails else []) ++
    failIf ((s.program? prg).isNone && (decide (prg < 0x1000) || s.content.st == 2)) ST_BAD_PARAM MBX_PRG_UNKNOWN 0 ++
    (match finOf 4 tgt with
    | none => [(ST_BAD_PARAM, 0, 0)]
    | some n =>
      if !(Page.eng n).declared s.pkg then [(ST_BAD_PARAM, MBX_TARGET_ABSENT, 0)]
      else
        let st := s.engState n
        failIf (s.commitPending (.eng n)) ST_BUSY MBX_TARGET_BUSY 0 ++
          failIf (st == E_HOLD || st == E_FAULT) ST_STATE_REJECT 0 st)

/-- PROGRAM_LOAD (R344). -/
def execProgramLoad (t : Nat) (s : State) : Out := s.step' t fun s =>
  s.mbxRow (ownOp 0x14) State.programFails fun s i c =>
    match finOf 4 (bitsOf (c.word 1) 0 5), s.program? (bitsOf (c.word 2) 0 16) with
    | some n, some p =>
      let s := s.programStage n (bitOf (c.word 1) 8) p
      if !bitOf (c.word 1) 12 then s.mbxPost i ST_OK 0 0 []
      else
        let w : MbxWait := .commit (Group.eng n).home.base
        let s := if s.engFrames n then s.mbxAccept i w none else s.modSlot i fun c => { c with wait := w }
        s.commitGo (.eng n)
    | _, _ => s

/-! ### Calibration, records, time (R342, R418, R426) -/

/-- CAL_RUN (R342, R418). -/
def execCalRun (t : Nat) (s : State) : Out := s.step' t fun s =>
  s.mbxRow (ownOp 0x20) (fun s c =>
      let cls := bitsOf (c.word 1) 0 8
      let inst := bitsOf (c.word 2) 0 16
      failIf s.cal.run.isSome ST_BUSY MBX_TARGET_BUSY 0 ++
        (if cls = 0 ∨ 9 < cls then [(ST_BAD_PARAM, 0, 0)]
        else failIf (!s.calDeclared cls inst) ST_BAD_PARAM MBX_TARGET_ABSENT 0))
    fun s i c =>
      ((s.mbxAccept i .cal (some (secU 10))).calCmd .mp (2 ^ 31 + bitsOf (c.word 2) 0 3 * 2 ^ 16 + bitsOf (c.word 1) 0 4)).1

/-- Payloads that fit the slots of their classes (R424). -/
def fitRecords (l : List (Nat × List Byte)) : List (Nat × List Byte) :=
  l.filter fun e => decide (e.1 ≤ 0x10) && decide (e.2.length ≤ recSize e.1 - 32)

/-- CAL_STORE (R342, R426): `todo` holds the changed calibration records of the Runtime's image, class and payload. -/
def execCalStore (t : Nat) (todo : List (Nat × List Byte)) (s : State) : Out := s.step' t fun s =>
  s.mbxRow (ownOp 0x21) (fun s _ => s.storeFails) fun s i _ =>
    (s.mbxAccept i .store none).storeBegin (fitRecords (todo.filter fun e => decide (e.1 ≤ 0x0D)))

/-- NVM_COMMIT (R342, R426): `payload` is the named class in the Runtime's image. -/
def execNvmCommit (t : Nat) (payload : List Byte) (s : State) : Out := s.step' t fun s =>
  s.mbxRow (ownOp 0x22) (fun s c => failIf (decide (0x10 < bitsOf (c.word 1) 0 8)) ST_BAD_PARAM 0 0 ++ s.storeFails)
    fun s i c => (s.mbxAccept i .store none).storeBegin (fitRecords [(bitsOf (c.word 1) 0 8, payload)])

/-- TIME_SET (R274, R342): the SET acts on the next tick, and the completion follows it. -/
def execTimeSet (t : Nat) (s : State) : Out := s.step' t fun s =>
  s.mbxRow (ownOp 0x30) (fun _ c => failIf (decide (1000000000 ≤ bitsOf (c.word 3) 0 30)) ST_BAD_PARAM 0 0) fun s i c =>
    let sec := bitsOf (c.word 2) 0 16 * 2 ^ 32 + c.word 1
    let s : State := { s with clock := { s.clock with adj := some (.set sec (bitsOf (c.word 3) 0 30)) } }
    (s.at ((s.now / tickU + 1) * tickU)).mbxPost i ST_OK 0 0 []

/-! ### SEQ_START (R342, R453) -/

/-- The entries of SCHED that are FREE, lowest first. -/
def State.schedFree (s : State) : List Nat := (List.range 256).filter fun i => (s.schedGet i).st == .free

/-- Entry `k` of a SEQUENCE as a SCHED entry (R453); none when its VALUE names no section, or SCHED would not take it
(R285). `win` is the late window. -/
def State.seqEntry (s : State) (x : Section) (k start policy win : Nat) : Option SchedEntry :=
  let b := x.bytes.drop (4 + 24 * k)
  let be (o n : Nat) : Nat := beNat ((b.drop o).take n)
  let act := be 8 1
  let v := be 16 4
  let value := if bitOf act 7 then (s.section? (v / 2 ^ 16) (v % 2 ^ 16)).map fun y => y.addr / 64 else some v
  let action := act % 16
  let period := be 20 4
  match value with
  | none => none
  | some value =>
    if 4 < action ∨ !s.schedTargetOk action (be 12 4) ∨ (period ≠ 0 ∧ (period < 10 ∨ 100000000 < period)) then none
    else
      some {
        st := .armed, time := start + be 0 8, action := action, policy := policy, target := be 12 4, value := value
        window := win, period := period, path := .mp }

/-- The SCHED entries of a sequence of the open content: none when one of them cannot be armed. -/
def State.seqEntries (s : State) (c : MbxSlot) : Option (List SchedEntry) :=
  match s.section? 0x20 (bitsOf (c.word 1) 0 16) with
  | none => none
  | some x =>
    let start := (bitsOf (c.word 3) 0 16 * 2 ^ 32 + c.word 2) * 1000000000 + bitsOf (c.word 4) 0 30
    let policy := bitsOf (c.word 1) 16 2
    let win := 1 + s.freeWord.toNat % 16000000
    (List.range (beNat (x.bytes.take 4))).mapM fun k => s.seqEntry x k start policy win

/-- Checks of SEQ_START (R342). -/
def State.seqFails (s : State) (c : MbxSlot) : List MbxFail :=
  failIf (bitsOf (c.word 1) 16 2 == 3 || decide (1000000000 ≤ bitsOf (c.word 4) 0 30)) ST_BAD_PARAM 0 0 ++
    s.contentFails ++ failIf (s.timeState == 0) ST_STATE_REJECT 0 0 ++
    (if s.content.st ≠ 2 then []
    else match s.seqEntries c with
      | none => [(ST_BAD_PARAM, 0, 0)]
      | some l => failIf (decide (s.schedFree.length < l.length)) ST_BUSY MBX_SCHED_FULL 0)

/-- SEQ_START (R342, R453): the late window of the entries is a free value where the policy uses one. -/
def execSeqStart (t : Nat) (s : State) : Out := s.step' t fun s =>
  s.mbxRow (ownOp 0x31) State.seqFails fun s i c =>
    match s.seqEntries c with
    | none => s
    | some l =>
      let s := ((s.schedFree.zip l).foldl (fun (s : State) e => s.schedStore e.1 e.2) s).tookFree
      s.mbxPost i ST_OK 0 0 []

/-! ### The content library (R345, R451–R454) -/

/-- CONTENT_OPEN (R342, R345). -/
def execContentOpen (t : Nat) (s : State) : Out := s.step' t fun s =>
  s.mbxRow (ownOp 0x32) (fun s c =>
      let src := bitsOf (c.word 1) 0 2
      failIf (decide (1 < src)) ST_BAD_PARAM 0 0 ++
        failIf (src == 0 && !Page.declared s.pkg .stor) ST_BAD_PARAM MBX_TARGET_ABSENT 0 ++
        failIf (s.content.st == 1) ST_STATE_REJECT MBX_CONTENT_STATE 1 ++ s.dmcFails)
    fun s i c =>
      let s : State := { s with content := { s.content with
        prev := s.content.st, st := 1, opening := (bitsOf (c.word 1) 0 2, c.word 2, c.word 3), next := none } }
      s.mbxAccept i .content (some (secU 5))

/-- An entry of an HQP directory (R451). -/
structure DirEntry where
  type : Nat
  index : Nat
  engine : Nat
  offset : Nat
  len : Nat
  zeros : Bool
  deriving DecidableEq, Repr

/-- A field of `n` bytes of a package, big-endian. -/
def pkgBE (b : List Byte) (o n : Nat) : Nat := beNat ((b.drop o).take n)

/-- The directory of a package (R451). -/
def pkgDir (b : List Byte) : List DirEntry :=
  (List.range (pkgBE b 6 2)).map fun k =>
    let o := 96 + 48 * k
    { type := pkgBE b o 2, index := pkgBE b (o + 2) 2, engine := pkgBE b (o + 4) 1, offset := pkgBE b (o + 8) 4
      len := pkgBE b (o + 12) 4, zeros := pkgBE b (o + 5) 3 == 0 }

/-- The rules of R451 for TOTAL_LEN, DIR_COUNT, OFFSET and LENGTH; `limit` is the length of the CONTENT_OPEN in bytes. -/
def pkgShape (b : List Byte) (limit : Nat) : Bool :=
  let n := pkgBE b 6 2
  let total := pkgBE b 16 4
  let d := pkgDir b
  decide (1 ≤ n) && decide (n ≤ 1024) && total % 4096 == 0 && decide (total ≤ limit) && decide (96 + 48 * n ≤ total) &&
    d.all (fun e => e.offset % 64 == 0 && decide (96 + 48 * n ≤ e.offset) && decide (e.offset + e.len ≤ total)) &&
    (List.range n).all fun i => (List.range i).all fun j =>
      match d[i]?, d[j]? with
      | some x, some y => decide (x.offset + x.len ≤ y.offset) || decide (y.offset + y.len ≤ x.offset) ||
          x.len == 0 || y.len == 0
      | _, _ => true

/-- Bytes of one element of a surface FORMAT (R452). -/
def fmtBytes (f : Nat) : Nat := if f = 1 then 2 else if f = 2 then 1 else if f = 3 then 4 else 0

/-- A surface section: its 16-byte header, the FORMAT that its type has, and its rows (R452). -/
def surfaceOk (c : List Byte) (fmt : Nat) : Bool :=
  pkgBE c 4 1 == fmt && pkgBE c 5 11 == 0 && c.length == 16 + pkgBE c 0 2 * pkgBE c 2 2 * fmtBytes fmt

/-- A section's content agrees with its TYPE and LENGTH (R452–R454). -/
def sectionOk (type : Nat) (c : List Byte) : Bool :=
  if type = 0x01 ∨ type = 0x02 ∨ type = 0x30 ∨ type = 0x31 then surfaceOk c 1
  else if type = 0x03 then surfaceOk c 3
  else if type = 0x04 then c.length == 21320
  else if type = 0x05 then c.length == 8262
  else if type = 0x10 then decide (1 ≤ pkgBE c 0 4) && decide (pkgBE c 0 4 ≤ 32) && c.length == 8 + 8 * pkgBE c 0 4
  else if type = 0x20 then
    decide (1 ≤ pkgBE c 0 4) && decide (pkgBE c 0 4 ≤ 256) && c.length == 4 + 24 * pkgBE c 0 4 &&
      (List.range (pkgBE c 0 4)).all fun k => pkgBE c (4 + 24 * k + 9) 3 == 0
  else if type = 0x40 then c.length == 16384 + 32
  else if type = 0xF0 then c.length == 64
  else false

/-- Elements of `n` bytes turned to little-endian (R65). -/
def swapElems (n : Nat) (c : List Byte) : List Byte :=
  if n ≤ 1 then c
  else (List.range (c.length / n)).flatMap fun k => ((c.drop (k * n)).take n).reverse

/-- The rows of a surface with the stride of R65: a multiple of 64 bytes for the layers in DRAM, none for images of
Narpa and matrix ports. -/
def surfaceRows (c : List Byte) (pad : Bool) : List Byte :=
  let n := fmtBytes (pkgBE c 4 1)
  let w := pkgBE c 0 2 * n
  let extra := if pad then (64 - w % 64) % 64 else 0
  (List.range (pkgBE c 2 2)).flatMap fun r =>
    swapElems n ((c.drop (16 + r * w)).take w) ++ List.replicate extra 0

/-- The decoded form of a section as it lies in DRAM (R65, R78, R81, R233, R252). -/
def decodeSection (type : Nat) (c : List Byte) : List Byte :=
  if type = 0x01 ∨ type = 0x02 ∨ type = 0x03 then surfaceRows c true
  else if type = 0x30 ∨ type = 0x31 then surfaceRows c false
  else if type = 0x04 then swapElems 4 c
  else if type = 0x05 then swapElems 2 c
  else c

/-- The first failed check of R454, with the directory entry of check 0x05; none when all pass. -/
def State.pkgFail (s : State) (p : PkgIn) (b : List Byte) (limit : Nat) : Option (Nat × Nat) :=
  let d := pkgDir b
  let slot := pkgBE b 20 1
  let content (e : DirEntry) : List Byte := (b.drop e.offset).take e.len
  let bad := (List.range d.length).find? fun k =>
    p.badHash.contains k && (match d[k]? with | some e => e.type != 0xF0 | none => false)
  if pkgBE b 0 4 ≠ 0x48515031 ∨ pkgBE b 4 2 ≠ 1 then some (1, 0)
  else if !pkgShape b limit then some (2, 0)
  else if !((slot == 3 || slot == 4) && (match finOf 16 slot with
      | some k => (s.sec.keys[k] : KeySlot).valid && !(s.sec.keys[k] : KeySlot).revoked
      | none => false)) then some (3, 0)
  else if !(p.key && p.sig && d.any fun e => e.type == 0xF0 && e.len == 64) then some (4, 0)
  else match bad with
    | some k => some (5, k)
    | none =>
      if !d.all fun e => sectionOk e.type (content e) then some (6, 0)
      else if p.place.length < d.length ∨ p.place.any fun a => a % 64 != 0 then some (7, 0)
      else none

/-- The open of a package fails (R345, R454): the library returns to its previous state. -/
def State.contentFail (s : State) (detail : Nat) (result : List Nat) : State :=
  let s : State := { s with content := { s.content with st := s.content.prev, next := none } }
  (List.finRange 32).foldl (fun (s : State) i =>
    if (s.mbx.slots[i] : MbxSlot).wait == .content then s.mbxPost i ST_HW_FAULT detail 0 result else s) s

/-- A package passed: its decoded sections are in DRAM, and it replaces the one in use at the next composition start,
or at once while the compositor is OFF (R345). -/
def State.contentPass (s : State) (p : PkgIn) (b : List Byte) : State :=
  let secs : List (Section × List Byte) := ((pkgDir b).zip p.place).map fun e =>
    let c := (b.drop e.1.offset).take e.1.len
    ({ type := e.1.type, index := e.1.index, engine := e.1.engine, addr := e.2
       bytes := if e.1.type = 0x10 ∨ e.1.type = 0x20 then c else [] }, decodeSection e.1.type c)
  let s : State := { s with
    dram := secs.foldl (fun m x => memSetBytes m x.1.addr x.2) s.dram
    content := { s.content with next := some (secs.map (·.1), pkgBE b 12 4) } }
  if s.compState = COMP_OFF then s.contentSwap else s

/-- CONTENT_OPEN_DONE (R345, R451–R454): the package has been read and checked. -/
def execContentOpenDone (t : Nat) (p : PkgIn) (s : State) : Out := s.step' t fun s =>
  if !s.mp.up ∨ s.content.st ≠ 1 ∨ s.content.next.isSome then s
  else
    let (src, off, len) := s.content.opening
    let b := if src = 0 then p.bytes else memBytes s.nvmMem (nvmContentBase + 4096 * off) (4096 * len)
    let readOk := p.read && (if src = 0 then s.storState == 3
      else s.domOn PD_NVM && decide (nvmContentBase + 4096 * (off + len) ≤ nvmSize))
    if !readOk then s.contentFail MBX_NO_STORAGE []
    else match s.pkgFail p b (4096 * len) with
      | some (code, k) => s.contentFail MBX_AUTH (if code = 5 then [0, code, k] else [0, code])
      | none => s.contentPass p b

/-! ### LOG_CONTROL (R342, R450) -/

/-- LOG_CONTROL STOP (R342): the event log and the recorder end. -/
def execLogStop (t : Nat) (s : State) : Out := s.step' t fun s =>
  s.mbxRow (ownSub 0x40 0) (fun _ _ => []) fun s i _ =>
    ({ s with mp := { s.mp with logOn := false, recRun := false } } : State).mbxPost i ST_OK 0 0 []

/-- LOG_CONTROL EVENT_LOG (R342). -/
def execLogEventLog (t : Nat) (s : State) : Out := s.step' t fun s =>
  s.mbxRow (ownSub 0x40 1) (fun _ _ => []) fun s i c =>
    ({ s with mp := { s.mp with logOn := true, logMask := c.word 2 } } : State).mbxPost i ST_OK 0 0 []

/-- LOG_CONTROL RECORDER (R342, R450): STOR present and DMC in RUN. -/
def execLogRecorder (t : Nat) (s : State) : Out := s.step' t fun s =>
  s.mbxRow (ownSub 0x40 2) (fun s _ =>
      failIf (!Page.declared s.pkg .stor) ST_BAD_PARAM MBX_TARGET_ABSENT 0 ++ s.dmcFails) fun s i c =>
    ({ s with mp := { s.mp with recRun := true, logMask := c.word 2 } } : State).mbxPost i ST_OK 0 0 []

/-- LOG_CONTROL FLUSH (R342): the entries logged so far leave the log. -/
def execLogFlush (t : Nat) (s : State) : Out := s.step' t fun s =>
  s.mbxRow (ownSub 0x40 3) (fun _ _ => []) fun s i _ =>
    ({ s with mp := { s.mp with log := [] } } : State).mbxPost i ST_OK 0 0 []

/-! ### POWER_STATE (R346) -/

/-- POWER_STATE RUN (R346, R364). -/
def execPowerStateRun (t : Nat) (s : State) : Out := s.step' t fun s =>
  s.mbxRow (ownSub 0x41 0) (fun s _ => if s.pwrLegal 0 then [] else [s.powerReject]) fun s i _ =>
    (s.mbxAccept i (.power PS_RUN) (some (secU 1))).pwrGo 0

/-- POWER_STATE STANDBY (R346, R364). -/
def execPowerStateStandby (t : Nat) (s : State) : Out := s.step' t fun s =>
  s.mbxRow (ownSub 0x41 1) (fun s _ => if s.pwrLegal 1 then [] else [s.powerReject]) fun s i _ =>
    (s.mbxAccept i (.power PS_STANDBY) (some (secU 1))).pwrGo 1

/-- The state of the first engine or scanner that is not OFF. -/
def State.unitOn (s : State) : Option Nat :=
  ((List.finRange 4).map (fun n => s.engState n) ++ (List.finRange 2).map fun k => s.scnState k).find? (· != 0)

/-- POWER_STATE BIVOUAC (R346, R428): `todo` holds the changed records, which are stored before the completion. -/
def execPowerStateBivouac (t : Nat) (todo : List (Nat × List Byte)) (s : State) : Out := s.step' t fun s =>
  s.mbxRow (ownSub 0x41 2) (fun s _ =>
      match s.unitOn with
      | some st => [(ST_STATE_REJECT, 0, st)]
      | none => if s.pwrLegal 2 then [] else [s.powerReject]) fun s i _ =>
    (s.mbxAccept i .bivStore none).storeBegin (fitRecords todo)

/-- BIVOUAC_ENTRY (R346): the completion was popped or sent, or 100 ms have passed since it was posted. -/
def execBivouacEntry (t : Nat) (s : State) : Out := s.step' t fun s =>
  match s.mp.biv with
  | none => s
  | some b =>
    let gone := if b.icp then
        (match finOf 4 b.port with
        | some n => !((s.eth[n] : EthPort).replies.any fun r => r.op == 0x83 && r.ref == b.ref && r.key == b.key)
        | none => true)
      else (match finOf 32 b.slot with
        | some i => (s.mbx.slots[i] : MbxSlot).wait != .bivouac
        | none => true)
    if s.mp.up && (gone || decide (b.since + msU 100 ≤ s.now)) then
      let s : State := { s with mp := { s.mp with biv := none } }
      if s.pwrLegal 2 then s.pwrGo 2 else s
    else s

/-! ### DIAG_SNAPSHOT (R347) -/

/-- The declared pages in the order of the capability list (R51). -/
def capPages (k : Package) : List Page :=
  ((capEntries k).flatMap fun e => (List.range e.count).filterMap fun i => Page.ofAddr (e.base + 0x1000 * i)).foldl
    (fun l p => if l.contains p then l else l ++ [p]) []

/-- Word 2 of the summary: states of engines and scanners, 0xF for an absent one. -/
def State.diagStates (s : State) : Nat :=
  let nib (p : Page) : Nat := if p.declared s.pkg then s.get p BLK_STATE % 16 else 0xF
  (List.finRange 4).foldl (fun v n => v + nib (.eng n) * 16 ^ n.val) 0 +
    (List.finRange 2).foldl (fun v k => v + nib (.scn k) * 16 ^ (4 + k.val)) 0

/-- One page is copied with FREEZE set, and FREEZE is cleared. -/
def State.diagPage (s : State) (a : Nat) (p : Page) : State :=
  let s := s.freezeWrite p true
  let s : State := { s with dram := (List.range 512).foldl (fun m k => memSetLE m (a + 4 * k) 4 (s.pageRead .mp p (4 * k))) s.dram }
  s.freezeWrite p false

/-- The copy of all declared pages behind its header. -/
def State.diagDump (s : State) (a : Nat) : State :=
  let ps := capPages s.pkg
  let head := [0x534E4150, ps.length, s.localNs, s.localSec % 2 ^ 32, s.localFract * 2 ^ 16 + s.localSec / 2 ^ 32] ++ List.replicate 11 0
  let s : State := { s with dram := head.zipIdx.foldl (fun m e => memSetLE m (a + 4 * e.2) 4 e.1) s.dram }
  ps.zipIdx.foldl (fun (s : State) e => s.diagPage (a + 64 + 2048 * e.2) e.1) s

/-- DIAG_SNAPSHOT (R347). -/
def execDiagSnapshot (t : Nat) (s : State) : Out := s.step' t fun s =>
  s.mbxRow (ownOp 0x50) (fun s c => if c.word 1 = 0 then [] else s.dmcFails) fun s i c =>
    let s := if c.word 1 = 0 then s else s.diagDump (c.word 1 * 64)
    let trips := ((List.finRange 6).filter fun x => s.tripped x).length
    s.mbxPost i ST_OK 0 0 [s.diagStates, s.get .mbx MP_LOAD, trips]

/-! ### Load and the extension (R325–R328) -/

/-- MP_LOAD_WINDOW (R328): a 100 ms window ends with the load of the MP and of the extension in percent. -/
def execMpLoadWindow (t : Nat) (load ext : Nat) (s : State) : Out := s.step' t fun s =>
  if !s.domOn PD_NOC ∨ s.now < s.mp.loadFrom + msU 100 then s
  else
    let l := min load 100
    let s : State := { s with mp := { s.mp with loadFrom := s.now } }
    let s := s.put .mbx MP_LOAD (ofBool (decide (95 ≤ l)) * 2 ^ 31 + min ext 100 * 2 ^ 16 + l)
    let s := s.keepMax .mbx MP_LOAD_PEAK l
    if 95 ≤ l then s.raise .mbx 7 else s

/-- EXT_BUDGET_PERIOD (R325): the next 10 ms period begins. -/
def execExtBudgetPeriod (t : Nat) (s : State) : Out := s.step' t fun s =>
  if s.now < s.mp.extFrom + msU 10 then s
  else { s with mp := { s.mp with extFrom := s.now, extCut := false } }

/-- EXT_PREEMPT (R325): the budget of the period is used up. -/
def execExtPreempt (t : Nat) (s : State) : Out := s.step' t fun s =>
  if s.pathLive .ext then ({ s with mp := { s.mp with extCut := true } } : State).bump .mbx (MP_DL_MISS 6) else s

/-- EXT_FAULT (R327): an access of the extension that R326 does not allow. -/
def execExtFault (t : Nat) (a : Nat) (write : Bool) (s : State) : Out := s.step' t fun s =>
  if s.extMay a write then s else s.access .ext a write id

end Sys2Proof.Machine
end

