-- ==== Sys2Proof/Machine/HostCmds.lean ====
section
/-!
DEFINITION. The access paths of a host: HSPI transactions (R348), ICP requests (R349, R441–R445) and bulk transfers
(R446).
-/

namespace Sys2Proof.Machine

/-! ### Several words in one access (R348, R444) -/

/-- Words written one after the other, each an access of its own; answers the indices that failed. -/
def State.writeWords (s : State) (path : Path) (a : Nat) (ws : List Nat) : State × List Nat :=
  let (s, outs, bad) := ws.zipIdx.foldl (fun (acc : State × List (Option Word) × List Nat) e =>
    let s := acc.1.busWrite path (a + 4 * e.2) 4 e.1
    (s, acc.2.1 ++ s.out, if s.out.contains none then acc.2.2 ++ [e.2] else acc.2.2)) (s, [], [])
  ({ s with out := outs }, bad)

/-- `n` words read one after the other: the words, 0 where an access failed, and the indices that failed. -/
def State.readWords (s : State) (path : Path) (a n : Nat) : State × List Nat × List Nat :=
  let (s, outs, bad) := (List.range n).foldl (fun (acc : State × List (Option Word) × List Nat) k =>
    let s := acc.1.busRead path (a + 4 * k) 4
    (s, acc.2.1 ++ s.out, if s.out.contains none then acc.2.2 ++ [k] else acc.2.2)) (s, [], [])
  ({ s with out := outs }, outs.map fun o => match o with | some w => w.toNat | none => 0, bad)

/-! ### HSPI (R348) -/

/-- The end of a transaction: its RESULT and INDEX, and what the device sent in as many bytes as the host clocked. -/
def State.hspiEnd (s : State) (result index len : Nat) (tail : List Byte) : State :=
  let head : List Byte := [BitVec.ofNat 8 s.hspi.result, BitVec.ofNat 8 s.hspi.index] ++ List.replicate 6 0
  let miso := (head ++ tail ++ List.replicate len 0).take len
  { s with hspi := { result := result, index := index, miso := miso } }

/-- A READ whose header is good (R348): every word is read before STATUS is sent. -/
def State.hspiRead (s : State) (b : List Byte) (count a : Nat) : State :=
  let wait : List Byte := List.replicate 4 0xFF
  if b.length < 12 then s.hspiEnd 4 0 b.length wait
  else
    let (s, ws, bad) := s.readWords .hspi a count
    let status := if bad.isEmpty then 0 else 3
    let data := BitVec.ofNat 8 status :: ws.flatMap wordBE
    let cut := decide (b.length < 12 + data.length + 2)
    s.hspiEnd (if cut then 4 else status) (if cut then 0 else bad.headD 0) b.length (wait ++ data ++ beBytes 2 (crc16 data))

/-- A WRITE whose header is good (R348): it takes effect when its data CRC checks. -/
def State.hspiWrite (s : State) (b : List Byte) (count a : Nat) : State :=
  let data := (b.drop 8).take (4 * count)
  if b.length < 8 + 4 * count + 2 then s.hspiEnd 4 0 b.length []
  else if beNat ((b.drop (8 + 4 * count)).take 2) ≠ crc16 data then s.hspiEnd 2 0 b.length []
  else
    let (s, bad) := s.writeWords .hspi a ((List.range count).map fun k => beNat ((data.drop (4 * k)).take 4))
    s.hspiEnd (if bad.isEmpty then 0 else 3) (bad.headD 0) b.length []

/-- A transaction from `HSPI_CS_N` low to high, the bytes the host sent; `op` is the row's OP, and one with the other OP
is not this row's. A header cut short, with a wrong CRC or an unknown OP ends with no access. -/
def State.hspiRun (s : State) (op : Nat) (b : List Byte) : State :=
  let s : State := { s with out := [] }
  let o := beNat (b.take 1)
  let count := beNat ((b.drop 1).take 1) % 64 + 1
  let a := beNat ((b.drop 2).take 4)
  if !s.domOn PD_NOC then s
  else if b.length < 8 then s.hspiEnd 4 0 b.length []
  else if beNat ((b.drop 6).take 2) ≠ crc16 (b.take 6) then s.hspiEnd 1 0 b.length []
  else if o ≠ 0x0B ∧ o ≠ 0x02 then s.hspiEnd 5 0 b.length []
  else if o ≠ op then s
  else if o = 0x0B then s.hspiRead b count a
  else s.hspiWrite b count a

/-- HSPI_READ (R348). -/
def execHspiRead (t : Nat) (mosi : List Byte) (s : State) : Out := s.step' t fun s => s.hspiRun 0x0B mosi

/-- HSPI_WRITE (R348). -/
def execHspiWrite (t : Nat) (mosi : List Byte) (s : State) : Out := s.step' t fun s => s.hspiRun 0x02 mosi

/-! ### ICP requests (R441–R445) -/

def NET_RANGE : Nat := 0x10
def NET_BUS_ACCESS : Nat := 0x20
def NET_BULK_BUSY : Nat := 0x21
def NET_BULK_RANGE : Nat := 0x22
def NET_BULK_STATE : Nat := 0x23
def NET_BULK_CRC : Nat := 0x24
def NET_BULK_IDLE : Nat := 0x25

/-- OPs of R444. -/
def icpOps : List Nat := [0x01, 0x02, 0x03, 0x10, 0x11, 0x12, 0x13]
def NetPkt.key (f : NetPkt) : Nat := frBE f.bytes 2 1
def NetPkt.seq (f : NetPkt) : Nat := frBE f.bytes 4 4
def NetPkt.op (f : NetPkt) : Nat := frBE f.bytes 12 1
/-- The payload of an ICP request: between header and TAG (R441). -/
def NetPkt.payload (f : NetPkt) : List Byte := (f.bytes.drop 20).take (f.bytes.length - 28)
/-- Step 1 of R442: MAGIC, and a length that covers header and TAG. -/
def NetPkt.icpForm (f : NetPkt) : Bool := frBE f.bytes 0 2 == 0x4943 && decide (28 ≤ f.bytes.length)

/-- A reply to a request. -/
def State.icpAnswer (s : State) (n : Fin 4) (f : NetPkt) (status detail : Nat) (payload : List Byte) : State :=
  s.icpReply n.val f.op status detail f.seq f.key payload

/-- A request that fails authentication (R442): counted, and answered AUTH_FAIL at most 16 times a second, with a TAG of
zeros when its slot is not usable. -/
def State.icpAuthFail (s : State) (n : Fin 4) (f : NetPkt) (step : Nat) : State :=
  let p := Page.eth n
  let s := if step = 4 then (s.bump p ETH_REPLAY_CNT).raise p ETH_EV_REPLAY
    else (s.bump p ETH_ICP_AUTH_CNT).raise p ETH_EV_ICP_AUTH
  let recent := s.eth[n].authAt.filter fun a => decide (s.now < a + secU 1)
  if 16 ≤ recent.length then s
  else
    let s := s.modEth n fun e => { e with authAt := recent ++ [s.now] }
    let s := s.icpAnswer n f ST_AUTH_FAIL 0 []
    s.modEth n fun e => { e with replies := e.replies.zipIdx.map fun r =>
      if r.2 + 1 = e.replies.length then { r.1 with zeroTag := step == 2 } else r.1 }

/-- The oldest request of a port is taken when it is of OP `op`, or one that no row takes: malformed, or of an unknown
OP. It is authenticated; with a valid one, `act` runs. -/
def State.icpTake (s : State) (n : Fin 4) (op : Nat) (act : State → NetPkt → State) : Nat → State
  | 0 => s
  | fuel + 1 =>
    match s.eth[n].reqs with
    | [] => s
    | f :: rest =>
      let pop (s : State) : State := s.modEth n fun e => { e with reqs := rest }
      if !f.icpForm then (pop s).icpTake n op act fuel
      else if s.lowerFirst n f ∨ (f.op ≠ op ∧ icpOps.contains f.op) then s
      else
        let (s, r) := (pop s).authenticate 0 n f
        match r with
        | some step =>
          let s := s.icpAuthFail n f step
          if f.op = op then s else s.icpTake n op act fuel
        | none =>
          if f.op = op then act s f
          else (s.icpAnswer n f ST_BAD_OPCODE 0 []).icpTake n op act fuel

/-- An ICP row: PD_NET and PD_NOC are on; `runtime` says that the operation depends on the Runtime (R445). -/
def State.icpRow (s : State) (n : Fin 4) (op : Nat) (runtime : Bool) (act : State → NetPkt → State) : State :=
  let s : State := { s with out := [] }
  if !s.domOn PD_NET ∨ !s.domOn PD_NOC ∨ (runtime ∧ !s.mp.up) then s else s.icpTake n op act 8

/-- LEN agrees with the bytes present and with the operation (R444). -/
def NetPkt.lenIs (f : NetPkt) (len : Nat) : Bool := frBE f.bytes 16 2 == len && f.payload.length == len

/-- The outcome of a READ or WRITE: BAD_PARAM with BUS_ACCESS and the first failing word (R444). -/
def accessStatus (bad : List Nat) : Nat × Nat := if bad.isEmpty then (ST_OK, 0) else (ST_BAD_PARAM, NET_BUS_ACCESS)

/-- ICP READ (R444). -/
def State.icpRead (s : State) (n : Fin 4) (f : NetPkt) : State :=
  let c := frBE f.payload 4 2
  if !f.lenIs 8 then s.icpAnswer n f ST_LEN_ERR 0 []
  else if c = 0 ∨ 256 < c ∨ frBE f.payload 6 2 ≠ 0 then s.icpAnswer n f ST_BAD_PARAM NET_RANGE []
  else
    let (s, ws, bad) := ({ s with icpCur := some (n.val, f.seq, f.key) } : State).readWords .icp (frBE f.payload 0 4) c
    let s : State := { s with icpCur := none }
    let (st, d) := accessStatus bad
    s.icpAnswer n f st d (beBytes 2 (bad.headD 0) ++ [0, 0] ++ ws.flatMap wordBE)

/-- ICP WRITE (R444). -/
def State.icpWrite (s : State) (n : Fin 4) (f : NetPkt) : State :=
  let c := frBE f.payload 4 2
  if f.payload.length < 8 ∨ !f.lenIs (8 + 4 * c) then s.icpAnswer n f ST_LEN_ERR 0 []
  else if c = 0 ∨ 256 < c ∨ frBE f.payload 6 2 ≠ 0 then s.icpAnswer n f ST_BAD_PARAM NET_RANGE []
  else
    let (s, bad) := ({ s with icpCur := some (n.val, f.seq, f.key) } : State).writeWords .icp (frBE f.payload 0 4)
      ((List.range c).map fun k => frBE f.payload (8 + 4 * k) 4)
    let s : State := { s with icpCur := none }
    let (st, d) := accessStatus bad
    s.icpAnswer n f st d (beBytes 2 (bad.headD 0) ++ [0, 0])

/-- ICP MBX (R349): a push as origin ICP; refused, it is answered BUSY at once, before its LEN counts (R11). -/
def State.icpMbx (s : State) (n : Fin 4) (f : NetPkt) : State :=
  let w : Vector Word 15 := Vector.ofFn fun (k : Fin 15) => BitVec.ofNat 32 (frBE f.payload (4 * k.val) 4)
  let free := match s.pushCheck ORG_ICP (bitsOf w[0].toNat 16 8) with | .ok _ => true | .error _ => false
  if free && !f.lenIs 60 then s.icpAnswer n f ST_LEN_ERR 0 []
  else
    let (s, r) := s.mbxPush ORG_ICP w n.val f.seq f.key
    match r with
    | .ok _ => s
    | .error d => s.icpAnswer n f ST_BUSY d []

/-- ICP_READ (R444, R445). -/
def execIcpRead (t : Nat) (n : Fin 4) (s : State) : Out := s.step' t fun s =>
  s.icpRow n 0x01 false fun s f => s.icpRead n f

/-- ICP_WRITE (R444, R445). -/
def execIcpWrite (t : Nat) (n : Fin 4) (s : State) : Out := s.step' t fun s =>
  s.icpRow n 0x02 false fun s f => s.icpWrite n f

/-- ICP_MBX (R349). -/
def execIcpMbx (t : Nat) (n : Fin 4) (s : State) : Out := s.step' t fun s =>
  s.icpRow n 0x03 false fun s f => s.icpMbx n f

/-! ### Bulk transfers (R446) -/

/-- Units of 4 KiB of a target: the namespace, or the content area; 0 when STOR is absent (R446). -/
def State.bulkUnits (s : State) (target : Nat) : Nat :=
  if target = 0 then (if Page.declared s.pkg .stor && s.storState == 3 then s.get .stor ⟨0x54, 0, 32⟩ else 0)
  else (nvmSize - nvmContentBase) / 4096

/-- The range overlaps the open package (R345, R446). -/
def State.overlapsOpen (s : State) (target off len : Nat) : Bool :=
  let (src, o, l) := s.content.src
  s.content.st != 0 && !s.content.pkg.isEmpty && src == target && decide (off < o + l) && decide (o < off + len)

/-- A bulk request refused for the state of the transfer, the library or the DMC: BULK_STATE, which is logged as every
STATE_REJECT (R12, R446, log entry 115). -/
def State.bulkReject (s : State) (n : Fin 4) (f : NetPkt) : State :=
  (s.logEntry (Page.eth n).base ST_STATE_REJECT NET_BULK_STATE (s.get (.eth n) BLK_STATE)).icpAnswer n f ST_STATE_REJECT
    NET_BULK_STATE []

/-- BULK_OPEN (R444, R446). -/
def State.bulkOpen (s : State) (n : Fin 4) (f : NetPkt) : State :=
  let p := f.payload
  let target := frBE p 0 1
  let off := frBE p 4 4
  let len := frBE p 8 4
  if s.bulk.any fun b => !b.idle then s.icpAnswer n f ST_BUSY NET_BULK_BUSY []
  else if !f.lenIs 16 then s.icpAnswer n f ST_LEN_ERR 0 []
  else if 1 < target ∨ frBE p 1 3 ≠ 0 then s.icpAnswer n f ST_BAD_PARAM NET_RANGE []
  else if len = 0 ∨ 16384 < len ∨ s.bulkUnits target < off + len then s.icpAnswer n f ST_BAD_PARAM NET_BULK_RANGE []
  else if !s.dmcRunning ∨ s.overlapsOpen target off len ∨ (target = 1 ∧ s.flag .nvm NVM_PROT_CONTENT_WP) then
    s.bulkReject n f
  else
    let b : Bulk := { port := n.val, target := target, offset := off, length := len, crc := frBE p 12 4, lastAt := s.now }
    ({ s with bulk := some b } : State).icpAnswer n f ST_OK 0 []

/-- A request on the open transfer: refused when there is none or it is closing, and told BULK_IDLE when it was aborted. -/
def State.bulkOn (s : State) (n : Fin 4) (f : NetPkt) (g : State → Bulk → State) : State :=
  match s.bulk with
  | none => s.bulkReject n f
  | some b =>
    if b.idle then ({ s with bulk := none } : State).icpAnswer n f ST_TIMEOUT NET_BULK_IDLE []
    else if b.closing then s.bulkReject n f
    else g s b

/-- BULK_DATA (R444, R446). -/
def State.bulkData (s : State) (n : Fin 4) (f : NetPkt) : State :=
  let len := f.payload.length - 8
  let o := frBE f.payload 0 4
  if f.payload.length < 12 ∨ 1400 < f.payload.length ∨ !f.lenIs f.payload.length ∨ len % 4 ≠ 0 then
    s.icpAnswer n f ST_LEN_ERR 0 []
  else if s.bulk.any fun b => !b.idle && decide (b.length * 4096 < o + len) then s.icpAnswer n f ST_LEN_ERR 0 []
  else if o % 4 ≠ 0 ∨ frBE f.payload 4 4 ≠ 0 then s.icpAnswer n f ST_BAD_PARAM NET_RANGE []
  else s.bulkOn n f fun s b =>
      let d := (f.payload.drop 8).zipIdx.foldl (fun m e => cellInsert (cellErase m (o + e.2)) (o + e.2) e.1) b.data
      ({ s with bulk := some { b with data := d, lastAt := s.now } } : State).icpAnswer n f ST_OK 0 []

/-- BULK_CLOSE (R444, R446): ACCEPTED; the completion follows. -/
def State.bulkClose (s : State) (n : Fin 4) (f : NetPkt) : State :=
  if !f.lenIs 0 then s.icpAnswer n f ST_LEN_ERR 0 []
  else s.bulkOn n f fun s b =>
    ({ s with bulk := some { b with closing := true, port := n.val, ref := f.seq, key := f.key } } : State).icpAnswer n f
      ST_ACCEPTED 0 []

/-- BULK_ABORT (R444, R446). -/
def State.bulkAbort (s : State) (n : Fin 4) (f : NetPkt) : State :=
  if !f.lenIs 0 then s.icpAnswer n f ST_LEN_ERR 0 []
  else s.bulkOn n f fun s _ => ({ s with bulk := none } : State).icpAnswer n f ST_OK 0 []

/-- BULK_OPEN (R446). -/
def execBulkOpen (t : Nat) (n : Fin 4) (s : State) : Out := s.step' t fun s =>
  s.icpRow n 0x10 true fun s f => s.bulkOpen n f

/-- BULK_DATA (R446). -/
def execBulkData (t : Nat) (n : Fin 4) (s : State) : Out := s.step' t fun s =>
  s.icpRow n 0x11 true fun s f => s.bulkData n f

/-- BULK_CLOSE (R446). -/
def execBulkClose (t : Nat) (n : Fin 4) (s : State) : Out := s.step' t fun s =>
  s.icpRow n 0x12 true fun s f => s.bulkClose n f

/-- BULK_ABORT (R444). -/
def execBulkAbort (t : Nat) (n : Fin 4) (s : State) : Out := s.step' t fun s =>
  s.icpRow n 0x13 true fun s f => s.bulkAbort n f

/-- BULK_CLOSE_COMPLETE (R422, R446): the CRC is checked and the target written and read back; `ok` says that STOR took
the data. The target is unchanged unless the completion is OK. -/
def execBulkCloseComplete (t : Nat) (ok : Bool) (s : State) : Out := s.step' t fun s =>
  match s.bulk with
  | none => s
  | some b =>
    if !s.mp.up ∨ !b.closing then s
    else
      let all := b.data.map (·.2)
      let good := b.data.length == b.length * 4096 && crc32 all == b.crc &&
        (if b.target = 0 then ok else s.domOn PD_NVM && !s.flag .nvm NVM_PROT_CONTENT_WP)
      let s : State := { s with bulk := none }
      if s.flag .basecamp BC_STATUS_PFW then s.icpReplyFor (some b.owes) b.port 0x12 ST_INTERRUPTED 0 b.ref b.key []
      else if good then
        let s := if b.target = 0 then s
          else { s with nvmMem := memSetBytes s.nvmMem (nvmContentBase + 4096 * b.offset) all }
        s.icpReplyFor (some b.owes) b.port 0x12 ST_OK 0 b.ref b.key []
      else s.icpReplyFor (some b.owes) b.port 0x12 ST_HW_FAULT NET_BULK_CRC b.ref b.key []

/-- BULK_IDLE (R446): 10 s without a BULK_DATA abort the transfer. -/
def execBulkIdle (t : Nat) (s : State) : Out := s.step' t fun s =>
  match s.bulk with
  | none => s
  | some b =>
    if s.mp.up && !b.closing && !b.idle && decide (b.lastAt + secU 10 ≤ s.now) then
      { s with bulk := some { b with idle := true, data := [] } }
    else s

end Sys2Proof.Machine
end

