-- ==== Sys2Proof/Machine/Dispatch.lean ====
section
/-!
DEFINITION. The meaning of every command: one arm per constructor, each a direct call of its meaning.
-/

namespace Sys2Proof.Machine

def exec (i : Instr) (s : State) : Host.Outcome State Fault Refusal :=
  match i with
  | .registerWrite t path a width v => Sys2Proof.Machine.execRegisterWrite t path a width v s
  | .fsramWrite t path off v => Sys2Proof.Machine.execFsramWrite t path off v s
  | .apertureAccess t path off write v => Sys2Proof.Machine.execApertureAccess t path off write v s
  | .errCodeClear t path pg v => Sys2Proof.Machine.execErrCodeClear t path pg v s
  | .softReset t path pg v => Sys2Proof.Machine.execSoftReset t path pg v s
  | .blockEnable t path pg en => Sys2Proof.Machine.execBlockEnable t path pg en s
  | .freeze t path pg fr => Sys2Proof.Machine.execFreeze t path pg fr s
  | .irqSet t path pg v => Sys2Proof.Machine.execIrqSet t path pg v s
  | .lock t path pg low => Sys2Proof.Machine.execLock t path pg low s
  | .commitGo t path pg => Sys2Proof.Machine.execCommitGo t path pg s
  | .setupStart t => Sys2Proof.Machine.execSetupStart t s
  | .compTrigTimeout t => Sys2Proof.Machine.execCompTrigTimeout t s
  | .compositionStart t => Sys2Proof.Machine.execCompositionStart t s
  | .engBackBufferReady t => Sys2Proof.Machine.execEngBackBufferReady t s
  | .compositionEnd t => Sys2Proof.Machine.execCompositionEnd t s
  | .motionPublish t path v => Sys2Proof.Machine.execMotionPublish t path v s
  | .imsPacket t n => Sys2Proof.Machine.execImsPacket t n s
  | .assemblyTimeout t ix => Sys2Proof.Machine.execAssemblyTimeout t ix s
  | .rejectRecordExpiry t => Sys2Proof.Machine.execRejectRecordExpiry t s
  | .imsCfgWrite t path v => Sys2Proof.Machine.execImsCfgWrite t path v s
  | .frameStart t n => Sys2Proof.Machine.execFrameStart t n s
  | .repeatFrame t n => Sys2Proof.Machine.execRepeat t n s
  | .underrunPersist t u => Sys2Proof.Machine.execUnderrunPersist t u s
  | .holdH2Start t n => Sys2Proof.Machine.execHoldH2Start t n s
  | .holdEnd t n => Sys2Proof.Machine.execHoldEnd t n s
  | .blankingStart t n => Sys2Proof.Machine.execBlankingStart t n s
  | .planeStart t n => Sys2Proof.Machine.execPlaneStart t n s
  | .blockLoad t n => Sys2Proof.Machine.execBlockLoad t n s
  | .blockLoadComplete t n => Sys2Proof.Machine.execBlockLoadComplete t n s
  | .resetIssue t n => Sys2Proof.Machine.execResetIssue t n s
  | .underrun t n => Sys2Proof.Machine.execUnderrun t n s
  | .fsyncPulse t n => Sys2Proof.Machine.execFsyncPulse t n s
  | .fsyncPulseEnd t n => Sys2Proof.Machine.execFsyncPulseEnd t n s
  | .engStart t path n => Sys2Proof.Machine.execEngStart t path n s
  | .engStop t path n => Sys2Proof.Machine.execEngStop t path n s
  | .engStopDone t n => Sys2Proof.Machine.execEngStopDone t n s
  | .engPark t path n => Sys2Proof.Machine.execEngPark t path n s
  | .engFaultClear t path n => Sys2Proof.Machine.execEngFaultClear t path n s
  | .retrainRetry t n => Sys2Proof.Machine.execRetrainRetry t n s
  | .frameStartFinal t x => Sys2Proof.Machine.execFrameStartFinal t x s
  | .setpointFrame t x resp => Sys2Proof.Machine.execSetpointFrame t x resp s
  | .setptDead t x => Sys2Proof.Machine.execSetptDead t x s
  | .setpointLoadRetry t x => Sys2Proof.Machine.execSetpointLoadRetry t x s
  | .windowEdge t x on => Sys2Proof.Machine.execWindowEdge t x on s
  | .lselChange t x => Sys2Proof.Machine.execLselChange t x s
  | .pdSample t x code echo => Sys2Proof.Machine.execPdSample t x code echo s
  | .ratioStale t x lvl => Sys2Proof.Machine.execRatioStale t x lvl s
  | .winStuck t x echo => Sys2Proof.Machine.execWinStuck t x echo s
  | .linkLitCheck t x echo pd => Sys2Proof.Machine.execLinkLitCheck t x echo pd s
  | .pinMismatch t x pin dur => Sys2Proof.Machine.execPinMismatch t x pin dur s
  | .ilkClear t path x => Sys2Proof.Machine.execIlkClear t path x s
  | .ilkTest t path x => Sys2Proof.Machine.execIlkTest t path x s
  | .fallbackWindow t x => Sys2Proof.Machine.execFallbackWindow t x s
  | .fallbackRefresh t x => Sys2Proof.Machine.execFallbackRefresh t x s
  | .fallbackDark t x => Sys2Proof.Machine.execFallbackDark t x s
  | .trainingStepTimeout t n => Sys2Proof.Machine.execTrainingStepTimeout t n s
  | .trainingDone t n ms => Sys2Proof.Machine.execTrainingDone t n ms s
  | .markEcho t n echo stamp => Sys2Proof.Machine.execMarkEcho t n echo stamp s
  | .sidebandTransaction t n op addr data resp => Sys2Proof.Machine.execSidebandTransaction t n op addr data resp s
  | .sidebandTimeout t n => Sys2Proof.Machine.execSidebandTimeout t n s
  | .sbDead t n => Sys2Proof.Machine.execSbDead t n s
  | .attn t n linkStat crc late errInfo => Sys2Proof.Machine.execAttn t n linkStat crc late errInfo s
  | .linkStatPoll t n linkStat => Sys2Proof.Machine.execLinkStatPoll t n linkStat s
  | .tempPoll t n temp => Sys2Proof.Machine.execTempPoll t n temp s
  | .eyePoll t n eyes => Sys2Proof.Machine.execEyePoll t n eyes s
  | .crcWindow t n => Sys2Proof.Machine.execCrcWindow t n s
  | .groupProbe t n pass => Sys2Proof.Machine.execGroupProbe t n pass s
  | .rateSwitchTimeout t n => Sys2Proof.Machine.execRateSwitchTimeout t n s
  | .linkLoss t n pll groups => Sys2Proof.Machine.execLinkLoss t n pll groups s
  | .parkLoad t path n v => Sys2Proof.Machine.execParkLoad t path n v s
  | .turningPoint t k peak lag locked => Sys2Proof.Machine.execTurningPoint t k peak lag locked s
  | .turningPointMissed t k => Sys2Proof.Machine.execTurningPointMissed t k s
  | .slowAxisCheck t k err => Sys2Proof.Machine.execSlowAxisCheck t k err s
  | .lmodUpdate t k => Sys2Proof.Machine.execLmodUpdate t k s
  | .scnUnderrun t k => Sys2Proof.Machine.execScnUnderrun t k s
  | .scnFrameStart t k => Sys2Proof.Machine.execScnFrameStart t k s
  | .spinupSweepDone t k freq => Sys2Proof.Machine.execSpinupSweepDone t k freq s
  | .spinupDone t k => Sys2Proof.Machine.execSpinupDone t k s
  | .spinupFail t k => Sys2Proof.Machine.execSpinupFail t k s
  | .drivesStopped t k => Sys2Proof.Machine.execDrivesStopped t k s
  | .scnStart t path k => Sys2Proof.Machine.execScnStart t path k s
  | .scnStop t path k => Sys2Proof.Machine.execScnStop t path k s
  | .scnPark t path k => Sys2Proof.Machine.execScnPark t path k s
  | .scnFaultClear t path k => Sys2Proof.Machine.execScnFaultClear t path k s
  | .pttDataWrite t path k v => Sys2Proof.Machine.execPttDataWrite t path k v s
  | .npFrame t q => Sys2Proof.Machine.execNpFrame t q s
  | .npLatch t q => Sys2Proof.Machine.execNpLatch t q s
  | .npReturnFrame t q mark cells quiet => Sys2Proof.Machine.execNpReturnFrame t q mark cells quiet s
  | .chainOpen t q => Sys2Proof.Machine.execChainOpen t q s
  | .npEnum t path q => Sys2Proof.Machine.execNpEnum t path q s
  | .npStrobe t path q => Sys2Proof.Machine.execNpStrobe t path q s
  | .npStrobeMark t q => Sys2Proof.Machine.execNpStrobeMark t q s
  | .cfgAccess t path q v => Sys2Proof.Machine.execCfgAccess t path q v s
  | .npkDataAccess t path write v => Sys2Proof.Machine.execNpkDataAccess t path write v s
  | .keeperWakeFrame t p => Sys2Proof.Machine.execKeeperWakeFrame t p s
  | .keepaliveStrobe t p => Sys2Proof.Machine.execKeepaliveStrobe t p s
  | .mxFrameStart t q => Sys2Proof.Machine.execMxFrameStart t q s
  | .mxRowSlot t q => Sys2Proof.Machine.execMxRowSlot t q s
  | .mxUnderrun t q c => Sys2Proof.Machine.execMxUnderrun t q c s
  | .teEdge t q falling => Sys2Proof.Machine.execTeEdge t q falling s
  | .mxTransferComplete t q => Sys2Proof.Machine.execMxTransferComplete t q s
  | .teTimeout t q => Sys2Proof.Machine.execTeTimeout t q s
  | .mxResend t path q => Sys2Proof.Machine.execMxResend t path q s
  | .tclkTick t => Sys2Proof.Machine.execTclkTick t s
  | .timeIncrWrite t path v => Sys2Proof.Machine.execTimeIncrWrite t path v s
  | .timeAdjSet t path => Sys2Proof.Machine.execTimeAdjSet t path s
  | .timeAdjStep t path => Sys2Proof.Machine.execTimeAdjStep t path s
  | .timeSlewWrite t path v => Sys2Proof.Machine.execTimeSlewWrite t path v s
  | .freerun t => Sys2Proof.Machine.execFreerun t s
  | .pdelayWrite t path p v => Sys2Proof.Machine.execPdelayWrite t path p v s
  | .holdoffEnd t => Sys2Proof.Machine.execHoldoffEnd t s
  | .timeNowRead t path => Sys2Proof.Machine.execTimeNowRead t path s
  | .engFstartNsRead t path n => Sys2Proof.Machine.execEngFstartNsRead t path n s
  | .scnFstartNsRead t path k => Sys2Proof.Machine.execScnFstartNsRead t path k s
  | .ltnIlkTimeNsRead t path x => Sys2Proof.Machine.execLtnIlkTimeNsRead t path x s
  | .npLatchNsRead t path q => Sys2Proof.Machine.execNpLatchNsRead t path q s
  | .mxFstartNsRead t path q => Sys2Proof.Machine.execMxFstartNsRead t path q s
  | .timePpsinNsRead t path => Sys2Proof.Machine.execTimePpsinNsRead t path s
  | .thermShutNsRead t path => Sys2Proof.Machine.execThermShutNsRead t path s
  | .txqPush t path p v => Sys2Proof.Machine.execTxqPush t path p v s
  | .txqPop t path p => Sys2Proof.Machine.execTxqPop t path p s
  | .ppsOut t => Sys2Proof.Machine.execPpsOut t s
  | .ppsOutEnd t => Sys2Proof.Machine.execPpsOutEnd t s
  | .ppsIn t falling => Sys2Proof.Machine.execPpsIn t falling s
  | .ppsinValidExpiry t => Sys2Proof.Machine.execPpsinValidExpiry t s
  | .schedWrite t path ix => Sys2Proof.Machine.execSchedWrite t path ix s
  | .schedRead t path ix => Sys2Proof.Machine.execSchedRead t path ix s
  | .schedCancel t path ix => Sys2Proof.Machine.execSchedCancel t path ix s
  | .schedDispatch t => Sys2Proof.Machine.execSchedDispatch t s
  | .strobeHandover t => Sys2Proof.Machine.execStrobeHandover t s
  | .dmcTrain t path => Sys2Proof.Machine.execDmcTrain t path s
  | .trainDone t res => Sys2Proof.Machine.execTrainDone t res s
  | .srEnter t path => Sys2Proof.Machine.execSrEnter t path s
  | .srExit t path => Sys2Proof.Machine.execSrExit t path s
  | .dmcStop t path => Sys2Proof.Machine.execDmcStop t path s
  | .phyPllLoss t => Sys2Proof.Machine.execPhyPllLoss t s
  | .portRequest t p write pa len data => Sys2Proof.Machine.execPortRequest t p write pa len data s
  | .writeQueueEntry t p => Sys2Proof.Machine.execWriteQueueEntry t p s
  | .requestComplete t p ecc => Sys2Proof.Machine.execRequestComplete t p ecc s
  | .grantBoundary t c drift ecc => Sys2Proof.Machine.execGrantBoundary t c drift ecc s
  | .refreshDue t c r => Sys2Proof.Machine.execRefreshDue t c r s
  | .retrainSlice t c => Sys2Proof.Machine.execRetrainSlice t c s
  | .mr4Read t c r code band cool => Sys2Proof.Machine.execMr4Read t c r code band cool s
  | .rhWindowEnd t => Sys2Proof.Machine.execRhWindowEnd t s
  | .powerDownEntry t c r => Sys2Proof.Machine.execPowerDownEntry t c r s
  | .mbxPush t path => Sys2Proof.Machine.execMbxPush t path s
  | .mbxPop t path => Sys2Proof.Machine.execMbxPop t path s
  | .rspDrop t ix => Sys2Proof.Machine.execRspDrop t ix s
  | .mbxCommandTimeout t ix => Sys2Proof.Machine.execMbxCommandTimeout t ix s
  | .ping t => Sys2Proof.Machine.execPing t s
  | .engineStart t => Sys2Proof.Machine.execEngineStart t s
  | .engineStop t => Sys2Proof.Machine.execEngineStop t s
  | .enginePark t => Sys2Proof.Machine.execEnginePark t s
  | .engineFaultClear t => Sys2Proof.Machine.execEngineFaultClear t s
  | .programLoad t => Sys2Proof.Machine.execProgramLoad t s
  | .calRun t => Sys2Proof.Machine.execCalRun t s
  | .calStore t todo => Sys2Proof.Machine.execCalStore t todo s
  | .nvmCommit t payload => Sys2Proof.Machine.execNvmCommit t payload s
  | .timeSet t => Sys2Proof.Machine.execTimeSet t s
  | .seqStart t => Sys2Proof.Machine.execSeqStart t s
  | .contentOpen t => Sys2Proof.Machine.execContentOpen t s
  | .contentOpenDone t p => Sys2Proof.Machine.execContentOpenDone t p s
  | .logStop t => Sys2Proof.Machine.execLogStop t s
  | .logEventLog t => Sys2Proof.Machine.execLogEventLog t s
  | .logRecorder t => Sys2Proof.Machine.execLogRecorder t s
  | .logFlush t => Sys2Proof.Machine.execLogFlush t s
  | .powerStateRun t => Sys2Proof.Machine.execPowerStateRun t s
  | .powerStateStandby t => Sys2Proof.Machine.execPowerStateStandby t s
  | .powerStateBivouac t todo => Sys2Proof.Machine.execPowerStateBivouac t todo s
  | .bivouacEntry t => Sys2Proof.Machine.execBivouacEntry t s
  | .diagSnapshot t => Sys2Proof.Machine.execDiagSnapshot t s
  | .mpLoadWindow t load ext => Sys2Proof.Machine.execMpLoadWindow t load ext s
  | .extBudgetPeriod t => Sys2Proof.Machine.execExtBudgetPeriod t s
  | .extPreempt t => Sys2Proof.Machine.execExtPreempt t s
  | .extFault t a write => Sys2Proof.Machine.execExtFault t a write s
  | .lockstep t => Sys2Proof.Machine.execLockstep t s
  | .mpFault t ext => Sys2Proof.Machine.execMpFault t ext s
  | .wdogKick t path v => Sys2Proof.Machine.execWdogKick t path v s
  | .wdogExpiry t => Sys2Proof.Machine.execWdogExpiry t s
  | .runtimeUp t => Sys2Proof.Machine.execRuntimeUp t s
  | .shortWindowClose t => Sys2Proof.Machine.execShortWindowClose t s
  | .longWindowClose t => Sys2Proof.Machine.execLongWindowClose t s
  | .hspiRead t mosi => Sys2Proof.Machine.execHspiRead t mosi s
  | .hspiWrite t mosi => Sys2Proof.Machine.execHspiWrite t mosi s
  | .icpRead t n => Sys2Proof.Machine.execIcpRead t n s
  | .icpWrite t n => Sys2Proof.Machine.execIcpWrite t n s
  | .icpMbx t n => Sys2Proof.Machine.execIcpMbx t n s
  | .bulkOpen t n => Sys2Proof.Machine.execBulkOpen t n s
  | .bulkData t n => Sys2Proof.Machine.execBulkData t n s
  | .bulkClose t n => Sys2Proof.Machine.execBulkClose t n s
  | .bulkCloseComplete t ok => Sys2Proof.Machine.execBulkCloseComplete t ok s
  | .bulkAbort t n => Sys2Proof.Machine.execBulkAbort t n s
  | .bulkIdle t => Sys2Proof.Machine.execBulkIdle t s
  | .basecampPowerOn t v => Sys2Proof.Machine.execBasecampPowerOn t v s
  | .vbatSample t v => Sys2Proof.Machine.execVbatSample t v s
  | .pfw t v dur => Sys2Proof.Machine.execPfw t v dur s
  | .pfwEnd t v dur => Sys2Proof.Machine.execPfwEnd t v dur s
  | .vbatOv t v dur => Sys2Proof.Machine.execVbatOv t v dur s
  | .vbatOvEnd t v dur => Sys2Proof.Machine.execVbatOvEnd t v dur s
  | .supplyLoss t f => Sys2Proof.Machine.execSupplyLoss t f s
  | .supplyPowerDown t => Sys2Proof.Machine.execSupplyPowerDown t s
  | .supplyRestart t v dur => Sys2Proof.Machine.execSupplyRestart t v dur s
  | .restartCountClear t => Sys2Proof.Machine.execRestartCountClear t s
  | .seqStepComplete t => Sys2Proof.Machine.execSeqStepComplete t s
  | .stepDelayExpiry t => Sys2Proof.Machine.execStepDelayExpiry t s
  | .pgTimeout t => Sys2Proof.Machine.execPgTimeout t s
  | .xtalGood t => Sys2Proof.Machine.execXtalGood t s
  | .xtalStart t => Sys2Proof.Machine.execXtalStart t s
  | .seqDownStep t fell => Sys2Proof.Machine.execSeqDownStep t fell s
  | .xtalMonitorWindow t good => Sys2Proof.Machine.execXtalMonitorWindow t good s
  | .xtalFailPersist t => Sys2Proof.Machine.execXtalFailPersist t s
  | .avsUpdate t want => Sys2Proof.Machine.execAvsUpdate t want s
  | .pdReqWrite t path v => Sys2Proof.Machine.execPdReqWrite t path v s
  | .domainOn t d => Sys2Proof.Machine.execDomainOn t d s
  | .pwrCmdRun t path => Sys2Proof.Machine.execPwrCmdRun t path s
  | .pwrCmdStandby t path => Sys2Proof.Machine.execPwrCmdStandby t path s
  | .pwrCmdBivouac t path => Sys2Proof.Machine.execPwrCmdBivouac t path s
  | .wakePin t ix level => Sys2Proof.Machine.execWakePin t ix level s
  | .wakeQualified t ix => Sys2Proof.Machine.execWakeQualified t ix s
  | .wakeTimer t => Sys2Proof.Machine.execWakeTimer t s
  | .pinReset t dur => Sys2Proof.Machine.execPinReset t dur s
  | .nresetRise t => Sys2Proof.Machine.execNresetRise t s
  | .systemReset t path v => Sys2Proof.Machine.execSystemReset t path v s
  | .vbatLoss t v => Sys2Proof.Machine.execVbatLoss t v s
  | .vbatMinWrite t path v => Sys2Proof.Machine.execVbatMinWrite t path v s
  | .pbaGrant t => Sys2Proof.Machine.execPbaGrant t s
  | .pbaEvaluation t => Sys2Proof.Machine.execPbaEvaluation t s
  | .waitLong t => Sys2Proof.Machine.execWaitLong t s
  | .sensorSample t ix r => Sys2Proof.Machine.execSensorSample t ix r s
  | .tsbSample t r => Sys2Proof.Machine.execTsbSample t r s
  | .xtSample t ix r => Sys2Proof.Machine.execXtSample t ix r s
  | .throtStepUp t => Sys2Proof.Machine.execThrotStepUp t s
  | .throtStepDown t => Sys2Proof.Machine.execThrotStepDown t s
  | .revalidate t path src => Sys2Proof.Machine.execRevalidate t path src s
  | .thermalRestart t v dur => Sys2Proof.Machine.execThermalRestart t v dur s
  | .calMeasurementStart t cls inst a b matched => Sys2Proof.Machine.execCalMeasurementStart t cls inst a b matched s
  | .calMeasurementDone t cls inst m => Sys2Proof.Machine.execCalMeasurementDone t cls inst m s
  | .calUnstable t cls inst => Sys2Proof.Machine.execCalUnstable t cls inst s
  | .calCmd t path cls inst => Sys2Proof.Machine.execCalCmd t path cls inst s
  | .calTimeout t => Sys2Proof.Machine.execCalTimeout t s
  | .nvmProgram t path count => Sys2Proof.Machine.execNvmProgram t path count s
  | .nvmRead t path count => Sys2Proof.Machine.execNvmRead t path count s
  | .nvmGranuleDone t res => Sys2Proof.Machine.execNvmGranuleDone t res s
  | .nvmScan t => Sys2Proof.Machine.execNvmScan t s
  | .scanDone t => Sys2Proof.Machine.execScanDone t s
  | .boot t a b ext => Sys2Proof.Machine.execBoot t a b ext s
  | .recoveryBoot t path key sig => Sys2Proof.Machine.execRecoveryBoot t path key sig s
  | .keyWrite t path slot => Sys2Proof.Machine.execKeyWrite t path slot s
  | .keyErase t path slot => Sys2Proof.Machine.execKeyErase t path slot s
  | .keyLock t path slot => Sys2Proof.Machine.execKeyLock t path slot s
  | .keyRevoke t path slot => Sys2Proof.Machine.execKeyRevoke t path slot s
  | .svnAdvance t path svn => Sys2Proof.Machine.execSvnAdvance t path svn s
  | .ethFrameRx t n f => Sys2Proof.Machine.execEthFrameRx t n f s
  | .ethTxDoorbell t path n v => Sys2Proof.Machine.execEthTxDoorbell t path n v s
  | .ethFrameTx t n icp => Sys2Proof.Machine.execEthFrameTx t n icp s
  | .linkChange t n up => Sys2Proof.Machine.execLinkChange t n up s
  | .msecSaInstall t path n v => Sys2Proof.Machine.execMsecSaInstall t path n v s
  | .canFrameRx t n f => Sys2Proof.Machine.execCanFrameRx t n f s
  | .canFrameTx t n => Sys2Proof.Machine.execCanFrameTx t n s
  | .busOff t n => Sys2Proof.Machine.execBusOff t n s
  | .canRecover t path n => Sys2Proof.Machine.execCanRecover t path n s
  | .storLinkUp t path => Sys2Proof.Machine.execStorLinkUp t path s
  | .storShutdown t path => Sys2Proof.Machine.execStorShutdown t path s
  | .storLinkDrop t => Sys2Proof.Machine.execStorLinkDrop t s
  | .storDoorbell t path cq v => Sys2Proof.Machine.execStorDoorbell t path cq v s
  | .cqPosted t index error => Sys2Proof.Machine.execCqPosted t index error s
  | .nvmeTimeout t index => Sys2Proof.Machine.execNvmeTimeout t index s
  | .storInitDone t ix => Sys2Proof.Machine.execStorInitDone t ix s
  | .busOffRecoveryDone t n => Sys2Proof.Machine.execBusOffRecoveryDone t n s
  | .keeperFrameEnd t p => Sys2Proof.Machine.execKeeperFrameEnd t p s

end Sys2Proof.Machine
end

