-- ==== Sys2Proof/Safety.lean ====
section
/-!
DEFINITION. The terms that statements use: when a command completes, when a register access reaches its register,
what stays as it was, and the canonical form of everything sparse in a state.
-/

namespace Sys2Proof.Machine

/-- The command `c`, given at any instant `t` in any state in which `P` holds at that instant, answers a next state
`v` with `Q u v`, where `u` is the machine as time has carried it to the instant. -/
def Completes (c : Nat → Instr) (P : State → Prop) (Q : State → State → Prop) : Prop :=
  ∀ (t : Nat) (s : State), P (s.at t) → ∃ v, exec (c t) s = .next v ∧ Q (s.at t) v

/-- A write of a whole register by a path reaches its page: the path's agent runs and may, PD_NOC is on, and no cause
of `BUS_ERR` holds (R38, R39, R326). -/
def State.writable (s : State) (path : Path) (p : Page) (f : RF) : Bool := s.reaches path (p.base + f.off) 4 true

/-- A read of a register by a path reaches its page. -/
def State.readable (s : State) (path : Path) (p : Page) (f : RF) : Bool := s.reaches path (p.base + f.off) 4 false

/-- The Runtime takes the command of slot `i`: it is up, that slot is the oldest QUEUED one, its command is the row's, and the
checks every command has are passed (R338, R342). -/
def State.takes (s : State) (own : MbxSlot → Bool) (i : Fin 32) : Prop :=
  s.mp.up = true ∧ s.mbxHead = some i ∧ own s.mbx.slots[i] = true ∧ (s.mbx.slots[i]).formFails = []

/-- Slot `i` in EXEC. -/
def State.inExec (s : State) (i : Fin 32) : State := s.modSlot i fun c => { c with st := SL_EXEC }

/-- A port takes its oldest ICP request `f` of OP `op`, which is well-formed and authentic; `w` is the machine with the
request taken (R442, R444, R445). -/
def State.serves (s : State) (n : Fin 4) (op : Nat) (f : NetPkt) (rest : List NetPkt) (w : State) : Prop :=
  s.domOn PD_NET = true ∧ s.domOn PD_NOC = true ∧ s.eth[n].reqs = f :: rest ∧ f.icpForm = true ∧ f.op = op ∧
    ({ s with out := [] } : State).lowerFirst n f = false ∧
    (({ s with out := [] } : State).modEth n fun e => { e with reqs := rest }).authenticate 0 n f = (w, none)

/-- The register cells that the beam recorder moves when an event is raised while it runs (R450): `REC_WR`,
`REC_DROP_CNT` and `IRQ_STAT` of STOR. -/
def recorderRegs : List Nat :=
  [Page.stor.base + REC_WR.off, Page.stor.base + REC_DROP_CNT.off, Page.stor.base + IRQ_STAT.off]

/-- Every register but those listed, and those of the beam recorder, holds what it held. -/
def SameRegs (s u : State) (but : List Nat) : Prop :=
  ∀ a, a ∉ but → a ∉ recorderRegs → u.reg a = s.reg a

/-- Every register but those listed holds what it held. -/
def SameRegsExactly (s u : State) (but : List Nat) : Prop := ∀ a, a ∉ but → u.reg a = s.reg a

/-- Every byte of the MP's SRAM, of Frame SRAM, of the NVM and of the keeper's store reads as it did. -/
def SameOnChip (s u : State) : Prop :=
  ∀ a, memByte u.tcm a = memByte s.tcm a ∧ memByte u.fsram a = memByte s.fsram a ∧
    memByte u.nvmMem a = memByte s.nvmMem a ∧ memByte u.keeper.store a = memByte s.keeper.store a

/-- Every byte of the DRAM reads as it did. -/
def SameDram (s u : State) : Prop := ∀ a, memByte u.dram a = memByte s.dram a

/-- The cells of the error record of a page, and its `IRQ_STAT`. -/
def errRegs (p : Page) : List Nat := [p.base + ERR_CNT.off, p.base + ERR_CODE.off, p.base + ERR_INFO.off, p.base + IRQ_STAT.off]

/-- Every register outside the listed pages, and those of the beam recorder, holds what it held. -/
def SamePages (s u : State) (ps : List Page) : Prop :=
  ∀ a, (∀ p ∈ ps, ¬ (p.base ≤ a ∧ a < p.base + 0x1000)) → a ∉ recorderRegs → u.reg a = s.reg a

/-- A command changes registers of the listed pages alone, beside those of the beam recorder. -/
def KeepsPages (c : Nat → Instr) (ps : List Page) : Prop :=
  ∀ (t : Nat) (s v : State), exec (c t) s = .next v → SamePages (s.at t) v ps

/-- A command changes no register at all, no memory, no value in force and no held value. -/
def KeepsRegisters (c : Nat → Instr) : Prop :=
  ∀ (t : Nat) (s v : State), exec (c t) s = .next v →
    SameRegsExactly (s.at t) v [] ∧ SameOnChip s v ∧ SameDram (s.at t) v ∧ v.inForce = s.inForce ∧ v.held = s.held

/-- A command leaves every on-chip memory and the NVM as they are, and DRAM while LOG_CONTROL has the recorder stopped. -/
def KeepsMemories (c : Nat → Instr) : Prop :=
  ∀ (t : Nat) (s v : State), exec (c t) s = .next v → SameOnChip s v ∧ (s.mp.recRun = false → SameDram s v)

/-- Everything sparse is in canonical form: keys strictly rise, and nothing is listed as what it reads as unlisted.
Equal contents are then equal data. -/
def State.canonical (s : State) : Bool :=
  cellsWf resetAt s.regs && cellsWf resetAt s.inForce && cellsWf resetAt s.held && cellsWf (fun _ => 0) s.stampSec &&
    Memory.wf s.tcm && Memory.wf s.fsram && Memory.wf s.dram && Memory.wf s.nvmMem && Memory.wf s.keeper.store

/-- `LSx_KILL_N` is low and the window is closed. -/
def State.lanternDark (s : State) (x : Fin 6) : Bool :=
  !s.ltn[x].killN && !s.flag (.ltn x) LTN_STATUS_WIN

/-- While the interlock latch of a Lantern is set, its state is TRIPPED, `LSx_KILL_N` is low, its window is closed, and
no setpoint load that would arm it runs (R157, R160, R161). -/
def InterlockHolds (s : State) : Prop :=
  ∀ x : Fin 6, s.tripped x = true → s.ltnState x = LTN_TRIPPED ∧ s.lanternDark x = true ∧ s.ltn[x].loading = false

end Sys2Proof.Machine
end

