-- ==== Sys2Proof/Certificates/Slice0/Obligations.lean ====
section
/-!
DEFINITION. The statements about the model: what a step is, what holds in every state, what every command does when
its condition holds, and the numbered rules of the spec that say what the machine does.
-/

open Sys2Proof Sys2Proof.Machine

/-! ### The step and the queue -/

/-- A step takes the command at the front of the queue and runs it on the machine with the queue's rest. -/
def Obligations.StepRunsTheFrontCommand : Prop :=
  ∀ (c : Instr) (r : List Instr) (s : State), s.pending = c :: r → step s = exec c { s with pending := r }

/-- An empty queue leaves the machine as it is: the model's choice (log entry 4). -/
def Obligations.StepIdlesOnAnEmptyQueue : Prop := ∀ s : State, s.pending = [] → step s = .next s

/-- A command changes neither the queue of waiting commands nor the package. -/
def Obligations.CommandsKeepQueueAndPackage : Prop :=
  ∀ (c : Instr) (s u : State), exec c s = .next u → u.pending = s.pending ∧ u.pkg = s.pkg

/-- The machine's time never runs back, whatever instant a command names (log entry 1). -/
def Obligations.TimeNeverRunsBack : Prop := ∀ (c : Instr) (s u : State), exec c s = .next u → s.now ≤ u.now

/-- Only two commands ever stop the machine: a reset pulse of 1 µs up to 5 µs (R494), and a supply voltage beyond 58 V
(R481); no command is refused. -/
def Obligations.OnlyTwoCausesStopTheMachine : Prop :=
  (∀ (c : Instr) (s : State) (r : Refusal), exec c s ≠ .refused r) ∧
  (∀ (c : Instr) (s : State), exec c s = .fault .resetPulseUndefined →
    ∃ t dur, c = .pinReset t dur ∧ usU 1 ≤ dur ∧ dur < usU 5) ∧
  (∀ (c : Instr) (s : State), exec c s = .fault .overstress → ∃ t v,
    5800 < v ∧ (c = .basecampPowerOn t v ∨ c = .vbatSample t v ∨ c = .vbatLoss t v ∨ ∃ dur,
      c = .pfw t v dur ∨ c = .pfwEnd t v dur ∨ c = .vbatOv t v dur ∨ c = .vbatOvEnd t v dur ∨
      c = .supplyRestart t v dur ∨ c = .thermalRestart t v dur)) ∧
  (∀ (t dur : Nat) (s : State), usU 1 ≤ dur → dur < usU 5 →
    exec (.pinReset t dur) s = .fault .resetPulseUndefined) ∧
  (∀ (t v : Nat) (s : State), 5800 < v → exec (.vbatSample t v) s = .fault .overstress)

/-! ### Invariants -/

/-- Every step keeps everything sparse in canonical form: register cells, values in force and held, and all memories. -/
def Obligations.StepKeepsCanonicalForm : Prop :=
  ∀ s u : State, s.canonical = true → step s = .next u → u.canonical = true

/-- No step opens a tripped Lantern: every step keeps the interlock. -/
def Obligations.StepKeepsTheInterlock : Prop :=
  ∀ s u : State, InterlockHolds s → step s = .next u → InterlockHolds u

/-- Both invariants hold at reset: everything sparse is canonical, and no latch is set. -/
def Obligations.ResetMeetsTheInvariants : Prop :=
  State.reset.canonical = true ∧ InterlockHolds State.reset ∧ ∀ x : Fin 6, State.reset.tripped x = false

/-! ### Accesses and the common header -/

/-- An access that reaches its place completes there. REGISTER_WRITE at a block register is that block's write;
FSRAM_WRITE stores the four bytes, low byte first, at the offset of the window (R22); APERTURE_ACCESS stores or answers the
four bytes of DRAM that the aperture maps (R300), counted at P4 or P7 and after the writes that wait there (R304). The answer is the word written or read. -/
def Obligations.AccessesComplete : Prop :=
  (∀ path p off v, 0x044 ≤ off → off < 0x800 → v < 2 ^ 32 →
    Completes (fun t => .registerWrite t path (p.base + off) 4 v)
      (fun u => u.reaches path (p.base + off) 4 true = true)
      (fun u r => r = (u.blockWrite path p off v).answer (BitVec.ofNat 32 v))) ∧
  (∀ path off v, off < 0x5000000 → v < 2 ^ 32 →
    Completes (fun t => .fsramWrite t path off v)
      (fun u => u.reaches path (0x20000000 + off) 4 true = true)
      (fun u r => r = ({ u with fsram := memSetLE u.fsram off 4 v } : State).answer (BitVec.ofNat 32 v) ∧
        memLE r.fsram off 4 = v ∧ ∀ b, b < off ∨ off + 4 ≤ b → memByte r.fsram b = memByte u.fsram b)) ∧
  (∀ path off v, off < 0x80000000 → v < 2 ^ 32 →
    Completes (fun t => .apertureAccess t path off true v)
      (fun u => u.reaches path (0x80000000 + off) 4 true = true)
      (fun u r => r = (u.aperWrite path (0x80000000 + off) v).answer (BitVec.ofNat 32 v) ∧
        r.dram = memSetLE u.dram (u.aperPa (0x80000000 + off)) 4 v)) ∧
  (∀ path off v, off < 0x80000000 →
    Completes (fun t => .apertureAccess t path off false v)
      (fun u => u.reaches path (0x80000000 + off) 4 false = true)
      (fun u r => r = (u.countBytes (aperPort path) false 4).answer (BitVec.ofNat 32 (u.aperRead path (0x80000000 + off))) ∧
        (u.dmcs.ports[aperPort path] = [] →
          u.aperRead path (0x80000000 + off) = memLE u.dram (u.aperPa (0x80000000 + off)) 4)))

/-- The commands on the common header complete: ERR_CODE_CLEAR with the class held clears `ERR_CODE` and `ERR_INFO` (R15);
SOFT_RESET of a block that neither emits light nor drives an output resets it (R36); BLOCK_ENABLE and FREEZE give EN and
FREEZE the value written (R36, R37); IRQ_SET adds its bits to `IRQ_STAT` (R34); LOCK with the key locks and keeps the TAG
(R49); COMMIT_GO with no commit pending gives the group its GO (R42–R45). -/
def Obligations.HeaderCommandsComplete : Prop :=
  (∀ path p pg v, p.base = pageAddr pg 0 → v < 2 ^ 32 →
    Completes (fun t => .errCodeClear t path pg v)
      (fun u => u.writable path p ERR_CODE = true ∧ bitsOf v 8 8 = u.get p ERR_CODE_CLASS)
      (fun u r => r = ((u.put p ERR_CODE 0).put p ERR_INFO 0).answer (BitVec.ofNat 32 v) ∧
        r.get p ERR_CODE = 0 ∧ r.get p ERR_INFO = 0)) ∧
  (∀ path p pg v, p.base = pageAddr pg 0 → v < 2 ^ 32 →
    Completes (fun t => .softReset t path pg v)
      (fun u => u.writable path p BLK_CTRL = true ∧ u.emits p = false)
      (fun u r => r = (u.softReset p).answer (BitVec.ofNat 32 (v ||| 2)))) ∧
  (∀ path p pg en, p.base = pageAddr pg 0 →
    Completes (fun t => .blockEnable t path pg en)
      (fun u => u.writable path p BLK_CTRL = true ∧ p.enFixed = false ∧ (en = true ∨ u.emits p = false))
      (fun u r => r = ((u.enWrite p en).freezeWrite p (u.frozen p)).answer
        (BitVec.ofNat 32 (withBits (u.ctrlNow pg) 0 1 (ofBool en))))) ∧
  (∀ path p pg fr, p.base = pageAddr pg 0 →
    Completes (fun t => .freeze t path pg fr)
      (fun u => u.writable path p BLK_CTRL = true)
      (fun u r => r.frozen p = fr ∧ r = (u.freezeWrite p fr).answer
        (BitVec.ofNat 32 (withBits (u.ctrlNow pg) 2 1 (ofBool fr))))) ∧
  (∀ path p pg v, p.base = pageAddr pg 0 → v < 2 ^ 32 →
    Completes (fun t => .irqSet t path pg v)
      (fun u => u.writable path p IRQ_SET = true)
      (fun u r => r = (u.put p IRQ_STAT (u.get p IRQ_STAT ||| (v &&& p.irqMask))).answer (BitVec.ofNat 32 v))) ∧
  (∀ path p pg low, p.base = pageAddr pg 0 →
    Completes (fun t => .lock t path pg low)
      (fun u => u.writable path p LOCK = true ∧ u.flag p LOCK_LOCKED = false)
      (fun u r => r.flag p LOCK_LOCKED = true ∧ r.get p LOCK_TAG = bitsOf low 1 15 ∧
        SameRegsExactly u r [p.base + LOCK.off])) ∧
  (∀ path p pg, p.base = pageAddr pg 0 →
    Completes (fun t => .commitGo t path pg)
      (fun u => u.writable path p COMMIT = true ∧ u.commitPending p.group = false)
      (fun u r => r = (u.commitGo p.group).answer 1))

/-! ### Compositor and ingest -/

/-- The compositor's commands complete. Set-up starts when the trigger is met, or `COMP_TRIG_TIMEOUT` after the set's last
frame start with TRIG_MODE 2 (R85); a composition starts from set-up (R85); the first engine image waiting is
written and its back buffer marked ready once its pixels are done (R84); a composition with nothing left is counted,
releases its slot and ends (R84, R93); a write of `MOT_STAMP_NS` publishes the four motion values (R77). -/
def Obligations.CompositorCommandsComplete : Prop :=
  Completes (fun t => .setupStart t)
    (fun u => u.compCan = true ∧ (u.inf (.comp 0) COMP_CFG_TRIG_MODE = 0 ∨
      (u.inf (.comp 0) COMP_CFG_TRIG_MODE ≠ 3 ∧ u.maskNewer = true)))
    (fun u r => r = u.compSetup ∧ r.compState = COMP_SETUP ∧ r.cmp.setupAt = u.now) ∧
  Completes (fun t => .compTrigTimeout t)
    (fun u => u.compCan = true ∧ u.inf (.comp 0) COMP_CFG_TRIG_MODE = 2 ∧
      u.compLastStart + usU (bitsOf (u.inf (.comp 0) COMP_TRIG_TIMEOUT) 0 16) ≤ u.now)
    (fun u r => r = u.compSetup ∧ r.compState = COMP_SETUP) ∧
  Completes (fun t => .compositionStart t) (fun u => u.compState = COMP_SETUP) (fun u r => r = u.compStart) ∧
  (∀ c n geom pred pix rest, Completes (fun t => .engBackBufferReady t)
    (fun u => u.cmp.run = some c ∧ c.engs = ((n : Fin 4).val, geom, pred, pix) :: rest ∧ c.start + compDur c.low pix ≤ u.now)
    (fun u r => r = (u.compEngine { c with engs := rest } n geom pred).1.modCmp fun m =>
      { m with run := some (u.compEngine { c with engs := rest } n geom pred).2 })) ∧
  (∀ c, Completes (fun t => .compositionEnd t)
    (fun u => u.cmp.run = some c ∧ c.engs = [] ∧ c.scns = [])
    (fun u r => r.cmp.run = none ∧ r.compState = COMP_WAIT ∧
      r.get (.comp 0) COMP_CNT = min (u.get (.comp 0) COMP_CNT + 1) (2 ^ 32 - 1))) ∧
  (∀ path v, v < 2 ^ 32 → Completes (fun t => .motionPublish t path v)
    (fun u => u.writable path (.comp 0) MOT_STAMP_NS = true)
    (fun u r => r = ((u.plainWrite path (.comp 0) MOT_STAMP_NS.off v).motionPublish).answer (BitVec.ofNat 32 v) ∧
      r.cmp.motAt = u.now))

/-- Mask ingest completes. A packet that passes its three checks, taken while ingest runs, hands its segment to a slot
(R442, R74); a slot that fills for `IMS_ASSEMBLY_TIMEOUT` is lost and counted (R74); a rejection that old is
forgotten (R74); a write of `IMS_CFG` that leaves the ports alone enables or disables ingest (R94). -/
def Obligations.IngestCommandsComplete : Prop :=
  (∀ n f rest w, Completes (fun t => .imsPacket t n)
    (fun u => u.eth[n].ims = f :: rest ∧ u.lowerFirst n f = false ∧ frBE f.bytes 0 2 = 0x494D ∧ 16 ≤ f.bytes.length ∧
      (u.modEth n fun e => { e with ims := rest }).authenticate 1 n f = (w, none) ∧ w.flag (.comp 7) IMS_CFG_EN = true)
    (fun _ r => r = w.imsSegment (((f.bytes.drop 8).take (f.bytes.length - 16)).map (·.toNat)))) ∧
  (∀ i, Completes (fun t => .assemblyTimeout t i)
    (fun u => u.ims.slots[i].state = MASK_FILLING ∧ u.ims.slots[i].since + u.imsTimeout ≤ u.now)
    (fun u r => r = ((u.setSlot i {}).bump (.comp 7) MASK_TIMEOUT_CNT).raise (.comp 0) COMP_EV_ASSEMBLY_TIMEOUT ∧
      r.ims.slots[i].state = 0)) ∧
  Completes (fun t => .rejectRecordExpiry t) (fun _ => True)
    (fun u r => r = { u with ims := { u.ims with rejected := u.ims.rejected.filter fun e => decide (u.now < e.2) } }) ∧
  (∀ path v, v < 2 ^ 32 → Completes (fun t => .imsCfgWrite t path v)
    (fun u => u.writable path (.comp 7) IMS_CFG = true ∧ u.flag (.comp 7) IMS_CFG_EN = false)
    (fun u r => r = (u.imsCfgWrite path v).answer (BitVec.ofNat 32 v)))


/-! ### Engines and Grinders -/

/-- The frame commands of an engine complete. A frame that is due starts with its new image, or repeats the front buffer
(R98, R102); the first frame starts in READY when firstPlan has come (R114); H2 and the first LIT frame follow H1 at
their instants (R118); a lit stop ends with its frame (R114); LINK_DEAD retries (R114); blanking darkens the
Lantern and shows in `ENG_STATUS` (R103); `UNDERRUN_LIMIT` underrun frames in a row give SAFE (R111); the pulse of
FSYNCn starts and ends (R112). -/
def Obligations.EngineFramesComplete : Prop :=
  (∀ n, Completes (fun t => .frameStart t n)
    (fun u => u.engState n = E_LIT ∧ u.eng[n].stop = false ∧ (u.engPlan n).2 = true ∧ u.onTick (u.engPlan n).1 = true)
    (fun u r => r = u.litStart n true)) ∧
  (∀ n due, Completes (fun t => .frameStart t n)
    (fun u => u.engState n = E_READY ∧ u.firstPlan n = some due ∧ u.onTick due = true)
    (fun u r => r = (if (u.joinable n).isSome then [n] else u.firstSet n).foldl
      (fun s m => s.engFrame m .first true false) u)) ∧
  (∀ n, Completes (fun t => .repeatFrame t n)
    (fun u => u.engState n = E_LIT ∧ u.eng[n].stop = false ∧ (u.engPlan n).2 = false ∧ u.onTick (u.engPlan n).1 = true)
    (fun u r => r = u.litStart n false)) ∧
  (∀ n, Completes (fun t => .holdH2Start t n)
    (fun u => u.engState n = E_HOLD ∧ u.eng[n].stop = false ∧ u.flag (.eng n) ENG_STATUS_HOLD_PHASE = false ∧
      u.onTick (tickUp (u.eng[n].sk + u.eng[n].holdPnom)) = true)
    (fun u r => r = u.engFrame n .h2 (u.holdImage n) false)) ∧
  (∀ n, Completes (fun t => .holdEnd t n)
    (fun u => u.engState n = E_HOLD ∧ u.eng[n].stop = false ∧ u.flag (.eng n) ENG_STATUS_HOLD_PHASE = true ∧
      u.onTick (u.holdEndPlan n) = true)
    (fun u r => r = u.engFrame n .first (u.holdImage n) false)) ∧
  (∀ n, Completes (fun t => .engStopDone t n)
    (fun u => u.eng[n].stop = true ∧ u.engFrames n = true ∧ u.eng[n].sk + u.eng[n].lk ≤ u.now)
    (fun u r => r = (u.ltnLoop (ltnOfEng n) (u.levelUsed n)).engOff n)) ∧
  (∀ n a, Completes (fun t => .retrainRetry t n)
    (fun u => u.eng[n].retryAt = some a ∧ a ≤ u.now ∧ u.engState n = E_SAFE ∧
      u.get (.eng n) ENG_STATE_INFO_CAUSE = CAUSE_LINK_DEAD)
    (fun u r => r = u.engRetrain n)) ∧
  (∀ n, Completes (fun t => .blankingStart t n)
    (fun u => u.engFrames n = true ∧ u.flag (.eng n) ENG_STATUS_BLANKING = false ∧ u.eng[n].sk + u.eng[n].lk ≤ u.now)
    (fun u r => r = (u.ltnDark (ltnOfEng n)).put (.eng n) ENG_STATUS_BLANKING 1 ∧
      r.flag (.eng n) ENG_STATUS_BLANKING = true)) ∧
  (∀ n : Fin 4, Completes (fun t => .underrunPersist t ⟨n.val, by omega⟩)
    (fun u => u.engFrames n = true ∧ u.inf (.eng n) ENG_CFG_UNDERRUN_LIMIT ≠ 0 ∧
      u.inf (.eng n) ENG_CFG_UNDERRUN_LIMIT ≤ u.eng[n].urRun + (if u.eng[n].ur then 1 else 0))
    (fun u r => r = (u.raise (.eng n) ENG_EV_UNDERRUN_PERSIST).engTo n E_SAFE CAUSE_UNDERRUN)) ∧
  (∀ k : Fin 2, Completes (fun t => .underrunPersist t ⟨k.val + 4, by omega⟩)
    (fun u => u.scnFrames k = true ∧ u.inf (.scn k) SCN_CFG_UNDERRUN_LIMIT ≠ 0 ∧
      u.inf (.scn k) SCN_CFG_UNDERRUN_LIMIT ≤ u.scn[k].urRun + (if u.scn[k].ur then 1 else 0))
    (fun u r => r = ((u.ltnDark ⟨k.val + 4, by omega⟩).raise (.scn k) ENG_EV_UNDERRUN_PERSIST).scnTo k E_SAFE
      SCN_UNDERRUN_PERSIST)) ∧
  (∀ n, Completes (fun t => .fsyncPulse t n)
    (fun u => u.engFrames n = true ∧ u.infFlag (.eng n) ENG_FSYNC_EN = true ∧ u.eng[n].fsyncDone = false ∧
      u.onTick (u.fsyncAt n) = true)
    (fun u r => r.eng[n].fsync = true ∧ r.eng[n].fsyncEnd = u.fsyncAt n + usU (u.inf (.eng n) ENG_FSYNC_WIDTH) ∧
      SameRegsExactly u r [])) ∧
  (∀ n, Completes (fun t => .fsyncPulseEnd t n)
    (fun u => u.eng[n].fsync = true ∧ u.eng[n].fsyncEnd ≤ u.now)
    (fun u r => r.eng[n].fsync = false ∧ SameRegsExactly u r []))

/-- The block commands of a Grinder complete. A plane whose entry light edge has come is begun (R124); the open load with the
earliest deadline goes to the link when none is in flight (R132); a load that ends before its deadline is recorded
with its margin (R132); a reset whose block is loaded or abandoned is stamped and sent while the link is up, fewer than
four are outstanding for the block, and its latest send instant has not passed (R126, R176, R178); a load past its
deadline is abandoned and counted (R110). -/
def Obligations.GrinderCommandsComplete : Prop :=
  (∀ n p, Completes (fun t => .planeStart t n)
    (fun u => u.grd[n].planes[u.grd[n].begun]? = some p ∧ u.engFrames n = true ∧ u.now = u.eng[n].sk + p.entry)
    (fun u r => r.grd[n].begun = u.grd[n].begun + 1 ∧ SameRegsExactly u r [] ∧ SameOnChip u r ∧ SameDram u r)) ∧
  (∀ n d c b, Completes (fun t => .blockLoad t n)
    (fun u => u.grd[n].load = none ∧ u.linkLanes n ≠ 0 ∧
      earliest ((u.loadsDue n).filter fun l => u.loadOpen n l.2.1 l.2.2) = some (d, c, b))
    (fun u r => r.grd[n].load = some ⟨c, b, (u.lastBoundary n c b).loadStart n,
      (u.lastBoundary n c b).loadStart n + (u.lastBoundary n c b).loadTime n c b⟩)) ∧
  (∀ n l d, Completes (fun t => .blockLoadComplete t n)
    (fun u => u.grd[n].load = some l ∧ l.finish ≤ u.now ∧ u.loadDeadline n l.count l.block = some d ∧ l.finish ≤ d)
    (fun u r => r = (u.modGrd n fun g => { g with load := none, loaded := g.loaded ++ [(l.count, l.block)] }).loadSlack n
      (d - l.finish) ∧ r.grd[n].load = none)) ∧
  (∀ n i c b, Completes (fun t => .resetIssue t n)
    (fun u => u.nextReset n = some (i, c, b) ∧ u.linkUp n = true ∧ u.resetWaits n c = false ∧
      (u.grd[n].resets.filter fun r => r.2.1 == b && decide (16 * (u.now : Int) < r.2.2)).length < 4 ∧
      (u.grd[n].loaded.contains (c, b) || u.grd[n].missed.contains (c, b)) = true ∧
      16 * (u.now : Int) ≤ u.resetLatest n c i)
    (fun u r => r.grd[n].resets = u.grd[n].resets ++ [(c, b, u.resetApplied n c i)])) ∧
  (∀ n d c b, Completes (fun t => .underrun t n)
    (fun u => u.missedLoad n = some (d, c, b))
    (fun u r => r.grd[n].missed = u.grd[n].missed ++ [(c, b)] ∧ r.eng[n].ur = true))

/-- A command written to `ENG_CMD` by an agent that may reach it completes (R114, R136). START with a program in PRG0 asks for
a grant from OFF, marks a READY engine to light, and retrains from SAFE; STOP turns off an engine that shows no frame
and marks one that does; PARK ends the light of READY, LIT and HOLD; FAULT_CLEAR leaves FAULT once its cause is gone. -/
def Obligations.EngineCommandsComplete : Prop :=
  (∀ path n, Completes (fun t => .engStart t path n)
    (fun u => u.writable path (.eng n) ENG_CMD = true ∧ u.inf (.grd n) GRD_PRG0_CTRL_COUNT ≠ 0 ∧
      (u.engState n = E_OFF ∨ u.engState n = E_READY ∨ u.engState n = E_SAFE))
    (fun u r => (u.engStart n (pathCode path) ENG_CMD.off).2 = (ST_OK, 0) ∧
      r = ((u.engStart n (pathCode path) ENG_CMD.off).1).answer 1)) ∧
  (∀ path n, Completes (fun t => .engStop t path n)
    (fun u => u.writable path (.eng n) ENG_CMD = true ∧
      (u.engState n = E_TRAIN ∨ u.engState n = E_READY ∨ u.engState n = E_SAFE))
    (fun u r => r = ((u.mbxStartCut n.val).engOff n).answer 2)) ∧
  (∀ path n, Completes (fun t => .engStop t path n)
    (fun u => u.writable path (.eng n) ENG_CMD = true ∧ (u.engState n = E_LIT ∨ u.engState n = E_HOLD))
    (fun u r => r = ((u.mbxStartCut n.val).modEng n fun e => { e with stop := true, fin := none }).answer 2 ∧
      r.eng[n].stop = true)) ∧
  (∀ path n, Completes (fun t => .engPark t path n)
    (fun u => u.writable path (.eng n) ENG_CMD = true ∧
      (u.engState n = E_READY ∨ u.engState n = E_LIT ∨ u.engState n = E_HOLD))
    (fun u r => r = ((u.mbxStartCut n.val).engTo n E_SAFE CAUSE_PARK).answer 3)) ∧
  (∀ path n, Completes (fun t => .engFaultClear t path n)
    (fun u => u.writable path (.eng n) ENG_CMD = true ∧ u.engState n = E_FAULT ∧ u.faultGone n = true)
    (fun u r => r = (u.engOff n).answer 4))


/-! ### Lanterns -/

/-- The light commands of a Lantern complete. The start of a frame that has become final prepares the setpoints of its
source (R150); a setpoint bus frame with its response moves the port on (R144); sixteen missed confirmations raise
`SETPT_DEAD` once (R151); an unconfirmed load is tried again after 100 µs (R503); a window edge due now opens or closes
the window (R147); a level change that is due is driven on `LSx_LSEL` (R149); a sample is taken in while the Lantern's
domain is on (R153); a level unmeasured for 256 frames is marked stale (R153). -/
def Obligations.LanternLightCommandsComplete : Prop :=
  (∀ x n, Completes (fun t => .frameStartFinal t x) (fun _ => engOfLtn x = some n) (fun u r => r = u.engFinal n)) ∧
  (∀ x k, Completes (fun t => .frameStartFinal t x) (fun _ => engOfLtn x = none ∧ scnOfLtn x = some k)
    (fun u r => r = u.scnFinal k)) ∧
  (∀ x resp, Completes (fun t => .setpointFrame t x resp) (fun u => u.domOn PD_LTN = true)
    (fun u r => r = u.setpointFrame x resp)) ∧
  (∀ x, Completes (fun t => .setptDead t x) (fun u => 16 ≤ u.ltn[x].miss ∧ u.ltn[x].dead = false)
    (fun u r => r = ((u.modLtn x fun l => { l with dead := true }).raise (.ltn x) LTN_EV_SETPT_DEAD).errHw (.ltn x)
      ST_HW_FAULT 0x27 ∧ r.ltn[x].dead = true)) ∧
  (∀ x, Completes (fun t => .setpointLoadRetry t x)
    (fun u => u.ltn[x].loading = true ∧ u.ltn[x].loadAt + usU 100 ≤ u.now)
    (fun u r => r = (u.ltnMiss x).ltnLoad x)) ∧
  (∀ x, Completes (fun t => .windowEdge t x true)
    (fun u => u.flag (.ltn x) LTN_STATUS_WIN = false ∧ u.mayLight x = true ∧
      u.ltn[x].closeAt + nsU 100 ≤ u.now + u.get (.ltn x) LTN_DOUT_OPEN ∧
      (u.windows x).any (fun w => w.1 == u.now + u.get (.ltn x) LTN_DOUT_OPEN &&
        decide (u.now + u.get (.ltn x) LTN_DOUT_OPEN + nsU 32 ≤ w.2.1)) = true)
    (fun u r => r = u.ltnWin x true (u.now + u.get (.ltn x) LTN_DOUT_OPEN) ∧ r.flag (.ltn x) LTN_STATUS_WIN = true)) ∧
  (∀ x, Completes (fun t => .windowEdge t x false)
    (fun u => u.flag (.ltn x) LTN_STATUS_WIN = true ∧
      (u.windows x).any (fun w => w.2.1 == u.now + u.get (.ltn x) LTN_DOUT_CLOSE) = true ∧
      (u.windows x).any (fun w => w.1 == u.now + u.get (.ltn x) LTN_DOUT_CLOSE) = false)
    (fun u r => r = u.ltnWin x false (u.now + u.get (.ltn x) LTN_DOUT_CLOSE) ∧ r.flag (.ltn x) LTN_STATUS_WIN = false)) ∧
  (∀ x w, Completes (fun t => .lselChange t x)
    (fun u => nextOpen (u.windows x) u.now = some w ∧ u.flag (.ltn x) LTN_STATUS_WIN = false ∧ u.mayLight x = true ∧
      w.2.2 < 4 ∧ u.get (.ltn x) LTN_STATUS_LSEL ≠ w.2.2 ∧
      u.ltn[x].closeAt + nsU (u.inf (.ltn x) LTN_LSEL_TIME_HOLD) + nsU (u.inf (.ltn x) LTN_LSEL_TIME_SETUP) ≤ w.1 ∧
      w.1 ≤ u.now + nsU (u.inf (.ltn x) LTN_LSEL_TIME_SETUP))
    (fun u r => r = u.put (.ltn x) LTN_STATUS_LSEL w.2.2 ∧ r.get (.ltn x) LTN_STATUS_LSEL = w.2.2)) ∧
  (∀ x code echo, Completes (fun t => .pdSample t x code echo) (fun u => u.domOn PD_LTN = true)
    (fun u r => r = u.photoSample x (min code 65535) echo)) ∧
  (∀ (x : Fin 6) (lvl : Fin 4), Completes (fun t => .ratioStale t x lvl)
    (fun u => scanMode x = false ∧ 256 ≤ u.ltn[x].unmeas[lvl] ∧ u.get (.ltn x) ⟨LTN_STATUS.off, 8 + lvl.val, 1⟩ = 0)
    (fun u r => r = (u.put (.ltn x) ⟨LTN_STATUS.off, 8 + lvl.val, 1⟩ 1).raise (.ltn x) LTN_EV_RATIO_STALE ∧
      r.get (.ltn x) ⟨LTN_STATUS.off, 8 + lvl.val, 1⟩ = 1))

/-- The interlock and fallback commands of a Lantern complete. A window or an echo high past `LTN_WIN_MAX` trips it with cause
2, a source still lit 20 µs after the link's loss with cause 3, a kill pin that reads wrong for more than 1 µs with cause
7 (R160); CLEAR by the MP releases the latch once no cause is present (R162); TEST trips it with cause 6 (R163); the
fallback train opens and closes its windows and renews its code every 100 ms, and 10 ms in SAFE without PARK is reported
(R159). -/
def Obligations.LanternInterlockCommandsComplete : Prop :=
  (∀ x, Completes (fun t => .winStuck t x true)
    (fun u => (u.ltnEcho x true).ltnActive x = true ∧
      (u.ltnEcho x true).ltn[x].echoRise + nsU ((u.ltnEcho x true).get (.ltn x) LTN_WIN_MAX) < (u.ltnEcho x true).now)
    (fun u r => r = (u.ltnEcho x true).trip x 2)) ∧
  (∀ x a pd, Completes (fun t => .linkLitCheck t x true pd)
    (fun u => u.ltn[x].lossAt = some a ∧ a + usU 20 ≤ u.now ∧ (u.lossSeen x true pd).ltnActive x = true)
    (fun u r => r = (u.lossSeen x true pd).trip x 3)) ∧
  (∀ x pin dur, Completes (fun t => .pinMismatch t x pin dur)
    (fun u => pin ≠ u.ltn[x].killN ∧ usU 1 < dur ∧ u.ltnActive x = true)
    (fun u r => r = ((u.pinSeen x pin dur).trip x 7).modLtn x fun l => { l with pinSince := u.now })) ∧
  (∀ x, Completes (fun t => .ilkClear t .mp x)
    (fun u => u.writable .mp (.ltn x) LTN_ILK_CMD = true ∧ u.tripped x = true ∧ u.causePresent x (u.scnGone x) = false)
    (fun u r => r = (u.ltnUnlatch x (u.unitState x == E_OFF)).answer 1 ∧ r.tripped x = false)) ∧
  (∀ x, Completes (fun t => .ilkTest t .mp x)
    (fun u => u.writable .mp (.ltn x) LTN_ILK_CMD = true ∧ (u.ltnState x = LTN_OFF ∨ u.ltnState x = LTN_ARMED) ∧
      (u.unitState x = E_OFF ∨ u.unitState x = E_TRAIN ∨ u.unitState x = E_READY))
    (fun u r => r = (u.trip x 6).answer 2)) ∧
  (∀ x, Completes (fun t => .fallbackWindow t x)
    (fun u => u.ltnState x = LTN_FALLBACK_ST ∧ u.flag (.ltn x) LTN_STATUS_WIN = false ∧ u.ltn[x].fbReady = true ∧
      u.ltn[x].cut = false ∧ u.ltn[x].closeAt + usU 2 ≤ u.now)
    (fun u r => r = ((u.ltnWin x true u.now).modLtn x fun l => { l with fbLen := u.fallbackWin x }) ∧ r.flag (.ltn x) LTN_STATUS_WIN = true)) ∧
  (∀ x, Completes (fun t => .fallbackWindow t x)
    (fun u => u.ltnState x = LTN_FALLBACK_ST ∧ u.flag (.ltn x) LTN_STATUS_WIN = true ∧
      u.ltn[x].openAt + u.ltn[x].fbLen ≤ u.now ∧ u.ltn[x].markDue = false)
    (fun u r => r = u.ltnWin x false u.now ∧ r.flag (.ltn x) LTN_STATUS_WIN = false)) ∧
  (∀ x, Completes (fun t => .fallbackRefresh t x)
    (fun u => u.ltnState x = LTN_FALLBACK_ST ∧ u.ltn[x].refreshAt ≤ u.now)
    (fun u r => r = u.fallbackRefresh x)) ∧
  (∀ x n a, Completes (fun t => .fallbackDark t x)
    (fun u => u.ltn[x].safeAt = some a ∧ engOfLtn x = some n ∧ u.engState n = E_SAFE ∧
      u.flag (.ltn x) LTN_FALLBACK_MODE = true ∧ u.ltnState x ≠ LTN_FALLBACK_ST ∧
      u.flag (.sxl n) SXL_STATUS_PARK_CONFIRMED = false ∧ u.ltn[x].darkRaised = false ∧ a + msU 10 ≤ u.now)
    (fun u r => r = (u.modLtn x fun l => { l with darkRaised := true }).raise (.ltn x) LTN_EV_FALLBACK_DARK ∧
      r.ltn[x].darkRaised = true))


/-! ### Links -/

/-- The link's commands complete. A training step past its limit fails with its detail (R187); training that finds a rank
brings the link up (R188); an echo is a latency sample of training's pass or of a running link (R180); a good sideband response has its effect, a missing one is
an error, three failures in a row end the sideband (R181); ATTN and the polls read the array (R183); eyes, CRC windows
and probes drive rate and groups (R190); a rate switch past 4 µs and a loss are reported to the engine (R192); a pattern
is loaded in READY (R186). -/
def Obligations.LinkCommandsComplete : Prop :=
  (∀ n, Completes (fun t => .trainingStepTimeout t n)
    (fun u => u.sxl[n].step ≠ 0 ∧ u.sxl[n].stepAt + (u.stepLimit n).1 ≤ u.now)
    (fun u r => r = u.trainDead n (u.stepLimit n).2)) ∧
  (∀ n ms g rate, Completes (fun t => .trainingDone t n ms)
    (fun u => 4 ≤ u.sxl[n].step ∧ u.geomFits n = true ∧
      (u.keepRates n (u.measured n ms)).bestRank n = some (g, rate))
    (fun u r => r = (((u.keepRates n (u.measured n ms)).linkRise n g rate).engLinkUp n))) ∧
  (∀ n echo stamp, Completes (fun t => .markEcho t n echo stamp)
    (fun u => u.sxl[n].step = 4) (fun u r => r = u.trainMark n (u.markSample n echo stamp) stamp)) ∧
  (∀ n echo stamp, Completes (fun t => .markEcho t n echo stamp)
    (fun u => u.sxl[n].step ≠ 4 ∧ u.sxlState n = SXL_ACTIVE)
    (fun u r => r.sxl[n].markSum = u.sxl[n].markSum + u.markSample n echo stamp ∧
      r.sxl[n].markCnt = u.sxl[n].markCnt + 1 ∧ SameRegsExactly u r [] ∧ SameOnChip u r ∧ SameDram u r)) ∧
  (∀ n op addr data resp, Completes (fun t => .sidebandTransaction t n op addr data resp)
    (fun u => u.sbRuns n = true ∧ sbOk (u.sbStep1 n).sxl[n].tag resp = true)
    (fun u r => r = ((u.sbStep1 n).sbSend n op addr data).sbDone n op addr data resp)) ∧
  (∀ n, Completes (fun t => .sidebandTimeout t n) (fun u => u.sbRuns n = true)
    (fun u r => r = (u.sbStep1 n).sbError n)) ∧
  (∀ n, Completes (fun t => .sbDead t n) (fun u => 3 ≤ u.sxl[n].failed ∧ u.sxl[n].step ≠ 0)
    (fun u r => r = (u.modSxl n fun l => { l with failed := 0 }).trainDead n SXL_SB_DEAD)) ∧
  (∀ n, Completes (fun t => .sbDead t n) (fun u => 3 ≤ u.sxl[n].failed ∧ u.sxl[n].step = 0 ∧ u.linkUp n = true)
    (fun u r => r = (u.modSxl n fun l => { l with failed := 0 }).engLinkLoss n SXL_SB_DEAD u.sxl[n].locked)) ∧
  (∀ n stat crc late info, Completes (fun t => .attn t n stat crc late info)
    (fun u => u.sbRuns n = true ∧ u.flag (.sxl n) SXL_STATUS_SB_OK = true)
    (fun u r => r = u.attnRead n stat crc late info)) ∧
  (∀ n stat, Completes (fun t => .linkStatPoll t n stat)
    (fun u => u.sbRuns n = true ∧ u.flag (.sxl n) SXL_STATUS_SB_OK = true ∧ u.sxl[n].statAt + msU 1 ≤ u.now)
    (fun u r => r = u.statPoll n stat)) ∧
  (∀ n temp, Completes (fun t => .tempPoll t n temp)
    (fun u => u.sbRuns n = true ∧ u.flag (.sxl n) SXL_STATUS_SB_OK = true ∧ u.sxl[n].tempAt + msU 100 ≤ u.now)
    (fun u r => r = ((u.sbReads n 1 0x08).sbRead n 0x08 temp).modSxl n fun l => { l with tempAt := u.now })) ∧
  (∀ n eyes, Completes (fun t => .eyePoll t n eyes)
    (fun u => u.sxlState n = SXL_ACTIVE ∧ u.sxl[n].eyeAt + msU 100 ≤ u.now) (fun u r => r = u.eyePoll n eyes)) ∧
  (∀ n, Completes (fun t => .crcWindow t n)
    (fun u => u.linkUp n = true ∧ u.sxl[n].crcAt + secU 1 ≤ u.now) (fun u r => r = u.crcWindow n)) ∧
  (∀ n pass, Completes (fun t => .groupProbe t n pass)
    (fun u => u.sxlState n = SXL_ACTIVE ∧ u.infFlag (.sxl n) SXL_CFG_PROBE_EN = true ∧
      u.sxl[n].probeAt + msU (u.get (.sxl n) SXL_RETRY_PROBE_MS) ≤ u.now)
    (fun u r => r = u.groupProbe n pass)) ∧
  (∀ n a, Completes (fun t => .rateSwitchTimeout t n)
    (fun u => u.sxl[n].switchAt = some a ∧ u.linkUp n = true ∧ a + usU 4 ≤ u.now)
    (fun u r => r = u.engLinkLoss n SXL_LANE_LOSS u.sxl[n].locked)) ∧
  (∀ n pll groups, Completes (fun t => .linkLoss t n pll groups) (fun u => u.linkUp n = true)
    (fun u r => r = u.engLinkLoss n (if pll then SXL_PLL_LOCK else SXL_LANE_LOSS) groups)) ∧
  (∀ path n v, v < 2 ^ 32 → v % 2 = 1 → 2 ≤ bitsOf v 1 2 → Completes (fun t => .parkLoad t path n v)
    (fun u => u.writable path (.sxl n) SXL_PARK_LOAD = true ∧ u.engState n = E_READY)
    (fun u r => r = (u.parkLoad path n v).answer (BitVec.ofNat 32 v) ∧ r.sxl[n].parkWait = true))


/-! ### Scanners -/

/-- The drive and frame commands of a scanner complete. A turning point of running drives starts the next half-period (R208);
one missed for 1.25 H is amplitude loss, and so is the COUNT-th bad line in a row of the slow axis (R211); the pixel due now is
modulated (R205), missing data shows the background (R214), and a frame that is due starts (R212); spin-up sweeps
40 ms, ends in READY after 10 ms of phase lock with the amplitude within 1 %, or in SAFE at 250 ms (R209); stopped drives end monitoring (R211). -/
def Obligations.ScannerFramesComplete : Prop :=
  (∀ k peak lag locked, Completes (fun t => .turningPoint t k peak lag locked) (fun u => u.scn[k].running = true)
    (fun u r => r = u.turningPoint k peak lag locked)) ∧
  (∀ k, Completes (fun t => .turningPointMissed t k)
    (fun u => u.scn[k].running = true ∧ u.scn[k].missed = false ∧ u.scn[k].lastTp + 9 * u.scn[k].half / 4 ≤ u.now)
    (fun u r => r = (u.modScn k fun c => { c with missed := true }).ampLoss k SCN_AMP_LOST)) ∧
  (∀ k err, Completes (fun t => .slowAxisCheck t k err)
    (fun u => u.scn[k].running = true ∧ err ≤ u.inf (.scn k) SCN_SLOW_TOL_TOL)
    (fun u r => r.scn[k].slowBad = 0 ∧ SameRegsExactly u r [])) ∧
  (∀ k err, Completes (fun t => .slowAxisCheck t k err)
    (fun u => u.scn[k].running = true ∧ u.inf (.scn k) SCN_SLOW_TOL_TOL < err ∧
      u.scn[k].slowBad + 1 = u.inf (.scn k) SCN_SLOW_TOL_COUNT)
    (fun u r => r = (u.modScn k fun c => { c with slowBad := c.slowBad + 1 }).ampLoss k SCN_SLOW_LOST)) ∧
  (∀ k, Completes (fun t => .lmodUpdate t k)
    (fun u => u.scnLit k = true ∧ u.scn[k].line < u.scn[k].lact ∧ u.scn[k].pixel < u.scn[k].px ∧
      (u.slotOf k u.scn[k].pixel).2 = u.now)
    (fun u r => r = u.lmodUpdate k ∧ r.scn[k].pixel = u.scn[k].pixel + 1)) ∧
  (∀ k, Completes (fun t => .scnUnderrun t k)
    (fun u => u.scnLit k = true ∧ u.scn[k].line < u.scn[k].lact ∧ u.scn[k].under = false)
    (fun u r => r = u.scnUnderrun k ∧ r.scn[k].under = true ∧ r.scn[k].ur = true)) ∧
  (∀ k, Completes (fun t => .scnFrameStart t k)
    (fun u => u.scn[k].due = true ∧ u.onTick u.scn[k].lastTp = true)
    (fun u r => r = (u.modScn k fun c => { c with due := false }).scnStart k)) ∧
  (∀ k freq, Completes (fun t => .spinupSweepDone t k freq)
    (fun u => u.scnState k = E_TRAIN ∧ u.scn[k].running = true ∧ u.scn[k].swept = false ∧
      u.scn[k].spinAt + msU 40 ≤ u.now)
    (fun u r => r = (u.modScn k fun c => { c with swept := true }).freqTo k freq ∧ r.scn[k].swept = true ∧
      r.scn[k].freq = (clampI (16 * u.inf (.scn k) SCN_FAST_FREQ_FMIN : Nat) (16 * u.inf (.scn k) SCN_FAST_FREQ_FMAX : Nat)
        freq).toNat)) ∧
  (∀ k f, Completes (fun t => .spinupDone t k)
    (fun u => u.scn[k].lockedFrom = some f ∧ f + msU 10 ≤ u.now ∧ u.scnState k = E_TRAIN ∧ u.scn[k].swept = true ∧
      u.scn[k].near = true)
    (fun u r => r = (((u.scnUse k).modScn k fun c => { c with line := 0, due := true, pixel := 0 }).put (.scn k)
      SCN_STATUS_MON_ARMED 1).scnTo k E_READY 0)) ∧
  (∀ k, Completes (fun t => .spinupFail t k)
    (fun u => u.scnState k = E_TRAIN ∧ u.scn[k].running = true ∧ u.scn[k].spinAt + msU 250 ≤ u.now)
    (fun u r => r = (u.scnTo k E_SAFE SCN_SPINUP_FAIL).scnRampDown k)) ∧
  (∀ k, Completes (fun t => .drivesStopped t k)
    (fun u => u.scn[k].rampDown = true ∧ u.scnState k ≠ E_OFF)
    (fun u r => r = u.scnDrivesZero k ∧ r.scn[k].running = false ∧ r.flag (.scn k) SCN_STATUS_MON_ARMED = false))

/-- A command written to `SCN_CMD`, and an entry written to `SCN_PTT_DATA`, complete (R216, R204). START asks for a grant from
OFF and marks a READY scanner; STOP turns off a scanner that shows no frame and marks one that does; PARK ends the
light; FAULT_CLEAR leaves FAULT with the latch clear. An entry of a table not in use is stored and INDEX moves on. -/
def Obligations.ScannerCommandsComplete : Prop :=
  (∀ path k, Completes (fun t => .scnStart t path k)
    (fun u => u.writable path (.scn k) SCN_CMD = true ∧
      (u.scnState k = E_OFF ∨ u.scnState k = E_READY ∨ u.scnState k = E_SAFE))
    (fun u r => (u.scnStartCmd k (pathCode path) SCN_CMD.off).2 = (ST_OK, 0) ∧
      r = ((u.scnStartCmd k (pathCode path) SCN_CMD.off).1).answer 1)) ∧
  (∀ path k, Completes (fun t => .scnStop t path k)
    (fun u => u.writable path (.scn k) SCN_CMD = true ∧
      (u.scnState k = E_TRAIN ∨ u.scnState k = E_READY ∨ u.scnState k = E_SAFE))
    (fun u r => r = ((u.mbxStartCut (4 + k.val)).scnOff k).answer 2)) ∧
  (∀ path k, Completes (fun t => .scnStop t path k)
    (fun u => u.writable path (.scn k) SCN_CMD = true ∧ (u.scnState k = E_LIT ∨ u.scnState k = E_HOLD))
    (fun _ r => r.scn[k].stop = true)) ∧
  (∀ path k, Completes (fun t => .scnPark t path k)
    (fun u => u.writable path (.scn k) SCN_CMD = true ∧
      (u.scnState k = E_READY ∨ u.scnState k = E_LIT ∨ u.scnState k = E_HOLD))
    (fun u r => r = (((u.mbxStartCut (4 + k.val)).ltnDark (ltnOfScn k)).scnTo k E_SAFE SCN_PARK_CMD).answer 3)) ∧
  (∀ path k, Completes (fun t => .scnFaultClear t path k)
    (fun u => u.writable path (.scn k) SCN_CMD = true ∧ u.scnState k = E_FAULT ∧ u.tripped (ltnOfScn k) = false)
    (fun u r => r = (u.scnOff k).answer 4)) ∧
  (∀ path k v, v < 2 ^ 32 → Completes (fun t => .pttDataWrite t path k v)
    (fun u => u.writable path (.scn k) SCN_PTT_DATA = true ∧ u.scnFrames k = false ∧ u.commitPending (.scn k) = false)
    (fun u r => u.get (.scn k) SCN_PTT_IDX_TABLE = r.get (.scn k) SCN_PTT_IDX_TABLE ∧
      r.tau k (u.get (.scn k) SCN_PTT_IDX_TABLE) (u.get (.scn k) SCN_PTT_IDX_INDEX) = v % 2 ^ 24 ∧
      r.get (.scn k) SCN_PTT_IDX_INDEX = min 1024 (u.get (.scn k) SCN_PTT_IDX_INDEX + 1)))


/-! ### Narpa ports and the keeper -/

/-- The commands of a Narpa port complete. A RUN port with nothing to tear down serves a configuration access first, then an
image frame that is owed (R236); the oldest latch is reached at its instant (R237); the highs at `NPn_RI`, once it is low for 1.5 T, are
the return frame of the oldest frame that awaits one, whatever it carries (R221, R231, R239); three missing in a row open the chain (R240);
ENUM and STROBE are taken as `NP_CMD` writes (R243, R238), a mark is sent on the tick of its instant or, later, of the
free line (R229, R238), and GO queues a configuration access (R236). -/
def Obligations.NarpaCommandsComplete : Prop :=
  (∀ q w, Completes (fun t => .npFrame t q)
    (fun u => u.domOn (npBank q) = true ∧ w = u.npReady q ∧ w.npState q = NP_RUN ∧ w.npTear q = false ∧
      w.np[q].enumWant = false ∧ w.flag (npPage q) (NP_CFGACC_GO (npLane q)) = false ∧ w.npImageDue q = true)
    (fun _ r => r = w.npImageFrame q)) ∧
  (∀ q at' gov rest, Completes (fun t => .npLatch t q)
    (fun u => u.np[q].latches = (at', gov) :: rest ∧ at' ≤ u.now) (fun u r => r = u.npLatch q)) ∧
  (∀ q mark cells quiet w x rest, Completes (fun t => .npReturnFrame t q mark cells quiet)
    (fun u => w = u.npReady q ∧ w.np[q].rets = x :: rest ∧ 3 * x.cell ≤ 2 * quiet)
    (fun _ r => r = w.npTakeReturn q x rest (npReturned x.kind x.nodes w.np[q].tx (npReceive x.cell mark cells)))) ∧
  (∀ q w, Completes (fun t => .chainOpen t q)
    (fun u => w = u.npReady q ∧ 3 ≤ w.np[q].silent ∧ w.npState q = NP_RUN ∧
      w.flag (npPage q) (NP_STATUS_CHAIN_OPEN (npLane q)) = false)
    (fun _ r => r = ((w.put (npPage q) (NP_STATUS_CHAIN_OPEN (npLane q)) 1).npShowGroup (npGroup q)).raise (npPage q)
      (8 + npLane q))) ∧
  (∀ path q, Completes (fun t => .npEnum t path q)
    (fun u => u.writable path (npPage q) (NP_CMD (npLane q)) = true ∧ (u.npState q = NP_RUN ∨ u.npState q = NP_ENUM_FAIL))
    (fun u r => r = ((u.modNp q fun o => { o with enumWant := true }).npSettle q).answer 1)) ∧
  (∀ path q, Completes (fun t => .npStrobe t path q)
    (fun u => u.writable path (npPage q) (NP_CMD (npLane q)) = true ∧ u.npState q = NP_RUN)
    (fun u r => r = (u.npSchedule q ((u.localTime : Int) + toNs (2 * (u.npN q + 1) * u.npT q) + 4000) none).answer 2 ∧
      r.np[q].strobe.isSome = true)) ∧
  (∀ q b, Completes (fun t => .npStrobeMark t q)
    (fun u => u.np[q].strobe = some b ∧ (u.strobeDropped b).isNone = true ∧ u.onTick (u.strobeTick q b) = true ∧
      u.npState q = NP_RUN)
    (fun u r => r = ((u.npMark q (u.strobeLate q b.mark)).schedMarked b (u.strobeLate q b.mark)).npSettle q)) ∧
  (∀ path q v, v < 2 ^ 32 → Completes (fun t => .cfgAccess t path q v)
    (fun u => u.writable path (npPage q) (NP_CFGACC (npLane q)) = true ∧ u.flag (npPage q) (NP_CFGACC_GO (npLane q)) = false)
    (fun _ r => r.flag (npPage q) (NP_CFGACC_GO (npLane q)) = true))

/-- The keeper's commands complete. A word written to `NPK_DATA` is stored and one read is answered, and the address moves to
the next word (R244); the wake frame due is sent (R245); the keepalive mark due is sent, the next one second later
(R246); a frame that ends frees its line (R245). -/
def Obligations.KeeperCommandsComplete : Prop :=
  (∀ path v, v < 2 ^ 32 → Completes (fun t => .npkDataAccess t path true v)
    (fun u => u.writable path (.np 0) NPK_DATA = true)
    (fun u r => memLE r.keeper.store u.npkAddr 4 = v ∧
      (∀ b, b < u.npkAddr ∨ u.npkAddr + 4 ≤ b → memByte r.keeper.store b = memByte u.keeper.store b) ∧
      r.npkAddr = (u.npkAddr + 4) % 0x4000 ∧ SameRegsExactly u r [(Page.np 0).base + NPK_ADDR.off])) ∧
  (∀ path v, Completes (fun t => .npkDataAccess t path false v)
    (fun u => u.readable path (.np 0) NPK_DATA = true)
    (fun u r => r = u.npkNext.answer (BitVec.ofNat 32 (memLE u.keeper.store u.npkAddr 4)))) ∧
  (∀ (p : Fin 8) rest, Completes (fun t => .keeperWakeFrame t p)
    (fun u => u.keeper.play = p.val :: rest ∧ u.keeperLine p.val = false ∧ u.keeperBarred p = false ∧
      (∀ f, u.keeper.first = some f → f + usU (50 * p.val) ≤ u.now))
    (fun u r => r = (u.keeperTake p rest).keeperSend p ∧ r.keeper.play = rest)) ∧
  (∀ p, Completes (fun t => .keepaliveStrobe t p)
    (fun u => u.keeper.alive[p] ≤ u.now ∧ u.aliveNow p = true ∧ u.keeperLine p.val = false)
    (fun u r => r.keeper.alive[p] = u.now + secU 1 ∧
      r.keeper.line = u.keeper.line ++ [(p.val, u.now + 31250, false)] ∧ SameRegsExactly u r [])) ∧
  (∀ p q, finOf 104 (p : Fin 8).val = some q → Completes (fun t => .keeperFrameEnd t p)
    (fun u => (u.keeper.line.any fun e => e.1 == p.val && decide (e.2.1 ≤ u.now)) = true ∧ u.npState q ≠ NP_ENUM_ST)
    (fun u r => r = (u.modKeeper fun k =>
      { k with line := k.line.filter fun e => !(e.1 == p.val && decide (e.2.1 ≤ u.now)) }).keeperDone))


/-! ### Matrix ports -/

/-- The commands of a matrix port complete. A frame that is due starts unless its commit turns the port off (R257); a row is lit
by its latch and dark at the end of its slot, where the next row or the blanking follows (R255); a lost column is counted with its place
(R260); an edge of TE is taken while the port runs or waits for it (R262–R264); a transfer that ends is followed by SHOW
(R261), at whose end a port switched off goes OFF (R266); TE missing for its timeout, with no edge of that tick to come, gives TE_LOST (R264, R267); RESEND asks for the image again (R266). -/
def Obligations.MatrixCommandsComplete : Prop :=
  (∀ q w, Completes (fun t => .mxFrameStart t q)
    (fun u => w = u.mxNow q ∧ w.mxStartDue q = true ∧ w.mx[q].skip = false ∧ (w.mxPoint q).mxState q = MX_RUN)
    (fun _ r => r = (w.mxPoint q).mxFrame q (w.mxStartAt q))) ∧
  (∀ q, Completes (fun t => .mxRowSlot t q)
    (fun u => u.mxState q = MX_RUN ∧ u.mxMem q = false ∧ u.mx[q].running = true ∧ u.mx[q].stage = .slot ∧
      u.mxRowAt q + nsU (200 + rowPre (u.mxInf q MX_ROWT)) ≤ u.now ∧ u.now < u.mxRowAt q + nsU (rowSlot (u.mxInf q MX_ROWT)))
    (fun u r => r = u.mxNow q ∧ r.mx[q].stage = .latch ∧ r.mx[q].shown = u.mx[q].codes ∧ r.mx[q].row = u.mx[q].row)) ∧
  (∀ q, Completes (fun t => .mxRowSlot t q)
    (fun u => u.mxState q = MX_RUN ∧ u.mxMem q = false ∧ u.mx[q].running = true ∧ u.mx[q].stage = .latch ∧
      u.mxRowAt q + nsU (rowSlot (u.mxInf q MX_ROWT)) ≤ u.now ∧ u.mx[q].row + 1 < u.mxRows q ∧
      u.now < u.mx[q].start + nsU ((u.mx[q].row + 1) * rowSlot (u.mxInf q MX_ROWT)) + nsU (200 + rowPre (u.mxInf q MX_ROWT)))
    (fun u r => r.mx[q].stage = .slot ∧ r.mx[q].row = u.mx[q].row + 1 ∧ r.mx[q].shown = [])) ∧
  (∀ q, Completes (fun t => .mxRowSlot t q)
    (fun u => u.mxState q = MX_RUN ∧ u.mxMem q = false ∧ u.mx[q].running = true ∧ u.mx[q].stage = .latch ∧
      u.mxRowAt q + nsU (rowSlot (u.mxInf q MX_ROWT)) ≤ u.now ∧ u.mxRows q ≤ u.mx[q].row + 1)
    (fun _ r => r.mx[q].stage = .blank ∧ r.mx[q].shown = [])) ∧
  (∀ q c w, Completes (fun t => .mxUnderrun t q c)
    (fun u => w = u.mxNow q ∧ w.mxState q = MX_RUN ∧ w.mxMem q = false ∧ w.mx[q].lost = none ∧ (c : Fin 64).val < w.mxCols q)
    (fun _ r => r.mx[q].lost = some c.val ∧ r.mx[q].codes.take c.val = w.mx[q].codes.take c.val)) ∧
  (∀ q falling, Completes (fun t => .teEdge t q falling)
    (fun u => u.flag .basecamp BC_STATUS_HOLD_UP = false ∧ (u.mxState q = MX_RUN ∨ u.mxState q = MX_TE_LOST) ∧
      u.mxMem q = true ∧ falling = (u.mxInf q MX_TE_POL == 1))
    (fun u r => r = u.mxEdge q)) ∧
  (∀ q fin, Completes (fun t => .mxTransferComplete t q)
    (fun u => u.mx[q].xfer = some fin ∧ fin ≤ u.now)
    (fun u r => r.mx[q].xfer = none ∧ r.mx[q].showEnd = some (u.now + nsU 100 + u.mxBytesU q showBytes.length))) ∧
  (∀ q e, Completes (fun t => .mxTransferComplete t q)
    (fun u => u.mx[q].xfer = none ∧ u.mx[q].showEnd = some e ∧ e ≤ u.now ∧ u.mx[q].stop = true)
    (fun u r => r = u.mxOffNow q MX_OFF)) ∧
  (∀ q, Completes (fun t => .teTimeout t q)
    (fun u => u.mxState q = MX_RUN ∧ u.mxMem q = true ∧ u.mx[q].teFrom + msU (u.mxInf q MX_TE_TIMEOUT) ≤ u.now ∧
      u.waits (teWaits q (u.mxInf q MX_TE_POL == 1)) = false)
    (fun u r => r = ((((((u.bump (mxPage q) (MX_TE_TIMEOUT_CNT (mxLane q))).raise (mxPage q) (8 + mxLane q)).errHw
      (mxPage q) ST_TIMEOUT 0x20)).mxTo q MX_TE_LOST).pbaRelease (ID_MX (mxGroup q).val) (mxLane q)).mxPoint q)) ∧
  (∀ path q, Completes (fun t => .mxResend t path q)
    (fun u => u.writable path (mxPage q) (MX_CMD (mxLane q)) = true ∧ u.mxState q = MX_RUN ∧ u.mxMem q = true)
    (fun _ r => r.mx[q].resend = true))


/-! ### TIME and SCHED -/

/-- The commands of the clock complete. A rate word out of hold-off sets the increment within its limits (R272, R276); SET and
STEP are taken for the next tick (R274); a slew within ±10 ms replaces what was left of the last (R275); a path delay
is kept (R278); a time-stamp is pushed and popped first in, first out (R282); the tick, freerun where no update of
that tick is to come, the end of hold-off, the PPS pin and its input have their effect when due (R271, R277, R278, R283, R284). -/
def Obligations.TimeCommandsComplete : Prop :=
  (∀ path v, v < 2 ^ 32 → Completes (fun t => .timeIncrWrite t path v)
    (fun u => u.writable path .time TIME_INCR = true ∧ u.flag .time TIME_STATUS_HOLDOFF = false)
    (fun u r => r = (u.timeIncrWrite v).answer (BitVec.ofNat 32 v) ∧
      r.clock.incr = clampN incrLo incrHi (bitsOf v 0 20 * 2 ^ 16 + u.get .time TIME_INCR_EXT))) ∧
  (∀ path, Completes (fun t => .timeAdjSet t path)
    (fun u => u.writable path .time TIME_ADJ = true ∧ u.get .time TIME_SET_NS < 1000000000)
    (fun u r => r.clock.adj = some (.set (bitsOf (u.get .time TIME_SET_HI) 0 16 * 2 ^ 32 + u.get .time TIME_SET_SEC)
      (u.get .time TIME_SET_NS)) ∧ SameRegsExactly u r [])) ∧
  (∀ path, Completes (fun t => .timeAdjStep t path)
    (fun u => u.writable path .time TIME_ADJ = true ∧ 0 ≤ signed 32 (u.get .time TIME_STEP_OFS))
    (fun u r => r.clock.adj = some (.step (signed 32 (u.get .time TIME_STEP_OFS))) ∧ SameRegsExactly u r [])) ∧
  (∀ path v, v < 2 ^ 32 → (signed 32 v).natAbs ≤ 10000000 → Completes (fun t => .timeSlewWrite t path v)
    (fun u => u.writable path .time TIME_SLEW = true ∧ u.flag .time TIME_STATUS_HOLDOFF = false)
    (fun _ r => r.clock.slewRem = (signed 32 v).natAbs * 2 ^ 32 ∧ r.clock.slewNeg = decide (signed 32 v < 0) ∧
      r.flag .time TIME_STATUS_SLEWING = true)) ∧
  (∀ path p v, v < 2 ^ 32 → Completes (fun t => .pdelayWrite t path p v)
    (fun u => u.writable path .time (TIME_PDELAY p.val) = true)
    (fun u r => r = (u.pdelayWrite p.val v).answer (BitVec.ofNat 32 v) ∧ r.get .time (TIME_PDELAY p.val) = bitsOf v 0 24)) ∧
  (∀ path p v, v < 2 ^ 32 → Completes (fun t => .txqPush t path p v)
    (fun u => u.writable path .time (TIME_TXQ_PUSH3 p.val) = true ∧ u.boundaryPort p = false ∧ u.clock.txq[p].length < 16)
    (fun u r => r.clock.txq[p] = u.clock.txq[p] ++
      [#v[u.clock.push[p][0] ||| 1, u.clock.push[p][1], u.clock.push[p][2], BitVec.ofNat 32 v]])) ∧
  (∀ path p e rest, Completes (fun t => .txqPop t path p)
    (fun u => u.readable path .time (TIME_TXQ_W3 p.val) = true ∧ u.clock.txq[p] = e :: rest)
    (fun _ r => r.clock.txq[p] = rest)) ∧
  Completes (fun t => .tclkTick t) (fun _ => True) (fun u r => r = u.at ((u.now / tickU + 1) * tickU)) ∧
  (∀ f, Completes (fun t => .freerun t)
    (fun u => u.domOn PD_NOC = true ∧ u.clock.servoFrom = some f ∧ u.clock.servoExpired = false ∧ u.timeState ≠ 0 ∧
      f + msU (u.get .time TIME_SERVO_TMO) ≤ u.now ∧ u.waits servoWaits = false)
    (fun u r => r = u.freerun ∧ r.clock.servoExpired = true ∧ r.flag .time TIME_STATUS_FREERUN = true)) ∧
  (∀ e, Completes (fun t => .holdoffEnd t)
    (fun u => u.domOn PD_NOC = true ∧ u.clock.holdEnd = some e ∧ e ≤ u.now)
    (fun u r => r = u.holdoffEnd ∧ r.clock.holdEnd = none)) ∧
  Completes (fun t => .ppsOut t)
    (fun u => u.domOn PD_NOC = true ∧ u.flag .time TIME_CFG_PPSOUT_EN = true ∧ u.timeState ≠ 0 ∧ u.ppsDue = true)
    (fun u r => r.ppsPin = true ∧ r.clock.ppsEnd = some (u.now + msU (u.get .time TIME_PPS_WIDTH)) ∧ SameRegsExactly u r []) ∧
  (∀ e, Completes (fun t => .ppsOutEnd t) (fun u => u.clock.ppsEnd = some e ∧ e ≤ u.now)
    (fun u r => r.ppsPin = false ∧ r.clock.ppsEnd = none ∧ SameRegsExactly u r [])) ∧
  (∀ falling, Completes (fun t => .ppsIn t falling)
    (fun u => u.domOn PD_NOC = true ∧ u.flag .time TIME_CFG_PPSIN_EN = true ∧
      u.flag .time TIME_CFG_PPSIN_POL = falling ∧ (∀ l, u.clock.ppsInLast = some l → l + msU 500 ≤ u.now))
    (fun u r => r.clock.ppsInLast = some u.now ∧ r.flag .time TIME_STATUS_PPSIN_VALID = true)) ∧
  (∀ l, Completes (fun t => .ppsinValidExpiry t)
    (fun u => u.clock.ppsInLast = some l ∧ l + msU 1200 ≤ u.now)
    (fun _ r => r.flag .time TIME_STATUS_PPSIN_VALID = false))

/-- A read of a nanoseconds register completes with its value and latches the seconds of the same instant: those of a stamp into
the register that follows it, those of the clock into the latch of the path (R119, R164, R218, R247, R268, R273, R291,
R406). -/
def Obligations.StampReadsComplete : Prop :=
  (∀ path, Completes (fun t => .timeNowRead t path) (fun u => u.readable path .time TIME_NOW_NS = true)
    (fun u r => (u.frozen .time = false → r.out = [some (BitVec.ofNat 32 u.localNs)]) ∧
      r.clock.latchSec[pathIx path] = BitVec.ofNat 32 u.localSec ∧ SameRegsExactly u r [])) ∧
  (∀ path n, Completes (fun t => .engFstartNsRead t path n) (fun u => u.readable path (.eng n) ENG_FSTART_NS = true)
    (fun u r => r = (u.latchStamp (.eng n) ENG_FSTART_NS).answer (BitVec.ofNat 32 (u.regRead path (.eng n) ENG_FSTART_NS.off)))) ∧
  (∀ path k, Completes (fun t => .scnFstartNsRead t path k) (fun u => u.readable path (.scn k) SCN_FSTART_NS = true)
    (fun u r => r = (u.latchStamp (.scn k) SCN_FSTART_NS).answer (BitVec.ofNat 32 (u.regRead path (.scn k) SCN_FSTART_NS.off)))) ∧
  (∀ path x, Completes (fun t => .ltnIlkTimeNsRead t path x) (fun u => u.readable path (.ltn x) LTN_ILK_TIME_NS = true)
    (fun u r => r = (u.latchStamp (.ltn x) LTN_ILK_TIME_NS).answer (BitVec.ofNat 32 (u.regRead path (.ltn x) LTN_ILK_TIME_NS.off)))) ∧
  (∀ path q, Completes (fun t => .npLatchNsRead t path q)
    (fun u => u.readable path (npPage q) (NP_LATCH_NS (npLane q)) = true)
    (fun u r => r = (u.latchStamp (npPage q) (NP_LATCH_NS (npLane q))).answer
      (BitVec.ofNat 32 (u.regRead path (npPage q) (NP_LATCH_NS (npLane q)).off)))) ∧
  (∀ path q, Completes (fun t => .mxFstartNsRead t path q)
    (fun u => u.readable path (mxPage q) (MX_FSTART_NS (mxLane q)) = true)
    (fun u r => r = (u.latchStamp (mxPage q) (MX_FSTART_NS (mxLane q))).answer
      (BitVec.ofNat 32 (u.regRead path (mxPage q) (MX_FSTART_NS (mxLane q)).off)))) ∧
  (∀ path, Completes (fun t => .timePpsinNsRead t path) (fun u => u.readable path .time TIME_PPSIN_NS = true)
    (fun u r => r = (u.latchStamp .time TIME_PPSIN_NS).answer (BitVec.ofNat 32 (u.regRead path .time TIME_PPSIN_NS.off)))) ∧
  (∀ path, Completes (fun t => .thermShutNsRead t path) (fun u => u.readable path .therm THERM_SHUT_NS = true)
    (fun u r => r = (u.latchStamp .therm THERM_SHUT_NS).answer (BitVec.ofNat 32 (u.regRead path .therm THERM_SHUT_NS.off))))

/-- The commands of SCHED complete. WRITE arms the entry staged when its fields are legal, READ shows entry `i` in the staging
registers, CANCEL empties it (R285); the entry due is dispatched (R286, R287); a strobe whose mark is due goes to a port
that takes it (R288). -/
def Obligations.SchedCommandsComplete : Prop :=
  (∀ path i w, Completes (fun t => .schedWrite t path i)
    (fun u => u.writable path .sched SCHED_ACC = true ∧ u.schedBusy ≤ u.now ∧ w = u.put .sched SCHED_ACC (2 ^ 28 + i.val) ∧
      w.schedFail (w.schedStaged path) = none)
    (fun _ r => r = (w.schedStore i.val (w.schedStaged path)).schedTake.answer (BitVec.ofNat 32 (2 ^ 31 + 2 ^ 28 + i.val)))) ∧
  (∀ path i, Completes (fun t => .schedRead t path i)
    (fun u => u.writable path .sched SCHED_ACC = true ∧ u.schedBusy ≤ u.now)
    (fun u r => r = (u.schedAcc path (2 ^ 31 + 2 * 2 ^ 28 + i.val)).answer (BitVec.ofNat 32 (2 ^ 31 + 2 * 2 ^ 28 + i.val)) ∧
      r.get .sched SCHED_E_NS = (u.schedGet i.val).time % 1000000000 ∧
      r.get .sched SCHED_E_TARGET = (u.schedGet i.val).target % 2 ^ 32 ∧
      r.get .sched SCHED_E_VALUE = (u.schedGet i.val).value % 2 ^ 32)) ∧
  (∀ path i, Completes (fun t => .schedCancel t path i)
    (fun u => u.writable path .sched SCHED_ACC = true ∧ u.schedBusy ≤ u.now)
    (fun u r => r = (((u.put .sched SCHED_ACC (3 * 2 ^ 28 + i.val)).schedWithdraw i.val).schedSet i.val {}).schedTake.answer
      (BitVec.ofNat 32 (2 ^ 31 + 3 * 2 ^ 28 + i.val)))) ∧
  (∀ i e, Completes (fun t => .schedDispatch t)
    (fun u => u.schedRuns = true ∧ u.schedAt ≠ u.now / tickU + 1 ∧ u.schedOld = [] ∧ u.schedDue = some (i, e))
    (fun u r => r = ({ u with schedAt := u.now / tickU + 1 } : State).schedDispatch i e)) ∧
  (∀ i e q fl, Completes (fun t => .strobeHandover t)
    (fun u => u.schedRuns = true ∧ u.strobeDue = some (i, e) ∧ finOf 104 (bitsOf e.target 0 7) = some q ∧
      u.npTakes q = true ∧
      e.verdict ((u.localTime : Int) - ((e.time : Int) - toNs (2 * (u.npN q + 1) * u.npT q))) = .run fl)
    (fun u r => r = (u.npSchedule q e.time (some i)).schedSet i { e with st := .handed }))


/-! ### Memory controller -/

/-- The commands of `DMC_CMD` complete in the states that allow them: TRAIN asks for its grant, SR_ENTER with no request outstanding and
SR_EXIT enter and leave SELF_REFRESH, STOP ends in OFF (R312, R313, R316). A training whose used channels all pass
gives RUN, and one with a failure FAULT (R313); a lost PHY PLL gives FAULT (R316). -/
def Obligations.DmcCommandsComplete : Prop :=
  (∀ path, Completes (fun t => .dmcTrain t path)
    (fun u => u.writable path (.dmc 0) DMC_CMD = true ∧ u.dmcState = DMC_OFF)
    (fun u r => r = ((u.dmcTo DMC_TRAIN).pbaRequest ID_DMC NO_PORT).answer 1)) ∧
  (∀ path, Completes (fun t => .srEnter t path)
    (fun u => u.writable path (.dmc 0) DMC_CMD = true ∧ u.dmcState = DMC_RUN ∧
      u.dmcs.ports.toList.any (!·.isEmpty) = false)
    (fun u r => r = ((u.dmcTo DMC_SELF_REFRESH).setDom PD_DPHY false true).answer 2 ∧ r.dmcState = DMC_SELF_REFRESH)) ∧
  (∀ path, Completes (fun t => .srExit t path)
    (fun u => u.writable path (.dmc 0) DMC_CMD = true ∧ u.dmcState = DMC_SELF_REFRESH)
    (fun u r => r = (((u.setDom PD_DPHY true false).dmcStart true).dmcTo DMC_RUN).answer 3 ∧ r.dmcState = DMC_RUN)) ∧
  (∀ path, Completes (fun t => .dmcStop t path)
    (fun u => u.writable path (.dmc 0) DMC_CMD = true ∧
      (u.dmcState = DMC_RUN ∨ u.dmcState = DMC_SELF_REFRESH ∨ u.dmcState = DMC_FAULT))
    (fun u r => r = (((u.dmcTo DMC_OFF).dmcClear.pbaRelease ID_DMC NO_PORT).domOff PD_DPHY).answer 4)) ∧
  (∀ (res : Vector ChanTrain 8) t0, (∀ c : Fin 8, res[c].steps = true ∧ res[c].geom = false) → Completes (fun t => .trainDone t res)
    (fun u => u.dmcs.trainAt = some t0 ∧ (∀ c : Fin 8, bitsOf (u.get (.dmc 0) DMC_EYE_MIN) 0 10 ≤ bitsOf res[c].rd 0 10 ∧
      bitsOf (u.get (.dmc 0) DMC_EYE_MIN) 0 10 ≤ bitsOf res[c].wr 0 10))
    (fun _ r => r.dmcState = DMC_RUN ∧ r.dmcs.trainAt = none)) ∧
  (∀ (res : Vector ChanTrain 8) t0 (c : Fin 8), res[c].geom = true → Completes (fun t => .trainDone t res)
    (fun u => u.dmcs.trainAt = some t0 ∧ chanUsed u.dmcCfg c = true)
    (fun _ r => r.dmcState = DMC_FAULT ∧ r.dmcs.trainAt = none)) ∧
  Completes (fun t => .phyPllLoss t)
    (fun u => u.dmcState = DMC_TRAIN ∨ u.dmcState = DMC_RUN ∨ u.dmcState = DMC_SELF_REFRESH)
    (fun u r => r = u.dmcFault ∧ r.dmcState = DMC_FAULT)

/-- The traffic and maintenance commands of the DMC complete. A request within the memory waits at its port (R297, R299); a
write at the front enters its channel's write queue with room, and the memory then holds its bytes (R302); a read whose
burst is served answers its bytes (R301); a grant boundary serves its channel (R304); a due refresh is owed (R305); a
retraining slice falls due (R314); a temperature is read (R306); the row-activation window begins anew (R308); an idle
rank powers down (R311). -/
def Obligations.DmcTrafficCompletes : Prop :=
  (∀ p write pa len data, 32 ≤ len → len ≤ 256 → pa % 256 + len ≤ 256 →
    Completes (fun t => .portRequest t p write pa len data)
    (fun u => u.dmcState = DMC_RUN ∧ pa + len ≤ dmcUnits u.dmcCfg * unit256M)
    (fun u r => r.dmcs.ports[p] = u.dmcs.ports[p] ++ [{ write := write, pa := pa, since := u.now, target := u.portTarget p
                                                        data := if write then (List.range len).map fun i => data.getD i 0
                                                          else overlay u.dmcs.ports[p] pa (memBytes u.dram pa len) }] ∧
      SameRegsExactly u r [] ∧ SameDram u r)) ∧
  (∀ p q rest c, Completes (fun t => .writeQueueEntry t p)
    (fun u => u.dmcs.ports[p] = q :: rest ∧ finOf 8 (u.chanOf q.pa) = some c ∧ q.write = true ∧ q.since < u.now ∧
      (u.dmcs.chans[c].wq).length < 64)
    (fun u r => r = ((u.enterWrite p q c).latency p q).countBytes p true q.data.length ∧
      (u.enterWrite p q c).dram = memSetBytes u.dram q.pa q.data)) ∧
  (∀ p (ecc : Fin 3) q rest, Completes (fun t => .requestComplete t p ecc)
    (fun u => u.dmcs.ports[p] = q :: rest ∧ q.write = false ∧ q.served = true)
    (fun u r => r.dmcs.ports[p] = rest ∧ r.dmcs.rdData[p] = u.received q ecc.val ∧ (ecc = 0 → r.dmcs.rdData[p] = q.data))) ∧
  (∀ c drift ecc, Completes (fun t => .grantBoundary t c drift ecc)
    (fun u => u.dmcState = DMC_RUN ∧ chanUsed u.dmcCfg c = true ∧ u.dmcs.chans[c].until' ≤ u.now)
    (fun u r => r = u.grantBoundary c drift ecc.val)) ∧
  (∀ c r', Completes (fun t => .refreshDue t c r')
    (fun u => u.dmcState = DMC_RUN ∧ chanUsed u.dmcCfg c = true ∧ u.dmcRanks.contains r' = true ∧
      u.dmcs.chans[c].ranks[r'].due ≤ u.now)
    (fun u r => r.dmcs.chans[c].ranks[r'].debt = min 8 (u.dmcs.chans[c].ranks[r'].debt + 1) ∧
      r.dmcs.chans[c].ranks[r'].due = u.dmcs.chans[c].ranks[r'].due + bandInterval u.dmcs.chans[c].band ∧
      SameRegsExactly u r [])) ∧
  (∀ c, Completes (fun t => .retrainSlice t c)
    (fun u => u.dmcState = DMC_RUN ∧ chanUsed u.dmcCfg c = true ∧ bitsOf (u.get (.dmc 0) DMC_RETRAIN) 0 14 ≠ 0 ∧
      u.dmcs.chans[c].slice ≤ u.now)
    (fun u r => r.dmcs.chans[c].slice = u.now + msU (bitsOf (u.get (.dmc 0) DMC_RETRAIN) 0 14) ∧
      r.dmcs.chans[c].sliceDue.isSome = true)) ∧
  (∀ c r' code band cool, Completes (fun t => .mr4Read t c r' code band cool)
    (fun u => u.dmcState = DMC_RUN ∧ chanUsed u.dmcCfg c = true ∧ u.dmcRanks.contains r' = true ∧
      u.dmcs.chans[c].ranks[r'].mr4At + msU (bitsOf (u.get (.dmc 0) DMC_TEMP_MS) 0 8) ≤ u.now)
    (fun u r => r = u.mr4Read c r' code.val band.val cool)) ∧
  Completes (fun t => .rhWindowEnd t)
    (fun u => u.dmcState = DMC_RUN ∧ u.dmcs.rhFrom + msU 32 ≤ u.now)
    (fun u r => r.dmcs.rhFrom = u.now ∧ ∀ c : Fin 8, r.dmcs.chans[c].rh = [] ∧ r.dmcs.chans[c].throttle = []) ∧
  (∀ c r', Completes (fun t => .powerDownEntry t c r')
    (fun u => u.dmcState = DMC_RUN ∧ chanUsed u.dmcCfg c = true ∧ u.dmcRanks.contains r' = true ∧
      bitsOf (u.get (.dmc 0) DMC_PD_IDLE) 0 16 ≠ 0 ∧ u.dmcs.chans[c].ranks[r'].debt = 0 ∧
      u.dmcs.ports.toList.all (·.isEmpty) = true ∧ u.dmcs.chans[c].wq = [] ∧
      u.dmcs.chans[c].ranks[r'].idleFrom + nsU (bitsOf (u.get (.dmc 0) DMC_PD_IDLE) 0 16) ≤ u.now)
    (fun u r => r.dmcs.chans[c].ranks[r'].pd = true ∧ SameRegsExactly u r []))


/-! ### Mailbox and Runtime -/

/-- The windows and the hardware of the mailbox complete. A push with a free slot queues the command, and a pop frees the slot
of a final response or leaves it RUNNING (R336, R340); a response unread for `MBX_RSP_TMO` is dropped and counted (R340);
a command past its limit is answered TIMEOUT (R339); the windows of load and budget pass, a budget used up preempts the
extension and an access outside its grant stops it (R325, R327, R328). -/
def Obligations.MailboxHardwareCompletes : Prop :=
  (∀ path i, Completes (fun t => .mbxPush t path)
    (fun u => u.writable path .mbx MBX_PUSH = true ∧ u.icpCur = none ∧
      u.pushCheck (originOf path) (bitsOf u.mbx.win[pathSlot path][0].toNat 16 8) = .ok i)
    (fun _ r => r.mbx.slots[i].st = SL_QUEUED ∧ r.mbx.slots[i].origin = originOf path)) ∧
  (∀ path i, Completes (fun t => .mbxPop t path)
    (fun u => u.writable path .mbx MBX_POP = true ∧ u.rspSlot path = some i ∧ u.mbx.slots[i].final = true)
    (fun _ r => r.mbx.slots[i] = {})) ∧
  (∀ path i, Completes (fun t => .mbxPop t path)
    (fun u => u.writable path .mbx MBX_POP = true ∧ u.rspSlot path = some i ∧ u.mbx.slots[i].final = false)
    (fun _ r => r.mbx.slots[i].st = SL_RUNNING ∧ r.mbx.slots[i].rsp = none)) ∧
  (∀ i, Completes (fun t => .rspDrop t i)
    (fun u => u.domOn PD_NOC = true ∧ u.mbx.slots[i].st = SL_POSTED ∧ u.mbx.slots[i].final = true ∧
      u.mbx.slots[i].rsp.isSome = true ∧
      u.mbx.slots[i].postedAt + msU (bitsOf (u.get .mbx MBX_RSP_TMO) 0 16) ≤ u.now)
    (fun u r => r = ((u.modSlot i fun _ => {}).bump .mbx MBX_RSP_DROP_CNT).raise .mbx 4 ∧ r.mbx.slots[i] = {})) ∧
  (∀ i d, Completes (fun t => .mbxCommandTimeout t i)
    (fun u => u.mbx.slots[i].deadline = some d ∧ d ≤ u.now ∧ u.mp.up = true ∧ u.mbx.slots[i].wait ≠ .content)
    (fun u r => r = u.mbxPost i ST_TIMEOUT 0 0 [])) ∧
  (∀ load ext, Completes (fun t => .mpLoadWindow t load ext)
    (fun u => u.domOn PD_NOC = true ∧ u.mp.loadFrom + msU 100 ≤ u.now)
    (fun u r => r.mp.loadFrom = u.now ∧
      r.get .mbx MP_LOAD = ofBool (decide (95 ≤ load)) * 2 ^ 31 + min ext 100 * 2 ^ 16 + min load 100)) ∧
  Completes (fun t => .extBudgetPeriod t) (fun u => u.mp.extFrom + msU 10 ≤ u.now)
    (fun u r => r = { u with mp := { u.mp with extFrom := u.now, extCut := false } }) ∧
  Completes (fun t => .extPreempt t) (fun u => u.pathLive .ext = true)
    (fun u r => r.mp.extCut = true ∧ SameRegsExactly u r [Page.mbx.base + (MP_DL_MISS 6).off]) ∧
  (∀ a write, Completes (fun t => .extFault t a write)
    (fun u => u.extMay a write = false) (fun u r => r = u.access .ext a write id))

/-- The mailbox commands on units, programs, the clock and sequences complete when the Runtime takes them and no check of
theirs fails: the unit command is carried out, the program staged and committed, the time set and the sequence armed
(R342, R344, R453). -/
def Obligations.MailboxControlCompletes : Prop :=
  (∀ i, Completes (fun t => .ping t) (fun u => u.takes (ownOp 0x01) i)
    (fun u r => r = (u.inExec i).mbxPost i ST_OK 0 0 [Config.runtimeVersion.toNat, (u.inExec i).get .mbx MP_LOAD])) ∧
  (∀ i, Completes (fun t => .engineStart t)
    (fun u => u.takes (ownOp 0x10) i ∧ u.targetFails (bitsOf (u.mbx.slots[i].word 1) 0 5) = [])
    (fun u r => r = (u.inExec i).unitCmd i u.mbx.slots[i] .start State.unitStart)) ∧
  (∀ i, Completes (fun t => .engineStop t)
    (fun u => u.takes (ownOp 0x11) i ∧ u.targetFails (bitsOf (u.mbx.slots[i].word 1) 0 5) = [])
    (fun u r => r = (u.inExec i).unitCmd i u.mbx.slots[i] .stop State.unitStop)) ∧
  (∀ i, Completes (fun t => .enginePark t)
    (fun u => u.takes (ownOp 0x12) i ∧ u.targetFails (bitsOf (u.mbx.slots[i].word 1) 0 5) = [])
    (fun u r => r = (u.inExec i).unitCmd i u.mbx.slots[i] .park State.unitPark)) ∧
  (∀ i x, Completes (fun t => .engineFaultClear t)
    (fun u => u.takes (ownOp 0x13) i ∧ u.targetFails (bitsOf (u.mbx.slots[i].word 1) 0 5) = [] ∧
      unitOfT (bitsOf (u.mbx.slots[i].word 1) 0 5) = some x)
    (fun u r => r = (u.inExec i).unitClear i x)) ∧
  (∀ i n p, Completes (fun t => .programLoad t)
    (fun u => u.takes (ownOp 0x14) i ∧ u.programFails u.mbx.slots[i] = [] ∧
      finOf 4 (bitsOf (u.mbx.slots[i].word 1) 0 5) = some n ∧ bitOf (u.mbx.slots[i].word 1) 12 = false ∧
      (u.inExec i).program? (bitsOf (u.mbx.slots[i].word 2) 0 16) = some p)
    (fun u r => r = ((u.inExec i).programStage n (bitOf (u.mbx.slots[i].word 1) 8) p).mbxPost i ST_OK 0 0 [])) ∧
  (∀ i, Completes (fun t => .timeSet t)
    (fun u => u.takes (ownOp 0x30) i ∧ bitsOf (u.mbx.slots[i].word 3) 0 30 < 1000000000)
    (fun u r => r = ((({ u.inExec i with clock := { u.clock with
        adj := some (.set (bitsOf (u.mbx.slots[i].word 2) 0 16 * 2 ^ 32 + u.mbx.slots[i].word 1)
          (bitsOf (u.mbx.slots[i].word 3) 0 30)) } } : State).at ((u.now / tickU + 1) * tickU)).mbxPost i ST_OK 0 0 []))) ∧
  (∀ i l, Completes (fun t => .seqStart t)
    (fun u => u.takes (ownOp 0x31) i ∧ u.seqFails u.mbx.slots[i] = [] ∧ (u.inExec i).seqEntries u.mbx.slots[i] = some l)
    (fun u r => r = ((((u.inExec i).schedFree.zip l).foldl (fun (s : State) e => s.schedStore e.1 e.2)
      (u.inExec i)).tookFree).mbxPost i ST_OK 0 0 []))

/-- The mailbox commands on calibration, records, content, the log and the power state complete when the Runtime takes them and
no check of theirs fails: long work is answered ACCEPTED and begun, and the rest is done and answered OK (R339, R342,
R345–R347, R418, R426, R450, R454). -/
def Obligations.MailboxServicesComplete : Prop :=
  (∀ i, Completes (fun t => .calRun t)
    (fun u => u.takes (ownOp 0x20) i ∧ u.cal.run = none ∧ 1 ≤ bitsOf (u.mbx.slots[i].word 1) 0 8 ∧
      bitsOf (u.mbx.slots[i].word 1) 0 8 ≤ 9 ∧
      u.calDeclared (bitsOf (u.mbx.slots[i].word 1) 0 8) (bitsOf (u.mbx.slots[i].word 2) 0 16) = true)
    (fun u r => r = (((u.inExec i).mbxAccept i .cal (some (secU 10))).calCmd .mp (2 ^ 31 +
      bitsOf (u.mbx.slots[i].word 2) 0 3 * 2 ^ 16 + bitsOf (u.mbx.slots[i].word 1) 0 4)).1)) ∧
  (∀ i todo, Completes (fun t => .calStore t todo)
    (fun u => u.takes (ownOp 0x21) i ∧ u.storeFails = [])
    (fun u r => r = ((u.inExec i).mbxAccept i .store none).storeBegin
      (fitRecords (todo.filter fun e => decide (e.1 ≤ 0x0D))))) ∧
  (∀ i payload, Completes (fun t => .nvmCommit t payload)
    (fun u => u.takes (ownOp 0x22) i ∧ bitsOf (u.mbx.slots[i].word 1) 0 8 ≤ 0x10 ∧ u.storeFails = [])
    (fun u r => r = ((u.inExec i).mbxAccept i .store none).storeBegin
      (fitRecords [(bitsOf (u.mbx.slots[i].word 1) 0 8, payload)]))) ∧
  (∀ i, Completes (fun t => .contentOpen t)
    (fun u => u.takes (ownOp 0x32) i ∧ bitsOf (u.mbx.slots[i].word 1) 0 2 ≤ 1 ∧
      (bitsOf (u.mbx.slots[i].word 1) 0 2 = 0 → Page.declared u.pkg .stor = true) ∧ u.content.st ≠ 1 ∧
      u.dmcRunning = true)
    (fun u r => r.content.st = 1 ∧ r.content.prev = u.content.st ∧ r.content.opening =
      (bitsOf (u.mbx.slots[i].word 1) 0 2, u.mbx.slots[i].word 2, u.mbx.slots[i].word 3))) ∧
  (∀ p src off len, Completes (fun t => .contentOpenDone t p)
    (fun u => u.mp.up = true ∧ u.content.st = 1 ∧ u.content.next = none ∧ u.content.opening = (src, off, len) ∧
      src ≠ 0 ∧ p.read = true ∧ u.domOn PD_NVM = true ∧ nvmContentBase + 4096 * (off + len) ≤ nvmSize ∧
      u.pkgFail p (memBytes u.nvmMem (nvmContentBase + 4096 * off) (4096 * len)) (4096 * len) = none)
    (fun u r => r = u.contentPass p (memBytes u.nvmMem (nvmContentBase + 4096 * off) (4096 * len)))) ∧
  (∀ i, Completes (fun t => .logStop t) (fun u => u.takes (ownSub 0x40 0) i)
    (fun _ r => r.mp.logOn = false ∧ r.mp.recRun = false)) ∧
  (∀ i, Completes (fun t => .logEventLog t) (fun u => u.takes (ownSub 0x40 1) i)
    (fun u r => r.mp.logOn = true ∧ r.mp.logMask = u.mbx.slots[i].word 2)) ∧
  (∀ i, Completes (fun t => .logRecorder t)
    (fun u => u.takes (ownSub 0x40 2) i ∧ Page.declared u.pkg .stor = true ∧ u.dmcRunning = true)
    (fun u r => r.mp.recRun = true ∧ r.mp.logMask = u.mbx.slots[i].word 2)) ∧
  (∀ i, Completes (fun t => .logFlush t) (fun u => u.takes (ownSub 0x40 3) i) (fun _ r => r.mp.log = [])) ∧
  (∀ i, Completes (fun t => .powerStateRun t)
    (fun u => u.takes (ownSub 0x41 0) i ∧ u.pwrLegal 0 = true)
    (fun u r => r = ((u.inExec i).mbxAccept i (.power PS_RUN) (some (secU 1))).pwrGo 0)) ∧
  (∀ i, Completes (fun t => .powerStateStandby t)
    (fun u => u.takes (ownSub 0x41 1) i ∧ u.pwrLegal 1 = true)
    (fun u r => r = ((u.inExec i).mbxAccept i (.power PS_STANDBY) (some (secU 1))).pwrGo 1)) ∧
  (∀ i todo, Completes (fun t => .powerStateBivouac t todo)
    (fun u => u.takes (ownSub 0x41 2) i ∧ u.unitOn = none ∧ u.pwrLegal 2 = true)
    (fun u r => r = ((u.inExec i).mbxAccept i .bivStore none).storeBegin (fitRecords todo))) ∧
  (∀ b, Completes (fun t => .bivouacEntry t)
    (fun u => u.mp.biv = some b ∧ u.mp.up = true ∧ b.since + msU 100 ≤ u.now ∧ u.pwrLegal 2 = true)
    (fun u r => r = ({ u with mp := { u.mp with biv := none } } : State).pwrGo 2)) ∧
  (∀ i, Completes (fun t => .diagSnapshot t)
    (fun u => u.takes (ownOp 0x50) i ∧ u.mbx.slots[i].word 1 = 0)
    (fun u r => r = (u.inExec i).mbxPost i ST_OK 0 0 [(u.inExec i).diagStates, u.get .mbx MP_LOAD,
      ((List.finRange 6).filter fun x => u.tripped x).length]))


/-! ### Host interfaces -/

/-- The transactions of HSPI and ICP complete. A READ or WRITE on HSPI with a good header and whole data accesses its words
(R348); an authentic ICP request with the right length reads or writes its words (R444), pushes its command (R349), or
opens, fills, closes or aborts the bulk transfer (R446); a closed transfer is checked and written, and one idle for
10 s is aborted (R446). -/
def Obligations.HostCommandsComplete : Prop :=
  (∀ mosi, 12 ≤ mosi.length → beNat (mosi.take 1) = 0x0B → beNat ((mosi.drop 6).take 2) = crc16 (mosi.take 6) →
    Completes (fun t => .hspiRead t mosi) (fun u => u.domOn PD_NOC = true)
    (fun u r => r = ({ u with out := [] } : State).hspiRead mosi (beNat ((mosi.drop 1).take 1) % 64 + 1)
      (beNat ((mosi.drop 2).take 4)))) ∧
  (∀ mosi count, beNat (mosi.take 1) = 0x02 → beNat ((mosi.drop 6).take 2) = crc16 (mosi.take 6) →
    count = beNat ((mosi.drop 1).take 1) % 64 + 1 → 8 + 4 * count + 2 ≤ mosi.length →
    beNat ((mosi.drop (8 + 4 * count)).take 2) = crc16 ((mosi.drop 8).take (4 * count)) →
    Completes (fun t => .hspiWrite t mosi) (fun u => u.domOn PD_NOC = true)
    (fun u r => r = ({ u with out := [] } : State).hspiWrite mosi count (beNat ((mosi.drop 2).take 4)))) ∧
  (∀ n f rest w, f.lenIs 8 = true → 1 ≤ frBE f.payload 4 2 → frBE f.payload 4 2 ≤ 256 → frBE f.payload 6 2 = 0 →
    Completes (fun t => .icpRead t n) (fun u => u.serves n 0x01 f rest w) (fun _ r => r = w.icpRead n f)) ∧
  (∀ n f rest w, 8 ≤ f.payload.length → f.lenIs (8 + 4 * frBE f.payload 4 2) = true → 1 ≤ frBE f.payload 4 2 →
    frBE f.payload 4 2 ≤ 256 → frBE f.payload 6 2 = 0 →
    Completes (fun t => .icpWrite t n) (fun u => u.serves n 0x02 f rest w) (fun _ r => r = w.icpWrite n f)) ∧
  (∀ n f rest w i, f.lenIs 60 = true → Completes (fun t => .icpMbx t n)
    (fun u => u.serves n 0x03 f rest w ∧
      w.pushCheck ORG_ICP (bitsOf (BitVec.ofNat 32 (frBE f.payload 0 4)).toNat 16 8) = .ok i)
    (fun _ r => r.mbx.slots[i].st = SL_QUEUED ∧ r.mbx.slots[i].origin = ORG_ICP ∧ r.mbx.slots[i].ref = f.seq)) ∧
  (∀ n f rest w, f.lenIs 16 = true → frBE f.payload 0 1 ≤ 1 → frBE f.payload 1 3 = 0 → frBE f.payload 8 4 ≠ 0 →
    frBE f.payload 8 4 ≤ 16384 → Completes (fun t => .bulkOpen t n)
    (fun u => u.serves n 0x10 f rest w ∧ u.mp.up = true ∧ w.bulk = none ∧ w.dmcRunning = true ∧
      frBE f.payload 4 4 + frBE f.payload 8 4 ≤ w.bulkUnits (frBE f.payload 0 1) ∧
      w.overlapsOpen (frBE f.payload 0 1) (frBE f.payload 4 4) (frBE f.payload 8 4) = false ∧
      w.flag .nvm NVM_PROT_CONTENT_WP = false)
    (fun _ r => r.bulk = some { port := n.val, target := frBE f.payload 0 1, offset := frBE f.payload 4 4
                                length := frBE f.payload 8 4, crc := frBE f.payload 12 4, lastAt := w.now })) ∧
  (∀ n f rest w b, 12 ≤ f.payload.length → f.payload.length ≤ 1400 → f.lenIs f.payload.length = true →
    (f.payload.length - 8) % 4 = 0 → frBE f.payload 0 4 % 4 = 0 → frBE f.payload 4 4 = 0 →
    frBE f.payload 0 4 + (f.payload.length - 8) ≤ (b : Bulk).length * 4096 →
    Completes (fun t => .bulkData t n)
    (fun u => u.serves n 0x11 f rest w ∧ u.mp.up = true ∧ w.bulk = some b ∧ b.idle = false ∧ b.closing = false)
    (fun _ r => r.bulk = some { b with lastAt := w.now, data := (f.payload.drop 8).zipIdx.foldl (fun m e =>
      cellInsert (cellErase m (frBE f.payload 0 4 + e.2)) (frBE f.payload 0 4 + e.2) e.1) b.data })) ∧
  (∀ n f rest w b, f.lenIs 0 = true → Completes (fun t => .bulkClose t n)
    (fun u => u.serves n 0x12 f rest w ∧ u.mp.up = true ∧ w.bulk = some b ∧ b.idle = false ∧ b.closing = false)
    (fun _ r => r.bulk = some { b with closing := true, port := n.val, ref := f.seq, key := f.key })) ∧
  (∀ n f rest w b, f.lenIs 0 = true → Completes (fun t => .bulkAbort t n)
    (fun u => u.serves n 0x13 f rest w ∧ u.mp.up = true ∧ w.bulk = some b ∧ b.idle = false ∧ b.closing = false)
    (fun _ r => r.bulk = none)) ∧
  (∀ b, Completes (fun t => .bulkCloseComplete t true)
    (fun u => u.bulk = some b ∧ u.mp.up = true ∧ b.closing = true ∧ u.flag .basecamp BC_STATUS_PFW = false ∧
      b.data.length = b.length * 4096 ∧ crc32 (b.data.map (·.2)) = b.crc ∧
      (b.target ≠ 0 → u.domOn PD_NVM = true ∧ u.flag .nvm NVM_PROT_CONTENT_WP = false))
    (fun u r => r.bulk = none ∧ r.nvmMem = if b.target = 0 then u.nvmMem
      else memSetBytes u.nvmMem (nvmContentBase + 4096 * b.offset) (b.data.map (·.2)))) ∧
  (∀ b, Completes (fun t => .bulkIdle t)
    (fun u => u.bulk = some b ∧ u.mp.up = true ∧ b.closing = false ∧ b.idle = false ∧ b.lastAt + secU 10 ≤ u.now)
    (fun u r => r = { u with bulk := some { b with idle := true, data := [] } }))


/-! ### Basecamp -/

/-- The supply commands of Basecamp complete. Power-on with VBAT above 3.0 V enters BIVOUAC (R364); a sample shows and the least
is kept (R357); the warnings start and end after their times (R357, R360); a supply loss is taken, powers down at t₀ +
40 µs, and is left when the supply is back (R358, R359, R474); VBAT below 3.0 V loses everything but the NVM (R371); a
write of `BC_VBAT_MIN` starts the minimum anew (R373); 60 s in RUN clear the restart count (R359). -/
def Obligations.SupplyCommandsComplete : Prop :=
  (∀ v, 300 < v → v ≤ 5800 → Completes (fun t => .basecampPowerOn t v) (fun u => u.pstate = PS_INIT)
    (fun u r => r = ((u.put .basecamp BC_VBAT_VBAT v).put .basecamp BC_VBAT_MIN (min v 65535)).enterBivouac)) ∧
  (∀ v, v ≤ 5800 → Completes (fun t => .vbatSample t v) (fun u => u.pstate ≠ PS_INIT)
    (fun u r => r.get .basecamp BC_VBAT_VBAT = v ∧
      r.get .basecamp BC_VBAT_MIN = min v (u.get .basecamp BC_VBAT_MIN))) ∧
  (∀ v dur, v < 450 → msU 1 < dur → Completes (fun t => .pfw t v dur)
    (fun u => u.pstate ≠ PS_INIT ∧ u.flag .basecamp BC_STATUS_PFW = false ∧ u.domOn PD_NVM = false)
    (fun u r => r = ((u.put .basecamp BC_STATUS_PFW 1).bump .basecamp BC_PFW_CNT).raise .basecamp BC_EV_PFW ∧
      r.flag .basecamp BC_STATUS_PFW = true)) ∧
  (∀ v dur, 470 ≤ v → v ≤ 5800 → msU 10 ≤ dur → Completes (fun t => .pfwEnd t v dur)
    (fun u => u.flag .basecamp BC_STATUS_PFW = true) (fun _ r => r.flag .basecamp BC_STATUS_PFW = false)) ∧
  (∀ v dur, 4200 < v → v ≤ 5800 → msU 1 ≤ dur → Completes (fun t => .vbatOv t v dur)
    (fun u => u.pstate ≠ PS_INIT ∧ u.flag .basecamp BC_STATUS_VBAT_OV = false)
    (fun u r => r = (u.put .basecamp BC_STATUS_VBAT_OV 1).raise .basecamp BC_EV_VBAT_OV ∧
      r.flag .basecamp BC_STATUS_VBAT_OV = true)) ∧
  (∀ v dur, v ≤ 4100 → msU 10 ≤ dur → Completes (fun t => .vbatOvEnd t v dur) (fun _ => True)
    (fun u r => r = u.put .basecamp BC_STATUS_VBAT_OV 0 ∧ r.flag .basecamp BC_STATUS_VBAT_OV = false)) ∧
  Completes (fun t => .supplyLoss t .vbat) (fun _ => True) (fun u r => r = u.supplyLoss (supplyDetail .vbat)) ∧
  Completes (fun t => .supplyPowerDown t)
    (fun u => u.bc.lossSupply = true ∧ u.bc.lossTherm = false ∧ u.bc.t0 + usU 40 ≤ u.now ∧ u.pActive = true)
    (fun u r => r = ((u.coldReset.modBc fun b =>
      { b with lossSupply := false, lossTherm := false, supplyWait := false }).pstateTo PS_SUPPLY_OFF).downLower) ∧
  (∀ v dur, v ≤ 5800 → Completes (fun t => .supplyRestart t v dur)
    (fun u => u.pstate = PS_SUPPLY_OFF ∧ u.bc.lossVbat = false ∧ u.get .basecamp BC_HIST_SUPPLY < 3 ∧
      u.supplyReady v dur = true ∧ u.bc.down = none)
    (fun u r => r = (u.put .basecamp BC_HIST_SUPPLY (u.get .basecamp BC_HIST_SUPPLY + 1)).goUp 0x04)) ∧
  (∀ v dur, v ≤ 5800 → Completes (fun t => .supplyRestart t v dur)
    (fun u => u.pstate = PS_SUPPLY_OFF ∧ u.bc.lossVbat = false ∧ 3 ≤ u.get .basecamp BC_HIST_SUPPLY)
    (fun u r => r = u.lockout)) ∧
  Completes (fun t => .restartCountClear t) (fun u => u.pstate = PS_RUN ∧ u.bc.runAt + secU 60 ≤ u.now)
    (fun u r => r = u.put .basecamp BC_HIST_SUPPLY 0 ∧ r.get .basecamp BC_HIST_SUPPLY = 0) ∧
  (∀ v, v < 300 → Completes (fun t => .vbatLoss t v) (fun _ => True) (fun u r => r = u.vbatLost)) ∧
  (∀ path v, v < 2 ^ 32 → Completes (fun t => .vbatMinWrite t path v)
    (fun u => u.writable path .basecamp BC_VBAT_MIN = true)
    (fun u r => r.get .basecamp BC_VBAT_MIN = u.get .basecamp BC_VBAT_VBAT % 2 ^ 16))

/-- The sequences of Basecamp complete. A step of power-up that is good is recorded, the next follows after STEP_DLY, and one
late by PG_TMO is a supply loss (R355); the crystal is good after four good windows, and late after 10 ms (R355); bad
windows are a failure, which after 100 ms is a supply loss (R20, R474); a step of power-down ends when its rails are
down (R356); the core supply follows its monitors by at most 5 mV (R354); a thermal shutdown ends cooled, after 2 s
(R404). -/
def Obligations.SequenceCommandsComplete : Prop :=
  Completes (fun t => .seqStepComplete t)
    (fun u => u.pstate = PS_SEQ_UP ∧ u.bc.nrstLow = false ∧ u.flag .basecamp BC_STATUS_HOLD_UP = false ∧
      u.flag .basecamp (BC_EN u.bc.step) = true ∧ u.bc.on u.bc.step = false ∧ u.bc.delayAt = none ∧
      u.now < u.bc.stepAt + usU (100 * u.get .basecamp BC_SEQ_CFG_PG_TMO))
    (fun u r => r = u.stepDone) ∧
  (∀ d, Completes (fun t => .stepDelayExpiry t)
    (fun u => u.bc.delayAt = some d ∧ u.pstate = PS_SEQ_UP ∧ d ≤ u.now ∧ u.bc.step < 3)
    (fun u r => r = (u.modBc fun b => { b with step := b.step + 1 }).stepBegin)) ∧
  Completes (fun t => .pgTimeout t)
    (fun u => u.pstate = PS_SEQ_UP ∧ u.bc.nrstLow = false ∧ u.flag .basecamp (BC_EN u.bc.step) = true ∧
      u.bc.on u.bc.step = false ∧ u.bc.stepAt + usU (100 * u.get .basecamp BC_SEQ_CFG_PG_TMO) ≤ u.now)
    (fun u r => r = u.supplyLoss BC_PG_TIMEOUT) ∧
  Completes (fun t => .xtalGood t)
    (fun u => u.bc.xtalFrom.isSome = true ∧ 4 ≤ u.bc.xtalRun ∧ u.flag .basecamp BC_STATUS_XTAL_OK = false)
    (fun u r => r = ((u.put .basecamp BC_STATUS_XTAL_OK 1).modBc fun b => { b with xtalFail := none }).mpRelease) ∧
  (∀ f, Completes (fun t => .xtalStart t)
    (fun u => u.bc.xtalFrom = some f ∧ u.flag .basecamp BC_STATUS_XTAL_OK = false ∧ u.bc.xtalFail = none ∧
      f + msU 10 ≤ u.now)
    (fun u r => r = u.supplyLoss BC_XTAL_START)) ∧
  (∀ k, Completes (fun t => .seqDownStep t true) (fun u => u.bc.down = some k)
    (fun u r => r = ((stepRails k).foldl (fun (s : State) r => s.put .basecamp ⟨BC_RAIL_MON.off, r, 1⟩ 0)
      (u.put .basecamp (BC_PG k) 0)).downLower)) ∧
  Completes (fun t => .xtalMonitorWindow t true) (fun u => u.bc.xtalFrom.isSome = true)
    (fun u r => r.bc.xtalRun = u.bc.xtalRun + 1 ∧ SameRegsExactly u r []) ∧
  Completes (fun t => .xtalMonitorWindow t false)
    (fun u => u.bc.xtalFrom.isSome = true ∧ u.flag .basecamp BC_STATUS_XTAL_OK = true)
    (fun u r => r = (u.modBc fun b => { b with xtalRun := 0 }).xtalFailed) ∧
  (∀ f, Completes (fun t => .xtalFailPersist t) (fun u => u.bc.xtalFail = some f ∧ f + msU 100 ≤ u.now)
    (fun u r => r = u.supplyLoss BC_XTAL_START)) ∧
  (∀ want, Completes (fun t => .avsUpdate t want)
    (fun u => u.flag .basecamp BC_AVS_EN = true ∧ u.flag .basecamp BC_STATUS_XTAL_OK = true ∧
      u.bc.avsAt + usU 100 ≤ u.now)
    (fun u r => r.get .basecamp BC_AVS_TARGET ≤ u.get .basecamp BC_AVS_TARGET + 5 ∧
      u.get .basecamp BC_AVS_TARGET ≤ r.get .basecamp BC_AVS_TARGET + 5 ∧ r.bc.avsAt = u.now)) ∧
  (∀ v dur, v ≤ 5800 → Completes (fun t => .thermalRestart t v dur)
    (fun u => u.pstate = PS_THERM_OFF ∧ u.tsbHot = false ∧ u.therm.shutAt.getD 0 + secU 2 ≤ u.now ∧ u.bc.down = none ∧
      u.bc.supplyWait = false ∧ (u.therm.restarts.filter fun x => decide (u.now < x + secU 3600)).length < 3)
    (fun u r => r = ({ u with therm := { u.therm with report := true, restarts :=
      (u.therm.restarts.filter fun x => decide (u.now < x + secU 3600)) ++ [u.now] } } : State).goUp 0x05))

/-- The power, wake, reset and restart commands complete. A legal power command of the MP moves the power state, and others are
refused elsewhere (R364); a request of domains is kept and a domain that is due switches on (R362); wake sources are
filtered, recorded and counted (R367); `nRESET` low for 5 µs and the key in `BC_RST` reset (R372), and `nRESET` high
lets power-up begin; the watchdog is served by its two values and expires (R370); a mismatch or fault of the MP
restarts it (R324, R332), its Runtime comes up (R332, R333), and the two windows close (R334). -/
def Obligations.PowerCommandsComplete : Prop :=
  Completes (fun t => .pwrCmdRun t .mp)
    (fun u => u.writable .mp .basecamp BC_PWR_CMD = true ∧ u.pwrLegal 0 = true)
    (fun u r => r = (u.pstateTo PS_RUN).answer 0x100) ∧
  Completes (fun t => .pwrCmdStandby t .mp)
    (fun u => u.writable .mp .basecamp BC_PWR_CMD = true ∧ u.pwrLegal 1 = true)
    (fun u r => r = (u.domRefresh.pstateTo PS_STANDBY).answer 0x101) ∧
  Completes (fun t => .pwrCmdBivouac t .mp)
    (fun u => u.writable .mp .basecamp BC_PWR_CMD = true ∧ u.pwrLegal 2 = true)
    (fun u r => r = u.goDown.answer 0x102) ∧
  (∀ path v, v < 2 ^ 32 → Completes (fun t => .pdReqWrite t path v)
    (fun u => u.writable path .basecamp BC_PD_REQ = true)
    (fun u r => r = (u.pdReqWrite v).answer (BitVec.ofNat 32 v))) ∧
  (∀ d : Fin 26, Completes (fun t => .domainOn t d) (fun u => u.domDue d.val = true)
    (fun u r => r = u.domSwitchOn d.val)) ∧
  (∀ i level, Completes (fun t => .wakePin t i level)
    (fun u => u.wakeActive i = false ∧ u.pstate = PS_BIVOUAC ∧
      (u.modBc fun b => { b with wakePin := b.wakePin.set i level }).wakeActive i = true)
    (fun u r => r.bc.wakePin[i] = level ∧ r.bc.wakeFrom[i] = some u.now ∧ SameRegsExactly u r [])) ∧
  (∀ i f, Completes (fun t => .wakeQualified t i)
    (fun u => u.bc.wakeFrom[i] = some f ∧ u.wakeEnabled i = true ∧
      f + usU (10 * u.get .basecamp BC_WAKE_CFG_FILT) ≤ u.now ∧ u.pstate = PS_BIVOUAC)
    (fun u r => r = (u.modBc fun b => { b with wakeFrom := b.wakeFrom.set i none }).wakeRecord i.val)) ∧
  Completes (fun t => .wakeTimer t)
    (fun u => u.flag .basecamp BC_WAKE_CFG_TIMER_EN = true ∧ u.pstate = PS_BIVOUAC ∧
      u.bc.bivAt + secU (u.get .basecamp BC_WAKE_TIMER) ≤ u.now ∧ u.bc.timerDone = false)
    (fun u r => r = (u.modBc fun b => { b with timerDone := true }).wakeRecord 4) ∧
  (∀ dur, usU 5 ≤ dur → Completes (fun t => .pinReset t dur)
    (fun u => u.pstate ≠ PS_INIT ∧ u.bc.nrstLow = false)
    (fun u r => r = (u.coldReset.modBc fun b => { b with nrstLow := true, nrstWake := u.pstate = PS_BIVOUAC }).goUp 0x02)) ∧
  Completes (fun t => .nresetRise t)
    (fun u => u.bc.nrstLow = true ∧ u.bc.nrstWake = false ∧ u.pstate = PS_SEQ_UP)
    (fun u r => r = (u.modBc fun b => { b with nrstLow := false, nrstWake := false }).stepBegin) ∧
  Completes (fun t => .systemReset t .mp 0xC01D) (fun u => u.writable .mp .basecamp BC_RST = true)
    (fun u r => r = (u.coldReset.goUp 0x03).answer 0xC01D) ∧
  Completes (fun t => .wdogKick t .mp 0xA5) (fun u => u.writable .mp .basecamp BC_WDOG_KICK = true)
    (fun u r => r.bc.kickAt = some u.now ∧ SameRegsExactly u r []) ∧
  (∀ f, Completes (fun t => .wdogKick t .mp 0x5A)
    (fun u => u.writable .mp .basecamp BC_WDOG_KICK = true ∧ u.bc.kickAt = some f ∧ u.now ≤ f + usU 100)
    (fun u r => r = ((u.modBc fun b => { b with kickAt := none }).wdogService).answer 0x5A)) ∧
  Completes (fun t => .wdogExpiry t)
    (fun u => u.flag .basecamp BC_STATUS_WDOG_RUN = true ∧ u.bc.wdogDue ≤ u.now) (fun u r => r = u.wdogExpire) ∧
  Completes (fun t => .lockstep t) (fun u => u.mpRuns = true) (fun u r => r = u.mpExpiry 0x02) ∧
  (∀ ext, Completes (fun t => .mpFault t ext) (fun u => u.mpRuns = true)
    (fun u r => r = ({ u with mp := { u.mp with extBlame := ext } } : State).mpExpiry 0x03)) ∧
  Completes (fun t => .runtimeUp t)
    (fun u => u.mpRuns = true ∧ u.mp.restart = true ∧ u.sec.booted = true ∧ u.flag .sec SEC_STATUS_RECOVERY = false)
    (fun u r => r = u.runtimeUp) ∧
  (∀ f, Completes (fun t => .shortWindowClose t) (fun u => u.mp.shortFrom = some f ∧ f + secU 2 ≤ u.now)
    (fun u r => r = { u with mp := { u.mp with shortFrom := none, shortCnt := 0 } })) ∧
  (∀ f, Completes (fun t => .longWindowClose t) (fun u => u.mp.longFrom = some f ∧ f + secU 10 ≤ u.now)
    (fun u r => r = ({ u with mp := { u.mp with longFrom := none, longCnt := 0 } } : State).put .mbx MP_EXPIRIES 0))


/-! ### Power budget, temperature, calibration, non-volatile memory -/

/-- The commands of PBA and THERM complete. At a grant opportunity the first request that passes is granted (R378); the lamp
budget is evaluated every millisecond (R383); a long wait is reported once (R382); readings are taken in, with a
shutdown at the limit (R392, R393, R400, R403); the level steps up and down after its times (R397); a failed source
whose reading is plausible is restored (R394). -/
def Obligations.PbaAndThermCommandsComplete : Prop :=
  (∀ q, Completes (fun t => .pbaGrant t)
    (fun u => u.domOn PD_NOC = true ∧ u.pba.nextAt ≤ u.now ∧ u.nextGrant = some q)
    (fun u r => r = (u.pbaGrant q).proceedAll.pbaDue)) ∧
  Completes (fun t => .pbaEvaluation t) (fun u => u.domOn PD_NOC = true ∧ u.pba.evalAt + msU 1 ≤ u.now ∧ u.waits evalWaits = false)
    (fun u r => r = ({ u with pba := { u.pba with evalAt := u.now, evalDue := false } } : State).pbaEvaluate) ∧
  Completes (fun t => .waitLong t)
    (fun u => u.pba.queue.any (fun q => !q.warned && decide (q.since + msU (u.get .pba PBA_WAIT_WARN) ≤ u.now)) = true)
    (fun u r => r = ({ u with pba := { u.pba with queue := u.pba.queue.map fun (q : PbaReq) =>
      { q with warned := q.warned || (!q.warned && decide (q.since + msU (u.get .pba PBA_WAIT_WARN) ≤ u.now)) } } } :
        State).raise .pba 1) ∧
  (∀ i v w, Completes (fun t => .sensorSample t i v)
    (fun u => u.domOn PD_NOC = true ∧ u.tsSample i v = (w, none)) (fun _ r => r = w.pbaDue)) ∧
  (∀ i v w sensor x, Completes (fun t => .sensorSample t i v)
    (fun u => u.domOn PD_NOC = true ∧ u.tsSample i v = (w, some (sensor, x))) (fun _ r => r = w.thermShut sensor x)) ∧
  (∀ v, Completes (fun t => .tsbSample t v)
    (fun u => u.pstate ≠ PS_INIT ∧ u.domOn PD_NOC = true ∧ v < degC (u.get .therm THERM_THR_SHUT) ∧
      -32768 ≤ v ∧ v < 32768)
    (fun _ r => r.therm.tsb.last = v ∧ r.get .therm THERM_TSB = 2 ^ 31 + unsigned 16 v)) ∧
  (∀ i v, Completes (fun t => .xtSample t i v) (fun _ => True) (fun u r => r = (u.xtSample i v).pbaDue)) ∧
  (∀ f, Completes (fun t => .throtStepUp t)
    (fun u => u.therm.aboveFrom = some f ∧ f + msU (u.get .therm THERM_STEP_UP_MS) ≤ u.now)
    (fun u r => r = ((u.modTherm fun o => { o with aboveFrom := some u.now }).throtUp.thermShow).pbaDue)) ∧
  (∀ f, Completes (fun t => .throtStepDown t)
    (fun u => u.therm.belowFrom = some f ∧ f + msU (u.get .therm THERM_STEP_DOWN_MS) ≤ u.now ∧
      u.flag .therm THERM_STATUS_SUBST = false)
    (fun u r => r = ((u.modTherm fun o => { o with belowFrom := some u.now }).throtDown.thermShow).pbaDue)) ∧
  (∀ path src w, Completes (fun t => .revalidate t path src)
    (fun u => u.writable path .therm THERM_CMD = true ∧ u.revalidate src.val = (w, true))
    (fun _ r => r = w.answer (BitVec.ofNat 32 (1 + src.val * 2 ^ 8))))

/-- The commands of CAL and the NVM complete. A measurement that is due and whose preconditions hold begins, and one without them
is skipped (R413); one that completes without a run is accepted when it agrees with the one before (R414); disagreement
is reported (R414); GO starts a run of a declared instance, which times out after 10 s (R418); granules are programmed
and read (R421); the records are scanned and their state shown (R427). -/
def Obligations.CalAndNvmCommandsComplete : Prop :=
  (∀ cls inst a b m, cls ≠ 4 → Completes (fun t => .calMeasurementStart t cls inst a b m)
    (fun u => u.domOn PD_NOC = true ∧ u.calDue cls inst = true ∧
      (u.setCalSignals cls inst a b).calPrecond cls inst a b = true)
    (fun u r => r = (u.setCalSignals cls inst a b).calBegin cls inst)) ∧
  (∀ cls inst m, Completes (fun t => .calMeasurementDone t cls inst m)
    (fun u => (u.calOf cls inst).from?.isSome = true ∧ u.adcReady cls inst = true ∧ u.cal.run = none ∧
      (u.calOf cls inst).lost = true)
    (fun u r => r = (((((u.setCalSignals cls inst m.a m.b).modCalOf cls inst fun c =>
      { c with from? := none, ended := some u.now }).bump .cal CAL_SKIP_CNT).adcTurnOver cls inst).calState))) ∧
  (∀ cls inst m w p, Completes (fun t => .calMeasurementDone t cls inst m)
    (fun u => (u.calOf cls inst).from?.isSome = true ∧ u.adcReady cls inst = true ∧ u.cal.run = none ∧
      (u.calOf cls inst).lost = false ∧ u.calPrecond cls inst m.a m.b = true ∧ (cls = 3 → 256 ≤ m.a) ∧
      ((u.setCalSignals cls inst m.a m.b).modCalOf cls inst fun c =>
        { c with from? := none, ended := some u.now }).calScreen cls inst m = (w, true) ∧
      w.calPrev cls inst = some p ∧ (w.setCalPrev cls inst m.vals).calAgree cls p m.vals = true)
    (fun _ r => r = (((w.setCalPrev cls inst m.vals).calAccept cls inst (calMean cls p m.vals) m).adcTurnOver cls
      inst).calState)) ∧
  (∀ cls inst, Completes (fun t => .calUnstable t cls inst)
    (fun u => u.get .cal CAL_CFG_DISAGREE_MAX ≤ (u.calOf cls inst).dis ∧ 0 < (u.calOf cls inst).dis ∧
      (u.calOf cls inst).unstable = false)
    (fun u r => r = (((u.modCalOf cls inst fun c => { c with unstable := true }).put .cal
      ⟨(calQual cls inst).off, 30, 1⟩ 1).raise .cal CAL_EV_UNSTABLE).errHw .cal ST_HW_FAULT CAL_UNSTABLE_D)) ∧
  (∀ path (cls : Fin 16) (inst : Fin 8), 1 ≤ cls.val → cls.val ≤ 9 → Completes (fun t => .calCmd t path cls inst)
    (fun u => u.writable path .cal CAL_CMD = true ∧ u.cal.run = none ∧ u.calDeclared cls.val inst.val = true)
    (fun u r => r = ((u.calCmd path (2 ^ 31 + inst.val * 2 ^ 16 + cls.val)).1).answer
      (BitVec.ofNat 32 (2 ^ 31 + inst.val * 2 ^ 16 + cls.val)) ∧
      (u.calCmd path (2 ^ 31 + inst.val * 2 ^ 16 + cls.val)).2 = (ST_ACCEPTED, 0))) ∧
  (∀ run, Completes (fun t => .calTimeout t) (fun u => u.cal.run = some run ∧ run.start + secU 10 ≤ u.now)
    (fun u r => r = u.calRunEnd ST_TIMEOUT CAL_TIMEOUT_D)) ∧
  (∀ path (count : Fin 8), Completes (fun t => .nvmProgram t path count)
    (fun u => u.writable path .nvm NVM_CMD = true ∧ (u.nvmCheck 1 (u.get .nvm NVM_ADDR) (count.val + 1)).1 = ST_OK)
    (fun u r => r = (u.nvmBegin { op := 1, addr := u.get .nvm NVM_ADDR, count := count.val + 1, since := u.now
                                  path := pathCode path, data := u.nvmWbuf (32 * (count.val + 1)) }).answer
      (BitVec.ofNat 32 (2 ^ 31 + count.val * 2 ^ 8 + 1)))) ∧
  (∀ path (count : Fin 8), Completes (fun t => .nvmRead t path count)
    (fun u => u.writable path .nvm NVM_CMD = true ∧ (u.nvmCheck 2 (u.get .nvm NVM_ADDR) (count.val + 1)).1 = ST_OK)
    (fun u r => r = (u.nvmBegin { op := 2, addr := u.get .nvm NVM_ADDR, count := count.val + 1, since := u.now
                                  path := pathCode path, data := [] }).answer (BitVec.ofNat 32 (2 ^ 31 + count.val * 2 ^ 8 + 2)))) ∧
  (∀ run, Completes (fun t => .nvmGranuleDone t 1)
    (fun u => u.nvm.run = some run ∧ run.op = 1 ∧ run.again = false)
    (fun u r => r.nvm.run = some { run with again := true } ∧ SameRegsExactly u r [])) ∧
  (∀ run, Completes (fun t => .nvmGranuleDone t 0)
    (fun u => u.nvm.run = some run ∧ run.op = 1 ∧ recAt (run.addr + 32 * run.done) = none)
    (fun u r => ∃ b, b = (run.data.drop (32 * run.done)).take 32 ∧
      r = (({ u with nvmMem := memSetBytes u.nvmMem (run.addr + 32 * run.done) b } : State).bump .nvm
        NVM_PROG_CNT).granuleNext run)) ∧
  Completes (fun t => .nvmScan t)
    (fun u => u.domOn PD_NVM = true ∧ u.get .nvm BLK_STATE = NVM_SCAN ∧ u.nvm.scanAt = none)
    (fun u r => r.nvm.scanAt = some u.now ∧ SameRegsExactly u r []) ∧
  Completes (fun t => .scanDone t) (fun u => u.nvm.scanAt.isSome = true)
    (fun _ r => r.nvm.scanAt = none ∧ r.get .nvm BLK_STATE = NVM_IDLE)


/-! ### Security, network, storage -/

/-- The commands of SEC complete. Boot takes the valid image with the higher version, slot A before B, or enters recovery
(R456); GO in recovery checks the image; a key operation whose checks pass is applied and its result shown (R457); the SVN
advances up to the running one (R456). -/
def Obligations.SecurityCommandsComplete : Prop :=
  (∀ a b ext, Completes (fun t => .boot t a b ext)
    (fun u => u.domOn PD_MP = true ∧ u.mp.up = false ∧ u.sec.booted = false ∧ u.imgValid a = true ∧
      (u.imgPlausible b && (!u.imgPlausible a || decide (imgVer a < imgVer b))) = false)
    (fun u r => r = ((u.sigCount a).runtimeStart a 0).extLoad ext)) ∧
  (∀ a b ext, Completes (fun t => .boot t a b ext)
    (fun u => u.domOn PD_MP = true ∧ u.mp.up = false ∧ u.sec.booted = false ∧ u.imgValid b = true ∧
      (u.imgPlausible b && (!u.imgPlausible a || decide (imgVer a < imgVer b))) = true)
    (fun u r => r = ((u.sigCount b).runtimeStart b 1).extLoad ext)) ∧
  (∀ a b ext, Completes (fun t => .boot t a b ext)
    (fun u => u.domOn PD_MP = true ∧ u.mp.up = false ∧ u.sec.booted = false ∧ u.imgValid a = false ∧
      u.imgValid b = false)
    (fun _ r => r.sec.booted = true ∧ r.mp.up = false ∧ r.flag .sec SEC_STATUS_RECOVERY = true)) ∧
  (∀ path key sig w, Completes (fun t => .recoveryBoot t path key sig)
    (fun u => u.writable path .sec SEC_RECOVERY = true ∧ u.flag .sec SEC_STATUS_RECOVERY = true ∧
      w = (u.answer (BitVec.ofNat 32 (2 ^ 31))) ∧ w.imgValid (w.recoveryImg key sig) = true)
    (fun _ r => r = ((({ w with sec := { w.sec with recovGo := false } } : State).sigCount
      (w.recoveryImg key sig)).runtimeStart (w.recoveryImg key sig) 2))) ∧
  (∀ slot, Completes (fun t => .keyWrite t .mp slot)
    (fun u => u.writable .mp .sec SEC_KEY_CTL = true ∧ u.keyCheck 1 slot.val = (ST_OK, 0))
    (fun u r => r = (((u.put .sec SEC_KEY_RES 0).keyApply 1 slot).raise .sec SEC_EV_KEY_DONE).answer
      (BitVec.ofNat 32 (2 ^ 31 + 1 * 2 ^ 8 + slot.val)))) ∧
  (∀ slot, Completes (fun t => .keyErase t .mp slot)
    (fun u => u.writable .mp .sec SEC_KEY_CTL = true ∧ u.keyCheck 2 slot.val = (ST_OK, 0))
    (fun u r => r = (((u.put .sec SEC_KEY_RES 0).keyApply 2 slot).raise .sec SEC_EV_KEY_DONE).answer
      (BitVec.ofNat 32 (2 ^ 31 + 2 * 2 ^ 8 + slot.val)))) ∧
  (∀ slot, Completes (fun t => .keyLock t .mp slot)
    (fun u => u.writable .mp .sec SEC_KEY_CTL = true ∧ u.keyCheck 3 slot.val = (ST_OK, 0))
    (fun u r => r = (((u.put .sec SEC_KEY_RES 0).keyApply 3 slot).raise .sec SEC_EV_KEY_DONE).answer
      (BitVec.ofNat 32 (2 ^ 31 + 3 * 2 ^ 8 + slot.val)))) ∧
  (∀ slot, Completes (fun t => .keyRevoke t .mp slot)
    (fun u => u.writable .mp .sec SEC_KEY_CTL = true ∧ u.keyCheck 4 slot.val = (ST_OK, 0))
    (fun u r => r = (((u.put .sec SEC_KEY_RES 0).keyApply 4 slot).raise .sec SEC_EV_KEY_DONE).answer
      (BitVec.ofNat 32 (2 ^ 31 + 4 * 2 ^ 8 + slot.val)))) ∧
  (∀ path svn, svn < 64 → Completes (fun t => .svnAdvance t path svn)
    (fun u => u.writable path .sec SEC_SVN_CMD = true ∧ u.sec.svn ≤ svn ∧ svn ≤ u.get .sec ⟨SEC_STATUS.off, 16, 8⟩)
    (fun _ r => r.sec.svn = svn ∧ r.get .sec SEC_STATUS_OTP = svn))

/-- The commands of an Ethernet port complete. A good frame of a port without MACsec is classified (R436); the doorbell hands
descriptors to the MAC while the DMC runs (R437); a reply leaves when the line is free (R439); a change of the link is
shown (R463); an SA whose AN is new is installed (R440). -/
def Obligations.EthernetCommandsComplete : Prop :=
  (∀ n f, f.fcs = true → 14 ≤ f.bytes.length → f.bytes.length ≤ 1996 → Completes (fun t => .ethFrameRx t n f)
    (fun u => u.ethOn n = true ∧ u.flag (.eth n) ETH_STATUS_LINK = true ∧ u.flag (.eth n) ETH_CFG_MSEC_EN = false)
    (fun u r => r = u.ethClassify n f.bytes false f.tag)) ∧
  (∀ n f w, f.fcs = true → 14 ≤ f.bytes.length → f.bytes.length ≤ 1996 → etherType f.bytes = 0x88E5 →
    Completes (fun t => .ethFrameRx t n f)
    (fun u => u.ethOn n = true ∧ u.flag (.eth n) ETH_STATUS_LINK = true ∧ u.flag (.eth n) ETH_CFG_MSEC_EN = true ∧
      u.msecCheck n f = (w, true))
    (fun _ r => r = w.ethClassify n f.plain true f.tag)) ∧
  (∀ path n v, v < 2 ^ 32 → Completes (fun t => .ethTxDoorbell t path n v)
    (fun u => u.writable path (.eth n) ETH_TX_CTL = true)
    (fun u r => r = ((u.plainWrite path (.eth n) ETH_TX_CTL.off v).txDoorbell n).answer (BitVec.ofNat 32 v))) ∧
  (∀ n a rest, Completes (fun t => .ethFrameTx t n true)
    (fun u => u.ethOn n = true ∧ u.flag (.eth n) ETH_STATUS_LINK = true ∧ u.eth[n].busy ≤ u.now ∧
      u.flag (.eth n) ETH_CFG_MSEC_EN = false ∧ u.eth[n].replies = a :: rest)
    (fun u r => r = (((u.modEth n fun e => { e with replies := rest }).icpSent a).txLine n
      (14 + 20 + 8 + a.bytes.length + 8) a.bytes).raise (.eth n) ETH_EV_TX)) ∧
  (∀ n up, Completes (fun t => .linkChange t n up)
    (fun u => u.ethOn n = true ∧ u.flag (.eth n) ETH_STATUS_LINK = !up)
    (fun _ r => r.flag (.eth n) ETH_STATUS_LINK = up)) ∧
  (∀ path (n : Fin 4) v, v < 2 ^ 32 → 2 ^ 31 ≤ v → bitsOf v 16 2 < 2 → bitOf v 4 = false →
    Completes (fun t => .msecSaInstall t path n v)
    (fun u => u.writable path (.eth n) ETH_MSEC_CTL = true ∧
      (u.eth[n].txSa.any fun e => e.1 == bitsOf v 8 2) = false)
    (fun u r => r.eth[n].txSa = saPut u.eth[n].txSa (bitsOf v 8 2) {
      cipher := bitsOf v 16 2, sci := u.get (.eth n) ETH_MSEC_SCI_HI * 2 ^ 32 + u.get (.eth n) ETH_MSEC_SCI_LO
      ssci := u.get (.eth n) ETH_MSEC_SSCI, key := u.eth[n].sak.toList
      pn := (u.get (.eth n) ⟨ETH_MSEC_PN_HI.off, 0, 32⟩ * 2 ^ 32 + u.get (.eth n) ETH_MSEC_PN_LO) % 2 ^ 32 }))

/-- The commands of CAN and storage complete. A frame is received into the ring or counted as lost, and the next one of the TX
ring is sent (R447); bus-off is entered, its recovery asked for and done (R447, R460); the storage link trains, comes up
with the lowest namespace that fits, drops and retrains, and shuts down (R448, R461); doorbells submit, completions and
timeouts are taken (R449). -/
def Obligations.CanAndStorageCommandsComplete : Prop :=
  (∀ (n : Fin 4) f w, Completes (fun t => .canFrameRx t n f)
    (fun u => u.canOn n = true ∧ u.canState n ≠ 2 ∧ f.kind ≤ u.get (.can n) CAN_CFG_MODE ∧ u.canAccepts n f = true ∧
      f.data.length ≤ (u.get (.can n) CAN_RX_CTL_BUFSZ + 1) * 128 ∧ u.dmcRunning = true ∧
      u.canPut n f = some w)
    (fun _ r => r = ((w.put (.can n) CAN_STATUS_REC (w.get (.can n) CAN_STATUS_REC - 1)).bump (.can n) CAN_RX_CNT).raise
      (.can n) CAN_EV_RX)) ∧
  (∀ n : Fin 4, Completes (fun t => .canFrameTx t n)
    (fun u => u.canOn n = true ∧ u.canState n ≠ 2 ∧ u.flag (.can n) CAN_CFG_LISTEN_ONLY = false ∧
      u.get (.can n) ⟨CAN_TX_HEAD.off, 0, 12⟩ < u.get (.can n) ⟨CAN_TX_CTL.off, 0, 13⟩ ∧
      u.get (.can n) ⟨CAN_TX_HEAD.off, 0, 12⟩ ≠ u.get (.can n) ⟨CAN_TX_CTL.off, 16, 12⟩ ∧ u.dmcRunning = true)
    (fun u r => r.get (.can n) ⟨CAN_TX_HEAD.off, 0, 12⟩ =
      (u.get (.can n) ⟨CAN_TX_HEAD.off, 0, 12⟩ + 1) % u.get (.can n) ⟨CAN_TX_CTL.off, 0, 13⟩ % 2 ^ 12)) ∧
  (∀ n : Fin 4, Completes (fun t => .busOff t n) (fun u => u.canOn n = true ∧ u.canState n ≠ 2)
    (fun u r => r.canState n = 2 ∧ r.get (.can n) CAN_STATUS_TEC = 255 ∧ r.can[n].offAt = some u.now)) ∧
  (∀ path (n : Fin 4), Completes (fun t => .canRecover t path n)
    (fun u => u.writable path (.can n) CAN_CMD = true ∧ u.canState n = 2)
    (fun u r => r.can[n].recov = true ∧ SameRegsExactly u r [])) ∧
  (∀ n : Fin 4, Completes (fun t => .busOffRecoveryDone t n)
    (fun u => u.canOn n = true ∧ u.canState n = 2 ∧ u.can[n].recov = true)
    (fun _ r => r.canState n = 0 ∧ r.get (.can n) CAN_STATUS_TEC = 0 ∧ r.get (.can n) CAN_STATUS_REC = 0)) ∧
  (∀ path, Completes (fun t => .storLinkUp t path)
    (fun u => u.writable path .stor STOR_CMD = true ∧ u.storState = STOR_DOWN ∧ u.storOn = true)
    (fun u r => r = ((u.modStor fun c => { c with retrains := 0 }).storTo STOR_TRAINING).answer 1)) ∧
  (∀ path, Completes (fun t => .storShutdown t path)
    (fun u => u.writable path .stor STOR_CMD = true ∧ (u.storState = STOR_READY ∨ u.storState = STOR_FAULT))
    (fun u r => r = ((u.modStor fun _ => {}).storTo STOR_DOWN).answer 2)) ∧
  (∀ path v, v < 2 ^ 32 → Completes (fun t => .storDoorbell t path false v)
    (fun u => u.writable path .stor STOR_IOSQ_TAIL = true)
    (fun u r => r = ((u.plainWrite path .stor STOR_IOSQ_TAIL.off v).storDoorbell (bitsOf v 0 6)).answer
      (BitVec.ofNat 32 v))) ∧
  (∀ path v, v < 2 ^ 32 → Completes (fun t => .storDoorbell t path true v)
    (fun u => u.writable path .stor STOR_IOCQ_HEAD = true)
    (fun u r => r = (u.plainWrite path .stor STOR_IOCQ_HEAD.off v).answer (BitVec.ofNat 32 v))) ∧
  (∀ i id lba cap, i.link = true → i.ns = [(id, lba, cap)] → lba = 512 ∨ lba = 4096 →
    Completes (fun t => .storInitDone t i)
    (fun u => u.storState = STOR_TRAINING ∨ u.storState = STOR_INIT)
    (fun _ r => r.storState = STOR_READY ∧ r.get .stor STOR_NSID = id % 2 ^ 32 ∧
      r.get .stor STOR_CAP = min cap (2 ^ 30) ∧ r.get .stor STOR_LBAF = (if lba = 4096 then 1 else 0))) ∧
  Completes (fun t => .storLinkDrop t)
    (fun u => u.storState ≠ STOR_DOWN ∧ u.storState ≠ STOR_FAULT ∧ u.stor.retrains < 3)
    (fun u r => r.stor.retrains = u.stor.retrains + 1 ∧ r.stor.cmds = [] ∧ r.storState = STOR_TRAINING) ∧
  (∀ index error, Completes (fun t => .cqPosted t index error)
    (fun u => u.storState = STOR_READY ∧ u.stor.cmds.any (fun c => c.index == index) = true)
    (fun u r => r.stor.cmds = u.stor.cmds.filter (fun x => x.index != index) ∧ r.stor.timeouts = 0)) ∧
  (∀ index c, Completes (fun t => .nvmeTimeout t index)
    (fun u => u.stor.cmds.find? (fun c => c.index == index) = some c ∧ c.since + secU 2 ≤ u.now ∧ u.stor.timeouts < 2)
    (fun u r => r.stor.cmds = u.stor.cmds.filter (fun y => y.index != index) ∧ r.stor.timeouts = u.stor.timeouts + 1))

/-! ### Frames -/

/-- Commands of the compositor, the engines, Grinders, Lanterns, links, scanners and lamp ports that store nothing leave every byte of the
MP's SRAM, Frame SRAM, NVM and keeper store as it was, and of DRAM while the recorder is stopped (R450). -/
def Obligations.LightPathCommandsKeepMemories : Prop :=
  KeepsMemories (fun t => .setupStart t) ∧ KeepsMemories (fun t => .compTrigTimeout t) ∧
  KeepsMemories (fun t => .compositionStart t) ∧ KeepsMemories (fun t => .compositionEnd t) ∧
  (∀ i, KeepsMemories (fun t => .assemblyTimeout t i)) ∧ KeepsMemories (fun t => .rejectRecordExpiry t) ∧
  (∀ n, KeepsMemories (fun t => .frameStart t n)) ∧ (∀ n, KeepsMemories (fun t => .repeatFrame t n)) ∧
  (∀ u, KeepsMemories (fun t => .underrunPersist t u)) ∧ (∀ n, KeepsMemories (fun t => .holdH2Start t n)) ∧
  (∀ n, KeepsMemories (fun t => .holdEnd t n)) ∧ (∀ n, KeepsMemories (fun t => .blankingStart t n)) ∧
  (∀ n, KeepsMemories (fun t => .planeStart t n)) ∧ (∀ n, KeepsMemories (fun t => .blockLoad t n)) ∧
  (∀ n, KeepsMemories (fun t => .blockLoadComplete t n)) ∧ (∀ n, KeepsMemories (fun t => .resetIssue t n)) ∧
  (∀ n, KeepsMemories (fun t => .underrun t n)) ∧ (∀ n, KeepsMemories (fun t => .fsyncPulse t n)) ∧
  (∀ n, KeepsMemories (fun t => .fsyncPulseEnd t n)) ∧ (∀ n, KeepsMemories (fun t => .retrainRetry t n)) ∧
  (∀ x, KeepsMemories (fun t => .frameStartFinal t x)) ∧
  (∀ x resp, KeepsMemories (fun t => .setpointFrame t x resp)) ∧ (∀ x, KeepsMemories (fun t => .setptDead t x)) ∧
  (∀ x, KeepsMemories (fun t => .setpointLoadRetry t x)) ∧ (∀ x on, KeepsMemories (fun t => .windowEdge t x on)) ∧
  (∀ x, KeepsMemories (fun t => .lselChange t x)) ∧
  (∀ x code echo, KeepsMemories (fun t => .pdSample t x code echo)) ∧
  (∀ x lvl, KeepsMemories (fun t => .ratioStale t x lvl)) ∧ (∀ x echo, KeepsMemories (fun t => .winStuck t x echo)) ∧
  (∀ x echo pd, KeepsMemories (fun t => .linkLitCheck t x echo pd)) ∧
  (∀ x pin dur, KeepsMemories (fun t => .pinMismatch t x pin dur)) ∧
  (∀ x, KeepsMemories (fun t => .fallbackWindow t x)) ∧ (∀ x, KeepsMemories (fun t => .fallbackRefresh t x)) ∧
  (∀ x, KeepsMemories (fun t => .fallbackDark t x)) ∧ (∀ n, KeepsMemories (fun t => .trainingStepTimeout t n)) ∧
  (∀ n ms, KeepsMemories (fun t => .trainingDone t n ms)) ∧
  (∀ n echo stamp, KeepsMemories (fun t => .markEcho t n echo stamp)) ∧
  (∀ n op addr data resp, KeepsMemories (fun t => .sidebandTransaction t n op addr data resp)) ∧
  (∀ n, KeepsMemories (fun t => .sidebandTimeout t n)) ∧ (∀ n, KeepsMemories (fun t => .sbDead t n)) ∧
  (∀ n linkStat crc late errInfo, KeepsMemories (fun t => .attn t n linkStat crc late errInfo)) ∧
  (∀ n linkStat, KeepsMemories (fun t => .linkStatPoll t n linkStat)) ∧
  (∀ n temp, KeepsMemories (fun t => .tempPoll t n temp)) ∧ (∀ n eyes, KeepsMemories (fun t => .eyePoll t n eyes)) ∧
  (∀ n, KeepsMemories (fun t => .crcWindow t n)) ∧ (∀ n pass, KeepsMemories (fun t => .groupProbe t n pass)) ∧
  (∀ n, KeepsMemories (fun t => .rateSwitchTimeout t n)) ∧
  (∀ n pll groups, KeepsMemories (fun t => .linkLoss t n pll groups)) ∧
  (∀ k peak lag locked, KeepsMemories (fun t => .turningPoint t k peak lag locked)) ∧
  (∀ k, KeepsMemories (fun t => .turningPointMissed t k)) ∧
  (∀ k err, KeepsMemories (fun t => .slowAxisCheck t k err)) ∧ (∀ k, KeepsMemories (fun t => .lmodUpdate t k)) ∧
  (∀ k, KeepsMemories (fun t => .scnUnderrun t k)) ∧ (∀ k freq, KeepsMemories (fun t => .spinupSweepDone t k freq)) ∧
  (∀ k, KeepsMemories (fun t => .spinupDone t k)) ∧ (∀ k, KeepsMemories (fun t => .spinupFail t k)) ∧
  (∀ p, KeepsMemories (fun t => .keeperWakeFrame t p)) ∧ (∀ p, KeepsMemories (fun t => .keepaliveStrobe t p)) ∧
  (∀ q, KeepsMemories (fun t => .mxRowSlot t q)) ∧ (∀ q c, KeepsMemories (fun t => .mxUnderrun t q c)) ∧
  (∀ p, KeepsMemories (fun t => .keeperFrameEnd t p))

/-- Commands of Basecamp, PBA, THERM, CAL and NVM that store nothing leave every byte of the memories as it was, and of DRAM while
the recorder is stopped (R450). -/
def Obligations.SupplyCommandsKeepMemories : Prop :=
  KeepsMemories (fun t => .lockstep t) ∧ (∀ ext, KeepsMemories (fun t => .mpFault t ext)) ∧
  KeepsMemories (fun t => .wdogExpiry t) ∧ KeepsMemories (fun t => .runtimeUp t) ∧
  KeepsMemories (fun t => .shortWindowClose t) ∧ KeepsMemories (fun t => .longWindowClose t) ∧
  (∀ v, KeepsMemories (fun t => .vbatSample t v)) ∧ (∀ v dur, KeepsMemories (fun t => .pfw t v dur)) ∧
  (∀ v dur, KeepsMemories (fun t => .pfwEnd t v dur)) ∧ (∀ v dur, KeepsMemories (fun t => .vbatOv t v dur)) ∧
  (∀ v dur, KeepsMemories (fun t => .vbatOvEnd t v dur)) ∧ (∀ f, KeepsMemories (fun t => .supplyLoss t f)) ∧
  KeepsMemories (fun t => .restartCountClear t) ∧ KeepsMemories (fun t => .pgTimeout t) ∧
  KeepsMemories (fun t => .xtalGood t) ∧ KeepsMemories (fun t => .xtalStart t) ∧
  KeepsMemories (fun t => .xtalFailPersist t) ∧ (∀ want, KeepsMemories (fun t => .avsUpdate t want)) ∧
  (∀ d, KeepsMemories (fun t => .domainOn t d)) ∧ (∀ i level, KeepsMemories (fun t => .wakePin t i level)) ∧
  KeepsMemories (fun t => .pbaGrant t) ∧ KeepsMemories (fun t => .pbaEvaluation t) ∧
  KeepsMemories (fun t => .waitLong t) ∧ (∀ i r, KeepsMemories (fun t => .sensorSample t i r)) ∧
  (∀ i r, KeepsMemories (fun t => .xtSample t i r)) ∧ KeepsMemories (fun t => .throtStepUp t) ∧
  KeepsMemories (fun t => .throtStepDown t) ∧
  (∀ cls inst a b matched, KeepsMemories (fun t => .calMeasurementStart t cls inst a b matched)) ∧
  (∀ cls inst m, KeepsMemories (fun t => .calMeasurementDone t cls inst m)) ∧
  (∀ cls inst, KeepsMemories (fun t => .calUnstable t cls inst)) ∧ KeepsMemories (fun t => .calTimeout t) ∧
  KeepsMemories (fun t => .nvmScan t) ∧ KeepsMemories (fun t => .scanDone t)

/-- Commands of TIME, SCHED, DMC, the mailbox, ICP, the ports and storage that store nothing leave every byte of the memories as it
was, and of DRAM while the recorder is stopped (R450); an IMS packet changes no byte of DRAM outside the slot area (R73). -/
def Obligations.ServiceCommandsKeepMemories : Prop :=
  (∀ n t s v, exec (.imsPacket t n) s = .next v → SameOnChip s v ∧ (s.mp.recRun = false → ∀ a,
    a < 64 * s.get (.comp 7) IMS_MASK_BASE ∨ 64 * s.get (.comp 7) IMS_MASK_BASE + 0x400000 ≤ a →
      memByte v.dram a = memByte s.dram a)) ∧ KeepsMemories (fun t => .tclkTick t) ∧
  KeepsMemories (fun t => .freerun t) ∧ KeepsMemories (fun t => .holdoffEnd t) ∧
  (∀ path, KeepsMemories (fun t => .timeNowRead t path)) ∧
  (∀ path n, KeepsMemories (fun t => .engFstartNsRead t path n)) ∧
  (∀ path k, KeepsMemories (fun t => .scnFstartNsRead t path k)) ∧
  (∀ path x, KeepsMemories (fun t => .ltnIlkTimeNsRead t path x)) ∧
  (∀ path q, KeepsMemories (fun t => .npLatchNsRead t path q)) ∧
  (∀ path q, KeepsMemories (fun t => .mxFstartNsRead t path q)) ∧
  (∀ path, KeepsMemories (fun t => .timePpsinNsRead t path)) ∧
  (∀ path, KeepsMemories (fun t => .thermShutNsRead t path)) ∧
  (∀ path p, KeepsMemories (fun t => .txqPop t path p)) ∧ KeepsMemories (fun t => .ppsOut t) ∧
  KeepsMemories (fun t => .ppsOutEnd t) ∧ (∀ falling, KeepsMemories (fun t => .ppsIn t falling)) ∧
  KeepsMemories (fun t => .ppsinValidExpiry t) ∧ KeepsMemories (fun t => .strobeHandover t) ∧
  (∀ res, KeepsMemories (fun t => .trainDone t res)) ∧ KeepsMemories (fun t => .phyPllLoss t) ∧
  (∀ p write pa len data, KeepsMemories (fun t => .portRequest t p write pa len data)) ∧
  (∀ p ecc, KeepsMemories (fun t => .requestComplete t p ecc)) ∧
  (∀ c drift ecc, KeepsMemories (fun t => .grantBoundary t c drift ecc)) ∧
  (∀ c r, KeepsMemories (fun t => .refreshDue t c r)) ∧ (∀ c, KeepsMemories (fun t => .retrainSlice t c)) ∧
  (∀ c r code band cool, KeepsMemories (fun t => .mr4Read t c r code band cool)) ∧
  KeepsMemories (fun t => .rhWindowEnd t) ∧ (∀ c r, KeepsMemories (fun t => .powerDownEntry t c r)) ∧
  (∀ i, KeepsMemories (fun t => .rspDrop t i)) ∧ (∀ i, KeepsMemories (fun t => .mbxCommandTimeout t i)) ∧
  KeepsMemories (fun t => .ping t) ∧ KeepsMemories (fun t => .engineStart t) ∧
  KeepsMemories (fun t => .enginePark t) ∧ KeepsMemories (fun t => .calRun t) ∧
  (∀ todo, KeepsMemories (fun t => .calStore t todo)) ∧ (∀ payload, KeepsMemories (fun t => .nvmCommit t payload)) ∧
  KeepsMemories (fun t => .timeSet t) ∧ KeepsMemories (fun t => .seqStart t) ∧
  KeepsMemories (fun t => .contentOpen t) ∧ KeepsMemories (fun t => .logStop t) ∧
  KeepsMemories (fun t => .logEventLog t) ∧ KeepsMemories (fun t => .logFlush t) ∧
  (∀ todo, KeepsMemories (fun t => .powerStateBivouac t todo)) ∧
  (∀ load ext, KeepsMemories (fun t => .mpLoadWindow t load ext)) ∧ KeepsMemories (fun t => .extBudgetPeriod t) ∧
  KeepsMemories (fun t => .extPreempt t) ∧ (∀ a write, KeepsMemories (fun t => .extFault t a write)) ∧
  (∀ n, KeepsMemories (fun t => .icpRead t n)) ∧ (∀ n, KeepsMemories (fun t => .icpMbx t n)) ∧
  (∀ n, KeepsMemories (fun t => .bulkOpen t n)) ∧ (∀ n, KeepsMemories (fun t => .bulkData t n)) ∧
  (∀ n, KeepsMemories (fun t => .bulkClose t n)) ∧ (∀ n, KeepsMemories (fun t => .bulkAbort t n)) ∧
  KeepsMemories (fun t => .bulkIdle t) ∧ (∀ n icp, KeepsMemories (fun t => .ethFrameTx t n icp)) ∧
  (∀ n up, KeepsMemories (fun t => .linkChange t n up)) ∧ (∀ n, KeepsMemories (fun t => .canFrameTx t n)) ∧
  (∀ n, KeepsMemories (fun t => .busOff t n)) ∧ KeepsMemories (fun t => .storLinkDrop t) ∧
  (∀ index error, KeepsMemories (fun t => .cqPosted t index error)) ∧
  (∀ index, KeepsMemories (fun t => .nvmeTimeout t index)) ∧ (∀ i, KeepsMemories (fun t => .storInitDone t i)) ∧
  (∀ n, KeepsMemories (fun t => .busOffRecoveryDone t n))

/-- Commands that act on hidden state alone, an echo outside training among them, change no register, no memory, no value in force and no held value. -/
def Obligations.QuietCommandsKeepRegisters : Prop :=
  KeepsRegisters (fun t => .rejectRecordExpiry t) ∧
  (∀ n, KeepsRegisters (fun t => .planeStart t n)) ∧
  (∀ n, KeepsRegisters (fun t => .fsyncPulse t n)) ∧
  (∀ n, KeepsRegisters (fun t => .fsyncPulseEnd t n)) ∧
  (∀ (n : Fin 4) (echo : Int) (stamp t : Nat) (s v : State), s.sxl[n].step ≠ 4 → exec (.markEcho t n echo stamp) s = .next v →
    SameRegsExactly (s.at t) v [] ∧ SameOnChip s v ∧ SameDram (s.at t) v ∧ v.inForce = s.inForce ∧ v.held = s.held) ∧
  (∀ p, KeepsRegisters (fun t => .keepaliveStrobe t p)) ∧
  (∀ c r, KeepsRegisters (fun t => .refreshDue t c r)) ∧
  KeepsRegisters (fun t => .rhWindowEnd t) ∧
  (∀ c r, KeepsRegisters (fun t => .powerDownEntry t c r)) ∧
  KeepsRegisters (fun t => .nvmScan t) ∧
  (∀ i level, KeepsRegisters (fun t => .wakePin t i level)) ∧
  KeepsRegisters (fun t => .shortWindowClose t) ∧
  KeepsRegisters (fun t => .extBudgetPeriod t) ∧
  KeepsRegisters (fun t => .bulkIdle t) ∧
  KeepsRegisters (fun t => .ppsOut t) ∧
  KeepsRegisters (fun t => .ppsOutEnd t) ∧
  KeepsRegisters (fun t => .xtalMonitorWindow t true)

/-- Commands that act on one block change registers of its page alone, beside those of the beam recorder (R450). As time passes to
a command's instant, registers of TIME alone change (R271, R275). -/
def Obligations.CommandsKeepOtherPages : Prop :=
  (∀ (s : State) (t : Nat), SamePages s (s.at t) [.time]) ∧
  (∀ x on, KeepsPages (fun t => .windowEdge t x on) [.ltn x]) ∧
  (∀ x, KeepsPages (fun t => .lselChange t x) [.ltn x]) ∧
  (∀ x lvl, KeepsPages (fun t => .ratioStale t x lvl) [.ltn x]) ∧
  (∀ x, KeepsPages (fun t => .fallbackDark t x) [.ltn x]) ∧
  (∀ x, KeepsPages (fun t => .setptDead t x) [.ltn x]) ∧
  (∀ n, KeepsPages (fun t => .blockLoad t n) [.grd n, .sxl n]) ∧
  (∀ n, KeepsPages (fun t => .underrun t n) [.eng n, .grd n]) ∧
  (∀ k freq, KeepsPages (fun t => .spinupSweepDone t k freq) [.scn k]) ∧
  (∀ k, KeepsPages (fun t => .lmodUpdate t k) [.scn k]) ∧
  (∀ k, KeepsPages (fun t => .scnUnderrun t k) [.scn k]) ∧
  (∀ q c, KeepsPages (fun t => .mxUnderrun t q c) [mxPage q]) ∧
  (∀ i, KeepsPages (fun t => .assemblyTimeout t i) [.comp 0, .comp 7]) ∧
  (∀ p, KeepsPages (fun t => .keeperWakeFrame t p) [.basecamp]) ∧
  (∀ v, KeepsPages (fun t => .vbatSample t v) [.basecamp]) ∧
  (∀ v dur, KeepsPages (fun t => .vbatOv t v dur) [.basecamp]) ∧
  (∀ v dur, KeepsPages (fun t => .vbatOvEnd t v dur) [.basecamp]) ∧
  KeepsPages (fun t => .restartCountClear t) [.basecamp] ∧
  KeepsPages (fun t => .longWindowClose t) [.mbx] ∧
  (∀ i, KeepsPages (fun t => .rspDrop t i) [.mbx]) ∧
  KeepsPages (fun t => .waitLong t) [.pba] ∧
  (∀ n up, KeepsPages (fun t => .linkChange t n up) [.eth n]) ∧
  (∀ n, KeepsPages (fun t => .busOff t n) [.can n]) ∧
  KeepsPages (fun t => .storLinkDrop t) [.stor] ∧
  (∀ index error, KeepsPages (fun t => .cqPosted t index error) [.stor]) ∧
  (∀ index, KeepsPages (fun t => .nvmeTimeout t index) [.stor]) ∧
  KeepsPages (fun t => .holdoffEnd t) [.time] ∧
  KeepsPages (fun t => .freerun t) [.time] ∧
  (∀ falling, KeepsPages (fun t => .ppsIn t falling) [.time]) ∧
  KeepsPages (fun t => .ppsinValidExpiry t) [.time] ∧
  KeepsPages (fun t => .tclkTick t) [.time]

/-! ### Rules of the spec -/

/-- R41: a read of the active view at offset 0x800 + x answers, for every RWS field of the register at x, the value in effect,
and for every other field what a read at x answers, with no side effect; a write to it that the write permissions of R458 let
pass is ignored, without `BUS_ERR`. -/
def Obligations.ActiveViewReads : Prop :=
  ∀ (s : State) (path : Path) (p : Page) (x v : Nat), x < 0x800 → x % 4 = 0 → s.domOn PD_NOC = true → v < 2 ^ 32 →
    s.busCause path (p.base + x) 4 false = none →
    (∃ w : Word, s.busRead path (p.base + (0x800 + x)) 4 = s.answer w ∧ ∀ b, b < 32 →
      w.getLsbD b = if bitOf (p.rwsMask x) b then bitOf (s.inEffect p x) b else bitOf (s.placeRead path (p.base + x)) b) ∧
    (s.secRefuses path (.page p (0x800 + x)) = false →
      s.busWrite path (p.base + (0x800 + x)) 4 v = s.answer (BitVec.ofNat 32 v))

/-- R272: a servo update out of hold-off is limited to 0x0003_FEFA_0000 to 0x0004_0106_0000 in 2⁻³² ns, with the value last
written to `TIME_INCR_EXT`; a write outside this range takes the nearest limit, sets `TIME_STATUS.INCR_LIMIT`, counts in
`TIME_INCR_LIMIT_CNT` and raises INCR_LIMIT. -/
def Obligations.ServoUpdateIsLimited : Prop :=
  ∀ (s : State) (v : Nat), s.flag .time TIME_STATUS_HOLDOFF = false →
    let inc := bitsOf v 0 20 * 2 ^ 16 + s.get .time TIME_INCR_EXT
    let r := s.timeIncrWrite v
    (0x0003FEFA0000 ≤ inc → inc ≤ 0x000401060000 →
      r.clock.incr = inc ∧ r.flag .time TIME_STATUS_INCR_LIMIT = false) ∧
    (inc < 0x0003FEFA0000 → r.clock.incr = 0x0003FEFA0000) ∧
    (0x000401060000 < inc → r.clock.incr = 0x000401060000) ∧
    (inc < 0x0003FEFA0000 ∨ 0x000401060000 < inc →
      r.flag .time TIME_STATUS_INCR_LIMIT = true ∧
      r.get .time TIME_INCR_LIMIT_CNT = min (s.get .time TIME_INCR_LIMIT_CNT + 1) (2 ^ 32 - 1) ∧
      r.get .time ⟨IRQ_STAT.off, 7, 1⟩ = 1)

/-- R360: VBAT above 42 V for 1 ms sets `BC_STATUS.VBAT_OV` and raises VBAT_OV; up to 58 V the device keeps running, with no other
effect; VBAT_OV clears when VBAT has been at or below 41 V for 10 ms. -/
def Obligations.OvervoltageIsFlagged : Prop :=
  (∀ v dur, 4200 < v → v ≤ 5800 → msU 1 ≤ dur → Completes (fun t => .vbatOv t v dur) (fun u => u.pstate ≠ PS_INIT)
    (fun u r => r.flag .basecamp BC_STATUS_VBAT_OV = true ∧
      (u.flag .basecamp BC_STATUS_VBAT_OV = false → r.get .basecamp ⟨IRQ_STAT.off, BC_EV_VBAT_OV, 1⟩ = 1) ∧
      SameRegs u r [Page.basecamp.base + BC_STATUS.off, Page.basecamp.base + IRQ_STAT.off] ∧
      r.pstate = u.pstate ∧ r.bc = u.bc ∧ r.mp.up = u.mp.up ∧ r.eng = u.eng ∧ r.ltn = u.ltn ∧ SameOnChip u r)) ∧
  (∀ v dur, v ≤ 4100 → msU 10 ≤ dur → Completes (fun t => .vbatOvEnd t v dur) (fun _ => True)
    (fun u r => r.flag .basecamp BC_STATUS_VBAT_OV = false ∧ SameRegsExactly u r [Page.basecamp.base + BC_STATUS.off])) ∧
  (∀ t v dur s r, v ≤ 4200 ∨ dur < msU 1 → exec (.vbatOv t v dur) s = .next r → r = s.at t) ∧
  (∀ t v dur s r, 4100 < v ∨ dur < msU 10 → exec (.vbatOvEnd t v dur) s = .next r → r = s.at t)

/-- An access that fails is recorded in SYS with its address, its path and its cause, counted, and answered with `BUS_ERR`; it
changes no memory, and no register but those of the record and, where a write permission or a pending commit refused it,
the counter and the event of SEC or the error record of the page (R38, R40, R48, R458). -/
def Obligations.FailingAccessesAreRecorded : Prop :=
  ∀ (s : State) (path : Path) (a width v c : Nat), s.domOn PD_NOC = true → a < 2 ^ 32 → s.busCause path a width true = some c →
    let r := s.busWrite path a width v
    r.out = [none] ∧ r.get .sys SYS_BERR_ADDR = a ∧ r.get .sys SYS_BERR_INFO = pathCode path * 2 ^ 24 + c ∧
      r.get .sys SYS_BERR_CNT = min (s.get .sys SYS_BERR_CNT + 1) (2 ^ 32 - 1) ∧ 1 ≤ c ∧ c ≤ 10 ∧
      SameOnChip s r ∧ (s.recording = false → SameDram s r) ∧ r.inForce = s.inForce ∧
      (∀ b, b ≠ Page.sys.base + SYS_BERR_ADDR.off → b ≠ Page.sys.base + SYS_BERR_INFO.off → b ≠ Page.sys.base + SYS_BERR_CNT.off →
        b ∉ recorderRegs → (c = 0x0A → b ≠ Page.sec.base + SEC_BLOCK_CNT.off ∧ b ≠ Page.sec.base + IRQ_STAT.off) →
        (c = 0x09 → ∀ p off, placeOf a = .page p off → b ∉ errRegs p) → r.reg b = s.reg b)

/-- A write through the Frame SRAM window to the front buffer of an engine or scanner in LIT or HOLD is discarded and answered with
`BUS_ERR`; a read of it answers its four bytes while its quarter is on (R22). -/
def Obligations.FrontBufferWritesAreDiscarded : Prop :=
  ∀ (s : State) (path : Path) (off v : Nat), off < 0x5000000 → off % 4 = 0 → s.domOn PD_NOC = true → s.frontBuffer off = true →
    (s.busWrite path (0x20000000 + off) 4 v).out = [none] ∧
      (∀ b, memByte (s.busWrite path (0x20000000 + off) 4 v).fsram b = memByte s.fsram b) ∧
    (s.domOn (PD_FSRAM (off / quarterSize)) = true →
      s.busRead path (0x20000000 + off) 4 = s.answer (BitVec.ofNat 32 (memLE s.fsram off 4)))

/-- FREEZE (R37): as it rises, the counters, `BLK_STATE` and the RO status of the page go on reading as they did, and while it is 1
no change of any register but `BLK_CTRL` changes the bits it holds; the others stay live. -/
def Obligations.FrozenPagesHoldTheirValues : Prop :=
  (∀ (s : State) (path : Path) (p : Page) (off : Nat), path ≠ .ext → off < 0x800 → s.frozen p = false →
    p.base + off ∈ p.regAddrs → ∀ b, b < 32 → bitOf (heldMask p off) b = true →
    bitOf ((s.freezeWrite p true).regRead path p off) b = bitOf (s.regRead path p off) b) ∧
  (∀ (s : State) (path : Path) (p : Page) (off a b : Nat) (v : Word), off < 0x800 → s.frozen p = true → b < 32 →
    a ≠ p.base + BLK_CTRL.off → bitOf (heldMask p off) b = true →
    bitOf ((s.setReg a v).regRead path p off) b = bitOf (s.regRead path p off) b) ∧
  (∀ (s : State) (path : Path) (p : Page) (off b : Nat), off < 0x800 → s.frozen p = true → b < 32 →
    bitOf (heldMask p off) b = false → bitOf (s.regRead path p off) b = bitOf (s.regLive path p off) b) ∧
  (∀ p : Page, heldMask p BLK_STATE.off = allBits ∧ heldMask p IRQ_STAT.off = 0 ∧ heldMask p ERR_CODE.off = 0 ∧
    heldMask p LOCK.off = 0 ∧ heldMask p COMMIT.off = 0 ∧ heldMask p ERR_INFO.off = 0)

/-- LOCK (R49, R50): the key on an unlocked page locks it and keeps TAG, and changes no other register; any other write, and any write
on a locked page, changes nothing; a register write on a locked page leaves every RWL bit as it was. -/
def Obligations.LockedPagesStayAsTheyAre : Prop :=
  (∀ (s : State) (p : Page) (v : Nat), s.flag p LOCK_LOCKED = true ∨ bitsOf v 16 16 ≠ 0x5AFE → s.lockWrite p v = s) ∧
  (∀ (s : State) (p : Page) (v : Nat), s.flag p LOCK_LOCKED = false → bitsOf v 16 16 = 0x5AFE →
    (s.lockWrite p v).flag p LOCK_LOCKED = true ∧ (s.lockWrite p v).get p LOCK_TAG = bitsOf v 1 15 ∧
      SameRegsExactly s (s.lockWrite p v) [p.base + LOCK.off]) ∧
  (∀ (s : State) (path : Path) (p : Page) (off v b : Nat) (r : RegRow), s.flag p LOCK_LOCKED = true → p.row? off = some r →
    0x040 ≤ off → off < 0x800 → b < 32 → bitOf r.rwl b = true →
    bitOf ((s.plainWrite path p off v).reg (p.base + off)).toNat b = bitOf (s.reg (p.base + off)).toNat b)

/-- GO (R43, R44, R46): while PENDING is 1 a GO has no effect. A page alone commits at once: PENDING is 0, LATE is not set, and
COMMIT_DONE is latched. For a mirror engine without frames, whose link is down and whose staged fields pass every check, it takes
effect at once too: every RWS bit of the group's pages is in effect, LATE is not set, and COMMIT_DONE is latched on every page. A commit
with a failed check applies nothing, clears PENDING and sets REJECT. -/
def Obligations.GoReleasesStagedFields : Prop :=
  (∀ (s : State) (g : Group), s.commitPending g = true → s.commitGo g = s) ∧
  (∀ (s : State) (p : Page), p.group = .alone p → p.declared s.pkg = true → s.commitPending (.alone p) = false →
    let r := s.commitGo (.alone p)
    r.commitPending (.alone p) = false ∧ r.get p COMMIT_LATE = s.get p COMMIT_LATE ∧ r.get p ⟨IRQ_STAT.off, 30, 1⟩ = 1) ∧
  (∀ (s : State) (n : Fin 4), s.engFrames n = false → s.linkUp n = false → s.commitPending (.eng n) = false →
    (s.commitOpen (.eng n) {}).engFails n false = [] →
    let r := s.commitGo (.eng n)
    r.commitPending (.eng n) = false ∧ r.get (.eng n) COMMIT_LATE = s.get (.eng n) COMMIT_LATE ∧
      ∀ p ∈ s.groupPages (.eng n), r.get p ⟨IRQ_STAT.off, 30, 1⟩ = 1 ∧
        ∀ e ∈ p.stagedRegs, ∀ b, b < 32 → bitOf e.2 b = true →
          bitOf (r.infReg e.1).toNat b = bitOf (s.reg e.1).toNat b) ∧
  (∀ (s : State) (g : Group) (late : Bool) (fails : List CommitFail) (f : CommitFail), worstFail fails = some f →
    let r := s.commitWhole g late fails
    r.2 = false ∧ r.1.inForce = s.inForce ∧ r.1.commitPending g = false ∧ r.1.flag g.home COMMIT_REJECT = true)

/-- A trip of a Lantern that is not tripped closes its window, drives its level select to 0 and its kill pin low, records cause and local
time, counts, raises TRIP, and puts its engine or scanner into FAULT, but for a TEST or in OFF; a trigger of a tripped one is
only counted (R160, R161, R211). -/
def Obligations.TripShutsTheSource : Prop :=
  (∀ (s : State) (x : Fin 6) (cause : Nat), s.tripped x = true → s.trip x cause = s.bump (.ltn x) LTN_TRIP_CNT) ∧
  (∀ (s : State) (x : Fin 6) (cause : Nat), s.tripped x = false → cause < 16 →
    let r := s.trip x cause
    r.tripped x = true ∧ r.lanternDark x = true ∧ r.get (.ltn x) LTN_STATUS_LSEL = 0 ∧ r.ltnState x = LTN_TRIPPED ∧
      r.get (.ltn x) LTN_ILK_STAT_CAUSE = cause ∧ r.get (.ltn x) LTN_ILK_TIME_NS = s.localNs % 2 ^ 32 ∧
      r.get (.ltn x) LTN_TRIP_CNT = min (s.get (.ltn x) LTN_TRIP_CNT + 1) (2 ^ 32 - 1) ∧
      r.get (.ltn x) ⟨IRQ_STAT.off, LTN_EV_TRIP, 1⟩ = 1 ∧
      (cause ≠ 6 → s.unitState x ≠ E_OFF → r.unitState x = E_FAULT) ∧
      (cause = 6 ∨ s.unitState x = E_OFF → r.unitState x = s.unitState x))

/-- The commands of a mirror engine take it where the table says: START from OFF to TRAIN, waiting for the PBA, and from SAFE to TRAIN;
STOP from TRAIN, READY and SAFE to OFF; PARK from READY, LIT and HOLD to SAFE with cause PARK; FAULT_CLEAR from FAULT to OFF
once the cause is gone (R114). -/
def Obligations.EngineCommandsFollowTheTable : Prop :=
  ∀ (s : State) (n : Fin 4) (path off : Nat),
    (s.engState n = E_OFF → s.inf (.grd n) GRD_PRG0_CTRL_COUNT ≠ 0 →
      (s.engStart n path off).2 = (ST_OK, 0) ∧ (s.engStart n path off).1.engState n = E_TRAIN ∧
        (s.engStart n path off).1.flag (.eng n) ENG_STATUS_PBA_WAIT = true ∧
        ((s.engStart n path off).1.pba.grants.contains (ID_ENG n.val, NO_PORT) = true ∨
          ∃ q ∈ (s.engStart n path off).1.pba.queue, q.id = ID_ENG n.val ∧ q.port = NO_PORT)) ∧
    (s.engState n = E_SAFE → s.inf (.grd n) GRD_PRG0_CTRL_COUNT ≠ 0 →
      (s.engStart n path off).2 = (ST_OK, 0) ∧ (s.engStart n path off).1.engState n = E_TRAIN) ∧
    (s.engState n = E_TRAIN ∨ s.engState n = E_READY ∨ s.engState n = E_SAFE →
      (s.engStop n path off).2 = (ST_OK, 0) ∧ (s.engStop n path off).1.engState n = E_OFF ∧
        (s.ltnState (ltnOfEng n) ≠ LTN_TRIPPED → (s.engStop n path off).1.lanternDark (ltnOfEng n) = true)) ∧
    (s.engState n = E_READY ∨ s.engState n = E_LIT ∨ s.engState n = E_HOLD →
      (s.engPark n path off).2 = (ST_OK, 0) ∧ (s.engPark n path off).1.engState n = E_SAFE ∧
        (s.engPark n path off).1.get (.eng n) ENG_STATE_INFO_CAUSE = CAUSE_PARK) ∧
    (s.engState n = E_FAULT → s.faultGone n = true →
      (s.engFaultClear n path off).2 = (ST_OK, 0) ∧ (s.engFaultClear n path off).1.engState n = E_OFF)

/-- A refused command has no effect but its error record and, for STATE_REJECT, its log entry: the commands of a mirror engine, of the
NVM and of the local clock; an engine command in a state for which the table has no row is STATE_REJECT with detail CMD_STATE
(R12, R114, R274, R275, R421). -/
def Obligations.RefusedCommandsHaveNoEffect : Prop :=
  (∀ (s : State) (n : Fin 4) (path off : Nat) (f : State → Fin 4 → Nat → Nat → State × CmdResult),
    f ∈ [State.engStart, State.engStop, State.engPark, State.engFaultClear] → (f s n path off).2.1 ≠ ST_OK →
    SameRegs s (f s n path off).1 (errRegs (.eng n) ++ errRegs (.grd n)) ∧ SameOnChip s (f s n path off).1 ∧
      (f s n path off).1.eng = s.eng ∧ (f s n path off).1.grd = s.grd ∧ (f s n path off).1.ltn = s.ltn ∧
      (f s n path off).1.sxl = s.sxl ∧ (f s n path off).1.pba = s.pba ∧ (f s n path off).1.mbx = s.mbx) ∧
  (∀ (s : State) (n : Fin 4) (path off : Nat),
    (s.inf (.grd n) GRD_PRG0_CTRL_COUNT ≠ 0 → s.engState n ≠ E_OFF → s.engState n ≠ E_READY → s.engState n ≠ E_SAFE →
      (s.engStart n path off).2 = (ST_STATE_REJECT, ENG_CMD_STATE)) ∧
    (s.engState n = E_OFF ∨ s.engState n = E_FAULT → (s.engStop n path off).2 = (ST_STATE_REJECT, ENG_CMD_STATE) ∧
      (s.engPark n path off).2 = (ST_STATE_REJECT, ENG_CMD_STATE)) ∧
    (s.engState n ≠ E_FAULT → (s.engFaultClear n path off).2 = (ST_STATE_REJECT, ENG_CMD_STATE))) ∧
  (∀ (s : State) (path : Path) (v : Nat), bitsOf v 31 1 = 1 →
    (s.nvmCheck (bitsOf v 0 4) (s.get .nvm NVM_ADDR) (bitsOf v 8 3 + 1)).1 ≠ ST_OK →
    SameRegs s (s.nvmCmd path v) (errRegs .nvm) ∧ (s.nvmCmd path v).nvm = s.nvm ∧ SameOnChip s (s.nvmCmd path v)) ∧
  (∀ (s : State) (path : Path) (v : Nat), s.flag .time TIME_STATUS_HOLDOFF = false → 10000000 < (signed 32 v).natAbs →
    SameRegs s (s.timeSlewWrite path v) (errRegs .time) ∧ (s.timeSlewWrite path v).clock = s.clock) ∧
  (∀ (s : State) (path : Path) (v : Nat), bitsOf v 0 4 = 1 → 1000000000 ≤ s.get .time TIME_SET_NS →
    SameRegs s (s.timeAdjWrite path v) (errRegs .time) ∧ (s.timeAdjWrite path v).clock = s.clock)

/-- An extension access outside R326 is stopped before it leaves the MP: it is answered by nothing, no page but MBX changes and no bus
error is recorded; the extension stops, RUN clears, and the fault is counted and raised (R327). -/
def Obligations.ExtensionFaultsStopTheExtension : Prop :=
  ∀ (s : State) (a width v : Nat), s.pathLive .ext = true → s.extMay a true = false →
    let r := s.writeBy .ext a width v
    r.out = [] ∧ r.mp.extStopped = true ∧ r.flag .mbx MP_EXT_CTRL_RUN = false ∧
      r.get .mbx MP_EXT_FAULT_CNT = min (s.get .mbx MP_EXT_FAULT_CNT + 1) (2 ^ 32 - 1) ∧
      r.get .mbx ⟨IRQ_STAT.off, 8, 1⟩ = 1 ∧ SamePages s r [.mbx] ∧ SameOnChip s r ∧ r.mp.up = s.mp.up

/-- The PBA grants in the order of R378: the request granted waits and passes its checks, and none that waits and passes comes before it
by class, time, requester and port; none is granted only when none passes. A LEGAL request always passes. -/
def Obligations.GrantsFollowTheOrder : Prop :=
  ∀ s : State,
    (∀ q, s.nextGrant = some q → q ∈ s.pba.queue ∧ s.passes q = true ∧
      ∀ o ∈ s.pba.queue, s.passes o = true → s.reqBefore o q = false) ∧
    (s.nextGrant = none → ∀ o ∈ s.pba.queue, s.passes o = false) ∧
    (∀ q, s.reqClass q.id = 0 → s.passes q = true)

/-- A system reset by the MP's key is a cold reset: SEQ_UP with cause 3, every domain off, every light dark, every engine and scanner OFF,
and memory contents lost but those of the NVM; any other value of the MP is ignored, and a write of another path is recorded
with detail PATH and changes nothing else (R371, R372). -/
def Obligations.SystemResetIsCold : Prop :=
  (∀ s : State,
    let r := s.rstWrite .mp 0xC01D
    r.pstate = PS_SEQ_UP ∧ r.get .basecamp BC_RST_CAUSE_CAUSE = 3 ∧ s.coldReset.get .basecamp BC_PD_ON = 0 ∧
      s.coldReset.get .basecamp BC_PD_RET = 0 ∧ (∀ x : Fin 6, r.lanternDark x = true) ∧
      (∀ n : Fin 4, r.engState n = E_OFF) ∧ (∀ k : Fin 2, r.scnState k = E_OFF) ∧
      (∀ a, memByte r.nvmMem a = memByte s.nvmMem a ∧ memByte r.fsram a = 0 ∧ memByte r.tcm a = 0)) ∧
  (∀ (s : State) (v : Nat), v ≠ 0xC01D → s.rstWrite .mp v = s) ∧
  (∀ (s : State) (path : Path) (v : Nat), path ≠ .mp →
    SameRegs s (s.rstWrite path v) (errRegs .basecamp) ∧ SameOnChip s (s.rstWrite path v))

/-- The machine at reset, before Basecamp has power: no step has run, no domain is on, every unit is OFF, no light can leave, nothing
waits, and registers read the reset values of their tables (R114, R158, R212, R361, R364). -/
def Obligations.ResetState : Prop :=
  State.reset.pstate = PS_INIT ∧ State.reset.get .basecamp BC_PD_ON = 0 ∧ State.reset.pending = [] ∧ State.reset.now = 0 ∧
    (∀ n : Fin 4, State.reset.engState n = E_OFF) ∧ (∀ k : Fin 2, State.reset.scnState k = E_OFF) ∧
    (∀ x : Fin 6, State.reset.lanternDark x = true ∧ State.reset.ltnState x = LTN_OFF) ∧ State.reset.mp.up = false ∧
    (∀ a : Nat, State.reset.reg a = resetAt a ∧ State.reset.infReg a = resetAt a) ∧
    (∀ n : Fin 4, State.reset.get (.eng n) ENG_CFG_UNDERRUN_LIMIT = 16) ∧
    (∀ a, memByte State.reset.tcm a = 0 ∧ memByte State.reset.fsram a = 0 ∧ memByte State.reset.dram a = 0)
end

