-- ==== Sys2Proof/Laws/Cells.lean ====
section
/-!
SUPPORT. Laws of sparse data: reading after writing, and the canonical form that every operation keeps, for
registers (`cellGet`, `cellPut`) and for byte memories.
-/

namespace Sys2Proof.Machine

/-! ### Reading after writing -/

theorem cellGet_erase_same {α : Type} (l : List (Nat × α)) (k : Nat) : cellGet (cellErase l k) k = none := by
  induction l with
  | nil => rfl
  | cons p r ih =>
    obtain ⟨a, v⟩ := p
    by_cases h : a = k
    · simp [cellErase, h, ih]
    · simp [cellErase, cellGet, h, ih]

theorem cellGet_erase_ne {α : Type} (l : List (Nat × α)) {k j : Nat} (hj : k ≠ j) :
    cellGet (cellErase l k) j = cellGet l j := by
  induction l with
  | nil => rfl
  | cons p r ih =>
    obtain ⟨a, v⟩ := p
    by_cases h : a = k
    · subst h; simp [cellErase, cellGet, hj, ih]
    · simp only [cellErase, h, ↓reduceIte, cellGet, ih]

theorem cellGet_insert_ne {α : Type} (l : List (Nat × α)) {k j : Nat} (v : α) (hj : k ≠ j) :
    cellGet (cellInsert l k v) j = cellGet l j := by
  induction l with
  | nil => simp [cellInsert, cellGet, hj]
  | cons p r ih =>
    obtain ⟨a, w⟩ := p
    by_cases h : k < a
    · simp [cellInsert, h, cellGet, hj]
    · simp [cellInsert, h, cellGet, ih]

theorem cellGet_insert_same {α : Type} (l : List (Nat × α)) (k : Nat) (v : α) (hl : cellGet l k = none) :
    cellGet (cellInsert l k v) k = some v := by
  induction l with
  | nil => simp [cellInsert, cellGet]
  | cons p r ih =>
    obtain ⟨a, w⟩ := p
    by_cases h : k < a
    · simp [cellInsert, h, cellGet]
    · by_cases h2 : a = k
      · simp [cellGet, h2] at hl
      · simp [cellGet, h2] at hl
        simp [cellInsert, h, cellGet, h2, ih hl]

/-- A key reads as the value put there last, unlisted keys as `d`. -/
theorem cellGet_put_same {α : Type} [DecidableEq α] (d : α) (l : List (Nat × α)) (k : Nat) (v : α) :
    (cellGet (cellPut d l k v) k).getD d = v := by
  unfold cellPut
  split
  · next h => simp [cellGet_erase_same, h]
  · simp [cellGet_insert_same _ _ _ (cellGet_erase_same l k)]

/-- Putting a value at one key leaves every other key as it was. -/
theorem cellGet_put_ne {α : Type} [DecidableEq α] (d : α) (l : List (Nat × α)) {k j : Nat} (v : α) (h : k ≠ j) :
    cellGet (cellPut d l k v) j = cellGet l j := by
  unfold cellPut
  split
  · exact cellGet_erase_ne l h
  · rw [cellGet_insert_ne _ _ h, cellGet_erase_ne l h]

/-! ### The canonical form -/

theorem keysRise_iff {α : Type} (l : List (Nat × α)) : keysRise l = true ↔ (l.map (·.1)).Pairwise (· < ·) := by
  induction l with
  | nil => simp [keysRise]
  | cons p r ih =>
    cases r with
    | nil => simp [keysRise]
    | cons q r =>
      obtain ⟨a, v⟩ := p
      obtain ⟨b, w⟩ := q
      simp only [keysRise, Bool.and_eq_true, decide_eq_true_eq, ih]
      simp only [List.map_cons, List.pairwise_cons]
      constructor
      · rintro ⟨hab, hb, hr⟩
        refine ⟨?_, hb, hr⟩
        intro x hx
        rcases List.mem_cons.mp hx with rfl | hx
        · exact hab
        · exact lt_trans hab (hb x hx)
      · rintro ⟨ha, hb, hr⟩
        exact ⟨ha b (by simp), hb, hr⟩

theorem mem_cellErase {α : Type} {l : List (Nat × α)} {k : Nat} {p : Nat × α} :
    p ∈ cellErase l k ↔ p ∈ l ∧ p.1 ≠ k := by
  induction l with
  | nil => simp [cellErase]
  | cons q r ih =>
    obtain ⟨a, v⟩ := q
    by_cases h : a = k
    · simp only [cellErase, h, ↓reduceIte, ih, List.mem_cons]
      constructor
      · rintro ⟨h1, h2⟩; exact ⟨.inr h1, h2⟩
      · rintro ⟨rfl | h1, h2⟩
        · exact absurd rfl h2
        · exact ⟨h1, h2⟩
    · simp only [cellErase, h, ↓reduceIte, List.mem_cons, ih]
      constructor
      · rintro (rfl | ⟨h1, h2⟩)
        · exact ⟨.inl rfl, h⟩
        · exact ⟨.inr h1, h2⟩
      · rintro ⟨rfl | h1, h2⟩
        · exact .inl rfl
        · exact .inr ⟨h1, h2⟩

theorem mem_cellInsert {α : Type} {l : List (Nat × α)} {k : Nat} {v : α} {p : Nat × α} :
    p ∈ cellInsert l k v ↔ p = (k, v) ∨ p ∈ l := by
  induction l with
  | nil => simp [cellInsert]
  | cons q r ih =>
    obtain ⟨a, w⟩ := q
    by_cases h : k < a
    · simp [cellInsert, h]
    · simp only [cellInsert, h, ↓reduceIte, List.mem_cons, ih]
      tauto

theorem keysRise_erase {α : Type} {l : List (Nat × α)} (k : Nat) (h : keysRise l = true) :
    keysRise (cellErase l k) = true := by
  rw [keysRise_iff] at h ⊢
  induction l with
  | nil => simp [cellErase]
  | cons q r ih =>
    obtain ⟨a, v⟩ := q
    simp only [List.map_cons, List.pairwise_cons] at h
    by_cases hk : a = k
    · simp only [cellErase, hk, ↓reduceIte]; exact ih h.2
    · simp only [cellErase, hk, ↓reduceIte, List.map_cons, List.pairwise_cons]
      refine ⟨?_, ih h.2⟩
      intro x hx
      obtain ⟨p, hp, rfl⟩ := List.mem_map.mp hx
      exact h.1 _ (List.mem_map_of_mem (mem_cellErase.mp hp).1)

theorem keysRise_insert {α : Type} {l : List (Nat × α)} (k : Nat) (v : α) (h : keysRise l = true)
    (hk : ∀ p ∈ l, p.1 ≠ k) : keysRise (cellInsert l k v) = true := by
  rw [keysRise_iff] at h ⊢
  induction l with
  | nil => simp [cellInsert]
  | cons q r ih =>
    obtain ⟨a, w⟩ := q
    simp only [List.map_cons, List.pairwise_cons] at h
    by_cases hlt : k < a
    · simp only [cellInsert, hlt, ↓reduceIte, List.map_cons, List.pairwise_cons]
      refine ⟨?_, h⟩
      intro x hx
      rcases List.mem_cons.mp hx with rfl | hx
      · exact hlt
      · exact lt_trans hlt (h.1 x hx)
    · simp only [cellInsert, hlt, ↓reduceIte, List.map_cons, List.pairwise_cons]
      refine ⟨?_, ih h.2 fun p hp => hk p (List.mem_cons_of_mem _ hp)⟩
      intro x hx
      obtain ⟨p, hp, rfl⟩ := List.mem_map.mp hx
      rcases mem_cellInsert.mp hp with rfl | hp
      · have := hk (a, w) (by simp)
        simp only [ne_eq] at this
        show a < k
        omega
      · exact h.1 _ (List.mem_map_of_mem hp)

theorem cellsWf_iff {α : Type} [DecidableEq α] (d : Nat → α) (l : List (Nat × α)) :
    cellsWf d l = true ↔ keysRise l = true ∧ ∀ p ∈ l, p.2 ≠ d p.1 := by
  simp [cellsWf, List.all_eq_true]

/-- Putting a value keeps the canonical form. -/
theorem cellsWf_put {α : Type} [DecidableEq α] (d : Nat → α) {l : List (Nat × α)} (k : Nat) (v : α)
    (h : cellsWf d l = true) : cellsWf d (cellPut (d k) l k v) = true := by
  rw [cellsWf_iff] at h ⊢
  unfold cellPut
  split
  · exact ⟨keysRise_erase k h.1, fun p hp => h.2 p (mem_cellErase.mp hp).1⟩
  · next hv =>
    refine ⟨keysRise_insert k v (keysRise_erase k h.1) fun p hp => (mem_cellErase.mp hp).2, ?_⟩
    intro p hp
    rcases mem_cellInsert.mp hp with rfl | hp
    · exact hv
    · exact h.2 p (mem_cellErase.mp hp).1

/-- Dropping entries keeps the canonical form. -/
theorem cellsWf_filter {α : Type} [DecidableEq α] (d : Nat → α) {l : List (Nat × α)} (f : Nat × α → Bool)
    (h : cellsWf d l = true) : cellsWf d (l.filter f) = true := by
  rw [cellsWf_iff] at h ⊢
  refine ⟨?_, fun p hp => h.2 p (List.mem_filter.mp hp).1⟩
  rw [keysRise_iff] at h ⊢
  exact h.1.sublist (List.filter_sublist.map _)

/-- Erasing a key keeps the canonical form. -/
theorem cellsWf_erase {α : Type} [DecidableEq α] (d : Nat → α) {l : List (Nat × α)} (k : Nat)
    (h : cellsWf d l = true) : cellsWf d (cellErase l k) = true := by
  rw [cellsWf_iff] at h ⊢
  exact ⟨keysRise_erase k h.1, fun p hp => h.2 p (mem_cellErase.mp hp).1⟩

/-! ### Byte memories -/

theorem memByte_setByte_same (m : List (Nat × Byte)) (a : Nat) (v : Byte) : memByte (memSetByte m a v) a = v :=
  cellGet_put_same 0 m a v

theorem memByte_setByte_ne (m : List (Nat × Byte)) {a b : Nat} (v : Byte) (h : a ≠ b) :
    memByte (memSetByte m a v) b = memByte m b := by
  unfold memByte memSetByte; rw [cellGet_put_ne _ _ _ h]

/-- A multi-byte write leaves every byte outside its range. -/
theorem memByte_setLE_outside (n : Nat) : ∀ (m : List (Nat × Byte)) (a v b : Nat), b < a ∨ a + n ≤ b →
    memByte (memSetLE m a n v) b = memByte m b := by
  induction n with
  | zero => intro m a v b _; rfl
  | succ n ih =>
    intro m a v b h
    unfold memSetLE
    rw [ih _ _ _ _ (by omega), memByte_setByte_ne _ _ (by omega)]

/-- Reading back a multi-byte write gives its number, cut to the width. -/
theorem memLE_setLE (n : Nat) : ∀ (m : List (Nat × Byte)) (a v : Nat),
    memLE (memSetLE m a n v) a n = v % 256 ^ n := by
  induction n with
  | zero => intro m a v; simp [memLE, Nat.mod_one]
  | succ n ih =>
    intro m a v
    unfold memSetLE memLE
    rw [ih, memByte_setLE_outside _ _ _ _ _ (by omega), memByte_setByte_same]
    rw [BitVec.toNat_ofNat, pow_succ' (256 : Nat) n, Nat.mod_mul (a := 256) (b := 256 ^ n)]

theorem Memory.wf_setByte {m : List (Nat × Byte)} (a : Nat) (v : Byte) (h : Memory.wf m = true) :
    Memory.wf (memSetByte m a v) = true := cellsWf_put (fun _ => 0) a v h

theorem Memory.wf_setLE (n : Nat) : ∀ {m : List (Nat × Byte)} (a v : Nat), Memory.wf m = true →
    Memory.wf (memSetLE m a n v) = true := by
  induction n with
  | zero => intro m a v h; exact h
  | succ n ih => intro m a v h; exact ih _ _ (Memory.wf_setByte _ _ h)

theorem Memory.wf_setBytes : ∀ (bs : List Byte) {m : List (Nat × Byte)} (a : Nat), Memory.wf m = true →
    Memory.wf (memSetBytes m a bs) = true
  | [], _, _, h => h
  | _ :: r, _, _, h => Memory.wf_setBytes r _ (Memory.wf_setByte _ _ h)

theorem Memory.wf_clear {m : List (Nat × Byte)} (a n : Nat) (h : Memory.wf m = true) :
    Memory.wf (memClear m a n) = true := cellsWf_filter _ _ h

/-- The memories of the reset state are canonical. -/
theorem Memory.wf_nil : Memory.wf [] = true := rfl

end Sys2Proof.Machine
end

