-- ==== Sys2Proof/Laws/Regs.lean ====
section
/-!
SUPPORT. Laws of register cells and fields: a register or field reads as it was last written, and a write leaves
every other register and every other field as it was.
-/

namespace Sys2Proof.Machine

/-! ### Bit fields -/

/-- The field just written reads as the value, cut to its width. -/
theorem bitsOf_withBits_same (x lo w v : Nat) : bitsOf (withBits x lo w v) lo w = v % 2 ^ w := by
  unfold bitsOf withBits
  have h1 : x % 2 ^ lo < 2 ^ lo := Nat.mod_lt _ (by positivity)
  have h2 : v % 2 ^ w < 2 ^ w := Nat.mod_lt _ (by positivity)
  have e : x / 2 ^ (lo + w) * 2 ^ (lo + w) + v % 2 ^ w * 2 ^ lo + x % 2 ^ lo =
      2 ^ lo * (x / 2 ^ (lo + w) * 2 ^ w + v % 2 ^ w) + x % 2 ^ lo := by rw [pow_add]; ring
  rw [e, Nat.mul_add_div (by positivity), Nat.div_eq_of_lt h1, Nat.add_zero, Nat.add_comm, Nat.add_mul_mod_self_right, Nat.mod_mod]

/-- A bit below the field, or above it, is that of the word. -/
theorem withBits_testBit (x lo w v i : Nat) :
    (withBits x lo w v).testBit i = if lo ≤ i ∧ i < lo + w then v.testBit (i - lo) else x.testBit i := by
  have h1 : x % 2 ^ lo < 2 ^ lo := Nat.mod_lt _ (by positivity)
  have h2 : v % 2 ^ w < 2 ^ w := Nat.mod_lt _ (by positivity)
  have e : withBits x lo w v =
      2 ^ lo * (2 ^ w * (x / 2 ^ (lo + w)) + v % 2 ^ w) + x % 2 ^ lo := by unfold withBits; rw [pow_add]; ring
  rw [e, Nat.testBit_two_pow_mul_add _ h1]
  by_cases hlo : i < lo
  · have : ¬ (lo ≤ i ∧ i < lo + w) := by omega
    simp [hlo, this, Nat.testBit_mod_two_pow]
  · simp only [hlo, ↓reduceIte]
    rw [Nat.testBit_two_pow_mul_add _ h2]
    by_cases hw : i - lo < w
    · have : lo ≤ i ∧ i < lo + w := by omega
      simp [hw, this, Nat.testBit_mod_two_pow]
    · have : ¬ (lo ≤ i ∧ i < lo + w) := by omega
      simp only [hw, ↓reduceIte, this, Nat.testBit_div_two_pow]
      congr 1; omega

theorem bitsOf_testBit (x lo w i : Nat) : (bitsOf x lo w).testBit i = (decide (i < w) && x.testBit (lo + i)) := by
  unfold bitsOf
  rw [Nat.testBit_mod_two_pow, Nat.testBit_div_two_pow, Nat.add_comm]

/-- A field that does not overlap the one written reads as before. -/
theorem bitsOf_withBits_other (x lo w v lo' w' : Nat) (h : lo' + w' ≤ lo ∨ lo + w ≤ lo') :
    bitsOf (withBits x lo w v) lo' w' = bitsOf x lo' w' := by
  apply Nat.eq_of_testBit_eq
  intro i
  rw [bitsOf_testBit, bitsOf_testBit, withBits_testBit]
  by_cases hi : i < w'
  · have : ¬ (lo ≤ lo' + i ∧ lo' + i < lo + w) := by omega
    simp [this]
  · simp [hi]

/-- A field within 32 bits does not see the cut to 32 bits. -/
theorem bitsOf_mod_word (x lo w : Nat) (h : lo + w ≤ 32) : bitsOf (x % 2 ^ 32) lo w = bitsOf x lo w := by
  apply Nat.eq_of_testBit_eq
  intro i
  rw [bitsOf_testBit, bitsOf_testBit, Nat.testBit_mod_two_pow]
  by_cases hi : i < w
  · have : lo + i < 32 := by omega
    simp [this]
  · simp [hi]

theorem bitsOf_lt (x lo w : Nat) : bitsOf x lo w < 2 ^ w := Nat.mod_lt _ (by positivity)

/-- A field lies within its word. -/
abbrev RF.Fits (f : RF) : Prop := f.lo + f.w ≤ 32

/-- Two fields of one register do not overlap. -/
abbrev RF.Apart (f g : RF) : Prop := g.lo + g.w ≤ f.lo ∨ f.lo + f.w ≤ g.lo

theorem Word.field_withField_same (v : Word) (f : RF) (x : Nat) (h : f.Fits) :
    Word.field (Word.withField v f x) f = x % 2 ^ f.w := by
  unfold Word.field Word.withField
  rw [BitVec.toNat_ofNat, bitsOf_mod_word _ _ _ h, bitsOf_withBits_same]

theorem Word.field_withField_apart (v : Word) (f g : RF) (x : Nat) (hg : g.Fits) (h : f.Apart g) :
    Word.field (Word.withField v f x) g = Word.field v g := by
  unfold Word.field Word.withField
  rw [BitVec.toNat_ofNat, bitsOf_mod_word _ _ _ hg, bitsOf_withBits_other _ _ _ _ _ _ h]

/-! ### Register cells -/

@[simp] theorem State.reg_setReg_same (s : State) (a : Nat) (v : Word) : (s.setReg a v).reg a = v :=
  cellGet_put_same (resetAt a) s.regs a v

theorem State.reg_setReg_ne (s : State) {a b : Nat} (v : Word) (h : a ≠ b) : (s.setReg a v).reg b = s.reg b := by
  unfold State.reg State.setReg; simp only; rw [cellGet_put_ne _ _ _ h]

@[simp] theorem State.infReg_setInfReg_same (s : State) (a : Nat) (v : Word) : (s.setInfReg a v).infReg a = v :=
  cellGet_put_same (resetAt a) s.inForce a v

theorem State.infReg_setInfReg_ne (s : State) {a b : Nat} (v : Word) (h : a ≠ b) :
    (s.setInfReg a v).infReg b = s.infReg b := by
  unfold State.infReg State.setInfReg; simp only; rw [cellGet_put_ne _ _ _ h]

@[simp] theorem State.infReg_setReg (s : State) (a b : Nat) (v : Word) : (s.setReg a v).infReg b = s.infReg b := rfl
@[simp] theorem State.reg_setInfReg (s : State) (a b : Nat) (v : Word) : (s.setInfReg a v).reg b = s.reg b := rfl

/-! ### Register fields -/

/-- A field reads as the value put, cut to its width. -/
theorem State.get_put_same (s : State) (p : Page) (f : RF) (x : Nat) (h : f.Fits) :
    (s.put p f x).get p f = x % 2 ^ f.w := by
  unfold State.get State.put
  rw [State.reg_setReg_same, Word.field_withField_same _ _ _ h]

/-- A put leaves every other register. -/
theorem State.reg_put_ne (s : State) (p : Page) (f : RF) (x a : Nat) (h : p.base + f.off ≠ a) :
    (s.put p f x).reg a = s.reg a := State.reg_setReg_ne s _ h

/-- A put leaves the fields of every other register. -/
theorem State.get_put_ne (s : State) (p q : Page) (f g : RF) (x : Nat) (h : p.base + f.off ≠ q.base + g.off) :
    (s.put p f x).get q g = s.get q g := by
  unfold State.get; rw [State.reg_put_ne _ _ _ _ _ h]

/-- A put leaves the other fields of its register. -/
theorem State.get_put_apart (s : State) (p : Page) (f g : RF) (x : Nat) (ho : f.off = g.off) (hg : g.Fits)
    (h : f.Apart g) : (s.put p f x).get p g = s.get p g := by
  unfold State.get State.put
  rw [ho, State.reg_setReg_same, Word.field_withField_apart _ _ _ _ hg h]

/-- A register page starts at a multiple of 4 KiB, and its address names it. -/
theorem Page.ofAddr_base (p : Page) (off : Nat) (h : off < 0x1000) : Page.ofAddr (p.base + off) = some p := by
  have key : ∀ p : Page, p.base % 0x1000 = 0 ∧ Page.ofAddr p.base = some p := by
    intro p
    cases p with
    | eng n => revert n; decide
    | grd n => revert n; decide
    | ltn n => revert n; decide
    | scn n => revert n; decide
    | sxl n => revert n; decide
    | comp n => revert n; decide
    | dmc n => revert n; decide
    | np n => revert n; decide
    | mx n => revert n; decide
    | eth n => revert n; decide
    | can n => revert n; decide
    | _ => decide
  have hq : (p.base + off) / 0x1000 = p.base / 0x1000 := by have := (key p).1; omega
  have := (key p).2
  unfold Page.ofAddr at this ⊢
  rw [hq]; exact this

theorem Page.base_mod (p : Page) : p.base % 0x1000 = 0 := by
  cases p <;> simp only [Page.base] <;> omega

/-- Registers of different pages have different addresses. -/
theorem Page.addr_ne {p q : Page} (h : p ≠ q) {a b : Nat} (ha : a < 0x1000) (hb : b < 0x1000) :
    p.base + a ≠ q.base + b := by
  intro e
  have h1 := Page.ofAddr_base p a ha
  rw [e, Page.ofAddr_base q b hb] at h1
  exact h (Option.some.inj h1).symm

/-- A put at one page leaves the registers of every other page. -/
theorem State.get_put_page (s : State) (p q : Page) (f g : RF) (x : Nat) (h : p ≠ q) (hf : f.off < 0x1000)
    (hg : g.off < 0x1000) : (s.put p f x).get q g = s.get q g :=
  State.get_put_ne _ _ _ _ _ _ (Page.addr_ne h hf hg)

/-- A put leaves the other registers of its page. -/
theorem State.get_put_off (s : State) (p : Page) (f g : RF) (x : Nat) (h : f.off ≠ g.off) :
    (s.put p f x).get p g = s.get p g := State.get_put_ne _ _ _ _ _ _ (by omega)

/-- A field holds no more than its width. -/
theorem State.get_lt (s : State) (p : Page) (f : RF) : s.get p f < 2 ^ f.w := bitsOf_lt _ _ _

@[simp] theorem State.inf_put (s : State) (p q : Page) (f g : RF) (x : Nat) : (s.put p f x).inf q g = s.inf q g := rfl
@[simp] theorem State.get_putInf (s : State) (p q : Page) (f g : RF) (x : Nat) :
    (s.putInf p f x).get q g = s.get q g := rfl

theorem State.inf_putInf_same (s : State) (p : Page) (f : RF) (x : Nat) (h : f.Fits) :
    (s.putInf p f x).inf p f = x % 2 ^ f.w := by
  unfold State.inf State.putInf
  rw [State.infReg_setInfReg_same, Word.field_withField_same _ _ _ h]

end Sys2Proof.Machine
end

