-- ==== Sys2Proof/Laws/State.lean ====
section
/-!
SUPPORT. What each basic update of the state changes, field by field: one lemma per field, true by `rfl`, so that
no later proof unfolds a record update.
-/

namespace Sys2Proof.Machine

/-! ### Register cells and values in force -/

@[simp] theorem State.setReg_now (s : State) (a : Nat) (v : Word) : (s.setReg a v).now = s.now := rfl
@[simp] theorem State.setReg_pkg (s : State) (a : Nat) (v : Word) : (s.setReg a v).pkg = s.pkg := rfl
@[simp] theorem State.setReg_fresh (s : State) (a : Nat) (v : Word) : (s.setReg a v).fresh = s.fresh := rfl
@[simp] theorem State.setReg_out (s : State) (a : Nat) (v : Word) : (s.setReg a v).out = s.out := rfl
@[simp] theorem State.setReg_inForce (s : State) (a : Nat) (v : Word) : (s.setReg a v).inForce = s.inForce := rfl
@[simp] theorem State.setReg_held (s : State) (a : Nat) (v : Word) : (s.setReg a v).held = s.held := rfl
@[simp] theorem State.setReg_pulses (s : State) (a : Nat) (v : Word) : (s.setReg a v).pulses = s.pulses := rfl
@[simp] theorem State.setReg_recent (s : State) (a : Nat) (v : Word) : (s.setReg a v).recent = s.recent := rfl
@[simp] theorem State.setReg_conds (s : State) (a : Nat) (v : Word) : (s.setReg a v).conds = s.conds := rfl
@[simp] theorem State.setReg_stampSec (s : State) (a : Nat) (v : Word) : (s.setReg a v).stampSec = s.stampSec := rfl
@[simp] theorem State.setReg_tcm (s : State) (a : Nat) (v : Word) : (s.setReg a v).tcm = s.tcm := rfl
@[simp] theorem State.setReg_fsram (s : State) (a : Nat) (v : Word) : (s.setReg a v).fsram = s.fsram := rfl
@[simp] theorem State.setReg_cmp (s : State) (a : Nat) (v : Word) : (s.setReg a v).cmp = s.cmp := rfl
@[simp] theorem State.setReg_ims (s : State) (a : Nat) (v : Word) : (s.setReg a v).ims = s.ims := rfl
@[simp] theorem State.setReg_commits (s : State) (a : Nat) (v : Word) : (s.setReg a v).commits = s.commits := rfl
@[simp] theorem State.setReg_eng (s : State) (a : Nat) (v : Word) : (s.setReg a v).eng = s.eng := rfl
@[simp] theorem State.setReg_grd (s : State) (a : Nat) (v : Word) : (s.setReg a v).grd = s.grd := rfl
@[simp] theorem State.setReg_planAt (s : State) (a : Nat) (v : Word) : (s.setReg a v).planAt = s.planAt := rfl
@[simp] theorem State.setReg_ltn (s : State) (a : Nat) (v : Word) : (s.setReg a v).ltn = s.ltn := rfl
@[simp] theorem State.setReg_sxl (s : State) (a : Nat) (v : Word) : (s.setReg a v).sxl = s.sxl := rfl
@[simp] theorem State.setReg_scn (s : State) (a : Nat) (v : Word) : (s.setReg a v).scn = s.scn := rfl
@[simp] theorem State.setReg_np (s : State) (a : Nat) (v : Word) : (s.setReg a v).np = s.np := rfl
@[simp] theorem State.setReg_keeper (s : State) (a : Nat) (v : Word) : (s.setReg a v).keeper = s.keeper := rfl
@[simp] theorem State.setReg_mx (s : State) (a : Nat) (v : Word) : (s.setReg a v).mx = s.mx := rfl
@[simp] theorem State.setReg_clock (s : State) (a : Nat) (v : Word) : (s.setReg a v).clock = s.clock := rfl
@[simp] theorem State.setReg_sched (s : State) (a : Nat) (v : Word) : (s.setReg a v).sched = s.sched := rfl
@[simp] theorem State.setReg_schedOld (s : State) (a : Nat) (v : Word) : (s.setReg a v).schedOld = s.schedOld := rfl
@[simp] theorem State.setReg_schedAt (s : State) (a : Nat) (v : Word) : (s.setReg a v).schedAt = s.schedAt := rfl
@[simp] theorem State.setReg_schedBusy (s : State) (a : Nat) (v : Word) : (s.setReg a v).schedBusy = s.schedBusy := rfl
@[simp] theorem State.setReg_dmcs (s : State) (a : Nat) (v : Word) : (s.setReg a v).dmcs = s.dmcs := rfl
@[simp] theorem State.setReg_dram (s : State) (a : Nat) (v : Word) : (s.setReg a v).dram = s.dram := rfl
@[simp] theorem State.setReg_mbx (s : State) (a : Nat) (v : Word) : (s.setReg a v).mbx = s.mbx := rfl
@[simp] theorem State.setReg_mbxRec (s : State) (a : Nat) (v : Word) : (s.setReg a v).mbxRec = s.mbxRec := rfl
@[simp] theorem State.setReg_mp (s : State) (a : Nat) (v : Word) : (s.setReg a v).mp = s.mp := rfl
@[simp] theorem State.setReg_bc (s : State) (a : Nat) (v : Word) : (s.setReg a v).bc = s.bc := rfl
@[simp] theorem State.setReg_pba (s : State) (a : Nat) (v : Word) : (s.setReg a v).pba = s.pba := rfl
@[simp] theorem State.setReg_therm (s : State) (a : Nat) (v : Word) : (s.setReg a v).therm = s.therm := rfl
@[simp] theorem State.setReg_cal (s : State) (a : Nat) (v : Word) : (s.setReg a v).cal = s.cal := rfl
@[simp] theorem State.setReg_nvmMem (s : State) (a : Nat) (v : Word) : (s.setReg a v).nvmMem = s.nvmMem := rfl
@[simp] theorem State.setReg_nvm (s : State) (a : Nat) (v : Word) : (s.setReg a v).nvm = s.nvm := rfl
@[simp] theorem State.setReg_eth (s : State) (a : Nat) (v : Word) : (s.setReg a v).eth = s.eth := rfl
@[simp] theorem State.setReg_can (s : State) (a : Nat) (v : Word) : (s.setReg a v).can = s.can := rfl
@[simp] theorem State.setReg_stor (s : State) (a : Nat) (v : Word) : (s.setReg a v).stor = s.stor := rfl
@[simp] theorem State.setReg_bulk (s : State) (a : Nat) (v : Word) : (s.setReg a v).bulk = s.bulk := rfl
@[simp] theorem State.setReg_content (s : State) (a : Nat) (v : Word) : (s.setReg a v).content = s.content := rfl
@[simp] theorem State.setReg_sec (s : State) (a : Nat) (v : Word) : (s.setReg a v).sec = s.sec := rfl
@[simp] theorem State.setReg_icpCur (s : State) (a : Nat) (v : Word) : (s.setReg a v).icpCur = s.icpCur := rfl
@[simp] theorem State.setReg_hspi (s : State) (a : Nat) (v : Word) : (s.setReg a v).hspi = s.hspi := rfl
@[simp] theorem State.setReg_pending (s : State) (a : Nat) (v : Word) : (s.setReg a v).pending = s.pending := rfl

@[simp] theorem State.setInfReg_now (s : State) (a : Nat) (v : Word) : (s.setInfReg a v).now = s.now := rfl
@[simp] theorem State.setInfReg_pkg (s : State) (a : Nat) (v : Word) : (s.setInfReg a v).pkg = s.pkg := rfl
@[simp] theorem State.setInfReg_fresh (s : State) (a : Nat) (v : Word) : (s.setInfReg a v).fresh = s.fresh := rfl
@[simp] theorem State.setInfReg_out (s : State) (a : Nat) (v : Word) : (s.setInfReg a v).out = s.out := rfl
@[simp] theorem State.setInfReg_regs (s : State) (a : Nat) (v : Word) : (s.setInfReg a v).regs = s.regs := rfl
@[simp] theorem State.setInfReg_held (s : State) (a : Nat) (v : Word) : (s.setInfReg a v).held = s.held := rfl
@[simp] theorem State.setInfReg_pulses (s : State) (a : Nat) (v : Word) : (s.setInfReg a v).pulses = s.pulses := rfl
@[simp] theorem State.setInfReg_recent (s : State) (a : Nat) (v : Word) : (s.setInfReg a v).recent = s.recent := rfl
@[simp] theorem State.setInfReg_conds (s : State) (a : Nat) (v : Word) : (s.setInfReg a v).conds = s.conds := rfl
@[simp] theorem State.setInfReg_stampSec (s : State) (a : Nat) (v : Word) : (s.setInfReg a v).stampSec = s.stampSec := rfl
@[simp] theorem State.setInfReg_tcm (s : State) (a : Nat) (v : Word) : (s.setInfReg a v).tcm = s.tcm := rfl
@[simp] theorem State.setInfReg_fsram (s : State) (a : Nat) (v : Word) : (s.setInfReg a v).fsram = s.fsram := rfl
@[simp] theorem State.setInfReg_cmp (s : State) (a : Nat) (v : Word) : (s.setInfReg a v).cmp = s.cmp := rfl
@[simp] theorem State.setInfReg_ims (s : State) (a : Nat) (v : Word) : (s.setInfReg a v).ims = s.ims := rfl
@[simp] theorem State.setInfReg_commits (s : State) (a : Nat) (v : Word) : (s.setInfReg a v).commits = s.commits := rfl
@[simp] theorem State.setInfReg_eng (s : State) (a : Nat) (v : Word) : (s.setInfReg a v).eng = s.eng := rfl
@[simp] theorem State.setInfReg_grd (s : State) (a : Nat) (v : Word) : (s.setInfReg a v).grd = s.grd := rfl
@[simp] theorem State.setInfReg_planAt (s : State) (a : Nat) (v : Word) : (s.setInfReg a v).planAt = s.planAt := rfl
@[simp] theorem State.setInfReg_ltn (s : State) (a : Nat) (v : Word) : (s.setInfReg a v).ltn = s.ltn := rfl
@[simp] theorem State.setInfReg_sxl (s : State) (a : Nat) (v : Word) : (s.setInfReg a v).sxl = s.sxl := rfl
@[simp] theorem State.setInfReg_scn (s : State) (a : Nat) (v : Word) : (s.setInfReg a v).scn = s.scn := rfl
@[simp] theorem State.setInfReg_np (s : State) (a : Nat) (v : Word) : (s.setInfReg a v).np = s.np := rfl
@[simp] theorem State.setInfReg_keeper (s : State) (a : Nat) (v : Word) : (s.setInfReg a v).keeper = s.keeper := rfl
@[simp] theorem State.setInfReg_mx (s : State) (a : Nat) (v : Word) : (s.setInfReg a v).mx = s.mx := rfl
@[simp] theorem State.setInfReg_clock (s : State) (a : Nat) (v : Word) : (s.setInfReg a v).clock = s.clock := rfl
@[simp] theorem State.setInfReg_sched (s : State) (a : Nat) (v : Word) : (s.setInfReg a v).sched = s.sched := rfl
@[simp] theorem State.setInfReg_schedOld (s : State) (a : Nat) (v : Word) : (s.setInfReg a v).schedOld = s.schedOld := rfl
@[simp] theorem State.setInfReg_schedAt (s : State) (a : Nat) (v : Word) : (s.setInfReg a v).schedAt = s.schedAt := rfl
@[simp] theorem State.setInfReg_schedBusy (s : State) (a : Nat) (v : Word) : (s.setInfReg a v).schedBusy = s.schedBusy := rfl
@[simp] theorem State.setInfReg_dmcs (s : State) (a : Nat) (v : Word) : (s.setInfReg a v).dmcs = s.dmcs := rfl
@[simp] theorem State.setInfReg_dram (s : State) (a : Nat) (v : Word) : (s.setInfReg a v).dram = s.dram := rfl
@[simp] theorem State.setInfReg_mbx (s : State) (a : Nat) (v : Word) : (s.setInfReg a v).mbx = s.mbx := rfl
@[simp] theorem State.setInfReg_mbxRec (s : State) (a : Nat) (v : Word) : (s.setInfReg a v).mbxRec = s.mbxRec := rfl
@[simp] theorem State.setInfReg_mp (s : State) (a : Nat) (v : Word) : (s.setInfReg a v).mp = s.mp := rfl
@[simp] theorem State.setInfReg_bc (s : State) (a : Nat) (v : Word) : (s.setInfReg a v).bc = s.bc := rfl
@[simp] theorem State.setInfReg_pba (s : State) (a : Nat) (v : Word) : (s.setInfReg a v).pba = s.pba := rfl
@[simp] theorem State.setInfReg_therm (s : State) (a : Nat) (v : Word) : (s.setInfReg a v).therm = s.therm := rfl
@[simp] theorem State.setInfReg_cal (s : State) (a : Nat) (v : Word) : (s.setInfReg a v).cal = s.cal := rfl
@[simp] theorem State.setInfReg_nvmMem (s : State) (a : Nat) (v : Word) : (s.setInfReg a v).nvmMem = s.nvmMem := rfl
@[simp] theorem State.setInfReg_nvm (s : State) (a : Nat) (v : Word) : (s.setInfReg a v).nvm = s.nvm := rfl
@[simp] theorem State.setInfReg_eth (s : State) (a : Nat) (v : Word) : (s.setInfReg a v).eth = s.eth := rfl
@[simp] theorem State.setInfReg_can (s : State) (a : Nat) (v : Word) : (s.setInfReg a v).can = s.can := rfl
@[simp] theorem State.setInfReg_stor (s : State) (a : Nat) (v : Word) : (s.setInfReg a v).stor = s.stor := rfl
@[simp] theorem State.setInfReg_bulk (s : State) (a : Nat) (v : Word) : (s.setInfReg a v).bulk = s.bulk := rfl
@[simp] theorem State.setInfReg_content (s : State) (a : Nat) (v : Word) : (s.setInfReg a v).content = s.content := rfl
@[simp] theorem State.setInfReg_sec (s : State) (a : Nat) (v : Word) : (s.setInfReg a v).sec = s.sec := rfl
@[simp] theorem State.setInfReg_icpCur (s : State) (a : Nat) (v : Word) : (s.setInfReg a v).icpCur = s.icpCur := rfl
@[simp] theorem State.setInfReg_hspi (s : State) (a : Nat) (v : Word) : (s.setInfReg a v).hspi = s.hspi := rfl
@[simp] theorem State.setInfReg_pending (s : State) (a : Nat) (v : Word) : (s.setInfReg a v).pending = s.pending := rfl

@[simp] theorem State.put_now (s : State) (p : Page) (f : RF) (x : Nat) : (s.put p f x).now = s.now := rfl
@[simp] theorem State.put_pkg (s : State) (p : Page) (f : RF) (x : Nat) : (s.put p f x).pkg = s.pkg := rfl
@[simp] theorem State.put_fresh (s : State) (p : Page) (f : RF) (x : Nat) : (s.put p f x).fresh = s.fresh := rfl
@[simp] theorem State.put_out (s : State) (p : Page) (f : RF) (x : Nat) : (s.put p f x).out = s.out := rfl
@[simp] theorem State.put_inForce (s : State) (p : Page) (f : RF) (x : Nat) : (s.put p f x).inForce = s.inForce := rfl
@[simp] theorem State.put_held (s : State) (p : Page) (f : RF) (x : Nat) : (s.put p f x).held = s.held := rfl
@[simp] theorem State.put_pulses (s : State) (p : Page) (f : RF) (x : Nat) : (s.put p f x).pulses = s.pulses := rfl
@[simp] theorem State.put_recent (s : State) (p : Page) (f : RF) (x : Nat) : (s.put p f x).recent = s.recent := rfl
@[simp] theorem State.put_conds (s : State) (p : Page) (f : RF) (x : Nat) : (s.put p f x).conds = s.conds := rfl
@[simp] theorem State.put_stampSec (s : State) (p : Page) (f : RF) (x : Nat) : (s.put p f x).stampSec = s.stampSec := rfl
@[simp] theorem State.put_tcm (s : State) (p : Page) (f : RF) (x : Nat) : (s.put p f x).tcm = s.tcm := rfl
@[simp] theorem State.put_fsram (s : State) (p : Page) (f : RF) (x : Nat) : (s.put p f x).fsram = s.fsram := rfl
@[simp] theorem State.put_cmp (s : State) (p : Page) (f : RF) (x : Nat) : (s.put p f x).cmp = s.cmp := rfl
@[simp] theorem State.put_ims (s : State) (p : Page) (f : RF) (x : Nat) : (s.put p f x).ims = s.ims := rfl
@[simp] theorem State.put_commits (s : State) (p : Page) (f : RF) (x : Nat) : (s.put p f x).commits = s.commits := rfl
@[simp] theorem State.put_eng (s : State) (p : Page) (f : RF) (x : Nat) : (s.put p f x).eng = s.eng := rfl
@[simp] theorem State.put_grd (s : State) (p : Page) (f : RF) (x : Nat) : (s.put p f x).grd = s.grd := rfl
@[simp] theorem State.put_planAt (s : State) (p : Page) (f : RF) (x : Nat) : (s.put p f x).planAt = s.planAt := rfl
@[simp] theorem State.put_ltn (s : State) (p : Page) (f : RF) (x : Nat) : (s.put p f x).ltn = s.ltn := rfl
@[simp] theorem State.put_sxl (s : State) (p : Page) (f : RF) (x : Nat) : (s.put p f x).sxl = s.sxl := rfl
@[simp] theorem State.put_scn (s : State) (p : Page) (f : RF) (x : Nat) : (s.put p f x).scn = s.scn := rfl
@[simp] theorem State.put_np (s : State) (p : Page) (f : RF) (x : Nat) : (s.put p f x).np = s.np := rfl
@[simp] theorem State.put_keeper (s : State) (p : Page) (f : RF) (x : Nat) : (s.put p f x).keeper = s.keeper := rfl
@[simp] theorem State.put_mx (s : State) (p : Page) (f : RF) (x : Nat) : (s.put p f x).mx = s.mx := rfl
@[simp] theorem State.put_clock (s : State) (p : Page) (f : RF) (x : Nat) : (s.put p f x).clock = s.clock := rfl
@[simp] theorem State.put_sched (s : State) (p : Page) (f : RF) (x : Nat) : (s.put p f x).sched = s.sched := rfl
@[simp] theorem State.put_schedOld (s : State) (p : Page) (f : RF) (x : Nat) : (s.put p f x).schedOld = s.schedOld := rfl
@[simp] theorem State.put_schedAt (s : State) (p : Page) (f : RF) (x : Nat) : (s.put p f x).schedAt = s.schedAt := rfl
@[simp] theorem State.put_schedBusy (s : State) (p : Page) (f : RF) (x : Nat) : (s.put p f x).schedBusy = s.schedBusy := rfl
@[simp] theorem State.put_dmcs (s : State) (p : Page) (f : RF) (x : Nat) : (s.put p f x).dmcs = s.dmcs := rfl
@[simp] theorem State.put_dram (s : State) (p : Page) (f : RF) (x : Nat) : (s.put p f x).dram = s.dram := rfl
@[simp] theorem State.put_mbx (s : State) (p : Page) (f : RF) (x : Nat) : (s.put p f x).mbx = s.mbx := rfl
@[simp] theorem State.put_mbxRec (s : State) (p : Page) (f : RF) (x : Nat) : (s.put p f x).mbxRec = s.mbxRec := rfl
@[simp] theorem State.put_mp (s : State) (p : Page) (f : RF) (x : Nat) : (s.put p f x).mp = s.mp := rfl
@[simp] theorem State.put_bc (s : State) (p : Page) (f : RF) (x : Nat) : (s.put p f x).bc = s.bc := rfl
@[simp] theorem State.put_pba (s : State) (p : Page) (f : RF) (x : Nat) : (s.put p f x).pba = s.pba := rfl
@[simp] theorem State.put_therm (s : State) (p : Page) (f : RF) (x : Nat) : (s.put p f x).therm = s.therm := rfl
@[simp] theorem State.put_cal (s : State) (p : Page) (f : RF) (x : Nat) : (s.put p f x).cal = s.cal := rfl
@[simp] theorem State.put_nvmMem (s : State) (p : Page) (f : RF) (x : Nat) : (s.put p f x).nvmMem = s.nvmMem := rfl
@[simp] theorem State.put_nvm (s : State) (p : Page) (f : RF) (x : Nat) : (s.put p f x).nvm = s.nvm := rfl
@[simp] theorem State.put_eth (s : State) (p : Page) (f : RF) (x : Nat) : (s.put p f x).eth = s.eth := rfl
@[simp] theorem State.put_can (s : State) (p : Page) (f : RF) (x : Nat) : (s.put p f x).can = s.can := rfl
@[simp] theorem State.put_stor (s : State) (p : Page) (f : RF) (x : Nat) : (s.put p f x).stor = s.stor := rfl
@[simp] theorem State.put_bulk (s : State) (p : Page) (f : RF) (x : Nat) : (s.put p f x).bulk = s.bulk := rfl
@[simp] theorem State.put_content (s : State) (p : Page) (f : RF) (x : Nat) : (s.put p f x).content = s.content := rfl
@[simp] theorem State.put_sec (s : State) (p : Page) (f : RF) (x : Nat) : (s.put p f x).sec = s.sec := rfl
@[simp] theorem State.put_icpCur (s : State) (p : Page) (f : RF) (x : Nat) : (s.put p f x).icpCur = s.icpCur := rfl
@[simp] theorem State.put_hspi (s : State) (p : Page) (f : RF) (x : Nat) : (s.put p f x).hspi = s.hspi := rfl
@[simp] theorem State.put_pending (s : State) (p : Page) (f : RF) (x : Nat) : (s.put p f x).pending = s.pending := rfl

@[simp] theorem State.note_now (s : State) (p : Page) (f : RF) (x : Nat) : (s.note p f x).now = s.now := rfl
@[simp] theorem State.note_pkg (s : State) (p : Page) (f : RF) (x : Nat) : (s.note p f x).pkg = s.pkg := rfl
@[simp] theorem State.note_fresh (s : State) (p : Page) (f : RF) (x : Nat) : (s.note p f x).fresh = s.fresh := rfl
@[simp] theorem State.note_out (s : State) (p : Page) (f : RF) (x : Nat) : (s.note p f x).out = s.out := rfl
@[simp] theorem State.note_regs (s : State) (p : Page) (f : RF) (x : Nat) : (s.note p f x).regs = s.regs := rfl
@[simp] theorem State.note_inForce (s : State) (p : Page) (f : RF) (x : Nat) : (s.note p f x).inForce = s.inForce := rfl
@[simp] theorem State.note_held (s : State) (p : Page) (f : RF) (x : Nat) : (s.note p f x).held = s.held := rfl
@[simp] theorem State.note_pulses (s : State) (p : Page) (f : RF) (x : Nat) : (s.note p f x).pulses = s.pulses := rfl
@[simp] theorem State.note_conds (s : State) (p : Page) (f : RF) (x : Nat) : (s.note p f x).conds = s.conds := rfl
@[simp] theorem State.note_stampSec (s : State) (p : Page) (f : RF) (x : Nat) : (s.note p f x).stampSec = s.stampSec := rfl
@[simp] theorem State.note_tcm (s : State) (p : Page) (f : RF) (x : Nat) : (s.note p f x).tcm = s.tcm := rfl
@[simp] theorem State.note_fsram (s : State) (p : Page) (f : RF) (x : Nat) : (s.note p f x).fsram = s.fsram := rfl
@[simp] theorem State.note_cmp (s : State) (p : Page) (f : RF) (x : Nat) : (s.note p f x).cmp = s.cmp := rfl
@[simp] theorem State.note_ims (s : State) (p : Page) (f : RF) (x : Nat) : (s.note p f x).ims = s.ims := rfl
@[simp] theorem State.note_commits (s : State) (p : Page) (f : RF) (x : Nat) : (s.note p f x).commits = s.commits := rfl
@[simp] theorem State.note_eng (s : State) (p : Page) (f : RF) (x : Nat) : (s.note p f x).eng = s.eng := rfl
@[simp] theorem State.note_grd (s : State) (p : Page) (f : RF) (x : Nat) : (s.note p f x).grd = s.grd := rfl
@[simp] theorem State.note_planAt (s : State) (p : Page) (f : RF) (x : Nat) : (s.note p f x).planAt = s.planAt := rfl
@[simp] theorem State.note_ltn (s : State) (p : Page) (f : RF) (x : Nat) : (s.note p f x).ltn = s.ltn := rfl
@[simp] theorem State.note_sxl (s : State) (p : Page) (f : RF) (x : Nat) : (s.note p f x).sxl = s.sxl := rfl
@[simp] theorem State.note_scn (s : State) (p : Page) (f : RF) (x : Nat) : (s.note p f x).scn = s.scn := rfl
@[simp] theorem State.note_np (s : State) (p : Page) (f : RF) (x : Nat) : (s.note p f x).np = s.np := rfl
@[simp] theorem State.note_keeper (s : State) (p : Page) (f : RF) (x : Nat) : (s.note p f x).keeper = s.keeper := rfl
@[simp] theorem State.note_mx (s : State) (p : Page) (f : RF) (x : Nat) : (s.note p f x).mx = s.mx := rfl
@[simp] theorem State.note_clock (s : State) (p : Page) (f : RF) (x : Nat) : (s.note p f x).clock = s.clock := rfl
@[simp] theorem State.note_sched (s : State) (p : Page) (f : RF) (x : Nat) : (s.note p f x).sched = s.sched := rfl
@[simp] theorem State.note_schedOld (s : State) (p : Page) (f : RF) (x : Nat) : (s.note p f x).schedOld = s.schedOld := rfl
@[simp] theorem State.note_schedAt (s : State) (p : Page) (f : RF) (x : Nat) : (s.note p f x).schedAt = s.schedAt := rfl
@[simp] theorem State.note_schedBusy (s : State) (p : Page) (f : RF) (x : Nat) : (s.note p f x).schedBusy = s.schedBusy := rfl
@[simp] theorem State.note_dmcs (s : State) (p : Page) (f : RF) (x : Nat) : (s.note p f x).dmcs = s.dmcs := rfl
@[simp] theorem State.note_dram (s : State) (p : Page) (f : RF) (x : Nat) : (s.note p f x).dram = s.dram := rfl
@[simp] theorem State.note_mbx (s : State) (p : Page) (f : RF) (x : Nat) : (s.note p f x).mbx = s.mbx := rfl
@[simp] theorem State.note_mbxRec (s : State) (p : Page) (f : RF) (x : Nat) : (s.note p f x).mbxRec = s.mbxRec := rfl
@[simp] theorem State.note_mp (s : State) (p : Page) (f : RF) (x : Nat) : (s.note p f x).mp = s.mp := rfl
@[simp] theorem State.note_bc (s : State) (p : Page) (f : RF) (x : Nat) : (s.note p f x).bc = s.bc := rfl
@[simp] theorem State.note_pba (s : State) (p : Page) (f : RF) (x : Nat) : (s.note p f x).pba = s.pba := rfl
@[simp] theorem State.note_therm (s : State) (p : Page) (f : RF) (x : Nat) : (s.note p f x).therm = s.therm := rfl
@[simp] theorem State.note_cal (s : State) (p : Page) (f : RF) (x : Nat) : (s.note p f x).cal = s.cal := rfl
@[simp] theorem State.note_nvmMem (s : State) (p : Page) (f : RF) (x : Nat) : (s.note p f x).nvmMem = s.nvmMem := rfl
@[simp] theorem State.note_nvm (s : State) (p : Page) (f : RF) (x : Nat) : (s.note p f x).nvm = s.nvm := rfl
@[simp] theorem State.note_eth (s : State) (p : Page) (f : RF) (x : Nat) : (s.note p f x).eth = s.eth := rfl
@[simp] theorem State.note_can (s : State) (p : Page) (f : RF) (x : Nat) : (s.note p f x).can = s.can := rfl
@[simp] theorem State.note_stor (s : State) (p : Page) (f : RF) (x : Nat) : (s.note p f x).stor = s.stor := rfl
@[simp] theorem State.note_bulk (s : State) (p : Page) (f : RF) (x : Nat) : (s.note p f x).bulk = s.bulk := rfl
@[simp] theorem State.note_content (s : State) (p : Page) (f : RF) (x : Nat) : (s.note p f x).content = s.content := rfl
@[simp] theorem State.note_sec (s : State) (p : Page) (f : RF) (x : Nat) : (s.note p f x).sec = s.sec := rfl
@[simp] theorem State.note_icpCur (s : State) (p : Page) (f : RF) (x : Nat) : (s.note p f x).icpCur = s.icpCur := rfl
@[simp] theorem State.note_hspi (s : State) (p : Page) (f : RF) (x : Nat) : (s.note p f x).hspi = s.hspi := rfl
@[simp] theorem State.note_pending (s : State) (p : Page) (f : RF) (x : Nat) : (s.note p f x).pending = s.pending := rfl

@[simp] theorem State.putInf_now (s : State) (p : Page) (f : RF) (x : Nat) : (s.putInf p f x).now = s.now := rfl
@[simp] theorem State.putInf_pkg (s : State) (p : Page) (f : RF) (x : Nat) : (s.putInf p f x).pkg = s.pkg := rfl
@[simp] theorem State.putInf_fresh (s : State) (p : Page) (f : RF) (x : Nat) : (s.putInf p f x).fresh = s.fresh := rfl
@[simp] theorem State.putInf_out (s : State) (p : Page) (f : RF) (x : Nat) : (s.putInf p f x).out = s.out := rfl
@[simp] theorem State.putInf_regs (s : State) (p : Page) (f : RF) (x : Nat) : (s.putInf p f x).regs = s.regs := rfl
@[simp] theorem State.putInf_held (s : State) (p : Page) (f : RF) (x : Nat) : (s.putInf p f x).held = s.held := rfl
@[simp] theorem State.putInf_pulses (s : State) (p : Page) (f : RF) (x : Nat) : (s.putInf p f x).pulses = s.pulses := rfl
@[simp] theorem State.putInf_recent (s : State) (p : Page) (f : RF) (x : Nat) : (s.putInf p f x).recent = s.recent := rfl
@[simp] theorem State.putInf_conds (s : State) (p : Page) (f : RF) (x : Nat) : (s.putInf p f x).conds = s.conds := rfl
@[simp] theorem State.putInf_stampSec (s : State) (p : Page) (f : RF) (x : Nat) : (s.putInf p f x).stampSec = s.stampSec := rfl
@[simp] theorem State.putInf_tcm (s : State) (p : Page) (f : RF) (x : Nat) : (s.putInf p f x).tcm = s.tcm := rfl
@[simp] theorem State.putInf_fsram (s : State) (p : Page) (f : RF) (x : Nat) : (s.putInf p f x).fsram = s.fsram := rfl
@[simp] theorem State.putInf_cmp (s : State) (p : Page) (f : RF) (x : Nat) : (s.putInf p f x).cmp = s.cmp := rfl
@[simp] theorem State.putInf_ims (s : State) (p : Page) (f : RF) (x : Nat) : (s.putInf p f x).ims = s.ims := rfl
@[simp] theorem State.putInf_commits (s : State) (p : Page) (f : RF) (x : Nat) : (s.putInf p f x).commits = s.commits := rfl
@[simp] theorem State.putInf_eng (s : State) (p : Page) (f : RF) (x : Nat) : (s.putInf p f x).eng = s.eng := rfl
@[simp] theorem State.putInf_grd (s : State) (p : Page) (f : RF) (x : Nat) : (s.putInf p f x).grd = s.grd := rfl
@[simp] theorem State.putInf_planAt (s : State) (p : Page) (f : RF) (x : Nat) : (s.putInf p f x).planAt = s.planAt := rfl
@[simp] theorem State.putInf_ltn (s : State) (p : Page) (f : RF) (x : Nat) : (s.putInf p f x).ltn = s.ltn := rfl
@[simp] theorem State.putInf_sxl (s : State) (p : Page) (f : RF) (x : Nat) : (s.putInf p f x).sxl = s.sxl := rfl
@[simp] theorem State.putInf_scn (s : State) (p : Page) (f : RF) (x : Nat) : (s.putInf p f x).scn = s.scn := rfl
@[simp] theorem State.putInf_np (s : State) (p : Page) (f : RF) (x : Nat) : (s.putInf p f x).np = s.np := rfl
@[simp] theorem State.putInf_keeper (s : State) (p : Page) (f : RF) (x : Nat) : (s.putInf p f x).keeper = s.keeper := rfl
@[simp] theorem State.putInf_mx (s : State) (p : Page) (f : RF) (x : Nat) : (s.putInf p f x).mx = s.mx := rfl
@[simp] theorem State.putInf_clock (s : State) (p : Page) (f : RF) (x : Nat) : (s.putInf p f x).clock = s.clock := rfl
@[simp] theorem State.putInf_sched (s : State) (p : Page) (f : RF) (x : Nat) : (s.putInf p f x).sched = s.sched := rfl
@[simp] theorem State.putInf_schedOld (s : State) (p : Page) (f : RF) (x : Nat) : (s.putInf p f x).schedOld = s.schedOld := rfl
@[simp] theorem State.putInf_schedAt (s : State) (p : Page) (f : RF) (x : Nat) : (s.putInf p f x).schedAt = s.schedAt := rfl
@[simp] theorem State.putInf_schedBusy (s : State) (p : Page) (f : RF) (x : Nat) : (s.putInf p f x).schedBusy = s.schedBusy := rfl
@[simp] theorem State.putInf_dmcs (s : State) (p : Page) (f : RF) (x : Nat) : (s.putInf p f x).dmcs = s.dmcs := rfl
@[simp] theorem State.putInf_dram (s : State) (p : Page) (f : RF) (x : Nat) : (s.putInf p f x).dram = s.dram := rfl
@[simp] theorem State.putInf_mbx (s : State) (p : Page) (f : RF) (x : Nat) : (s.putInf p f x).mbx = s.mbx := rfl
@[simp] theorem State.putInf_mbxRec (s : State) (p : Page) (f : RF) (x : Nat) : (s.putInf p f x).mbxRec = s.mbxRec := rfl
@[simp] theorem State.putInf_mp (s : State) (p : Page) (f : RF) (x : Nat) : (s.putInf p f x).mp = s.mp := rfl
@[simp] theorem State.putInf_bc (s : State) (p : Page) (f : RF) (x : Nat) : (s.putInf p f x).bc = s.bc := rfl
@[simp] theorem State.putInf_pba (s : State) (p : Page) (f : RF) (x : Nat) : (s.putInf p f x).pba = s.pba := rfl
@[simp] theorem State.putInf_therm (s : State) (p : Page) (f : RF) (x : Nat) : (s.putInf p f x).therm = s.therm := rfl
@[simp] theorem State.putInf_cal (s : State) (p : Page) (f : RF) (x : Nat) : (s.putInf p f x).cal = s.cal := rfl
@[simp] theorem State.putInf_nvmMem (s : State) (p : Page) (f : RF) (x : Nat) : (s.putInf p f x).nvmMem = s.nvmMem := rfl
@[simp] theorem State.putInf_nvm (s : State) (p : Page) (f : RF) (x : Nat) : (s.putInf p f x).nvm = s.nvm := rfl
@[simp] theorem State.putInf_eth (s : State) (p : Page) (f : RF) (x : Nat) : (s.putInf p f x).eth = s.eth := rfl
@[simp] theorem State.putInf_can (s : State) (p : Page) (f : RF) (x : Nat) : (s.putInf p f x).can = s.can := rfl
@[simp] theorem State.putInf_stor (s : State) (p : Page) (f : RF) (x : Nat) : (s.putInf p f x).stor = s.stor := rfl
@[simp] theorem State.putInf_bulk (s : State) (p : Page) (f : RF) (x : Nat) : (s.putInf p f x).bulk = s.bulk := rfl
@[simp] theorem State.putInf_content (s : State) (p : Page) (f : RF) (x : Nat) : (s.putInf p f x).content = s.content := rfl
@[simp] theorem State.putInf_sec (s : State) (p : Page) (f : RF) (x : Nat) : (s.putInf p f x).sec = s.sec := rfl
@[simp] theorem State.putInf_icpCur (s : State) (p : Page) (f : RF) (x : Nat) : (s.putInf p f x).icpCur = s.icpCur := rfl
@[simp] theorem State.putInf_hspi (s : State) (p : Page) (f : RF) (x : Nat) : (s.putInf p f x).hspi = s.hspi := rfl
@[simp] theorem State.putInf_pending (s : State) (p : Page) (f : RF) (x : Nat) : (s.putInf p f x).pending = s.pending := rfl

@[simp] theorem State.note_reg (s : State) (p : Page) (f : RF) (x b : Nat) : (s.note p f x).reg b = s.reg b := rfl
@[simp] theorem State.note_infReg (s : State) (p : Page) (f : RF) (x b : Nat) : (s.note p f x).infReg b = s.infReg b := rfl
@[simp] theorem State.note_get (s : State) (p q : Page) (f g : RF) (x : Nat) : (s.note p f x).get q g = s.get q g := rfl
@[simp] theorem State.note_inf (s : State) (p q : Page) (f g : RF) (x : Nat) : (s.note p f x).inf q g = s.inf q g := rfl

/-! ### What the blocks hold behind their pages -/

@[simp] theorem State.modCmp_now (s : State) (f : Comp → Comp) : (s.modCmp f).now = s.now := rfl
@[simp] theorem State.modCmp_recent (s : State) (f : Comp → Comp) : (s.modCmp f).recent = s.recent := rfl
@[simp] theorem State.modCmp_pkg (s : State) (f : Comp → Comp) : (s.modCmp f).pkg = s.pkg := rfl
@[simp] theorem State.modCmp_out (s : State) (f : Comp → Comp) : (s.modCmp f).out = s.out := rfl
@[simp] theorem State.modCmp_regs (s : State) (f : Comp → Comp) : (s.modCmp f).regs = s.regs := rfl
@[simp] theorem State.modCmp_inForce (s : State) (f : Comp → Comp) : (s.modCmp f).inForce = s.inForce := rfl
@[simp] theorem State.modCmp_pulses (s : State) (f : Comp → Comp) : (s.modCmp f).pulses = s.pulses := rfl
@[simp] theorem State.modCmp_conds (s : State) (f : Comp → Comp) : (s.modCmp f).conds = s.conds := rfl
@[simp] theorem State.modCmp_tcm (s : State) (f : Comp → Comp) : (s.modCmp f).tcm = s.tcm := rfl
@[simp] theorem State.modCmp_fsram (s : State) (f : Comp → Comp) : (s.modCmp f).fsram = s.fsram := rfl
@[simp] theorem State.modCmp_dram (s : State) (f : Comp → Comp) : (s.modCmp f).dram = s.dram := rfl
@[simp] theorem State.modCmp_nvmMem (s : State) (f : Comp → Comp) : (s.modCmp f).nvmMem = s.nvmMem := rfl
@[simp] theorem State.modCmp_clock (s : State) (f : Comp → Comp) : (s.modCmp f).clock = s.clock := rfl
@[simp] theorem State.modCmp_mp (s : State) (f : Comp → Comp) : (s.modCmp f).mp = s.mp := rfl
@[simp] theorem State.modCmp_pending (s : State) (f : Comp → Comp) : (s.modCmp f).pending = s.pending := rfl
@[simp] theorem State.modCmp_reg (s : State) (f : Comp → Comp) (b : Nat) : (s.modCmp f).reg b = s.reg b := rfl
@[simp] theorem State.modCmp_infReg (s : State) (f : Comp → Comp) (b : Nat) : (s.modCmp f).infReg b = s.infReg b := rfl
@[simp] theorem State.modCmp_get (s : State) (f : Comp → Comp) (p : Page) (g : RF) : (s.modCmp f).get p g = s.get p g := rfl
@[simp] theorem State.modCmp_inf (s : State) (f : Comp → Comp) (p : Page) (g : RF) : (s.modCmp f).inf p g = s.inf p g := rfl
@[simp] theorem State.modCmp_cmp (s : State) (f : Comp → Comp) : (s.modCmp f).cmp = f s.cmp := rfl

@[simp] theorem State.modEng_now (s : State) (n : Fin 4) (f : Engine → Engine) : (s.modEng n f).now = s.now := rfl
@[simp] theorem State.modEng_recent (s : State) (n : Fin 4) (f : Engine → Engine) : (s.modEng n f).recent = s.recent := rfl
@[simp] theorem State.modEng_pkg (s : State) (n : Fin 4) (f : Engine → Engine) : (s.modEng n f).pkg = s.pkg := rfl
@[simp] theorem State.modEng_out (s : State) (n : Fin 4) (f : Engine → Engine) : (s.modEng n f).out = s.out := rfl
@[simp] theorem State.modEng_regs (s : State) (n : Fin 4) (f : Engine → Engine) : (s.modEng n f).regs = s.regs := rfl
@[simp] theorem State.modEng_inForce (s : State) (n : Fin 4) (f : Engine → Engine) : (s.modEng n f).inForce = s.inForce := rfl
@[simp] theorem State.modEng_pulses (s : State) (n : Fin 4) (f : Engine → Engine) : (s.modEng n f).pulses = s.pulses := rfl
@[simp] theorem State.modEng_conds (s : State) (n : Fin 4) (f : Engine → Engine) : (s.modEng n f).conds = s.conds := rfl
@[simp] theorem State.modEng_tcm (s : State) (n : Fin 4) (f : Engine → Engine) : (s.modEng n f).tcm = s.tcm := rfl
@[simp] theorem State.modEng_fsram (s : State) (n : Fin 4) (f : Engine → Engine) : (s.modEng n f).fsram = s.fsram := rfl
@[simp] theorem State.modEng_dram (s : State) (n : Fin 4) (f : Engine → Engine) : (s.modEng n f).dram = s.dram := rfl
@[simp] theorem State.modEng_nvmMem (s : State) (n : Fin 4) (f : Engine → Engine) : (s.modEng n f).nvmMem = s.nvmMem := rfl
@[simp] theorem State.modEng_clock (s : State) (n : Fin 4) (f : Engine → Engine) : (s.modEng n f).clock = s.clock := rfl
@[simp] theorem State.modEng_mp (s : State) (n : Fin 4) (f : Engine → Engine) : (s.modEng n f).mp = s.mp := rfl
@[simp] theorem State.modEng_pending (s : State) (n : Fin 4) (f : Engine → Engine) : (s.modEng n f).pending = s.pending := rfl
@[simp] theorem State.modEng_reg (s : State) (n : Fin 4) (f : Engine → Engine) (b : Nat) : (s.modEng n f).reg b = s.reg b := rfl
@[simp] theorem State.modEng_infReg (s : State) (n : Fin 4) (f : Engine → Engine) (b : Nat) : (s.modEng n f).infReg b = s.infReg b := rfl
@[simp] theorem State.modEng_get (s : State) (n : Fin 4) (f : Engine → Engine) (p : Page) (g : RF) : (s.modEng n f).get p g = s.get p g := rfl
@[simp] theorem State.modEng_inf (s : State) (n : Fin 4) (f : Engine → Engine) (p : Page) (g : RF) : (s.modEng n f).inf p g = s.inf p g := rfl
@[simp] theorem State.modEng_eng (s : State) (n : Fin 4) (f : Engine → Engine) : (s.modEng n f).eng[n] = f s.eng[n] := by
  simp [State.modEng]

@[simp] theorem State.modGrd_now (s : State) (n : Fin 4) (f : Grinder → Grinder) : (s.modGrd n f).now = s.now := rfl
@[simp] theorem State.modGrd_recent (s : State) (n : Fin 4) (f : Grinder → Grinder) : (s.modGrd n f).recent = s.recent := rfl
@[simp] theorem State.modGrd_pkg (s : State) (n : Fin 4) (f : Grinder → Grinder) : (s.modGrd n f).pkg = s.pkg := rfl
@[simp] theorem State.modGrd_out (s : State) (n : Fin 4) (f : Grinder → Grinder) : (s.modGrd n f).out = s.out := rfl
@[simp] theorem State.modGrd_regs (s : State) (n : Fin 4) (f : Grinder → Grinder) : (s.modGrd n f).regs = s.regs := rfl
@[simp] theorem State.modGrd_inForce (s : State) (n : Fin 4) (f : Grinder → Grinder) : (s.modGrd n f).inForce = s.inForce := rfl
@[simp] theorem State.modGrd_pulses (s : State) (n : Fin 4) (f : Grinder → Grinder) : (s.modGrd n f).pulses = s.pulses := rfl
@[simp] theorem State.modGrd_conds (s : State) (n : Fin 4) (f : Grinder → Grinder) : (s.modGrd n f).conds = s.conds := rfl
@[simp] theorem State.modGrd_tcm (s : State) (n : Fin 4) (f : Grinder → Grinder) : (s.modGrd n f).tcm = s.tcm := rfl
@[simp] theorem State.modGrd_fsram (s : State) (n : Fin 4) (f : Grinder → Grinder) : (s.modGrd n f).fsram = s.fsram := rfl
@[simp] theorem State.modGrd_dram (s : State) (n : Fin 4) (f : Grinder → Grinder) : (s.modGrd n f).dram = s.dram := rfl
@[simp] theorem State.modGrd_nvmMem (s : State) (n : Fin 4) (f : Grinder → Grinder) : (s.modGrd n f).nvmMem = s.nvmMem := rfl
@[simp] theorem State.modGrd_clock (s : State) (n : Fin 4) (f : Grinder → Grinder) : (s.modGrd n f).clock = s.clock := rfl
@[simp] theorem State.modGrd_mp (s : State) (n : Fin 4) (f : Grinder → Grinder) : (s.modGrd n f).mp = s.mp := rfl
@[simp] theorem State.modGrd_pending (s : State) (n : Fin 4) (f : Grinder → Grinder) : (s.modGrd n f).pending = s.pending := rfl
@[simp] theorem State.modGrd_reg (s : State) (n : Fin 4) (f : Grinder → Grinder) (b : Nat) : (s.modGrd n f).reg b = s.reg b := rfl
@[simp] theorem State.modGrd_infReg (s : State) (n : Fin 4) (f : Grinder → Grinder) (b : Nat) : (s.modGrd n f).infReg b = s.infReg b := rfl
@[simp] theorem State.modGrd_get (s : State) (n : Fin 4) (f : Grinder → Grinder) (p : Page) (g : RF) : (s.modGrd n f).get p g = s.get p g := rfl
@[simp] theorem State.modGrd_inf (s : State) (n : Fin 4) (f : Grinder → Grinder) (p : Page) (g : RF) : (s.modGrd n f).inf p g = s.inf p g := rfl
@[simp] theorem State.modGrd_grd (s : State) (n : Fin 4) (f : Grinder → Grinder) : (s.modGrd n f).grd[n] = f s.grd[n] := by
  simp [State.modGrd]

@[simp] theorem State.modLtn_now (s : State) (x : Fin 6) (f : Lantern → Lantern) : (s.modLtn x f).now = s.now := rfl
@[simp] theorem State.modLtn_recent (s : State) (x : Fin 6) (f : Lantern → Lantern) : (s.modLtn x f).recent = s.recent := rfl
@[simp] theorem State.modLtn_pkg (s : State) (x : Fin 6) (f : Lantern → Lantern) : (s.modLtn x f).pkg = s.pkg := rfl
@[simp] theorem State.modLtn_out (s : State) (x : Fin 6) (f : Lantern → Lantern) : (s.modLtn x f).out = s.out := rfl
@[simp] theorem State.modLtn_regs (s : State) (x : Fin 6) (f : Lantern → Lantern) : (s.modLtn x f).regs = s.regs := rfl
@[simp] theorem State.modLtn_inForce (s : State) (x : Fin 6) (f : Lantern → Lantern) : (s.modLtn x f).inForce = s.inForce := rfl
@[simp] theorem State.modLtn_pulses (s : State) (x : Fin 6) (f : Lantern → Lantern) : (s.modLtn x f).pulses = s.pulses := rfl
@[simp] theorem State.modLtn_conds (s : State) (x : Fin 6) (f : Lantern → Lantern) : (s.modLtn x f).conds = s.conds := rfl
@[simp] theorem State.modLtn_tcm (s : State) (x : Fin 6) (f : Lantern → Lantern) : (s.modLtn x f).tcm = s.tcm := rfl
@[simp] theorem State.modLtn_fsram (s : State) (x : Fin 6) (f : Lantern → Lantern) : (s.modLtn x f).fsram = s.fsram := rfl
@[simp] theorem State.modLtn_dram (s : State) (x : Fin 6) (f : Lantern → Lantern) : (s.modLtn x f).dram = s.dram := rfl
@[simp] theorem State.modLtn_nvmMem (s : State) (x : Fin 6) (f : Lantern → Lantern) : (s.modLtn x f).nvmMem = s.nvmMem := rfl
@[simp] theorem State.modLtn_clock (s : State) (x : Fin 6) (f : Lantern → Lantern) : (s.modLtn x f).clock = s.clock := rfl
@[simp] theorem State.modLtn_mp (s : State) (x : Fin 6) (f : Lantern → Lantern) : (s.modLtn x f).mp = s.mp := rfl
@[simp] theorem State.modLtn_pending (s : State) (x : Fin 6) (f : Lantern → Lantern) : (s.modLtn x f).pending = s.pending := rfl
@[simp] theorem State.modLtn_reg (s : State) (x : Fin 6) (f : Lantern → Lantern) (b : Nat) : (s.modLtn x f).reg b = s.reg b := rfl
@[simp] theorem State.modLtn_infReg (s : State) (x : Fin 6) (f : Lantern → Lantern) (b : Nat) : (s.modLtn x f).infReg b = s.infReg b := rfl
@[simp] theorem State.modLtn_get (s : State) (x : Fin 6) (f : Lantern → Lantern) (p : Page) (g : RF) : (s.modLtn x f).get p g = s.get p g := rfl
@[simp] theorem State.modLtn_inf (s : State) (x : Fin 6) (f : Lantern → Lantern) (p : Page) (g : RF) : (s.modLtn x f).inf p g = s.inf p g := rfl
@[simp] theorem State.modLtn_ltn (s : State) (x : Fin 6) (f : Lantern → Lantern) : (s.modLtn x f).ltn[x] = f s.ltn[x] := by
  simp [State.modLtn]

@[simp] theorem State.modSxl_now (s : State) (n : Fin 4) (f : Link → Link) : (s.modSxl n f).now = s.now := rfl
@[simp] theorem State.modSxl_recent (s : State) (n : Fin 4) (f : Link → Link) : (s.modSxl n f).recent = s.recent := rfl
@[simp] theorem State.modSxl_pkg (s : State) (n : Fin 4) (f : Link → Link) : (s.modSxl n f).pkg = s.pkg := rfl
@[simp] theorem State.modSxl_out (s : State) (n : Fin 4) (f : Link → Link) : (s.modSxl n f).out = s.out := rfl
@[simp] theorem State.modSxl_regs (s : State) (n : Fin 4) (f : Link → Link) : (s.modSxl n f).regs = s.regs := rfl
@[simp] theorem State.modSxl_inForce (s : State) (n : Fin 4) (f : Link → Link) : (s.modSxl n f).inForce = s.inForce := rfl
@[simp] theorem State.modSxl_pulses (s : State) (n : Fin 4) (f : Link → Link) : (s.modSxl n f).pulses = s.pulses := rfl
@[simp] theorem State.modSxl_conds (s : State) (n : Fin 4) (f : Link → Link) : (s.modSxl n f).conds = s.conds := rfl
@[simp] theorem State.modSxl_tcm (s : State) (n : Fin 4) (f : Link → Link) : (s.modSxl n f).tcm = s.tcm := rfl
@[simp] theorem State.modSxl_fsram (s : State) (n : Fin 4) (f : Link → Link) : (s.modSxl n f).fsram = s.fsram := rfl
@[simp] theorem State.modSxl_dram (s : State) (n : Fin 4) (f : Link → Link) : (s.modSxl n f).dram = s.dram := rfl
@[simp] theorem State.modSxl_nvmMem (s : State) (n : Fin 4) (f : Link → Link) : (s.modSxl n f).nvmMem = s.nvmMem := rfl
@[simp] theorem State.modSxl_clock (s : State) (n : Fin 4) (f : Link → Link) : (s.modSxl n f).clock = s.clock := rfl
@[simp] theorem State.modSxl_mp (s : State) (n : Fin 4) (f : Link → Link) : (s.modSxl n f).mp = s.mp := rfl
@[simp] theorem State.modSxl_pending (s : State) (n : Fin 4) (f : Link → Link) : (s.modSxl n f).pending = s.pending := rfl
@[simp] theorem State.modSxl_reg (s : State) (n : Fin 4) (f : Link → Link) (b : Nat) : (s.modSxl n f).reg b = s.reg b := rfl
@[simp] theorem State.modSxl_infReg (s : State) (n : Fin 4) (f : Link → Link) (b : Nat) : (s.modSxl n f).infReg b = s.infReg b := rfl
@[simp] theorem State.modSxl_get (s : State) (n : Fin 4) (f : Link → Link) (p : Page) (g : RF) : (s.modSxl n f).get p g = s.get p g := rfl
@[simp] theorem State.modSxl_inf (s : State) (n : Fin 4) (f : Link → Link) (p : Page) (g : RF) : (s.modSxl n f).inf p g = s.inf p g := rfl
@[simp] theorem State.modSxl_sxl (s : State) (n : Fin 4) (f : Link → Link) : (s.modSxl n f).sxl[n] = f s.sxl[n] := by
  simp [State.modSxl]

@[simp] theorem State.modScn_now (s : State) (k : Fin 2) (f : Scanner → Scanner) : (s.modScn k f).now = s.now := rfl
@[simp] theorem State.modScn_recent (s : State) (k : Fin 2) (f : Scanner → Scanner) : (s.modScn k f).recent = s.recent := rfl
@[simp] theorem State.modScn_pkg (s : State) (k : Fin 2) (f : Scanner → Scanner) : (s.modScn k f).pkg = s.pkg := rfl
@[simp] theorem State.modScn_out (s : State) (k : Fin 2) (f : Scanner → Scanner) : (s.modScn k f).out = s.out := rfl
@[simp] theorem State.modScn_regs (s : State) (k : Fin 2) (f : Scanner → Scanner) : (s.modScn k f).regs = s.regs := rfl
@[simp] theorem State.modScn_inForce (s : State) (k : Fin 2) (f : Scanner → Scanner) : (s.modScn k f).inForce = s.inForce := rfl
@[simp] theorem State.modScn_pulses (s : State) (k : Fin 2) (f : Scanner → Scanner) : (s.modScn k f).pulses = s.pulses := rfl
@[simp] theorem State.modScn_conds (s : State) (k : Fin 2) (f : Scanner → Scanner) : (s.modScn k f).conds = s.conds := rfl
@[simp] theorem State.modScn_tcm (s : State) (k : Fin 2) (f : Scanner → Scanner) : (s.modScn k f).tcm = s.tcm := rfl
@[simp] theorem State.modScn_fsram (s : State) (k : Fin 2) (f : Scanner → Scanner) : (s.modScn k f).fsram = s.fsram := rfl
@[simp] theorem State.modScn_dram (s : State) (k : Fin 2) (f : Scanner → Scanner) : (s.modScn k f).dram = s.dram := rfl
@[simp] theorem State.modScn_nvmMem (s : State) (k : Fin 2) (f : Scanner → Scanner) : (s.modScn k f).nvmMem = s.nvmMem := rfl
@[simp] theorem State.modScn_clock (s : State) (k : Fin 2) (f : Scanner → Scanner) : (s.modScn k f).clock = s.clock := rfl
@[simp] theorem State.modScn_mp (s : State) (k : Fin 2) (f : Scanner → Scanner) : (s.modScn k f).mp = s.mp := rfl
@[simp] theorem State.modScn_pending (s : State) (k : Fin 2) (f : Scanner → Scanner) : (s.modScn k f).pending = s.pending := rfl
@[simp] theorem State.modScn_reg (s : State) (k : Fin 2) (f : Scanner → Scanner) (b : Nat) : (s.modScn k f).reg b = s.reg b := rfl
@[simp] theorem State.modScn_infReg (s : State) (k : Fin 2) (f : Scanner → Scanner) (b : Nat) : (s.modScn k f).infReg b = s.infReg b := rfl
@[simp] theorem State.modScn_get (s : State) (k : Fin 2) (f : Scanner → Scanner) (p : Page) (g : RF) : (s.modScn k f).get p g = s.get p g := rfl
@[simp] theorem State.modScn_inf (s : State) (k : Fin 2) (f : Scanner → Scanner) (p : Page) (g : RF) : (s.modScn k f).inf p g = s.inf p g := rfl
@[simp] theorem State.modScn_scn (s : State) (k : Fin 2) (f : Scanner → Scanner) : (s.modScn k f).scn[k] = f s.scn[k] := by
  simp [State.modScn]

@[simp] theorem State.modNp_now (s : State) (q : NpIx) (f : NpPort → NpPort) : (s.modNp q f).now = s.now := rfl
@[simp] theorem State.modNp_recent (s : State) (q : NpIx) (f : NpPort → NpPort) : (s.modNp q f).recent = s.recent := rfl
@[simp] theorem State.modNp_pkg (s : State) (q : NpIx) (f : NpPort → NpPort) : (s.modNp q f).pkg = s.pkg := rfl
@[simp] theorem State.modNp_out (s : State) (q : NpIx) (f : NpPort → NpPort) : (s.modNp q f).out = s.out := rfl
@[simp] theorem State.modNp_regs (s : State) (q : NpIx) (f : NpPort → NpPort) : (s.modNp q f).regs = s.regs := rfl
@[simp] theorem State.modNp_inForce (s : State) (q : NpIx) (f : NpPort → NpPort) : (s.modNp q f).inForce = s.inForce := rfl
@[simp] theorem State.modNp_pulses (s : State) (q : NpIx) (f : NpPort → NpPort) : (s.modNp q f).pulses = s.pulses := rfl
@[simp] theorem State.modNp_conds (s : State) (q : NpIx) (f : NpPort → NpPort) : (s.modNp q f).conds = s.conds := rfl
@[simp] theorem State.modNp_tcm (s : State) (q : NpIx) (f : NpPort → NpPort) : (s.modNp q f).tcm = s.tcm := rfl
@[simp] theorem State.modNp_fsram (s : State) (q : NpIx) (f : NpPort → NpPort) : (s.modNp q f).fsram = s.fsram := rfl
@[simp] theorem State.modNp_dram (s : State) (q : NpIx) (f : NpPort → NpPort) : (s.modNp q f).dram = s.dram := rfl
@[simp] theorem State.modNp_nvmMem (s : State) (q : NpIx) (f : NpPort → NpPort) : (s.modNp q f).nvmMem = s.nvmMem := rfl
@[simp] theorem State.modNp_clock (s : State) (q : NpIx) (f : NpPort → NpPort) : (s.modNp q f).clock = s.clock := rfl
@[simp] theorem State.modNp_mp (s : State) (q : NpIx) (f : NpPort → NpPort) : (s.modNp q f).mp = s.mp := rfl
@[simp] theorem State.modNp_pending (s : State) (q : NpIx) (f : NpPort → NpPort) : (s.modNp q f).pending = s.pending := rfl
@[simp] theorem State.modNp_reg (s : State) (q : NpIx) (f : NpPort → NpPort) (b : Nat) : (s.modNp q f).reg b = s.reg b := rfl
@[simp] theorem State.modNp_infReg (s : State) (q : NpIx) (f : NpPort → NpPort) (b : Nat) : (s.modNp q f).infReg b = s.infReg b := rfl
@[simp] theorem State.modNp_get (s : State) (q : NpIx) (f : NpPort → NpPort) (p : Page) (g : RF) : (s.modNp q f).get p g = s.get p g := rfl
@[simp] theorem State.modNp_inf (s : State) (q : NpIx) (f : NpPort → NpPort) (p : Page) (g : RF) : (s.modNp q f).inf p g = s.inf p g := rfl
@[simp] theorem State.modNp_np (s : State) (q : NpIx) (f : NpPort → NpPort) : (s.modNp q f).np[q] = f s.np[q] := by
  simp [State.modNp]

@[simp] theorem State.modKeeper_now (s : State) (f : Keeper → Keeper) : (s.modKeeper f).now = s.now := rfl
@[simp] theorem State.modKeeper_recent (s : State) (f : Keeper → Keeper) : (s.modKeeper f).recent = s.recent := rfl
@[simp] theorem State.modKeeper_pkg (s : State) (f : Keeper → Keeper) : (s.modKeeper f).pkg = s.pkg := rfl
@[simp] theorem State.modKeeper_out (s : State) (f : Keeper → Keeper) : (s.modKeeper f).out = s.out := rfl
@[simp] theorem State.modKeeper_regs (s : State) (f : Keeper → Keeper) : (s.modKeeper f).regs = s.regs := rfl
@[simp] theorem State.modKeeper_inForce (s : State) (f : Keeper → Keeper) : (s.modKeeper f).inForce = s.inForce := rfl
@[simp] theorem State.modKeeper_pulses (s : State) (f : Keeper → Keeper) : (s.modKeeper f).pulses = s.pulses := rfl
@[simp] theorem State.modKeeper_conds (s : State) (f : Keeper → Keeper) : (s.modKeeper f).conds = s.conds := rfl
@[simp] theorem State.modKeeper_tcm (s : State) (f : Keeper → Keeper) : (s.modKeeper f).tcm = s.tcm := rfl
@[simp] theorem State.modKeeper_fsram (s : State) (f : Keeper → Keeper) : (s.modKeeper f).fsram = s.fsram := rfl
@[simp] theorem State.modKeeper_dram (s : State) (f : Keeper → Keeper) : (s.modKeeper f).dram = s.dram := rfl
@[simp] theorem State.modKeeper_nvmMem (s : State) (f : Keeper → Keeper) : (s.modKeeper f).nvmMem = s.nvmMem := rfl
@[simp] theorem State.modKeeper_clock (s : State) (f : Keeper → Keeper) : (s.modKeeper f).clock = s.clock := rfl
@[simp] theorem State.modKeeper_mp (s : State) (f : Keeper → Keeper) : (s.modKeeper f).mp = s.mp := rfl
@[simp] theorem State.modKeeper_pending (s : State) (f : Keeper → Keeper) : (s.modKeeper f).pending = s.pending := rfl
@[simp] theorem State.modKeeper_reg (s : State) (f : Keeper → Keeper) (b : Nat) : (s.modKeeper f).reg b = s.reg b := rfl
@[simp] theorem State.modKeeper_infReg (s : State) (f : Keeper → Keeper) (b : Nat) : (s.modKeeper f).infReg b = s.infReg b := rfl
@[simp] theorem State.modKeeper_get (s : State) (f : Keeper → Keeper) (p : Page) (g : RF) : (s.modKeeper f).get p g = s.get p g := rfl
@[simp] theorem State.modKeeper_inf (s : State) (f : Keeper → Keeper) (p : Page) (g : RF) : (s.modKeeper f).inf p g = s.inf p g := rfl
@[simp] theorem State.modKeeper_keeper (s : State) (f : Keeper → Keeper) : (s.modKeeper f).keeper = f s.keeper := rfl

@[simp] theorem State.modMx_now (s : State) (q : MxIx) (f : MxPort → MxPort) : (s.modMx q f).now = s.now := rfl
@[simp] theorem State.modMx_recent (s : State) (q : MxIx) (f : MxPort → MxPort) : (s.modMx q f).recent = s.recent := rfl
@[simp] theorem State.modMx_pkg (s : State) (q : MxIx) (f : MxPort → MxPort) : (s.modMx q f).pkg = s.pkg := rfl
@[simp] theorem State.modMx_out (s : State) (q : MxIx) (f : MxPort → MxPort) : (s.modMx q f).out = s.out := rfl
@[simp] theorem State.modMx_regs (s : State) (q : MxIx) (f : MxPort → MxPort) : (s.modMx q f).regs = s.regs := rfl
@[simp] theorem State.modMx_inForce (s : State) (q : MxIx) (f : MxPort → MxPort) : (s.modMx q f).inForce = s.inForce := rfl
@[simp] theorem State.modMx_pulses (s : State) (q : MxIx) (f : MxPort → MxPort) : (s.modMx q f).pulses = s.pulses := rfl
@[simp] theorem State.modMx_conds (s : State) (q : MxIx) (f : MxPort → MxPort) : (s.modMx q f).conds = s.conds := rfl
@[simp] theorem State.modMx_tcm (s : State) (q : MxIx) (f : MxPort → MxPort) : (s.modMx q f).tcm = s.tcm := rfl
@[simp] theorem State.modMx_fsram (s : State) (q : MxIx) (f : MxPort → MxPort) : (s.modMx q f).fsram = s.fsram := rfl
@[simp] theorem State.modMx_dram (s : State) (q : MxIx) (f : MxPort → MxPort) : (s.modMx q f).dram = s.dram := rfl
@[simp] theorem State.modMx_nvmMem (s : State) (q : MxIx) (f : MxPort → MxPort) : (s.modMx q f).nvmMem = s.nvmMem := rfl
@[simp] theorem State.modMx_clock (s : State) (q : MxIx) (f : MxPort → MxPort) : (s.modMx q f).clock = s.clock := rfl
@[simp] theorem State.modMx_mp (s : State) (q : MxIx) (f : MxPort → MxPort) : (s.modMx q f).mp = s.mp := rfl
@[simp] theorem State.modMx_pending (s : State) (q : MxIx) (f : MxPort → MxPort) : (s.modMx q f).pending = s.pending := rfl
@[simp] theorem State.modMx_reg (s : State) (q : MxIx) (f : MxPort → MxPort) (b : Nat) : (s.modMx q f).reg b = s.reg b := rfl
@[simp] theorem State.modMx_infReg (s : State) (q : MxIx) (f : MxPort → MxPort) (b : Nat) : (s.modMx q f).infReg b = s.infReg b := rfl
@[simp] theorem State.modMx_get (s : State) (q : MxIx) (f : MxPort → MxPort) (p : Page) (g : RF) : (s.modMx q f).get p g = s.get p g := rfl
@[simp] theorem State.modMx_inf (s : State) (q : MxIx) (f : MxPort → MxPort) (p : Page) (g : RF) : (s.modMx q f).inf p g = s.inf p g := rfl
@[simp] theorem State.modMx_mx (s : State) (q : MxIx) (f : MxPort → MxPort) : (s.modMx q f).mx[q] = f s.mx[q] := by
  simp [State.modMx]

@[simp] theorem State.modDmc_now (s : State) (f : Dmc → Dmc) : (s.modDmc f).now = s.now := rfl
@[simp] theorem State.modDmc_recent (s : State) (f : Dmc → Dmc) : (s.modDmc f).recent = s.recent := rfl
@[simp] theorem State.modDmc_pkg (s : State) (f : Dmc → Dmc) : (s.modDmc f).pkg = s.pkg := rfl
@[simp] theorem State.modDmc_out (s : State) (f : Dmc → Dmc) : (s.modDmc f).out = s.out := rfl
@[simp] theorem State.modDmc_regs (s : State) (f : Dmc → Dmc) : (s.modDmc f).regs = s.regs := rfl
@[simp] theorem State.modDmc_inForce (s : State) (f : Dmc → Dmc) : (s.modDmc f).inForce = s.inForce := rfl
@[simp] theorem State.modDmc_pulses (s : State) (f : Dmc → Dmc) : (s.modDmc f).pulses = s.pulses := rfl
@[simp] theorem State.modDmc_conds (s : State) (f : Dmc → Dmc) : (s.modDmc f).conds = s.conds := rfl
@[simp] theorem State.modDmc_tcm (s : State) (f : Dmc → Dmc) : (s.modDmc f).tcm = s.tcm := rfl
@[simp] theorem State.modDmc_fsram (s : State) (f : Dmc → Dmc) : (s.modDmc f).fsram = s.fsram := rfl
@[simp] theorem State.modDmc_dram (s : State) (f : Dmc → Dmc) : (s.modDmc f).dram = s.dram := rfl
@[simp] theorem State.modDmc_nvmMem (s : State) (f : Dmc → Dmc) : (s.modDmc f).nvmMem = s.nvmMem := rfl
@[simp] theorem State.modDmc_clock (s : State) (f : Dmc → Dmc) : (s.modDmc f).clock = s.clock := rfl
@[simp] theorem State.modDmc_mp (s : State) (f : Dmc → Dmc) : (s.modDmc f).mp = s.mp := rfl
@[simp] theorem State.modDmc_pending (s : State) (f : Dmc → Dmc) : (s.modDmc f).pending = s.pending := rfl
@[simp] theorem State.modDmc_reg (s : State) (f : Dmc → Dmc) (b : Nat) : (s.modDmc f).reg b = s.reg b := rfl
@[simp] theorem State.modDmc_infReg (s : State) (f : Dmc → Dmc) (b : Nat) : (s.modDmc f).infReg b = s.infReg b := rfl
@[simp] theorem State.modDmc_get (s : State) (f : Dmc → Dmc) (p : Page) (g : RF) : (s.modDmc f).get p g = s.get p g := rfl
@[simp] theorem State.modDmc_inf (s : State) (f : Dmc → Dmc) (p : Page) (g : RF) : (s.modDmc f).inf p g = s.inf p g := rfl
@[simp] theorem State.modDmc_dmcs (s : State) (f : Dmc → Dmc) : (s.modDmc f).dmcs = f s.dmcs := rfl

@[simp] theorem State.modSlot_now (s : State) (i : Fin 32) (f : MbxSlot → MbxSlot) : (s.modSlot i f).now = s.now := rfl
@[simp] theorem State.modSlot_recent (s : State) (i : Fin 32) (f : MbxSlot → MbxSlot) : (s.modSlot i f).recent = s.recent := rfl
@[simp] theorem State.modSlot_pkg (s : State) (i : Fin 32) (f : MbxSlot → MbxSlot) : (s.modSlot i f).pkg = s.pkg := rfl
@[simp] theorem State.modSlot_out (s : State) (i : Fin 32) (f : MbxSlot → MbxSlot) : (s.modSlot i f).out = s.out := rfl
@[simp] theorem State.modSlot_regs (s : State) (i : Fin 32) (f : MbxSlot → MbxSlot) : (s.modSlot i f).regs = s.regs := rfl
@[simp] theorem State.modSlot_inForce (s : State) (i : Fin 32) (f : MbxSlot → MbxSlot) : (s.modSlot i f).inForce = s.inForce := rfl
@[simp] theorem State.modSlot_pulses (s : State) (i : Fin 32) (f : MbxSlot → MbxSlot) : (s.modSlot i f).pulses = s.pulses := rfl
@[simp] theorem State.modSlot_conds (s : State) (i : Fin 32) (f : MbxSlot → MbxSlot) : (s.modSlot i f).conds = s.conds := rfl
@[simp] theorem State.modSlot_tcm (s : State) (i : Fin 32) (f : MbxSlot → MbxSlot) : (s.modSlot i f).tcm = s.tcm := rfl
@[simp] theorem State.modSlot_fsram (s : State) (i : Fin 32) (f : MbxSlot → MbxSlot) : (s.modSlot i f).fsram = s.fsram := rfl
@[simp] theorem State.modSlot_dram (s : State) (i : Fin 32) (f : MbxSlot → MbxSlot) : (s.modSlot i f).dram = s.dram := rfl
@[simp] theorem State.modSlot_nvmMem (s : State) (i : Fin 32) (f : MbxSlot → MbxSlot) : (s.modSlot i f).nvmMem = s.nvmMem := rfl
@[simp] theorem State.modSlot_clock (s : State) (i : Fin 32) (f : MbxSlot → MbxSlot) : (s.modSlot i f).clock = s.clock := rfl
@[simp] theorem State.modSlot_mp (s : State) (i : Fin 32) (f : MbxSlot → MbxSlot) : (s.modSlot i f).mp = s.mp := rfl
@[simp] theorem State.modSlot_pending (s : State) (i : Fin 32) (f : MbxSlot → MbxSlot) : (s.modSlot i f).pending = s.pending := rfl
@[simp] theorem State.modSlot_reg (s : State) (i : Fin 32) (f : MbxSlot → MbxSlot) (b : Nat) : (s.modSlot i f).reg b = s.reg b := rfl
@[simp] theorem State.modSlot_infReg (s : State) (i : Fin 32) (f : MbxSlot → MbxSlot) (b : Nat) : (s.modSlot i f).infReg b = s.infReg b := rfl
@[simp] theorem State.modSlot_get (s : State) (i : Fin 32) (f : MbxSlot → MbxSlot) (p : Page) (g : RF) : (s.modSlot i f).get p g = s.get p g := rfl
@[simp] theorem State.modSlot_inf (s : State) (i : Fin 32) (f : MbxSlot → MbxSlot) (p : Page) (g : RF) : (s.modSlot i f).inf p g = s.inf p g := rfl
@[simp] theorem State.modSlot_slots (s : State) (i : Fin 32) (f : MbxSlot → MbxSlot) : (s.modSlot i f).mbx.slots[i] = f s.mbx.slots[i] := by
  simp [State.modSlot]

@[simp] theorem State.modBc_now (s : State) (f : Bc → Bc) : (s.modBc f).now = s.now := rfl
@[simp] theorem State.modBc_recent (s : State) (f : Bc → Bc) : (s.modBc f).recent = s.recent := rfl
@[simp] theorem State.modBc_pkg (s : State) (f : Bc → Bc) : (s.modBc f).pkg = s.pkg := rfl
@[simp] theorem State.modBc_out (s : State) (f : Bc → Bc) : (s.modBc f).out = s.out := rfl
@[simp] theorem State.modBc_regs (s : State) (f : Bc → Bc) : (s.modBc f).regs = s.regs := rfl
@[simp] theorem State.modBc_inForce (s : State) (f : Bc → Bc) : (s.modBc f).inForce = s.inForce := rfl
@[simp] theorem State.modBc_pulses (s : State) (f : Bc → Bc) : (s.modBc f).pulses = s.pulses := rfl
@[simp] theorem State.modBc_conds (s : State) (f : Bc → Bc) : (s.modBc f).conds = s.conds := rfl
@[simp] theorem State.modBc_tcm (s : State) (f : Bc → Bc) : (s.modBc f).tcm = s.tcm := rfl
@[simp] theorem State.modBc_fsram (s : State) (f : Bc → Bc) : (s.modBc f).fsram = s.fsram := rfl
@[simp] theorem State.modBc_dram (s : State) (f : Bc → Bc) : (s.modBc f).dram = s.dram := rfl
@[simp] theorem State.modBc_nvmMem (s : State) (f : Bc → Bc) : (s.modBc f).nvmMem = s.nvmMem := rfl
@[simp] theorem State.modBc_clock (s : State) (f : Bc → Bc) : (s.modBc f).clock = s.clock := rfl
@[simp] theorem State.modBc_mp (s : State) (f : Bc → Bc) : (s.modBc f).mp = s.mp := rfl
@[simp] theorem State.modBc_pending (s : State) (f : Bc → Bc) : (s.modBc f).pending = s.pending := rfl
@[simp] theorem State.modBc_reg (s : State) (f : Bc → Bc) (b : Nat) : (s.modBc f).reg b = s.reg b := rfl
@[simp] theorem State.modBc_infReg (s : State) (f : Bc → Bc) (b : Nat) : (s.modBc f).infReg b = s.infReg b := rfl
@[simp] theorem State.modBc_get (s : State) (f : Bc → Bc) (p : Page) (g : RF) : (s.modBc f).get p g = s.get p g := rfl
@[simp] theorem State.modBc_inf (s : State) (f : Bc → Bc) (p : Page) (g : RF) : (s.modBc f).inf p g = s.inf p g := rfl
@[simp] theorem State.modBc_bc (s : State) (f : Bc → Bc) : (s.modBc f).bc = f s.bc := rfl

@[simp] theorem State.modTherm_now (s : State) (f : Therm → Therm) : (s.modTherm f).now = s.now := rfl
@[simp] theorem State.modTherm_recent (s : State) (f : Therm → Therm) : (s.modTherm f).recent = s.recent := rfl
@[simp] theorem State.modTherm_pkg (s : State) (f : Therm → Therm) : (s.modTherm f).pkg = s.pkg := rfl
@[simp] theorem State.modTherm_out (s : State) (f : Therm → Therm) : (s.modTherm f).out = s.out := rfl
@[simp] theorem State.modTherm_regs (s : State) (f : Therm → Therm) : (s.modTherm f).regs = s.regs := rfl
@[simp] theorem State.modTherm_inForce (s : State) (f : Therm → Therm) : (s.modTherm f).inForce = s.inForce := rfl
@[simp] theorem State.modTherm_pulses (s : State) (f : Therm → Therm) : (s.modTherm f).pulses = s.pulses := rfl
@[simp] theorem State.modTherm_conds (s : State) (f : Therm → Therm) : (s.modTherm f).conds = s.conds := rfl
@[simp] theorem State.modTherm_tcm (s : State) (f : Therm → Therm) : (s.modTherm f).tcm = s.tcm := rfl
@[simp] theorem State.modTherm_fsram (s : State) (f : Therm → Therm) : (s.modTherm f).fsram = s.fsram := rfl
@[simp] theorem State.modTherm_dram (s : State) (f : Therm → Therm) : (s.modTherm f).dram = s.dram := rfl
@[simp] theorem State.modTherm_nvmMem (s : State) (f : Therm → Therm) : (s.modTherm f).nvmMem = s.nvmMem := rfl
@[simp] theorem State.modTherm_clock (s : State) (f : Therm → Therm) : (s.modTherm f).clock = s.clock := rfl
@[simp] theorem State.modTherm_mp (s : State) (f : Therm → Therm) : (s.modTherm f).mp = s.mp := rfl
@[simp] theorem State.modTherm_pending (s : State) (f : Therm → Therm) : (s.modTherm f).pending = s.pending := rfl
@[simp] theorem State.modTherm_reg (s : State) (f : Therm → Therm) (b : Nat) : (s.modTherm f).reg b = s.reg b := rfl
@[simp] theorem State.modTherm_infReg (s : State) (f : Therm → Therm) (b : Nat) : (s.modTherm f).infReg b = s.infReg b := rfl
@[simp] theorem State.modTherm_get (s : State) (f : Therm → Therm) (p : Page) (g : RF) : (s.modTherm f).get p g = s.get p g := rfl
@[simp] theorem State.modTherm_inf (s : State) (f : Therm → Therm) (p : Page) (g : RF) : (s.modTherm f).inf p g = s.inf p g := rfl
@[simp] theorem State.modTherm_therm (s : State) (f : Therm → Therm) : (s.modTherm f).therm = f s.therm := rfl

@[simp] theorem State.modCal_now (s : State) (f : Cal → Cal) : (s.modCal f).now = s.now := rfl
@[simp] theorem State.modCal_recent (s : State) (f : Cal → Cal) : (s.modCal f).recent = s.recent := rfl
@[simp] theorem State.modCal_pkg (s : State) (f : Cal → Cal) : (s.modCal f).pkg = s.pkg := rfl
@[simp] theorem State.modCal_out (s : State) (f : Cal → Cal) : (s.modCal f).out = s.out := rfl
@[simp] theorem State.modCal_regs (s : State) (f : Cal → Cal) : (s.modCal f).regs = s.regs := rfl
@[simp] theorem State.modCal_inForce (s : State) (f : Cal → Cal) : (s.modCal f).inForce = s.inForce := rfl
@[simp] theorem State.modCal_pulses (s : State) (f : Cal → Cal) : (s.modCal f).pulses = s.pulses := rfl
@[simp] theorem State.modCal_conds (s : State) (f : Cal → Cal) : (s.modCal f).conds = s.conds := rfl
@[simp] theorem State.modCal_tcm (s : State) (f : Cal → Cal) : (s.modCal f).tcm = s.tcm := rfl
@[simp] theorem State.modCal_fsram (s : State) (f : Cal → Cal) : (s.modCal f).fsram = s.fsram := rfl
@[simp] theorem State.modCal_dram (s : State) (f : Cal → Cal) : (s.modCal f).dram = s.dram := rfl
@[simp] theorem State.modCal_nvmMem (s : State) (f : Cal → Cal) : (s.modCal f).nvmMem = s.nvmMem := rfl
@[simp] theorem State.modCal_clock (s : State) (f : Cal → Cal) : (s.modCal f).clock = s.clock := rfl
@[simp] theorem State.modCal_mp (s : State) (f : Cal → Cal) : (s.modCal f).mp = s.mp := rfl
@[simp] theorem State.modCal_pending (s : State) (f : Cal → Cal) : (s.modCal f).pending = s.pending := rfl
@[simp] theorem State.modCal_reg (s : State) (f : Cal → Cal) (b : Nat) : (s.modCal f).reg b = s.reg b := rfl
@[simp] theorem State.modCal_infReg (s : State) (f : Cal → Cal) (b : Nat) : (s.modCal f).infReg b = s.infReg b := rfl
@[simp] theorem State.modCal_get (s : State) (f : Cal → Cal) (p : Page) (g : RF) : (s.modCal f).get p g = s.get p g := rfl
@[simp] theorem State.modCal_inf (s : State) (f : Cal → Cal) (p : Page) (g : RF) : (s.modCal f).inf p g = s.inf p g := rfl
@[simp] theorem State.modCal_cal (s : State) (f : Cal → Cal) : (s.modCal f).cal = f s.cal := rfl

@[simp] theorem State.modNvm_now (s : State) (f : Nvm → Nvm) : (s.modNvm f).now = s.now := rfl
@[simp] theorem State.modNvm_recent (s : State) (f : Nvm → Nvm) : (s.modNvm f).recent = s.recent := rfl
@[simp] theorem State.modNvm_pkg (s : State) (f : Nvm → Nvm) : (s.modNvm f).pkg = s.pkg := rfl
@[simp] theorem State.modNvm_out (s : State) (f : Nvm → Nvm) : (s.modNvm f).out = s.out := rfl
@[simp] theorem State.modNvm_regs (s : State) (f : Nvm → Nvm) : (s.modNvm f).regs = s.regs := rfl
@[simp] theorem State.modNvm_inForce (s : State) (f : Nvm → Nvm) : (s.modNvm f).inForce = s.inForce := rfl
@[simp] theorem State.modNvm_pulses (s : State) (f : Nvm → Nvm) : (s.modNvm f).pulses = s.pulses := rfl
@[simp] theorem State.modNvm_conds (s : State) (f : Nvm → Nvm) : (s.modNvm f).conds = s.conds := rfl
@[simp] theorem State.modNvm_tcm (s : State) (f : Nvm → Nvm) : (s.modNvm f).tcm = s.tcm := rfl
@[simp] theorem State.modNvm_fsram (s : State) (f : Nvm → Nvm) : (s.modNvm f).fsram = s.fsram := rfl
@[simp] theorem State.modNvm_dram (s : State) (f : Nvm → Nvm) : (s.modNvm f).dram = s.dram := rfl
@[simp] theorem State.modNvm_nvmMem (s : State) (f : Nvm → Nvm) : (s.modNvm f).nvmMem = s.nvmMem := rfl
@[simp] theorem State.modNvm_clock (s : State) (f : Nvm → Nvm) : (s.modNvm f).clock = s.clock := rfl
@[simp] theorem State.modNvm_mp (s : State) (f : Nvm → Nvm) : (s.modNvm f).mp = s.mp := rfl
@[simp] theorem State.modNvm_pending (s : State) (f : Nvm → Nvm) : (s.modNvm f).pending = s.pending := rfl
@[simp] theorem State.modNvm_reg (s : State) (f : Nvm → Nvm) (b : Nat) : (s.modNvm f).reg b = s.reg b := rfl
@[simp] theorem State.modNvm_infReg (s : State) (f : Nvm → Nvm) (b : Nat) : (s.modNvm f).infReg b = s.infReg b := rfl
@[simp] theorem State.modNvm_get (s : State) (f : Nvm → Nvm) (p : Page) (g : RF) : (s.modNvm f).get p g = s.get p g := rfl
@[simp] theorem State.modNvm_inf (s : State) (f : Nvm → Nvm) (p : Page) (g : RF) : (s.modNvm f).inf p g = s.inf p g := rfl
@[simp] theorem State.modNvm_nvm (s : State) (f : Nvm → Nvm) : (s.modNvm f).nvm = f s.nvm := rfl

@[simp] theorem State.modEth_now (s : State) (n : Fin 4) (f : EthPort → EthPort) : (s.modEth n f).now = s.now := rfl
@[simp] theorem State.modEth_recent (s : State) (n : Fin 4) (f : EthPort → EthPort) : (s.modEth n f).recent = s.recent := rfl
@[simp] theorem State.modEth_pkg (s : State) (n : Fin 4) (f : EthPort → EthPort) : (s.modEth n f).pkg = s.pkg := rfl
@[simp] theorem State.modEth_out (s : State) (n : Fin 4) (f : EthPort → EthPort) : (s.modEth n f).out = s.out := rfl
@[simp] theorem State.modEth_regs (s : State) (n : Fin 4) (f : EthPort → EthPort) : (s.modEth n f).regs = s.regs := rfl
@[simp] theorem State.modEth_inForce (s : State) (n : Fin 4) (f : EthPort → EthPort) : (s.modEth n f).inForce = s.inForce := rfl
@[simp] theorem State.modEth_pulses (s : State) (n : Fin 4) (f : EthPort → EthPort) : (s.modEth n f).pulses = s.pulses := rfl
@[simp] theorem State.modEth_conds (s : State) (n : Fin 4) (f : EthPort → EthPort) : (s.modEth n f).conds = s.conds := rfl
@[simp] theorem State.modEth_tcm (s : State) (n : Fin 4) (f : EthPort → EthPort) : (s.modEth n f).tcm = s.tcm := rfl
@[simp] theorem State.modEth_fsram (s : State) (n : Fin 4) (f : EthPort → EthPort) : (s.modEth n f).fsram = s.fsram := rfl
@[simp] theorem State.modEth_dram (s : State) (n : Fin 4) (f : EthPort → EthPort) : (s.modEth n f).dram = s.dram := rfl
@[simp] theorem State.modEth_nvmMem (s : State) (n : Fin 4) (f : EthPort → EthPort) : (s.modEth n f).nvmMem = s.nvmMem := rfl
@[simp] theorem State.modEth_clock (s : State) (n : Fin 4) (f : EthPort → EthPort) : (s.modEth n f).clock = s.clock := rfl
@[simp] theorem State.modEth_mp (s : State) (n : Fin 4) (f : EthPort → EthPort) : (s.modEth n f).mp = s.mp := rfl
@[simp] theorem State.modEth_pending (s : State) (n : Fin 4) (f : EthPort → EthPort) : (s.modEth n f).pending = s.pending := rfl
@[simp] theorem State.modEth_reg (s : State) (n : Fin 4) (f : EthPort → EthPort) (b : Nat) : (s.modEth n f).reg b = s.reg b := rfl
@[simp] theorem State.modEth_infReg (s : State) (n : Fin 4) (f : EthPort → EthPort) (b : Nat) : (s.modEth n f).infReg b = s.infReg b := rfl
@[simp] theorem State.modEth_get (s : State) (n : Fin 4) (f : EthPort → EthPort) (p : Page) (g : RF) : (s.modEth n f).get p g = s.get p g := rfl
@[simp] theorem State.modEth_inf (s : State) (n : Fin 4) (f : EthPort → EthPort) (p : Page) (g : RF) : (s.modEth n f).inf p g = s.inf p g := rfl
@[simp] theorem State.modEth_eth (s : State) (n : Fin 4) (f : EthPort → EthPort) : (s.modEth n f).eth[n] = f s.eth[n] := by
  simp [State.modEth]

@[simp] theorem State.modCan_now (s : State) (n : Fin 4) (f : CanPort → CanPort) : (s.modCan n f).now = s.now := rfl
@[simp] theorem State.modCan_recent (s : State) (n : Fin 4) (f : CanPort → CanPort) : (s.modCan n f).recent = s.recent := rfl
@[simp] theorem State.modCan_pkg (s : State) (n : Fin 4) (f : CanPort → CanPort) : (s.modCan n f).pkg = s.pkg := rfl
@[simp] theorem State.modCan_out (s : State) (n : Fin 4) (f : CanPort → CanPort) : (s.modCan n f).out = s.out := rfl
@[simp] theorem State.modCan_regs (s : State) (n : Fin 4) (f : CanPort → CanPort) : (s.modCan n f).regs = s.regs := rfl
@[simp] theorem State.modCan_inForce (s : State) (n : Fin 4) (f : CanPort → CanPort) : (s.modCan n f).inForce = s.inForce := rfl
@[simp] theorem State.modCan_pulses (s : State) (n : Fin 4) (f : CanPort → CanPort) : (s.modCan n f).pulses = s.pulses := rfl
@[simp] theorem State.modCan_conds (s : State) (n : Fin 4) (f : CanPort → CanPort) : (s.modCan n f).conds = s.conds := rfl
@[simp] theorem State.modCan_tcm (s : State) (n : Fin 4) (f : CanPort → CanPort) : (s.modCan n f).tcm = s.tcm := rfl
@[simp] theorem State.modCan_fsram (s : State) (n : Fin 4) (f : CanPort → CanPort) : (s.modCan n f).fsram = s.fsram := rfl
@[simp] theorem State.modCan_dram (s : State) (n : Fin 4) (f : CanPort → CanPort) : (s.modCan n f).dram = s.dram := rfl
@[simp] theorem State.modCan_nvmMem (s : State) (n : Fin 4) (f : CanPort → CanPort) : (s.modCan n f).nvmMem = s.nvmMem := rfl
@[simp] theorem State.modCan_clock (s : State) (n : Fin 4) (f : CanPort → CanPort) : (s.modCan n f).clock = s.clock := rfl
@[simp] theorem State.modCan_mp (s : State) (n : Fin 4) (f : CanPort → CanPort) : (s.modCan n f).mp = s.mp := rfl
@[simp] theorem State.modCan_pending (s : State) (n : Fin 4) (f : CanPort → CanPort) : (s.modCan n f).pending = s.pending := rfl
@[simp] theorem State.modCan_reg (s : State) (n : Fin 4) (f : CanPort → CanPort) (b : Nat) : (s.modCan n f).reg b = s.reg b := rfl
@[simp] theorem State.modCan_infReg (s : State) (n : Fin 4) (f : CanPort → CanPort) (b : Nat) : (s.modCan n f).infReg b = s.infReg b := rfl
@[simp] theorem State.modCan_get (s : State) (n : Fin 4) (f : CanPort → CanPort) (p : Page) (g : RF) : (s.modCan n f).get p g = s.get p g := rfl
@[simp] theorem State.modCan_inf (s : State) (n : Fin 4) (f : CanPort → CanPort) (p : Page) (g : RF) : (s.modCan n f).inf p g = s.inf p g := rfl
@[simp] theorem State.modCan_can (s : State) (n : Fin 4) (f : CanPort → CanPort) : (s.modCan n f).can[n] = f s.can[n] := by
  simp [State.modCan]

@[simp] theorem State.modStor_now (s : State) (f : Stor → Stor) : (s.modStor f).now = s.now := rfl
@[simp] theorem State.modStor_recent (s : State) (f : Stor → Stor) : (s.modStor f).recent = s.recent := rfl
@[simp] theorem State.modStor_pkg (s : State) (f : Stor → Stor) : (s.modStor f).pkg = s.pkg := rfl
@[simp] theorem State.modStor_out (s : State) (f : Stor → Stor) : (s.modStor f).out = s.out := rfl
@[simp] theorem State.modStor_regs (s : State) (f : Stor → Stor) : (s.modStor f).regs = s.regs := rfl
@[simp] theorem State.modStor_inForce (s : State) (f : Stor → Stor) : (s.modStor f).inForce = s.inForce := rfl
@[simp] theorem State.modStor_pulses (s : State) (f : Stor → Stor) : (s.modStor f).pulses = s.pulses := rfl
@[simp] theorem State.modStor_conds (s : State) (f : Stor → Stor) : (s.modStor f).conds = s.conds := rfl
@[simp] theorem State.modStor_tcm (s : State) (f : Stor → Stor) : (s.modStor f).tcm = s.tcm := rfl
@[simp] theorem State.modStor_fsram (s : State) (f : Stor → Stor) : (s.modStor f).fsram = s.fsram := rfl
@[simp] theorem State.modStor_dram (s : State) (f : Stor → Stor) : (s.modStor f).dram = s.dram := rfl
@[simp] theorem State.modStor_nvmMem (s : State) (f : Stor → Stor) : (s.modStor f).nvmMem = s.nvmMem := rfl
@[simp] theorem State.modStor_clock (s : State) (f : Stor → Stor) : (s.modStor f).clock = s.clock := rfl
@[simp] theorem State.modStor_mp (s : State) (f : Stor → Stor) : (s.modStor f).mp = s.mp := rfl
@[simp] theorem State.modStor_pending (s : State) (f : Stor → Stor) : (s.modStor f).pending = s.pending := rfl
@[simp] theorem State.modStor_reg (s : State) (f : Stor → Stor) (b : Nat) : (s.modStor f).reg b = s.reg b := rfl
@[simp] theorem State.modStor_infReg (s : State) (f : Stor → Stor) (b : Nat) : (s.modStor f).infReg b = s.infReg b := rfl
@[simp] theorem State.modStor_get (s : State) (f : Stor → Stor) (p : Page) (g : RF) : (s.modStor f).get p g = s.get p g := rfl
@[simp] theorem State.modStor_inf (s : State) (f : Stor → Stor) (p : Page) (g : RF) : (s.modStor f).inf p g = s.inf p g := rfl
@[simp] theorem State.modStor_stor (s : State) (f : Stor → Stor) : (s.modStor f).stor = f s.stor := rfl

@[simp] theorem State.modKey_now (s : State) (i : Fin 16) (f : KeySlot → KeySlot) : (s.modKey i f).now = s.now := rfl
@[simp] theorem State.modKey_recent (s : State) (i : Fin 16) (f : KeySlot → KeySlot) : (s.modKey i f).recent = s.recent := rfl
@[simp] theorem State.modKey_pkg (s : State) (i : Fin 16) (f : KeySlot → KeySlot) : (s.modKey i f).pkg = s.pkg := rfl
@[simp] theorem State.modKey_out (s : State) (i : Fin 16) (f : KeySlot → KeySlot) : (s.modKey i f).out = s.out := rfl
@[simp] theorem State.modKey_regs (s : State) (i : Fin 16) (f : KeySlot → KeySlot) : (s.modKey i f).regs = s.regs := rfl
@[simp] theorem State.modKey_inForce (s : State) (i : Fin 16) (f : KeySlot → KeySlot) : (s.modKey i f).inForce = s.inForce := rfl
@[simp] theorem State.modKey_pulses (s : State) (i : Fin 16) (f : KeySlot → KeySlot) : (s.modKey i f).pulses = s.pulses := rfl
@[simp] theorem State.modKey_conds (s : State) (i : Fin 16) (f : KeySlot → KeySlot) : (s.modKey i f).conds = s.conds := rfl
@[simp] theorem State.modKey_tcm (s : State) (i : Fin 16) (f : KeySlot → KeySlot) : (s.modKey i f).tcm = s.tcm := rfl
@[simp] theorem State.modKey_fsram (s : State) (i : Fin 16) (f : KeySlot → KeySlot) : (s.modKey i f).fsram = s.fsram := rfl
@[simp] theorem State.modKey_dram (s : State) (i : Fin 16) (f : KeySlot → KeySlot) : (s.modKey i f).dram = s.dram := rfl
@[simp] theorem State.modKey_nvmMem (s : State) (i : Fin 16) (f : KeySlot → KeySlot) : (s.modKey i f).nvmMem = s.nvmMem := rfl
@[simp] theorem State.modKey_clock (s : State) (i : Fin 16) (f : KeySlot → KeySlot) : (s.modKey i f).clock = s.clock := rfl
@[simp] theorem State.modKey_mp (s : State) (i : Fin 16) (f : KeySlot → KeySlot) : (s.modKey i f).mp = s.mp := rfl
@[simp] theorem State.modKey_pending (s : State) (i : Fin 16) (f : KeySlot → KeySlot) : (s.modKey i f).pending = s.pending := rfl
@[simp] theorem State.modKey_reg (s : State) (i : Fin 16) (f : KeySlot → KeySlot) (b : Nat) : (s.modKey i f).reg b = s.reg b := rfl
@[simp] theorem State.modKey_infReg (s : State) (i : Fin 16) (f : KeySlot → KeySlot) (b : Nat) : (s.modKey i f).infReg b = s.infReg b := rfl
@[simp] theorem State.modKey_get (s : State) (i : Fin 16) (f : KeySlot → KeySlot) (p : Page) (g : RF) : (s.modKey i f).get p g = s.get p g := rfl
@[simp] theorem State.modKey_inf (s : State) (i : Fin 16) (f : KeySlot → KeySlot) (p : Page) (g : RF) : (s.modKey i f).inf p g = s.inf p g := rfl
@[simp] theorem State.modKey_keys (s : State) (i : Fin 16) (f : KeySlot → KeySlot) : (s.modKey i f).sec.keys[i] = f s.sec.keys[i] := by
  simp [State.modKey]

@[simp] theorem State.answer_now (s : State) (v : Word) : (s.answer v).now = s.now := rfl
@[simp] theorem State.answer_recent (s : State) (v : Word) : (s.answer v).recent = s.recent := rfl
@[simp] theorem State.answer_pkg (s : State) (v : Word) : (s.answer v).pkg = s.pkg := rfl
@[simp] theorem State.answer_regs (s : State) (v : Word) : (s.answer v).regs = s.regs := rfl
@[simp] theorem State.answer_inForce (s : State) (v : Word) : (s.answer v).inForce = s.inForce := rfl
@[simp] theorem State.answer_pulses (s : State) (v : Word) : (s.answer v).pulses = s.pulses := rfl
@[simp] theorem State.answer_conds (s : State) (v : Word) : (s.answer v).conds = s.conds := rfl
@[simp] theorem State.answer_tcm (s : State) (v : Word) : (s.answer v).tcm = s.tcm := rfl
@[simp] theorem State.answer_fsram (s : State) (v : Word) : (s.answer v).fsram = s.fsram := rfl
@[simp] theorem State.answer_dram (s : State) (v : Word) : (s.answer v).dram = s.dram := rfl
@[simp] theorem State.answer_nvmMem (s : State) (v : Word) : (s.answer v).nvmMem = s.nvmMem := rfl
@[simp] theorem State.answer_clock (s : State) (v : Word) : (s.answer v).clock = s.clock := rfl
@[simp] theorem State.answer_mp (s : State) (v : Word) : (s.answer v).mp = s.mp := rfl
@[simp] theorem State.answer_pending (s : State) (v : Word) : (s.answer v).pending = s.pending := rfl
@[simp] theorem State.answer_reg (s : State) (v : Word) (b : Nat) : (s.answer v).reg b = s.reg b := rfl
@[simp] theorem State.answer_infReg (s : State) (v : Word) (b : Nat) : (s.answer v).infReg b = s.infReg b := rfl
@[simp] theorem State.answer_get (s : State) (v : Word) (p : Page) (g : RF) : (s.answer v).get p g = s.get p g := rfl
@[simp] theorem State.answer_inf (s : State) (v : Word) (p : Page) (g : RF) : (s.answer v).inf p g = s.inf p g := rfl
@[simp] theorem State.answer_out (s : State) (v : Word) : (s.answer v).out = [some v] := rfl

@[simp] theorem State.tookFree_now (s : State) : (s.tookFree).now = s.now := rfl
@[simp] theorem State.tookFree_recent (s : State) : (s.tookFree).recent = s.recent := rfl
@[simp] theorem State.tookFree_pkg (s : State) : (s.tookFree).pkg = s.pkg := rfl
@[simp] theorem State.tookFree_out (s : State) : (s.tookFree).out = s.out := rfl
@[simp] theorem State.tookFree_regs (s : State) : (s.tookFree).regs = s.regs := rfl
@[simp] theorem State.tookFree_inForce (s : State) : (s.tookFree).inForce = s.inForce := rfl
@[simp] theorem State.tookFree_pulses (s : State) : (s.tookFree).pulses = s.pulses := rfl
@[simp] theorem State.tookFree_conds (s : State) : (s.tookFree).conds = s.conds := rfl
@[simp] theorem State.tookFree_tcm (s : State) : (s.tookFree).tcm = s.tcm := rfl
@[simp] theorem State.tookFree_fsram (s : State) : (s.tookFree).fsram = s.fsram := rfl
@[simp] theorem State.tookFree_dram (s : State) : (s.tookFree).dram = s.dram := rfl
@[simp] theorem State.tookFree_nvmMem (s : State) : (s.tookFree).nvmMem = s.nvmMem := rfl
@[simp] theorem State.tookFree_clock (s : State) : (s.tookFree).clock = s.clock := rfl
@[simp] theorem State.tookFree_mp (s : State) : (s.tookFree).mp = s.mp := rfl
@[simp] theorem State.tookFree_pending (s : State) : (s.tookFree).pending = s.pending := rfl
@[simp] theorem State.tookFree_reg (s : State) (b : Nat) : (s.tookFree).reg b = s.reg b := rfl
@[simp] theorem State.tookFree_infReg (s : State) (b : Nat) : (s.tookFree).infReg b = s.infReg b := rfl
@[simp] theorem State.tookFree_get (s : State) (p : Page) (g : RF) : (s.tookFree).get p g = s.get p g := rfl
@[simp] theorem State.tookFree_inf (s : State) (p : Page) (g : RF) : (s.tookFree).inf p g = s.inf p g := rfl
@[simp] theorem State.tookFree_fresh (s : State) : (s.tookFree).fresh = s.fresh + 1 := rfl

end Sys2Proof.Machine
end

