-- ==== Sys2Proof/Laws/Ops.lean ====
section
/-!
SUPPORT. What the shared operations change: events, conditions, counters, error records, the beam recorder and
time-stamps write the header registers of their page (and the recorder its ring and its registers in STOR), and
leave every other register as it was.
-/

namespace Sys2Proof.Machine

/-- A register that events, error records and the recorder never write: not of STOR, and neither `IRQ_STAT`,
`ERR_CODE`, `ERR_INFO` nor `ERR_CNT` of any page. -/
abbrev QuietReg (q : Page) (g : RF) : Prop :=
  q ≠ .stor ∧ g.off < 0x1000 ∧ g.off ≠ IRQ_STAT.off ∧ g.off ≠ ERR_CODE.off ∧ g.off ≠ ERR_INFO.off ∧ g.off ≠ ERR_CNT.off

theorem Page.addr_ne_off (p q : Page) {a b : Nat} (h : a ≠ b) (ha : a < 0x1000) (hb : b < 0x1000) :
    p.base + a ≠ q.base + b := by
  by_cases e : p = q
  · subst e; omega
  · exact Page.addr_ne e ha hb

/-- A put at another offset leaves a field, whatever the pages. -/
theorem State.get_put_anyoff (s : State) (p q : Page) (f g : RF) (x : Nat) (h : f.off ≠ g.off) (hf : f.off < 0x1000)
    (hg : g.off < 0x1000) : (s.put p f x).get q g = s.get q g :=
  State.get_put_ne _ _ _ _ _ _ (Page.addr_ne_off p q h hf hg)

theorem State.get_put_irq (s : State) (p q : Page) (b x : Nat) (g : RF) (h : QuietReg q g) :
    (s.put p ⟨IRQ_STAT.off, b, 1⟩ x).get q g = s.get q g :=
  State.get_put_anyoff s p q ⟨IRQ_STAT.off, b, 1⟩ g x (Ne.symm h.2.2.1) (show (0x14 : Nat) < 0x1000 by decide) h.2.1

/-- What an event sets in `IRQ_STAT` leaves every other register. -/
theorem State.get_mark_irq (s : State) (p q : Page) (b : Nat) (g : RF) (h : QuietReg q g) :
    (s.mark p ⟨IRQ_STAT.off, b, 1⟩).get q g = s.get q g := by
  unfold State.mark
  rw [State.get_put_irq _ _ _ _ _ _ h, State.note_get]

theorem State.get_latch (s : State) (p q : Page) (b : Nat) (g : RF) (h : QuietReg q g) :
    (s.latch p b).get q g = s.get q g := by
  unfold State.latch
  rw [State.get_mark_irq _ _ _ _ _ h]
  rfl

theorem State.get_record (s : State) (ty : Nat) (l : List Nat) (q : Page) (g : RF) (h : QuietReg q g) :
    (s.record ty l).get q g = s.get q g := by
  by_cases hr : s.recording = true
  · simp only [State.record, hr, if_true]
    split
    · rw [State.get_latch _ _ _ _ _ h]
      unfold State.bump State.count
      rw [State.get_put_page _ _ _ _ _ _ (Ne.symm h.1) (by decide) h.2.1, State.note_get]
    · rw [State.get_put_page _ _ _ _ _ _ (Ne.symm h.1) (by decide) h.2.1]
      simp only [State.get, State.reg]
  · simp [State.record, hr]

/-- An event writes no register but `IRQ_STAT` and those of the recorder. -/
theorem State.get_raise (s : State) (p q : Page) (b : Nat) (g : RF) (h : QuietReg q g) :
    (s.raise p b).get q g = s.get q g := by
  unfold State.raise
  rw [State.get_record _ _ _ _ _ h, State.get_latch _ _ _ _ _ h]

theorem State.get_raiseCond (s : State) (p q : Page) (b : Nat) (g : RF) (h : QuietReg q g) :
    (s.raiseCond p b).get q g = s.get q g := by
  unfold State.raiseCond
  split
  · rfl
  · rw [State.get_record _ _ _ _ _ h, State.get_mark_irq _ _ _ _ _ h]
    rfl

@[simp] theorem State.get_dropCond (s : State) (p q : Page) (b : Nat) (g : RF) :
    (s.dropCond p b).get q g = s.get q g := rfl

@[simp] theorem State.get_logEntry (s : State) (a c d x : Nat) (q : Page) (g : RF) :
    (s.logEntry a c d x).get q g = s.get q g := by unfold State.logEntry; split <;> rfl

/-- An error record writes no register but the error and interrupt registers of its page. -/
theorem State.get_errInfo (s : State) (p q : Page) (path off cls d i : Nat) (g : RF) (h : QuietReg q g) :
    (s.errInfo p path off cls d i).get q g = s.get q g := by
  have hb : ∀ s : State, (s.bump p ERR_CNT).get q g = s.get q g := fun s =>
    (State.get_put_anyoff _ _ _ _ _ _ (Ne.symm h.2.2.2.2.2) (by decide) h.2.1).trans (State.note_get _ _ _ _ _ _)
  have hl : ∀ s : State, (if cls = ST_STATE_REJECT then
      s.logEntry p.base cls d (s.get p BLK_STATE) else s).get q g = s.get q g := by
    intro s; split <;> simp
  have hr : ∀ (s : State) (x y : Nat), (((s.put p ERR_CODE x).put p ERR_INFO y).raise p 31).get q g = s.get q g := by
    intro s x y
    rw [State.get_raise _ _ _ _ _ h,
      State.get_put_anyoff _ p q ERR_INFO g _ (Ne.symm h.2.2.2.2.1) (by decide) h.2.1,
      State.get_put_anyoff _ p q ERR_CODE g _ (Ne.symm h.2.2.2.1) (by decide) h.2.1]
  unfold State.errInfo
  extract_lets s1 s2
  have h2 : s2.get q g = s.get q g := (hl s1).trans (hb s)
  split_ifs
  · rw [hr, h2]
  · exact h2

theorem State.get_err (s : State) (p q : Page) (path off cls d : Nat) (g : RF) (h : QuietReg q g) :
    (s.err p path off cls d).get q g = s.get q g := State.get_errInfo _ _ _ _ _ _ _ _ _ h

theorem State.get_errHw (s : State) (p q : Page) (cls d : Nat) (g : RF) (h : QuietReg q g) :
    (s.errHw p cls d).get q g = s.get q g := State.get_errInfo _ _ _ _ _ _ _ _ _ h

/-- A counter counts, and stops at its maximum (R7). -/
theorem State.get_bump_same (s : State) (p : Page) (f : RF) (h : f.Fits) :
    (s.bump p f).get p f = min (s.get p f + 1) (2 ^ f.w - 1) := by
  unfold State.bump State.count
  rw [State.get_put_same _ _ _ _ h]
  apply Nat.mod_eq_of_lt
  have : 0 < 2 ^ f.w := by positivity
  omega

theorem State.get_count_ne (s : State) (p q : Page) (f g : RF) (n : Nat) (h : p.base + f.off ≠ q.base + g.off) :
    (s.count p f n).get q g = s.get q g := by
  unfold State.count; rw [State.get_put_ne _ _ _ _ _ _ h, State.note_get]

theorem State.get_keepMax_ne (s : State) (p q : Page) (f g : RF) (n : Nat) (h : p.base + f.off ≠ q.base + g.off) :
    (s.keepMax p f n).get q g = s.get q g := by
  unfold State.keepMax; split
  · exact State.get_put_ne _ _ _ _ _ _ h
  · rfl

/-- A time-stamp writes its NANOSECONDS register. -/
theorem State.get_stamp_ne (s : State) (p q : Page) (f g : RF) (h : p.base + f.off ≠ q.base + g.off) :
    (s.stamp p f).get q g = s.get q g := by
  have e : (s.stamp p f).get q g = (s.put p f s.localNs).get q g := rfl
  rw [e, State.get_put_ne _ _ _ _ _ _ h]

/-! ### The memories -/

/-- Every memory that a latch, an error record or a time-stamp could reach, but the DRAM, in which the beam
recorder's ring lies. -/
def State.mems (s : State) : List (List (Nat × Byte)) :=
  [s.tcm, s.fsram, s.nvmMem, s.keeper.store]

@[simp] theorem State.mems_setReg (s : State) (a : Nat) (v : Word) : (s.setReg a v).mems = s.mems := by
  simp only [State.mems, State.setReg_tcm, State.setReg_fsram, State.setReg_nvmMem, State.setReg_keeper]
@[simp] theorem State.mems_setInfReg (s : State) (a : Nat) (v : Word) : (s.setInfReg a v).mems = s.mems := by
  simp only [State.mems, State.setInfReg_tcm, State.setInfReg_fsram, State.setInfReg_nvmMem, State.setInfReg_keeper]
@[simp] theorem State.mems_put (s : State) (p : Page) (f : RF) (x : Nat) : (s.put p f x).mems = s.mems := by
  simp only [State.mems, State.put_tcm, State.put_fsram, State.put_nvmMem, State.put_keeper]
@[simp] theorem State.mems_note (s : State) (p : Page) (f : RF) (x : Nat) : (s.note p f x).mems = s.mems := by
  simp only [State.mems, State.note_tcm, State.note_fsram, State.note_nvmMem, State.note_keeper]
@[simp] theorem State.mems_mark (s : State) (p : Page) (f : RF) : (s.mark p f).mems = s.mems := by
  unfold State.mark; simp
@[simp] theorem State.mems_bump (s : State) (p : Page) (f : RF) : (s.bump p f).mems = s.mems := by
  unfold State.bump State.count; simp
@[simp] theorem State.mems_latch (s : State) (p : Page) (b : Nat) : (s.latch p b).mems = s.mems := by
  unfold State.latch; rw [State.mems_mark]; simp only [State.mems]

@[simp] theorem State.mems_record (s : State) (ty : Nat) (l : List Nat) : (s.record ty l).mems = s.mems := by
  by_cases hr : s.recording = true
  · simp only [State.record, hr, if_true]
    split
    · simp
    · rw [State.mems_put]; simp only [State.mems]
  · simp [State.record, hr]

@[simp] theorem State.mems_raise (s : State) (p : Page) (b : Nat) : (s.raise p b).mems = s.mems := by
  unfold State.raise; simp

@[simp] theorem State.mems_raiseCond (s : State) (p : Page) (b : Nat) : (s.raiseCond p b).mems = s.mems := by
  unfold State.raiseCond; split
  · rfl
  · rw [State.mems_record, State.mems_mark]; simp only [State.mems]

@[simp] theorem State.mems_logEntry (s : State) (a c d x : Nat) : (s.logEntry a c d x).mems = s.mems := by
  unfold State.logEntry; split <;> simp only [State.mems]

@[simp] theorem State.mems_errInfo (s : State) (p : Page) (path off cls d i : Nat) :
    (s.errInfo p path off cls d i).mems = s.mems := by
  have hl : ∀ s : State, (if cls = ST_STATE_REJECT then
      s.logEntry p.base cls d (s.get p BLK_STATE) else s).mems = s.mems := by
    intro s; split <;> simp
  unfold State.errInfo
  extract_lets s1 s2
  have h2 : s2.mems = s.mems := (hl s1).trans (by simp [s1])
  split_ifs <;> simp [h2]

@[simp] theorem State.mems_err (s : State) (p : Page) (path off cls d : Nat) :
    (s.err p path off cls d).mems = s.mems := State.mems_errInfo _ _ _ _ _ _ _

@[simp] theorem State.bump_dram (s : State) (p : Page) (f : RF) : (s.bump p f).dram = s.dram := by
  unfold State.bump State.count; rw [State.put_dram, State.note_dram]
@[simp] theorem State.latch_dram (s : State) (p : Page) (b : Nat) : (s.latch p b).dram = s.dram := by
  unfold State.latch State.mark; rw [State.put_dram, State.note_dram]

/-- While LOG_CONTROL RECORDER does not run, an event writes no memory at all (R450). -/
theorem State.record_idle (s : State) (ty : Nat) (l : List Nat) (h : s.recording = false) : s.record ty l = s := by
  unfold State.record; simp [h]

theorem Memory.wf_ringWrite : ∀ (bs : List Byte) (m : List (Nat × Byte)) (base size wr : Nat), Memory.wf m = true →
    Memory.wf (ringWrite m base size wr bs) = true
  | [], _, _, _, _, h => h
  | _ :: r, _, _, _, _, h => Memory.wf_ringWrite r _ _ _ _ (Memory.wf_setByte _ _ h)

/-- The recorder keeps the DRAM canonical. -/
theorem State.wf_dram_record (s : State) (ty : Nat) (l : List Nat) (h : Memory.wf s.dram = true) :
    Memory.wf (s.record ty l).dram = true := by
  by_cases hr : s.recording = true
  · simp only [State.record, hr, if_true]
    split
    · simp only [State.latch_dram, State.bump_dram, h]
    · simp only [State.put_dram]; exact Memory.wf_ringWrite _ _ _ _ _ h
  · simp only [State.record, hr]; exact h

/-- An event keeps the DRAM canonical. -/
theorem State.wf_dram_raise (s : State) (p : Page) (b : Nat) (h : Memory.wf s.dram = true) :
    Memory.wf (s.raise p b).dram = true := by
  unfold State.raise
  exact State.wf_dram_record _ _ _ (by rw [State.latch_dram]; exact h)

/-- With no command left in the queue nothing of the same tick is to be waited for: the queue alone decides (log entry 118). -/
theorem State.waits_of_empty (s : State) (f : Instr → Option Nat) (h : s.pending = []) : s.waits f = false := by
  simp [State.waits, h]

end Sys2Proof.Machine
end

