-- ==== Sys2Proof/Laws/Bus.lean ====
section
/-!
SUPPORT. What an access does once its path, its address and the causes of R38 are settled: one lemma per shared
operation of the bus.
-/

namespace Sys2Proof.Machine

/-- The address of a register selects its page and offset (R31). -/
theorem placeOf_page (p : Page) (off : Nat) (h : off < 0x1000) : placeOf (p.base + off) = .page p off := by
  have h1 : 0x40000000 ≤ p.base ∧ p.base < 0x50000000 := by
    cases p with
    | eng n | grd n | ltn n | scn n | sxl n | comp n | dmc n | np n | mx n | eth n | can n =>
      simp only [Page.base]; have := n.isLt; omega
    | _ => decide
  have h2 : (p.base + off) % 0x1000 = off := by have := Page.base_mod p; omega
  unfold placeOf
  rw [if_neg (by omega), if_neg (by omega), if_neg (by omega), if_neg (by omega), Page.ofAddr_base p off h]
  simp only [h2]

/-- A write that reaches its place is answered with the word written (R33). -/
theorem State.writeBy_reaches (s : State) (path : Path) (a width v : Nat) (h : s.reaches path a width true = true) :
    s.writeBy path a width v = (s.placeWrite path a (v % 2 ^ 32)).answer (BitVec.ofNat 32 v) := by
  unfold State.reaches at h
  simp only [Bool.and_eq_true, Bool.or_eq_true, bne_iff_ne, ne_eq, Option.isNone_iff_eq_none] at h
  obtain ⟨⟨⟨h1, h2⟩, h3⟩, h4⟩ := h
  unfold State.writeBy State.access State.busWrite
  have h5 : ¬ (path = .ext ∧ !s.extMay a true) := by
    rintro ⟨e, hm⟩; rcases h2 with h2 | h2
    · exact h2 e
    · simp [h2] at hm
  simp only [h1, h3, h4, Bool.not_true, Bool.false_eq_true, ↓reduceIte, h5]

/-- A read that reaches its place is answered with the word read, and has its side effects. -/
theorem State.readBy_reaches (s : State) (path : Path) (a width : Nat) (h : s.reaches path a width false = true) :
    s.readBy path a width = (s.placeSide path a).answer (BitVec.ofNat 32 (s.placeRead path a)) := by
  unfold State.reaches at h
  simp only [Bool.and_eq_true, Bool.or_eq_true, bne_iff_ne, ne_eq, Option.isNone_iff_eq_none] at h
  obtain ⟨⟨⟨h1, h2⟩, h3⟩, h4⟩ := h
  unfold State.readBy State.access State.busRead
  have h5 : ¬ (path = .ext ∧ !s.extMay a false) := by
    rintro ⟨e, hm⟩; rcases h2 with h2 | h2
    · exact h2 e
    · simp [h2] at hm
  simp only [h1, h3, h4, Bool.not_true, Bool.false_eq_true, ↓reduceIte, h5]

/-- A register write that reaches its page is the page's write. -/
theorem State.regBy_reaches (s : State) (path : Path) (p : Page) (f : RF) (v : Nat) (hf : f.off < 0x1000)
    (h : s.reaches path (p.base + f.off) 4 true = true) :
    s.regBy path p f v = (s.pageWrite path p f.off (v % 2 ^ 32)).answer (BitVec.ofNat 32 v) := by
  unfold State.regBy
  rw [State.writeBy_reaches _ _ _ _ _ h]
  unfold State.placeWrite
  rw [placeOf_page p f.off hf]

/-- A register read that reaches its page is the page's read. -/
theorem State.getBy_reaches (s : State) (path : Path) (p : Page) (f : RF) (hf : f.off < 0x800)
    (h : s.reaches path (p.base + f.off) 4 false = true) :
    s.getBy path p f = (s.readSide path p f.off).answer (BitVec.ofNat 32 (s.regRead path p f.off)) := by
  unfold State.getBy
  rw [State.readBy_reaches _ _ _ _ h]
  unfold State.placeSide State.placeRead
  rw [placeOf_page p f.off (by omega)]
  simp only [hf, ↓reduceIte]
  unfold State.pageRead
  simp only [hf, ↓reduceIte]

/-- A write beyond the header is the block's own. -/
theorem State.pageWrite_block (s : State) (path : Path) (p : Page) (off v : Nat) (h1 : 0x044 ≤ off) (h2 : off < 0x800) :
    s.pageWrite path p off v = s.blockWrite path p off v := by
  have e : ∀ k, k < 0x044 → off ≠ k := fun k hk => by omega
  unfold State.pageWrite
  rw [if_neg (by omega), if_neg (e _ (by decide)), if_neg (e _ (by decide)), if_neg (e _ (by decide)),
    if_neg (e _ (by decide)), if_neg (e _ (by decide)), if_neg (e _ (by decide)), if_neg (e _ (by decide)),
    if_neg (show ¬ off < ERR_CNT.off from Nat.not_lt.mpr (Nat.le_trans (by decide) h1)), if_neg (e _ (by decide))]

/-- A failing write of a path that may issue it has no effect but its record (R38, R40). -/
theorem State.writeBy_fails (s : State) (path : Path) (a width v c : Nat) (h1 : s.pathLive path = true)
    (h2 : path ≠ .ext) (h3 : s.domOn PD_NOC = true) (h4 : s.busCause path a width true = some c) :
    s.writeBy path a width v = s.busFail path a c := by
  unfold State.writeBy State.access State.busWrite
  simp [h1, h2, h3, h4]

end Sys2Proof.Machine
end

