-- ==== Sys2Proof/WellFormed.lean ====
section
/-!
DEFINITION. Which commands are well-formed: operands within the widths of the fields, windows and buses that
carry them (R5, R33, R38, R181, R411, R424, R436, R447). The meanings do not assume it.
-/

namespace Sys2Proof

/-- A 32-bit word or address. -/
def isWord (v : Nat) : Bool := decide (v < 2 ^ 32)
/-- A 16-bit field. -/
def isHalf (v : Nat) : Bool := decide (v < 2 ^ 16)
/-- A page number from 0x4000_0000 (R31): SEC is the last. -/
def isPage (pg : Nat) : Bool := decide (pg ≤ 0xA0)
/-- A calibration class and instance (R411). -/
def isClass (cls inst : Nat) : Bool := decide (1 ≤ cls) && decide (cls ≤ 9) && decide (inst < 8)
/-- A record payload: at most the largest slot without its header (R423, R424). -/
def isPayload (p : List Byte) : Bool := decide (p.length ≤ 0x10000 - 32)

/-- Well-formedness of a command. -/
def Instr.wf (i : Instr) : Bool :=
  match i with
  | .registerWrite _ _ a width v => isWord a && (width == 1 || width == 2 || width == 4 || width == 8) && isWord v
  | .fsramWrite _ _ off v => decide (off < 0x5000000) && isWord v
  | .apertureAccess _ _ off _ v => decide (off < 2 ^ 31) && isWord v
  | .errCodeClear _ _ pg v => isPage pg && isWord v
  | .softReset _ _ pg v => isPage pg && isWord v
  | .blockEnable _ _ pg _ => isPage pg
  | .freeze _ _ pg _ => isPage pg
  | .irqSet _ _ pg v => isPage pg && isWord v
  | .lock _ _ pg low => isPage pg && isHalf low
  | .commitGo _ _ pg => isPage pg
  | .setupStart _ => true
  | .compTrigTimeout _ => true
  | .compositionStart _ => true
  | .engBackBufferReady _ => true
  | .compositionEnd _ => true
  | .motionPublish _ _ v => isWord v
  | .imsPacket _ _ => true
  | .assemblyTimeout _ _ => true
  | .rejectRecordExpiry _ => true
  | .imsCfgWrite _ _ v => isWord v
  | .frameStart _ _ => true
  | .repeatFrame _ _ => true
  | .underrunPersist _ _ => true
  | .holdH2Start _ _ => true
  | .holdEnd _ _ => true
  | .blankingStart _ _ => true
  | .planeStart _ _ => true
  | .blockLoad _ _ => true
  | .blockLoadComplete _ _ => true
  | .resetIssue _ _ => true
  | .underrun _ _ => true
  | .fsyncPulse _ _ => true
  | .fsyncPulseEnd _ _ => true
  | .engStart _ _ _ => true
  | .engStop _ _ _ => true
  | .engStopDone _ _ => true
  | .engPark _ _ _ => true
  | .engFaultClear _ _ _ => true
  | .retrainRetry _ _ => true
  | .frameStartFinal _ _ => true
  | .setpointFrame _ _ resp => isHalf resp
  | .setptDead _ _ => true
  | .setpointLoadRetry _ _ => true
  | .windowEdge _ _ _ => true
  | .lselChange _ _ => true
  | .pdSample _ _ code _ => isHalf code
  | .ratioStale _ _ _ => true
  | .winStuck _ _ _ => true
  | .linkLitCheck _ _ _ pd => isHalf pd
  | .pinMismatch _ _ _ _ => true
  | .ilkClear _ _ _ => true
  | .ilkTest _ _ _ => true
  | .fallbackWindow _ _ => true
  | .fallbackRefresh _ _ => true
  | .fallbackDark _ _ => true
  | .trainingStepTimeout _ _ => true
  | .trainingDone _ _ ms => ms.all fun m => decide (m.rate < 3) && isHalf m.lanes
  | .markEcho _ _ _ stamp => decide (stamp < 2 ^ 48)
  | .sidebandTransaction _ _ op addr data resp =>
    decide (op < 16) && decide (addr < 256) && isHalf data && decide (resp < 2 ^ 40)
  | .sidebandTimeout _ _ => true
  | .sbDead _ _ => true
  | .attn _ _ linkStat crc late errInfo => isHalf linkStat && isHalf crc && isHalf late && isHalf errInfo
  | .linkStatPoll _ _ linkStat => isHalf linkStat
  | .tempPoll _ _ temp => isHalf temp
  | .eyePoll _ _ eyes => eyes.all fun e => decide (e ≤ 1000)
  | .crcWindow _ _ => true
  | .groupProbe _ _ pass => decide (pass < 16)
  | .rateSwitchTimeout _ _ => true
  | .linkLoss _ _ _ groups => decide (groups < 16)
  | .parkLoad _ _ _ v => isWord v
  | .turningPoint _ _ peak lag _ => isHalf peak && isHalf lag
  | .turningPointMissed _ _ => true
  | .slowAxisCheck _ _ err => isHalf err
  | .lmodUpdate _ _ => true
  | .scnUnderrun _ _ => true
  | .scnFrameStart _ _ => true
  | .spinupSweepDone _ _ _ => true
  | .spinupDone _ _ => true
  | .spinupFail _ _ => true
  | .drivesStopped _ _ => true
  | .scnStart _ _ _ => true
  | .scnStop _ _ _ => true
  | .scnPark _ _ _ => true
  | .scnFaultClear _ _ _ => true
  | .pttDataWrite _ _ _ v => isWord v
  | .npFrame _ _ => true
  | .npLatch _ _ => true
  | .npReturnFrame _ _ mark cells quiet => isWord mark && isWord quiet && cells.all fun p => isWord p.1 && isWord p.2
  | .chainOpen _ _ => true
  | .npEnum _ _ _ => true
  | .npStrobe _ _ _ => true
  | .npStrobeMark _ _ => true
  | .cfgAccess _ _ _ v => isWord v
  | .npkDataAccess _ _ _ v => isWord v
  | .keeperWakeFrame _ _ => true
  | .keepaliveStrobe _ _ => true
  | .mxFrameStart _ _ => true
  | .mxRowSlot _ _ => true
  | .mxUnderrun _ _ _ => true
  | .teEdge _ _ _ => true
  | .mxTransferComplete _ _ => true
  | .teTimeout _ _ => true
  | .mxResend _ _ _ => true
  | .tclkTick _ => true
  | .timeIncrWrite _ _ v => isWord v
  | .timeAdjSet _ _ => true
  | .timeAdjStep _ _ => true
  | .timeSlewWrite _ _ v => isWord v
  | .freerun _ => true
  | .pdelayWrite _ _ _ v => isWord v
  | .holdoffEnd _ => true
  | .timeNowRead _ _ => true
  | .engFstartNsRead _ _ _ => true
  | .scnFstartNsRead _ _ _ => true
  | .ltnIlkTimeNsRead _ _ _ => true
  | .npLatchNsRead _ _ _ => true
  | .mxFstartNsRead _ _ _ => true
  | .timePpsinNsRead _ _ => true
  | .thermShutNsRead _ _ => true
  | .txqPush _ _ _ v => isWord v
  | .txqPop _ _ _ => true
  | .ppsOut _ => true
  | .ppsOutEnd _ => true
  | .ppsIn _ _ => true
  | .ppsinValidExpiry _ => true
  | .schedWrite _ _ _ => true
  | .schedRead _ _ _ => true
  | .schedCancel _ _ _ => true
  | .schedDispatch _ => true
  | .strobeHandover _ => true
  | .dmcTrain _ _ => true
  | .trainDone _ _ => true
  | .srEnter _ _ => true
  | .srExit _ _ => true
  | .dmcStop _ _ => true
  | .phyPllLoss _ => true
  | .portRequest _ _ write _ len data => !write || data.length == len
  | .writeQueueEntry _ _ => true
  | .requestComplete _ _ _ => true
  | .grantBoundary _ _ _ _ => true
  | .refreshDue _ _ _ => true
  | .retrainSlice _ _ => true
  | .mr4Read _ _ _ _ _ _ => true
  | .rhWindowEnd _ => true
  | .powerDownEntry _ _ _ => true
  | .mbxPush _ _ => true
  | .mbxPop _ _ => true
  | .rspDrop _ _ => true
  | .mbxCommandTimeout _ _ => true
  | .ping _ => true
  | .engineStart _ => true
  | .engineStop _ => true
  | .enginePark _ => true
  | .engineFaultClear _ => true
  | .programLoad _ => true
  | .calRun _ => true
  | .calStore _ todo => todo.all fun e => decide (e.1 ≤ 0x0D) && isPayload e.2
  | .nvmCommit _ payload => isPayload payload
  | .timeSet _ => true
  | .seqStart _ => true
  | .contentOpen _ => true
  | .contentOpenDone _ p => p.place.all fun a => a % 64 == 0
  | .logStop _ => true
  | .logEventLog _ => true
  | .logRecorder _ => true
  | .logFlush _ => true
  | .powerStateRun _ => true
  | .powerStateStandby _ => true
  | .powerStateBivouac _ todo => todo.all fun e => decide (e.1 ≤ 0x10) && isPayload e.2
  | .bivouacEntry _ => true
  | .diagSnapshot _ => true
  | .mpLoadWindow _ load ext => decide (load ≤ 100) && decide (ext ≤ 100)
  | .extBudgetPeriod _ => true
  | .extPreempt _ => true
  | .extFault _ a _ => isWord a
  | .lockstep _ => true
  | .mpFault _ _ => true
  | .wdogKick _ _ v => isWord v
  | .wdogExpiry _ => true
  | .runtimeUp _ => true
  | .shortWindowClose _ => true
  | .longWindowClose _ => true
  | .hspiRead _ _ => true
  | .hspiWrite _ _ => true
  | .icpRead _ _ => true
  | .icpWrite _ _ => true
  | .icpMbx _ _ => true
  | .bulkOpen _ _ => true
  | .bulkData _ _ => true
  | .bulkClose _ _ => true
  | .bulkCloseComplete _ _ => true
  | .bulkAbort _ _ => true
  | .bulkIdle _ => true
  | .basecampPowerOn _ _ => true
  | .vbatSample _ _ => true
  | .pfw _ _ _ => true
  | .pfwEnd _ _ _ => true
  | .vbatOv _ _ _ => true
  | .vbatOvEnd _ _ _ => true
  | .supplyLoss _ _ => true
  | .supplyPowerDown _ => true
  | .supplyRestart _ _ _ => true
  | .restartCountClear _ => true
  | .seqStepComplete _ => true
  | .stepDelayExpiry _ => true
  | .pgTimeout _ => true
  | .xtalGood _ => true
  | .xtalStart _ => true
  | .seqDownStep _ _ => true
  | .xtalMonitorWindow _ _ => true
  | .xtalFailPersist _ => true
  | .avsUpdate _ _ => true
  | .pdReqWrite _ _ v => isWord v
  | .domainOn _ _ => true
  | .pwrCmdRun _ _ => true
  | .pwrCmdStandby _ _ => true
  | .pwrCmdBivouac _ _ => true
  | .wakePin _ _ _ => true
  | .wakeQualified _ _ => true
  | .wakeTimer _ => true
  | .pinReset _ _ => true
  | .nresetRise _ => true
  | .systemReset _ _ v => isWord v
  | .vbatLoss _ _ => true
  | .vbatMinWrite _ _ v => isWord v
  | .pbaGrant _ => true
  | .pbaEvaluation _ => true
  | .waitLong _ => true
  | .sensorSample _ _ _ => true
  | .tsbSample _ _ => true
  | .xtSample _ _ _ => true
  | .throtStepUp _ => true
  | .throtStepDown _ => true
  | .revalidate _ _ _ => true
  | .thermalRestart _ _ _ => true
  | .calMeasurementStart _ cls inst _ _ _ => isClass cls inst
  | .calMeasurementDone _ cls inst m => isClass cls inst && decide (m.second ≤ 2 ^ 32)
  | .calUnstable _ cls inst => isClass cls inst
  | .calCmd _ _ _ _ => true
  | .calTimeout _ => true
  | .nvmProgram _ _ _ => true
  | .nvmRead _ _ _ => true
  | .nvmGranuleDone _ _ => true
  | .nvmScan _ => true
  | .scanDone _ => true
  | .boot _ _ _ _ => true
  | .recoveryBoot _ _ _ _ => true
  | .keyWrite _ _ _ => true
  | .keyErase _ _ _ => true
  | .keyLock _ _ _ => true
  | .keyRevoke _ _ _ => true
  | .svnAdvance _ _ svn => decide (svn < 2 ^ 31)
  | .ethFrameRx _ _ f => decide (14 ≤ f.bytes.length)
  | .ethTxDoorbell _ _ _ v => isWord v
  | .ethFrameTx _ _ _ => true
  | .linkChange _ _ _ => true
  | .msecSaInstall _ _ _ v => isWord v
  | .canFrameRx _ _ f =>
    decide (f.kind ≤ 2) && decide (f.id < 2 ^ 29) && decide (f.data.length ≤ (if f.kind = 0 then 8 else if f.kind = 1 then 64 else 2048))
  | .canFrameTx _ _ => true
  | .busOff _ _ => true
  | .canRecover _ _ _ => true
  | .storLinkUp _ _ => true
  | .storShutdown _ _ => true
  | .storLinkDrop _ => true
  | .storDoorbell _ _ _ v => isWord v
  | .cqPosted _ index _ => decide (index < 64)
  | .nvmeTimeout _ index => decide (index < 64)
  | .storInitDone _ i => decide (i.rate < 4)
  | .busOffRecoveryDone _ _ => true
  | .keeperFrameEnd _ _ => true

end Sys2Proof
end

