-- ==== Sys2Proof/Laws/PerInstr.lean ====
section
/-!
SUPPORT. One family of facts about the commands as syntax: the instant of a command is an operand of its own. A command moved
to another instant is well-formed when it was, and the first is it moved back.
-/

namespace Sys2Proof.Laws

/-- `j` is the command `i` at some instant. -/
def Retimed (i j : Instr) : Prop :=
  match i with
  | .registerWrite _ path a width v => ∃ t, j = .registerWrite t path a width v
  | .fsramWrite _ path off v => ∃ t, j = .fsramWrite t path off v
  | .apertureAccess _ path off write v => ∃ t, j = .apertureAccess t path off write v
  | .errCodeClear _ path pg v => ∃ t, j = .errCodeClear t path pg v
  | .softReset _ path pg v => ∃ t, j = .softReset t path pg v
  | .blockEnable _ path pg en => ∃ t, j = .blockEnable t path pg en
  | .freeze _ path pg fr => ∃ t, j = .freeze t path pg fr
  | .irqSet _ path pg v => ∃ t, j = .irqSet t path pg v
  | .lock _ path pg low => ∃ t, j = .lock t path pg low
  | .commitGo _ path pg => ∃ t, j = .commitGo t path pg
  | .setupStart _ => ∃ t, j = .setupStart t
  | .compTrigTimeout _ => ∃ t, j = .compTrigTimeout t
  | .compositionStart _ => ∃ t, j = .compositionStart t
  | .engBackBufferReady _ => ∃ t, j = .engBackBufferReady t
  | .compositionEnd _ => ∃ t, j = .compositionEnd t
  | .motionPublish _ path v => ∃ t, j = .motionPublish t path v
  | .imsPacket _ n => ∃ t, j = .imsPacket t n
  | .assemblyTimeout _ ix => ∃ t, j = .assemblyTimeout t ix
  | .rejectRecordExpiry _ => ∃ t, j = .rejectRecordExpiry t
  | .imsCfgWrite _ path v => ∃ t, j = .imsCfgWrite t path v
  | .frameStart _ n => ∃ t, j = .frameStart t n
  | .repeatFrame _ n => ∃ t, j = .repeatFrame t n
  | .underrunPersist _ u => ∃ t, j = .underrunPersist t u
  | .holdH2Start _ n => ∃ t, j = .holdH2Start t n
  | .holdEnd _ n => ∃ t, j = .holdEnd t n
  | .blankingStart _ n => ∃ t, j = .blankingStart t n
  | .planeStart _ n => ∃ t, j = .planeStart t n
  | .blockLoad _ n => ∃ t, j = .blockLoad t n
  | .blockLoadComplete _ n => ∃ t, j = .blockLoadComplete t n
  | .resetIssue _ n => ∃ t, j = .resetIssue t n
  | .underrun _ n => ∃ t, j = .underrun t n
  | .fsyncPulse _ n => ∃ t, j = .fsyncPulse t n
  | .fsyncPulseEnd _ n => ∃ t, j = .fsyncPulseEnd t n
  | .engStart _ path n => ∃ t, j = .engStart t path n
  | .engStop _ path n => ∃ t, j = .engStop t path n
  | .engStopDone _ n => ∃ t, j = .engStopDone t n
  | .engPark _ path n => ∃ t, j = .engPark t path n
  | .engFaultClear _ path n => ∃ t, j = .engFaultClear t path n
  | .retrainRetry _ n => ∃ t, j = .retrainRetry t n
  | .frameStartFinal _ x => ∃ t, j = .frameStartFinal t x
  | .setpointFrame _ x resp => ∃ t, j = .setpointFrame t x resp
  | .setptDead _ x => ∃ t, j = .setptDead t x
  | .setpointLoadRetry _ x => ∃ t, j = .setpointLoadRetry t x
  | .windowEdge _ x on => ∃ t, j = .windowEdge t x on
  | .lselChange _ x => ∃ t, j = .lselChange t x
  | .pdSample _ x code echo => ∃ t, j = .pdSample t x code echo
  | .ratioStale _ x lvl => ∃ t, j = .ratioStale t x lvl
  | .winStuck _ x echo => ∃ t, j = .winStuck t x echo
  | .linkLitCheck _ x echo pd => ∃ t, j = .linkLitCheck t x echo pd
  | .pinMismatch _ x pin dur => ∃ t, j = .pinMismatch t x pin dur
  | .ilkClear _ path x => ∃ t, j = .ilkClear t path x
  | .ilkTest _ path x => ∃ t, j = .ilkTest t path x
  | .fallbackWindow _ x => ∃ t, j = .fallbackWindow t x
  | .fallbackRefresh _ x => ∃ t, j = .fallbackRefresh t x
  | .fallbackDark _ x => ∃ t, j = .fallbackDark t x
  | .trainingStepTimeout _ n => ∃ t, j = .trainingStepTimeout t n
  | .trainingDone _ n ms => ∃ t, j = .trainingDone t n ms
  | .markEcho _ n echo stamp => ∃ t, j = .markEcho t n echo stamp
  | .sidebandTransaction _ n op addr data resp => ∃ t, j = .sidebandTransaction t n op addr data resp
  | .sidebandTimeout _ n => ∃ t, j = .sidebandTimeout t n
  | .sbDead _ n => ∃ t, j = .sbDead t n
  | .attn _ n linkStat crc late errInfo => ∃ t, j = .attn t n linkStat crc late errInfo
  | .linkStatPoll _ n linkStat => ∃ t, j = .linkStatPoll t n linkStat
  | .tempPoll _ n temp => ∃ t, j = .tempPoll t n temp
  | .eyePoll _ n eyes => ∃ t, j = .eyePoll t n eyes
  | .crcWindow _ n => ∃ t, j = .crcWindow t n
  | .groupProbe _ n pass => ∃ t, j = .groupProbe t n pass
  | .rateSwitchTimeout _ n => ∃ t, j = .rateSwitchTimeout t n
  | .linkLoss _ n pll groups => ∃ t, j = .linkLoss t n pll groups
  | .parkLoad _ path n v => ∃ t, j = .parkLoad t path n v
  | .turningPoint _ k peak lag locked => ∃ t, j = .turningPoint t k peak lag locked
  | .turningPointMissed _ k => ∃ t, j = .turningPointMissed t k
  | .slowAxisCheck _ k err => ∃ t, j = .slowAxisCheck t k err
  | .lmodUpdate _ k => ∃ t, j = .lmodUpdate t k
  | .scnUnderrun _ k => ∃ t, j = .scnUnderrun t k
  | .scnFrameStart _ k => ∃ t, j = .scnFrameStart t k
  | .spinupSweepDone _ k freq => ∃ t, j = .spinupSweepDone t k freq
  | .spinupDone _ k => ∃ t, j = .spinupDone t k
  | .spinupFail _ k => ∃ t, j = .spinupFail t k
  | .drivesStopped _ k => ∃ t, j = .drivesStopped t k
  | .scnStart _ path k => ∃ t, j = .scnStart t path k
  | .scnStop _ path k => ∃ t, j = .scnStop t path k
  | .scnPark _ path k => ∃ t, j = .scnPark t path k
  | .scnFaultClear _ path k => ∃ t, j = .scnFaultClear t path k
  | .pttDataWrite _ path k v => ∃ t, j = .pttDataWrite t path k v
  | .npFrame _ q => ∃ t, j = .npFrame t q
  | .npLatch _ q => ∃ t, j = .npLatch t q
  | .npReturnFrame _ q mark cells quiet => ∃ t, j = .npReturnFrame t q mark cells quiet
  | .chainOpen _ q => ∃ t, j = .chainOpen t q
  | .npEnum _ path q => ∃ t, j = .npEnum t path q
  | .npStrobe _ path q => ∃ t, j = .npStrobe t path q
  | .npStrobeMark _ q => ∃ t, j = .npStrobeMark t q
  | .cfgAccess _ path q v => ∃ t, j = .cfgAccess t path q v
  | .npkDataAccess _ path write v => ∃ t, j = .npkDataAccess t path write v
  | .keeperWakeFrame _ p => ∃ t, j = .keeperWakeFrame t p
  | .keepaliveStrobe _ p => ∃ t, j = .keepaliveStrobe t p
  | .mxFrameStart _ q => ∃ t, j = .mxFrameStart t q
  | .mxRowSlot _ q => ∃ t, j = .mxRowSlot t q
  | .mxUnderrun _ q c => ∃ t, j = .mxUnderrun t q c
  | .teEdge _ q falling => ∃ t, j = .teEdge t q falling
  | .mxTransferComplete _ q => ∃ t, j = .mxTransferComplete t q
  | .teTimeout _ q => ∃ t, j = .teTimeout t q
  | .mxResend _ path q => ∃ t, j = .mxResend t path q
  | .tclkTick _ => ∃ t, j = .tclkTick t
  | .timeIncrWrite _ path v => ∃ t, j = .timeIncrWrite t path v
  | .timeAdjSet _ path => ∃ t, j = .timeAdjSet t path
  | .timeAdjStep _ path => ∃ t, j = .timeAdjStep t path
  | .timeSlewWrite _ path v => ∃ t, j = .timeSlewWrite t path v
  | .freerun _ => ∃ t, j = .freerun t
  | .pdelayWrite _ path p v => ∃ t, j = .pdelayWrite t path p v
  | .holdoffEnd _ => ∃ t, j = .holdoffEnd t
  | .timeNowRead _ path => ∃ t, j = .timeNowRead t path
  | .engFstartNsRead _ path n => ∃ t, j = .engFstartNsRead t path n
  | .scnFstartNsRead _ path k => ∃ t, j = .scnFstartNsRead t path k
  | .ltnIlkTimeNsRead _ path x => ∃ t, j = .ltnIlkTimeNsRead t path x
  | .npLatchNsRead _ path q => ∃ t, j = .npLatchNsRead t path q
  | .mxFstartNsRead _ path q => ∃ t, j = .mxFstartNsRead t path q
  | .timePpsinNsRead _ path => ∃ t, j = .timePpsinNsRead t path
  | .thermShutNsRead _ path => ∃ t, j = .thermShutNsRead t path
  | .txqPush _ path p v => ∃ t, j = .txqPush t path p v
  | .txqPop _ path p => ∃ t, j = .txqPop t path p
  | .ppsOut _ => ∃ t, j = .ppsOut t
  | .ppsOutEnd _ => ∃ t, j = .ppsOutEnd t
  | .ppsIn _ falling => ∃ t, j = .ppsIn t falling
  | .ppsinValidExpiry _ => ∃ t, j = .ppsinValidExpiry t
  | .schedWrite _ path ix => ∃ t, j = .schedWrite t path ix
  | .schedRead _ path ix => ∃ t, j = .schedRead t path ix
  | .schedCancel _ path ix => ∃ t, j = .schedCancel t path ix
  | .schedDispatch _ => ∃ t, j = .schedDispatch t
  | .strobeHandover _ => ∃ t, j = .strobeHandover t
  | .dmcTrain _ path => ∃ t, j = .dmcTrain t path
  | .trainDone _ res => ∃ t, j = .trainDone t res
  | .srEnter _ path => ∃ t, j = .srEnter t path
  | .srExit _ path => ∃ t, j = .srExit t path
  | .dmcStop _ path => ∃ t, j = .dmcStop t path
  | .phyPllLoss _ => ∃ t, j = .phyPllLoss t
  | .portRequest _ p write pa len data => ∃ t, j = .portRequest t p write pa len data
  | .writeQueueEntry _ p => ∃ t, j = .writeQueueEntry t p
  | .requestComplete _ p ecc => ∃ t, j = .requestComplete t p ecc
  | .grantBoundary _ c drift ecc => ∃ t, j = .grantBoundary t c drift ecc
  | .refreshDue _ c r => ∃ t, j = .refreshDue t c r
  | .retrainSlice _ c => ∃ t, j = .retrainSlice t c
  | .mr4Read _ c r code band cool => ∃ t, j = .mr4Read t c r code band cool
  | .rhWindowEnd _ => ∃ t, j = .rhWindowEnd t
  | .powerDownEntry _ c r => ∃ t, j = .powerDownEntry t c r
  | .mbxPush _ path => ∃ t, j = .mbxPush t path
  | .mbxPop _ path => ∃ t, j = .mbxPop t path
  | .rspDrop _ ix => ∃ t, j = .rspDrop t ix
  | .mbxCommandTimeout _ ix => ∃ t, j = .mbxCommandTimeout t ix
  | .ping _ => ∃ t, j = .ping t
  | .engineStart _ => ∃ t, j = .engineStart t
  | .engineStop _ => ∃ t, j = .engineStop t
  | .enginePark _ => ∃ t, j = .enginePark t
  | .engineFaultClear _ => ∃ t, j = .engineFaultClear t
  | .programLoad _ => ∃ t, j = .programLoad t
  | .calRun _ => ∃ t, j = .calRun t
  | .calStore _ todo => ∃ t, j = .calStore t todo
  | .nvmCommit _ payload => ∃ t, j = .nvmCommit t payload
  | .timeSet _ => ∃ t, j = .timeSet t
  | .seqStart _ => ∃ t, j = .seqStart t
  | .contentOpen _ => ∃ t, j = .contentOpen t
  | .contentOpenDone _ p => ∃ t, j = .contentOpenDone t p
  | .logStop _ => ∃ t, j = .logStop t
  | .logEventLog _ => ∃ t, j = .logEventLog t
  | .logRecorder _ => ∃ t, j = .logRecorder t
  | .logFlush _ => ∃ t, j = .logFlush t
  | .powerStateRun _ => ∃ t, j = .powerStateRun t
  | .powerStateStandby _ => ∃ t, j = .powerStateStandby t
  | .powerStateBivouac _ todo => ∃ t, j = .powerStateBivouac t todo
  | .bivouacEntry _ => ∃ t, j = .bivouacEntry t
  | .diagSnapshot _ => ∃ t, j = .diagSnapshot t
  | .mpLoadWindow _ load ext => ∃ t, j = .mpLoadWindow t load ext
  | .extBudgetPeriod _ => ∃ t, j = .extBudgetPeriod t
  | .extPreempt _ => ∃ t, j = .extPreempt t
  | .extFault _ a write => ∃ t, j = .extFault t a write
  | .lockstep _ => ∃ t, j = .lockstep t
  | .mpFault _ ext => ∃ t, j = .mpFault t ext
  | .wdogKick _ path v => ∃ t, j = .wdogKick t path v
  | .wdogExpiry _ => ∃ t, j = .wdogExpiry t
  | .runtimeUp _ => ∃ t, j = .runtimeUp t
  | .shortWindowClose _ => ∃ t, j = .shortWindowClose t
  | .longWindowClose _ => ∃ t, j = .longWindowClose t
  | .hspiRead _ mosi => ∃ t, j = .hspiRead t mosi
  | .hspiWrite _ mosi => ∃ t, j = .hspiWrite t mosi
  | .icpRead _ n => ∃ t, j = .icpRead t n
  | .icpWrite _ n => ∃ t, j = .icpWrite t n
  | .icpMbx _ n => ∃ t, j = .icpMbx t n
  | .bulkOpen _ n => ∃ t, j = .bulkOpen t n
  | .bulkData _ n => ∃ t, j = .bulkData t n
  | .bulkClose _ n => ∃ t, j = .bulkClose t n
  | .bulkCloseComplete _ ok => ∃ t, j = .bulkCloseComplete t ok
  | .bulkAbort _ n => ∃ t, j = .bulkAbort t n
  | .bulkIdle _ => ∃ t, j = .bulkIdle t
  | .basecampPowerOn _ v => ∃ t, j = .basecampPowerOn t v
  | .vbatSample _ v => ∃ t, j = .vbatSample t v
  | .pfw _ v dur => ∃ t, j = .pfw t v dur
  | .pfwEnd _ v dur => ∃ t, j = .pfwEnd t v dur
  | .vbatOv _ v dur => ∃ t, j = .vbatOv t v dur
  | .vbatOvEnd _ v dur => ∃ t, j = .vbatOvEnd t v dur
  | .supplyLoss _ f => ∃ t, j = .supplyLoss t f
  | .supplyPowerDown _ => ∃ t, j = .supplyPowerDown t
  | .supplyRestart _ v dur => ∃ t, j = .supplyRestart t v dur
  | .restartCountClear _ => ∃ t, j = .restartCountClear t
  | .seqStepComplete _ => ∃ t, j = .seqStepComplete t
  | .stepDelayExpiry _ => ∃ t, j = .stepDelayExpiry t
  | .pgTimeout _ => ∃ t, j = .pgTimeout t
  | .xtalGood _ => ∃ t, j = .xtalGood t
  | .xtalStart _ => ∃ t, j = .xtalStart t
  | .seqDownStep _ fell => ∃ t, j = .seqDownStep t fell
  | .xtalMonitorWindow _ good => ∃ t, j = .xtalMonitorWindow t good
  | .xtalFailPersist _ => ∃ t, j = .xtalFailPersist t
  | .avsUpdate _ want => ∃ t, j = .avsUpdate t want
  | .pdReqWrite _ path v => ∃ t, j = .pdReqWrite t path v
  | .domainOn _ d => ∃ t, j = .domainOn t d
  | .pwrCmdRun _ path => ∃ t, j = .pwrCmdRun t path
  | .pwrCmdStandby _ path => ∃ t, j = .pwrCmdStandby t path
  | .pwrCmdBivouac _ path => ∃ t, j = .pwrCmdBivouac t path
  | .wakePin _ ix level => ∃ t, j = .wakePin t ix level
  | .wakeQualified _ ix => ∃ t, j = .wakeQualified t ix
  | .wakeTimer _ => ∃ t, j = .wakeTimer t
  | .pinReset _ dur => ∃ t, j = .pinReset t dur
  | .nresetRise _ => ∃ t, j = .nresetRise t
  | .systemReset _ path v => ∃ t, j = .systemReset t path v
  | .vbatLoss _ v => ∃ t, j = .vbatLoss t v
  | .vbatMinWrite _ path v => ∃ t, j = .vbatMinWrite t path v
  | .pbaGrant _ => ∃ t, j = .pbaGrant t
  | .pbaEvaluation _ => ∃ t, j = .pbaEvaluation t
  | .waitLong _ => ∃ t, j = .waitLong t
  | .sensorSample _ ix r => ∃ t, j = .sensorSample t ix r
  | .tsbSample _ r => ∃ t, j = .tsbSample t r
  | .xtSample _ ix r => ∃ t, j = .xtSample t ix r
  | .throtStepUp _ => ∃ t, j = .throtStepUp t
  | .throtStepDown _ => ∃ t, j = .throtStepDown t
  | .revalidate _ path src => ∃ t, j = .revalidate t path src
  | .thermalRestart _ v dur => ∃ t, j = .thermalRestart t v dur
  | .calMeasurementStart _ cls inst a b matched => ∃ t, j = .calMeasurementStart t cls inst a b matched
  | .calMeasurementDone _ cls inst m => ∃ t, j = .calMeasurementDone t cls inst m
  | .calUnstable _ cls inst => ∃ t, j = .calUnstable t cls inst
  | .calCmd _ path cls inst => ∃ t, j = .calCmd t path cls inst
  | .calTimeout _ => ∃ t, j = .calTimeout t
  | .nvmProgram _ path count => ∃ t, j = .nvmProgram t path count
  | .nvmRead _ path count => ∃ t, j = .nvmRead t path count
  | .nvmGranuleDone _ res => ∃ t, j = .nvmGranuleDone t res
  | .nvmScan _ => ∃ t, j = .nvmScan t
  | .scanDone _ => ∃ t, j = .scanDone t
  | .boot _ a b ext => ∃ t, j = .boot t a b ext
  | .recoveryBoot _ path key sig => ∃ t, j = .recoveryBoot t path key sig
  | .keyWrite _ path slot => ∃ t, j = .keyWrite t path slot
  | .keyErase _ path slot => ∃ t, j = .keyErase t path slot
  | .keyLock _ path slot => ∃ t, j = .keyLock t path slot
  | .keyRevoke _ path slot => ∃ t, j = .keyRevoke t path slot
  | .svnAdvance _ path svn => ∃ t, j = .svnAdvance t path svn
  | .ethFrameRx _ n f => ∃ t, j = .ethFrameRx t n f
  | .ethTxDoorbell _ path n v => ∃ t, j = .ethTxDoorbell t path n v
  | .ethFrameTx _ n icp => ∃ t, j = .ethFrameTx t n icp
  | .linkChange _ n up => ∃ t, j = .linkChange t n up
  | .msecSaInstall _ path n v => ∃ t, j = .msecSaInstall t path n v
  | .canFrameRx _ n f => ∃ t, j = .canFrameRx t n f
  | .canFrameTx _ n => ∃ t, j = .canFrameTx t n
  | .busOff _ n => ∃ t, j = .busOff t n
  | .canRecover _ path n => ∃ t, j = .canRecover t path n
  | .storLinkUp _ path => ∃ t, j = .storLinkUp t path
  | .storShutdown _ path => ∃ t, j = .storShutdown t path
  | .storLinkDrop _ => ∃ t, j = .storLinkDrop t
  | .storDoorbell _ path cq v => ∃ t, j = .storDoorbell t path cq v
  | .cqPosted _ index error => ∃ t, j = .cqPosted t index error
  | .nvmeTimeout _ index => ∃ t, j = .nvmeTimeout t index
  | .storInitDone _ ix => ∃ t, j = .storInitDone t ix
  | .busOffRecoveryDone _ n => ∃ t, j = .busOffRecoveryDone t n
  | .keeperFrameEnd _ p => ∃ t, j = .keeperFrameEnd t p

/-- Moving a command in time leaves it well-formed or not, and can be undone. -/
def Retime.Statement (i : Instr) : Prop := ∀ j : Instr, Retimed i j → j.wf = i.wf ∧ Retimed j i

theorem Retime.registerWrite (t : Nat) (path : Path) (a width v : Nat) : Retime.Statement (.registerWrite t path a width v) := by
  rintro _ ⟨_, rfl⟩; exact ⟨rfl, _, rfl⟩
theorem Retime.fsramWrite (t : Nat) (path : Path) (off v : Nat) : Retime.Statement (.fsramWrite t path off v) := by
  rintro _ ⟨_, rfl⟩; exact ⟨rfl, _, rfl⟩
theorem Retime.apertureAccess (t : Nat) (path : Path) (off : Nat) (write : Bool) (v : Nat) : Retime.Statement (.apertureAccess t path off write v) := by
  rintro _ ⟨_, rfl⟩; exact ⟨rfl, _, rfl⟩
theorem Retime.errCodeClear (t : Nat) (path : Path) (pg v : Nat) : Retime.Statement (.errCodeClear t path pg v) := by
  rintro _ ⟨_, rfl⟩; exact ⟨rfl, _, rfl⟩
theorem Retime.softReset (t : Nat) (path : Path) (pg v : Nat) : Retime.Statement (.softReset t path pg v) := by
  rintro _ ⟨_, rfl⟩; exact ⟨rfl, _, rfl⟩
theorem Retime.blockEnable (t : Nat) (path : Path) (pg : Nat) (en : Bool) : Retime.Statement (.blockEnable t path pg en) := by
  rintro _ ⟨_, rfl⟩; exact ⟨rfl, _, rfl⟩
theorem Retime.freeze (t : Nat) (path : Path) (pg : Nat) (fr : Bool) : Retime.Statement (.freeze t path pg fr) := by
  rintro _ ⟨_, rfl⟩; exact ⟨rfl, _, rfl⟩
theorem Retime.irqSet (t : Nat) (path : Path) (pg v : Nat) : Retime.Statement (.irqSet t path pg v) := by
  rintro _ ⟨_, rfl⟩; exact ⟨rfl, _, rfl⟩
theorem Retime.lock (t : Nat) (path : Path) (pg low : Nat) : Retime.Statement (.lock t path pg low) := by
  rintro _ ⟨_, rfl⟩; exact ⟨rfl, _, rfl⟩
theorem Retime.commitGo (t : Nat) (path : Path) (pg : Nat) : Retime.Statement (.commitGo t path pg) := by
  rintro _ ⟨_, rfl⟩; exact ⟨rfl, _, rfl⟩
theorem Retime.setupStart (t : Nat) : Retime.Statement (.setupStart t) := by
  rintro _ ⟨_, rfl⟩; exact ⟨rfl, _, rfl⟩
theorem Retime.compTrigTimeout (t : Nat) : Retime.Statement (.compTrigTimeout t) := by
  rintro _ ⟨_, rfl⟩; exact ⟨rfl, _, rfl⟩
theorem Retime.compositionStart (t : Nat) : Retime.Statement (.compositionStart t) := by
  rintro _ ⟨_, rfl⟩; exact ⟨rfl, _, rfl⟩
theorem Retime.engBackBufferReady (t : Nat) : Retime.Statement (.engBackBufferReady t) := by
  rintro _ ⟨_, rfl⟩; exact ⟨rfl, _, rfl⟩
theorem Retime.compositionEnd (t : Nat) : Retime.Statement (.compositionEnd t) := by
  rintro _ ⟨_, rfl⟩; exact ⟨rfl, _, rfl⟩
theorem Retime.motionPublish (t : Nat) (path : Path) (v : Nat) : Retime.Statement (.motionPublish t path v) := by
  rintro _ ⟨_, rfl⟩; exact ⟨rfl, _, rfl⟩
theorem Retime.imsPacket (t : Nat) (n : Fin 4) : Retime.Statement (.imsPacket t n) := by
  rintro _ ⟨_, rfl⟩; exact ⟨rfl, _, rfl⟩
theorem Retime.assemblyTimeout (t : Nat) (i : Fin 4) : Retime.Statement (.assemblyTimeout t ix) := by
  rintro _ ⟨_, rfl⟩; exact ⟨rfl, _, rfl⟩
theorem Retime.rejectRecordExpiry (t : Nat) : Retime.Statement (.rejectRecordExpiry t) := by
  rintro _ ⟨_, rfl⟩; exact ⟨rfl, _, rfl⟩
theorem Retime.imsCfgWrite (t : Nat) (path : Path) (v : Nat) : Retime.Statement (.imsCfgWrite t path v) := by
  rintro _ ⟨_, rfl⟩; exact ⟨rfl, _, rfl⟩
theorem Retime.frameStart (t : Nat) (n : Fin 4) : Retime.Statement (.frameStart t n) := by
  rintro _ ⟨_, rfl⟩; exact ⟨rfl, _, rfl⟩
theorem Retime.repeatFrame (t : Nat) (n : Fin 4) : Retime.Statement (.repeatFrame t n) := by
  rintro _ ⟨_, rfl⟩; exact ⟨rfl, _, rfl⟩
theorem Retime.underrunPersist (t : Nat) (u : Fin 6) : Retime.Statement (.underrunPersist t u) := by
  rintro _ ⟨_, rfl⟩; exact ⟨rfl, _, rfl⟩
theorem Retime.holdH2Start (t : Nat) (n : Fin 4) : Retime.Statement (.holdH2Start t n) := by
  rintro _ ⟨_, rfl⟩; exact ⟨rfl, _, rfl⟩
theorem Retime.holdEnd (t : Nat) (n : Fin 4) : Retime.Statement (.holdEnd t n) := by
  rintro _ ⟨_, rfl⟩; exact ⟨rfl, _, rfl⟩
theorem Retime.blankingStart (t : Nat) (n : Fin 4) : Retime.Statement (.blankingStart t n) := by
  rintro _ ⟨_, rfl⟩; exact ⟨rfl, _, rfl⟩
theorem Retime.planeStart (t : Nat) (n : Fin 4) : Retime.Statement (.planeStart t n) := by
  rintro _ ⟨_, rfl⟩; exact ⟨rfl, _, rfl⟩
theorem Retime.blockLoad (t : Nat) (n : Fin 4) : Retime.Statement (.blockLoad t n) := by
  rintro _ ⟨_, rfl⟩; exact ⟨rfl, _, rfl⟩
theorem Retime.blockLoadComplete (t : Nat) (n : Fin 4) : Retime.Statement (.blockLoadComplete t n) := by
  rintro _ ⟨_, rfl⟩; exact ⟨rfl, _, rfl⟩
theorem Retime.resetIssue (t : Nat) (n : Fin 4) : Retime.Statement (.resetIssue t n) := by
  rintro _ ⟨_, rfl⟩; exact ⟨rfl, _, rfl⟩
theorem Retime.underrun (t : Nat) (n : Fin 4) : Retime.Statement (.underrun t n) := by
  rintro _ ⟨_, rfl⟩; exact ⟨rfl, _, rfl⟩
theorem Retime.fsyncPulse (t : Nat) (n : Fin 4) : Retime.Statement (.fsyncPulse t n) := by
  rintro _ ⟨_, rfl⟩; exact ⟨rfl, _, rfl⟩
theorem Retime.fsyncPulseEnd (t : Nat) (n : Fin 4) : Retime.Statement (.fsyncPulseEnd t n) := by
  rintro _ ⟨_, rfl⟩; exact ⟨rfl, _, rfl⟩
theorem Retime.engStart (t : Nat) (path : Path) (n : Fin 4) : Retime.Statement (.engStart t path n) := by
  rintro _ ⟨_, rfl⟩; exact ⟨rfl, _, rfl⟩
theorem Retime.engStop (t : Nat) (path : Path) (n : Fin 4) : Retime.Statement (.engStop t path n) := by
  rintro _ ⟨_, rfl⟩; exact ⟨rfl, _, rfl⟩
theorem Retime.engStopDone (t : Nat) (n : Fin 4) : Retime.Statement (.engStopDone t n) := by
  rintro _ ⟨_, rfl⟩; exact ⟨rfl, _, rfl⟩
theorem Retime.engPark (t : Nat) (path : Path) (n : Fin 4) : Retime.Statement (.engPark t path n) := by
  rintro _ ⟨_, rfl⟩; exact ⟨rfl, _, rfl⟩
theorem Retime.engFaultClear (t : Nat) (path : Path) (n : Fin 4) : Retime.Statement (.engFaultClear t path n) := by
  rintro _ ⟨_, rfl⟩; exact ⟨rfl, _, rfl⟩
theorem Retime.retrainRetry (t : Nat) (n : Fin 4) : Retime.Statement (.retrainRetry t n) := by
  rintro _ ⟨_, rfl⟩; exact ⟨rfl, _, rfl⟩
theorem Retime.frameStartFinal (t : Nat) (x : Fin 6) : Retime.Statement (.frameStartFinal t x) := by
  rintro _ ⟨_, rfl⟩; exact ⟨rfl, _, rfl⟩
theorem Retime.setpointFrame (t : Nat) (x : Fin 6) (resp : Nat) : Retime.Statement (.setpointFrame t x resp) := by
  rintro _ ⟨_, rfl⟩; exact ⟨rfl, _, rfl⟩
theorem Retime.setptDead (t : Nat) (x : Fin 6) : Retime.Statement (.setptDead t x) := by
  rintro _ ⟨_, rfl⟩; exact ⟨rfl, _, rfl⟩
theorem Retime.setpointLoadRetry (t : Nat) (x : Fin 6) : Retime.Statement (.setpointLoadRetry t x) := by
  rintro _ ⟨_, rfl⟩; exact ⟨rfl, _, rfl⟩
theorem Retime.windowEdge (t : Nat) (x : Fin 6) (on : Bool) : Retime.Statement (.windowEdge t x on) := by
  rintro _ ⟨_, rfl⟩; exact ⟨rfl, _, rfl⟩
theorem Retime.lselChange (t : Nat) (x : Fin 6) : Retime.Statement (.lselChange t x) := by
  rintro _ ⟨_, rfl⟩; exact ⟨rfl, _, rfl⟩
theorem Retime.pdSample (t : Nat) (x : Fin 6) (code : Nat) (echo : Bool) : Retime.Statement (.pdSample t x code echo) := by
  rintro _ ⟨_, rfl⟩; exact ⟨rfl, _, rfl⟩
theorem Retime.ratioStale (t : Nat) (x : Fin 6) (lvl : Fin 4) : Retime.Statement (.ratioStale t x lvl) := by
  rintro _ ⟨_, rfl⟩; exact ⟨rfl, _, rfl⟩
theorem Retime.winStuck (t : Nat) (x : Fin 6) (echo : Bool) : Retime.Statement (.winStuck t x echo) := by
  rintro _ ⟨_, rfl⟩; exact ⟨rfl, _, rfl⟩
theorem Retime.linkLitCheck (t : Nat) (x : Fin 6) (echo : Bool) (pd : Nat) : Retime.Statement (.linkLitCheck t x echo pd) := by
  rintro _ ⟨_, rfl⟩; exact ⟨rfl, _, rfl⟩
theorem Retime.pinMismatch (t : Nat) (x : Fin 6) (pin : Bool) (dur : Nat) : Retime.Statement (.pinMismatch t x pin dur) := by
  rintro _ ⟨_, rfl⟩; exact ⟨rfl, _, rfl⟩
theorem Retime.ilkClear (t : Nat) (path : Path) (x : Fin 6) : Retime.Statement (.ilkClear t path x) := by
  rintro _ ⟨_, rfl⟩; exact ⟨rfl, _, rfl⟩
theorem Retime.ilkTest (t : Nat) (path : Path) (x : Fin 6) : Retime.Statement (.ilkTest t path x) := by
  rintro _ ⟨_, rfl⟩; exact ⟨rfl, _, rfl⟩
theorem Retime.fallbackWindow (t : Nat) (x : Fin 6) : Retime.Statement (.fallbackWindow t x) := by
  rintro _ ⟨_, rfl⟩; exact ⟨rfl, _, rfl⟩
theorem Retime.fallbackRefresh (t : Nat) (x : Fin 6) : Retime.Statement (.fallbackRefresh t x) := by
  rintro _ ⟨_, rfl⟩; exact ⟨rfl, _, rfl⟩
theorem Retime.fallbackDark (t : Nat) (x : Fin 6) : Retime.Statement (.fallbackDark t x) := by
  rintro _ ⟨_, rfl⟩; exact ⟨rfl, _, rfl⟩
theorem Retime.trainingStepTimeout (t : Nat) (n : Fin 4) : Retime.Statement (.trainingStepTimeout t n) := by
  rintro _ ⟨_, rfl⟩; exact ⟨rfl, _, rfl⟩
theorem Retime.trainingDone (t : Nat) (n : Fin 4) (ms : List RateMeas) : Retime.Statement (.trainingDone t n ms) := by
  rintro _ ⟨_, rfl⟩; exact ⟨rfl, _, rfl⟩
theorem Retime.markEcho (t : Nat) (n : Fin 4) (echo : Int) (stamp : Nat) : Retime.Statement (.markEcho t n echo stamp) := by
  rintro _ ⟨_, rfl⟩; exact ⟨rfl, _, rfl⟩
theorem Retime.sidebandTransaction (t : Nat) (n : Fin 4) (op addr data resp : Nat) : Retime.Statement (.sidebandTransaction t n op addr data resp) := by
  rintro _ ⟨_, rfl⟩; exact ⟨rfl, _, rfl⟩
theorem Retime.sidebandTimeout (t : Nat) (n : Fin 4) : Retime.Statement (.sidebandTimeout t n) := by
  rintro _ ⟨_, rfl⟩; exact ⟨rfl, _, rfl⟩
theorem Retime.sbDead (t : Nat) (n : Fin 4) : Retime.Statement (.sbDead t n) := by
  rintro _ ⟨_, rfl⟩; exact ⟨rfl, _, rfl⟩
theorem Retime.attn (t : Nat) (n : Fin 4) (linkStat crc late errInfo : Nat) : Retime.Statement (.attn t n linkStat crc late errInfo) := by
  rintro _ ⟨_, rfl⟩; exact ⟨rfl, _, rfl⟩
theorem Retime.linkStatPoll (t : Nat) (n : Fin 4) (linkStat : Nat) : Retime.Statement (.linkStatPoll t n linkStat) := by
  rintro _ ⟨_, rfl⟩; exact ⟨rfl, _, rfl⟩
theorem Retime.tempPoll (t : Nat) (n : Fin 4) (temp : Nat) : Retime.Statement (.tempPoll t n temp) := by
  rintro _ ⟨_, rfl⟩; exact ⟨rfl, _, rfl⟩
theorem Retime.eyePoll (t : Nat) (n : Fin 4) (eyes : Vector Nat 16) : Retime.Statement (.eyePoll t n eyes) := by
  rintro _ ⟨_, rfl⟩; exact ⟨rfl, _, rfl⟩
theorem Retime.crcWindow (t : Nat) (n : Fin 4) : Retime.Statement (.crcWindow t n) := by
  rintro _ ⟨_, rfl⟩; exact ⟨rfl, _, rfl⟩
theorem Retime.groupProbe (t : Nat) (n : Fin 4) (pass : Nat) : Retime.Statement (.groupProbe t n pass) := by
  rintro _ ⟨_, rfl⟩; exact ⟨rfl, _, rfl⟩
theorem Retime.rateSwitchTimeout (t : Nat) (n : Fin 4) : Retime.Statement (.rateSwitchTimeout t n) := by
  rintro _ ⟨_, rfl⟩; exact ⟨rfl, _, rfl⟩
theorem Retime.linkLoss (t : Nat) (n : Fin 4) (pll : Bool) (groups : Nat) : Retime.Statement (.linkLoss t n pll groups) := by
  rintro _ ⟨_, rfl⟩; exact ⟨rfl, _, rfl⟩
theorem Retime.parkLoad (t : Nat) (path : Path) (n : Fin 4) (v : Nat) : Retime.Statement (.parkLoad t path n v) := by
  rintro _ ⟨_, rfl⟩; exact ⟨rfl, _, rfl⟩
theorem Retime.turningPoint (t : Nat) (k : Fin 2) (peak lag : Nat) (locked : Bool) : Retime.Statement (.turningPoint t k peak lag locked) := by
  rintro _ ⟨_, rfl⟩; exact ⟨rfl, _, rfl⟩
theorem Retime.turningPointMissed (t : Nat) (k : Fin 2) : Retime.Statement (.turningPointMissed t k) := by
  rintro _ ⟨_, rfl⟩; exact ⟨rfl, _, rfl⟩
theorem Retime.slowAxisCheck (t : Nat) (k : Fin 2) (err : Nat) : Retime.Statement (.slowAxisCheck t k err) := by
  rintro _ ⟨_, rfl⟩; exact ⟨rfl, _, rfl⟩
theorem Retime.lmodUpdate (t : Nat) (k : Fin 2) : Retime.Statement (.lmodUpdate t k) := by
  rintro _ ⟨_, rfl⟩; exact ⟨rfl, _, rfl⟩
theorem Retime.scnUnderrun (t : Nat) (k : Fin 2) : Retime.Statement (.scnUnderrun t k) := by
  rintro _ ⟨_, rfl⟩; exact ⟨rfl, _, rfl⟩
theorem Retime.scnFrameStart (t : Nat) (k : Fin 2) : Retime.Statement (.scnFrameStart t k) := by
  rintro _ ⟨_, rfl⟩; exact ⟨rfl, _, rfl⟩
theorem Retime.spinupSweepDone (t : Nat) (k : Fin 2) (freq : Nat) : Retime.Statement (.spinupSweepDone t k freq) := by
  rintro _ ⟨_, rfl⟩; exact ⟨rfl, _, rfl⟩
theorem Retime.spinupDone (t : Nat) (k : Fin 2) : Retime.Statement (.spinupDone t k) := by
  rintro _ ⟨_, rfl⟩; exact ⟨rfl, _, rfl⟩
theorem Retime.spinupFail (t : Nat) (k : Fin 2) : Retime.Statement (.spinupFail t k) := by
  rintro _ ⟨_, rfl⟩; exact ⟨rfl, _, rfl⟩
theorem Retime.drivesStopped (t : Nat) (k : Fin 2) : Retime.Statement (.drivesStopped t k) := by
  rintro _ ⟨_, rfl⟩; exact ⟨rfl, _, rfl⟩
theorem Retime.scnStart (t : Nat) (path : Path) (k : Fin 2) : Retime.Statement (.scnStart t path k) := by
  rintro _ ⟨_, rfl⟩; exact ⟨rfl, _, rfl⟩
theorem Retime.scnStop (t : Nat) (path : Path) (k : Fin 2) : Retime.Statement (.scnStop t path k) := by
  rintro _ ⟨_, rfl⟩; exact ⟨rfl, _, rfl⟩
theorem Retime.scnPark (t : Nat) (path : Path) (k : Fin 2) : Retime.Statement (.scnPark t path k) := by
  rintro _ ⟨_, rfl⟩; exact ⟨rfl, _, rfl⟩
theorem Retime.scnFaultClear (t : Nat) (path : Path) (k : Fin 2) : Retime.Statement (.scnFaultClear t path k) := by
  rintro _ ⟨_, rfl⟩; exact ⟨rfl, _, rfl⟩
theorem Retime.pttDataWrite (t : Nat) (path : Path) (k : Fin 2) (v : Nat) : Retime.Statement (.pttDataWrite t path k v) := by
  rintro _ ⟨_, rfl⟩; exact ⟨rfl, _, rfl⟩
theorem Retime.npFrame (t : Nat) (q : Fin 104) : Retime.Statement (.npFrame t q) := by
  rintro _ ⟨_, rfl⟩; exact ⟨rfl, _, rfl⟩
theorem Retime.npLatch (t : Nat) (q : Fin 104) : Retime.Statement (.npLatch t q) := by
  rintro _ ⟨_, rfl⟩; exact ⟨rfl, _, rfl⟩
theorem Retime.npReturnFrame (t : Nat) (q : Fin 104) (mark : Nat) (cells : List (Nat × Nat)) (quiet : Nat) : Retime.Statement (.npReturnFrame t q mark cells quiet) := by
  rintro _ ⟨_, rfl⟩; exact ⟨rfl, _, rfl⟩
theorem Retime.chainOpen (t : Nat) (q : Fin 104) : Retime.Statement (.chainOpen t q) := by
  rintro _ ⟨_, rfl⟩; exact ⟨rfl, _, rfl⟩
theorem Retime.npEnum (t : Nat) (path : Path) (q : Fin 104) : Retime.Statement (.npEnum t path q) := by
  rintro _ ⟨_, rfl⟩; exact ⟨rfl, _, rfl⟩
theorem Retime.npStrobe (t : Nat) (path : Path) (q : Fin 104) : Retime.Statement (.npStrobe t path q) := by
  rintro _ ⟨_, rfl⟩; exact ⟨rfl, _, rfl⟩
theorem Retime.npStrobeMark (t : Nat) (q : Fin 104) : Retime.Statement (.npStrobeMark t q) := by
  rintro _ ⟨_, rfl⟩; exact ⟨rfl, _, rfl⟩
theorem Retime.cfgAccess (t : Nat) (path : Path) (q : Fin 104) (v : Nat) : Retime.Statement (.cfgAccess t path q v) := by
  rintro _ ⟨_, rfl⟩; exact ⟨rfl, _, rfl⟩
theorem Retime.npkDataAccess (t : Nat) (path : Path) (write : Bool) (v : Nat) : Retime.Statement (.npkDataAccess t path write v) := by
  rintro _ ⟨_, rfl⟩; exact ⟨rfl, _, rfl⟩
theorem Retime.keeperWakeFrame (t : Nat) (p : Fin 8) : Retime.Statement (.keeperWakeFrame t p) := by
  rintro _ ⟨_, rfl⟩; exact ⟨rfl, _, rfl⟩
theorem Retime.keepaliveStrobe (t : Nat) (p : Fin 8) : Retime.Statement (.keepaliveStrobe t p) := by
  rintro _ ⟨_, rfl⟩; exact ⟨rfl, _, rfl⟩
theorem Retime.mxFrameStart (t : Nat) (q : Fin 24) : Retime.Statement (.mxFrameStart t q) := by
  rintro _ ⟨_, rfl⟩; exact ⟨rfl, _, rfl⟩
theorem Retime.mxRowSlot (t : Nat) (q : Fin 24) : Retime.Statement (.mxRowSlot t q) := by
  rintro _ ⟨_, rfl⟩; exact ⟨rfl, _, rfl⟩
theorem Retime.mxUnderrun (t : Nat) (q : Fin 24) (c : Fin 64) : Retime.Statement (.mxUnderrun t q c) := by
  rintro _ ⟨_, rfl⟩; exact ⟨rfl, _, rfl⟩
theorem Retime.teEdge (t : Nat) (q : Fin 24) (falling : Bool) : Retime.Statement (.teEdge t q falling) := by
  rintro _ ⟨_, rfl⟩; exact ⟨rfl, _, rfl⟩
theorem Retime.mxTransferComplete (t : Nat) (q : Fin 24) : Retime.Statement (.mxTransferComplete t q) := by
  rintro _ ⟨_, rfl⟩; exact ⟨rfl, _, rfl⟩
theorem Retime.teTimeout (t : Nat) (q : Fin 24) : Retime.Statement (.teTimeout t q) := by
  rintro _ ⟨_, rfl⟩; exact ⟨rfl, _, rfl⟩
theorem Retime.mxResend (t : Nat) (path : Path) (q : Fin 24) : Retime.Statement (.mxResend t path q) := by
  rintro _ ⟨_, rfl⟩; exact ⟨rfl, _, rfl⟩
theorem Retime.tclkTick (t : Nat) : Retime.Statement (.tclkTick t) := by
  rintro _ ⟨_, rfl⟩; exact ⟨rfl, _, rfl⟩
theorem Retime.timeIncrWrite (t : Nat) (path : Path) (v : Nat) : Retime.Statement (.timeIncrWrite t path v) := by
  rintro _ ⟨_, rfl⟩; exact ⟨rfl, _, rfl⟩
theorem Retime.timeAdjSet (t : Nat) (path : Path) : Retime.Statement (.timeAdjSet t path) := by
  rintro _ ⟨_, rfl⟩; exact ⟨rfl, _, rfl⟩
theorem Retime.timeAdjStep (t : Nat) (path : Path) : Retime.Statement (.timeAdjStep t path) := by
  rintro _ ⟨_, rfl⟩; exact ⟨rfl, _, rfl⟩
theorem Retime.timeSlewWrite (t : Nat) (path : Path) (v : Nat) : Retime.Statement (.timeSlewWrite t path v) := by
  rintro _ ⟨_, rfl⟩; exact ⟨rfl, _, rfl⟩
theorem Retime.freerun (t : Nat) : Retime.Statement (.freerun t) := by
  rintro _ ⟨_, rfl⟩; exact ⟨rfl, _, rfl⟩
theorem Retime.pdelayWrite (t : Nat) (path : Path) (p : Fin 4) (v : Nat) : Retime.Statement (.pdelayWrite t path p v) := by
  rintro _ ⟨_, rfl⟩; exact ⟨rfl, _, rfl⟩
theorem Retime.holdoffEnd (t : Nat) : Retime.Statement (.holdoffEnd t) := by
  rintro _ ⟨_, rfl⟩; exact ⟨rfl, _, rfl⟩
theorem Retime.timeNowRead (t : Nat) (path : Path) : Retime.Statement (.timeNowRead t path) := by
  rintro _ ⟨_, rfl⟩; exact ⟨rfl, _, rfl⟩
theorem Retime.engFstartNsRead (t : Nat) (path : Path) (n : Fin 4) : Retime.Statement (.engFstartNsRead t path n) := by
  rintro _ ⟨_, rfl⟩; exact ⟨rfl, _, rfl⟩
theorem Retime.scnFstartNsRead (t : Nat) (path : Path) (k : Fin 2) : Retime.Statement (.scnFstartNsRead t path k) := by
  rintro _ ⟨_, rfl⟩; exact ⟨rfl, _, rfl⟩
theorem Retime.ltnIlkTimeNsRead (t : Nat) (path : Path) (x : Fin 6) : Retime.Statement (.ltnIlkTimeNsRead t path x) := by
  rintro _ ⟨_, rfl⟩; exact ⟨rfl, _, rfl⟩
theorem Retime.npLatchNsRead (t : Nat) (path : Path) (q : Fin 104) : Retime.Statement (.npLatchNsRead t path q) := by
  rintro _ ⟨_, rfl⟩; exact ⟨rfl, _, rfl⟩
theorem Retime.mxFstartNsRead (t : Nat) (path : Path) (q : Fin 24) : Retime.Statement (.mxFstartNsRead t path q) := by
  rintro _ ⟨_, rfl⟩; exact ⟨rfl, _, rfl⟩
theorem Retime.timePpsinNsRead (t : Nat) (path : Path) : Retime.Statement (.timePpsinNsRead t path) := by
  rintro _ ⟨_, rfl⟩; exact ⟨rfl, _, rfl⟩
theorem Retime.thermShutNsRead (t : Nat) (path : Path) : Retime.Statement (.thermShutNsRead t path) := by
  rintro _ ⟨_, rfl⟩; exact ⟨rfl, _, rfl⟩
theorem Retime.txqPush (t : Nat) (path : Path) (p : Fin 4) (v : Nat) : Retime.Statement (.txqPush t path p v) := by
  rintro _ ⟨_, rfl⟩; exact ⟨rfl, _, rfl⟩
theorem Retime.txqPop (t : Nat) (path : Path) (p : Fin 4) : Retime.Statement (.txqPop t path p) := by
  rintro _ ⟨_, rfl⟩; exact ⟨rfl, _, rfl⟩
theorem Retime.ppsOut (t : Nat) : Retime.Statement (.ppsOut t) := by
  rintro _ ⟨_, rfl⟩; exact ⟨rfl, _, rfl⟩
theorem Retime.ppsOutEnd (t : Nat) : Retime.Statement (.ppsOutEnd t) := by
  rintro _ ⟨_, rfl⟩; exact ⟨rfl, _, rfl⟩
theorem Retime.ppsIn (t : Nat) (falling : Bool) : Retime.Statement (.ppsIn t falling) := by
  rintro _ ⟨_, rfl⟩; exact ⟨rfl, _, rfl⟩
theorem Retime.ppsinValidExpiry (t : Nat) : Retime.Statement (.ppsinValidExpiry t) := by
  rintro _ ⟨_, rfl⟩; exact ⟨rfl, _, rfl⟩
theorem Retime.schedWrite (t : Nat) (path : Path) (i : Fin 256) : Retime.Statement (.schedWrite t path ix) := by
  rintro _ ⟨_, rfl⟩; exact ⟨rfl, _, rfl⟩
theorem Retime.schedRead (t : Nat) (path : Path) (i : Fin 256) : Retime.Statement (.schedRead t path ix) := by
  rintro _ ⟨_, rfl⟩; exact ⟨rfl, _, rfl⟩
theorem Retime.schedCancel (t : Nat) (path : Path) (i : Fin 256) : Retime.Statement (.schedCancel t path ix) := by
  rintro _ ⟨_, rfl⟩; exact ⟨rfl, _, rfl⟩
theorem Retime.schedDispatch (t : Nat) : Retime.Statement (.schedDispatch t) := by
  rintro _ ⟨_, rfl⟩; exact ⟨rfl, _, rfl⟩
theorem Retime.strobeHandover (t : Nat) : Retime.Statement (.strobeHandover t) := by
  rintro _ ⟨_, rfl⟩; exact ⟨rfl, _, rfl⟩
theorem Retime.dmcTrain (t : Nat) (path : Path) : Retime.Statement (.dmcTrain t path) := by
  rintro _ ⟨_, rfl⟩; exact ⟨rfl, _, rfl⟩
theorem Retime.trainDone (t : Nat) (res : Vector ChanTrain 8) : Retime.Statement (.trainDone t res) := by
  rintro _ ⟨_, rfl⟩; exact ⟨rfl, _, rfl⟩
theorem Retime.srEnter (t : Nat) (path : Path) : Retime.Statement (.srEnter t path) := by
  rintro _ ⟨_, rfl⟩; exact ⟨rfl, _, rfl⟩
theorem Retime.srExit (t : Nat) (path : Path) : Retime.Statement (.srExit t path) := by
  rintro _ ⟨_, rfl⟩; exact ⟨rfl, _, rfl⟩
theorem Retime.dmcStop (t : Nat) (path : Path) : Retime.Statement (.dmcStop t path) := by
  rintro _ ⟨_, rfl⟩; exact ⟨rfl, _, rfl⟩
theorem Retime.phyPllLoss (t : Nat) : Retime.Statement (.phyPllLoss t) := by
  rintro _ ⟨_, rfl⟩; exact ⟨rfl, _, rfl⟩
theorem Retime.portRequest (t : Nat) (p : Fin 8) (write : Bool) (pa len : Nat) (data : List Byte) : Retime.Statement (.portRequest t p write pa len data) := by
  rintro _ ⟨_, rfl⟩; exact ⟨rfl, _, rfl⟩
theorem Retime.writeQueueEntry (t : Nat) (p : Fin 8) : Retime.Statement (.writeQueueEntry t p) := by
  rintro _ ⟨_, rfl⟩; exact ⟨rfl, _, rfl⟩
theorem Retime.requestComplete (t : Nat) (p : Fin 8) (ecc : Fin 3) : Retime.Statement (.requestComplete t p ecc) := by
  rintro _ ⟨_, rfl⟩; exact ⟨rfl, _, rfl⟩
theorem Retime.grantBoundary (t : Nat) (c : Fin 8) (drift : Int) (ecc : Fin 3) : Retime.Statement (.grantBoundary t c drift ecc) := by
  rintro _ ⟨_, rfl⟩; exact ⟨rfl, _, rfl⟩
theorem Retime.refreshDue (t : Nat) (c : Fin 8) (r : Fin 2) : Retime.Statement (.refreshDue t c r) := by
  rintro _ ⟨_, rfl⟩; exact ⟨rfl, _, rfl⟩
theorem Retime.retrainSlice (t : Nat) (c : Fin 8) : Retime.Statement (.retrainSlice t c) := by
  rintro _ ⟨_, rfl⟩; exact ⟨rfl, _, rfl⟩
theorem Retime.mr4Read (t : Nat) (c : Fin 8) (r : Fin 2) (code : Fin 256) (band : Fin 4) (cool : Bool) : Retime.Statement (.mr4Read t c r code band cool) := by
  rintro _ ⟨_, rfl⟩; exact ⟨rfl, _, rfl⟩
theorem Retime.rhWindowEnd (t : Nat) : Retime.Statement (.rhWindowEnd t) := by
  rintro _ ⟨_, rfl⟩; exact ⟨rfl, _, rfl⟩
theorem Retime.powerDownEntry (t : Nat) (c : Fin 8) (r : Fin 2) : Retime.Statement (.powerDownEntry t c r) := by
  rintro _ ⟨_, rfl⟩; exact ⟨rfl, _, rfl⟩
theorem Retime.mbxPush (t : Nat) (path : Path) : Retime.Statement (.mbxPush t path) := by
  rintro _ ⟨_, rfl⟩; exact ⟨rfl, _, rfl⟩
theorem Retime.mbxPop (t : Nat) (path : Path) : Retime.Statement (.mbxPop t path) := by
  rintro _ ⟨_, rfl⟩; exact ⟨rfl, _, rfl⟩
theorem Retime.rspDrop (t : Nat) (i : Fin 32) : Retime.Statement (.rspDrop t ix) := by
  rintro _ ⟨_, rfl⟩; exact ⟨rfl, _, rfl⟩
theorem Retime.mbxCommandTimeout (t : Nat) (i : Fin 32) : Retime.Statement (.mbxCommandTimeout t ix) := by
  rintro _ ⟨_, rfl⟩; exact ⟨rfl, _, rfl⟩
theorem Retime.ping (t : Nat) : Retime.Statement (.ping t) := by
  rintro _ ⟨_, rfl⟩; exact ⟨rfl, _, rfl⟩
theorem Retime.engineStart (t : Nat) : Retime.Statement (.engineStart t) := by
  rintro _ ⟨_, rfl⟩; exact ⟨rfl, _, rfl⟩
theorem Retime.engineStop (t : Nat) : Retime.Statement (.engineStop t) := by
  rintro _ ⟨_, rfl⟩; exact ⟨rfl, _, rfl⟩
theorem Retime.enginePark (t : Nat) : Retime.Statement (.enginePark t) := by
  rintro _ ⟨_, rfl⟩; exact ⟨rfl, _, rfl⟩
theorem Retime.engineFaultClear (t : Nat) : Retime.Statement (.engineFaultClear t) := by
  rintro _ ⟨_, rfl⟩; exact ⟨rfl, _, rfl⟩
theorem Retime.programLoad (t : Nat) : Retime.Statement (.programLoad t) := by
  rintro _ ⟨_, rfl⟩; exact ⟨rfl, _, rfl⟩
theorem Retime.calRun (t : Nat) : Retime.Statement (.calRun t) := by
  rintro _ ⟨_, rfl⟩; exact ⟨rfl, _, rfl⟩
theorem Retime.calStore (t : Nat) (todo : List (Nat × List Byte)) : Retime.Statement (.calStore t todo) := by
  rintro _ ⟨_, rfl⟩; exact ⟨rfl, _, rfl⟩
theorem Retime.nvmCommit (t : Nat) (payload : List Byte) : Retime.Statement (.nvmCommit t payload) := by
  rintro _ ⟨_, rfl⟩; exact ⟨rfl, _, rfl⟩
theorem Retime.timeSet (t : Nat) : Retime.Statement (.timeSet t) := by
  rintro _ ⟨_, rfl⟩; exact ⟨rfl, _, rfl⟩
theorem Retime.seqStart (t : Nat) : Retime.Statement (.seqStart t) := by
  rintro _ ⟨_, rfl⟩; exact ⟨rfl, _, rfl⟩
theorem Retime.contentOpen (t : Nat) : Retime.Statement (.contentOpen t) := by
  rintro _ ⟨_, rfl⟩; exact ⟨rfl, _, rfl⟩
theorem Retime.contentOpenDone (t : Nat) (p : PkgIn) : Retime.Statement (.contentOpenDone t p) := by
  rintro _ ⟨_, rfl⟩; exact ⟨rfl, _, rfl⟩
theorem Retime.logStop (t : Nat) : Retime.Statement (.logStop t) := by
  rintro _ ⟨_, rfl⟩; exact ⟨rfl, _, rfl⟩
theorem Retime.logEventLog (t : Nat) : Retime.Statement (.logEventLog t) := by
  rintro _ ⟨_, rfl⟩; exact ⟨rfl, _, rfl⟩
theorem Retime.logRecorder (t : Nat) : Retime.Statement (.logRecorder t) := by
  rintro _ ⟨_, rfl⟩; exact ⟨rfl, _, rfl⟩
theorem Retime.logFlush (t : Nat) : Retime.Statement (.logFlush t) := by
  rintro _ ⟨_, rfl⟩; exact ⟨rfl, _, rfl⟩
theorem Retime.powerStateRun (t : Nat) : Retime.Statement (.powerStateRun t) := by
  rintro _ ⟨_, rfl⟩; exact ⟨rfl, _, rfl⟩
theorem Retime.powerStateStandby (t : Nat) : Retime.Statement (.powerStateStandby t) := by
  rintro _ ⟨_, rfl⟩; exact ⟨rfl, _, rfl⟩
theorem Retime.powerStateBivouac (t : Nat) (todo : List (Nat × List Byte)) : Retime.Statement (.powerStateBivouac t todo) := by
  rintro _ ⟨_, rfl⟩; exact ⟨rfl, _, rfl⟩
theorem Retime.bivouacEntry (t : Nat) : Retime.Statement (.bivouacEntry t) := by
  rintro _ ⟨_, rfl⟩; exact ⟨rfl, _, rfl⟩
theorem Retime.diagSnapshot (t : Nat) : Retime.Statement (.diagSnapshot t) := by
  rintro _ ⟨_, rfl⟩; exact ⟨rfl, _, rfl⟩
theorem Retime.mpLoadWindow (t load ext : Nat) : Retime.Statement (.mpLoadWindow t load ext) := by
  rintro _ ⟨_, rfl⟩; exact ⟨rfl, _, rfl⟩
theorem Retime.extBudgetPeriod (t : Nat) : Retime.Statement (.extBudgetPeriod t) := by
  rintro _ ⟨_, rfl⟩; exact ⟨rfl, _, rfl⟩
theorem Retime.extPreempt (t : Nat) : Retime.Statement (.extPreempt t) := by
  rintro _ ⟨_, rfl⟩; exact ⟨rfl, _, rfl⟩
theorem Retime.extFault (t a : Nat) (write : Bool) : Retime.Statement (.extFault t a write) := by
  rintro _ ⟨_, rfl⟩; exact ⟨rfl, _, rfl⟩
theorem Retime.lockstep (t : Nat) : Retime.Statement (.lockstep t) := by
  rintro _ ⟨_, rfl⟩; exact ⟨rfl, _, rfl⟩
theorem Retime.mpFault (t : Nat) (ext : Bool) : Retime.Statement (.mpFault t ext) := by
  rintro _ ⟨_, rfl⟩; exact ⟨rfl, _, rfl⟩
theorem Retime.wdogKick (t : Nat) (path : Path) (v : Nat) : Retime.Statement (.wdogKick t path v) := by
  rintro _ ⟨_, rfl⟩; exact ⟨rfl, _, rfl⟩
theorem Retime.wdogExpiry (t : Nat) : Retime.Statement (.wdogExpiry t) := by
  rintro _ ⟨_, rfl⟩; exact ⟨rfl, _, rfl⟩
theorem Retime.runtimeUp (t : Nat) : Retime.Statement (.runtimeUp t) := by
  rintro _ ⟨_, rfl⟩; exact ⟨rfl, _, rfl⟩
theorem Retime.shortWindowClose (t : Nat) : Retime.Statement (.shortWindowClose t) := by
  rintro _ ⟨_, rfl⟩; exact ⟨rfl, _, rfl⟩
theorem Retime.longWindowClose (t : Nat) : Retime.Statement (.longWindowClose t) := by
  rintro _ ⟨_, rfl⟩; exact ⟨rfl, _, rfl⟩
theorem Retime.hspiRead (t : Nat) (mosi : List Byte) : Retime.Statement (.hspiRead t mosi) := by
  rintro _ ⟨_, rfl⟩; exact ⟨rfl, _, rfl⟩
theorem Retime.hspiWrite (t : Nat) (mosi : List Byte) : Retime.Statement (.hspiWrite t mosi) := by
  rintro _ ⟨_, rfl⟩; exact ⟨rfl, _, rfl⟩
theorem Retime.icpRead (t : Nat) (n : Fin 4) : Retime.Statement (.icpRead t n) := by
  rintro _ ⟨_, rfl⟩; exact ⟨rfl, _, rfl⟩
theorem Retime.icpWrite (t : Nat) (n : Fin 4) : Retime.Statement (.icpWrite t n) := by
  rintro _ ⟨_, rfl⟩; exact ⟨rfl, _, rfl⟩
theorem Retime.icpMbx (t : Nat) (n : Fin 4) : Retime.Statement (.icpMbx t n) := by
  rintro _ ⟨_, rfl⟩; exact ⟨rfl, _, rfl⟩
theorem Retime.bulkOpen (t : Nat) (n : Fin 4) : Retime.Statement (.bulkOpen t n) := by
  rintro _ ⟨_, rfl⟩; exact ⟨rfl, _, rfl⟩
theorem Retime.bulkData (t : Nat) (n : Fin 4) : Retime.Statement (.bulkData t n) := by
  rintro _ ⟨_, rfl⟩; exact ⟨rfl, _, rfl⟩
theorem Retime.bulkClose (t : Nat) (n : Fin 4) : Retime.Statement (.bulkClose t n) := by
  rintro _ ⟨_, rfl⟩; exact ⟨rfl, _, rfl⟩
theorem Retime.bulkCloseComplete (t : Nat) (ok : Bool) : Retime.Statement (.bulkCloseComplete t ok) := by
  rintro _ ⟨_, rfl⟩; exact ⟨rfl, _, rfl⟩
theorem Retime.bulkAbort (t : Nat) (n : Fin 4) : Retime.Statement (.bulkAbort t n) := by
  rintro _ ⟨_, rfl⟩; exact ⟨rfl, _, rfl⟩
theorem Retime.bulkIdle (t : Nat) : Retime.Statement (.bulkIdle t) := by
  rintro _ ⟨_, rfl⟩; exact ⟨rfl, _, rfl⟩
theorem Retime.basecampPowerOn (t v : Nat) : Retime.Statement (.basecampPowerOn t v) := by
  rintro _ ⟨_, rfl⟩; exact ⟨rfl, _, rfl⟩
theorem Retime.vbatSample (t v : Nat) : Retime.Statement (.vbatSample t v) := by
  rintro _ ⟨_, rfl⟩; exact ⟨rfl, _, rfl⟩
theorem Retime.pfw (t v dur : Nat) : Retime.Statement (.pfw t v dur) := by
  rintro _ ⟨_, rfl⟩; exact ⟨rfl, _, rfl⟩
theorem Retime.pfwEnd (t v dur : Nat) : Retime.Statement (.pfwEnd t v dur) := by
  rintro _ ⟨_, rfl⟩; exact ⟨rfl, _, rfl⟩
theorem Retime.vbatOv (t v dur : Nat) : Retime.Statement (.vbatOv t v dur) := by
  rintro _ ⟨_, rfl⟩; exact ⟨rfl, _, rfl⟩
theorem Retime.vbatOvEnd (t v dur : Nat) : Retime.Statement (.vbatOvEnd t v dur) := by
  rintro _ ⟨_, rfl⟩; exact ⟨rfl, _, rfl⟩
theorem Retime.supplyLoss (t : Nat) (f : SupplyFault) : Retime.Statement (.supplyLoss t f) := by
  rintro _ ⟨_, rfl⟩; exact ⟨rfl, _, rfl⟩
theorem Retime.supplyPowerDown (t : Nat) : Retime.Statement (.supplyPowerDown t) := by
  rintro _ ⟨_, rfl⟩; exact ⟨rfl, _, rfl⟩
theorem Retime.supplyRestart (t v dur : Nat) : Retime.Statement (.supplyRestart t v dur) := by
  rintro _ ⟨_, rfl⟩; exact ⟨rfl, _, rfl⟩
theorem Retime.restartCountClear (t : Nat) : Retime.Statement (.restartCountClear t) := by
  rintro _ ⟨_, rfl⟩; exact ⟨rfl, _, rfl⟩
theorem Retime.seqStepComplete (t : Nat) : Retime.Statement (.seqStepComplete t) := by
  rintro _ ⟨_, rfl⟩; exact ⟨rfl, _, rfl⟩
theorem Retime.stepDelayExpiry (t : Nat) : Retime.Statement (.stepDelayExpiry t) := by
  rintro _ ⟨_, rfl⟩; exact ⟨rfl, _, rfl⟩
theorem Retime.pgTimeout (t : Nat) : Retime.Statement (.pgTimeout t) := by
  rintro _ ⟨_, rfl⟩; exact ⟨rfl, _, rfl⟩
theorem Retime.xtalGood (t : Nat) : Retime.Statement (.xtalGood t) := by
  rintro _ ⟨_, rfl⟩; exact ⟨rfl, _, rfl⟩
theorem Retime.xtalStart (t : Nat) : Retime.Statement (.xtalStart t) := by
  rintro _ ⟨_, rfl⟩; exact ⟨rfl, _, rfl⟩
theorem Retime.seqDownStep (t : Nat) (fell : Bool) : Retime.Statement (.seqDownStep t fell) := by
  rintro _ ⟨_, rfl⟩; exact ⟨rfl, _, rfl⟩
theorem Retime.xtalMonitorWindow (t : Nat) (good : Bool) : Retime.Statement (.xtalMonitorWindow t good) := by
  rintro _ ⟨_, rfl⟩; exact ⟨rfl, _, rfl⟩
theorem Retime.xtalFailPersist (t : Nat) : Retime.Statement (.xtalFailPersist t) := by
  rintro _ ⟨_, rfl⟩; exact ⟨rfl, _, rfl⟩
theorem Retime.avsUpdate (t : Nat) (want : Int) : Retime.Statement (.avsUpdate t want) := by
  rintro _ ⟨_, rfl⟩; exact ⟨rfl, _, rfl⟩
theorem Retime.pdReqWrite (t : Nat) (path : Path) (v : Nat) : Retime.Statement (.pdReqWrite t path v) := by
  rintro _ ⟨_, rfl⟩; exact ⟨rfl, _, rfl⟩
theorem Retime.domainOn (t : Nat) (d : Fin 26) : Retime.Statement (.domainOn t d) := by
  rintro _ ⟨_, rfl⟩; exact ⟨rfl, _, rfl⟩
theorem Retime.pwrCmdRun (t : Nat) (path : Path) : Retime.Statement (.pwrCmdRun t path) := by
  rintro _ ⟨_, rfl⟩; exact ⟨rfl, _, rfl⟩
theorem Retime.pwrCmdStandby (t : Nat) (path : Path) : Retime.Statement (.pwrCmdStandby t path) := by
  rintro _ ⟨_, rfl⟩; exact ⟨rfl, _, rfl⟩
theorem Retime.pwrCmdBivouac (t : Nat) (path : Path) : Retime.Statement (.pwrCmdBivouac t path) := by
  rintro _ ⟨_, rfl⟩; exact ⟨rfl, _, rfl⟩
theorem Retime.wakePin (t : Nat) (i : Fin 4) (level : Bool) : Retime.Statement (.wakePin t ix level) := by
  rintro _ ⟨_, rfl⟩; exact ⟨rfl, _, rfl⟩
theorem Retime.wakeQualified (t : Nat) (i : Fin 4) : Retime.Statement (.wakeQualified t ix) := by
  rintro _ ⟨_, rfl⟩; exact ⟨rfl, _, rfl⟩
theorem Retime.wakeTimer (t : Nat) : Retime.Statement (.wakeTimer t) := by
  rintro _ ⟨_, rfl⟩; exact ⟨rfl, _, rfl⟩
theorem Retime.pinReset (t dur : Nat) : Retime.Statement (.pinReset t dur) := by
  rintro _ ⟨_, rfl⟩; exact ⟨rfl, _, rfl⟩
theorem Retime.nresetRise (t : Nat) : Retime.Statement (.nresetRise t) := by
  rintro _ ⟨_, rfl⟩; exact ⟨rfl, _, rfl⟩
theorem Retime.systemReset (t : Nat) (path : Path) (v : Nat) : Retime.Statement (.systemReset t path v) := by
  rintro _ ⟨_, rfl⟩; exact ⟨rfl, _, rfl⟩
theorem Retime.vbatLoss (t v : Nat) : Retime.Statement (.vbatLoss t v) := by
  rintro _ ⟨_, rfl⟩; exact ⟨rfl, _, rfl⟩
theorem Retime.vbatMinWrite (t : Nat) (path : Path) (v : Nat) : Retime.Statement (.vbatMinWrite t path v) := by
  rintro _ ⟨_, rfl⟩; exact ⟨rfl, _, rfl⟩
theorem Retime.pbaGrant (t : Nat) : Retime.Statement (.pbaGrant t) := by
  rintro _ ⟨_, rfl⟩; exact ⟨rfl, _, rfl⟩
theorem Retime.pbaEvaluation (t : Nat) : Retime.Statement (.pbaEvaluation t) := by
  rintro _ ⟨_, rfl⟩; exact ⟨rfl, _, rfl⟩
theorem Retime.waitLong (t : Nat) : Retime.Statement (.waitLong t) := by
  rintro _ ⟨_, rfl⟩; exact ⟨rfl, _, rfl⟩
theorem Retime.sensorSample (t : Nat) (i : Fin 24) (r : Int) : Retime.Statement (.sensorSample t ix r) := by
  rintro _ ⟨_, rfl⟩; exact ⟨rfl, _, rfl⟩
theorem Retime.tsbSample (t : Nat) (r : Int) : Retime.Statement (.tsbSample t r) := by
  rintro _ ⟨_, rfl⟩; exact ⟨rfl, _, rfl⟩
theorem Retime.xtSample (t : Nat) (i : Fin 8) (r : Int) : Retime.Statement (.xtSample t ix r) := by
  rintro _ ⟨_, rfl⟩; exact ⟨rfl, _, rfl⟩
theorem Retime.throtStepUp (t : Nat) : Retime.Statement (.throtStepUp t) := by
  rintro _ ⟨_, rfl⟩; exact ⟨rfl, _, rfl⟩
theorem Retime.throtStepDown (t : Nat) : Retime.Statement (.throtStepDown t) := by
  rintro _ ⟨_, rfl⟩; exact ⟨rfl, _, rfl⟩
theorem Retime.revalidate (t : Nat) (path : Path) (src : Fin 32) : Retime.Statement (.revalidate t path src) := by
  rintro _ ⟨_, rfl⟩; exact ⟨rfl, _, rfl⟩
theorem Retime.thermalRestart (t v dur : Nat) : Retime.Statement (.thermalRestart t v dur) := by
  rintro _ ⟨_, rfl⟩; exact ⟨rfl, _, rfl⟩
theorem Retime.calMeasurementStart (t cls inst a b : Nat) (matched : Bool) : Retime.Statement (.calMeasurementStart t cls inst a b matched) := by
  rintro _ ⟨_, rfl⟩; exact ⟨rfl, _, rfl⟩
theorem Retime.calMeasurementDone (t cls inst : Nat) (m : CalMeas) : Retime.Statement (.calMeasurementDone t cls inst m) := by
  rintro _ ⟨_, rfl⟩; exact ⟨rfl, _, rfl⟩
theorem Retime.calUnstable (t cls inst : Nat) : Retime.Statement (.calUnstable t cls inst) := by
  rintro _ ⟨_, rfl⟩; exact ⟨rfl, _, rfl⟩
theorem Retime.calCmd (t : Nat) (path : Path) (cls : Fin 16) (inst : Fin 8) : Retime.Statement (.calCmd t path cls inst) := by
  rintro _ ⟨_, rfl⟩; exact ⟨rfl, _, rfl⟩
theorem Retime.calTimeout (t : Nat) : Retime.Statement (.calTimeout t) := by
  rintro _ ⟨_, rfl⟩; exact ⟨rfl, _, rfl⟩
theorem Retime.nvmProgram (t : Nat) (path : Path) (count : Fin 8) : Retime.Statement (.nvmProgram t path count) := by
  rintro _ ⟨_, rfl⟩; exact ⟨rfl, _, rfl⟩
theorem Retime.nvmRead (t : Nat) (path : Path) (count : Fin 8) : Retime.Statement (.nvmRead t path count) := by
  rintro _ ⟨_, rfl⟩; exact ⟨rfl, _, rfl⟩
theorem Retime.nvmGranuleDone (t : Nat) (res : Fin 3) : Retime.Statement (.nvmGranuleDone t res) := by
  rintro _ ⟨_, rfl⟩; exact ⟨rfl, _, rfl⟩
theorem Retime.nvmScan (t : Nat) : Retime.Statement (.nvmScan t) := by
  rintro _ ⟨_, rfl⟩; exact ⟨rfl, _, rfl⟩
theorem Retime.scanDone (t : Nat) : Retime.Statement (.scanDone t) := by
  rintro _ ⟨_, rfl⟩; exact ⟨rfl, _, rfl⟩
theorem Retime.boot (t : Nat) (a b ext : BootImg) : Retime.Statement (.boot t a b ext) := by
  rintro _ ⟨_, rfl⟩; exact ⟨rfl, _, rfl⟩
theorem Retime.recoveryBoot (t : Nat) (path : Path) (key sig : Bool) : Retime.Statement (.recoveryBoot t path key sig) := by
  rintro _ ⟨_, rfl⟩; exact ⟨rfl, _, rfl⟩
theorem Retime.keyWrite (t : Nat) (path : Path) (slot : Fin 16) : Retime.Statement (.keyWrite t path slot) := by
  rintro _ ⟨_, rfl⟩; exact ⟨rfl, _, rfl⟩
theorem Retime.keyErase (t : Nat) (path : Path) (slot : Fin 16) : Retime.Statement (.keyErase t path slot) := by
  rintro _ ⟨_, rfl⟩; exact ⟨rfl, _, rfl⟩
theorem Retime.keyLock (t : Nat) (path : Path) (slot : Fin 16) : Retime.Statement (.keyLock t path slot) := by
  rintro _ ⟨_, rfl⟩; exact ⟨rfl, _, rfl⟩
theorem Retime.keyRevoke (t : Nat) (path : Path) (slot : Fin 16) : Retime.Statement (.keyRevoke t path slot) := by
  rintro _ ⟨_, rfl⟩; exact ⟨rfl, _, rfl⟩
theorem Retime.svnAdvance (t : Nat) (path : Path) (svn : Nat) : Retime.Statement (.svnAdvance t path svn) := by
  rintro _ ⟨_, rfl⟩; exact ⟨rfl, _, rfl⟩
theorem Retime.ethFrameRx (t : Nat) (n : Fin 4) (f : EthRx) : Retime.Statement (.ethFrameRx t n f) := by
  rintro _ ⟨_, rfl⟩; exact ⟨rfl, _, rfl⟩
theorem Retime.ethTxDoorbell (t : Nat) (path : Path) (n : Fin 4) (v : Nat) : Retime.Statement (.ethTxDoorbell t path n v) := by
  rintro _ ⟨_, rfl⟩; exact ⟨rfl, _, rfl⟩
theorem Retime.ethFrameTx (t : Nat) (n : Fin 4) (icp : Bool) : Retime.Statement (.ethFrameTx t n icp) := by
  rintro _ ⟨_, rfl⟩; exact ⟨rfl, _, rfl⟩
theorem Retime.linkChange (t : Nat) (n : Fin 4) (up : Bool) : Retime.Statement (.linkChange t n up) := by
  rintro _ ⟨_, rfl⟩; exact ⟨rfl, _, rfl⟩
theorem Retime.msecSaInstall (t : Nat) (path : Path) (n : Fin 4) (v : Nat) : Retime.Statement (.msecSaInstall t path n v) := by
  rintro _ ⟨_, rfl⟩; exact ⟨rfl, _, rfl⟩
theorem Retime.canFrameRx (t : Nat) (n : Fin 4) (f : CanFrame) : Retime.Statement (.canFrameRx t n f) := by
  rintro _ ⟨_, rfl⟩; exact ⟨rfl, _, rfl⟩
theorem Retime.canFrameTx (t : Nat) (n : Fin 4) : Retime.Statement (.canFrameTx t n) := by
  rintro _ ⟨_, rfl⟩; exact ⟨rfl, _, rfl⟩
theorem Retime.busOff (t : Nat) (n : Fin 4) : Retime.Statement (.busOff t n) := by
  rintro _ ⟨_, rfl⟩; exact ⟨rfl, _, rfl⟩
theorem Retime.canRecover (t : Nat) (path : Path) (n : Fin 4) : Retime.Statement (.canRecover t path n) := by
  rintro _ ⟨_, rfl⟩; exact ⟨rfl, _, rfl⟩
theorem Retime.storLinkUp (t : Nat) (path : Path) : Retime.Statement (.storLinkUp t path) := by
  rintro _ ⟨_, rfl⟩; exact ⟨rfl, _, rfl⟩
theorem Retime.storShutdown (t : Nat) (path : Path) : Retime.Statement (.storShutdown t path) := by
  rintro _ ⟨_, rfl⟩; exact ⟨rfl, _, rfl⟩
theorem Retime.storLinkDrop (t : Nat) : Retime.Statement (.storLinkDrop t) := by
  rintro _ ⟨_, rfl⟩; exact ⟨rfl, _, rfl⟩
theorem Retime.storDoorbell (t : Nat) (path : Path) (cq : Bool) (v : Nat) : Retime.Statement (.storDoorbell t path cq v) := by
  rintro _ ⟨_, rfl⟩; exact ⟨rfl, _, rfl⟩
theorem Retime.cqPosted (t index : Nat) (error : Bool) : Retime.Statement (.cqPosted t index error) := by
  rintro _ ⟨_, rfl⟩; exact ⟨rfl, _, rfl⟩
theorem Retime.nvmeTimeout (t index : Nat) : Retime.Statement (.nvmeTimeout t index) := by
  rintro _ ⟨_, rfl⟩; exact ⟨rfl, _, rfl⟩
theorem Retime.storInitDone (t : Nat) (i : StorInit) : Retime.Statement (.storInitDone t ix) := by
  rintro _ ⟨_, rfl⟩; exact ⟨rfl, _, rfl⟩
theorem Retime.busOffRecoveryDone (t : Nat) (n : Fin 4) : Retime.Statement (.busOffRecoveryDone t n) := by
  rintro _ ⟨_, rfl⟩; exact ⟨rfl, _, rfl⟩
theorem Retime.keeperFrameEnd (t : Nat) (p : Fin 8) : Retime.Statement (.keeperFrameEnd t p) := by
  rintro _ ⟨_, rfl⟩; exact ⟨rfl, _, rfl⟩

end Sys2Proof.Laws
end

