-- ==== Sys2Proof/Tests/Slice0.lean ====
section
/-!
SUPPORT. Tests: an ill-formed command for each check, the spec's worked examples, single steps, and for every statement with
hypotheses a concrete state and operands that meet them. In the witnesses `u` is the machine at the instant of the command: as
`u.at 0 = u`, it is one that the statement speaks of.
-/

set_option Elab.async false

namespace Sys2Proof.Machine

/-! ### Machines the tests start from -/

/-- A machine in RUN with every domain on, DRAM running and machine time running: what most witnesses start from. -/
def up : State :=
  { (((((State.reset.put .basecamp BC_PD_ON 0x3FFFFFF).put .basecamp BLK_STATE PS_RUN).put .basecamp BC_STATUS_XTAL_OK 1).put
    (.dmc 0) BLK_STATE DMC_RUN).put .time BLK_STATE 1) with
    now := 10000000000000, mp := { State.reset.mp with up := true } }

/-- `s` at an instant that it names itself. -/
def State.atDue (s : State) (f : State → Nat) : State := { s with now := f s }

/-- Engine 0 in LIT from instant 0, showing one plane of 4 µs that enters at 10 µs. -/
def litPlane : State :=
  (((up.put (.eng 0) BLK_STATE E_LIT).putInf (.eng 0) ENG_FRAME_MAX 20000000).putInf (.eng 0) ENG_GEOM_HEIGHT 480).modGrd 0
    fun g => { g with planes := [{ kind := .duration, bit := 3, lsel := 0, entry := 160000, hold := 64000, open_ := 0, pulse := 0 }] }
def grdUp : State :=
  ((((litPlane.put (.sxl 0) SXL_STATUS_LINK_UP 1).put (.sxl 0) SXL_STATUS_GROUPS_IN_USE 15).put (.sxl 0) SXL_ARRAY_CAP
    0x700).putInf (.eng 0) ENG_GEOM_WIDTH 640).atDue fun _ => 0
def grdLoad : Nat × Nat × Nat := (earliest ((grdUp.loadsDue 0).filter fun l => grdUp.loadOpen 0 l.2.1 l.2.2)).getD (0, 0, 0)
def grdReset : Nat × Nat × Nat := ((grdUp.modGrd 0 fun g => { g with loaded := [(0, 0)] }).nextReset 0).getD (0, 0, 0)
def ltnLit : State := litPlane.put (.ltn 0) BLK_STATE LTN_RUN
def litWin : State := ltnLit.atDue fun s => 160000 - s.get (.ltn 0) LTN_DOUT_OPEN
def litClose : State := (ltnLit.put (.ltn 0) LTN_STATUS_WIN 1).atDue fun s => 224000 - s.get (.ltn 0) LTN_DOUT_CLOSE
def litSel : State := ((ltnLit.put (.ltn 0) LTN_STATUS_LSEL 1).putInf (.ltn 0) LTN_LSEL_TIME_SETUP 100).atDue fun _ => 159000

def linkMeas : List RateMeas :=
  [{ rate := 2, tried := true, lanes := 0xFFFF, eyes := Vector.replicate 16 800, preset := Vector.replicate 16 0 }]
def sbGood : Nat := sbRequest 0 0 0 0

def npRun : State := ((up.put (.np 0) (NP_STATUS_STATE 0) NP_RUN).put (.np 0) (NP_CFG_EN 0) 1).putInf (.np 0) (NP_CFG_EN 0) 1
def mxRun : State := (up.put (.mx 0) (MX_STATUS_STATE 0) MX_RUN).putInf (.mx 0) (MX_CFG_COLS_M1 0) 3
def strobeUp : State :=
  let s := (npRun.putInf (.np 0) (NP_CFG_LATCH_MODE 0) 1).put .sched BLK_CTRL_EN 1
  { s with sched := [(3, { st := .armed, action := 3, time := 10000 })] }

def cmdWords (op : Nat) (w : List Nat) : Vector Word 16 :=
  Vector.ofFn fun i => if i.val = 0 then BitVec.ofNat 32 (op * 2 ^ 24 + 4 * w.length) else BitVec.ofNat 32 (w.getD (i.val - 1) 0)
def hspiRd : List Byte := let h : List Byte := [0x0B, 0, 0x40, 0, 0x80, 0]; h ++ beBytes 2 (crc16 h) ++ List.replicate 4 0
def hspiWr : List Byte :=
  let h : List Byte := [2, 0, 0x40, 0, 0x80, 0]
  h ++ beBytes 2 (crc16 h) ++ [1, 2, 3, 4] ++ beBytes 2 (crc16 [1, 2, 3, 4])

def keyed : State := { up with sec := { up.sec with keys := up.sec.keys.set 9 { valid := true, cfg := 0xFFFFFFFF } } }
def icpFrame (op : Nat) (body : List Byte) : NetPkt :=
  { bytes := [0x49, 0x43, 9, 0, 0, 0, 0, 1, 0, 0, 0, 0, BitVec.ofNat 8 op, 0, 0, 0] ++ beBytes 2 body.length ++ [0, 0] ++ body ++
      List.replicate 8 0
    tag := true, at' := 5 }
def icpUp (f : NetPkt) (s : State) : State := s.modEth 0 fun e => { e with reqs := [f] }
def icpTake (f : NetPkt) (s : State) : State :=
  ((({ icpUp f s with out := [] } : State).modEth 0 fun e => { e with reqs := [] }).authenticate 0 0 f).1

def domUp : State := up.put .basecamp BC_PD_ON 0x3FFFFFF
def hotTs : State := up
def hotHit : Nat × Int := (hotTs.tsSample 0 1200).2.getD (0, 0)
def recovUp : State :=
  { up.put .sec SEC_STATUS_RECOVERY 1 with fsram := memSetBytes [] 0 [0x49, 0x4C, 0x52, 0x54, 0, 0, 0, 2, 0, 1] }

def ethFrame : EthRx := { bytes := List.replicate 60 0, fcs := true, icv := false, plain := [], tag := false }
def msecFrame : EthRx :=
  { bytes := List.replicate 12 0 ++ [0x88, 0xE5, 0, 0, 0, 0, 0, 5] ++ List.replicate 40 0, fcs := true, icv := true, plain := []
    tag := false }
def msecUp : State :=
  (((up.put (.eth 0) BLK_CTRL_EN 1).put (.eth 0) ETH_STATUS_LINK 1).put (.eth 0) ETH_CFG_MSEC_EN 1).modEth 0 fun e =>
    { e with rxSa := #v[[(0, { cipher := 0, sci := 0, ssci := 0, key := [], pn := 1 })], [], [], []] }
def canUp : State :=
  ((((up.put (.can 0) BLK_CTRL_EN 1).put (.can 0) ⟨(CAN_FLT_ID 0).off, 0, 32⟩ 0x80000000).put (.can 0) ⟨CAN_TX_CTL.off, 0, 13⟩
    64).put (.can 0) ⟨CAN_RX_CTL.off, 0, 13⟩ 64)
def canFrame : CanFrame := { kind := 0, ext := false, id := 5, data := [1] }
def storFound : StorInit := { link := true, x2 := true, rate := 3, ns := [(1, 4096, 1000)] }

theorem pairOf {α β : Type} (x : α × β) (b : β) (h : x.2 = b) : x = (x.1, b) := Prod.ext rfl h

def pkgHead : List Byte :=
  [0x48, 0x51, 0x50, 0x31, 0, 1, 0, 1, 0, 0, 0, 0, 0, 0, 0, 1, 0, 0, 0x10, 0, 3] ++ List.replicate 75 0 ++
    [0, 0xF0, 0, 0, 0, 0, 0, 0, 0, 0, 0, 192, 0, 0, 0, 64]
def pkgUp : State :=
  { up with
    content := { up.content with st := 1, opening := (1, 0, 1) }
    nvmMem := memSetBytes [] nvmContentBase pkgHead
    sec := { up.sec with keys := up.sec.keys.set 3 { valid := true } } }

end Sys2Proof.Machine

namespace Sys2Proof.Tests

open Sys2Proof Sys2Proof.Machine

/-! ### Ill-formed commands are refused -/

/-- One ill-formed command for each check of `Instr.wf`: an operand wider than its field. -/
theorem test_ill_formed : ([
    .registerWrite 0 .mp (2 ^ 32) 4 0, .registerWrite 0 .mp 0 3 0, .registerWrite 0 .mp 0 4 (2 ^ 32), .fsramWrite 0 .mp 0x5000000 0,
    .fsramWrite 0 .mp 0 (2 ^ 32), .apertureAccess 0 .mp (2 ^ 31) true 0, .apertureAccess 0 .mp 0 true (2 ^ 32),
    .errCodeClear 0 .mp 0xA1 0, .errCodeClear 0 .mp 0 (2 ^ 32), .softReset 0 .mp 0xA1 0, .softReset 0 .mp 0 (2 ^ 32),
    .blockEnable 0 .mp 0xA1 true, .freeze 0 .mp 0xA1 true, .irqSet 0 .mp 0xA1 0, .irqSet 0 .mp 0 (2 ^ 32), .lock 0 .mp 0xA1 0,
    .lock 0 .mp 0 (2 ^ 16), .commitGo 0 .mp 0xA1, .motionPublish 0 .mp (2 ^ 32), .imsCfgWrite 0 .mp (2 ^ 32),
    .setpointFrame 0 0 (2 ^ 16), .pdSample 0 0 (2 ^ 16) true, .linkLitCheck 0 0 true (2 ^ 16), .markEcho 0 0 0 (2 ^ 48)] :
    List Instr).all (fun i => !i.wf) = true := by decide +kernel

/-- The same for links, scanners, lamp ports, time and DRAM. -/
theorem test_ill_formed_light : ([
    .trainingDone 0 0 [{ rate := 3, tried := true, lanes := 0, eyes := Vector.replicate 16 0, preset := Vector.replicate 16 0 }],
    .trainingDone 0 0 [{ rate := 0, tried := true, lanes := 2 ^ 16, eyes := Vector.replicate 16 0
                         preset := Vector.replicate 16 0 }],
    .sidebandTransaction 0 0 16 0 0 0, .sidebandTransaction 0 0 0 256 0 0, .sidebandTransaction 0 0 0 0 (2 ^ 16) 0,
    .sidebandTransaction 0 0 0 0 0 (2 ^ 40), .attn 0 0 (2 ^ 16) 0 0 0, .attn 0 0 0 (2 ^ 16) 0 0, .attn 0 0 0 0 (2 ^ 16) 0,
    .attn 0 0 0 0 0 (2 ^ 16), .linkStatPoll 0 0 (2 ^ 16), .tempPoll 0 0 (2 ^ 16), .eyePoll 0 0 (Vector.replicate 16 1001),
    .groupProbe 0 0 16, .linkLoss 0 0 true 16, .parkLoad 0 .mp 0 (2 ^ 32), .turningPoint 0 0 (2 ^ 16) 0 true,
    .turningPoint 0 0 0 (2 ^ 16) true, .slowAxisCheck 0 0 (2 ^ 16), .pttDataWrite 0 .mp 0 (2 ^ 32),
    .npReturnFrame 0 0 0 [(0, 2 ^ 32)] 0, .cfgAccess 0 .mp 0 (2 ^ 32), .npkDataAccess 0 .mp true (2 ^ 32),
    .timeIncrWrite 0 .mp (2 ^ 32), .timeSlewWrite 0 .mp (2 ^ 32), .pdelayWrite 0 .mp 0 (2 ^ 32), .txqPush 0 .mp 0 (2 ^ 32),
    .portRequest 0 0 true 0 32 []] : List Instr).all (fun i => !i.wf) = true := by decide +kernel

/-- The same for the mailbox, supplies, calibration, networks and storage. -/
theorem test_ill_formed_system : ([
    .calStore 0 [(0x0E, [])], .calStore 0 [(0, List.replicate 65505 0)], .nvmCommit 0 (List.replicate 65505 0),
    .contentOpenDone 0 { read := true, bytes := [], key := true, sig := true, badHash := [], place := [1] },
    .powerStateBivouac 0 [(0x11, [])], .powerStateBivouac 0 [(0, List.replicate 65505 0)], .mpLoadWindow 0 101 0,
    .mpLoadWindow 0 0 101, .extFault 0 (2 ^ 32) true, .wdogKick 0 .mp (2 ^ 32), .pdReqWrite 0 .mp (2 ^ 32),
    .systemReset 0 .mp (2 ^ 32), .vbatMinWrite 0 .mp (2 ^ 32), .calMeasurementStart 0 0 0 0 0 true,
    .calMeasurementStart 0 10 0 0 0 true, .calMeasurementStart 0 1 8 0 0 true,
    .calMeasurementDone 0 0 0 { vals := [], quality := 0, second := 0, line := 0, a := 0, b := 0 },
    .calMeasurementDone 0 1 0 { vals := [], quality := 0, second := 2 ^ 32 + 1, line := 0, a := 0, b := 0 },
    .calUnstable 0 0 0, .svnAdvance 0 .mp (2 ^ 31),
    .ethFrameRx 0 0 { bytes := List.replicate 13 0, fcs := true, icv := false, plain := [], tag := false },
    .ethTxDoorbell 0 .mp 0 (2 ^ 32), .msecSaInstall 0 .mp 0 (2 ^ 32), .canFrameRx 0 0 { kind := 3, ext := false, id := 0, data := [] },
    .canFrameRx 0 0 { kind := 0, ext := true, id := 2 ^ 29, data := [] },
    .canFrameRx 0 0 { kind := 0, ext := false, id := 0, data := List.replicate 9 0 }, .storDoorbell 0 .mp true (2 ^ 32),
    .cqPosted 0 64 false, .nvmeTimeout 0 64, .storInitDone 0 { link := true, x2 := true, rate := 4, ns := [] }] :
    List Instr).all (fun i => !i.wf) = true := by decide +kernel

/-! ### The spec's worked examples -/

/-- The capability list of the IL7460-F (spec/02): the entries of ENG and NP. -/
theorem test_capability_entries :
    ([0x190, 0x194, 0x198, 0x19C, 0x210, 0x214, 0x218].map fun o => (up.busRead .mp (0x40000000 + o) 4).out) =
      ([0x01010104, 0x40010000, 0x10000000, 0x000001A0, 0x0150010D, 0x40060000, 0x10000070].map fun w : Nat =>
        [some (BitVec.ofNat 32 w)]) := by decide +kernel

/-- The matrix port example (spec/10): GAMMA22 of 30,000, its duty under 0x6CCD, and t_SLOT and t_SHIFT of its timing. -/
theorem test_matrix_example :
    gamma22 30000 = 11746 ∧ mxDuty 11746 0x6CCD = 9984 ∧ gbitsCode 12 9984 = 9984 ∧
      rowSlot (500 + 12 * 2 ^ 16 + 15 * 2 ^ 24) = 246460 ∧ rowShift 64 5 = 5120 := by decide +kernel

/-- The DRAM address example (spec/12): channel, CA, bank and row of PA 0x2_4681_3A40 with eight channels of two ranks of 16 Gbit. -/
theorem test_dram_address :
    dmcMap 0xC0 0x246813A40 = (2, 0x48D02740) ∧ dmcPlace 0xC0 0x48D02740 = (0, 4, 0x91A0) := by decide +kernel

/-- Slot B of the record of ENG0 (spec/17). -/
theorem test_record_slot : recSlot 2 1 = 0x046000 := by decide +kernel

/-- The neighbours of TS9 (spec/16). -/
theorem test_neighbours : sensorNbrs 9 = [3, 8, 10, 15] := by decide +kernel

/-- The slew example (spec/11): 100 ppm is 1,717,987 units a tick. -/
theorem test_slew : slewDelta 100 = 1717987 := by decide +kernel

/-- The shortest pulse of P240-16 and its longest duration plane end where X says (spec/05): V = 0x8C2B selects planes 15, 11, 10,
5, 3, 1 and 0. -/
theorem test_bit_planes : ((List.range 16).filter fun b => bitOf 0x8C2B b) = [0, 1, 3, 5, 10, 11, 15] := by decide +kernel

/-! ### Single steps -/

/-- A step takes the front command and leaves the rest waiting. -/
theorem test_step_queue :
    (match step { State.reset with pending := [.tclkTick 16, .tclkTick 32] } with
      | .next s => s.pending == [.tclkTick 32]
      | _ => false) = true := by decide +kernel

/-- An empty queue idles. -/
theorem test_step_idle : step State.reset = .next State.reset := rfl

/-- A supply beyond 58 V stops the machine (R481), as does a reset pulse of 3 µs (R494). -/
theorem test_stops : exec (.vbatSample 0 5801) up = .fault .overstress ∧
    exec (.pinReset 0 (usU 3)) up = .fault .resetPulseUndefined := ⟨rfl, rfl⟩

/-- START of an engine in OFF with a program leads to TRAIN and waits for the PBA (R114). -/
theorem test_eng_start :
    (let s := (up.putInf (.grd 0) GRD_PRG0_CTRL_COUNT 3).engStart 0 0 0
     s.1.engState 0 == E_TRAIN && s.1.flag (.eng 0) ENG_STATUS_PBA_WAIT && s.2 == (ST_OK, 0)) = true := by decide +kernel

/-- STOP of an engine in OFF is STATE_REJECT with detail CMD_STATE (R114). -/
theorem test_eng_stop_off : (up.engStop 0 0 0).2 = (ST_STATE_REJECT, ENG_CMD_STATE) := by decide +kernel

/-- An undeclared page answers `BUS_ERR` with cause 0x02, recorded in SYS (R38, R40). -/
theorem test_bus_error :
    (let s := up.busRead .mp 0x4000F000 4
     s.out == [none] && s.get .sys SYS_BERR_ADDR == 0x4000F000 && s.get .sys SYS_BERR_CNT == 1) = true := by decide +kernel

/-- No word spells a command, and `withFetchWord` then changes nothing. -/
theorem test_no_words : decodeTableWord 32 0 = none ∧ State.reset.withFetchWord 32 0 = State.reset := ⟨rfl, rfl⟩

/-! ### The other statements' hypotheses can be met -/

theorem test_StepRunsTheFrontCommand_witness : ∃ (c : Instr) (r : List Instr) (s : State), s.pending = c :: r :=
  ⟨.tclkTick 0, [], { State.reset with pending := [.tclkTick 0] }, rfl⟩

theorem test_StepIdlesOnAnEmptyQueue_witness : State.reset.pending = [] := rfl

theorem test_CommandsKeepQueueAndPackage_witness : ∃ (c : Instr) (s u : State), exec c s = .next u :=
  ⟨.tclkTick 0, up, _, rfl⟩

theorem test_TimeNeverRunsBack_witness : ∃ (c : Instr) (s u : State), exec c s = .next u ∧ s.now < u.now :=
  ⟨.tclkTick 1000, State.reset, _, rfl, by decide +kernel⟩

theorem test_OnlyTwoCausesStopTheMachine_witness :
    (∃ (c : Instr) (s : State), exec c s = .fault .resetPulseUndefined) ∧
      (∃ (c : Instr) (s : State), exec c s = .fault .overstress) ∧
      (∃ dur : Nat, usU 1 ≤ dur ∧ dur < usU 5) ∧ ∃ v : Nat, 5800 < v :=
  ⟨⟨.pinReset 0 (usU 1), up, rfl⟩, ⟨.vbatSample 0 5801, up, rfl⟩, ⟨usU 5 - 1, by decide +kernel⟩, 5801, by decide +kernel⟩

theorem test_StepKeepsCanonicalForm_witness :
    ∃ s u : State, s.canonical = true ∧ step { s with pending := [.tclkTick 0] } = .next u :=
  ⟨State.reset, _, by decide +kernel, rfl⟩

theorem test_StepKeepsTheInterlock_witness :
    ∃ s u : State, (∀ x : Fin 6, s.tripped x = true → s.ltnState x = LTN_TRIPPED ∧ s.lanternDark x = true ∧ s.ltn[x].loading = false) ∧
      s.tripped 0 = true ∧ step { s with pending := [.tclkTick 0] } = .next u :=
  ⟨up.trip 0 6, _, by decide +kernel, by decide +kernel, rfl⟩

theorem test_LightPathCommandsKeepMemories_witness :
    ∃ (t : Nat) (s v : State), exec (.setupStart t) s = .next v ∧ s.mp.recRun = false := ⟨0, up, _, rfl, rfl⟩

theorem test_SupplyCommandsKeepMemories_witness :
    ∃ (t : Nat) (s v : State), exec (.lockstep t) s = .next v ∧ s.mp.recRun = false := ⟨0, up, _, rfl, rfl⟩

theorem test_ServiceCommandsKeepMemories_witness :
    ∃ (t : Nat) (s v : State), exec (.rspDrop t 0) s = .next v ∧ s.mp.recRun = false := ⟨0, up, _, rfl, rfl⟩

theorem test_QuietCommandsKeepRegisters_witness :
    ∃ (t : Nat) (s v : State), exec (.fsyncPulseEnd t 0) s = .next v := ⟨0, up, _, rfl⟩

theorem test_CommandsKeepOtherPages_witness :
    ∃ (t : Nat) (s v : State), exec (.tsbSample t 100) s = .next v := ⟨0, up, _, rfl⟩

theorem test_ActiveViewReads_witness : ∃ (s : State) (path : Path) (p : Page) (x v : Nat), x < 0x800 ∧ x % 4 = 0 ∧
    s.domOn PD_NOC = true ∧ v < 2 ^ 32 ∧ s.busCause path (p.base + x) 4 false = none ∧
    s.secRefuses path (.page p (0x800 + x)) = false :=
  ⟨up, .mp, .eng 0, 0x44, 5, by decide +kernel, by decide +kernel, by decide +kernel, by decide +kernel, by decide +kernel,
    by decide +kernel⟩

/-- Each clause at its boundary: the two limits, and one unit beyond each. -/
theorem test_ServoUpdateIsLimited_witness :
    let s := up.put .time TIME_INCR_EXT 0
    let inc (v : Nat) := bitsOf v 0 20 * 2 ^ 16 + s.get .time TIME_INCR_EXT
    s.flag .time TIME_STATUS_HOLDOFF = false ∧ inc 0x3FEFA = 0x0003FEFA0000 ∧ inc 0x40106 = 0x000401060000 ∧
      inc 0x3FEF9 < 0x0003FEFA0000 ∧ 0x000401060000 < inc 0x40107 := by decide +kernel

theorem test_FailingAccessesAreRecorded_witness : ∃ (s : State) (path : Path) (a width c : Nat), s.domOn PD_NOC = true ∧
    a < 2 ^ 32 ∧ s.busCause path a width true = some c ∧ s.recording = false :=
  ⟨up, .mp, 0x4000F000, 4, (up.busCause .mp 0x4000F000 4 true).getD 0, by decide +kernel, by decide +kernel, by decide +kernel,
    by decide +kernel⟩

/-- The clause for cause 0x0A: a write that the permissions refuse. -/
theorem test_FailingAccessesAreRecorded_path : ∃ (s : State) (a : Nat), s.busCause .hspi a 4 true = some 0x0A :=
  ⟨up, 0x400A0044, by decide +kernel⟩

theorem test_FrontBufferWritesAreDiscarded_witness : ∃ (s : State) (off : Nat), off < 0x5000000 ∧ off % 4 = 0 ∧
    s.domOn PD_NOC = true ∧ s.frontBuffer off = true ∧ s.domOn (PD_FSRAM (off / quarterSize)) = true :=
  ⟨up.put (.eng 0) BLK_STATE E_LIT, 0, by decide +kernel, by decide +kernel, by decide +kernel, by decide +kernel, by decide +kernel⟩

theorem test_FrozenPagesHoldTheirValues_witness :
    (∃ (s : State) (path : Path) (p : Page) (off b : Nat), path ≠ .ext ∧ off < 0x800 ∧ s.frozen p = false ∧
      p.base + off ∈ p.regAddrs ∧ b < 32 ∧ bitOf (heldMask p off) b = true) ∧
    (∃ (s : State) (p : Page) (off a b : Nat), off < 0x800 ∧ s.frozen p = true ∧ b < 32 ∧ a ≠ p.base + BLK_CTRL.off ∧
      bitOf (heldMask p off) b = true) ∧
    (∃ (s : State) (p : Page) (off b : Nat), off < 0x800 ∧ s.frozen p = true ∧ b < 32 ∧ bitOf (heldMask p off) b = false) :=
  ⟨⟨up, .mp, .time, BLK_STATE.off, 0, by decide +kernel, by decide +kernel, by decide +kernel, by decide +kernel, by decide +kernel,
      by decide +kernel⟩,
    ⟨up.freezeWrite .time true, .time, BLK_STATE.off, 0, 31, by decide +kernel, by decide +kernel, by decide +kernel,
      by decide +kernel, by decide +kernel⟩,
    ⟨up.freezeWrite .time true, .time, IRQ_STAT.off, 0, by decide +kernel, by decide +kernel, by decide +kernel,
      by decide +kernel⟩⟩

theorem test_LockedPagesStayAsTheyAre_witness :
    (∃ (s : State) (p : Page) (v : Nat), s.flag p LOCK_LOCKED = false ∧ bitsOf v 16 16 = 0x5AFE) ∧
    (∃ (s : State) (p : Page) (off b : Nat) (r : RegRow), s.flag p LOCK_LOCKED = true ∧ p.row? off = some r ∧ 0x040 ≤ off ∧
      off < 0x800 ∧ b < 32 ∧ bitOf r.rwl b = true) :=
  ⟨⟨up, .time, 0x5AFE0000, by decide +kernel, by decide +kernel⟩,
    ⟨up.put (.ltn 0) LOCK_LOCKED 1, .ltn 0, LTN_WIN_MAX.off, 0, ((Page.ltn 0).row? LTN_WIN_MAX.off).get (by decide +kernel),
      by decide +kernel, by decide +kernel, by decide +kernel,
      by decide +kernel, by decide +kernel, by decide +kernel⟩⟩

theorem test_GoReleasesStagedFields_witness :
    (up.put (.eng 0) COMMIT_PENDING 1).commitPending (.eng 0) = true ∧
    (Page.time.group = .alone .time ∧ Page.time.declared up.pkg = true ∧ up.commitPending (.alone .time) = false) ∧
    (up.engFrames 0 = false ∧ up.linkUp 0 = false ∧ up.commitPending (.eng 0) = false ∧
      (up.commitOpen (.eng 0) {}).engFails 0 false = [] ∧ Page.eng 0 ∈ up.groupPages (.eng 0) ∧ (Page.eng 0).stagedRegs ≠ []) ∧
    worstFail [((ST_BAD_PARAM, 5, Page.eng 0) : CommitFail)] = some (ST_BAD_PARAM, 5, .eng 0) := by decide +kernel

theorem test_TripShutsTheSource_witness :
    (∃ (s : State) (x : Fin 6), s.tripped x = true) ∧
    (∃ (s : State) (x : Fin 6) (cause : Nat), s.tripped x = false ∧ cause < 16 ∧ cause ≠ 6 ∧ s.unitState x ≠ E_OFF) :=
  ⟨⟨up.trip 0 6, 0, by decide +kernel⟩,
    ⟨up.put (.eng 0) BLK_STATE E_LIT, 0, 15, by decide +kernel, by decide +kernel, by decide +kernel, by decide +kernel⟩⟩

theorem test_EngineCommandsFollowTheTable_witness :
    let s := up.putInf (.grd 0) GRD_PRG0_CTRL_COUNT 3
    s.inf (.grd 0) GRD_PRG0_CTRL_COUNT ≠ 0 ∧ s.engState 0 = E_OFF ∧ (s.put (.eng 0) BLK_STATE E_SAFE).engState 0 = E_SAFE ∧
      (s.put (.eng 0) BLK_STATE E_READY).engState 0 = E_READY ∧ (s.put (.eng 0) BLK_STATE E_FAULT).engState 0 = E_FAULT ∧
      (s.put (.eng 0) BLK_STATE E_FAULT).faultGone 0 = true ∧ s.ltnState (ltnOfEng 0) ≠ LTN_TRIPPED := by decide +kernel

theorem test_RefusedCommandsHaveNoEffect_witness :
    (up.engStop 0 0 0).2.1 ≠ ST_OK ∧
    (let s := (up.putInf (.grd 0) GRD_PRG0_CTRL_COUNT 3).put (.eng 0) BLK_STATE E_LIT
     s.inf (.grd 0) GRD_PRG0_CTRL_COUNT ≠ 0 ∧ s.engState 0 ≠ E_OFF ∧ s.engState 0 ≠ E_READY ∧ s.engState 0 ≠ E_SAFE) ∧
    (bitsOf 0x80000003 31 1 = 1 ∧ (up.nvmCheck (bitsOf 0x80000003 0 4) (up.get .nvm NVM_ADDR) (bitsOf 0x80000003 8 3 + 1)).1 ≠ ST_OK) ∧
    (up.flag .time TIME_STATUS_HOLDOFF = false ∧ 10000000 < (signed 32 10000001).natAbs) ∧
    (bitsOf 1 0 4 = 1 ∧ 1000000000 ≤ (up.put .time TIME_SET_NS 1000000000).get .time TIME_SET_NS) := by decide +kernel

theorem test_ExtensionFaultsStopTheExtension_witness : ∃ (s : State) (a : Nat), s.pathLive .ext = true ∧ s.extMay a true = false :=
  ⟨up.put .mbx MP_EXT_CTRL_RUN 1, 0x20000000, by decide +kernel, by decide +kernel⟩

theorem test_GrantsFollowTheOrder_witness :
    (∃ (s : State) (q : PbaReq), s.nextGrant = some q) ∧
    (∃ (s : State) (q : PbaReq), s.nextGrant = none ∧ s.reqClass q.id = 0) :=
  ⟨⟨{ up with pba := { up.pba with queue := [{ id := ID_ENG 0, port := NO_PORT, since := 5 }] } },
      { id := ID_ENG 0, port := NO_PORT, since := 5 }, by decide +kernel⟩,
    ⟨up.put .pba ⟨(PBA_REQ 1).off, 30, 2⟩ 0, { id := 1, port := NO_PORT, since := 5 }, by decide +kernel, by decide +kernel⟩⟩

theorem test_SystemResetIsCold_witness : (5 : Nat) ≠ 0xC01D ∧ Path.hspi ≠ Path.mp := by decide +kernel

/-! ### Every completion clause can be met -/

/-- Time at or before the machine's own changes nothing. -/
theorem test_at_zero (u : State) : u.at 0 = u := if_pos (Nat.zero_le _)

theorem test_AccessesComplete_witness :
    (∃ (path : Path) (p : Page) (off : Nat) (v : Nat) (u : State), 0x044 ≤ off ∧ off < 0x800 ∧ v < 2 ^ 32 ∧ u.reaches path
        (p.base + off) 4 true = true) ∧
    (∃ (path : Path) (off : Nat) (v : Nat) (u : State), off < 0x5000000 ∧ v < 2 ^ 32 ∧ u.reaches path (0x20000000 + off) 4
        true = true) ∧
    (∃ (path : Path) (off : Nat) (v : Nat) (u : State), off < 0x80000000 ∧ v < 2 ^ 32 ∧ u.reaches path (0x80000000 + off) 4
        true = true) ∧
    (∃ (path : Path) (off : Nat) (u : State), off < 0x80000000 ∧ u.reaches path (0x80000000 + off) 4 false = true) :=
  ⟨
    ⟨.mp, .time, 0x74, 5, up, by decide +kernel⟩,
    ⟨.mp, 0x1000, 5, up, by decide +kernel⟩,
    ⟨.mp, 0x1000, 5, up, by decide +kernel⟩,
    ⟨.mp, 0x1000, up, by decide +kernel⟩⟩

theorem test_HeaderCommandsComplete_witness :
    (∃ (path : Path) (p : Page) (pg : Nat) (v : Nat) (u : State), p.base = pageAddr pg 0 ∧ v < 2 ^ 32 ∧ u.writable path p
        ERR_CODE = true ∧ bitsOf v 8 8 = u.get p ERR_CODE_CLASS) ∧
    (∃ (path : Path) (p : Page) (pg : Nat) (v : Nat) (u : State), p.base = pageAddr pg 0 ∧ v < 2 ^ 32 ∧ u.writable path p
        BLK_CTRL = true ∧ u.emits p = false) ∧
    (∃ (path : Path) (p : Page) (pg : Nat) (en : Bool) (u : State), p.base = pageAddr pg 0 ∧ u.writable path p BLK_CTRL =
        true ∧ p.enFixed = false ∧ (en = true ∨ u.emits p = false)) ∧
    (∃ (path : Path) (p : Page) (pg : Nat) (u : State), p.base = pageAddr pg 0 ∧ u.writable path p BLK_CTRL = true) ∧
    (∃ (path : Path) (p : Page) (pg : Nat) (v : Nat) (u : State), p.base = pageAddr pg 0 ∧ v < 2 ^ 32 ∧ u.writable path p
        IRQ_SET = true) ∧
    (∃ (path : Path) (p : Page) (pg : Nat) (u : State), p.base = pageAddr pg 0 ∧ u.writable path p LOCK = true ∧ u.flag p
        LOCK_LOCKED = false) ∧
    (∃ (path : Path) (p : Page) (pg : Nat) (u : State), p.base = pageAddr pg 0 ∧ u.writable path p COMMIT = true ∧
        u.commitPending p.group = false) :=
  ⟨
    ⟨.mp, .time, 8, 0, up, by decide +kernel⟩,
    ⟨.mp, .time, 8, 0, up, by decide +kernel⟩,
    ⟨.mp, (.comp 0), 0x40, true, up, by decide +kernel⟩,
    ⟨.mp, .time, 8, up, by decide +kernel⟩,
    ⟨.mp, .time, 8, 0, up, by decide +kernel⟩,
    ⟨.mp, .time, 8, up, by decide +kernel⟩,
    ⟨.mp, .time, 8, up, by decide +kernel⟩⟩

theorem test_CompositorCommandsComplete_witness :
    (∃ (u : State), u.compCan = true ∧ (u.inf (.comp 0) COMP_CFG_TRIG_MODE = 0 ∨ (u.inf (.comp 0) COMP_CFG_TRIG_MODE ≠ 3 ∧
        u.maskNewer = true))) ∧
    (∃ (u : State), u.compCan = true ∧ u.inf (.comp 0) COMP_CFG_TRIG_MODE = 2 ∧ u.compLastStart + usU (bitsOf (u.inf (.comp
        0) COMP_TRIG_TIMEOUT) 0 16) ≤ u.now) ∧
    (∃ (u : State), u.compState = COMP_SETUP) ∧
    (∃ (c : _) (n : Fin 4) (geom : _) (pred : _) (pix : _) (rest : _) (u : State), u.cmp.run = some c ∧ c.engs = (n.val,
        geom, pred, pix) :: rest ∧ c.start + compDur c.low pix ≤ u.now) ∧
    (∃ (c : _) (u : State), u.cmp.run = some c ∧ c.engs = [] ∧ c.scns = []) ∧
    (∃ (path : Path) (v : Nat) (u : State), v < 2 ^ 32 ∧ u.writable path (.comp 0) MOT_STAMP_NS = true) :=
  ⟨
    ⟨(((up.put (.comp 0) BLK_STATE COMP_WAIT).putInf (.comp 1) CE_CFG_EN 1 |>.put (.eng 0) BLK_STATE E_READY |>.modCmp fun
        c => { c with granted := true }).putInf (.comp 0) COMP_CFG_TRIG_MODE 0), by decide +kernel⟩,
    ⟨(((up.put (.comp 0) BLK_STATE COMP_WAIT).putInf (.comp 1) CE_CFG_EN 1 |>.put (.eng 0) BLK_STATE E_READY |>.modCmp fun
        c => { c with granted := true }).putInf (.comp 0) COMP_CFG_TRIG_MODE 2), by decide +kernel⟩,
    ⟨(up.put (.comp 0) BLK_STATE COMP_SETUP), by decide +kernel⟩,
    ⟨(({ start := 0, low := false, engs := [(0, 7, 8, 600)], scns := [], clones := [], marked := [], slot := none } :
        CompRun)), 0, 7, 8, 600, [], (up.modCmp fun m =>
        { m with run := some { start := 0, low := false, engs := [(0, 7, 8, 600)], scns := [], clones := [], marked := [], slot := none } }), by decide +kernel⟩,
    ⟨(({ start := 0, low := false, engs := [], scns := [], clones := [], marked := [], slot := none } : CompRun)),
        (up.modCmp fun m =>
        { m with run := some { start := 0, low := false, engs := [], scns := [], clones := [], marked := [], slot := none } }), by decide +kernel⟩,
    ⟨.mp, 5, up, by decide +kernel⟩⟩

theorem test_IngestCommandsComplete_witness :
    (∃ (n : Fin 4) (f : _) (rest : _) (w : State) (u : State), u.eth[n].ims = f :: rest ∧ u.lowerFirst n f = false ∧ frBE
        f.bytes 0 2 = 0x494D ∧ 16 ≤ f.bytes.length ∧ (u.modEth n fun e => { e with ims := rest }).authenticate 1 n f = (w,
        none) ∧ w.flag (.comp 7) IMS_CFG_EN = true) ∧
    (∃ (i : Fin 4) (u : State), u.ims.slots[i].state = MASK_FILLING ∧ u.ims.slots[i].since + u.imsTimeout ≤ u.now) ∧
    (∃ (_ : State), True) ∧
    (∃ (path : Path) (v : Nat) (u : State), v < 2 ^ 32 ∧ u.writable path (.comp 7) IMS_CFG = true ∧ u.flag (.comp 7)
        IMS_CFG_EN = false) :=
  ⟨
    ⟨0, { bytes := [0x49, 0x4D, 9, 0, 0, 0, 0, 1] ++ List.replicate 24 0, tag := true, at' := 5 }, [], (((((keyed.put
        (.comp 7) IMS_CFG_EN 1).modEth 0 fun e =>
        { e with ims := [{ bytes := [0x49, 0x4D, 9, 0, 0, 0, 0, 1] ++ List.replicate 24 0, tag := true, at' := 5 }] }).modEth 0 fun e => { e with ims := [] }).authenticate 1 0 { bytes := [0x49, 0x4D, 9, 0, 0, 0, 0, 1] ++ List.replicate 24 0, tag := true, at' := 5 }).1), ((keyed.put (.comp 7) IMS_CFG_EN 1).modEth 0 fun e => { e with ims := [{ bytes := [0x49, 0x4D, 9, 0, 0, 0, 0, 1] ++ List.replicate 24 0, tag := true, at' := 5 }] }), by decide +kernel, by decide +kernel, by decide +kernel, by decide +kernel, pairOf _ _ (by decide +kernel), by decide +kernel⟩,
    ⟨0, (up.setSlot 0 { state := MASK_FILLING }), by decide +kernel⟩,
    ⟨up, trivial⟩,
    ⟨.mp, 5, up, by decide +kernel⟩⟩

theorem test_EngineFramesComplete_witness :
    (∃ (n : Fin 4) (u : State), u.engState n = E_LIT ∧ u.eng[n].stop = false ∧ (u.engPlan n).2 = true ∧ u.onTick (u.engPlan
        n).1 = true) ∧
    (∃ (n : Fin 4) (due : _) (u : State), u.engState n = E_READY ∧ u.firstPlan n = some due ∧ u.onTick due = true) ∧
    (∃ (n : Fin 4) (u : State), u.engState n = E_LIT ∧ u.eng[n].stop = false ∧ (u.engPlan n).2 = false ∧ u.onTick
        (u.engPlan n).1 = true) ∧
    (∃ (n : Fin 4) (u : State), u.engState n = E_HOLD ∧ u.eng[n].stop = false ∧ u.flag (.eng n) ENG_STATUS_HOLD_PHASE =
        false ∧ u.onTick (tickUp (u.eng[n].sk + u.eng[n].holdPnom)) = true) ∧
    (∃ (n : Fin 4) (u : State), u.engState n = E_HOLD ∧ u.eng[n].stop = false ∧ u.flag (.eng n) ENG_STATUS_HOLD_PHASE =
        true ∧ u.onTick (u.holdEndPlan n) = true) ∧
    (∃ (n : Fin 4) (u : State), u.eng[n].stop = true ∧ u.engFrames n = true ∧ u.eng[n].sk + u.eng[n].lk ≤ u.now) ∧
    (∃ (n : Fin 4) (a : _) (u : State), u.eng[n].retryAt = some a ∧ a ≤ u.now ∧ u.engState n = E_SAFE ∧ u.get (.eng n)
        ENG_STATE_INFO_CAUSE = CAUSE_LINK_DEAD) ∧
    (∃ (n : Fin 4) (u : State), u.engFrames n = true ∧ u.flag (.eng n) ENG_STATUS_BLANKING = false ∧ u.eng[n].sk +
        u.eng[n].lk ≤ u.now) ∧
    (∃ (n : Fin 4) (u : State), u.engFrames n = true ∧ u.inf (.eng n) ENG_CFG_UNDERRUN_LIMIT ≠ 0 ∧ u.inf (.eng n)
        ENG_CFG_UNDERRUN_LIMIT ≤ u.eng[n].urRun + (if u.eng[n].ur then 1 else 0)) ∧
    (∃ (k : Fin 2) (u : State), u.scnFrames k = true ∧ u.inf (.scn k) SCN_CFG_UNDERRUN_LIMIT ≠ 0 ∧ u.inf (.scn k)
        SCN_CFG_UNDERRUN_LIMIT ≤ u.scn[k].urRun + (if u.scn[k].ur then 1 else 0)) ∧
    (∃ (n : Fin 4) (u : State), u.engFrames n = true ∧ u.infFlag (.eng n) ENG_FSYNC_EN = true ∧ u.eng[n].fsyncDone = false
        ∧ u.onTick (u.fsyncAt n) = true) ∧
    (∃ (n : Fin 4) (u : State), u.eng[n].fsync = true ∧ u.eng[n].fsyncEnd ≤ u.now) :=
  ⟨
    ⟨0, ((((up.put (.eng 0) BLK_STATE E_LIT).putInf (.eng 0) ENG_FRAME_MAX 20000000).modEng 0 fun e =>
        { e with ready := some 0 }).atDue fun s => (s.engPlan 0).1), by decide +kernel⟩,
    ⟨0, (((up.put (.eng 0) BLK_STATE E_READY |>.modEng 0 fun e => { e with start := true, ready := some 0 }).firstPlan
        0).getD 0), ((up.put (.eng 0) BLK_STATE E_READY |>.modEng 0 fun e =>
        { e with start := true, ready := some 0 }).atDue fun s => (s.firstPlan 0).getD 0), by decide +kernel⟩,
    ⟨0, (((up.put (.eng 0) BLK_STATE E_LIT).putInf (.eng 0) ENG_FRAME_MAX 20000000).atDue fun s => (s.engPlan 0).1),
        by decide +kernel⟩,
    ⟨0, ((up.put (.eng 0) BLK_STATE E_HOLD).atDue fun s => tickUp (s.eng[0].sk + s.eng[0].holdPnom)), by decide +kernel⟩,
    ⟨0, (((up.put (.eng 0) BLK_STATE E_HOLD).put (.eng 0) ENG_STATUS_HOLD_PHASE 1).atDue fun s => s.holdEndPlan 0),
        by decide +kernel⟩,
    ⟨0, (((up.put (.eng 0) BLK_STATE E_LIT).putInf (.eng 0) ENG_FRAME_MAX 20000000).modEng 0 fun e =>
        { e with stop := true }), by decide +kernel⟩,
    ⟨0, 4, ((up.put (.eng 0) BLK_STATE E_SAFE).put (.eng 0) ENG_STATE_INFO_CAUSE CAUSE_LINK_DEAD |>.modEng 0 fun e =>
        { e with retryAt := some 4 }), by decide +kernel⟩,
    ⟨0, ((up.put (.eng 0) BLK_STATE E_LIT).putInf (.eng 0) ENG_FRAME_MAX 20000000), by decide +kernel⟩,
    ⟨0, (((up.put (.eng 0) BLK_STATE E_LIT).putInf (.eng 0) ENG_FRAME_MAX 20000000).modEng 0 fun e =>
        { e with urRun := 16 }), by decide +kernel⟩,
    ⟨0, ((up.put (.scn 0) BLK_STATE E_LIT).modScn 0 fun c => { c with urRun := 255 }), by decide +kernel⟩,
    ⟨0, (((((up.put (.eng 0) BLK_STATE E_LIT).putInf (.eng 0) ENG_FRAME_MAX 20000000).putInf (.eng 0) ENG_FSYNC_EN
        1).modEng 0 fun e => { e with fsyncDone := false } ).atDue fun s => s.fsyncAt 0), by decide +kernel⟩,
    ⟨0, (up.modEng 0 fun e => { e with fsync := true }), by decide +kernel⟩⟩

theorem test_GrinderCommandsComplete_witness :
    (∃ (n : Fin 4) (p : _) (u : State), u.grd[n].planes[u.grd[n].begun]? = some p ∧ u.engFrames n = true ∧ u.now =
        u.eng[n].sk + p.entry) ∧
    (∃ (n : Fin 4) (d : _) (c : _) (b : _) (u : State), u.grd[n].load = none ∧ u.linkLanes n ≠ 0 ∧ earliest ((u.loadsDue
        n).filter fun l => u.loadOpen n l.2.1 l.2.2) = some (d, c, b)) ∧
    (∃ (n : Fin 4) (l : _) (d : _) (u : State), u.grd[n].load = some l ∧ l.finish ≤ u.now ∧ u.loadDeadline n l.count
        l.block = some d ∧ l.finish ≤ d) ∧
    (∃ (n : Fin 4) (i : _) (c : _) (b : _) (u : State), u.nextReset n = some (i, c, b) ∧ u.linkUp n = true ∧ u.resetWaits n
        c = false ∧ (u.grd[n].resets.filter fun r => r.2.1 == b && decide (16 * (u.now : Int) < r.2.2)).length < 4 ∧
        (u.grd[n].loaded.contains (c, b) || u.grd[n].missed.contains (c, b)) = true ∧ 16 * (u.now : Int) ≤ u.resetLatest n
        c i) ∧
    (∃ (n : Fin 4) (d : _) (c : _) (b : _) (u : State), u.missedLoad n = some (d, c, b)) :=
  ⟨
    ⟨0, { kind := .duration, bit := 3, lsel := 0, entry := 160000, hold := 64000, open_ := 0, pulse := 0 }, ((((up.put
        (.eng 0) BLK_STATE E_LIT).putInf (.eng 0) ENG_FRAME_MAX 20000000).modGrd 0 fun g =>
        { g with planes := [{ kind := .duration, bit := 3, lsel := 0, entry := 160000, hold := 64000, open_ := 0, pulse := 0 }] }).atDue fun s => s.eng[0].sk + 160000), by decide +kernel⟩,
    ⟨0, grdLoad.1, grdLoad.2.1, grdLoad.2.2, grdUp, by decide +kernel⟩,
    ⟨0, { count := 0, block := 0, start := 0, finish := 5 }, ((grdUp.loadDeadline 0 0 0).getD 0), ((grdUp.modGrd 0 fun g =>
        { g with load := some { count := 0, block := 0, start := 0, finish := 5 } }).atDue fun _ => 6), by decide +kernel⟩,
    ⟨0, grdReset.1, grdReset.2.1, grdReset.2.2, (grdUp.modGrd 0 fun g => { g with loaded := [(0, 0)] }), by decide +kernel⟩,
    ⟨0, grdLoad.1, grdLoad.2.1, grdLoad.2.2, (grdUp.atDue fun _ => 1000000), by decide +kernel⟩⟩

theorem test_EngineCommandsComplete_witness :
    (∃ (path : Path) (n : Fin 4) (u : State), u.writable path (.eng n) ENG_CMD = true ∧ u.inf (.grd n) GRD_PRG0_CTRL_COUNT
        ≠ 0 ∧ (u.engState n = E_OFF ∨ u.engState n = E_READY ∨ u.engState n = E_SAFE)) ∧
    (∃ (path : Path) (n : Fin 4) (u : State), u.writable path (.eng n) ENG_CMD = true ∧ (u.engState n = E_TRAIN ∨
        u.engState n = E_READY ∨ u.engState n = E_SAFE)) ∧
    (∃ (path : Path) (n : Fin 4) (u : State), u.writable path (.eng n) ENG_CMD = true ∧ (u.engState n = E_LIT ∨ u.engState
        n = E_HOLD)) ∧
    (∃ (path : Path) (n : Fin 4) (u : State), u.writable path (.eng n) ENG_CMD = true ∧ (u.engState n = E_READY ∨
        u.engState n = E_LIT ∨ u.engState n = E_HOLD)) ∧
    (∃ (path : Path) (n : Fin 4) (u : State), u.writable path (.eng n) ENG_CMD = true ∧ u.engState n = E_FAULT ∧
        u.faultGone n = true) :=
  ⟨
    ⟨.mp, 0, (up.putInf (.grd 0) GRD_PRG0_CTRL_COUNT 3), by decide +kernel⟩,
    ⟨.mp, 0, (up.put (.eng 0) BLK_STATE E_TRAIN), by decide +kernel⟩,
    ⟨.mp, 0, ((up.put (.eng 0) BLK_STATE E_LIT).putInf (.eng 0) ENG_FRAME_MAX 20000000), by decide +kernel⟩,
    ⟨.mp, 0, ((up.put (.eng 0) BLK_STATE E_LIT).putInf (.eng 0) ENG_FRAME_MAX 20000000), by decide +kernel⟩,
    ⟨.mp, 0, (up.put (.eng 0) BLK_STATE E_FAULT), by decide +kernel⟩⟩

theorem test_LanternLightCommandsComplete_witness :
    (∃ (x : Fin 6) (n : Fin 4) (_ : State), engOfLtn x = some n) ∧
    (∃ (x : Fin 6) (k : Fin 2) (_ : State), engOfLtn x = none ∧ scnOfLtn x = some k) ∧
    (∃ (u : State), u.domOn PD_LTN = true) ∧
    (∃ (x : Fin 6) (u : State), 16 ≤ u.ltn[x].miss ∧ u.ltn[x].dead = false) ∧
    (∃ (x : Fin 6) (u : State), u.ltn[x].loading = true ∧ u.ltn[x].loadAt + usU 100 ≤ u.now) ∧
    (∃ (x : Fin 6) (u : State), u.flag (.ltn x) LTN_STATUS_WIN = false ∧ u.mayLight x = true ∧ u.ltn[x].closeAt + nsU 100 ≤
        u.now + u.get (.ltn x) LTN_DOUT_OPEN ∧ (u.windows x).any (fun w => w.1 == u.now + u.get (.ltn x) LTN_DOUT_OPEN &&
        decide (u.now + u.get (.ltn x) LTN_DOUT_OPEN + nsU 32 ≤ w.2.1)) = true) ∧
    (∃ (x : Fin 6) (u : State), u.flag (.ltn x) LTN_STATUS_WIN = true ∧ (u.windows x).any (fun w => w.2.1 == u.now + u.get
        (.ltn x) LTN_DOUT_CLOSE) = true ∧ (u.windows x).any (fun w => w.1 == u.now + u.get (.ltn x) LTN_DOUT_CLOSE) =
        false) ∧
    (∃ (x : Fin 6) (w : Nat × Nat × Nat) (u : State), nextOpen (u.windows x) u.now = some w ∧ u.flag (.ltn x)
        LTN_STATUS_WIN = false ∧ u.mayLight x = true ∧ w.2.2 < 4 ∧ u.get (.ltn x) LTN_STATUS_LSEL ≠ w.2.2 ∧
        u.ltn[x].closeAt + nsU (u.inf (.ltn x) LTN_LSEL_TIME_HOLD) + nsU (u.inf (.ltn x) LTN_LSEL_TIME_SETUP) ≤ w.1 ∧ w.1 ≤
        u.now + nsU (u.inf (.ltn x) LTN_LSEL_TIME_SETUP)) ∧
    (∃ (u : State), u.domOn PD_LTN = true) ∧
    (∃ (x : Fin 6) (lvl : Fin 4) (u : State), scanMode x = false ∧ 256 ≤ u.ltn[x].unmeas[lvl] ∧ u.get (.ltn x)
        ⟨LTN_STATUS.off, 8 + lvl.val, 1⟩ = 0) :=
  ⟨
    ⟨0, 0, up, by decide +kernel⟩,
    ⟨4, 0, up, by decide +kernel⟩,
    ⟨up, by decide +kernel⟩,
    ⟨0, (up.modLtn 0 fun l => { l with miss := 16 }), by decide +kernel⟩,
    ⟨0, (up.modLtn 0 fun l => { l with loading := true }), by decide +kernel⟩,
    ⟨0, litWin, by decide +kernel⟩,
    ⟨0, litClose, by decide +kernel⟩,
    ⟨0, ((160000, 224000, 0)), litSel, by decide +kernel⟩,
    ⟨up, by decide +kernel⟩,
    ⟨0, 1, (up.modLtn 0 fun l => { l with unmeas := #v[0, 256, 0, 0] }), by decide +kernel⟩⟩

theorem test_LanternInterlockCommandsComplete_witness :
    (∃ (x : Fin 6) (u : State), (u.ltnEcho x true).ltnActive x = true ∧ (u.ltnEcho x true).ltn[x].echoRise + nsU
        ((u.ltnEcho x true).get (.ltn x) LTN_WIN_MAX) < (u.ltnEcho x true).now) ∧
    (∃ (x : Fin 6) (a : _) (pd : Nat) (u : State), u.ltn[x].lossAt = some a ∧ a + usU 20 ≤ u.now ∧ (u.lossSeen x true
        pd).ltnActive x = true) ∧
    (∃ (x : Fin 6) (pin : Bool) (dur : Nat) (u : State), pin ≠ u.ltn[x].killN ∧ usU 1 < dur ∧ u.ltnActive x = true) ∧
    (∃ (x : Fin 6) (u : State), u.writable .mp (.ltn x) LTN_ILK_CMD = true ∧ u.tripped x = true ∧ u.causePresent x
        (u.scnGone x) = false) ∧
    (∃ (x : Fin 6) (u : State), u.writable .mp (.ltn x) LTN_ILK_CMD = true ∧ (u.ltnState x = LTN_OFF ∨ u.ltnState x =
        LTN_ARMED) ∧ (u.unitState x = E_OFF ∨ u.unitState x = E_TRAIN ∨ u.unitState x = E_READY)) ∧
    (∃ (x : Fin 6) (u : State), u.ltnState x = LTN_FALLBACK_ST ∧ u.flag (.ltn x) LTN_STATUS_WIN = false ∧ u.ltn[x].fbReady
        = true ∧ u.ltn[x].cut = false ∧ u.ltn[x].closeAt + usU 2 ≤ u.now) ∧
    (∃ (x : Fin 6) (u : State), u.ltnState x = LTN_FALLBACK_ST ∧ u.flag (.ltn x) LTN_STATUS_WIN = true ∧ u.ltn[x].openAt +
        u.ltn[x].fbLen ≤ u.now ∧ u.ltn[x].markDue = false) ∧
    (∃ (x : Fin 6) (u : State), u.ltnState x = LTN_FALLBACK_ST ∧ u.ltn[x].refreshAt ≤ u.now) ∧
    (∃ (x : Fin 6) (n : Fin 4) (a : _) (u : State), u.ltn[x].safeAt = some a ∧ engOfLtn x = some n ∧ u.engState n = E_SAFE
        ∧ u.flag (.ltn x) LTN_FALLBACK_MODE = true ∧ u.ltnState x ≠ LTN_FALLBACK_ST ∧ u.flag (.sxl n)
        SXL_STATUS_PARK_CONFIRMED = false ∧ u.ltn[x].darkRaised = false ∧ a + msU 10 ≤ u.now) :=
  ⟨
    ⟨0, (((up.put (.ltn 0) BLK_STATE LTN_RUN).put (.ltn 0) LTN_STATUS_ECHO 1).put (.ltn 0) LTN_WIN_MAX 100000),
        by decide +kernel⟩,
    ⟨0, 5, 0, ((up.put (.ltn 0) BLK_STATE LTN_RUN).modLtn 0 fun l => { l with lossAt := some 5 }), by decide +kernel⟩,
    ⟨0, true, (usU 2), (up.put (.ltn 0) BLK_STATE LTN_RUN), by decide +kernel⟩,
    ⟨0, ((up.put (.ltn 0) LTN_ILK_STAT_TRIPPED 1).put (.ltn 0) LTN_ILK_STAT_CAUSE 6), by decide +kernel⟩,
    ⟨0, up, by decide +kernel⟩,
    ⟨0, ((up.put (.ltn 0) BLK_STATE LTN_FALLBACK_ST).modLtn 0 fun l => { l with fbReady := true }), by decide +kernel⟩,
    ⟨0, ((up.put (.ltn 0) BLK_STATE LTN_FALLBACK_ST).put (.ltn 0) LTN_STATUS_WIN 1), by decide +kernel⟩,
    ⟨0, (up.put (.ltn 0) BLK_STATE LTN_FALLBACK_ST), by decide +kernel⟩,
    ⟨0, 0, 5, ((up.put (.eng 0) BLK_STATE E_SAFE).put (.ltn 0) LTN_FALLBACK_MODE 1 |>.modLtn 0 fun l =>
        { l with safeAt := some 5 }), by decide +kernel⟩⟩

theorem test_LinkCommandsComplete_witness :
    (∃ (n : Fin 4) (u : State), u.sxl[n].step ≠ 0 ∧ u.sxl[n].stepAt + (u.stepLimit n).1 ≤ u.now) ∧
    (∃ (n : Fin 4) (ms : List RateMeas) (g : _) (rate : _) (u : State), 4 ≤ u.sxl[n].step ∧ u.geomFits n = true ∧
        (u.keepRates n (u.measured n ms)).bestRank n = some (g, rate)) ∧
    (∃ (n : Fin 4) (u : State), u.sxl[n].step = 4) ∧
    (∃ (n : Fin 4) (u : State), u.sxl[n].step ≠ 4 ∧ u.sxlState n = SXL_ACTIVE) ∧
    (∃ (n : Fin 4) (resp : Nat) (u : State), u.sbRuns n = true ∧ sbOk (u.sbStep1 n).sxl[n].tag resp = true) ∧
    (∃ (n : Fin 4) (u : State), u.sbRuns n = true) ∧
    (∃ (n : Fin 4) (u : State), 3 ≤ u.sxl[n].failed ∧ u.sxl[n].step ≠ 0) ∧
    (∃ (n : Fin 4) (u : State), 3 ≤ u.sxl[n].failed ∧ u.sxl[n].step = 0 ∧ u.linkUp n = true) ∧
    (∃ (n : Fin 4) (u : State), u.sbRuns n = true ∧ u.flag (.sxl n) SXL_STATUS_SB_OK = true) ∧
    (∃ (n : Fin 4) (u : State), u.sbRuns n = true ∧ u.flag (.sxl n) SXL_STATUS_SB_OK = true ∧ u.sxl[n].statAt + msU 1 ≤
        u.now) ∧
    (∃ (n : Fin 4) (u : State), u.sbRuns n = true ∧ u.flag (.sxl n) SXL_STATUS_SB_OK = true ∧ u.sxl[n].tempAt + msU 100 ≤
        u.now) ∧
    (∃ (n : Fin 4) (u : State), u.sxlState n = SXL_ACTIVE ∧ u.sxl[n].eyeAt + msU 100 ≤ u.now) ∧
    (∃ (n : Fin 4) (u : State), u.linkUp n = true ∧ u.sxl[n].crcAt + secU 1 ≤ u.now) ∧
    (∃ (n : Fin 4) (u : State), u.sxlState n = SXL_ACTIVE ∧ u.infFlag (.sxl n) SXL_CFG_PROBE_EN = true ∧ u.sxl[n].probeAt +
        msU (u.get (.sxl n) SXL_RETRY_PROBE_MS) ≤ u.now) ∧
    (∃ (n : Fin 4) (a : _) (u : State), u.sxl[n].switchAt = some a ∧ u.linkUp n = true ∧ a + usU 4 ≤ u.now) ∧
    (∃ (n : Fin 4) (u : State), u.linkUp n = true) ∧
    (∃ (path : Path) (n : Fin 4) (v : Nat) (u : State), v < 2 ^ 32 ∧ v % 2 = 1 ∧ 2 ≤ bitsOf v 1 2 ∧ u.writable path (.sxl
        n) SXL_PARK_LOAD = true ∧ u.engState n = E_READY) :=
  ⟨
    ⟨0, (up.modSxl 0 fun l => { l with step := 1 }), by decide +kernel⟩,
    ⟨0, linkMeas, 15, 2, (((up.put (.sxl 0) SXL_ARRAY_CAP 0xFF000).put (.sxl 0) SXL_ARRAY_GEOM 0x6400A00).modSxl 0 fun l =>
        { l with step := 4, lats := #v[none, none, some (5, 0)] }), by decide +kernel⟩,
    ⟨0, (up.modSxl 0 fun l => { l with step := 4 }), by decide +kernel⟩,
    ⟨0, ((up.put (.sxl 0) BLK_STATE SXL_ACTIVE).put (.sxl 0) SXL_STATUS_LINK_UP 1 |>.put (.sxl 0) SXL_STATUS_SB_OK 1),
        by decide +kernel⟩,
    ⟨0, sbGood, ((up.put (.sxl 0) BLK_STATE SXL_ACTIVE).put (.sxl 0) SXL_STATUS_LINK_UP 1 |>.put (.sxl 0) SXL_STATUS_SB_OK
        1), by decide +kernel⟩,
    ⟨0, ((up.put (.sxl 0) BLK_STATE SXL_ACTIVE).put (.sxl 0) SXL_STATUS_LINK_UP 1 |>.put (.sxl 0) SXL_STATUS_SB_OK 1),
        by decide +kernel⟩,
    ⟨0, (up.modSxl 0 fun l => { l with failed := 3, step := 1 }), by decide +kernel⟩,
    ⟨0, (((up.put (.sxl 0) BLK_STATE SXL_ACTIVE).put (.sxl 0) SXL_STATUS_LINK_UP 1 |>.put (.sxl 0) SXL_STATUS_SB_OK
        1).modSxl 0 fun l => { l with failed := 3 }), by decide +kernel⟩,
    ⟨0, ((up.put (.sxl 0) BLK_STATE SXL_ACTIVE).put (.sxl 0) SXL_STATUS_LINK_UP 1 |>.put (.sxl 0) SXL_STATUS_SB_OK 1),
        by decide +kernel⟩,
    ⟨0, ((up.put (.sxl 0) BLK_STATE SXL_ACTIVE).put (.sxl 0) SXL_STATUS_LINK_UP 1 |>.put (.sxl 0) SXL_STATUS_SB_OK 1),
        by decide +kernel⟩,
    ⟨0, ((up.put (.sxl 0) BLK_STATE SXL_ACTIVE).put (.sxl 0) SXL_STATUS_LINK_UP 1 |>.put (.sxl 0) SXL_STATUS_SB_OK 1),
        by decide +kernel⟩,
    ⟨0, ((up.put (.sxl 0) BLK_STATE SXL_ACTIVE).put (.sxl 0) SXL_STATUS_LINK_UP 1 |>.put (.sxl 0) SXL_STATUS_SB_OK 1),
        by decide +kernel⟩,
    ⟨0, ((up.put (.sxl 0) BLK_STATE SXL_ACTIVE).put (.sxl 0) SXL_STATUS_LINK_UP 1 |>.put (.sxl 0) SXL_STATUS_SB_OK 1),
        by decide +kernel⟩,
    ⟨0, ((up.put (.sxl 0) BLK_STATE SXL_ACTIVE).put (.sxl 0) SXL_STATUS_LINK_UP 1 |>.put (.sxl 0) SXL_STATUS_SB_OK
        1).putInf (.sxl 0) SXL_CFG_PROBE_EN 1, by decide +kernel⟩,
    ⟨0, 5, (((up.put (.sxl 0) BLK_STATE SXL_ACTIVE).put (.sxl 0) SXL_STATUS_LINK_UP 1 |>.put (.sxl 0) SXL_STATUS_SB_OK
        1).modSxl 0 fun l => { l with switchAt := some 5 }), by decide +kernel⟩,
    ⟨0, ((up.put (.sxl 0) BLK_STATE SXL_ACTIVE).put (.sxl 0) SXL_STATUS_LINK_UP 1 |>.put (.sxl 0) SXL_STATUS_SB_OK 1),
        by decide +kernel⟩,
    ⟨.mp, 0, 5, (up.put (.eng 0) BLK_STATE E_READY), by decide +kernel⟩⟩

theorem test_ScannerFramesComplete_witness :
    (∃ (k : Fin 2) (u : State), u.scn[k].running = true) ∧
    (∃ (k : Fin 2) (u : State), u.scn[k].running = true ∧ u.scn[k].missed = false ∧ u.scn[k].lastTp + 9 * u.scn[k].half / 4
        ≤ u.now) ∧
    (∃ (k : Fin 2) (err : Nat) (u : State), u.scn[k].running = true ∧ err ≤ u.inf (.scn k) SCN_SLOW_TOL_TOL) ∧
    (∃ (k : Fin 2) (err : Nat) (u : State), u.scn[k].running = true ∧ u.inf (.scn k) SCN_SLOW_TOL_TOL < err ∧
        u.scn[k].slowBad + 1 = u.inf (.scn k) SCN_SLOW_TOL_COUNT) ∧
    (∃ (k : Fin 2) (u : State), u.scnLit k = true ∧ u.scn[k].line < u.scn[k].lact ∧ u.scn[k].pixel < u.scn[k].px ∧
        (u.slotOf k u.scn[k].pixel).2 = u.now) ∧
    (∃ (k : Fin 2) (u : State), u.scnLit k = true ∧ u.scn[k].line < u.scn[k].lact ∧ u.scn[k].under = false) ∧
    (∃ (k : Fin 2) (u : State), u.scn[k].due = true ∧ u.onTick u.scn[k].lastTp = true) ∧
    (∃ (k : Fin 2) (u : State), u.scnState k = E_TRAIN ∧ u.scn[k].running = true ∧ u.scn[k].swept = false ∧ u.scn[k].spinAt
        + msU 40 ≤ u.now) ∧
    (∃ (k : Fin 2) (f : _) (u : State), u.scn[k].lockedFrom = some f ∧ f + msU 10 ≤ u.now ∧ u.scnState k = E_TRAIN ∧
        u.scn[k].swept = true ∧ u.scn[k].near = true) ∧
    (∃ (k : Fin 2) (u : State), u.scnState k = E_TRAIN ∧ u.scn[k].running = true ∧ u.scn[k].spinAt + msU 250 ≤ u.now) ∧
    (∃ (k : Fin 2) (u : State), u.scn[k].rampDown = true ∧ u.scnState k ≠ E_OFF) :=
  ⟨
    ⟨0, (up.modScn 0 fun c => { c with running := true }), by decide +kernel⟩,
    ⟨0, (up.modScn 0 fun c => { c with running := true }), by decide +kernel⟩,
    ⟨0, 0, (up.modScn 0 fun c => { c with running := true }), by decide +kernel⟩,
    ⟨0, 65535, (up.modScn 0 fun c => { c with running := true, slowBad := 2 }), by decide +kernel⟩,
    ⟨0, ((up.put (.scn 0) BLK_STATE E_LIT |>.modScn 0 fun c => { c with lact := 4, px := 8, half := 160000 }).atDue fun s
        => (s.slotOf 0 0).2), by decide +kernel⟩,
    ⟨0, (up.put (.scn 0) BLK_STATE E_LIT |>.modScn 0 fun c => { c with lact := 4, px := 8, half := 160000 }),
        by decide +kernel⟩,
    ⟨0, (up.modScn 0 fun c => { c with due := true, lastTp := up.now }), by decide +kernel⟩,
    ⟨0, (up.put (.scn 0) BLK_STATE E_TRAIN |>.modScn 0 fun c => { c with running := true }), by decide +kernel⟩,
    ⟨0, 5, (up.put (.scn 0) BLK_STATE E_TRAIN |>.modScn 0 fun c =>
        { c with lockedFrom := some 5, swept := true, near := true }), by decide +kernel⟩,
    ⟨0, (up.put (.scn 0) BLK_STATE E_TRAIN |>.modScn 0 fun c => { c with running := true }), by decide +kernel⟩,
    ⟨0, (up.put (.scn 0) BLK_STATE E_FAULT |>.modScn 0 fun c => { c with rampDown := true }), by decide +kernel⟩⟩

theorem test_ScannerCommandsComplete_witness :
    (∃ (path : Path) (k : Fin 2) (u : State), u.writable path (.scn k) SCN_CMD = true ∧ (u.scnState k = E_OFF ∨ u.scnState
        k = E_READY ∨ u.scnState k = E_SAFE)) ∧
    (∃ (path : Path) (k : Fin 2) (u : State), u.writable path (.scn k) SCN_CMD = true ∧ (u.scnState k = E_TRAIN ∨
        u.scnState k = E_READY ∨ u.scnState k = E_SAFE)) ∧
    (∃ (path : Path) (k : Fin 2) (u : State), u.writable path (.scn k) SCN_CMD = true ∧ (u.scnState k = E_LIT ∨ u.scnState
        k = E_HOLD)) ∧
    (∃ (path : Path) (k : Fin 2) (u : State), u.writable path (.scn k) SCN_CMD = true ∧ (u.scnState k = E_READY ∨
        u.scnState k = E_LIT ∨ u.scnState k = E_HOLD)) ∧
    (∃ (path : Path) (k : Fin 2) (u : State), u.writable path (.scn k) SCN_CMD = true ∧ u.scnState k = E_FAULT ∧ u.tripped
        (ltnOfScn k) = false) ∧
    (∃ (path : Path) (k : Fin 2) (v : Nat) (u : State), v < 2 ^ 32 ∧ u.writable path (.scn k) SCN_PTT_DATA = true ∧
        u.scnFrames k = false ∧ u.commitPending (.scn k) = false) :=
  ⟨
    ⟨.mp, 0, up, by decide +kernel⟩,
    ⟨.mp, 0, (up.put (.scn 0) BLK_STATE E_TRAIN), by decide +kernel⟩,
    ⟨.mp, 0, (up.put (.scn 0) BLK_STATE E_LIT), by decide +kernel⟩,
    ⟨.mp, 0, (up.put (.scn 0) BLK_STATE E_LIT), by decide +kernel⟩,
    ⟨.mp, 0, (up.put (.scn 0) BLK_STATE E_FAULT), by decide +kernel⟩,
    ⟨.mp, 0, 5, up, by decide +kernel⟩⟩

theorem test_NarpaCommandsComplete_witness :
    (∃ (q : Fin 104) (w : State) (u : State), u.domOn (npBank q) = true ∧ w = u.npReady q ∧ w.npState q = NP_RUN ∧ w.npTear
        q = false ∧ w.np[q].enumWant = false ∧ w.flag (npPage q) (NP_CFGACC_GO (npLane q)) = false ∧ w.npImageDue q = true)
        ∧
    (∃ (q : Fin 104) (at' : _) (gov : _) (rest : _) (u : State), u.np[q].latches = (at', gov) :: rest ∧ at' ≤ u.now) ∧
    (∃ (q : Fin 104) (quiet : Nat) (w : State) (x : _) (rest : _) (u : State), w = u.npReady q ∧ w.np[q].rets = x :: rest ∧
        3 * x.cell ≤ 2 * quiet) ∧
    (∃ (q : Fin 104) (w : State) (u : State), w = u.npReady q ∧ 3 ≤ w.np[q].silent ∧ w.npState q = NP_RUN ∧ w.flag (npPage
        q) (NP_STATUS_CHAIN_OPEN (npLane q)) = false) ∧
    (∃ (path : Path) (q : Fin 104) (u : State), u.writable path (npPage q) (NP_CMD (npLane q)) = true ∧ (u.npState q =
        NP_RUN ∨ u.npState q = NP_ENUM_FAIL)) ∧
    (∃ (path : Path) (q : Fin 104) (u : State), u.writable path (npPage q) (NP_CMD (npLane q)) = true ∧ u.npState q =
        NP_RUN) ∧
    (∃ (q : Fin 104) (b : _) (u : State), u.np[q].strobe = some b ∧ (u.strobeDropped b).isNone = true ∧ u.onTick
        (u.strobeTick q b) = true ∧ u.npState q = NP_RUN) ∧
    (∃ (path : Path) (q : Fin 104) (v : Nat) (u : State), v < 2 ^ 32 ∧ u.writable path (npPage q) (NP_CFGACC (npLane q)) =
        true ∧ u.flag (npPage q) (NP_CFGACC_GO (npLane q)) = false) :=
  ⟨
    ⟨0, (npRun.npReady 0), npRun, by decide +kernel, rfl, by decide +kernel, by decide +kernel, by decide +kernel,
        by decide +kernel, by decide +kernel⟩,
    ⟨0, 5, false, [], (up.modNp 0 fun o => { o with latches := [(5, false)] }), by decide +kernel⟩,
    ⟨0, 24, ((npRun.modNp 0 fun o =>
        { o with rets := [{ kind := .image, nodes := 1, fin := up.now, cell := 16 }] }).npReady 0),
        { kind := .image, nodes := 1, fin := up.now, cell := 16 }, [], (npRun.modNp 0 fun o =>
        { o with rets := [{ kind := .image, nodes := 1, fin := up.now, cell := 16 }] }), rfl, by decide +kernel,
        by decide +kernel⟩,
    ⟨0, ((npRun.modNp 0 fun o => { o with silent := 3 }).npReady 0), (npRun.modNp 0 fun o => { o with silent := 3 }), rfl,
        by decide +kernel, by decide +kernel, by decide +kernel⟩,
    ⟨.mp, 0, npRun, by decide +kernel⟩,
    ⟨.mp, 0, npRun, by decide +kernel⟩,
    ⟨0, { latch := 0, mark := 0, entry := none, since := up.now }, (npRun.modNp 0 fun o =>
        { o with strobe := some { latch := 0, mark := 0, entry := none, since := up.now } }), by decide +kernel⟩,
    ⟨.mp, 0, 5, up, by decide +kernel⟩⟩

theorem test_KeeperCommandsComplete_witness :
    (∃ (path : Path) (v : Nat) (u : State), v < 2 ^ 32 ∧ u.writable path (.np 0) NPK_DATA = true) ∧
    (∃ (path : Path) (u : State), u.readable path (.np 0) NPK_DATA = true) ∧
    (∃ (p : Fin 8) (rest : _) (u : State), u.keeper.play = p.val :: rest ∧ u.keeperLine p.val = false ∧ u.keeperBarred p =
        false ∧ (∀ f, u.keeper.first = some f → f + usU (50 * p.val) ≤ u.now)) ∧
    (∃ (p : Fin 8) (u : State), u.keeper.alive[p] ≤ u.now ∧ u.aliveNow p = true ∧ u.keeperLine p.val = false) ∧
    (∃ (p : Fin 8) (q : _) (u : State), finOf 104 p.val = some q ∧ (u.keeper.line.any fun e => e.1 == p.val && decide
        (e.2.1 ≤ u.now)) = true ∧ u.npState q ≠ NP_ENUM_ST) :=
  ⟨
    ⟨.mp, 5, up, by decide +kernel⟩,
    ⟨.mp, up, by decide +kernel⟩,
    ⟨0, [], (up.modKeeper fun k => { k with play := [0] }), ⟨by decide +kernel, by decide +kernel, by decide +kernel, fun _
        h => nomatch h⟩⟩,
    ⟨0, (((up.put .basecamp BLK_STATE PS_BIVOUAC).put (.np 0) NPK_CFG_KEEPALIVE 1)), by decide +kernel⟩,
    ⟨0, 0, (up.modKeeper fun k => { k with line := [(0, 5, true)] }), by decide +kernel⟩⟩

theorem test_MatrixCommandsComplete_witness :
    (∃ (q : Fin 24) (w : State) (u : State), w = u.mxNow q ∧ w.mxStartDue q = true ∧ w.mx[q].skip = false ∧ (w.mxPoint
        q).mxState q = MX_RUN) ∧
    (∃ (q : Fin 24) (u : State), u.mxState q = MX_RUN ∧ u.mxMem q = false ∧ u.mx[q].running = true ∧ u.mx[q].stage = .slot
        ∧ u.mxRowAt q + nsU (200 + rowPre (u.mxInf q MX_ROWT)) ≤ u.now ∧ u.now < u.mxRowAt q + nsU (rowSlot (u.mxInf q
        MX_ROWT))) ∧
    (∃ (q : Fin 24) (u : State), u.mxState q = MX_RUN ∧ u.mxMem q = false ∧ u.mx[q].running = true ∧ u.mx[q].stage = .latch
        ∧ u.mxRowAt q + nsU (rowSlot (u.mxInf q MX_ROWT)) ≤ u.now ∧ u.mx[q].row + 1 < u.mxRows q ∧ u.now < u.mx[q].start +
        nsU ((u.mx[q].row + 1) * rowSlot (u.mxInf q MX_ROWT)) + nsU (200 + rowPre (u.mxInf q MX_ROWT))) ∧
    (∃ (q : Fin 24) (u : State), u.mxState q = MX_RUN ∧ u.mxMem q = false ∧ u.mx[q].running = true ∧ u.mx[q].stage = .latch
        ∧ u.mxRowAt q + nsU (rowSlot (u.mxInf q MX_ROWT)) ≤ u.now ∧ u.mxRows q ≤ u.mx[q].row + 1) ∧
    (∃ (q : Fin 24) (c : Fin 64) (w : State) (u : State), w = u.mxNow q ∧ w.mxState q = MX_RUN ∧ w.mxMem q = false ∧
        w.mx[q].lost = none ∧ c.val < w.mxCols q) ∧
    (∃ (q : Fin 24) (falling : Bool) (u : State), u.flag .basecamp BC_STATUS_HOLD_UP = false ∧ (u.mxState q = MX_RUN ∨
        u.mxState q = MX_TE_LOST) ∧ u.mxMem q = true ∧ falling = (u.mxInf q MX_TE_POL == 1)) ∧
    (∃ (q : Fin 24) (fin : _) (u : State), u.mx[q].xfer = some fin ∧ fin ≤ u.now) ∧
    (∃ (q : Fin 24) (e : _) (u : State), u.mx[q].xfer = none ∧ u.mx[q].showEnd = some e ∧ e ≤ u.now ∧ u.mx[q].stop = true) ∧
    (∃ (q : Fin 24) (u : State), u.mxState q = MX_RUN ∧ u.mxMem q = true ∧ u.mx[q].teFrom + msU (u.mxInf q MX_TE_TIMEOUT) ≤
        u.now ∧ u.waits (teWaits q (u.mxInf q MX_TE_POL == 1)) = false) ∧
    (∃ (path : Path) (q : Fin 24) (u : State), u.writable path (mxPage q) (MX_CMD (mxLane q)) = true ∧ u.mxState q = MX_RUN
        ∧ u.mxMem q = true) :=
  ⟨
    ⟨0, (mxRun.mxNow 0), mxRun, rfl, by decide +kernel, by decide +kernel, by decide +kernel⟩,
    ⟨0, (((mxRun.putInf (.mx 0) (MX_CFG_ROWS_M1 0) 3).putInf (.mx 0) (MX_ROWT 0) 0x4080000).modMx 0 fun o =>
        { o with running := true, stage := .slot, start := up.now - nsU 200 }), by decide +kernel⟩,
    ⟨0, (((mxRun.putInf (.mx 0) (MX_CFG_ROWS_M1 0) 3).putInf (.mx 0) (MX_ROWT 0) 0x4080000).modMx 0 fun o =>
        { o with running := true, stage := .latch, start := up.now - nsU (rowSlot 0x4080000) }), by decide +kernel⟩,
    ⟨0, (((mxRun.putInf (.mx 0) (MX_CFG_ROWS_M1 0) 3).putInf (.mx 0) (MX_ROWT 0) 0x4080000).modMx 0 fun o =>
        { o with running := true, stage := .latch, row := 3, start := 0 }), by decide +kernel⟩,
    ⟨0, 0, (mxRun.mxNow 0), mxRun, rfl, by decide +kernel, by decide +kernel, by decide +kernel, by decide +kernel⟩,
    ⟨0, ((mxRun.mxInf 0 MX_TE_POL == 1)), (mxRun.putInf (.mx 0) (MX_CFG_MODE 0) 1), by decide +kernel⟩,
    ⟨0, 5, (mxRun.modMx 0 fun o => { o with xfer := some 5 }), by decide +kernel⟩,
    ⟨0, 5, (mxRun.modMx 0 fun o => { o with showEnd := some 5, stop := true }), by decide +kernel⟩,
    ⟨0, (mxRun.putInf (.mx 0) (MX_CFG_MODE 0) 1), by decide +kernel⟩,
    ⟨.mp, 0, (mxRun.putInf (.mx 0) (MX_CFG_MODE 0) 1), by decide +kernel⟩⟩

theorem test_TimeCommandsComplete_witness :
    (∃ (path : Path) (v : Nat) (u : State), v < 2 ^ 32 ∧ u.writable path .time TIME_INCR = true ∧ u.flag .time
        TIME_STATUS_HOLDOFF = false) ∧
    (∃ (path : Path) (u : State), u.writable path .time TIME_ADJ = true ∧ u.get .time TIME_SET_NS < 1000000000) ∧
    (∃ (path : Path) (u : State), u.writable path .time TIME_ADJ = true ∧ 0 ≤ signed 32 (u.get .time TIME_STEP_OFS)) ∧
    (∃ (path : Path) (v : Nat) (u : State), v < 2 ^ 32 ∧ (signed 32 v).natAbs ≤ 10000000 ∧ u.writable path .time TIME_SLEW
        = true ∧ u.flag .time TIME_STATUS_HOLDOFF = false) ∧
    (∃ (path : Path) (p : Fin 4) (v : Nat) (u : State), v < 2 ^ 32 ∧ u.writable path .time (TIME_PDELAY p.val) = true) ∧
    (∃ (path : Path) (p : Fin 4) (v : Nat) (u : State), v < 2 ^ 32 ∧ u.writable path .time (TIME_TXQ_PUSH3 p.val) = true ∧
        u.boundaryPort p = false ∧ u.clock.txq[p].length < 16) ∧
    (∃ (path : Path) (p : Fin 4) (e : _) (rest : _) (u : State), u.readable path .time (TIME_TXQ_W3 p.val) = true ∧
        u.clock.txq[p] = e :: rest) ∧
    (∃ (_ : State), True) ∧
    (∃ (f : _) (u : State), u.domOn PD_NOC = true ∧ u.clock.servoFrom = some f ∧ u.clock.servoExpired = false ∧ u.timeState
        ≠ 0 ∧ f + msU (u.get .time TIME_SERVO_TMO) ≤ u.now ∧ u.waits servoWaits = false) ∧
    (∃ (e : _) (u : State), u.domOn PD_NOC = true ∧ u.clock.holdEnd = some e ∧ e ≤ u.now) ∧
    (∃ (u : State), u.domOn PD_NOC = true ∧ u.flag .time TIME_CFG_PPSOUT_EN = true ∧ u.timeState ≠ 0 ∧ u.ppsDue = true) ∧
    (∃ (e : _) (u : State), u.clock.ppsEnd = some e ∧ e ≤ u.now) ∧
    (∃ (falling : Bool) (u : State), u.domOn PD_NOC = true ∧ u.flag .time TIME_CFG_PPSIN_EN = true ∧ u.flag .time
        TIME_CFG_PPSIN_POL = falling ∧ (∀ l, u.clock.ppsInLast = some l → l + msU 500 ≤ u.now)) ∧
    (∃ (l : _) (u : State), u.clock.ppsInLast = some l ∧ l + msU 1200 ≤ u.now) :=
  ⟨
    ⟨.mp, 5, up, by decide +kernel⟩,
    ⟨.mp, up, by decide +kernel⟩,
    ⟨.mp, up, by decide +kernel⟩,
    ⟨.mp, 5, up, by decide +kernel⟩,
    ⟨.mp, 0, 5, up, by decide +kernel⟩,
    ⟨.mp, 2, 5, up, by decide +kernel⟩,
    ⟨.mp, 0, #v[1, 0, 0, 0], [], { up with clock := { up.clock with txq := up.clock.txq.set 0 [#v[1, 0, 0, 0]] } },
        by decide +kernel⟩,
    ⟨up, trivial⟩,
    ⟨0, { up with clock := { up.clock with servoFrom := some 0 } }, by decide +kernel⟩,
    ⟨5, { up with clock := { up.clock with holdEnd := some 5 } }, by decide +kernel⟩,
    ⟨(up.put .time TIME_CFG_PPSOUT_EN 1), by decide +kernel⟩,
    ⟨5, { up with clock := { up.clock with ppsEnd := some 5 } }, by decide +kernel⟩,
    ⟨false, (up.put .time TIME_CFG_PPSIN_EN 1), ⟨by decide +kernel, by decide +kernel, by decide +kernel, fun _ h =>
        nomatch h⟩⟩,
    ⟨5, { up with clock := { up.clock with ppsInLast := some 5 } }, by decide +kernel⟩⟩

theorem test_StampReadsComplete_witness :
    (∃ (path : Path) (u : State), u.readable path .time TIME_NOW_NS = true) ∧
    (∃ (path : Path) (n : Fin 4) (u : State), u.readable path (.eng n) ENG_FSTART_NS = true) ∧
    (∃ (path : Path) (k : Fin 2) (u : State), u.readable path (.scn k) SCN_FSTART_NS = true) ∧
    (∃ (path : Path) (x : Fin 6) (u : State), u.readable path (.ltn x) LTN_ILK_TIME_NS = true) ∧
    (∃ (path : Path) (q : Fin 104) (u : State), u.readable path (npPage q) (NP_LATCH_NS (npLane q)) = true) ∧
    (∃ (path : Path) (q : Fin 24) (u : State), u.readable path (mxPage q) (MX_FSTART_NS (mxLane q)) = true) ∧
    (∃ (path : Path) (u : State), u.readable path .time TIME_PPSIN_NS = true) ∧
    (∃ (path : Path) (u : State), u.readable path .therm THERM_SHUT_NS = true) :=
  ⟨
    ⟨.mp, up, by decide +kernel⟩,
    ⟨.mp, 0, up, by decide +kernel⟩,
    ⟨.mp, 0, up, by decide +kernel⟩,
    ⟨.mp, 0, up, by decide +kernel⟩,
    ⟨.mp, 0, up, by decide +kernel⟩,
    ⟨.mp, 0, up, by decide +kernel⟩,
    ⟨.mp, up, by decide +kernel⟩,
    ⟨.mp, up, by decide +kernel⟩⟩

theorem test_SchedCommandsComplete_witness :
    (∃ (path : Path) (i : Fin 256) (w : State) (u : State), u.writable path .sched SCHED_ACC = true ∧ u.schedBusy ≤ u.now ∧
        w = u.put .sched SCHED_ACC (2 ^ 28 + i.val) ∧ w.schedFail (w.schedStaged path) = none) ∧
    (∃ (path : Path) (u : State), u.writable path .sched SCHED_ACC = true ∧ u.schedBusy ≤ u.now) ∧
    (∃ (path : Path) (u : State), u.writable path .sched SCHED_ACC = true ∧ u.schedBusy ≤ u.now) ∧
    (∃ (i : _) (e : _) (u : State), u.schedRuns = true ∧ u.schedAt ≠ u.now / tickU + 1 ∧ u.schedOld = [] ∧ u.schedDue =
        some (i, e)) ∧
    (∃ (i : _) (e : _) (q : _) (fl : _) (u : State), u.schedRuns = true ∧ u.strobeDue = some (i, e) ∧ finOf 104 (bitsOf
        e.target 0 7) = some q ∧ u.npTakes q = true ∧ e.verdict ((u.localTime : Int) - ((e.time : Int) - toNs (2 * (u.npN q
        + 1) * u.npT q))) = .run fl) :=
  ⟨
    ⟨.mp, 0, (up.put .sched SCHED_ACC (2 ^ 28 + (0 : Fin 256).val)), up, by decide +kernel, by decide +kernel, rfl,
        by decide +kernel⟩,
    ⟨.mp, up, by decide +kernel⟩,
    ⟨.mp, up, by decide +kernel⟩,
    ⟨3, { st := .armed, action := 2, policy := 0 },
        { (up.put .sched BLK_CTRL_EN 1) with sched := [(3, { st := .armed, action := 2, policy := 0 })] },
        by decide +kernel⟩,
    ⟨3, { st := .armed, action := 3, time := 10000 }, 0, false, strobeUp, by decide +kernel⟩⟩

theorem test_DmcCommandsComplete_witness :
    (∃ (path : Path) (u : State), u.writable path (.dmc 0) DMC_CMD = true ∧ u.dmcState = DMC_OFF) ∧
    (∃ (path : Path) (u : State), u.writable path (.dmc 0) DMC_CMD = true ∧ u.dmcState = DMC_RUN ∧ u.dmcs.ports.toList.any
        (!·.isEmpty) = false) ∧
    (∃ (path : Path) (u : State), u.writable path (.dmc 0) DMC_CMD = true ∧ u.dmcState = DMC_SELF_REFRESH) ∧
    (∃ (path : Path) (u : State), u.writable path (.dmc 0) DMC_CMD = true ∧ (u.dmcState = DMC_RUN ∨ u.dmcState =
        DMC_SELF_REFRESH ∨ u.dmcState = DMC_FAULT)) ∧
    (∃ (res : Vector ChanTrain 8) (t0 : _) (u : State), (∀ c : Fin 8, res[c].steps = true ∧ res[c].geom = false) ∧
        u.dmcs.trainAt = some t0 ∧ (∀ c : Fin 8, bitsOf (u.get (.dmc 0) DMC_EYE_MIN) 0 10 ≤ bitsOf res[c].rd 0 10 ∧ bitsOf
        (u.get (.dmc 0) DMC_EYE_MIN) 0 10 ≤ bitsOf res[c].wr 0 10)) ∧
    (∃ (res : Vector ChanTrain 8) (t0 : _) (c : Fin 8) (u : State), res[c].geom = true ∧ u.dmcs.trainAt = some t0 ∧
        chanUsed u.dmcCfg c = true) ∧
    (∃ (u : State), u.dmcState = DMC_TRAIN ∨ u.dmcState = DMC_RUN ∨ u.dmcState = DMC_SELF_REFRESH) :=
  ⟨
    ⟨.mp, (up.put (.dmc 0) BLK_STATE DMC_OFF), by decide +kernel⟩,
    ⟨.mp, up, by decide +kernel⟩,
    ⟨.mp, (up.put (.dmc 0) BLK_STATE DMC_SELF_REFRESH), by decide +kernel⟩,
    ⟨.mp, up, by decide +kernel⟩,
    ⟨(Vector.replicate 8 ⟨true, false, 500, 500⟩), 5, (up.modDmc fun d => { d with trainAt := some 5 }), by decide +kernel⟩,
    ⟨(Vector.replicate 8 ⟨true, true, 500, 500⟩), 5, 0, (up.modDmc fun d => { d with trainAt := some 5 }),
        by decide +kernel⟩,
    ⟨up, by decide +kernel⟩⟩

theorem test_DmcTrafficCompletes_witness :
    (∃ (pa : Nat) (len : Nat) (u : State), 32 ≤ len ∧ len ≤ 256 ∧ pa % 256 + len ≤ 256 ∧ u.dmcState = DMC_RUN ∧ pa + len ≤
        dmcUnits u.dmcCfg * unit256M) ∧
    (∃ (p : Fin 8) (q : _) (rest : _) (c : _) (u : State), u.dmcs.ports[p] = q :: rest ∧ finOf 8 (u.chanOf q.pa) = some c ∧
        q.write = true ∧ q.since < u.now ∧ (u.dmcs.chans[c].wq).length < 64) ∧
    (∃ (p : Fin 8) (q : _) (rest : _) (u : State), u.dmcs.ports[p] = q :: rest ∧ q.write = false ∧ q.served = true) ∧
    (∃ (c : Fin 8) (u : State), u.dmcState = DMC_RUN ∧ chanUsed u.dmcCfg c = true ∧ u.dmcs.chans[c].until' ≤ u.now) ∧
    (∃ (c : Fin 8) (r' : Fin 2) (u : State), u.dmcState = DMC_RUN ∧ chanUsed u.dmcCfg c = true ∧ u.dmcRanks.contains r' =
        true ∧ u.dmcs.chans[c].ranks[r'].due ≤ u.now) ∧
    (∃ (c : Fin 8) (u : State), u.dmcState = DMC_RUN ∧ chanUsed u.dmcCfg c = true ∧ bitsOf (u.get (.dmc 0) DMC_RETRAIN) 0
        14 ≠ 0 ∧ u.dmcs.chans[c].slice ≤ u.now) ∧
    (∃ (c : Fin 8) (r' : Fin 2) (u : State), u.dmcState = DMC_RUN ∧ chanUsed u.dmcCfg c = true ∧ u.dmcRanks.contains r' =
        true ∧ u.dmcs.chans[c].ranks[r'].mr4At + msU (bitsOf (u.get (.dmc 0) DMC_TEMP_MS) 0 8) ≤ u.now) ∧
    (∃ (u : State), u.dmcState = DMC_RUN ∧ u.dmcs.rhFrom + msU 32 ≤ u.now) ∧
    (∃ (c : Fin 8) (r' : Fin 2) (u : State), u.dmcState = DMC_RUN ∧ chanUsed u.dmcCfg c = true ∧ u.dmcRanks.contains r' =
        true ∧ bitsOf (u.get (.dmc 0) DMC_PD_IDLE) 0 16 ≠ 0 ∧ u.dmcs.chans[c].ranks[r'].debt = 0 ∧ u.dmcs.ports.toList.all
        (·.isEmpty) = true ∧ u.dmcs.chans[c].wq = [] ∧ u.dmcs.chans[c].ranks[r'].idleFrom + nsU (bitsOf (u.get (.dmc 0)
        DMC_PD_IDLE) 0 16) ≤ u.now) :=
  ⟨
    ⟨0, 32, up, by decide +kernel⟩,
    ⟨0, { write := true, pa := 0, data := List.replicate 32 1, since := 5, target := 64000 }, [], 0, (up.modDmc fun d =>
        { d with ports := d.ports.set 0 [{ write := true, pa := 0, data := List.replicate 32 1, since := 5, target := 64000 }] }), by decide +kernel⟩,
    ⟨0, { write := false, pa := 0, data := [1], since := 5, target := 64000, served := true }, [], (up.modDmc fun d =>
        { d with ports := d.ports.set 0 [{ write := false, pa := 0, data := [1], since := 5, target := 64000, served := true }] }), by decide +kernel⟩,
    ⟨0, up, by decide +kernel⟩,
    ⟨0, 0, up, by decide +kernel⟩,
    ⟨0, (up.put (.dmc 0) DMC_RETRAIN 100), by decide +kernel⟩,
    ⟨0, 0, up, by decide +kernel⟩,
    ⟨up, by decide +kernel⟩,
    ⟨0, 0, (up.put (.dmc 0) DMC_PD_IDLE 100), by decide +kernel⟩⟩

theorem test_MailboxHardwareCompletes_witness :
    (∃ (path : Path) (i : Fin 32) (u : State), u.writable path .mbx MBX_PUSH = true ∧ u.icpCur = none ∧ u.pushCheck
        (originOf path) (bitsOf u.mbx.win[pathSlot path][0].toNat 16 8) = .ok i) ∧
    (∃ (path : Path) (i : Fin 32) (u : State), u.writable path .mbx MBX_POP = true ∧ u.rspSlot path = some i ∧
        u.mbx.slots[i].final = true) ∧
    (∃ (path : Path) (i : Fin 32) (u : State), u.writable path .mbx MBX_POP = true ∧ u.rspSlot path = some i ∧
        u.mbx.slots[i].final = false) ∧
    (∃ (i : Fin 32) (u : State), u.domOn PD_NOC = true ∧ u.mbx.slots[i].st = SL_POSTED ∧ u.mbx.slots[i].final = true ∧
        u.mbx.slots[i].rsp.isSome = true ∧ u.mbx.slots[i].postedAt + msU (bitsOf (u.get .mbx MBX_RSP_TMO) 0 16) ≤ u.now) ∧
    (∃ (i : Fin 32) (d : _) (u : State), u.mbx.slots[i].deadline = some d ∧ d ≤ u.now ∧ u.mp.up = true ∧
        u.mbx.slots[i].wait ≠ .content) ∧
    (∃ (u : State), u.domOn PD_NOC = true ∧ u.mp.loadFrom + msU 100 ≤ u.now) ∧
    (∃ (u : State), u.mp.extFrom + msU 10 ≤ u.now) ∧
    (∃ (u : State), u.pathLive .ext = true) ∧
    (∃ (a : Nat) (write : Bool) (u : State), u.extMay a write = false) :=
  ⟨
    ⟨.mp, 0, up, by decide +kernel, by decide +kernel, rfl⟩,
    ⟨.mp, 0, (up.modSlot 0 fun _ =>
        { st := SL_POSTED, origin := ORG_EXT, rsp := some (List.replicate 16 0), final := true }), by decide +kernel⟩,
    ⟨.mp, 0, (up.modSlot 0 fun _ =>
        { st := SL_POSTED, origin := ORG_EXT, rsp := some (List.replicate 16 0), final := false }), by decide +kernel⟩,
    ⟨0, (up.modSlot 0 fun _ => { st := SL_POSTED, origin := ORG_EXT, rsp := some (List.replicate 16 0), final := true }),
        by decide +kernel⟩,
    ⟨0, 5, (up.modSlot 0 fun _ => { st := SL_RUNNING, deadline := some 5 }), by decide +kernel⟩,
    ⟨up, by decide +kernel⟩,
    ⟨up, by decide +kernel⟩,
    ⟨(up.put .mbx MP_EXT_CTRL_RUN 1), by decide +kernel⟩,
    ⟨0x20000000, true, up, by decide +kernel⟩⟩

theorem test_MailboxControlCompletes_witness :
    (∃ (i : Fin 32) (u : State), u.takes (ownOp 0x01) i) ∧
    (∃ (i : Fin 32) (u : State), u.takes (ownOp 0x10) i ∧ u.targetFails (bitsOf (u.mbx.slots[i].word 1) 0 5) = []) ∧
    (∃ (i : Fin 32) (u : State), u.takes (ownOp 0x11) i ∧ u.targetFails (bitsOf (u.mbx.slots[i].word 1) 0 5) = []) ∧
    (∃ (i : Fin 32) (u : State), u.takes (ownOp 0x12) i ∧ u.targetFails (bitsOf (u.mbx.slots[i].word 1) 0 5) = []) ∧
    (∃ (i : Fin 32) (x : _) (u : State), u.takes (ownOp 0x13) i ∧ u.targetFails (bitsOf (u.mbx.slots[i].word 1) 0 5) = [] ∧
        unitOfT (bitsOf (u.mbx.slots[i].word 1) 0 5) = some x) ∧
    (∃ (i : Fin 32) (n : Fin 4) (p : _) (u : State), u.takes (ownOp 0x14) i ∧ u.programFails u.mbx.slots[i] = [] ∧ finOf 4
        (bitsOf (u.mbx.slots[i].word 1) 0 5) = some n ∧ bitOf (u.mbx.slots[i].word 1) 12 = false ∧ (u.inExec i).program?
        (bitsOf (u.mbx.slots[i].word 2) 0 16) = some p) ∧
    (∃ (i : Fin 32) (u : State), u.takes (ownOp 0x30) i ∧ bitsOf (u.mbx.slots[i].word 3) 0 30 < 1000000000) ∧
    (∃ (i : Fin 32) (l : _) (u : State), u.takes (ownOp 0x31) i ∧ u.seqFails u.mbx.slots[i] = [] ∧ (u.inExec i).seqEntries
        u.mbx.slots[i] = some l) :=
  ⟨
    ⟨0, (up.modSlot 0 fun _ => { st := SL_QUEUED, origin := ORG_HSPI, cmd := cmdWords 0x01 [] }), ⟨by decide +kernel,
        by decide +kernel, by decide +kernel, by decide +kernel⟩⟩,
    ⟨0, (up.modSlot 0 fun _ => { st := SL_QUEUED, origin := ORG_HSPI, cmd := cmdWords 0x10 [0] }), ⟨by decide +kernel,
        by decide +kernel, by decide +kernel, by decide +kernel⟩, by decide +kernel⟩,
    ⟨0, (up.modSlot 0 fun _ => { st := SL_QUEUED, origin := ORG_HSPI, cmd := cmdWords 0x11 [0] }), ⟨by decide +kernel,
        by decide +kernel, by decide +kernel, by decide +kernel⟩, by decide +kernel⟩,
    ⟨0, (up.modSlot 0 fun _ => { st := SL_QUEUED, origin := ORG_HSPI, cmd := cmdWords 0x12 [0] }), ⟨by decide +kernel,
        by decide +kernel, by decide +kernel, by decide +kernel⟩, by decide +kernel⟩,
    ⟨0, (.inl 0), (up.modSlot 0 fun _ => { st := SL_QUEUED, origin := ORG_HSPI, cmd := cmdWords 0x13 [0] }),
        ⟨by decide +kernel, by decide +kernel, by decide +kernel, by decide +kernel⟩, by decide +kernel, by decide +kernel⟩,
    ⟨0, 0, ((0x3F940B, p240d16)), (up.modSlot 0 fun _ =>
        { st := SL_QUEUED, origin := ORG_HSPI, cmd := cmdWords 0x14 [0, 1] }), ⟨by decide +kernel, by decide +kernel,
        by decide +kernel, by decide +kernel⟩, by decide +kernel, by decide +kernel, by decide +kernel, by decide +kernel⟩,
    ⟨0, (up.modSlot 0 fun _ => { st := SL_QUEUED, origin := ORG_HSPI, cmd := cmdWords 0x30 [0, 0, 0] }),
        ⟨by decide +kernel, by decide +kernel, by decide +kernel, by decide +kernel⟩, by decide +kernel⟩,
    ⟨0, [], ({ up with content := { up.content with st := 2, pkg := [{ type := 0x20, index := 0, engine := 0, addr := 0, bytes := [0, 0, 0, 0] }] } }.modSlot 0 fun _ => { st := SL_QUEUED, origin := ORG_HSPI, cmd := cmdWords 0x31 [0, 0, 0, 0] }), ⟨by decide +kernel, by decide +kernel, by decide +kernel, by decide +kernel⟩, by decide +kernel, by decide +kernel⟩⟩

theorem test_MailboxServicesComplete_witness :
    (∃ (i : Fin 32) (u : State), u.takes (ownOp 0x20) i ∧ u.cal.run = none ∧ 1 ≤ bitsOf (u.mbx.slots[i].word 1) 0 8 ∧
        bitsOf (u.mbx.slots[i].word 1) 0 8 ≤ 9 ∧ u.calDeclared (bitsOf (u.mbx.slots[i].word 1) 0 8) (bitsOf
        (u.mbx.slots[i].word 2) 0 16) = true) ∧
    (∃ (i : Fin 32) (u : State), u.takes (ownOp 0x21) i ∧ u.storeFails = []) ∧
    (∃ (i : Fin 32) (u : State), u.takes (ownOp 0x22) i ∧ bitsOf (u.mbx.slots[i].word 1) 0 8 ≤ 0x10 ∧ u.storeFails = []) ∧
    (∃ (i : Fin 32) (u : State), u.takes (ownOp 0x32) i ∧ bitsOf (u.mbx.slots[i].word 1) 0 2 ≤ 1 ∧ (bitsOf
        (u.mbx.slots[i].word 1) 0 2 = 0 → Page.declared u.pkg .stor = true) ∧ u.content.st ≠ 1 ∧ u.dmcRunning = true) ∧
    (∃ (p : PkgIn) (src : _) (off : _) (len : _) (u : State), u.mp.up = true ∧ u.content.st = 1 ∧ u.content.next = none ∧
        u.content.opening = (src, off, len) ∧ src ≠ 0 ∧ p.read = true ∧ u.domOn PD_NVM = true ∧ nvmContentBase + 4096 *
        (off + len) ≤ nvmSize ∧ u.pkgFail p (memBytes u.nvmMem (nvmContentBase + 4096 * off) (4096 * len)) (4096 * len) =
        none) ∧
    (∃ (i : Fin 32) (u : State), u.takes (ownSub 0x40 0) i) ∧
    (∃ (i : Fin 32) (u : State), u.takes (ownSub 0x40 1) i) ∧
    (∃ (i : Fin 32) (u : State), u.takes (ownSub 0x40 2) i ∧ Page.declared u.pkg .stor = true ∧ u.dmcRunning = true) ∧
    (∃ (i : Fin 32) (u : State), u.takes (ownSub 0x40 3) i) ∧
    (∃ (i : Fin 32) (u : State), u.takes (ownSub 0x41 0) i ∧ u.pwrLegal 0 = true) ∧
    (∃ (i : Fin 32) (u : State), u.takes (ownSub 0x41 1) i ∧ u.pwrLegal 1 = true) ∧
    (∃ (i : Fin 32) (u : State), u.takes (ownSub 0x41 2) i ∧ u.unitOn = none ∧ u.pwrLegal 2 = true) ∧
    (∃ (b : _) (u : State), u.mp.biv = some b ∧ u.mp.up = true ∧ b.since + msU 100 ≤ u.now ∧ u.pwrLegal 2 = true) ∧
    (∃ (i : Fin 32) (u : State), u.takes (ownOp 0x50) i ∧ u.mbx.slots[i].word 1 = 0) :=
  ⟨
    ⟨0, (up.modSlot 0 fun _ => { st := SL_QUEUED, origin := ORG_HSPI, cmd := cmdWords 0x20 [1, 0] }), ⟨by decide +kernel,
        by decide +kernel, by decide +kernel, by decide +kernel⟩, by decide +kernel, by decide +kernel, by decide +kernel,
        by decide +kernel⟩,
    ⟨0, (up.modSlot 0 fun _ => { st := SL_QUEUED, origin := ORG_HSPI, cmd := cmdWords 0x21 [] }), ⟨by decide +kernel,
        by decide +kernel, by decide +kernel, by decide +kernel⟩, by decide +kernel⟩,
    ⟨0, (up.modSlot 0 fun _ => { st := SL_QUEUED, origin := ORG_HSPI, cmd := cmdWords 0x22 [1] }), ⟨by decide +kernel,
        by decide +kernel, by decide +kernel, by decide +kernel⟩, by decide +kernel, by decide +kernel⟩,
    ⟨0, (up.modSlot 0 fun _ => { st := SL_QUEUED, origin := ORG_HSPI, cmd := cmdWords 0x32 [1, 0, 1] }),
        ⟨by decide +kernel, by decide +kernel, by decide +kernel, by decide +kernel⟩, by decide +kernel, by decide +kernel,
        by decide +kernel, by decide +kernel⟩,
    ⟨{ read := true, bytes := [], key := true, sig := true, badHash := [], place := [0] }, 1, 0, 1, pkgUp,
        by decide +kernel⟩,
    ⟨0, (up.modSlot 0 fun _ => { st := SL_QUEUED, origin := ORG_HSPI, cmd := cmdWords 0x40 [0, 0] }), ⟨by decide +kernel,
        by decide +kernel, by decide +kernel, by decide +kernel⟩⟩,
    ⟨0, (up.modSlot 0 fun _ => { st := SL_QUEUED, origin := ORG_HSPI, cmd := cmdWords 0x40 [1, 0] }), ⟨by decide +kernel,
        by decide +kernel, by decide +kernel, by decide +kernel⟩⟩,
    ⟨0, (up.modSlot 0 fun _ => { st := SL_QUEUED, origin := ORG_HSPI, cmd := cmdWords 0x40 [2, 0] }), ⟨by decide +kernel,
        by decide +kernel, by decide +kernel, by decide +kernel⟩, by decide +kernel, by decide +kernel⟩,
    ⟨0, (up.modSlot 0 fun _ => { st := SL_QUEUED, origin := ORG_HSPI, cmd := cmdWords 0x40 [3, 0] }), ⟨by decide +kernel,
        by decide +kernel, by decide +kernel, by decide +kernel⟩⟩,
    ⟨0, ((up.put .basecamp BLK_STATE PS_STANDBY).modSlot 0 fun _ =>
        { st := SL_QUEUED, origin := ORG_HSPI, cmd := cmdWords 0x41 [0] }), ⟨by decide +kernel, by decide +kernel,
        by decide +kernel, by decide +kernel⟩, by decide +kernel⟩,
    ⟨0, ((up.put (.dmc 0) BLK_STATE DMC_OFF).modSlot 0 fun _ =>
        { st := SL_QUEUED, origin := ORG_HSPI, cmd := cmdWords 0x41 [1] }), ⟨by decide +kernel, by decide +kernel,
        by decide +kernel, by decide +kernel⟩, by decide +kernel⟩,
    ⟨0, (up.modSlot 0 fun _ => { st := SL_QUEUED, origin := ORG_HSPI, cmd := cmdWords 0x41 [2] }), ⟨by decide +kernel,
        by decide +kernel, by decide +kernel, by decide +kernel⟩, by decide +kernel, by decide +kernel⟩,
    ⟨{ slot := 0, icp := false, port := 0, ref := 0, key := 0, since := 5 },
        { up with mp := { up.mp with biv := some { slot := 0, icp := false, port := 0, ref := 0, key := 0, since := 5 } } }, by decide +kernel⟩,
    ⟨0, (up.modSlot 0 fun _ => { st := SL_QUEUED, origin := ORG_HSPI, cmd := cmdWords 0x50 [0] }), ⟨by decide +kernel,
        by decide +kernel, by decide +kernel, by decide +kernel⟩, by decide +kernel⟩⟩

theorem test_HostCommandsComplete_witness :
    (∃ (mosi : List Byte) (u : State), 12 ≤ mosi.length ∧ beNat (mosi.take 1) = 0x0B ∧ beNat ((mosi.drop 6).take 2) = crc16
        (mosi.take 6) ∧ u.domOn PD_NOC = true) ∧
    (∃ (mosi : List Byte) (count : _) (u : State), beNat (mosi.take 1) = 0x02 ∧ beNat ((mosi.drop 6).take 2) = crc16
        (mosi.take 6) ∧ count = beNat ((mosi.drop 1).take 1) % 64 + 1 ∧ 8 + 4 * count + 2 ≤ mosi.length ∧ beNat ((mosi.drop
        (8 + 4 * count)).take 2) = crc16 ((mosi.drop 8).take (4 * count)) ∧ u.domOn PD_NOC = true) ∧
    (∃ (n : Fin 4) (f : _) (rest : _) (w : State) (u : State), f.lenIs 8 = true ∧ 1 ≤ frBE f.payload 4 2 ∧ frBE f.payload 4
        2 ≤ 256 ∧ frBE f.payload 6 2 = 0 ∧ u.serves n 0x01 f rest w) ∧
    (∃ (n : Fin 4) (f : _) (rest : _) (w : State) (u : State), 8 ≤ f.payload.length ∧ f.lenIs (8 + 4 * frBE f.payload 4 2)
        = true ∧ 1 ≤ frBE f.payload 4 2 ∧ frBE f.payload 4 2 ≤ 256 ∧ frBE f.payload 6 2 = 0 ∧ u.serves n 0x02 f rest w) ∧
    (∃ (n : Fin 4) (f : _) (rest : _) (w : State) (i : _) (u : State), f.lenIs 60 = true ∧ u.serves n 0x03 f rest w ∧
        w.pushCheck ORG_ICP (bitsOf (BitVec.ofNat 32 (frBE f.payload 0 4)).toNat 16 8) = .ok i) ∧
    (∃ (n : Fin 4) (f : _) (rest : _) (w : State) (u : State), f.lenIs 16 = true ∧ frBE f.payload 0 1 ≤ 1 ∧ frBE f.payload
        1 3 = 0 ∧ frBE f.payload 8 4 ≠ 0 ∧ frBE f.payload 8 4 ≤ 16384 ∧ u.serves n 0x10 f rest w ∧ u.mp.up = true ∧ w.bulk
        = none ∧ w.dmcRunning = true ∧ frBE f.payload 4 4 + frBE f.payload 8 4 ≤ w.bulkUnits (frBE f.payload 0 1) ∧
        w.overlapsOpen (frBE f.payload 0 1) (frBE f.payload 4 4) (frBE f.payload 8 4) = false ∧ w.flag .nvm
        NVM_PROT_CONTENT_WP = false) ∧
    (∃ (n : Fin 4) (f : _) (rest : _) (w : State) (b : Bulk) (u : State), 12 ≤ f.payload.length ∧ f.payload.length ≤ 1400 ∧
        f.lenIs f.payload.length = true ∧ (f.payload.length - 8) % 4 = 0 ∧ frBE f.payload 0 4 % 4 = 0 ∧ frBE f.payload 4 4
        = 0 ∧ frBE f.payload 0 4 + (f.payload.length - 8) ≤ b.length * 4096 ∧ u.serves n 0x11 f rest w ∧ u.mp.up = true ∧
        w.bulk = some b ∧ b.idle = false ∧ b.closing = false) ∧
    (∃ (n : Fin 4) (f : _) (rest : _) (w : State) (b : _) (u : State), f.lenIs 0 = true ∧ u.serves n 0x12 f rest w ∧
        u.mp.up = true ∧ w.bulk = some b ∧ b.idle = false ∧ b.closing = false) ∧
    (∃ (n : Fin 4) (f : _) (rest : _) (w : State) (b : _) (u : State), f.lenIs 0 = true ∧ u.serves n 0x13 f rest w ∧
        u.mp.up = true ∧ w.bulk = some b ∧ b.idle = false ∧ b.closing = false) ∧
    (∃ (b : _) (u : State), u.bulk = some b ∧ u.mp.up = true ∧ b.closing = true ∧ u.flag .basecamp BC_STATUS_PFW = false ∧
        b.data.length = b.length * 4096 ∧ crc32 (b.data.map (·.2)) = b.crc ∧ (b.target ≠ 0 → u.domOn PD_NVM = true ∧ u.flag
        .nvm NVM_PROT_CONTENT_WP = false)) ∧
    (∃ (b : _) (u : State), u.bulk = some b ∧ u.mp.up = true ∧ b.closing = false ∧ b.idle = false ∧ b.lastAt + secU 10 ≤
        u.now) :=
  ⟨
    ⟨hspiRd, up, by decide +kernel⟩,
    ⟨hspiWr, 1, up, by decide +kernel⟩,
    ⟨0, ((icpFrame 0x01 [0x40, 0, 0, 0, 0, 1, 0, 0])), [], ((icpTake (icpFrame 0x01 [0x40, 0, 0, 0, 0, 1, 0, 0]) keyed)),
        (icpUp (icpFrame 0x01 [0x40, 0, 0, 0, 0, 1, 0, 0]) keyed), by decide +kernel, by decide +kernel, by decide +kernel,
        by decide +kernel, ⟨by decide +kernel, by decide +kernel, by decide +kernel, by decide +kernel, by decide +kernel,
        by decide +kernel, pairOf _ _ (by decide +kernel)⟩⟩,
    ⟨0, ((icpFrame 0x02 [0x40, 0, 0, 0, 0, 1, 0, 0, 0, 0, 0, 1])), [], ((icpTake (icpFrame 0x02 [0x40, 0, 0, 0, 0, 1, 0, 0,
        0, 0, 0, 1]) keyed)), (icpUp (icpFrame 0x02 [0x40, 0, 0, 0, 0, 1, 0, 0, 0, 0, 0, 1]) keyed), by decide +kernel,
        by decide +kernel, by decide +kernel, by decide +kernel, by decide +kernel, ⟨by decide +kernel, by decide +kernel,
        by decide +kernel, by decide +kernel, by decide +kernel, by decide +kernel, pairOf _ _ (by decide +kernel)⟩⟩,
    ⟨0, ((icpFrame 0x03 (List.replicate 60 0))), [], ((icpTake (icpFrame 0x03 (List.replicate 60 0)) keyed)), 0, (icpUp
        (icpFrame 0x03 (List.replicate 60 0)) keyed), by decide +kernel, ⟨by decide +kernel, by decide +kernel,
        by decide +kernel, by decide +kernel, by decide +kernel, by decide +kernel, pairOf _ _ (by decide +kernel)⟩, rfl⟩,
    ⟨0, ((icpFrame 0x10 [1, 0, 0, 0, 0, 0, 0, 0, 0, 0, 0, 1, 0, 0, 0, 0])), [], ((icpTake (icpFrame 0x10 [1, 0, 0, 0, 0, 0,
        0, 0, 0, 0, 0, 1, 0, 0, 0, 0]) (keyed.put .nvm NVM_PROT 0))), (icpUp (icpFrame 0x10 [1, 0, 0, 0, 0, 0, 0, 0, 0, 0,
        0, 1, 0, 0, 0, 0]) (keyed.put .nvm NVM_PROT 0)), by decide +kernel, by decide +kernel, by decide +kernel,
        by decide +kernel, by decide +kernel, ⟨by decide +kernel, by decide +kernel, by decide +kernel, by decide +kernel,
        by decide +kernel, by decide +kernel, pairOf _ _ (by decide +kernel)⟩, by decide +kernel, by decide +kernel,
        by decide +kernel, by decide +kernel, by decide +kernel, by decide +kernel⟩,
    ⟨0, ((icpFrame 0x11 [0, 0, 0, 0, 0, 0, 0, 0, 1, 2, 3, 4])), [], ((icpTake (icpFrame 0x11 [0, 0, 0, 0, 0, 0, 0, 0, 1, 2,
        3, 4]) { keyed with bulk := some { port := 0, target := 1, offset := 0, length := 1, crc := 0, lastAt := 5 } })),
        { port := 0, target := 1, offset := 0, length := 1, crc := 0, lastAt := 5 }, (icpUp (icpFrame 0x11 [0, 0, 0, 0, 0,
        0, 0, 0, 1, 2, 3, 4])
        { keyed with bulk := some { port := 0, target := 1, offset := 0, length := 1, crc := 0, lastAt := 5 } }),
        by decide +kernel, by decide +kernel, by decide +kernel, by decide +kernel, by decide +kernel, by decide +kernel,
        by decide +kernel, ⟨by decide +kernel, by decide +kernel, by decide +kernel, by decide +kernel, by decide +kernel,
        by decide +kernel, pairOf _ _ (by decide +kernel)⟩, by decide +kernel, by decide +kernel, by decide +kernel,
        by decide +kernel⟩,
    ⟨0, ((icpFrame 0x12 [])), [], ((icpTake (icpFrame 0x12 [])
        { keyed with bulk := some { port := 0, target := 1, offset := 0, length := 1, crc := 0, lastAt := 5 } })),
        { port := 0, target := 1, offset := 0, length := 1, crc := 0, lastAt := 5 }, (icpUp (icpFrame 0x12 [])
        { keyed with bulk := some { port := 0, target := 1, offset := 0, length := 1, crc := 0, lastAt := 5 } }),
        by decide +kernel, ⟨by decide +kernel, by decide +kernel, by decide +kernel, by decide +kernel, by decide +kernel,
        by decide +kernel, pairOf _ _ (by decide +kernel)⟩, by decide +kernel, by decide +kernel, by decide +kernel,
        by decide +kernel⟩,
    ⟨0, ((icpFrame 0x13 [])), [], ((icpTake (icpFrame 0x13 [])
        { keyed with bulk := some { port := 0, target := 1, offset := 0, length := 1, crc := 0, lastAt := 5 } })),
        { port := 0, target := 1, offset := 0, length := 1, crc := 0, lastAt := 5 }, (icpUp (icpFrame 0x13 [])
        { keyed with bulk := some { port := 0, target := 1, offset := 0, length := 1, crc := 0, lastAt := 5 } }),
        by decide +kernel, ⟨by decide +kernel, by decide +kernel, by decide +kernel, by decide +kernel, by decide +kernel,
        by decide +kernel, pairOf _ _ (by decide +kernel)⟩, by decide +kernel, by decide +kernel, by decide +kernel,
        by decide +kernel⟩,
    ⟨{ port := 0, target := 1, offset := 0, length := 0, crc := crc32 [], lastAt := 5, closing := true },
        { up.put .nvm NVM_PROT 0 with bulk := some { port := 0, target := 1, offset := 0, length := 0, crc := crc32 [], lastAt := 5, closing := true } }, by decide +kernel⟩,
    ⟨{ port := 0, target := 1, offset := 0, length := 1, crc := 0, lastAt := 5 },
        { up with bulk := some { port := 0, target := 1, offset := 0, length := 1, crc := 0, lastAt := 5 } },
        by decide +kernel⟩⟩

theorem test_SupplyCommandsComplete_witness :
    (∃ (v : Nat) (u : State), 300 < v ∧ v ≤ 5800 ∧ u.pstate = PS_INIT) ∧
    (∃ (v : Nat) (u : State), v ≤ 5800 ∧ u.pstate ≠ PS_INIT) ∧
    (∃ (v : Nat) (dur : Nat) (u : State), v < 450 ∧ msU 1 < dur ∧ u.pstate ≠ PS_INIT ∧ u.flag .basecamp BC_STATUS_PFW =
        false ∧ u.domOn PD_NVM = false) ∧
    (∃ (v : Nat) (dur : Nat) (u : State), 470 ≤ v ∧ v ≤ 5800 ∧ msU 10 ≤ dur ∧ u.flag .basecamp BC_STATUS_PFW = true) ∧
    (∃ (v : Nat) (dur : Nat) (u : State), 4200 < v ∧ v ≤ 5800 ∧ msU 1 ≤ dur ∧ u.pstate ≠ PS_INIT ∧ u.flag .basecamp
        BC_STATUS_VBAT_OV = false) ∧
    (∃ (v : Nat) (dur : Nat) (_ : State), v ≤ 4100 ∧ msU 10 ≤ dur) ∧
    (∃ (_ : State), True) ∧
    (∃ (u : State), u.bc.lossSupply = true ∧ u.bc.lossTherm = false ∧ u.bc.t0 + usU 40 ≤ u.now ∧ u.pActive = true) ∧
    (∃ (v : Nat) (dur : Nat) (u : State), v ≤ 5800 ∧ u.pstate = PS_SUPPLY_OFF ∧ u.bc.lossVbat = false ∧ u.get .basecamp
        BC_HIST_SUPPLY < 3 ∧ u.supplyReady v dur = true ∧ u.bc.down = none) ∧
    (∃ (v : Nat) (u : State), v ≤ 5800 ∧ u.pstate = PS_SUPPLY_OFF ∧ u.bc.lossVbat = false ∧ 3 ≤ u.get .basecamp
        BC_HIST_SUPPLY) ∧
    (∃ (u : State), u.pstate = PS_RUN ∧ u.bc.runAt + secU 60 ≤ u.now) ∧
    (∃ (v : Nat) (_ : State), v < 300) ∧
    (∃ (path : Path) (v : Nat) (u : State), v < 2 ^ 32 ∧ u.writable path .basecamp BC_VBAT_MIN = true) :=
  ⟨
    ⟨1200, State.reset, by decide +kernel⟩,
    ⟨1200, up, by decide +kernel⟩,
    ⟨440, (msU 20), (up.put .basecamp BC_PD_ON 3), by decide +kernel⟩,
    ⟨470, (msU 20), (up.put .basecamp BC_STATUS_PFW 1), by decide +kernel⟩,
    ⟨4201, (msU 1), up, by decide +kernel⟩,
    ⟨4100, (msU 10), up, by decide +kernel⟩,
    ⟨up, trivial⟩,
    ⟨(up.modBc fun b => { b with lossSupply := true }), by decide +kernel⟩,
    ⟨1200, (msU 20), (up.put .basecamp BLK_STATE PS_SUPPLY_OFF), by decide +kernel⟩,
    ⟨1200, ((up.put .basecamp BLK_STATE PS_SUPPLY_OFF).put .basecamp BC_HIST_SUPPLY 3), by decide +kernel⟩,
    ⟨up, by decide +kernel⟩,
    ⟨299, up, by decide +kernel⟩,
    ⟨.mp, 5, up, by decide +kernel⟩⟩

theorem test_SequenceCommandsComplete_witness :
    (∃ (u : State), u.pstate = PS_SEQ_UP ∧ u.bc.nrstLow = false ∧ u.flag .basecamp BC_STATUS_HOLD_UP = false ∧ u.flag
        .basecamp (BC_EN u.bc.step) = true ∧ u.bc.on u.bc.step = false ∧ u.bc.delayAt = none ∧ u.now < u.bc.stepAt + usU
        (100 * u.get .basecamp BC_SEQ_CFG_PG_TMO)) ∧
    (∃ (d : _) (u : State), u.bc.delayAt = some d ∧ u.pstate = PS_SEQ_UP ∧ d ≤ u.now ∧ u.bc.step < 3) ∧
    (∃ (u : State), u.pstate = PS_SEQ_UP ∧ u.bc.nrstLow = false ∧ u.flag .basecamp (BC_EN u.bc.step) = true ∧ u.bc.on
        u.bc.step = false ∧ u.bc.stepAt + usU (100 * u.get .basecamp BC_SEQ_CFG_PG_TMO) ≤ u.now) ∧
    (∃ (u : State), u.bc.xtalFrom.isSome = true ∧ 4 ≤ u.bc.xtalRun ∧ u.flag .basecamp BC_STATUS_XTAL_OK = false) ∧
    (∃ (f : _) (u : State), u.bc.xtalFrom = some f ∧ u.flag .basecamp BC_STATUS_XTAL_OK = false ∧ u.bc.xtalFail = none ∧ f
        + msU 10 ≤ u.now) ∧
    (∃ (k : _) (u : State), u.bc.down = some k) ∧
    (∃ (u : State), u.bc.xtalFrom.isSome = true) ∧
    (∃ (u : State), u.bc.xtalFrom.isSome = true ∧ u.flag .basecamp BC_STATUS_XTAL_OK = true) ∧
    (∃ (f : _) (u : State), u.bc.xtalFail = some f ∧ f + msU 100 ≤ u.now) ∧
    (∃ (u : State), u.flag .basecamp BC_AVS_EN = true ∧ u.flag .basecamp BC_STATUS_XTAL_OK = true ∧ u.bc.avsAt + usU 100 ≤
        u.now) ∧
    (∃ (v : Nat) (u : State), v ≤ 5800 ∧ u.pstate = PS_THERM_OFF ∧ u.tsbHot = false ∧ u.therm.shutAt.getD 0 + secU 2 ≤
        u.now ∧ u.bc.down = none ∧ u.bc.supplyWait = false ∧ (u.therm.restarts.filter fun x => decide (u.now < x + secU
        3600)).length < 3) :=
  ⟨
    ⟨(((up.put .basecamp BLK_STATE PS_SEQ_UP).put .basecamp (BC_EN 0) 1).modBc fun b => { b with stepAt := up.now }),
        by decide +kernel⟩,
    ⟨5, (((up.put .basecamp BLK_STATE PS_SEQ_UP).put .basecamp (BC_EN 0) 1).modBc fun b => { b with delayAt := some 5 }),
        by decide +kernel⟩,
    ⟨((up.put .basecamp BLK_STATE PS_SEQ_UP).put .basecamp (BC_EN 0) 1), by decide +kernel⟩,
    ⟨((up.put .basecamp BC_STATUS_XTAL_OK 0).modBc fun b => { b with xtalFrom := some 5, xtalRun := 4 }),
        by decide +kernel⟩,
    ⟨5, ((up.put .basecamp BC_STATUS_XTAL_OK 0).modBc fun b => { b with xtalFrom := some 5 }), by decide +kernel⟩,
    ⟨0, (up.modBc fun b => { b with down := some 0 }), by decide +kernel⟩,
    ⟨(up.modBc fun b => { b with xtalFrom := some 5 }), by decide +kernel⟩,
    ⟨(up.modBc fun b => { b with xtalFrom := some 5 }), by decide +kernel⟩,
    ⟨5, (up.modBc fun b => { b with xtalFail := some 5 }), by decide +kernel⟩,
    ⟨up, by decide +kernel⟩,
    ⟨1200, (up.put .basecamp BLK_STATE PS_THERM_OFF), by decide +kernel⟩⟩

theorem test_PowerCommandsComplete_witness :
    (∃ (u : State), u.writable .mp .basecamp BC_PWR_CMD = true ∧ u.pwrLegal 0 = true) ∧
    (∃ (u : State), u.writable .mp .basecamp BC_PWR_CMD = true ∧ u.pwrLegal 1 = true) ∧
    (∃ (u : State), u.writable .mp .basecamp BC_PWR_CMD = true ∧ u.pwrLegal 2 = true) ∧
    (∃ (path : Path) (v : Nat) (u : State), v < 2 ^ 32 ∧ u.writable path .basecamp BC_PD_REQ = true) ∧
    (∃ (d : Fin 26) (u : State), u.domDue d.val = true) ∧
    (∃ (i : Fin 4) (level : Bool) (u : State), u.wakeActive i = false ∧ u.pstate = PS_BIVOUAC ∧ (u.modBc fun b =>
        { b with wakePin := b.wakePin.set i level }).wakeActive i = true) ∧
    (∃ (i : Fin 4) (f : _) (u : State), u.bc.wakeFrom[i] = some f ∧ u.wakeEnabled i = true ∧ f + usU (10 * u.get .basecamp
        BC_WAKE_CFG_FILT) ≤ u.now ∧ u.pstate = PS_BIVOUAC) ∧
    (∃ (u : State), u.flag .basecamp BC_WAKE_CFG_TIMER_EN = true ∧ u.pstate = PS_BIVOUAC ∧ u.bc.bivAt + secU (u.get
        .basecamp BC_WAKE_TIMER) ≤ u.now ∧ u.bc.timerDone = false) ∧
    (∃ (dur : Nat) (u : State), usU 5 ≤ dur ∧ u.pstate ≠ PS_INIT ∧ u.bc.nrstLow = false) ∧
    (∃ (u : State), u.bc.nrstLow = true ∧ u.bc.nrstWake = false ∧ u.pstate = PS_SEQ_UP) ∧
    (∃ (u : State), u.writable .mp .basecamp BC_RST = true) ∧
    (∃ (u : State), u.writable .mp .basecamp BC_WDOG_KICK = true) ∧
    (∃ (f : _) (u : State), u.writable .mp .basecamp BC_WDOG_KICK = true ∧ u.bc.kickAt = some f ∧ u.now ≤ f + usU 100) ∧
    (∃ (u : State), u.flag .basecamp BC_STATUS_WDOG_RUN = true ∧ u.bc.wdogDue ≤ u.now) ∧
    (∃ (u : State), u.mpRuns = true) ∧
    (∃ (u : State), u.mpRuns = true) ∧
    (∃ (u : State), u.mpRuns = true ∧ u.mp.restart = true ∧ u.sec.booted = true ∧ u.flag .sec SEC_STATUS_RECOVERY = false) ∧
    (∃ (f : _) (u : State), u.mp.shortFrom = some f ∧ f + secU 2 ≤ u.now) ∧
    (∃ (f : _) (u : State), u.mp.longFrom = some f ∧ f + secU 10 ≤ u.now) :=
  ⟨
    ⟨(up.put .basecamp BLK_STATE PS_STANDBY), by decide +kernel⟩,
    ⟨(up.put (.dmc 0) BLK_STATE DMC_OFF), by decide +kernel⟩,
    ⟨up, by decide +kernel⟩,
    ⟨.mp, 5, up, by decide +kernel⟩,
    ⟨14, { up.put .basecamp BC_PD_ON 3 with pba := { up.pba with grants := [(ID_DMC, 0)] } }, by decide +kernel⟩,
    ⟨0, true, (up.put .basecamp BLK_STATE PS_BIVOUAC), by decide +kernel⟩,
    ⟨0, 5, (((up.put .basecamp BLK_STATE PS_BIVOUAC).put .basecamp BC_WAKE_CFG_EN 15).modBc fun b =>
        { b with wakeFrom := b.wakeFrom.set 0 (some 5) }), by decide +kernel⟩,
    ⟨(((up.put .basecamp BLK_STATE PS_BIVOUAC).put .basecamp BC_WAKE_CFG_TIMER_EN 1).put .basecamp BC_WAKE_TIMER 5),
        by decide +kernel⟩,
    ⟨(usU 5), up, by decide +kernel⟩,
    ⟨((up.put .basecamp BLK_STATE PS_SEQ_UP).modBc fun b => { b with nrstLow := true }), by decide +kernel⟩,
    ⟨up, by decide +kernel⟩,
    ⟨up, by decide +kernel⟩,
    ⟨up.now, (up.modBc fun b => { b with kickAt := some up.now }), by decide +kernel⟩,
    ⟨(up.put .basecamp BC_STATUS_WDOG_RUN 1), by decide +kernel⟩,
    ⟨up, by decide +kernel⟩,
    ⟨up, by decide +kernel⟩,
    ⟨{ up with mp := { up.mp with restart := true }, sec := { up.sec with booted := true } }, by decide +kernel⟩,
    ⟨5, { up with mp := { up.mp with shortFrom := some 5 } }, by decide +kernel⟩,
    ⟨5, { up with mp := { up.mp with longFrom := some 5 } }, by decide +kernel⟩⟩

theorem test_PbaAndThermCommandsComplete_witness :
    (∃ (q : _) (u : State), u.domOn PD_NOC = true ∧ u.pba.nextAt ≤ u.now ∧ u.nextGrant = some q) ∧
    (∃ (u : State), u.domOn PD_NOC = true ∧ u.pba.evalAt + msU 1 ≤ u.now ∧ u.waits evalWaits = false) ∧
    (∃ (u : State), u.pba.queue.any (fun q => !q.warned && decide (q.since + msU (u.get .pba PBA_WAIT_WARN) ≤ u.now)) =
        true) ∧
    (∃ (i : Fin 24) (v : Int) (w : State) (u : State), u.domOn PD_NOC = true ∧ u.tsSample i v = (w, none)) ∧
    (∃ (i : Fin 24) (v : Int) (w : State) (sensor : _) (x : _) (u : State), u.domOn PD_NOC = true ∧ u.tsSample i v = (w,
        some (sensor, x))) ∧
    (∃ (v : Int) (u : State), u.pstate ≠ PS_INIT ∧ u.domOn PD_NOC = true ∧ v < degC (u.get .therm THERM_THR_SHUT) ∧ -32768
        ≤ v ∧ v < 32768) ∧
    (∃ (_ : State), True) ∧
    (∃ (f : _) (u : State), u.therm.aboveFrom = some f ∧ f + msU (u.get .therm THERM_STEP_UP_MS) ≤ u.now) ∧
    (∃ (f : _) (u : State), u.therm.belowFrom = some f ∧ f + msU (u.get .therm THERM_STEP_DOWN_MS) ≤ u.now ∧ u.flag .therm
        THERM_STATUS_SUBST = false) ∧
    (∃ (path : Path) (src : Fin 32) (w : State) (u : State), u.writable path .therm THERM_CMD = true ∧ u.revalidate src.val
        = (w, true)) :=
  ⟨
    ⟨{ id := ID_ENG 0, port := NO_PORT, since := 5 },
        { up with pba := { up.pba with queue := [{ id := ID_ENG 0, port := NO_PORT, since := 5 }] } }, by decide +kernel⟩,
    ⟨up, by decide +kernel⟩,
    ⟨{ up with pba := { up.pba with queue := [{ id := ID_ENG 0, port := NO_PORT, since := 5 }] } }, by decide +kernel⟩,
    ⟨0, 400, ((up.tsSample 0 400).1), up, by decide +kernel, pairOf _ _ (by decide +kernel)⟩,
    ⟨0, 1200, ((hotTs.tsSample 0 1200).1), hotHit.1, hotHit.2, hotTs, by decide +kernel, pairOf _ _ (by decide +kernel)⟩,
    ⟨400, up, by decide +kernel⟩,
    ⟨up, trivial⟩,
    ⟨5, (up.modTherm fun o => { o with aboveFrom := some 5 }), by decide +kernel⟩,
    ⟨5, (up.modTherm fun o => { o with belowFrom := some 5 }), by decide +kernel⟩,
    ⟨.mp, 24, (((up.modTherm fun o => { o with xt := o.xt.set 0 { last := 200, seen := true } }).revalidate 24).1),
        (up.modTherm fun o => { o with xt := o.xt.set 0 { last := 200, seen := true } }), by decide +kernel, pairOf _ _
        (by decide +kernel)⟩⟩

theorem test_CalAndNvmCommandsComplete_witness :
    (∃ (cls : Nat) (inst : Nat) (a : Nat) (b : Nat) (u : State), cls ≠ 4 ∧ u.domOn PD_NOC = true ∧ u.calDue cls inst = true
        ∧ (u.setCalSignals cls inst a b).calPrecond cls inst a b = true) ∧
    (∃ (cls : Nat) (inst : Nat) (u : State), (u.calOf cls inst).from?.isSome = true ∧ u.adcReady cls inst = true ∧
        u.cal.run = none ∧ (u.calOf cls inst).lost = true) ∧
    (∃ (cls : Nat) (inst : Nat) (m : CalMeas) (w : State) (p : _) (u : State), (u.calOf cls inst).from?.isSome = true ∧
        u.adcReady cls inst = true ∧ u.cal.run = none ∧ (u.calOf cls inst).lost = false ∧ u.calPrecond cls inst m.a m.b =
        true ∧ (cls = 3 → 256 ≤ m.a) ∧ ((u.setCalSignals cls inst m.a m.b).modCalOf cls inst fun c =>
        { c with from? := none, ended := some u.now }).calScreen cls inst m = (w, true) ∧ w.calPrev cls inst = some p ∧
        (w.setCalPrev cls inst m.vals).calAgree cls p m.vals = true) ∧
    (∃ (cls : Nat) (inst : Nat) (u : State), u.get .cal CAL_CFG_DISAGREE_MAX ≤ (u.calOf cls inst).dis ∧ 0 < (u.calOf cls
        inst).dis ∧ (u.calOf cls inst).unstable = false) ∧
    (∃ (path : Path) (cls : Fin 16) (inst : Fin 8) (u : State), 1 ≤ cls.val ∧ cls.val ≤ 9 ∧ u.writable path .cal CAL_CMD =
        true ∧ u.cal.run = none ∧ u.calDeclared cls.val inst.val = true) ∧
    (∃ (run : _) (u : State), u.cal.run = some run ∧ run.start + secU 10 ≤ u.now) ∧
    (∃ (path : Path) (count : Fin 8) (u : State), u.writable path .nvm NVM_CMD = true ∧ (u.nvmCheck 1 (u.get .nvm NVM_ADDR)
        (count.val + 1)).1 = ST_OK) ∧
    (∃ (path : Path) (count : Fin 8) (u : State), u.writable path .nvm NVM_CMD = true ∧ (u.nvmCheck 2 (u.get .nvm NVM_ADDR)
        (count.val + 1)).1 = ST_OK) ∧
    (∃ (run : _) (u : State), u.nvm.run = some run ∧ run.op = 1 ∧ run.again = false) ∧
    (∃ (run : _) (u : State), u.nvm.run = some run ∧ run.op = 1 ∧ recAt (run.addr + 32 * run.done) = none) ∧
    (∃ (u : State), u.domOn PD_NVM = true ∧ u.get .nvm BLK_STATE = NVM_SCAN ∧ u.nvm.scanAt = none) ∧
    (∃ (u : State), u.nvm.scanAt.isSome = true) :=
  ⟨
    ⟨2, 0, 0, 0, ((up.put .cal BLK_CTRL_EN 1).put .cal ⟨CAL_CFG.off, 0, 10⟩ 1023), by decide +kernel⟩,
    ⟨2, 0, (up.modCalOf 2 0 fun c => { c with from? := some 5, lost := true }), by decide +kernel⟩,
    ⟨6, 0, (({ vals := [0, 0], quality := 0, second := 0, line := 0, a := 0, b := 0 } : CalMeas)), ((((((up.put (.sxl 0)
        BLK_STATE SXL_ACTIVE).put (.eng 0) BLK_STATE E_READY).modCalOf 6 0 fun c =>
        { c with from? := some 5, prev := some [0, 0] }).setCalSignals 6 0 0 0).modCalOf 6 0 fun c =>
        { c with from? := none, ended := some up.now })), [0, 0], (((up.put (.sxl 0) BLK_STATE SXL_ACTIVE).put (.eng 0)
        BLK_STATE E_READY).modCalOf 6 0 fun c => { c with from? := some 5, prev := some [0, 0] }), by decide +kernel,
        by decide +kernel, by decide +kernel, by decide +kernel, by decide +kernel, by decide +kernel, pairOf _ _
        (by decide +kernel), by decide +kernel, by decide +kernel⟩,
    ⟨2, 0, (up.modCalOf 2 0 fun c => { c with dis := 100 }), by decide +kernel⟩,
    ⟨.mp, 1, 0, up, by decide +kernel⟩,
    ⟨{ cls := 1, inst := 0, start := 5 },
        { up with cal := { up.cal with run := some { cls := 1, inst := 0, start := 5 } } }, by decide +kernel⟩,
    ⟨.mp, 0, ((up.put .nvm NVM_ADDR 0x100000).put .nvm BLK_STATE 1).put .nvm NVM_PROT 0, by decide +kernel⟩,
    ⟨.mp, 0, ((up.put .nvm NVM_ADDR 0x100000).put .nvm BLK_STATE 1).put .nvm NVM_PROT 0, by decide +kernel⟩,
    ⟨{ op := 1, addr := 0x100000, count := 1, since := 5, data := List.replicate 32 1 }, (up.modNvm fun n =>
        { n with run := some { op := 1, addr := 0x100000, count := 1, since := 5, data := List.replicate 32 1 } }),
        by decide +kernel⟩,
    ⟨{ op := 1, addr := 0x100000, count := 1, since := 5, data := List.replicate 32 1 }, (up.modNvm fun n =>
        { n with run := some { op := 1, addr := 0x100000, count := 1, since := 5, data := List.replicate 32 1 } }),
        by decide +kernel⟩,
    ⟨(up.put .nvm BLK_STATE NVM_SCAN), by decide +kernel⟩,
    ⟨(up.modNvm fun n => { n with scanAt := some 5 }), by decide +kernel⟩⟩

theorem test_SecurityCommandsComplete_witness :
    (∃ (a : BootImg) (b : BootImg) (u : State), u.domOn PD_MP = true ∧ u.mp.up = false ∧ u.sec.booted = false ∧ u.imgValid
        a = true ∧ (u.imgPlausible b && (!u.imgPlausible a || decide (imgVer a < imgVer b))) = false) ∧
    (∃ (a : BootImg) (b : BootImg) (u : State), u.domOn PD_MP = true ∧ u.mp.up = false ∧ u.sec.booted = false ∧ u.imgValid
        b = true ∧ (u.imgPlausible b && (!u.imgPlausible a || decide (imgVer a < imgVer b))) = true) ∧
    (∃ (a : BootImg) (b : BootImg) (u : State), u.domOn PD_MP = true ∧ u.mp.up = false ∧ u.sec.booted = false ∧ u.imgValid
        a = false ∧ u.imgValid b = false) ∧
    (∃ (path : Path) (key : Bool) (sig : Bool) (w : State) (u : State), u.writable path .sec SEC_RECOVERY = true ∧ u.flag
        .sec SEC_STATUS_RECOVERY = true ∧ w = (u.answer (BitVec.ofNat 32 (2 ^ 31))) ∧ w.imgValid (w.recoveryImg key sig) =
        true) ∧
    (∃ (slot : Fin 16) (u : State), u.writable .mp .sec SEC_KEY_CTL = true ∧ u.keyCheck 1 slot.val = (ST_OK, 0)) ∧
    (∃ (slot : Fin 16) (u : State), u.writable .mp .sec SEC_KEY_CTL = true ∧ u.keyCheck 2 slot.val = (ST_OK, 0)) ∧
    (∃ (slot : Fin 16) (u : State), u.writable .mp .sec SEC_KEY_CTL = true ∧ u.keyCheck 3 slot.val = (ST_OK, 0)) ∧
    (∃ (slot : Fin 16) (u : State), u.writable .mp .sec SEC_KEY_CTL = true ∧ u.keyCheck 4 slot.val = (ST_OK, 0)) ∧
    (∃ (path : Path) (svn : Nat) (u : State), svn < 64 ∧ u.writable path .sec SEC_SVN_CMD = true ∧ u.sec.svn ≤ svn ∧ svn ≤
        u.get .sec ⟨SEC_STATUS.off, 16, 8⟩) :=
  ⟨
    ⟨{ bytes := [0x49, 0x4C, 0x52, 0x54, 0, 0, 0, 2, 0, 1, 0, 0, 0, 0, 0, 0], key := true, sig := true },
        { bytes := [0x49, 0x4C, 0x52, 0x54, 0, 0, 0, 1, 0, 1, 0, 0, 0, 0, 0, 0], key := true, sig := true },
        { up with mp := {} }, by decide +kernel⟩,
    ⟨{ bytes := [0x49, 0x4C, 0x52, 0x54, 0, 0, 0, 1, 0, 1, 0, 0, 0, 0, 0, 0], key := true, sig := true },
        { bytes := [0x49, 0x4C, 0x52, 0x54, 0, 0, 0, 2, 0, 1, 0, 0, 0, 0, 0, 0], key := true, sig := true },
        { up with mp := {} }, by decide +kernel⟩,
    ⟨{ bytes := [0x49, 0x4C, 0x52, 0x54, 0, 0, 0, 1, 0, 1, 0, 0, 0, 0, 0, 0], key := false, sig := true },
        { bytes := [0x49, 0x4C, 0x52, 0x54, 0, 0, 0, 2, 0, 1, 0, 0, 0, 0, 0, 0], key := false, sig := true },
        { up with mp := {} }, by decide +kernel⟩,
    ⟨.mp, true, true, (recovUp.answer (BitVec.ofNat 32 (2 ^ 31))), recovUp, by decide +kernel, by decide +kernel, rfl,
        by decide +kernel⟩,
    ⟨9, up, by decide +kernel⟩,
    ⟨9, up, by decide +kernel⟩,
    ⟨9, up, by decide +kernel⟩,
    ⟨1, up, by decide +kernel⟩,
    ⟨.mp, 0, up, by decide +kernel⟩⟩

theorem test_EthernetCommandsComplete_witness :
    (∃ (n : Fin 4) (f : EthRx) (u : State), f.fcs = true ∧ 14 ≤ f.bytes.length ∧ f.bytes.length ≤ 1996 ∧ u.ethOn n = true ∧
        u.flag (.eth n) ETH_STATUS_LINK = true ∧ u.flag (.eth n) ETH_CFG_MSEC_EN = false) ∧
    (∃ (n : Fin 4) (f : EthRx) (w : State) (u : State), f.fcs = true ∧ 14 ≤ f.bytes.length ∧ f.bytes.length ≤ 1996 ∧
        etherType f.bytes = 0x88E5 ∧ u.ethOn n = true ∧ u.flag (.eth n) ETH_STATUS_LINK = true ∧ u.flag (.eth n)
        ETH_CFG_MSEC_EN = true ∧ u.msecCheck n f = (w, true)) ∧
    (∃ (path : Path) (n : Fin 4) (v : Nat) (u : State), v < 2 ^ 32 ∧ u.writable path (.eth n) ETH_TX_CTL = true) ∧
    (∃ (n : Fin 4) (a : _) (rest : _) (u : State), u.ethOn n = true ∧ u.flag (.eth n) ETH_STATUS_LINK = true ∧
        u.eth[n].busy ≤ u.now ∧ u.flag (.eth n) ETH_CFG_MSEC_EN = false ∧ u.eth[n].replies = a :: rest) ∧
    (∃ (n : Fin 4) (up : Bool) (u : State), u.ethOn n = true ∧ u.flag (.eth n) ETH_STATUS_LINK = !up) ∧
    (∃ (path : Path) (n : Fin 4) (v : Nat) (u : State), v < 2 ^ 32 ∧ 2 ^ 31 ≤ v ∧ bitsOf v 16 2 < 2 ∧ bitOf v 4 = false ∧
        u.writable path (.eth n) ETH_MSEC_CTL = true ∧ (u.eth[n].txSa.any fun e => e.1 == bitsOf v 8 2) = false) :=
  ⟨
    ⟨0, ethFrame, ((up.put (.eth 0) BLK_CTRL_EN 1).put (.eth 0) ETH_STATUS_LINK 1), by decide +kernel⟩,
    ⟨0, msecFrame, ((msecUp.msecCheck 0 msecFrame).1), msecUp, by decide +kernel, by decide +kernel, by decide +kernel,
        by decide +kernel, by decide +kernel, by decide +kernel, by decide +kernel, pairOf _ _ (by decide +kernel)⟩,
    ⟨.mp, 0, 5, up, by decide +kernel⟩,
    ⟨0, { op := 1, status := 0, detail := 0, seq := 0, ref := 0, key := 1, payload := [] }, [], (((up.put (.eth 0)
        BLK_CTRL_EN 1).put (.eth 0) ETH_STATUS_LINK 1).modEth 0 fun e =>
        { e with replies := [{ op := 1, status := 0, detail := 0, seq := 0, ref := 0, key := 1, payload := [] }] }),
        by decide +kernel⟩,
    ⟨0, false, ((up.put (.eth 0) BLK_CTRL_EN 1).put (.eth 0) ETH_STATUS_LINK 1), by decide +kernel⟩,
    ⟨.mp, 0, (2 ^ 31), up, by decide +kernel⟩⟩

theorem test_CanAndStorageCommandsComplete_witness :
    (∃ (n : Fin 4) (f : CanFrame) (w : State) (u : State), u.canOn n = true ∧ u.canState n ≠ 2 ∧ f.kind ≤ u.get (.can n)
        CAN_CFG_MODE ∧ u.canAccepts n f = true ∧ f.data.length ≤ (u.get (.can n) CAN_RX_CTL_BUFSZ + 1) * 128 ∧ u.dmcRunning
        = true ∧ u.canPut n f = some w) ∧
    (∃ (n : Fin 4) (u : State), u.canOn n = true ∧ u.canState n ≠ 2 ∧ u.flag (.can n) CAN_CFG_LISTEN_ONLY = false ∧ u.get
        (.can n) ⟨CAN_TX_HEAD.off, 0, 12⟩ < u.get (.can n) ⟨CAN_TX_CTL.off, 0, 13⟩ ∧ u.get (.can n) ⟨CAN_TX_HEAD.off, 0,
        12⟩ ≠ u.get (.can n) ⟨CAN_TX_CTL.off, 16, 12⟩ ∧ u.dmcRunning = true) ∧
    (∃ (n : Fin 4) (u : State), u.canOn n = true ∧ u.canState n ≠ 2) ∧
    (∃ (path : Path) (n : Fin 4) (u : State), u.writable path (.can n) CAN_CMD = true ∧ u.canState n = 2) ∧
    (∃ (n : Fin 4) (u : State), u.canOn n = true ∧ u.canState n = 2 ∧ u.can[n].recov = true) ∧
    (∃ (path : Path) (u : State), u.writable path .stor STOR_CMD = true ∧ u.storState = STOR_DOWN ∧ u.storOn = true) ∧
    (∃ (path : Path) (u : State), u.writable path .stor STOR_CMD = true ∧ (u.storState = STOR_READY ∨ u.storState =
        STOR_FAULT)) ∧
    (∃ (path : Path) (v : Nat) (u : State), v < 2 ^ 32 ∧ u.writable path .stor STOR_IOSQ_TAIL = true) ∧
    (∃ (path : Path) (v : Nat) (u : State), v < 2 ^ 32 ∧ u.writable path .stor STOR_IOCQ_HEAD = true) ∧
    (∃ (i : StorInit) (id : _) (lba : _) (cap : _) (u : State), i.link = true ∧ i.ns = [(id, lba, cap)] ∧ (lba = 512 ∨ lba
        = 4096) ∧ (u.storState = STOR_TRAINING ∨ u.storState = STOR_INIT)) ∧
    (∃ (u : State), u.storState ≠ STOR_DOWN ∧ u.storState ≠ STOR_FAULT ∧ u.stor.retrains < 3) ∧
    (∃ (index : Nat) (u : State), u.storState = STOR_READY ∧ u.stor.cmds.any (fun c => c.index == index) = true) ∧
    (∃ (index : Nat) (c : _) (u : State), u.stor.cmds.find? (fun c => c.index == index) = some c ∧ c.since + secU 2 ≤ u.now
        ∧ u.stor.timeouts < 2) :=
  ⟨
    ⟨0, canFrame, (((canUp.canPut 0 canFrame).getD up)), canUp, by decide +kernel⟩,
    ⟨0, ((canUp.put (.can 0) ⟨CAN_TX_CTL.off, 0, 13⟩ 64).put (.can 0) ⟨CAN_TX_CTL.off, 16, 12⟩ 3), by decide +kernel⟩,
    ⟨0, canUp, by decide +kernel⟩,
    ⟨.mp, 0, (canUp.put (.can 0) ⟨CAN_STATUS.off, 0, 2⟩ 2), by decide +kernel⟩,
    ⟨0, ((canUp.put (.can 0) ⟨CAN_STATUS.off, 0, 2⟩ 2).modCan 0 fun c => { c with recov := true }), by decide +kernel⟩,
    ⟨.mp, (up.put .stor BLK_CTRL_EN 1), by decide +kernel⟩,
    ⟨.mp, (up.put .stor ⟨STOR_STATUS.off, 0, 3⟩ STOR_READY), by decide +kernel⟩,
    ⟨.mp, 5, up, by decide +kernel⟩,
    ⟨.mp, 5, up, by decide +kernel⟩,
    ⟨storFound, 1, 4096, 1000, (up.put .stor ⟨STOR_STATUS.off, 0, 3⟩ STOR_TRAINING), by decide +kernel⟩,
    ⟨(up.put .stor ⟨STOR_STATUS.off, 0, 3⟩ STOR_READY), by decide +kernel⟩,
    ⟨3, ((up.put .stor ⟨STOR_STATUS.off, 0, 3⟩ STOR_READY).modStor fun c => { c with cmds := [⟨3, 5⟩] }),
        by decide +kernel⟩,
    ⟨3, ⟨3, 5⟩, (up.modStor fun c => { c with cmds := [⟨3, 5⟩] }), by decide +kernel⟩⟩

theorem test_OvervoltageIsFlagged_witness :
    (∃ (v : Nat) (dur : Nat) (u : State), 4200 < v ∧ v ≤ 5800 ∧ msU 1 ≤ dur ∧ u.pstate ≠ PS_INIT) ∧
    (∃ (v : Nat) (dur : Nat) (_ : State), v ≤ 4100 ∧ msU 10 ≤ dur) :=
  ⟨
    ⟨4201, (msU 1), up, by decide +kernel⟩,
    ⟨4100, (msU 10), up, by decide +kernel⟩⟩

end Sys2Proof.Tests
end

/-! ## What an error record leaves as it is (R12, R15) -/

namespace Sys2Proof.Machine

/-! ### Registers -/

theorem State.reg_mark_ne (s : State) (p : Page) (f : RF) {a : Nat} (h : p.base + f.off ≠ a) :
    (s.mark p f).reg a = s.reg a := by
  unfold State.mark
  rw [State.reg_put_ne _ _ _ _ _ h, State.note_reg]

theorem State.reg_bump_ne (s : State) (p : Page) (f : RF) {a : Nat} (h : p.base + f.off ≠ a) :
    (s.bump p f).reg a = s.reg a := by
  unfold State.bump State.count
  rw [State.reg_put_ne _ _ _ _ _ h, State.note_reg]

theorem State.reg_latch_ne (s : State) (p : Page) (b : Nat) {a : Nat} (h : p.base + IRQ_STAT.off ≠ a) :
    (s.latch p b).reg a = s.reg a := by
  unfold State.latch
  exact State.reg_mark_ne _ p ⟨IRQ_STAT.off, b, 1⟩ h

/-- The recorder moves its own registers in STOR alone (R450). -/
theorem State.reg_record (s : State) (ty : Nat) (l : List Nat) {a : Nat} (h : a ∉ recorderRegs) :
    (s.record ty l).reg a = s.reg a := by
  simp only [recorderRegs, List.mem_cons, List.not_mem_nil, or_false, not_or] at h
  obtain ⟨hwr, hdrop, hirq⟩ := h
  by_cases hr : s.recording = true
  · simp only [State.record, hr, if_true]
    split
    · rw [State.reg_latch_ne _ _ _ (Ne.symm hirq), State.reg_bump_ne _ _ _ (Ne.symm hdrop)]
    · rw [State.reg_put_ne _ _ _ _ _ (Ne.symm hwr)]
      rfl
  · simp [State.record, hr]

theorem State.reg_raise (s : State) (p : Page) (b : Nat) {a : Nat} (h : p.base + IRQ_STAT.off ≠ a)
    (hr : a ∉ recorderRegs) : (s.raise p b).reg a = s.reg a := by
  unfold State.raise
  rw [State.reg_record _ _ _ hr, State.reg_latch_ne _ _ _ h]

@[simp] theorem State.reg_logEntry (s : State) (pg cls d x a : Nat) :
    (s.logEntry pg cls d x).reg a = s.reg a := by unfold State.logEntry; split <;> rfl

theorem State.sameRegs_errInfo (s : State) (p : Page) (path off cls d i : Nat) :
    SameRegs s (s.errInfo p path off cls d i) (errRegs p) := by
  intro a ha hrec
  simp only [errRegs, List.mem_cons, List.not_mem_nil, or_false, not_or] at ha
  obtain ⟨hcnt, hcode, hinfo, hirq⟩ := ha
  unfold State.errInfo
  extract_lets counted logged
  have hlogged : logged.reg a = s.reg a := by
    have hcounted : counted.reg a = s.reg a := State.reg_bump_ne _ _ _ (Ne.symm hcnt)
    unfold logged
    split <;> simp [hcounted]
  split_ifs
  · rw [State.reg_raise _ _ _ (Ne.symm hirq) hrec, State.reg_put_ne _ _ _ _ _ (Ne.symm hinfo),
      State.reg_put_ne _ _ _ _ _ (Ne.symm hcode), hlogged]
  · exact hlogged

theorem State.sameRegs_err (s : State) (p : Page) (path off cls d : Nat) :
    SameRegs s (s.err p path off cls d) (errRegs p) := State.sameRegs_errInfo _ _ _ _ _ _ _

/-! ### Memories -/

theorem SameOnChip.of_mems {s u : State} (h : u.mems = s.mems) : SameOnChip s u := by
  simp only [State.mems, List.cons.injEq, and_true] at h
  obtain ⟨htcm, hfsram, hnvm, hstore⟩ := h
  intro a
  rw [htcm, hfsram, hnvm, hstore]
  exact ⟨rfl, rfl, rfl, rfl⟩

theorem State.sameOnChip_err (s : State) (p : Page) (path off cls d : Nat) :
    SameOnChip s (s.err p path off cls d) := .of_mems (State.mems_err _ _ _ _ _ _)

/-! ### What the blocks hold behind their pages -/

/-- `u` is `s` but for what events and error records write: register cells, the pulses and counts of the instant, the
recorder's ring in DRAM and its sequence number, and the event log. -/
def OnlyRecords (s u : State) : Prop :=
  u = { s with regs := u.regs, pulses := u.pulses, recent := u.recent, dram := u.dram, mp := u.mp }

theorem OnlyRecords.refl (s : State) : OnlyRecords s s := rfl

theorem OnlyRecords.trans {s u v : State} (h : OnlyRecords s u) (g : OnlyRecords u v) : OnlyRecords s v := by
  unfold OnlyRecords at g ⊢
  rw [h] at g
  exact g

theorem OnlyRecords.eng {s u : State} (h : OnlyRecords s u) : u.eng = s.eng := by
  rw [OnlyRecords] at h; rw [h]
theorem OnlyRecords.grd {s u : State} (h : OnlyRecords s u) : u.grd = s.grd := by
  rw [OnlyRecords] at h; rw [h]
theorem OnlyRecords.ltn {s u : State} (h : OnlyRecords s u) : u.ltn = s.ltn := by
  rw [OnlyRecords] at h; rw [h]
theorem OnlyRecords.sxl {s u : State} (h : OnlyRecords s u) : u.sxl = s.sxl := by
  rw [OnlyRecords] at h; rw [h]
theorem OnlyRecords.pba {s u : State} (h : OnlyRecords s u) : u.pba = s.pba := by
  rw [OnlyRecords] at h; rw [h]
theorem OnlyRecords.mbx {s u : State} (h : OnlyRecords s u) : u.mbx = s.mbx := by
  rw [OnlyRecords] at h; rw [h]
theorem OnlyRecords.nvm {s u : State} (h : OnlyRecords s u) : u.nvm = s.nvm := by
  rw [OnlyRecords] at h; rw [h]
theorem OnlyRecords.clock {s u : State} (h : OnlyRecords s u) : u.clock = s.clock := by
  rw [OnlyRecords] at h; rw [h]

theorem State.onlyRecords_put (s : State) (p : Page) (f : RF) (x : Nat) : OnlyRecords s (s.put p f x) := rfl
theorem State.onlyRecords_note (s : State) (p : Page) (f : RF) (x : Nat) : OnlyRecords s (s.note p f x) := rfl

theorem State.onlyRecords_pulses (s : State) (l : List (Nat × Nat)) : OnlyRecords s { s with pulses := l } := rfl
theorem State.onlyRecords_ring (s : State) (m : List (Nat × Byte)) (mp : Mp) :
    OnlyRecords s { s with dram := m, mp := mp } := rfl

theorem State.onlyRecords_mark (s : State) (p : Page) (f : RF) : OnlyRecords s (s.mark p f) :=
  (s.onlyRecords_note p f 1).trans (State.onlyRecords_put _ _ _ _)

theorem State.onlyRecords_bump (s : State) (p : Page) (f : RF) : OnlyRecords s (s.bump p f) :=
  (State.onlyRecords_note _ _ _ _).trans (State.onlyRecords_put _ _ _ _)

theorem State.onlyRecords_latch (s : State) (p : Page) (b : Nat) : OnlyRecords s (s.latch p b) := by
  unfold State.latch
  exact (s.onlyRecords_pulses _).trans (State.onlyRecords_mark _ _ _)

theorem State.onlyRecords_logEntry (s : State) (pg cls d x : Nat) : OnlyRecords s (s.logEntry pg cls d x) := by
  unfold State.logEntry; split <;> rfl

theorem State.onlyRecords_record (s : State) (ty : Nat) (l : List Nat) : OnlyRecords s (s.record ty l) := by
  by_cases hr : s.recording = true
  · simp only [State.record, hr, if_true]
    split
    · exact (s.onlyRecords_bump _ _).trans (State.onlyRecords_latch _ _ _)
    · exact (s.onlyRecords_ring _ _).trans (State.onlyRecords_put _ _ _ _)
  · simp only [State.record, hr]
    exact .refl s

theorem State.onlyRecords_raise (s : State) (p : Page) (b : Nat) : OnlyRecords s (s.raise p b) :=
  (State.onlyRecords_latch _ _ _).trans (State.onlyRecords_record _ _ _)

theorem State.onlyRecords_errInfo (s : State) (p : Page) (path off cls d i : Nat) :
    OnlyRecords s (s.errInfo p path off cls d i) := by
  unfold State.errInfo
  extract_lets counted logged
  have hlogged : OnlyRecords s logged := by
    refine (State.onlyRecords_bump s p ERR_CNT).trans ?_
    unfold logged
    split
    · exact State.onlyRecords_logEntry _ _ _ _ _
    · exact .refl _
  split_ifs
  · exact ((hlogged.trans (State.onlyRecords_put _ _ _ _)).trans (State.onlyRecords_put _ _ _ _)).trans
      (State.onlyRecords_raise _ _ _)
  · exact hlogged

theorem State.onlyRecords_err (s : State) (p : Page) (path off cls d : Nat) :
    OnlyRecords s (s.err p path off cls d) := State.onlyRecords_errInfo _ _ _ _ _ _ _

end Sys2Proof.Machine

/-! ## Refused commands (R12, R114, R274, R275, R421) -/

namespace Sys2Proof.Machine

/-- The outcome of an engine command that was carried out, or that left only an error record of the engine's page or its
Grinder's. -/
def EngDoneOrRefused (s : State) (n : Fin 4) (r : State × CmdResult) : Prop :=
  r.2.1 = ST_OK ∨ ∃ p ∈ [Page.eng n, Page.grd n], ∃ path off cls d, r = s.engRefuse p path off cls d

theorem EngDoneOrRefused.done {s : State} {n : Fin 4} {u : State} {d : Nat} : EngDoneOrRefused s n (u, (ST_OK, d)) :=
  .inl rfl

theorem EngDoneOrRefused.refused {s : State} {n : Fin 4} {p : Page} (path off cls d : Nat)
    (h : p ∈ [Page.eng n, Page.grd n]) : EngDoneOrRefused s n (s.engRefuse p path off cls d) :=
  .inr ⟨p, h, path, off, cls, d, rfl⟩

theorem State.engStart_doneOrRefused (s : State) (n : Fin 4) (path off : Nat) :
    EngDoneOrRefused s n (s.engStart n path off) := by
  unfold State.engStart
  extract_lets st started
  split_ifs
  · exact .refused _ _ _ _ (by simp)
  · exact .done
  · exact .done
  · exact .done
  · exact .refused _ _ _ _ (by simp)

theorem State.engStop_doneOrRefused (s : State) (n : Fin 4) (path off : Nat) :
    EngDoneOrRefused s n (s.engStop n path off) := by
  unfold State.engStop
  extract_lets st
  split_ifs
  · exact .done
  · exact .done
  · exact .refused _ _ _ _ (by simp)

theorem State.engPark_doneOrRefused (s : State) (n : Fin 4) (path off : Nat) :
    EngDoneOrRefused s n (s.engPark n path off) := by
  unfold State.engPark
  extract_lets st
  split_ifs
  · exact .done
  · exact .refused _ _ _ _ (by simp)

theorem State.engFaultClear_doneOrRefused (s : State) (n : Fin 4) (path off : Nat) :
    EngDoneOrRefused s n (s.engFaultClear n path off) := by
  unfold State.engFaultClear
  split_ifs
  · exact .done
  · exact .refused _ _ _ _ (by simp)

/-- Each of the four engine commands is carried out or leaves only its error record (R114). -/
theorem engCommand_doneOrRefused (s : State) (n : Fin 4) (path off : Nat) {f : State → Fin 4 → Nat → Nat → State × CmdResult}
    (hf : f ∈ [State.engStart, State.engStop, State.engPark, State.engFaultClear]) :
    EngDoneOrRefused s n (f s n path off) := by
  simp only [List.mem_cons, List.not_mem_nil, or_false] at hf
  rcases hf with rfl | rfl | rfl | rfl
  · exact s.engStart_doneOrRefused n path off
  · exact s.engStop_doneOrRefused n path off
  · exact s.engPark_doneOrRefused n path off
  · exact s.engFaultClear_doneOrRefused n path off

/-! ### States without a row in the table of R114 -/

theorem State.engStart_of_noRow (s : State) (n : Fin 4) (path off : Nat) (hc : s.inf (.grd n) GRD_PRG0_CTRL_COUNT ≠ 0)
    (hoff : s.engState n ≠ E_OFF) (hready : s.engState n ≠ E_READY) (hsafe : s.engState n ≠ E_SAFE) :
    s.engStart n path off = s.engRefuse (.eng n) path off ST_STATE_REJECT ENG_CMD_STATE := by
  simp only [State.engStart, hc, hoff, hready, hsafe, if_false]

theorem State.engStop_of_noRow (s : State) (n : Fin 4) (path off : Nat)
    (h : s.engState n = E_OFF ∨ s.engState n = E_FAULT) :
    s.engStop n path off = s.engRefuse (.eng n) path off ST_STATE_REJECT ENG_CMD_STATE := by
  unfold State.engStop
  rcases h with h | h <;> rw [h] <;> rfl

theorem State.engPark_of_noRow (s : State) (n : Fin 4) (path off : Nat)
    (h : s.engState n = E_OFF ∨ s.engState n = E_FAULT) :
    s.engPark n path off = s.engRefuse (.eng n) path off ST_STATE_REJECT ENG_CMD_STATE := by
  unfold State.engPark
  rcases h with h | h <;> rw [h] <;> rfl

theorem State.engFaultClear_of_noRow (s : State) (n : Fin 4) (path off : Nat) (h : s.engState n ≠ E_FAULT) :
    s.engFaultClear n path off = s.engRefuse (.eng n) path off ST_STATE_REJECT ENG_CMD_STATE := by
  simp only [State.engFaultClear, h, false_and, if_false]

/-! ### NVM and TIME -/

/-- A command that fails its checks is recorded with the code of the check (R421). -/
theorem State.nvmCmd_of_checkFails (s : State) (path : Path) (v : Nat) (hgo : bitsOf v 31 1 = 1)
    (hc : (s.nvmCheck (bitsOf v 0 4) (s.get .nvm NVM_ADDR) (bitsOf v 8 3 + 1)).1 ≠ ST_OK) :
    ∃ cls d, s.nvmCmd path v = s.err .nvm (pathCode path) NVM_CMD.off cls d := by
  have hgo0 : ¬ bitsOf v 31 1 = 0 := by simp [hgo]
  refine ⟨(s.nvmCheck (bitsOf v 0 4) (s.get .nvm NVM_ADDR) (bitsOf v 8 3 + 1)).1,
    (s.nvmCheck (bitsOf v 0 4) (s.get .nvm NVM_ADDR) (bitsOf v 8 3 + 1)).2, ?_⟩
  simp only [State.nvmCmd, hgo0, hc, if_false, ne_eq, not_false_eq_true, if_true]

/-- A slew beyond 10 ms is refused (R275). -/
theorem State.timeSlewWrite_of_tooLong (s : State) (path : Path) (v : Nat) (hh : s.flag .time TIME_STATUS_HOLDOFF = false)
    (hv : 10000000 < (signed 32 v).natAbs) :
    s.timeSlewWrite path v = s.err .time (pathCode path) TIME_SLEW.off ST_BAD_PARAM 0x10 := by
  simp only [State.timeSlewWrite, hh, hv, Bool.false_eq_true, if_false, if_true]

/-- A SET to nanoseconds beyond a second is refused (R274). -/
theorem State.timeAdjWrite_of_badSet (s : State) (path : Path) (v : Nat) (hv : bitsOf v 0 4 = 1)
    (hns : 1000000000 ≤ s.get .time TIME_SET_NS) :
    s.timeAdjWrite path v = s.err .time (pathCode path) TIME_ADJ.off ST_BAD_PARAM 0x10 := by
  simp only [State.timeAdjWrite, hv, hns, if_true]

/-! ### The statement -/

theorem SameRegs.mono {s u : State} {l m : List Nat} (h : SameRegs s u l) (hl : l ⊆ m) : SameRegs s u m :=
  fun a ha => h a fun hal => ha (hl hal)

/-- A refused engine command leaves only its error record, on the engine's page or its Grinder's (R12). -/
theorem engCommand_refused_frame (s : State) (n : Fin 4) (path off : Nat) (f : State → Fin 4 → Nat → Nat → State × CmdResult)
    (hf : f ∈ [State.engStart, State.engStop, State.engPark, State.engFaultClear]) (hr : (f s n path off).2.1 ≠ ST_OK) :
    SameRegs s (f s n path off).1 (errRegs (.eng n) ++ errRegs (.grd n)) ∧ SameOnChip s (f s n path off).1 ∧
      OnlyRecords s (f s n path off).1 := by
  obtain hok | ⟨p, hp, path', off', cls, d, he⟩ := engCommand_doneOrRefused s n path off hf
  · exact absurd hok hr
  have hsub : errRegs p ⊆ errRegs (.eng n) ++ errRegs (.grd n) := by
    simp only [List.mem_cons, List.not_mem_nil, or_false] at hp
    rcases hp with rfl | rfl
    · exact List.subset_append_left _ _
    · exact List.subset_append_right _ _
  rw [he]
  exact ⟨(s.sameRegs_err p path' off' cls d).mono hsub, s.sameOnChip_err p path' off' cls d,
    s.onlyRecords_err p path' off' cls d⟩

/-- Settles O56: every refusal named is one error record, which leaves what `State.sameRegs_err`, `State.sameOnChip_err`
and `State.onlyRecords_err` say. -/
theorem refusedCommandsHaveNoEffect : Obligations.RefusedCommandsHaveNoEffect := by
  refine ⟨?engFrame, ?engNoRow, ?nvm, ?slew, ?adj⟩
  case engFrame =>
    intro s n path off f hf hr
    obtain ⟨hregs, hchip, hrec⟩ := engCommand_refused_frame s n path off f hf hr
    exact ⟨hregs, hchip, hrec.eng, hrec.grd, hrec.ltn,
      hrec.sxl, hrec.pba, hrec.mbx⟩
  case engNoRow =>
    intro s n path off
    exact ⟨fun hc hoff hready hsafe => congrArg Prod.snd (s.engStart_of_noRow n path off hc hoff hready hsafe),
      fun h => ⟨congrArg Prod.snd (s.engStop_of_noRow n path off h), congrArg Prod.snd (s.engPark_of_noRow n path off h)⟩,
      fun h => congrArg Prod.snd (s.engFaultClear_of_noRow n path off h)⟩
  case nvm =>
    intro s path v hgo hc
    obtain ⟨cls, d, he⟩ := s.nvmCmd_of_checkFails path v hgo hc
    rw [he]
    exact ⟨s.sameRegs_err _ _ _ _ _, (s.onlyRecords_err _ _ _ _ _).nvm, s.sameOnChip_err _ _ _ _ _⟩
  case slew =>
    intro s path v hh hv
    rw [s.timeSlewWrite_of_tooLong path v hh hv]
    exact ⟨s.sameRegs_err _ _ _ _ _, (s.onlyRecords_err _ _ _ _ _).clock⟩
  case adj =>
    intro s path v hv hns
    rw [s.timeAdjWrite_of_badSet path v hv hns]
    exact ⟨s.sameRegs_err _ _ _ _ _, (s.onlyRecords_err _ _ _ _ _).clock⟩

end Sys2Proof.Machine

/-! ## The commands on the common header (R15, R34–R37, R42–R45, R49) -/

namespace Sys2Proof.Machine

/-! ### A header command is a write of its register -/

/-- A command that is one write of a header register completes with what the page does with the word written. -/
theorem completes_of_header_write {c : Nat → Instr} {path : Path} {p : Page} {pg : Nat} {f : RF} {w : State → Nat}
    {P : State → Prop} {Q : State → State → Prop} (hb : p.base = pageAddr pg 0) (hf : f.off < 0x1000)
    (hexec : ∀ t s, exec (c t) s = s.step' t fun u => u.writeBy path (pageAddr pg f.off) 4 (w u))
    (hw : ∀ u, P u → u.writable path p f = true) (hlt : ∀ u, w u < 2 ^ 32)
    (hQ : ∀ u, P u → Q u ((u.pageWrite path p f.off (w u)).answer (BitVec.ofNat 32 (w u)))) : Completes c P Q := by
  intro t s hP
  have ha : pageAddr pg f.off = p.base + f.off := by rw [hb]; simp only [pageAddr]; omega
  have hr := State.regBy_reaches (s.at t) path p f (w (s.at t)) hf (hw _ hP)
  rw [Nat.mod_eq_of_lt (hlt _)] at hr
  refine ⟨_, hexec t s, ?_⟩
  rw [ha]
  exact (congrArg (Q (s.at t)) hr).mpr (hQ _ hP)

theorem State.pageWrite_blkCtrl (s : State) (path : Path) (p : Page) (v : Nat) :
    s.pageWrite path p BLK_CTRL.off v = s.ctrlWrite path p v := rfl
theorem State.pageWrite_irqSet (s : State) (path : Path) (p : Page) (v : Nat) :
    s.pageWrite path p IRQ_SET.off v = s.irqSet p v := rfl
theorem State.pageWrite_commit (s : State) (path : Path) (p : Page) (v : Nat) :
    s.pageWrite path p COMMIT.off v = s.commitWrite p v := rfl
theorem State.pageWrite_errCode (s : State) (path : Path) (p : Page) (v : Nat) :
    s.pageWrite path p ERR_CODE.off v = s.errCodeWrite p v := rfl
theorem State.pageWrite_lock (s : State) (path : Path) (p : Page) (v : Nat) :
    s.pageWrite path p LOCK.off v = s.lockWrite p v := rfl

@[simp] theorem State.answer_flag (s : State) (v : Word) (p : Page) (f : RF) : (s.answer v).flag p f = s.flag p f := rfl
@[simp] theorem State.answer_frozen (s : State) (v : Word) (p : Page) : (s.answer v).frozen p = s.frozen p := rfl

/-- A one-bit field reads as the truth value it was given. -/
theorem State.flag_setFlag_same (s : State) (p : Page) (f : RF) (b : Bool) (hw : f.w = 1) (hf : f.Fits) :
    (s.setFlag p f b).flag p f = b := by
  unfold State.flag State.setFlag
  rw [State.get_put_same _ _ _ _ hf, hw]
  cases b <;> rfl

/-! ### `BLK_CTRL` (R34–R37) -/

theorem bitOf_eq_testBit (x i : Nat) : bitOf x i = x.testBit i := by
  rw [bitOf, Nat.testBit_eq_decide_div_mod_eq]
  rfl

/-- A one-bit field, read as a truth value, is the bit. -/
theorem bitsOf_one_ne_zero (x i : Nat) : (bitsOf x i 1 != 0) = x.testBit i := by
  rw [← bitOf_eq_testBit, bitOf, bitsOf, pow_one]
  rcases Nat.mod_two_eq_zero_or_one (x / 2 ^ i) with h | h <;> rw [h] <;> rfl

/-- A flag of `BLK_CTRL` is its bit of the register. -/
theorem State.flag_eq_testBit (s : State) (p : Page) (f g : RF) (ho : f.off = g.off) (hf : f.w = 1) (hlo : f.lo < 32)
    (hg : g.lo = 0 ∧ g.w = 32) : s.flag p f = (s.get p g).testBit f.lo := by
  simp only [State.flag, State.get, Word.field, hf, ho, hg, bitsOf_one_ne_zero]
  rw [bitsOf_testBit]
  simp [hlo]

theorem State.ctrlNow_eq (s : State) {p : Page} {pg : Nat} (hb : p.base = pageAddr pg 0) :
    s.ctrlNow pg = s.get p BLK_CTRL &&& 5 := by
  have h : Page.ofAddr (pageAddr pg 0) = some p := hb ▸ Page.ofAddr_base p 0 (by decide)
  simp only [State.ctrlNow, h]

/-- The bits of `BLK_CTRL` with EN and FREEZE as they stand: EN, FREEZE and no SRST. -/
theorem State.ctrlNow_testBit (s : State) {p : Page} {pg : Nat} (hb : p.base = pageAddr pg 0) :
    (s.ctrlNow pg).testBit 0 = s.flag p BLK_CTRL_EN ∧ (s.ctrlNow pg).testBit 1 = false ∧
      (s.ctrlNow pg).testBit 2 = s.frozen p := by
  have hen := s.flag_eq_testBit p BLK_CTRL_EN BLK_CTRL rfl rfl (by decide) ⟨rfl, rfl⟩
  have hfr := s.flag_eq_testBit p BLK_CTRL_FREEZE BLK_CTRL rfl rfl (by decide) ⟨rfl, rfl⟩
  rw [s.ctrlNow_eq hb, State.frozen, hen, hfr]
  have h0 : Nat.testBit 5 0 = true := rfl
  have h1 : Nat.testBit 5 1 = false := rfl
  have h2 : Nat.testBit 5 2 = true := rfl
  simp only [Nat.testBit_and, h0, h1, h2, Bool.and_true, Bool.and_false, BLK_CTRL_EN, BLK_CTRL_FREEZE, and_self]

theorem withBits_lt {x lo w v k : Nat} (hx : x < 2 ^ k) (hk : lo + w ≤ k) : withBits x lo w v < 2 ^ k := by
  apply Nat.lt_pow_two_of_testBit
  intro i hi
  have hout : ¬ (lo ≤ i ∧ i < lo + w) := by omega
  rw [withBits_testBit, if_neg hout]
  exact Nat.testBit_lt_two_pow (hx.trans_le (Nat.pow_le_pow_right (by decide) hi))

theorem State.ctrlNow_lt (s : State) {p : Page} {pg : Nat} (hb : p.base = pageAddr pg 0) : s.ctrlNow pg < 2 ^ 32 := by
  rw [s.ctrlNow_eq hb]
  exact Nat.and_le_right.trans_lt (by decide)

theorem ofBool_testBit_zero (b : Bool) : (ofBool b).testBit 0 = b := by cases b <;> rfl

/-- SRST of a block that does not emit light resets it (R36). -/
theorem State.ctrlWrite_srst (s : State) (path : Path) (p : Page) (v : Nat) (hs : v.testBit 1 = true)
    (he : s.emits p = false) : s.ctrlWrite path p v = s.softReset p := by
  simp [State.ctrlWrite, bitOf_eq_testBit, hs, he]

/-- A write without SRST that does not clear EN of a block that emits light gives EN and FREEZE their values (R36, R37). -/
theorem State.ctrlWrite_noSrst (s : State) (path : Path) (p : Page) (v : Nat) (hs : v.testBit 1 = false)
    (hc : s.flag p BLK_CTRL_EN = true → v.testBit 0 = true ∨ s.emits p = false) :
    s.ctrlWrite path p v =
      (if p.enFixed then s else s.enWrite p (v.testBit 0)).freezeWrite p (v.testBit 2) := by
  have hkept : (!p.enFixed && s.flag p BLK_CTRL_EN && !v.testBit 0 && s.emits p) = false := by
    cases hen : s.flag p BLK_CTRL_EN
    · rw [Bool.and_false, Bool.false_and, Bool.false_and]
    · rcases hc hen with h | h <;> simp only [h, Bool.not_true, Bool.and_false, Bool.false_and]
  simp only [State.ctrlWrite, bitOf_eq_testBit, hs, hkept, Bool.false_or, Bool.or_false, Bool.false_and,
    Bool.false_eq_true, if_false]

theorem State.enWrite_same (s : State) (p : Page) : s.enWrite p (s.flag p BLK_CTRL_EN) = s := if_pos rfl

/-- After the write FREEZE reads as written (R37). -/
theorem State.frozen_freezeWrite (s : State) (p : Page) (fr : Bool) : (s.freezeWrite p fr).frozen p = fr := by
  unfold State.freezeWrite
  split_ifs with hsame hfr
  · exact hsame
  · rw [hfr]
    exact State.flag_setFlag_same _ _ _ _ rfl (by decide)
  · rw [Bool.eq_false_of_not_eq_true hfr]
    exact State.flag_setFlag_same _ _ _ _ rfl (by decide)

/-- BLOCK_ENABLE gives EN its value and leaves FREEZE (R36). -/
theorem State.ctrlWrite_blockEnable (s : State) (path : Path) {p : Page} {pg : Nat} (en : Bool)
    (hb : p.base = pageAddr pg 0) (hfix : p.enFixed = false) (hok : en = true ∨ s.emits p = false) :
    s.ctrlWrite path p (withBits (s.ctrlNow pg) 0 1 (ofBool en)) = (s.enWrite p en).freezeWrite p (s.frozen p) := by
  obtain ⟨-, hsrst, hfreeze⟩ := s.ctrlNow_testBit hb
  have h0 : (withBits (s.ctrlNow pg) 0 1 (ofBool en)).testBit 0 = en := by
    rw [withBits_testBit, if_pos (by decide), Nat.sub_self, ofBool_testBit_zero]
  have h1 : (withBits (s.ctrlNow pg) 0 1 (ofBool en)).testBit 1 = false := by
    rw [withBits_testBit, if_neg (by decide), hsrst]
  have h2 : (withBits (s.ctrlNow pg) 0 1 (ofBool en)).testBit 2 = s.frozen p := by
    rw [withBits_testBit, if_neg (by decide), hfreeze]
  rw [s.ctrlWrite_noSrst path p _ h1 (fun _ => h0.symm ▸ hok), h0, h2, hfix]
  rfl

/-- FREEZE gives FREEZE its value and leaves EN (R37). -/
theorem State.ctrlWrite_freeze (s : State) (path : Path) {p : Page} {pg : Nat} (fr : Bool)
    (hb : p.base = pageAddr pg 0) :
    s.ctrlWrite path p (withBits (s.ctrlNow pg) 2 1 (ofBool fr)) = s.freezeWrite p fr := by
  obtain ⟨hen, hsrst, -⟩ := s.ctrlNow_testBit hb
  have h0 : (withBits (s.ctrlNow pg) 2 1 (ofBool fr)).testBit 0 = s.flag p BLK_CTRL_EN := by
    rw [withBits_testBit, if_neg (by decide), hen]
  have h1 : (withBits (s.ctrlNow pg) 2 1 (ofBool fr)).testBit 1 = false := by
    rw [withBits_testBit, if_neg (by decide), hsrst]
  have h2 : (withBits (s.ctrlNow pg) 2 1 (ofBool fr)).testBit 2 = fr := by
    rw [withBits_testBit, if_pos (by decide), Nat.sub_self, ofBool_testBit_zero]
  rw [s.ctrlWrite_noSrst path p _ h1 (fun hflag => .inl (h0.trans hflag)), h0, h2, s.enWrite_same, ite_self]

/-! ### `ERR_CODE`, `LOCK` and `COMMIT` (R15, R42–R45, R49) -/

theorem State.errCodeWrite_held (s : State) (p : Page) (v : Nat) (h : bitsOf v 8 8 = s.get p ERR_CODE_CLASS) :
    s.errCodeWrite p v = (s.put p ERR_CODE 0).put p ERR_INFO 0 := if_pos h

theorem State.errRecord_cleared (s : State) (p : Page) :
    ((s.put p ERR_CODE 0).put p ERR_INFO 0).get p ERR_CODE = 0 ∧
      ((s.put p ERR_CODE 0).put p ERR_INFO 0).get p ERR_INFO = 0 := by
  constructor
  · rw [State.get_put_off _ _ _ _ _ (by decide), State.get_put_same _ _ _ _ (by decide), Nat.zero_mod]
  · rw [State.get_put_same _ _ _ _ (by decide), Nat.zero_mod]

/-- The word that LOCK writes: the key above, TAG below (R49). -/
def lockWord (low : Nat) : Nat := 0x5AFE0000 + low % 0x10000

theorem bitsOf_lockWord (low : Nat) : bitsOf (lockWord low) 16 16 = 0x5AFE ∧ bitsOf (lockWord low) 1 15 = bitsOf low 1 15 := by
  simp only [bitsOf, lockWord]
  omega

theorem State.lockWrite_key (s : State) (p : Page) (low : Nat) (h : s.flag p LOCK_LOCKED = false) :
    s.lockWrite p (lockWord low) = (s.put p LOCK_TAG (bitsOf low 1 15)).put p LOCK_LOCKED 1 := by
  obtain ⟨hkey, htag⟩ := bitsOf_lockWord low
  simp [State.lockWrite, hkey, htag, h]

/-- A lock that is taken shows LOCKED and the TAG, and no other register changes (R49). -/
theorem State.lock_taken (s : State) (p : Page) (tag : Nat) (ht : tag < 2 ^ 15) :
    ((s.put p LOCK_TAG tag).put p LOCK_LOCKED 1).flag p LOCK_LOCKED = true ∧
      ((s.put p LOCK_TAG tag).put p LOCK_LOCKED 1).get p LOCK_TAG = tag ∧
      SameRegsExactly s ((s.put p LOCK_TAG tag).put p LOCK_LOCKED 1) [p.base + LOCK.off] := by
  refine ⟨State.flag_setFlag_same _ p LOCK_LOCKED true rfl (by decide), ?_, ?_⟩
  · rw [State.get_put_apart _ p LOCK_LOCKED LOCK_TAG 1 rfl (by decide) (by decide),
      State.get_put_same _ p LOCK_TAG _ (by decide)]
    exact Nat.mod_eq_of_lt ht
  · intro a ha
    have hne : p.base + LOCK.off ≠ a := fun e => ha (List.mem_singleton.mpr e.symm)
    exact (State.reg_put_ne _ p LOCK_LOCKED 1 a hne).trans (State.reg_put_ne s p LOCK_TAG tag a hne)

theorem State.commitWrite_go (s : State) (p : Page) : s.commitWrite p 1 = s.commitGo p.group := rfl

/-! ### What each command writes -/

theorem exec_errCodeClear (t : Nat) (path : Path) (pg v : Nat) (s : State) :
    exec (.errCodeClear t path pg v) s = s.step' t fun u => u.writeBy path (pageAddr pg ERR_CODE.off) 4 v := rfl
theorem exec_softReset (t : Nat) (path : Path) (pg v : Nat) (s : State) :
    exec (.softReset t path pg v) s = s.step' t fun u => u.writeBy path (pageAddr pg BLK_CTRL.off) 4 (v ||| 2) := rfl
theorem exec_blockEnable (t : Nat) (path : Path) (pg : Nat) (en : Bool) (s : State) :
    exec (.blockEnable t path pg en) s = s.step' t fun u =>
      u.writeBy path (pageAddr pg BLK_CTRL.off) 4 (withBits (u.ctrlNow pg) 0 1 (ofBool en)) := rfl
theorem exec_freeze (t : Nat) (path : Path) (pg : Nat) (fr : Bool) (s : State) :
    exec (.freeze t path pg fr) s = s.step' t fun u =>
      u.writeBy path (pageAddr pg BLK_CTRL.off) 4 (withBits (u.ctrlNow pg) 2 1 (ofBool fr)) := rfl
theorem exec_irqSet (t : Nat) (path : Path) (pg v : Nat) (s : State) :
    exec (.irqSet t path pg v) s = s.step' t fun u => u.writeBy path (pageAddr pg IRQ_SET.off) 4 v := rfl
theorem exec_lock (t : Nat) (path : Path) (pg low : Nat) (s : State) :
    exec (.lock t path pg low) s = s.step' t fun u => u.writeBy path (pageAddr pg LOCK.off) 4 (lockWord low) := rfl
theorem exec_commitGo (t : Nat) (path : Path) (pg : Nat) (s : State) :
    exec (.commitGo t path pg) s = s.step' t fun u => u.writeBy path (pageAddr pg COMMIT.off) 4 1 := rfl

/-! ### The statement -/

/-- Settles O10: each command is one write of a header register, and the lemma about that register says what it does. -/
theorem headerCommandsComplete : Obligations.HeaderCommandsComplete := by
  refine ⟨?errCodeClear, ?softReset, ?blockEnable, ?freeze, ?irqSet, ?lock, ?commitGo⟩
  case errCodeClear =>
    intro path p pg v hb hv
    refine completes_of_header_write (f := ERR_CODE) hb (by decide) (exec_errCodeClear · path pg v) (fun _ h => h.1)
      (fun _ => hv) ?_
    rintro u ⟨-, hcls⟩
    rw [State.pageWrite_errCode, u.errCodeWrite_held p v hcls]
    refine ⟨rfl, ?_⟩
    rw [State.answer_get, State.answer_get]
    exact u.errRecord_cleared p
  case softReset =>
    intro path p pg v hb hv
    refine completes_of_header_write (f := BLK_CTRL) hb (by decide) (exec_softReset · path pg v) (fun _ h => h.1)
      (fun _ => Nat.or_lt_two_pow hv (by decide)) ?_
    rintro u ⟨-, hdark⟩
    have hsrst : (v ||| 2).testBit 1 = true := by
      rw [Nat.testBit_or, show Nat.testBit 2 1 = true from rfl, Bool.or_true]
    rw [State.pageWrite_blkCtrl, u.ctrlWrite_srst path p _ hsrst hdark]
  case blockEnable =>
    intro path p pg en hb
    refine completes_of_header_write (f := BLK_CTRL) hb (by decide) (exec_blockEnable · path pg en) (fun _ h => h.1)
      (fun u => withBits_lt (u.ctrlNow_lt hb) (by decide)) ?_
    rintro u ⟨-, hfix, hok⟩
    rw [State.pageWrite_blkCtrl, u.ctrlWrite_blockEnable path en hb hfix hok]
  case freeze =>
    intro path p pg fr hb
    refine completes_of_header_write (f := BLK_CTRL) hb (by decide) (exec_freeze · path pg fr) (fun _ h => h)
      (fun u => withBits_lt (u.ctrlNow_lt hb) (by decide)) ?_
    intro u _
    rw [State.pageWrite_blkCtrl, u.ctrlWrite_freeze path fr hb]
    refine ⟨?_, rfl⟩
    rw [State.answer_frozen, u.frozen_freezeWrite p fr]
  case irqSet =>
    intro path p pg v hb hv
    refine completes_of_header_write (f := IRQ_SET) hb (by decide) (exec_irqSet · path pg v) (fun _ h => h) (fun _ => hv) ?_
    intro u _
    rw [State.pageWrite_irqSet]
    rfl
  case lock =>
    intro path p pg low hb
    refine completes_of_header_write (f := LOCK) hb (by decide) (exec_lock · path pg low)
      (fun _ h => h.1) (fun _ => by simp only [lockWord]; omega) ?_
    rintro u ⟨-, hfree⟩
    rw [State.pageWrite_lock, u.lockWrite_key p low hfree]
    obtain ⟨hlocked, htag, hregs⟩ := u.lock_taken p (bitsOf low 1 15) (bitsOf_lt low 1 15)
    exact ⟨(State.answer_flag _ _ _ _).trans hlocked, (State.answer_get _ _ _ _).trans htag,
      fun a ha => (State.answer_reg _ _ _).trans (hregs a ha)⟩
  case commitGo =>
    intro path p pg hb
    refine completes_of_header_write (f := COMMIT) hb (by decide) (exec_commitGo · path pg) (fun _ h => h.1)
      (fun _ => by decide) ?_
    rintro u ⟨-, -⟩
    rw [State.pageWrite_commit, State.commitWrite_go]
    rfl

end Sys2Proof.Machine

/-! ## Accesses to the memories (R8, R22, R31, R38, R300, R304) -/

namespace Sys2Proof.Machine

/-! ### The place an address selects -/

/-- The Frame SRAM window (R22). -/
theorem placeOf_fsram {off : Nat} (h : off < 0x5000000) : placeOf (0x20000000 + off) = .fsram off := by
  unfold placeOf
  rw [if_neg (by omega), if_neg (by omega), if_pos (by omega), Nat.add_sub_cancel_left]

/-- The DRAM aperture (R300). -/
theorem placeOf_dram {off : Nat} (h : off < 0x80000000) : placeOf (0x80000000 + off) = .dram := by
  unfold placeOf
  rw [if_neg (by omega), if_neg (by omega), if_neg (by omega), if_pos (by omega)]

theorem State.placeWrite_page (s : State) (path : Path) (p : Page) {off : Nat} (v : Nat) (h : off < 0x1000) :
    s.placeWrite path (p.base + off) v = s.pageWrite path p off v := by
  simp only [State.placeWrite, placeOf_page p off h]

theorem State.placeWrite_fsram (s : State) (path : Path) {off : Nat} (v : Nat) (h : off < 0x5000000) :
    s.placeWrite path (0x20000000 + off) v = { s with fsram := memSetLE s.fsram off 4 v } := by
  simp only [State.placeWrite, placeOf_fsram h]

theorem State.placeWrite_dram (s : State) (path : Path) {off : Nat} (v : Nat) (h : off < 0x80000000) :
    s.placeWrite path (0x80000000 + off) v = s.aperWrite path (0x80000000 + off) v := by
  simp only [State.placeWrite, placeOf_dram h]

theorem State.placeRead_fsram (s : State) (path : Path) {off : Nat} (h : off < 0x5000000) :
    s.placeRead path (0x20000000 + off) = memLE s.fsram off 4 := by
  simp only [State.placeRead, placeOf_fsram h]

theorem State.placeRead_dram (s : State) (path : Path) {off : Nat} (h : off < 0x80000000) :
    s.placeRead path (0x80000000 + off) = s.aperRead path (0x80000000 + off) := by
  simp only [State.placeRead, placeOf_dram h]

/-- A read of the Frame SRAM has no side effect. -/
theorem State.placeSide_fsram (s : State) (path : Path) {off : Nat} (h : off < 0x5000000) :
    s.placeSide path (0x20000000 + off) = s := by
  simp only [State.placeSide, placeOf_fsram h]

theorem State.placeSide_dram (s : State) (path : Path) {off : Nat} (h : off < 0x80000000) :
    s.placeSide path (0x80000000 + off) = s.countBytes (aperPort path) false 4 := by
  simp only [State.placeSide, placeOf_dram h]

/-! ### Words in a memory -/

/-- A word that is stored reads back whole (R8). -/
theorem memLE_setLE_word (m : List (Nat × Byte)) (a : Nat) {v : Nat} (hv : v < 2 ^ 32) :
    memLE (memSetLE m a 4 v) a 4 = v := by
  have hwidth : (256 : Nat) ^ 4 = 2 ^ 32 := rfl
  rw [memLE_setLE, hwidth, Nat.mod_eq_of_lt hv]

/-- Bytes read one by one are the little-endian number at their address (R8). -/
theorem leNat_memBytes (m : List (Nat × Byte)) (n : Nat) : ∀ a, leNat (memBytes m a n) = memLE m a n := by
  induction n with
  | zero => intro a; rfl
  | succ n ih =>
    intro a
    have hcons : memBytes m a (n + 1) = memByte m a :: memBytes m (a + 1) n := by
      simp only [memBytes, List.range_succ_eq_map, List.map_cons, List.map_map, Function.comp_def, Nat.succ_eq_add_one,
        Nat.add_zero, Nat.add_right_comm a 1, Nat.add_assoc]
    calc leNat (memBytes m a (n + 1))
      _ = (memByte m a).toNat + 256 * leNat (memBytes m (a + 1) n) := by rw [hcons]; rfl
      _ = memLE m a (n + 1) := by rw [ih]; rfl

/-! ### The DRAM through the aperture -/

/-- With nothing waiting at its port, a read through the aperture finds the DRAM (R304). -/
theorem State.aperRead_idle (s : State) (path : Path) (a : Nat) (h : s.dmcs.ports[aperPort path] = []) :
    s.aperRead path a = memLE s.dram (s.aperPa a) 4 := by
  simp only [State.aperRead, h, overlay, List.foldl_nil, leNat_memBytes]

@[simp] theorem State.countBytes_dram (s : State) (p : Fin 8) (write : Bool) (n : Nat) :
    (s.countBytes p write n).dram = s.dram := by
  simp only [State.countBytes, State.count, State.put_dram, State.note_dram, State.modDmc_dram]

theorem State.aperWrite_dram (s : State) (path : Path) (a v : Nat) :
    (s.aperWrite path a v).dram = memSetLE s.dram (s.aperPa a) 4 v := by
  simp only [State.aperWrite, State.countBytes_dram, State.modDmc_dram]

/-! ### Commands that are one access -/

theorem exec_registerWrite (t : Nat) (path : Path) (a width v : Nat) (s : State) :
    exec (.registerWrite t path a width v) s = .next ((s.at t).writeBy path a width v) := rfl

theorem exec_fsramWrite (t : Nat) (path : Path) {off : Nat} (v : Nat) (s : State) (h : off < 0x5000000) :
    exec (.fsramWrite t path off v) s = .next ((s.at t).writeBy path (0x20000000 + off) 4 v) :=
  congrArg Host.Outcome.next (if_pos h)

theorem exec_apertureAccess (t : Nat) (path : Path) {off : Nat} (write : Bool) (v : Nat) (s : State)
    (h : off < 0x80000000) :
    exec (.apertureAccess t path off write v) s = .next (if write then (s.at t).writeBy path (0x80000000 + off) 4 v
      else (s.at t).readBy path (0x80000000 + off) 4) :=
  congrArg Host.Outcome.next (if_neg (Nat.not_le.mpr h))

/-- A command that is one write of a word completes with what the place does with that word. -/
theorem completes_of_write {c : Nat → Instr} {path : Path} {a v : Nat} {Q : State → State → Prop}
    (hexec : ∀ t s, exec (c t) s = .next ((s.at t).writeBy path a 4 v)) (hv : v < 2 ^ 32)
    (hQ : ∀ u, Q u ((u.placeWrite path a v).answer (BitVec.ofNat 32 v))) :
    Completes c (fun u => u.reaches path a 4 true = true) Q := by
  intro t s hreach
  have hwrite := (s.at t).writeBy_reaches path a 4 v hreach
  rw [Nat.mod_eq_of_lt hv] at hwrite
  exact ⟨_, (hexec t s).trans (congrArg Host.Outcome.next hwrite), hQ _⟩

/-- A command that is one read completes with the word of the place and the side effects of the read. -/
theorem completes_of_read {c : Nat → Instr} {path : Path} {a : Nat} {Q : State → State → Prop}
    (hexec : ∀ t s, exec (c t) s = .next ((s.at t).readBy path a 4))
    (hQ : ∀ u, Q u ((u.placeSide path a).answer (BitVec.ofNat 32 (u.placeRead path a)))) :
    Completes c (fun u => u.reaches path a 4 false = true) Q := fun t s hreach =>
  ⟨_, (hexec t s).trans (congrArg Host.Outcome.next ((s.at t).readBy_reaches path a 4 hreach)), hQ _⟩

/-- Settles O9: each command is one access, and the lemma about its place says what the access does there. -/
theorem accessesComplete : Obligations.AccessesComplete := by
  refine ⟨?register, ?fsram, ?aperWrite, ?aperRead⟩
  case register =>
    intro path p off v hlo hhi hv
    refine completes_of_write (exec_registerWrite · path _ 4 v) hv fun u => ?_
    rw [u.placeWrite_page path p v (by omega), u.pageWrite_block path p off v hlo hhi]
  case fsram =>
    intro path off v hoff hv
    refine completes_of_write (exec_fsramWrite · path v · hoff) hv fun u => ?_
    rw [u.placeWrite_fsram path v hoff]
    exact ⟨rfl, memLE_setLE_word u.fsram off hv, memByte_setLE_outside 4 u.fsram off v⟩
  case aperWrite =>
    intro path off v hoff hv
    refine completes_of_write (exec_apertureAccess · path true v · hoff) hv fun u => ?_
    rw [u.placeWrite_dram path v hoff]
    refine ⟨rfl, ?_⟩
    rw [State.answer_dram, State.aperWrite_dram]
  case aperRead =>
    intro path off v hoff
    refine completes_of_read (exec_apertureAccess · path false v · hoff) fun u => ?_
    rw [u.placeSide_dram path hoff, u.placeRead_dram path hoff]
    exact ⟨rfl, u.aperRead_idle path _⟩

/-! ### Failing accesses (R38, R40) -/

/-- A failing access answers `BUS_ERR`. -/
theorem State.busFail_out (s : State) (path : Path) (a c : Nat) : (s.busFail path a c).out = [none] := rfl

theorem State.mems_withOut (s : State) (o : List (Option Word)) : ({ s with out := o } : State).mems = s.mems := rfl

@[simp] theorem State.mems_busErr (s : State) (path : Path) (a c : Nat) : (s.busErr path a c).mems = s.mems := by
  unfold State.busErr
  extract_lets addressed caused
  rw [State.mems_withOut, State.mems_bump, State.mems_put, State.mems_put]

/-- A failing access writes none of the on-chip memories. -/
@[simp] theorem State.mems_busFail (s : State) (path : Path) (a c : Nat) : (s.busFail path a c).mems = s.mems := by
  unfold State.busFail
  extract_lets recorded
  have hrecorded : recorded.mems = s.mems := by
    unfold recorded
    split_ifs
    · rw [State.mems_raise, State.mems_bump]
    · split
      · exact s.mems_err _ _ _ _ _
      · rfl
    · rfl
  rw [State.mems_busErr, hrecorded]

theorem State.busWrite_fails (s : State) {path : Path} {a width c : Nat} (v : Nat) (hnoc : s.domOn PD_NOC = true)
    (hc : s.busCause path a width true = some c) : s.busWrite path a width v = s.busFail path a c := by
  simp [State.busWrite, hnoc, hc]

theorem State.busRead_proceeds (s : State) {path : Path} {a width : Nat} (hnoc : s.domOn PD_NOC = true)
    (hc : s.busCause path a width false = none) :
    s.busRead path a width = (s.placeSide path a).answer (BitVec.ofNat 32 (s.placeRead path a)) := by
  simp [State.busRead, hnoc, hc]

/-! ### The front buffers (R22) -/

/-- A write of a front buffer in LIT or HOLD has a cause of `BUS_ERR`: the permission, or else the buffer. -/
theorem State.busCause_frontBuffer (s : State) (path : Path) {off : Nat} (hoff : off < 0x5000000) (ha : off % 4 = 0)
    (hfront : s.frontBuffer off = true) :
    s.busCause path (0x20000000 + off) 4 true = some (if s.secRefuses path (.fsram off) then 0x0A else 0x08) := by
  have halign : (0x20000000 + off) % 4 = 0 := by omega
  unfold State.busCause
  simp only [placeOf_fsram hoff, halign, hfront, ne_eq, not_true_eq_false, if_false, true_and, or_true, if_true,
    apply_ite some]

/-- Nothing but the quarter's power stops an aligned read of the Frame SRAM. -/
theorem State.busCause_fsramRead (s : State) (path : Path) {off : Nat} (hoff : off < 0x5000000) (ha : off % 4 = 0)
    (hquarter : s.domOn (PD_FSRAM (off / quarterSize)) = true) :
    s.busCause path (0x20000000 + off) 4 false = none := by
  have halign : (0x20000000 + off) % 4 = 0 := by omega
  unfold State.busCause
  simp only [placeOf_fsram hoff, halign, hquarter, ne_eq, not_true_eq_false, if_false, Bool.false_eq_true, false_and,
    Bool.not_true, or_self]

/-- Settles O50: the write fails with a cause of its own, a failing access writes no memory, and the read has no cause. -/
theorem frontBufferWritesAreDiscarded : Obligations.FrontBufferWritesAreDiscarded := by
  intro s path off v hoff ha hnoc hfront
  have hwrite := s.busWrite_fails v hnoc (s.busCause_frontBuffer path hoff ha hfront)
  refine ⟨?discarded, ?unchanged, ?read⟩
  case discarded => rw [hwrite, State.busFail_out]
  case unchanged =>
    intro b
    obtain ⟨-, hfsram, -⟩ := SameOnChip.of_mems (s.mems_busFail path (0x20000000 + off) _) b
    rw [hwrite, hfsram]
  case read =>
    intro hquarter
    rw [s.busRead_proceeds hnoc (s.busCause_fsramRead path hoff ha hquarter), s.placeSide_fsram path hoff,
      s.placeRead_fsram path hoff]

end Sys2Proof.Machine

/-! ## What the register tables keep (R9, R34) -/

namespace Sys2Proof.Machine

/-- A row's masks lie within a word; its lockable bits are no other kind of writable bit, and a counter has none; it lies below
the active view, and beyond the header where it is staged. -/
abbrev RegRow.Sound (r : RegRow) : Prop :=
  (r.rw ||| r.rwl ||| r.rws ||| r.w1c) < 2 ^ 32 ∧ r.rwl &&& (r.rw ||| r.rws ||| r.w1c) = 0 ∧ (r.cnt = true → r.rwl = 0) ∧
    r.off + r.stride * r.count ≤ 0x800 ∧ (r.rws ≠ 0 → 0x040 ≤ r.off)

theorem Page.rows_sound (p : Page) : ∀ r ∈ p.rows, r.Sound := by
  cases p with
  | eng n | grd n | ltn n | scn n | sxl n | comp n | dmc n | np n | mx n | eth n | can n => revert n; decide +kernel
  | _ => decide +kernel

theorem Page.stor_rows_rwl : ∀ r ∈ Page.stor.rows, r.rwl = 0 := by decide +kernel

theorem Page.mem_rows_of_row? {p : Page} {off : Nat} {r : RegRow} (h : p.row? off = some r) : r ∈ p.rows :=
  List.mem_of_find?_eq_some h

theorem RegRow.Sound.rws_lt {r : RegRow} (h : r.Sound) : r.rws < 2 ^ 32 := by
  obtain ⟨hlt, -⟩ := h
  exact ((Nat.right_le_or).trans Nat.left_le_or).trans_lt hlt

theorem RegRow.Sound.stored_lt {r : RegRow} (h : r.Sound) : (r.rw ||| r.rws) < 2 ^ 32 := by
  obtain ⟨hlt, -⟩ := h
  exact Nat.or_lt_two_pow (((Nat.left_le_or.trans Nat.left_le_or).trans Nat.left_le_or).trans_lt hlt)
    ((Nat.right_le_or.trans Nat.left_le_or).trans_lt hlt)

/-- A lockable bit is not RW, RWS or W1C. -/
theorem RegRow.Sound.apart_of_rwl {r : RegRow} (h : r.Sound) {b : Nat} (hb : r.rwl.testBit b = true) :
    (r.rw ||| r.rws).testBit b = false ∧ r.w1c.testBit b = false := by
  obtain ⟨-, hapart, -⟩ := h
  have hbit : (r.rwl &&& (r.rw ||| r.rws ||| r.w1c)).testBit b = false := by rw [hapart, Nat.zero_testBit]
  rw [Nat.testBit_and, hb, Bool.true_and, Nat.testBit_or] at hbit
  exact Bool.or_eq_false_iff.mp hbit

theorem Page.rwsMask_lt (p : Page) (off : Nat) : p.rwsMask off < 2 ^ 32 := by
  unfold Page.rwsMask
  split
  · next r h => exact (p.rows_sound r (Page.mem_rows_of_row? h)).rws_lt
  · decide

theorem heldMask_lt (p : Page) (off : Nat) : heldMask p off < 2 ^ 32 := by
  have hall : allBits < 2 ^ 32 := by decide
  unfold heldMask
  split_ifs
  · exact hall
  · decide
  · split
    · decide
    · split_ifs
      · exact hall
      · exact (Nat.sub_le _ _).trans_lt hall

/-- The registers of a page lie in its 4 KiB. -/
theorem Page.regAddrs_bounds {p : Page} {a : Nat} (h : a ∈ p.regAddrs) : p.base ≤ a ∧ a < p.base + 0x1000 := by
  obtain ⟨r, hr, ha⟩ := List.mem_flatMap.mp h
  obtain ⟨i, hi, rfl⟩ := List.mem_map.mp ha
  obtain ⟨-, -, -, hoff, -⟩ := p.rows_sound r hr
  have hstep : r.stride * i ≤ r.stride * r.count := Nat.mul_le_mul_left _ (List.mem_range.mp hi).le
  omega

/-! ### Merged words -/

theorem allBits_sub_testBit {m b : Nat} (hm : m < 2 ^ 32) (hb : b < 32) : (allBits - m).testBit b = !m.testBit b := by
  have h := Nat.testBit_two_pow_sub_succ hm b
  rw [show 2 ^ 32 - (m + 1) = allBits - m by unfold allBits; omega] at h
  rw [h, decide_eq_true hb, Bool.true_and]

/-- A merged word has the bits of the mask from its first word, the others from the second. -/
theorem mixBits_testBit {m b : Nat} (x y : Nat) (hm : m < 2 ^ 32) (hb : b < 32) :
    (mixBits m x y).testBit b = if m.testBit b then x.testBit b else y.testBit b := by
  unfold mixBits
  rw [Nat.testBit_or, Nat.testBit_and, Nat.testBit_and, allBits_sub_testBit hm hb]
  cases m.testBit b <;> simp

theorem testBit_ofNat_word (x : Nat) {b : Nat} (hb : b < 32) : (BitVec.ofNat 32 x).toNat.testBit b = x.testBit b := by
  rw [BitVec.toNat_ofNat, Nat.testBit_mod_two_pow, decide_eq_true hb, Bool.true_and]

end Sys2Proof.Machine

/-! ## The active view (R32, R41) -/

namespace Sys2Proof.Machine

/-- An aligned word access to a page proceeds when the page is declared, SEC lets it, its domain is on, and it writes no
staged field under a pending commit (R38). -/
theorem State.busCause_page_eq_none (s : State) (path : Path) (p : Page) {off : Nat} (write : Bool) (hoff : off < 0x1000)
    (ha : off % 4 = 0) : s.busCause path (p.base + off) 4 write = none ↔
      p.declared s.pkg = true ∧ ¬ (write = true ∧ s.secRefuses path (.page p off) = true) ∧
        ¬ ((p = .nvm ∧ !s.domOn PD_NVM) ∨ (p = .sec ∧ !s.domOn PD_SEC)) ∧
        ¬ (write = true ∧ off < 0x800 ∧ p.rwsMask off ≠ 0 ∧ s.commitPending p.group = true) := by
  have halign : (p.base + off) % 4 = 0 := by have := Page.base_mod p; omega
  unfold State.busCause
  simp only [placeOf_page p off hoff, halign, ne_eq, not_true_eq_false, if_false]
  cases p.declared s.pkg
  · simp
  · simp only [Bool.not_true, Bool.false_eq_true, if_false, true_and]
    split_ifs <;> simp_all

/-- The active view of a register can be read where the register can. -/
theorem State.busCause_activeView (s : State) (path : Path) (p : Page) {x : Nat} (hx : x < 0x800) (ha : x % 4 = 0)
    (h : s.busCause path (p.base + x) 4 false = none) : s.busCause path (p.base + (0x800 + x)) 4 false = none := by
  rw [s.busCause_page_eq_none path p false (by omega) (by omega)] at h ⊢
  obtain ⟨hdecl, -, hpower, -⟩ := h
  exact ⟨hdecl, by simp, hpower, by simp⟩

/-- A write to the active view proceeds where the register can be read, once SEC lets it: no commit holds it back. -/
theorem State.busCause_activeView_write (s : State) (path : Path) (p : Page) {x : Nat} (hx : x < 0x800) (ha : x % 4 = 0)
    (h : s.busCause path (p.base + x) 4 false = none) (hsec : s.secRefuses path (.page p (0x800 + x)) = false) :
    s.busCause path (p.base + (0x800 + x)) 4 true = none := by
  rw [s.busCause_page_eq_none path p false (by omega) ha] at h
  rw [s.busCause_page_eq_none path p true (by omega) (by omega)]
  obtain ⟨hdecl, -, hpower, -⟩ := h
  exact ⟨hdecl, by simp [hsec], hpower, by omega⟩

theorem State.placeRead_page (s : State) (path : Path) (p : Page) {off : Nat} (h : off < 0x1000) :
    s.placeRead path (p.base + off) = s.pageRead path p off := by
  unfold State.placeRead
  rw [placeOf_page p off h]

theorem State.pageRead_register (s : State) (path : Path) (p : Page) {x : Nat} (hx : x < 0x800) :
    s.pageRead path p x = s.regRead path p x := if_pos hx

theorem State.pageRead_activeView (s : State) (path : Path) (p : Page) (x : Nat) :
    s.pageRead path p (0x800 + x) = mixBits (p.rwsMask x) (s.inEffect p x) (s.regRead path p x) := by
  unfold State.pageRead
  rw [if_neg (by omega), Nat.add_sub_cancel_left]

theorem State.placeSide_activeView (s : State) (path : Path) (p : Page) {x : Nat} (hx : x < 0x800) :
    s.placeSide path (p.base + (0x800 + x)) = s := by
  unfold State.placeSide
  rw [placeOf_page p _ (by omega)]
  exact if_neg (by omega)

theorem State.pageWrite_activeView (s : State) (path : Path) (p : Page) (x v : Nat) :
    s.pageWrite path p (0x800 + x) v = s := if_pos (Nat.le_add_right _ _)

theorem State.busWrite_proceeds (s : State) {path : Path} {a width : Nat} (v : Nat) (hnoc : s.domOn PD_NOC = true)
    (hc : s.busCause path a width true = none) :
    s.busWrite path a width v = (s.placeWrite path a (v % 2 ^ 32)).answer (BitVec.ofNat 32 v) := by
  simp [State.busWrite, hnoc, hc]

/-- Settles O46: the view merges values in effect and the register by the register's RWS mask, and neither access moves the
machine. -/
theorem activeViewReads : Obligations.ActiveViewReads := by
  intro s path p x v hx ha hnoc _ hc
  refine ⟨⟨BitVec.ofNat 32 (mixBits (p.rwsMask x) (s.inEffect p x) (s.regRead path p x)), ?read, ?bits⟩, ?write⟩
  case read =>
    rw [s.busRead_proceeds hnoc (s.busCause_activeView path p hx ha hc), s.placeSide_activeView path p hx,
      s.placeRead_page path p (by omega), s.pageRead_activeView]
  case bits =>
    intro b hb
    rw [← BitVec.testBit_toNat, testBit_ofNat_word _ hb, mixBits_testBit _ _ (p.rwsMask_lt x) hb,
      s.placeRead_page path p (by omega), s.pageRead_register path p hx]
    simp only [bitOf_eq_testBit]
  case write =>
    intro hsec
    rw [s.busWrite_proceeds v hnoc (s.busCause_activeView_write path p hx ha hc hsec),
      s.placeWrite_page path p _ (by omega), s.pageWrite_activeView]

end Sys2Proof.Machine

/-! ## A locked page (R49, R50) -/

namespace Sys2Proof.Machine

theorem State.lockWrite_ignored (s : State) (p : Page) (v : Nat)
    (h : s.flag p LOCK_LOCKED = true ∨ bitsOf v 16 16 ≠ 0x5AFE) : s.lockWrite p v = s := by
  have hno : ¬ (bitsOf v 16 16 = 0x5AFE ∧ (!s.flag p LOCK_LOCKED) = true) := by
    rintro ⟨hkey, hfree⟩
    rcases h with h | h
    · simp [h] at hfree
    · exact h hkey
  exact if_neg hno

theorem State.lockWrite_taken (s : State) (p : Page) (v : Nat) (h : s.flag p LOCK_LOCKED = false)
    (hkey : bitsOf v 16 16 = 0x5AFE) :
    s.lockWrite p v = (s.put p LOCK_TAG (bitsOf v 1 15)).put p LOCK_LOCKED 1 := if_pos ⟨hkey, by rw [h]; rfl⟩

/-- `ERR_CNT`, the one writable register of the header beyond 0x040, is a counter (R34). -/
theorem Page.row?_errCnt (p : Page) : ∃ r, p.row? ERR_CNT.off = some r ∧ r.cnt = true := by
  refine ⟨{ off := 0x040, rw := 0xFFFFFFFF, cnt := true }, ?_, rfl⟩
  simp [Page.row?, Page.rows, headerRows, RegRow.covers, ERR_CNT]

theorem Page.eq_stor_of_recorderRegs {p : Page} {off : Nat} (hoff : off < 0x1000) (h : p.base + off ∈ recorderRegs) :
    p = .stor := by
  by_contra hp
  simp only [recorderRegs, List.mem_cons, List.not_mem_nil, or_false] at h
  rcases h with h | h | h <;> exact Page.addr_ne hp hoff (by decide) h

/-- An error record leaves a register with lockable bits as it is. -/
theorem State.reg_err_lockable (s : State) (p : Page) {off : Nat} {r : RegRow} {b : Nat} (hrow : p.row? off = some r)
    (hlow : 0x040 ≤ off) (hhigh : off < 0x800) (hb : r.rwl.testBit b = true) (path o cls d : Nat) :
    (s.err p path o cls d).reg (p.base + off) = s.reg (p.base + off) := by
  have hrwl : r.rwl ≠ 0 := by rintro h; simp [h] at hb
  have hmem := Page.mem_rows_of_row? hrow
  have hcnt : off ≠ ERR_CNT.off := by
    rintro rfl
    obtain ⟨c, hc, hcounts⟩ := p.row?_errCnt
    obtain rfl := Option.some.inj (hrow.symm.trans hc)
    obtain ⟨-, -, hnone, -⟩ := p.rows_sound r hmem
    exact hrwl (hnone hcounts)
  refine s.sameRegs_err p path o cls d _ ?_ ?_
  · simp only [errRegs, ERR_CODE, ERR_INFO, IRQ_STAT, List.mem_cons, List.not_mem_nil, or_false]
    omega
  · intro hrec
    obtain rfl := Page.eq_stor_of_recorderRegs (by omega) hrec
    exact hrwl (Page.stor_rows_rwl r hmem)

/-- The word that a write by access code leaves keeps the lockable bits while the lock holds (R50). -/
theorem lockedWord_testBit {r : RegRow} (hr : r.Sound) {b : Nat} (hb : b < 32) (hbit : r.rwl.testBit b = true)
    (v old recent : Nat) :
    (BitVec.ofNat 32 (mixBits (r.rw ||| r.rws ||| 0) v old &&& (allBits - (v &&& r.w1c &&& (allBits - recent))))).toNat.testBit b
      = old.testBit b := by
  obtain ⟨hstored, hw1c⟩ := hr.apart_of_rwl hbit
  have hlt : (v &&& r.w1c &&& (allBits - recent)) < 2 ^ 32 :=
    (Nat.and_le_right.trans (Nat.sub_le _ _)).trans_lt (by decide)
  have hkeep : (allBits - (v &&& r.w1c &&& (allBits - recent))).testBit b = true := by
    rw [allBits_sub_testBit hlt hb, Nat.testBit_and, Nat.testBit_and, hw1c, Bool.and_false, Bool.false_and, Bool.not_false]
  rw [testBit_ofNat_word _ hb, Nat.testBit_and, hkeep, Bool.and_true, Nat.or_zero, mixBits_testBit _ _ hr.stored_lt hb, hstored]
  simp

/-- A write by access code to a locked page keeps every lockable bit: no counter has one, and the write is discarded or stores
around them. -/
theorem State.plainWrite_locked (s : State) (path : Path) (p : Page) {off : Nat} (v : Nat) {r : RegRow} {b : Nat}
    (hlock : s.flag p LOCK_LOCKED = true) (hrow : p.row? off = some r) (hlow : 0x040 ≤ off) (hhigh : off < 0x800) (hb : b < 32)
    (hbit : r.rwl.testBit b = true) :
    ((s.plainWrite path p off v).reg (p.base + off)).toNat.testBit b = (s.reg (p.base + off)).toNat.testBit b := by
  have hsound := p.rows_sound r (Page.mem_rows_of_row? hrow)
  have hcnt : r.cnt = false := by
    obtain ⟨-, -, hnone, -⟩ := hsound
    by_contra h
    simp [hnone (by simpa using h)] at hbit
  have hrwl : r.rwl ≠ 0 := by rintro h; simp [h] at hbit
  simp only [State.plainWrite, hrow, hcnt, hlock, hrwl, Bool.false_eq_true, if_false, if_true, true_and, ne_eq,
    not_false_eq_true]
  split_ifs
  · rw [s.reg_err_lockable p hrow hlow hhigh hbit]
  · rw [State.reg_setReg_same, lockedWord_testBit hsound hb hbit]

/-- Settles O52: the three writes of `LOCK`, and the write by access code. -/
theorem lockedPagesStayAsTheyAre : Obligations.LockedPagesStayAsTheyAre := by
  refine ⟨fun s p v h => s.lockWrite_ignored p v h, ?taken, ?lockable⟩
  case taken =>
    intro s p v hfree hkey
    rw [s.lockWrite_taken p v hfree hkey]
    exact s.lock_taken p _ (bitsOf_lt v 1 15)
  case lockable =>
    intro s path p off v b r hlock hrow hlow hhigh hb hbit
    rw [bitOf_eq_testBit] at hbit
    simp only [bitOf_eq_testBit]
    exact s.plainWrite_locked path p v hlock hrow hlow hhigh hb hbit

end Sys2Proof.Machine

/-! ## A failing write (R38, R40, R48, R458) -/

namespace Sys2Proof.Machine

/-! ### The recorder at rest (R450) -/

theorem OnlyRecords.inForce {s u : State} (h : OnlyRecords s u) : u.inForce = s.inForce := by
  rw [OnlyRecords] at h; rw [h]

theorem State.recording_eq {s u : State} (hrun : u.mp.recRun = s.mp.recRun)
    (hdmc : u.get (.dmc 0) BLK_STATE = s.get (.dmc 0) BLK_STATE) : u.recording = s.recording := by
  unfold State.recording
  rw [hrun, hdmc]

@[simp] theorem State.recording_logEntry (s : State) (pg cls d x : Nat) :
    (s.logEntry pg cls d x).recording = s.recording := by
  refine State.recording_eq ?_ (State.get_logEntry _ _ _ _ _ _ _)
  unfold State.logEntry
  split <;> rfl

@[simp] theorem State.logEntry_dram (s : State) (pg cls d x : Nat) : (s.logEntry pg cls d x).dram = s.dram := by
  unfold State.logEntry; split <;> rfl

theorem State.recording_put (s : State) (p : Page) (f : RF) (x : Nat) (ho : f.off ≠ BLK_STATE.off) (hf : f.off < 0x1000) :
    (s.put p f x).recording = s.recording :=
  State.recording_eq rfl (State.get_put_anyoff _ _ _ _ _ _ ho hf (by decide))

theorem State.get_bump_ne (s : State) (p q : Page) (f g : RF) (h : p.base + f.off ≠ q.base + g.off) :
    (s.bump p f).get q g = s.get q g := s.get_count_ne p q f g 1 h

theorem State.recording_bump (s : State) (p : Page) (f : RF) (ho : f.off ≠ BLK_STATE.off) (hf : f.off < 0x1000) :
    (s.bump p f).recording = s.recording := by
  refine State.recording_eq ?_ (State.get_bump_ne _ _ _ _ _ (Page.addr_ne_off _ _ ho hf (by decide)))
  unfold State.bump State.count
  rw [State.put_mp, State.note_mp]

theorem State.recording_latch (s : State) (p : Page) (b : Nat) : (s.latch p b).recording = s.recording := by
  refine State.recording_eq ?_ (State.get_latch _ _ _ _ _ (by decide))
  unfold State.latch State.mark
  rw [State.put_mp, State.note_mp]

/-- While nothing is recorded, an event leaves the DRAM. -/
theorem State.raise_dram (s : State) (p : Page) (b : Nat) (h : s.recording = false) : (s.raise p b).dram = s.dram := by
  unfold State.raise
  rw [State.record_idle _ _ _ ((s.recording_latch p b).trans h), State.latch_dram]

/-- While nothing is recorded, an error record leaves the DRAM. -/
theorem State.err_dram (s : State) (p : Page) (path off cls d : Nat) (h : s.recording = false) :
    (s.err p path off cls d).dram = s.dram := by
  unfold State.err State.errInfo
  extract_lets counted logged
  have hcounted : counted.recording = false ∧ counted.dram = s.dram :=
    ⟨(s.recording_bump p ERR_CNT (by decide) (by decide)).trans h, State.bump_dram _ _ _⟩
  have hlogged : logged.recording = false ∧ logged.dram = s.dram := by
    unfold logged
    split
    · simpa using hcounted
    · exact hcounted
  obtain ⟨hidle, hdram⟩ := hlogged
  split_ifs
  · rw [State.raise_dram _ _ _ (by rw [State.recording_put _ _ _ _ (by decide) (by decide),
      State.recording_put _ _ _ _ (by decide) (by decide), hidle]), State.put_dram, State.put_dram, hdram]
  · exact hdram

/-! ### What a failing access records beside SYS -/

/-- What a failure with cause `c` is recorded as in its own block: SEC counts a write that its permissions refuse, and the page
of a pending commit holds an error record (R48, R458). -/
def State.failNotice (s : State) (path : Path) (a c : Nat) : State :=
  if c = 0x0A then (s.bump .sec SEC_BLOCK_CNT).raise .sec 3
  else if c = 0x09 then
    (match placeOf a with
    | .page p off => s.err p (pathCode path) off ST_BUSY 0x02
    | _ => s)
  else s

theorem State.busFail_eq (s : State) (path : Path) (a c : Nat) :
    s.busFail path a c = (s.failNotice path a c).busErr path a c := rfl

/-- The notice is SEC's, an error record of the page, or nothing. -/
theorem State.failNotice_cases (s : State) (path : Path) (a c : Nat) :
    (c = 0x0A ∧ s.failNotice path a c = (s.bump .sec SEC_BLOCK_CNT).raise .sec 3) ∨
    (∃ p off, c = 0x09 ∧ placeOf a = .page p off ∧
      s.failNotice path a c = s.err p (pathCode path) off ST_BUSY 0x02) ∨
    s.failNotice path a c = s := by
  unfold State.failNotice
  split_ifs with hsec hbusy
  · exact .inl ⟨hsec, rfl⟩
  · split
    · next p off hp => exact .inr (.inl ⟨p, off, hbusy, hp, rfl⟩)
    · exact .inr (.inr rfl)
  · exact .inr (.inr rfl)

theorem State.onlyRecords_failNotice (s : State) (path : Path) (a c : Nat) : OnlyRecords s (s.failNotice path a c) := by
  rcases s.failNotice_cases path a c with ⟨-, h⟩ | ⟨p, off, -, -, h⟩ | h <;> rw [h]
  · exact (State.onlyRecords_bump _ _ _).trans (State.onlyRecords_raise _ _ _)
  · exact State.onlyRecords_err _ _ _ _ _ _
  · exact .refl s

theorem State.failNotice_dram (s : State) (path : Path) (a c : Nat) (hidle : s.recording = false) :
    (s.failNotice path a c).dram = s.dram := by
  rcases s.failNotice_cases path a c with ⟨-, h⟩ | ⟨p, off, -, -, h⟩ | h <;> rw [h]
  · rw [State.raise_dram _ _ _ ((s.recording_bump _ _ (by decide) (by decide)).trans hidle), State.bump_dram]
  · exact s.err_dram p _ off _ _ hidle

theorem State.get_failNotice (s : State) (path : Path) (a c : Nat) :
    (s.failNotice path a c).get .sys SYS_BERR_CNT = s.get .sys SYS_BERR_CNT := by
  rcases s.failNotice_cases path a c with ⟨-, h⟩ | ⟨p, off, -, -, h⟩ | h <;> rw [h]
  · rw [State.get_raise _ _ _ _ _ (by decide), State.get_bump_ne _ _ _ _ _ (by decide)]
  · exact State.get_err _ _ _ _ _ _ _ _ (by decide)

theorem State.reg_failNotice (s : State) (path : Path) (a c : Nat) {b : Nat} (hrec : b ∉ recorderRegs)
    (hsec : c = 0x0A → b ≠ Page.sec.base + SEC_BLOCK_CNT.off ∧ b ≠ Page.sec.base + IRQ_STAT.off)
    (herr : c = 0x09 → ∀ p off, placeOf a = .page p off → b ∉ errRegs p) :
    (s.failNotice path a c).reg b = s.reg b := by
  rcases s.failNotice_cases path a c with ⟨hc, h⟩ | ⟨p, off, hc, hp, h⟩ | h <;> rw [h]
  · obtain ⟨hcnt, hirq⟩ := hsec hc
    rw [State.reg_raise _ _ _ (Ne.symm hirq) hrec, State.reg_bump_ne _ _ _ (Ne.symm hcnt)]
  · exact s.sameRegs_err p _ off _ _ b (herr hc p off hp) hrec

/-! ### The record in SYS -/

theorem State.withOut_inForce (s : State) (o : List (Option Word)) : ({ s with out := o } : State).inForce = s.inForce := rfl
theorem State.withOut_dram (s : State) (o : List (Option Word)) : ({ s with out := o } : State).dram = s.dram := rfl
theorem State.withOut_reg (s : State) (o : List (Option Word)) (b : Nat) : ({ s with out := o } : State).reg b = s.reg b := rfl
theorem State.withOut_get (s : State) (o : List (Option Word)) (p : Page) (f : RF) :
    ({ s with out := o } : State).get p f = s.get p f := rfl

@[simp] theorem State.busErr_inForce (s : State) (path : Path) (a c : Nat) : (s.busErr path a c).inForce = s.inForce := by
  unfold State.busErr State.bump State.count
  rw [State.withOut_inForce, State.put_inForce, State.note_inForce, State.put_inForce, State.put_inForce]

@[simp] theorem State.busErr_dram (s : State) (path : Path) (a c : Nat) : (s.busErr path a c).dram = s.dram := by
  unfold State.busErr
  rw [State.withOut_dram, State.bump_dram, State.put_dram, State.put_dram]

/-- The cells of the bus error record. -/
theorem State.busErr_record (s : State) (path : Path) {a c : Nat} (ha : a < 2 ^ 32)
    (hc : pathCode path * 2 ^ 24 + c < 2 ^ 32) :
    (s.busErr path a c).get .sys SYS_BERR_ADDR = a ∧
      (s.busErr path a c).get .sys SYS_BERR_INFO = pathCode path * 2 ^ 24 + c ∧
      (s.busErr path a c).get .sys SYS_BERR_CNT = min (s.get .sys SYS_BERR_CNT + 1) (2 ^ 32 - 1) := by
  unfold State.busErr
  extract_lets addressed caused
  refine ⟨?addr, ?info, ?count⟩
  case addr =>
    rw [State.withOut_get, State.get_bump_ne _ _ _ _ _ (by decide), State.get_put_off _ _ _ _ _ (by decide),
      State.get_put_same _ _ _ _ (by decide)]
    exact Nat.mod_eq_of_lt ha
  case info =>
    rw [State.withOut_get, State.get_bump_ne _ _ _ _ _ (by decide), State.get_put_same _ _ _ _ (by decide)]
    exact Nat.mod_eq_of_lt hc
  case count =>
    rw [State.withOut_get, State.get_bump_same _ _ _ (by decide), State.get_put_off _ _ _ _ _ (by decide),
      State.get_put_off _ _ _ _ _ (by decide)]
    rfl

theorem State.reg_busErr (s : State) (path : Path) (a c : Nat) {b : Nat} (haddr : b ≠ Page.sys.base + SYS_BERR_ADDR.off)
    (hinfo : b ≠ Page.sys.base + SYS_BERR_INFO.off) (hcnt : b ≠ Page.sys.base + SYS_BERR_CNT.off) :
    (s.busErr path a c).reg b = s.reg b := by
  unfold State.busErr
  rw [State.withOut_reg, State.reg_bump_ne _ _ _ (Ne.symm hcnt), State.reg_put_ne _ _ _ _ _ (Ne.symm hinfo),
    State.reg_put_ne _ _ _ _ _ (Ne.symm haddr)]

/-- The causes are numbered 1 to 10 (R38). -/
theorem State.busCause_bounds (s : State) {path : Path} {a width c : Nat} {write : Bool}
    (hc : s.busCause path a width write = some c) : 1 ≤ c ∧ c ≤ 10 := by
  unfold State.busCause at hc
  cases hp : placeOf a with
  | rom | tcm | fsram off | dram | page p off | nowhere =>
    simp only [hp] at hc
    split_ifs at hc <;> cases hc <;> decide

theorem pathCode_le (path : Path) : pathCode path ≤ 2 := by cases path <;> decide

/-- Settles O49: a failing write is its notice and then the record in SYS. -/
theorem failingAccessesAreRecorded : Obligations.FailingAccessesAreRecorded := by
  intro s path a width v c hnoc ha hc
  obtain ⟨hlow, hhigh⟩ := s.busCause_bounds hc
  have hinfo : pathCode path * 2 ^ 24 + c < 2 ^ 32 := by have := pathCode_le path; omega
  obtain ⟨haddr, hcause, hcount⟩ := (s.failNotice path a c).busErr_record path ha hinfo
  rw [s.get_failNotice] at hcount
  rw [s.busWrite_fails v hnoc hc]
  refine ⟨rfl, haddr, hcause, hcount, hlow, hhigh, .of_mems (s.mems_busFail path a c), ?dram, ?inForce, ?regs⟩
  case dram =>
    intro hidle b
    rw [s.busFail_eq, State.busErr_dram, s.failNotice_dram path a c hidle]
  case inForce =>
    rw [s.busFail_eq, State.busErr_inForce]
    exact (s.onlyRecords_failNotice path a c).inForce
  case regs =>
    intro b hbaddr hbinfo hbcnt hrec hsec herr
    rw [s.busFail_eq, State.reg_busErr _ _ _ _ hbaddr hbinfo hbcnt, s.reg_failNotice path a c hrec hsec herr]

end Sys2Proof.Machine

/-! ## A frozen page (R37) -/

namespace Sys2Proof.Machine

/-! ### Reads of a frozen page -/

theorem State.regRead_live (s : State) (path : Path) (p : Page) (off : Nat) (h : s.frozen p = false) :
    s.regRead path p off = s.regLive path p off := by
  simp [State.regRead, h]

/-- A frozen page shows its held bits from the held value, the others live. -/
theorem State.regRead_frozen_testBit (s : State) (path : Path) (p : Page) (off : Nat) {b : Nat} (h : s.frozen p = true)
    (hb : b < 32) : (s.regRead path p off).testBit b =
      if (heldMask p off).testBit b then
        ((cellGet s.held (heldKey path p off)).getD (resetAt (heldKey path p off))).toNat.testBit b
      else (s.regLive path p off).testBit b := by
  simp only [State.regRead, h, if_true]
  exact mixBits_testBit _ _ (heldMask_lt p off) hb

theorem State.frozen_setReg (s : State) {a : Nat} (v : Word) {p : Page} (h : a ≠ p.base + BLK_CTRL.off) :
    (s.setReg a v).frozen p = s.frozen p := by
  unfold State.frozen State.flag State.get
  rw [State.reg_setReg_ne _ _ (by exact h)]

/-! ### What is held (R37, R273, R350) -/

section Puts

variable {ι α : Type} [DecidableEq α] (d : Nat → α) (key : ι → Nat) (val : ι → α)

/-- The list after a put for every item. -/
def cellPuts (l : List (Nat × α)) (xs : List ι) : List (Nat × α) :=
  xs.foldl (fun l y => cellPut (d (key y)) l (key y) (val y)) l

/-- Puts that give a key the value it has leave it. -/
theorem cellGet_puts_kept {k : Nat} {v : α} (xs : List ι) (hval : ∀ y ∈ xs, key y = k → val y = v) (l : List (Nat × α))
    (hl : (cellGet l k).getD (d k) = v) : (cellGet (cellPuts d key val l xs) k).getD (d k) = v := by
  induction xs generalizing l with
  | nil => exact hl
  | cons y ys ih =>
    refine ih (fun z hz => hval z (List.mem_cons_of_mem _ hz)) _ ?_
    by_cases hk : key y = k
    · subst hk
      exact (cellGet_put_same _ _ _ _).trans (hval y List.mem_cons_self rfl)
    · exact (congrArg (·.getD (d k)) (cellGet_put_ne _ _ _ hk)).trans hl

/-- A key reads as the value put there, when every put at it puts one value. -/
theorem cellGet_puts {x : ι} (xs : List ι) (hx : x ∈ xs) (hval : ∀ y ∈ xs, key y = key x → val y = val x)
    (l : List (Nat × α)) : (cellGet (cellPuts d key val l xs) (key x)).getD (d (key x)) = val x := by
  induction xs generalizing l with
  | nil => cases hx
  | cons y ys ih =>
    have hrest : ∀ z ∈ ys, key z = key x → val z = val x := fun z hz => hval z (List.mem_cons_of_mem _ hz)
    rcases List.mem_cons.mp hx with rfl | hx
    · exact cellGet_puts_kept d key val ys hrest _ (cellGet_put_same _ _ _ _)
    · exact ih hx hrest _

end Puts

/-- What FREEZE holds of a page: the addresses of its registers with held bits, each for the paths that have a copy. -/
def Page.heldCells (p : Page) : List (Nat × Path) :=
  (p.regAddrs.filter fun a => heldMask p (a - p.base) != 0).flatMap fun a => (heldPaths p (a - p.base)).map fun path => (a, path)

/-- Where a held cell is kept, and what is kept there. -/
def heldPlace (p : Page) (c : Nat × Path) : Nat := heldKey c.2 p (c.1 - p.base)
def State.heldShot (s : State) (p : Page) (c : Nat × Path) : Word := BitVec.ofNat 32 (s.regLive c.2 p (c.1 - p.base))

/-- The held values after FREEZE rises (R37). -/
def State.heldAtRise (s : State) (p : Page) : List (Nat × Word) :=
  cellPuts resetAt (heldPlace p) (s.heldShot p) s.held p.heldCells

theorem State.freezeWrite_rise_held (s : State) (p : Page) (h : s.frozen p = false) :
    (s.freezeWrite p true).held = s.heldAtRise p := by
  have hrises : ¬ s.frozen p = true := by simp [h]
  unfold State.freezeWrite State.heldAtRise cellPuts Page.heldCells State.setFlag
  rw [if_neg hrises, if_pos rfl, State.put_held, List.foldl_flatMap]
  simp only [List.foldl_map]
  rfl

/-- The path whose copy a read shows. -/
def copyPath (path : Path) (p : Page) (off : Nat) : Path := if perPath p off then path else .mp

theorem heldKey_copyPath (path : Path) (p : Page) (off : Nat) : heldKey (copyPath path p off) p off = heldKey path p off := by
  cases h : perPath p off <;> simp [heldKey, copyPath, h]

/-- Only registers with a copy per path show paths different values. -/
theorem State.hookRead_path (s : State) (path path' : Path) (p : Page) (off : Nat) (h : perPath p off = false) :
    s.hookRead path p off = s.hookRead path' p off := by
  cases p with
  | mbx =>
    simp only [perPath, Bool.or_eq_false_iff, beq_eq_false_iff_ne, decide_eq_false_iff_not] at h
    obtain ⟨⟨hpush, hrsp⟩, hwin⟩ := h
    have hcmd : ¬ (0x100 ≤ off ∧ off < 0x13C) := by omega
    have hresp : ¬ (0x140 ≤ off ∧ off < 0x180) := by omega
    simp only [State.hookRead, State.mbxShow, hpush, hrsp, hcmd, hresp, if_false]
  | time =>
    simp only [perPath, Bool.or_eq_false_iff, beq_eq_false_iff_ne] at h
    obtain ⟨hsec, hhi⟩ := h
    simp only [State.hookRead, State.timeShow, hsec, hhi, if_false]
  | _ => rfl

theorem State.regLive_copyPath (s : State) (path : Path) (p : Page) (off : Nat) :
    s.regLive (copyPath path p off) p off = s.regLive path p off := by
  unfold copyPath
  split_ifs with h
  · rfl
  · unfold State.regLive
    rw [s.hookRead_path .mp path p off (by simpa using h)]

theorem copyPath_mem_heldPaths {path : Path} (p : Page) (off : Nat) (h : path ≠ .ext) :
    copyPath path p off ∈ heldPaths p off := by
  unfold copyPath heldPaths
  cases perPath p off
  · exact List.mem_singleton.mpr rfl
  · cases path <;> simp at h ⊢

theorem Page.mem_heldCells {p : Page} {a : Nat} {path : Path} :
    (a, path) ∈ p.heldCells ↔ a ∈ p.regAddrs ∧ heldMask p (a - p.base) ≠ 0 ∧ path ∈ heldPaths p (a - p.base) := by
  simp only [Page.heldCells, List.mem_flatMap, List.mem_filter, List.mem_map, Prod.mk.injEq, bne_iff_ne, ne_eq]
  constructor
  · rintro ⟨_, ⟨ha, hm⟩, _, hpath, rfl, rfl⟩
    exact ⟨ha, hm, hpath⟩
  · rintro ⟨ha, hm, hpath⟩
    exact ⟨a, ⟨ha, hm⟩, path, hpath, rfl, rfl⟩

theorem Page.base_lt (p : Page) : p.base < 0x50000000 := by
  cases p <;> simp only [Page.base] <;> omega

/-- The extension shares the MP's code, the other paths have one of their own. -/
theorem pathCode_inj {path path' : Path} (h : path ≠ .ext) (h' : path' ≠ .ext) (hcode : pathCode path = pathCode path') :
    path = path' := by
  cases path <;> cases path' <;> simp_all [pathCode]

/-- The place of a held value tells its register and the copy. -/
theorem heldKey_inj {p : Page} {off off' : Nat} {path path' : Path} (ho : off < 0x1000) (ho' : off' < 0x1000)
    (hp : path ∈ heldPaths p off) (hp' : path' ∈ heldPaths p off') (h : heldKey path p off = heldKey path' p off') :
    off = off' ∧ path = path' := by
  have hbase := p.base_lt
  have hoff : off = off' := by
    unfold heldKey at h
    split_ifs at h <;> omega
  subst hoff
  refine ⟨rfl, ?_⟩
  unfold heldPaths at hp hp'
  unfold heldKey at h
  split_ifs at h hp hp' with hper
  · have hcode : pathCode path = pathCode path' := by omega
    exact pathCode_inj (by rintro rfl; simp at hp) (by rintro rfl; simp at hp') hcode
  · rw [List.mem_singleton.mp hp, List.mem_singleton.mp hp']

/-- What FREEZE holds of a register for a path is what the path read as it rose. -/
theorem State.heldAtRise_eq (s : State) {path : Path} {p : Page} {off : Nat} (hpath : path ≠ .ext)
    (hmem : p.base + off ∈ p.regAddrs) (hmask : heldMask p off ≠ 0) :
    (cellGet (s.heldAtRise p) (heldKey path p off)).getD (resetAt (heldKey path p off)) =
      BitVec.ofNat 32 (s.regLive path p off) := by
  have hoff : p.base + off - p.base = off := Nat.add_sub_cancel_left _ _
  have hcell : (p.base + off, copyPath path p off) ∈ p.heldCells :=
    Page.mem_heldCells.mpr (by rw [hoff]; exact ⟨hmem, hmask, copyPath_mem_heldPaths p off hpath⟩)
  have h := cellGet_puts resetAt (heldPlace p) (s.heldShot p) p.heldCells hcell ?one s.held
  case one =>
    rintro ⟨a, path'⟩ ha hkey
    obtain ⟨hreg, -, hcopy⟩ := Page.mem_heldCells.mp ha
    have hlow := Page.regAddrs_bounds hreg
    have hhigh := Page.regAddrs_bounds hmem
    obtain ⟨hsame, rfl⟩ := heldKey_inj (by omega) (by omega) hcopy (Page.mem_heldCells.mp hcell).2.2 hkey
    simp only [State.heldShot] at hsame ⊢
    rw [hsame]
  simp only [heldPlace, State.heldShot, hoff, heldKey_copyPath, s.regLive_copyPath] at h
  exact h

/-- Settles O51: held bits are read from the held value, which is the value read at the rise and which no register write
moves. -/
theorem frozenPagesHoldTheirValues : Obligations.FrozenPagesHoldTheirValues := by
  refine ⟨?rise, ?held, ?live, ?masks⟩
  case rise =>
    intro s path p off hpath _ hfree hmem b hb hbit
    rw [bitOf_eq_testBit] at hbit
    have hmask : heldMask p off ≠ 0 := by rintro h; simp [h] at hbit
    rw [bitOf_eq_testBit, bitOf_eq_testBit, State.regRead_frozen_testBit _ _ _ _ (s.frozen_freezeWrite p true) hb, if_pos hbit,
      s.freezeWrite_rise_held p hfree, s.heldAtRise_eq hpath hmem hmask, testBit_ofNat_word _ hb,
      s.regRead_live path p off hfree]
  case held =>
    intro s path p off a b v _ hfrozen hb ha hbit
    rw [bitOf_eq_testBit] at hbit
    have hstill : (s.setReg a v).frozen p = true := (s.frozen_setReg v ha).trans hfrozen
    rw [bitOf_eq_testBit, bitOf_eq_testBit, State.regRead_frozen_testBit _ _ _ _ hstill hb,
      State.regRead_frozen_testBit _ _ _ _ hfrozen hb, if_pos hbit, if_pos hbit, State.setReg_held]
  case live =>
    intro s path p off b _ hfrozen hb hbit
    rw [bitOf_eq_testBit] at hbit
    rw [bitOf_eq_testBit, bitOf_eq_testBit, State.regRead_frozen_testBit _ _ _ _ hfrozen hb, if_neg (by simp [hbit])]
  case masks =>
    intro p
    exact ⟨rfl, rfl, rfl, rfl, rfl, rfl⟩

end Sys2Proof.Machine

/-! ## What events and completions leave as it is (R34, R341, R450) -/

namespace Sys2Proof.Machine

/-- The offsets of the registers that events, the recorder and posted responses write, whatever the page. -/
def eventOffs : List Nat := [IRQ_STAT.off, REC_WR.off, REC_DROP_CNT.off, MBX_REJECT_CNT.off, (MP_DL_MISS 4).off]

/-- An event bit of `IRQ_STAT`. -/
abbrev irqBit (b : Nat) : RF := ⟨IRQ_STAT.off, b, 1⟩

/-- From `s` to `u` only events happened: values in force are kept, registers off those offsets too, and what was latched in
`IRQ_STAT` stays latched. -/
structure OnlyEvents (s u : State) : Prop where
  inForce : u.inForce = s.inForce
  pkg : u.pkg = s.pkg
  get : ∀ (q : Page) (g : RF), g.off < 0x1000 → g.off ∉ eventOffs → u.get q g = s.get q g
  latched : ∀ (q : Page) (b : Nat), b < 32 → s.get q (irqBit b) = 1 → u.get q (irqBit b) = 1

theorem OnlyEvents.refl (s : State) : OnlyEvents s s := ⟨rfl, rfl, fun _ _ _ _ => rfl, fun _ _ _ h => h⟩

theorem OnlyEvents.trans {s u v : State} (h : OnlyEvents s u) (k : OnlyEvents u v) : OnlyEvents s v where
  inForce := k.inForce.trans h.inForce
  pkg := k.pkg.trans h.pkg
  get q g hlt hoff := (k.get q g hlt hoff).trans (h.get q g hlt hoff)
  latched q b hb hs := k.latched q b hb (h.latched q b hb hs)

theorem State.get_of_regs {s u : State} (h : u.regs = s.regs) (q : Page) (g : RF) : u.get q g = s.get q g := by
  unfold State.get State.reg
  rw [h]

/-- A change behind the registers. -/
theorem OnlyEvents.of_regs {s u : State} (hr : u.regs = s.regs) (hi : u.inForce = s.inForce) (hp : u.pkg = s.pkg) :
    OnlyEvents s u where
  inForce := hi
  pkg := hp
  get q g _ _ := State.get_of_regs hr q g
  latched q _ _ h := (State.get_of_regs hr q _).trans h

theorem OnlyEvents.ite {c : Prop} [Decidable c] {s u v : State} (hu : c → OnlyEvents s u) (hv : ¬ c → OnlyEvents s v) :
    OnlyEvents s (if c then u else v) := by
  split_ifs with h
  · exact hu h
  · exact hv h

theorem OnlyEvents.foldl {ι : Type} {f : State → ι → State} (h : ∀ s x, OnlyEvents s (f s x)) (l : List ι) (s : State) :
    OnlyEvents s (l.foldl f s) := by
  induction l generalizing s with
  | nil => exact .refl s
  | cons x l ih => exact (h s x).trans (ih (f s x))

/-! ### Events -/

theorem State.onlyEvents_note (s : State) (p : Page) (f : RF) (x : Nat) : OnlyEvents s (s.note p f x) := .of_regs rfl rfl rfl

theorem State.onlyEvents_put (s : State) (p : Page) (f : RF) (x : Nat) (ho : f.off ∈ eventOffs) (hi : f.off ≠ IRQ_STAT.off)
    (hf : f.off < 0x1000) : OnlyEvents s (s.put p f x) where
  inForce := rfl
  pkg := rfl
  get q g hlt hoff := State.get_put_anyoff _ _ _ _ _ _ (fun e => hoff (e ▸ ho)) hf hlt
  latched q b _ h := (State.get_put_anyoff s p q f (irqBit b) x hi hf (show IRQ_STAT.off < 0x1000 by decide)).trans h

theorem State.onlyEvents_bump (s : State) (p : Page) (f : RF) (ho : f.off ∈ eventOffs) (hi : f.off ≠ IRQ_STAT.off)
    (hf : f.off < 0x1000) : OnlyEvents s (s.bump p f) :=
  (State.onlyEvents_note _ _ _ _).trans (State.onlyEvents_put _ _ _ _ ho hi hf)

theorem State.get_put_irqBit (s : State) (p : Page) {b : Nat} (hb : b < 32) : (s.put p (irqBit b) 1).get p (irqBit b) = 1 :=
  State.get_put_same s p (irqBit b) 1 (show b + 1 ≤ 32 by omega)

theorem State.onlyEvents_putIrq (s : State) (p : Page) {b : Nat} (hb : b < 32) : OnlyEvents s (s.put p (irqBit b) 1) where
  inForce := rfl
  pkg := rfl
  get q g hlt hoff := State.get_put_anyoff s p q (irqBit b) g 1 (fun e => hoff (e ▸ List.mem_cons_self))
    (show IRQ_STAT.off < 0x1000 by decide) hlt
  latched q c hc h := by
    have hirq : IRQ_STAT.off < 0x1000 := by decide
    by_cases hq : p = q
    · subst hq
      by_cases hbc : b = c
      · exact hbc ▸ s.get_put_irqBit p hb
      · have hapart : (irqBit b).Apart (irqBit c) := by show c + 1 ≤ b ∨ b + 1 ≤ c; omega
        exact (State.get_put_apart s p (irqBit b) (irqBit c) 1 rfl (show c + 1 ≤ 32 by omega) hapart).trans h
    · exact (State.get_put_page s p q (irqBit b) (irqBit c) 1 hq hirq hirq).trans h

theorem State.onlyEvents_pulses (s : State) (l : List (Nat × Nat)) : OnlyEvents s { s with pulses := l } := .of_regs rfl rfl rfl
theorem State.onlyEvents_ring (s : State) (m : List (Nat × Byte)) (mp : Mp) : OnlyEvents s { s with dram := m, mp := mp } :=
  .of_regs rfl rfl rfl

theorem State.onlyEvents_latch (s : State) (p : Page) {b : Nat} (hb : b < 32) : OnlyEvents s (s.latch p b) :=
  (s.onlyEvents_pulses _).trans ((State.onlyEvents_note _ p (irqBit b) 1).trans (State.onlyEvents_putIrq _ p hb))

theorem State.get_latch_irqBit (s : State) (p : Page) {b : Nat} (hb : b < 32) : (s.latch p b).get p (irqBit b) = 1 :=
  State.get_put_irqBit _ p hb

theorem State.onlyEvents_record (s : State) (ty : Nat) (l : List Nat) : OnlyEvents s (s.record ty l) := by
  by_cases hr : s.recording = true
  · simp only [State.record, hr, if_true]
    split_ifs
    · exact (s.onlyEvents_bump .stor REC_DROP_CNT (by decide) (by decide) (by decide)).trans
        (State.onlyEvents_latch _ _ (by decide))
    · exact (s.onlyEvents_ring _ _).trans (State.onlyEvents_put _ .stor REC_WR _ (by decide) (by decide) (by decide))
  · simp only [State.record, hr]
    exact .refl s

theorem State.onlyEvents_raise (s : State) (p : Page) {b : Nat} (hb : b < 32) : OnlyEvents s (s.raise p b) :=
  (State.onlyEvents_latch _ _ hb).trans (State.onlyEvents_record _ _ _)

/-- A raised event is latched. -/
theorem State.get_raise_irqBit (s : State) (p : Page) {b : Nat} (hb : b < 32) : (s.raise p b).get p (irqBit b) = 1 :=
  (State.onlyEvents_record _ _ _).latched p b hb (s.get_latch_irqBit p hb)

theorem State.onlyEvents_logEntry (s : State) (pg cls d x : Nat) : OnlyEvents s (s.logEntry pg cls d x) := by
  unfold State.logEntry
  exact .ite (fun _ => .of_regs rfl rfl rfl) fun _ => .refl s

/-! ### Responses and completions (R339–R341) -/

theorem State.onlyEvents_mbx (s : State) (m : Mbx) : OnlyEvents s { s with mbx := m } := .of_regs rfl rfl rfl

theorem State.onlyEvents_modSlot (s : State) (i : Fin 32) (f : MbxSlot → MbxSlot) : OnlyEvents s (s.modSlot i f) :=
  .of_regs rfl rfl rfl

theorem State.onlyEvents_mapReplies (s : State) (n : Fin 4) (f : List IcpReply → List IcpReply) :
    OnlyEvents s (s.mapReplies n f) := .of_regs rfl rfl rfl

theorem State.onlyEvents_icpReplyFor (s : State) (owed : Option MbxRec) (port op status detail ref key : Nat)
    (payload : List Byte) : OnlyEvents s (s.icpReplyFor owed port op status detail ref key payload) := by
  unfold State.icpReplyFor
  split
  · cases finOf 16 key
    · exact .of_regs rfl rfl rfl
    · exact .of_regs rfl rfl rfl
  · exact .refl s

theorem State.onlyEvents_icpPost (s : State) (i : Fin 32) (status detail : Nat) (owed : Option MbxRec) (payload : List Byte) :
    OnlyEvents s (s.icpPost i status detail owed payload) := by
  unfold State.icpPost
  extract_lets c
  split
  · exact .refl s
  · exact .ite (fun _ => State.onlyEvents_mapReplies _ _ _)
      fun _ => (State.onlyEvents_icpReplyFor _ _ _ _ _ _ _ _ _).trans (State.onlyEvents_mapReplies _ _ _)

theorem State.onlyEvents_mbxPost (s : State) (i : Fin 32) (status detail state : Nat) (result : List Nat) :
    OnlyEvents s (s.mbxPost i status detail state result) := by
  unfold State.mbxPost
  extract_lets c final w0 w1 words counted rejected missed box posted icp shown
  have hrejected : OnlyEvents s rejected := by
    unfold rejected
    exact .ite (fun _ => (s.onlyEvents_bump .mbx MBX_REJECT_CNT (by decide) (by decide) (by decide)).trans
      (State.onlyEvents_logEntry _ _ _ _ _)) fun _ => .refl s
  have hmissed : OnlyEvents rejected missed := by
    unfold missed
    exact .ite (fun _ => rejected.onlyEvents_bump .mbx (MP_DL_MISS 4) (by decide) (by decide) (by decide)) fun _ => .refl _
  have hshown : OnlyEvents s shown := (hrejected.trans hmissed).trans
    ((missed.onlyEvents_mbx _).trans (State.onlyEvents_modSlot _ _ _))
  refine hshown.trans (.ite (fun _ => State.onlyEvents_icpPost _ _ _ _ _ _) fun _ => ?_)
  exact .ite (fun _ => State.onlyEvents_raise _ _ (by decide)) fun _ => State.onlyEvents_raise _ _ (by decide)

theorem State.onlyEvents_mbxFinish (s : State) (i : Fin 32) (status detail word2 : Nat) :
    OnlyEvents s (s.mbxFinish i status detail word2) :=
  .ite (fun _ => State.onlyEvents_mbxPost _ _ _ _ _ _) fun _ => State.onlyEvents_modSlot _ _ _

theorem State.onlyEvents_mbxFinishAll (s : State) (p : MbxWait → Bool) (status detail word2 : Nat) :
    OnlyEvents s (s.mbxFinishAll p status detail word2) :=
  .foldl (fun _ _ => .ite (fun _ => State.onlyEvents_mbxFinish _ _ _ _ _) fun _ => .refl _) _ s

theorem State.onlyEvents_mbxCommit (s : State) (base : Nat) (late reject : Bool) (blame : Nat) :
    OnlyEvents s (s.mbxCommit base late reject blame) :=
  .ite (fun _ => State.onlyEvents_mbxFinishAll _ _ _ _ _) fun _ => State.onlyEvents_mbxFinishAll _ _ _ _ _

end Sys2Proof.Machine

/-! ## GO (R41–R46) -/

namespace Sys2Proof.Machine

/-! ### Staged fields take effect (R41) -/

theorem Page.mem_stagedRegs {p : Page} {e : Nat × Nat} (h : e ∈ p.stagedRegs) :
    e.2 < 2 ^ 32 ∧ ∃ off, e.1 = p.base + off ∧ 0x040 ≤ off ∧ off < 0x1000 := by
  obtain ⟨r, hr, he⟩ := List.mem_flatMap.mp h
  have hsound := p.rows_sound r hr
  have ⟨_, _, _, hend, hstart⟩ := hsound
  split_ifs at he with hrws
  · cases he
  · obtain ⟨i, hi, rfl⟩ := List.mem_map.mp he
    have hstep : r.stride * i ≤ r.stride * r.count := Nat.mul_le_mul_left _ (List.mem_range.mp hi).le
    exact ⟨hsound.rws_lt, r.off + r.stride * i, by simp only [Nat.add_assoc], (hstart hrws).trans (Nat.le_add_right _ _),
      by omega⟩

/-- One release gives the staged bits of its register their written values, and leaves the others in force. -/
theorem State.infReg_release_testBit (s : State) (e : Nat × Nat) (he : e.2 < 2 ^ 32) (a : Nat) {b : Nat} (hb : b < 32) :
    ((s.release e).infReg a).toNat.testBit b =
      if e.1 = a ∧ e.2.testBit b = true then (s.reg a).toNat.testBit b else (s.infReg a).toNat.testBit b := by
  unfold State.release
  by_cases ha : e.1 = a
  · subst ha
    rw [State.infReg_setInfReg_same, testBit_ofNat_word _ hb, mixBits_testBit _ _ he hb]
    simp
  · rw [State.infReg_setInfReg_ne _ _ ha]
    simp [ha]

/-- Releases change values in force alone. -/
theorem State.foldl_release_frame (l : List (Nat × Nat)) (s : State) :
    ∃ m, l.foldl State.release s = { s with inForce := m } := by
  induction l generalizing s with
  | nil => exact ⟨s.inForce, rfl⟩
  | cons e l ih =>
    obtain ⟨m, hm⟩ := ih (s.release e)
    exact ⟨m, hm⟩

/-- Once in effect, a written bit stays in effect through further releases. -/
theorem State.foldl_release_kept (l : List (Nat × Nat)) (hl : ∀ e ∈ l, e.2 < 2 ^ 32) (a : Nat) {b : Nat} (hb : b < 32)
    (s : State) (h : (s.infReg a).toNat.testBit b = (s.reg a).toNat.testBit b) :
    ((l.foldl State.release s).infReg a).toNat.testBit b = (s.reg a).toNat.testBit b := by
  induction l generalizing s with
  | nil => exact h
  | cons e l ih =>
    refine ih (fun d hd => hl d (List.mem_cons_of_mem _ hd)) (s.release e) ?_
    rw [s.infReg_release_testBit e (hl e List.mem_cons_self) a hb, h, ite_self]
    rfl

/-- Every staged bit that is released is in effect as written. -/
theorem State.foldl_release_inEffect (l : List (Nat × Nat)) (hl : ∀ e ∈ l, e.2 < 2 ^ 32) {e : Nat × Nat} (he : e ∈ l) {b : Nat}
    (hb : b < 32) (hbit : e.2.testBit b = true) (s : State) :
    ((l.foldl State.release s).infReg e.1).toNat.testBit b = (s.reg e.1).toNat.testBit b := by
  induction l generalizing s with
  | nil => cases he
  | cons d l ih =>
    have hrest : ∀ d ∈ l, d.2 < 2 ^ 32 := fun d hd => hl d (List.mem_cons_of_mem _ hd)
    rcases List.mem_cons.mp he with rfl | he
    · refine State.foldl_release_kept l hrest e.1 hb (s.release e) ?_
      rw [s.infReg_release_testBit e (hl e List.mem_cons_self) e.1 hb, if_pos ⟨rfl, hbit⟩]
      rfl
    · exact ih hrest he (s.release d)

/-- All staged registers of some pages. -/
def stagedOf (ps : List Page) : List (Nat × Nat) := ps.flatMap Page.stagedRegs

theorem State.releasePages_all (s : State) (ps : List Page) :
    s.releasePages ps (fun _ => true) = (stagedOf ps).foldl State.release s := by
  unfold State.releasePages stagedOf
  simp only [List.filter_true, List.foldl_flatMap]

theorem stagedOf_lt {ps : List Page} : ∀ e ∈ stagedOf ps, e.2 < 2 ^ 32 := by
  intro e he
  obtain ⟨p, -, hp⟩ := List.mem_flatMap.mp he
  exact (Page.mem_stagedRegs hp).1

theorem State.releasePages_pkg (s : State) (ps : List Page) : (s.releasePages ps fun _ => true).pkg = s.pkg := by
  obtain ⟨m, hm⟩ := s.foldl_release_frame (stagedOf ps)
  rw [s.releasePages_all, hm]

theorem State.releasePages_get (s : State) (ps : List Page) (q : Page) (f : RF) :
    (s.releasePages ps fun _ => true).get q f = s.get q f := by
  obtain ⟨m, hm⟩ := s.foldl_release_frame (stagedOf ps)
  rw [s.releasePages_all, hm]
  rfl

/-- Released pages have every staged bit in effect as written (R41, R44). -/
theorem State.releasePages_inEffect (s : State) (ps : List Page) {p : Page} (hp : p ∈ ps) {e : Nat × Nat}
    (he : e ∈ p.stagedRegs) {b : Nat} (hb : b < 32) (hbit : e.2.testBit b = true) :
    ((s.releasePages ps fun _ => true).infReg e.1).toNat.testBit b = (s.reg e.1).toNat.testBit b := by
  rw [s.releasePages_all]
  exact State.foldl_release_inEffect _ stagedOf_lt (List.mem_flatMap.mpr ⟨p, hp, he⟩) hb hbit s

/-! ### The end of a commit (R42, R45, R46) -/

/-- `COMMIT` as a commit leaves it: PENDING clear, and LATE and REJECT set where they apply. -/
def State.commitStatus (s : State) (g : Group) (late reject : Bool) : State :=
  let s := (s.dropCommitRec g).put g.home COMMIT_PENDING 0
  let s := if late then s.mark g.home COMMIT_LATE else s
  if reject then s.mark g.home COMMIT_REJECT else s

/-- The events of a commit's end on one page. -/
def State.commitEvents (late reject : Bool) (s : State) (p : Page) : State :=
  let s := s.raise p 30
  let s := if late then s.raise p 29 else s
  if reject then s.raise p 28 else s

theorem State.commitClose_eq (s : State) (g : Group) (late reject : Bool) (blame : Page) :
    s.commitClose g late reject blame =
      ((((s.commitStatus g late reject).groupPages g).foldl (State.commitEvents late reject)
        (s.commitStatus g late reject)).mbxCommit g.home.base late reject blame.base) := rfl

theorem State.onlyEvents_commitEvents (late reject : Bool) (s : State) (p : Page) :
    OnlyEvents (s.raise p 30) (s.commitEvents late reject p) := by
  unfold State.commitEvents
  extract_lets done dated
  have hdated : OnlyEvents done dated := by
    unfold dated
    exact .ite (fun _ => State.onlyEvents_raise _ _ (by decide)) fun _ => .refl _
  exact hdated.trans (.ite (fun _ => State.onlyEvents_raise _ _ (by decide)) fun _ => .refl _)

/-- After `COMMIT` has its new value, the end of a commit is events. -/
theorem State.onlyEvents_commitClose (s : State) (g : Group) (late reject : Bool) (blame : Page) :
    OnlyEvents (s.commitStatus g late reject) (s.commitClose g late reject blame) := by
  rw [s.commitClose_eq]
  refine (OnlyEvents.foldl (fun u p => ?_) _ _).trans (State.onlyEvents_mbxCommit _ _ _ _ _)
  exact (u.onlyEvents_raise p (by decide)).trans (State.onlyEvents_commitEvents _ _ _ _)

/-- A walk over pages that latches an event on each leaves it latched on all. -/
theorem OnlyEvents.foldl_latches {f : State → Page → State} {b : Nat} (hb : b < 32) (hf : ∀ s p, OnlyEvents s (f s p))
    (hl : ∀ s p, (f s p).get p (irqBit b) = 1) {l : List Page} {p : Page} (hp : p ∈ l) (s : State) :
    (l.foldl f s).get p (irqBit b) = 1 := by
  induction l generalizing s with
  | nil => cases hp
  | cons q l ih =>
    rcases List.mem_cons.mp hp with rfl | hp
    · exact (OnlyEvents.foldl hf l (f s p)).latched p b hb (hl s p)
    · exact ih hp (f s q)

/-- COMMIT_DONE is latched on every page of the group (R42). -/
theorem State.commitClose_done (s : State) (g : Group) (late reject : Bool) (blame : Page) {p : Page}
    (hp : p ∈ (s.commitStatus g late reject).groupPages g) :
    (s.commitClose g late reject blame).get p (irqBit 30) = 1 := by
  rw [s.commitClose_eq]
  refine (State.onlyEvents_mbxCommit _ _ _ _ _).latched p 30 (by decide) ?_
  refine OnlyEvents.foldl_latches (by decide) (fun u q => ?_) (fun u q => ?_) hp _
  · exact (u.onlyEvents_raise q (by decide)).trans (State.onlyEvents_commitEvents _ _ _ _)
  · exact (State.onlyEvents_commitEvents _ _ _ _).latched q 30 (by decide) (u.get_raise_irqBit q (by decide))

/-! ### `COMMIT` at the end -/

theorem State.get_mark_ne (s : State) (p : Page) (f g : RF) (ho : f.off = g.off) (hg : g.Fits) (h : f.Apart g) :
    (s.mark p f).get p g = s.get p g :=
  (State.get_put_apart _ p f g 1 ho hg h).trans (State.note_get _ _ _ _ _ _)

theorem State.commitStatus_pending (s : State) (g : Group) (late reject : Bool) :
    (s.commitStatus g late reject).get g.home COMMIT_PENDING = 0 := by
  unfold State.commitStatus
  extract_lets cleared dated
  have hcleared : cleared.get g.home COMMIT_PENDING = 0 := State.get_put_same _ _ _ _ (by decide)
  have hdated : dated.get g.home COMMIT_PENDING = 0 := by
    unfold dated
    split_ifs
    · exact (State.get_mark_ne _ _ COMMIT_LATE COMMIT_PENDING rfl (by decide) (by decide)).trans hcleared
    · exact hcleared
  split_ifs
  · exact (State.get_mark_ne _ _ COMMIT_REJECT COMMIT_PENDING rfl (by decide) (by decide)).trans hdated
  · exact hdated

theorem State.commitStatus_reject (s : State) (g : Group) (late : Bool) :
    (s.commitStatus g late true).get g.home COMMIT_REJECT = 1 :=
  State.get_put_same _ g.home COMMIT_REJECT 1 (by decide)

theorem State.mark_frame (s : State) (p : Page) (f : RF) : (s.mark p f).inForce = s.inForce ∧ (s.mark p f).pkg = s.pkg := by
  unfold State.mark
  rw [State.put_inForce, State.note_inForce, State.put_pkg, State.note_pkg]
  exact ⟨rfl, rfl⟩

theorem State.commitStatus_frame (s : State) (g : Group) (late reject : Bool) :
    (s.commitStatus g late reject).inForce = s.inForce ∧ (s.commitStatus g late reject).pkg = s.pkg := by
  unfold State.commitStatus
  extract_lets cleared dated
  obtain ⟨hinForce, hpkg⟩ : dated.inForce = s.inForce ∧ dated.pkg = s.pkg := by
    unfold dated
    split_ifs
    · exact cleared.mark_frame g.home COMMIT_LATE
    · exact ⟨rfl, rfl⟩
  split_ifs
  · obtain ⟨hmarkInForce, hmarkPkg⟩ := dated.mark_frame g.home COMMIT_REJECT
    exact ⟨hmarkInForce.trans hinForce, hmarkPkg.trans hpkg⟩
  · exact ⟨hinForce, hpkg⟩

theorem State.commitStatus_inForce (s : State) (g : Group) (late reject : Bool) :
    (s.commitStatus g late reject).inForce = s.inForce := (s.commitStatus_frame g late reject).1

theorem State.commitStatus_pkg (s : State) (g : Group) (late reject : Bool) : (s.commitStatus g late reject).pkg = s.pkg :=
  (s.commitStatus_frame g late reject).2

/-- In time and accepted, a commit's end only clears PENDING. -/
theorem State.commitStatus_accepted (s : State) (g : Group) :
    s.commitStatus g false false = (s.dropCommitRec g).put g.home COMMIT_PENDING 0 := rfl

theorem State.commitClose_pending (s : State) (g : Group) (late reject : Bool) (blame : Page) :
    (s.commitClose g late reject blame).commitPending g = false := by
  have h := (s.onlyEvents_commitClose g late reject blame).get g.home COMMIT_PENDING (by decide) (by decide)
  rw [s.commitStatus_pending] at h
  unfold State.commitPending State.flag
  rw [h]
  rfl

/-! ### A commit that takes effect at once (R43) -/

/-- What an accepted GO that is not late leaves when the commit applies at once. -/
structure CommittedAtOnce (s : State) (g : Group) (u : State) : Prop where
  pending : u.commitPending g = false
  late : u.get g.home COMMIT_LATE = s.get g.home COMMIT_LATE
  done : ∀ p ∈ s.groupPages g, u.get p (irqBit 30) = 1
  inEffect : ∀ p ∈ s.groupPages g, ∀ e ∈ p.stagedRegs, ∀ b, b < 32 → e.2.testBit b = true →
    (u.infReg e.1).toNat.testBit b = (s.reg e.1).toNat.testBit b
  get : ∀ (q : Page) (f : RF), f.off < 0x1000 → f.off ∉ eventOffs → f.off ≠ COMMIT.off → u.get q f = s.get q f

/-- Changes behind the registers leave that as it is. -/
theorem CommittedAtOnce.of_regs {s u v : State} {g : Group} (h : CommittedAtOnce s g u) (hr : v.regs = u.regs)
    (hi : v.inForce = u.inForce) : CommittedAtOnce s g v where
  pending := by unfold State.commitPending State.flag; rw [State.get_of_regs hr]; exact h.pending
  late := (State.get_of_regs hr _ _).trans h.late
  done p hp := (State.get_of_regs hr _ _).trans (h.done p hp)
  inEffect p hp e he b hb hbit := by unfold State.infReg; rw [hi]; exact h.inEffect p hp e he b hb hbit
  get q f hlt hoff hc := (State.get_of_regs hr _ _).trans (h.get q f hlt hoff hc)

theorem State.get_commitOpen (s : State) (g : Group) (r : CommitRec) (q : Page) (f : RF) (hlt : f.off < 0x1000)
    (hc : f.off ≠ COMMIT.off) : (s.commitOpen g r).get q f = s.get q f :=
  State.get_put_anyoff _ _ _ COMMIT_PENDING _ _ (Ne.symm hc) (by decide) hlt

theorem State.commitOpen_late (s : State) (g : Group) (r : CommitRec) :
    (s.commitOpen g r).get g.home COMMIT_LATE = s.get g.home COMMIT_LATE :=
  State.get_put_apart _ g.home COMMIT_PENDING COMMIT_LATE 1 rfl (by decide) (by decide)

/-- A commit without a failed check releases the staged fields of the group's pages, and ends (R44). -/
theorem State.commitWhole_accepted (s : State) (g : Group) (late : Bool) :
    (s.commitWhole g late []).1 = (s.releasePages (s.groupPages g) fun _ => true).commitClose g late false := by
  simp only [State.commitWhole, worstFail]

/-- The end of a commit whose staged fields are in effect, and which moved nothing else since its GO in `s`. -/
theorem State.commitClose_committed (s u : State) (g : Group) (hpkg : u.pkg = s.pkg)
    (hlate : u.get g.home COMMIT_LATE = s.get g.home COMMIT_LATE)
    (hget : ∀ (q : Page) (f : RF), f.off < 0x1000 → f.off ≠ COMMIT.off → u.get q f = s.get q f)
    (heffect : ∀ p ∈ s.groupPages g, ∀ e ∈ p.stagedRegs, ∀ b, b < 32 → e.2.testBit b = true →
      (u.infReg e.1).toNat.testBit b = (s.reg e.1).toNat.testBit b) :
    CommittedAtOnce s g (u.commitClose g false false) := by
  have hevents := u.onlyEvents_commitClose g false false g.home
  refine ⟨u.commitClose_pending g false false g.home, ?late, ?done, ?inEffect, ?get⟩
  case late =>
    rw [hevents.get _ _ (by decide) (by decide), u.commitStatus_accepted]
    exact (State.get_put_apart _ g.home COMMIT_PENDING COMMIT_LATE 0 rfl (by decide) (by decide)).trans hlate
  case done =>
    intro p hp
    refine u.commitClose_done g false false g.home ?_
    unfold State.groupPages
    rw [u.commitStatus_pkg, hpkg]
    exact hp
  case inEffect =>
    intro p hp e he b hb hbit
    unfold State.infReg
    rw [hevents.inForce, u.commitStatus_inForce]
    exact heffect p hp e he b hb hbit
  case get =>
    intro q f hlt hoff hc
    rw [hevents.get q f hlt hoff, u.commitStatus_accepted]
    exact (State.get_put_anyoff _ _ _ COMMIT_PENDING _ _ (Ne.symm hc) (by decide) hlt).trans (hget q f hlt hc)

/-- GO writes `COMMIT`, and no staged register. -/
theorem State.reg_commitOpen_staged (s : State) (g : Group) (r : CommitRec) {p : Page} {e : Nat × Nat}
    (he : e ∈ p.stagedRegs) : (s.commitOpen g r).reg e.1 = s.reg e.1 := by
  obtain ⟨-, off, haddr, hlow, hhigh⟩ := Page.mem_stagedRegs he
  have hoff : COMMIT_PENDING.off ≠ off := by simp only [COMMIT_PENDING]; omega
  exact State.reg_put_ne _ _ _ _ _ (haddr ▸ Page.addr_ne_off g.home p hoff (by decide) hhigh)

/-- A commit without a failed check, right after its GO, has all this effect. -/
theorem State.committedAtOnce (s : State) (g : Group) (r : CommitRec) :
    CommittedAtOnce s g ((s.commitOpen g r).commitWhole g false []).1 := by
  rw [(s.commitOpen g r).commitWhole_accepted g false]
  refine s.commitClose_committed _ g ?pkg ?late ?get ?effect
  case pkg => rw [State.releasePages_pkg]; rfl
  case late => rw [State.releasePages_get, s.commitOpen_late]
  case get => intro q f hlt hc; rw [State.releasePages_get, s.get_commitOpen g r q f hlt hc]
  case effect =>
    intro p hp e he b hb hbit
    rw [State.releasePages_inEffect _ _ (show p ∈ (s.commitOpen g r).groupPages g from hp) he hb hbit,
      s.reg_commitOpen_staged g r he]

/-! ### Mirror engines without frames (R43) -/

theorem State.commitRec_setCommitRec (s : State) (g : Group) (r : CommitRec) : (s.setCommitRec g r).commitRec g = r := by
  have hnone : (s.commits.filter (·.1 != g.home.base)).find? (·.1 == g.home.base) = none :=
    List.find?_eq_none.mpr fun e he => by simpa using (List.mem_filter.mp he).2
  simp only [State.commitRec, State.setCommitRec, List.find?_append, hnone]
  simp

theorem State.commitRec_commitOpen (s : State) (g : Group) (r : CommitRec) : (s.commitOpen g r).commitRec g = r :=
  s.commitRec_setCommitRec g r

/-- A commit of an engine's group that is not late and whose checks all pass is the group's commit, but for what the planner
and the link keep of it. -/
theorem State.engCommit_passes (s : State) (n : Fin 4) (hlate : (s.commitRec (.eng n)).late = false)
    (hok : s.engFails n false = []) :
    (s.engCommit n false).1.regs = (s.commitWhole (.eng n) false []).1.regs ∧
      (s.engCommit n false).1.inForce = (s.commitWhole (.eng n) false []).1.inForce := by
  simp only [State.engCommit, hlate, hok, Bool.false_eq_true, if_false, if_true]
  generalize s.commitWhole (.eng n) false [] = w
  split_ifs <;> exact ⟨rfl, rfl⟩

/-- While the link is down, GO of an engine without frames is the commit and nothing else. -/
theorem State.engGo_linkDown (s : State) (n : Fin 4) (hframes : s.engFrames n = false)
    (hdown : (((s.commitOpen (.eng n) {}).engCommit n false).1).linkUp n = false) :
    s.engGo n = ((s.commitOpen (.eng n) {}).engCommit n false).1 := by
  simp [State.engGo, State.ceilingLost, hframes, hdown]

theorem State.engGo_committedAtOnce (s : State) (n : Fin 4) (hframes : s.engFrames n = false) (hlink : s.linkUp n = false)
    (hok : (s.commitOpen (.eng n) {}).engFails n false = []) : CommittedAtOnce s (.eng n) (s.engGo n) := by
  have hlate : ((s.commitOpen (.eng n) {}).commitRec (.eng n)).late = false := by rw [s.commitRec_commitOpen]
  obtain ⟨hregs, hinForce⟩ := (s.commitOpen (.eng n) {}).engCommit_passes n hlate hok
  have hcommit := (s.committedAtOnce (.eng n) {}).of_regs hregs hinForce
  have hdown : (((s.commitOpen (.eng n) {}).engCommit n false).1).linkUp n = false := by
    unfold State.linkUp State.flag
    rw [hcommit.get (.sxl n) SXL_STATUS_LINK_UP (by decide) (by decide) (by decide)]
    exact hlink
  rw [s.engGo_linkDown n hframes hdown]
  exact hcommit

/-! ### A rejected commit (R46) -/

/-- A commit with a failed check applies nothing, and its end sets REJECT. -/
theorem State.commitWhole_rejected (s : State) (g : Group) (late : Bool) {fails : List CommitFail} {f : CommitFail}
    (h : worstFail fails = some f) :
    s.commitWhole g late fails = ((s.errHw f.2.2 f.1 f.2.1).commitClose g late true f.2.2, false) := by
  simp only [State.commitWhole, h, State.commitReject]

theorem State.commitClose_rejected (s : State) (g : Group) (late : Bool) (blame : Page) :
    (s.commitClose g late true blame).inForce = s.inForce ∧
      (s.commitClose g late true blame).flag g.home COMMIT_REJECT = true := by
  have hevents := s.onlyEvents_commitClose g late true blame
  refine ⟨hevents.inForce.trans (s.commitStatus_inForce g late true), ?_⟩
  unfold State.flag
  rw [hevents.get _ _ (by decide) (by decide), s.commitStatus_reject]
  rfl

theorem State.mem_groupPages_alone (s : State) {p : Page} (h : p.declared s.pkg = true) : p ∈ s.groupPages (.alone p) :=
  List.mem_filter.mpr ⟨List.mem_singleton.mpr rfl, h⟩

/-- Settles O53: GO is nothing while PENDING, a commit at once for a page alone and for an engine without frames and link, and a
rejected commit keeps the values in force. -/
theorem goReleasesStagedFields : Obligations.GoReleasesStagedFields := by
  refine ⟨?pending, ?alone, ?engine, ?rejected⟩
  case pending =>
    intro s g h
    exact if_pos h
  case alone =>
    intro s p _ hdecl hfree
    have hgo : s.commitGo (.alone p) = ((s.commitOpen (.alone p) {}).commitWhole (.alone p) false []).1 :=
      if_neg (by simp [hfree])
    have hcommit := s.committedAtOnce (.alone p) {}
    rw [hgo]
    exact ⟨hcommit.pending, hcommit.late, hcommit.done p (s.mem_groupPages_alone hdecl)⟩
  case engine =>
    intro s n hframes hlink hfree hok
    have hgo : s.commitGo (.eng n) = s.engGo n := if_neg (by simp [hfree])
    have hcommit := s.engGo_committedAtOnce n hframes hlink hok
    rw [hgo]
    refine ⟨hcommit.pending, hcommit.late, fun p hp => ⟨hcommit.done p hp, fun e he b hb hbit => ?_⟩⟩
    rw [bitOf_eq_testBit] at hbit
    rw [bitOf_eq_testBit, bitOf_eq_testBit]
    exact hcommit.inEffect p hp e he b hb hbit
  case rejected =>
    intro s g late fails f hf
    rw [s.commitWhole_rejected g late hf]
    dsimp only
    obtain ⟨hkept, hreject⟩ := (s.errHw f.2.2 f.1 f.2.1).commitClose_rejected g late f.2.2
    have hrecord : (s.errHw f.2.2 f.1 f.2.1).inForce = s.inForce := (State.onlyRecords_err _ _ _ _ _ _).inForce
    exact ⟨rfl, hkept.trans hrecord, State.commitClose_pending (s.errHw f.2.2 f.1 f.2.1) g late true f.2.2, hreject⟩

end Sys2Proof.Machine

/-! ## The compositor's commands (R77, R84, R85, R93) -/

namespace Sys2Proof.Machine

/-! ### The fields that events and register writes keep -/

theorem OnlyRecords.now {s u : State} (h : OnlyRecords s u) : u.now = s.now := by
  rw [OnlyRecords] at h; rw [h]

/-- A write by access code takes no time. -/
theorem State.plainWrite_now (s : State) (path : Path) (p : Page) (off v : Nat) : (s.plainWrite path p off v).now = s.now := by
  have herr : ∀ cls d, (s.err p (pathCode path) off cls d).now = s.now := fun _ _ => (State.onlyRecords_err _ _ _ _ _ _).now
  unfold State.plainWrite
  split
  · rfl
  · extract_lets a kept locked mask old new noted
    have hnoted : noted.now = s.now := by
      unfold noted
      split_ifs
      · exact herr _ _
      · rfl
    split_ifs
    · rfl
    · exact herr _ _
    · exact hnoted

/-- What every step of a fold keeps of a register field, the fold keeps. -/
theorem State.get_foldl {ι : Type} {f : State → ι → State} {q : Page} {g : RF} (h : ∀ s i, (f s i).get q g = s.get q g)
    (l : List ι) (s : State) : (l.foldl f s).get q g = s.get q g := by
  induction l generalizing s with
  | nil => rfl
  | cons i l ih => exact (ih (f s i)).trans (h s i)

/-! ### The state that the compositor's pages show (R89) -/

@[simp] theorem State.compTo_cmp (s : State) (st : Nat) : (s.compTo st).cmp = s.cmp := by
  unfold State.compTo
  induction List.finRange 8 generalizing s with
  | nil => rfl
  | cons i l ih => exact ih _

/-- Pages 1–7 take the state after page 0, whose own register they leave. -/
theorem State.compState_compTo (s : State) {st : Nat} (h : st < 2 ^ 8) : (s.compTo st).compState = st := by
  have hother : ∀ (u : State) (i : Fin 7), (u.put (.comp i.succ) BLK_STATE st).get (.comp 0) BLK_STATE =
      u.get (.comp 0) BLK_STATE := fun u i =>
    u.get_put_page (.comp i.succ) (.comp 0) BLK_STATE BLK_STATE st (by simp [Fin.succ_ne_zero]) (by decide) (by decide)
  unfold State.compState State.compTo
  rw [List.finRange_succ, List.foldl_cons, List.foldl_map, State.get_foldl hother,
    State.get_put_same _ _ _ _ (by decide)]
  exact Nat.mod_eq_of_lt h

theorem State.get_compTo (s : State) (st : Nat) (q : Page) {g : RF} (hg : g.off < 0x1000) (h : g.off ≠ BLK_STATE.off) :
    (s.compTo st).get q g = s.get q g :=
  State.get_foldl (fun u i => u.get_put_anyoff (.comp i) q BLK_STATE g st (Ne.symm h) (by decide) hg) _ s

/-! ### The trigger (R85) -/

theorem State.compState_compSetup (s : State) : s.compSetup.compState = COMP_SETUP :=
  (s.modCmp fun c => { c with setupAt := s.now }).compState_compTo (by decide)

theorem State.compSetup_setupAt (s : State) : s.compSetup.cmp.setupAt = s.now := by
  rw [State.compSetup, State.compTo_cmp, State.modCmp_cmp]

theorem exec_setupStart_triggered (t : Nat) (s : State) (h : (s.at t).compCan = true ∧
    ((s.at t).inf (.comp 0) COMP_CFG_TRIG_MODE = 0 ∨
      ((s.at t).inf (.comp 0) COMP_CFG_TRIG_MODE ≠ 3 ∧ (s.at t).maskNewer = true))) :
    exec (.setupStart t) s = .next (s.at t).compSetup :=
  congrArg Host.Outcome.next (if_pos h)

theorem exec_compTrigTimeout_due (t : Nat) (s : State) (h : (s.at t).compCan = true ∧
    (s.at t).inf (.comp 0) COMP_CFG_TRIG_MODE = 2 ∧
    (s.at t).compLastStart + usU (bitsOf ((s.at t).inf (.comp 0) COMP_TRIG_TIMEOUT) 0 16) ≤ (s.at t).now) :
    exec (.compTrigTimeout t) s = .next (s.at t).compSetup :=
  congrArg Host.Outcome.next (if_pos h)

theorem exec_compositionStart_setup (t : Nat) (s : State) (h : (s.at t).compState = COMP_SETUP) :
    exec (.compositionStart t) s = .next (s.at t).compStart :=
  congrArg Host.Outcome.next (if_pos h)

/-! ### The next image (R84) -/

theorem finOf_val {k : Nat} (n : Fin k) : finOf k n.val = some n := dif_pos n.isLt

theorem exec_engBackBufferReady_done (t : Nat) (s : State) {c : CompRun} {n : Fin 4} {geom pred pix : Nat}
    {rest : List (Nat × Nat × Nat × Nat)} (hrun : (s.at t).cmp.run = some c)
    (hengs : c.engs = (n.val, geom, pred, pix) :: rest) (hdue : c.start + compDur c.low pix ≤ (s.at t).now) :
    exec (.engBackBufferReady t) s = .next (((s.at t).compEngine { c with engs := rest } n geom pred).1.modCmp fun m =>
      { m with run := some ((s.at t).compEngine { c with engs := rest } n geom pred).2 }) := by
  refine congrArg Host.Outcome.next ?_
  simp only [hrun, hengs, finOf_val, if_neg (Nat.not_lt.mpr hdue)]

/-! ### The end of a composition (R62, R63, R73, R84, R93) -/

/-- What pixels of the composition met, if any did, is counted and raised (R62, R63). -/
def State.compMet (s : State) (met : Bool) (cnt : RF) (b : Nat) : State :=
  if met then (s.bump (.comp 0) cnt).raise (.comp 0) b else s

/-- A composition with nothing left, before its run ends: counted, its events raised, its slot released. -/
def State.compCounted (s : State) (c : CompRun) : State :=
  (((((s.put (.comp 0) COMP_LAST_DUR (toNs (s.now - c.start))).bump (.comp 0) COMP_CNT).compMet c.sat COMP_SAT_CNT
    COMP_EV_SATURATE).compMet c.conflict COMP_L3_CONFLICT_CNT COMP_EV_L3_CONFLICT).compRelease c).raise (.comp 0) COMP_EV_DONE

theorem exec_compositionEnd_last (t : Nat) (s : State) {c : CompRun} (hrun : (s.at t).cmp.run = some c)
    (hengs : c.engs = []) (hscns : c.scns = []) :
    exec (.compositionEnd t) s =
      .next ((((s.at t).compCounted c).modCmp fun m => { m with run := none }).compTo COMP_WAIT) := by
  refine congrArg Host.Outcome.next ?_
  simp only [hrun, hengs, hscns, List.isEmpty_nil, Bool.and_self, Bool.not_true, Bool.false_eq_true, if_false]
  rfl

theorem State.get_compMet (s : State) (met : Bool) {cnt : RF} (b : Nat) {q : Page} {g : RF} (hq : QuietReg q g)
    (hcnt : cnt.off < 0x1000) (h : cnt.off ≠ g.off) : (s.compMet met cnt b).get q g = s.get q g := by
  unfold State.compMet
  split_ifs
  · rw [State.get_raise _ _ _ _ _ hq, State.get_bump_ne _ _ _ _ _ (Page.addr_ne_off _ _ h hcnt hq.2.1)]
  · rfl

/-- The slot registers stand on page 7 (R94). -/
theorem State.get_imsShow (s : State) {q : Page} {g : RF} (hq : Page.comp 7 ≠ q) (hg : g.off < 0x1000) :
    s.imsShow.get q g = s.get q g := by
  refine State.get_foldl (fun u i => ?_) _ s
  have hstat : (MASK_SLOT_STAT i.val).off < 0x1000 := by simp only [MASK_SLOT_STAT]; omega
  have hcap : (MASK_SLOT_CAP i.val).off < 0x1000 := by simp only [MASK_SLOT_CAP]; omega
  rw [State.get_put_page _ _ _ _ _ _ hq hcap hg, State.get_put_page _ _ _ _ _ _ hq hstat hg]

theorem State.get_compRelease (s : State) (c : CompRun) {q : Page} {g : RF} (hq : Page.comp 7 ≠ q) (hg : g.off < 0x1000) :
    (s.compRelease c).get q g = s.get q g := by
  unfold State.compRelease
  split
  · dsimp only
    split_ifs
    · exact State.get_imsShow _ hq hg
    · rfl
  · rfl

/-- Of what ends a composition only the counting itself moves `COMP_CNT` (R93). -/
theorem State.compCounted_cnt (s : State) (c : CompRun) :
    (s.compCounted c).get (.comp 0) COMP_CNT = min (s.get (.comp 0) COMP_CNT + 1) (2 ^ 32 - 1) := by
  have hq : QuietReg (.comp 0) COMP_CNT := by decide
  unfold State.compCounted
  rw [State.get_raise _ _ _ _ _ hq, State.get_compRelease _ _ (by decide) (by decide),
    State.get_compMet _ _ _ hq (by decide) (by decide), State.get_compMet _ _ _ hq (by decide) (by decide),
    State.get_bump_same _ _ _ (by decide), State.get_put_off _ _ _ _ _ (by decide)]
  rfl

/-! ### Motion data (R77) -/

theorem exec_motionPublish (t : Nat) (path : Path) (v : Nat) (s : State) :
    exec (.motionPublish t path v) s = .next ((s.at t).writeBy path (Page.base (.comp 0) + MOT_STAMP_NS.off) 4 v) := rfl

/-- A write of the stamp completes the set of four (R77). -/
theorem State.compWrite_motStampNs (s : State) (path : Path) (v : Nat) :
    s.compWrite path 0 MOT_STAMP_NS.off v = (s.plainWrite path (.comp 0) MOT_STAMP_NS.off v).motionPublish :=
  if_pos ⟨rfl, rfl⟩

theorem State.pageWrite_motStampNs (s : State) (path : Path) (v : Nat) :
    s.pageWrite path (.comp 0) MOT_STAMP_NS.off v = (s.plainWrite path (.comp 0) MOT_STAMP_NS.off v).motionPublish :=
  (s.pageWrite_block path (.comp 0) MOT_STAMP_NS.off v (by decide) (by decide)).trans (s.compWrite_motStampNs path v)

theorem State.motionPublish_motAt (s : State) : s.motionPublish.cmp.motAt = s.now := rfl

/-! ### The statement -/

/-- Settles O11: each command is its step under the condition named, and `COMP_CNT` keeps its count to the end of the
composition. -/
theorem compositorCommandsComplete : Obligations.CompositorCommandsComplete := by
  refine ⟨?setupStart, ?trigTimeout, ?start, ?engine, ?compEnd, ?motion⟩
  case setupStart =>
    intro t s h
    exact ⟨_, exec_setupStart_triggered t s h, rfl, State.compState_compSetup _, State.compSetup_setupAt _⟩
  case trigTimeout =>
    intro t s h
    exact ⟨_, exec_compTrigTimeout_due t s h, rfl, State.compState_compSetup _⟩
  case start =>
    intro t s h
    exact ⟨_, exec_compositionStart_setup t s h, rfl⟩
  case engine =>
    rintro c n geom pred pix rest t s ⟨hrun, hengs, hdue⟩
    exact ⟨_, exec_engBackBufferReady_done t s hrun hengs hdue, rfl⟩
  case compEnd =>
    rintro c t s ⟨hrun, hengs, hscns⟩
    refine ⟨_, exec_compositionEnd_last t s hrun hengs hscns, ?_, State.compState_compTo _ (by decide), ?_⟩
    · rw [State.compTo_cmp, State.modCmp_cmp]
    · rw [State.get_compTo _ _ _ (by decide) (by decide), State.modCmp_get]
      exact (s.at t).compCounted_cnt c
  case motion =>
    intro path v hv
    refine completes_of_write (exec_motionPublish · path v) hv fun u => ?_
    rw [u.placeWrite_page path (.comp 0) v (by decide), u.pageWrite_motStampNs path v]
    exact ⟨rfl, (State.motionPublish_motAt _).trans (u.plainWrite_now path _ _ v)⟩

end Sys2Proof.Machine

/-! ## The frame commands of the mirror engines (R98, R102, R103, R111, R112, R114, R118) -/

namespace Sys2Proof.Machine

/-! ### What a frame command does when its frame is due -/

theorem exec_frameStart_lit (t : Nat) (n : Fin 4) (s : State) (hlit : (s.at t).engState n = E_LIT)
    (hgo : (s.at t).eng[n].stop = false) (hnew : ((s.at t).engPlan n).2 = true)
    (hdue : (s.at t).onTick ((s.at t).engPlan n).1 = true) :
    exec (.frameStart t n) s = .next ((s.at t).litStart n true) :=
  congrArg Host.Outcome.next ((if_pos ⟨hlit, (Bool.not_eq_true' _).mpr hgo⟩).trans (if_pos ⟨hnew, hdue⟩))

theorem exec_frameStart_first (t : Nat) (n : Fin 4) {due : Nat} (s : State) (hready : (s.at t).engState n = E_READY)
    (hplan : (s.at t).firstPlan n = some due) (hdue : (s.at t).onTick due = true) :
    exec (.frameStart t n) s = .next ((if ((s.at t).joinable n).isSome then [n] else (s.at t).firstSet n).foldl
      (fun s m => s.engFrame m .first true false) (s.at t)) := by
  have hlit : ¬ ((s.at t).engState n = E_LIT ∧ (!(s.at t).eng[n].stop) = true) := by
    rintro ⟨hlit, -⟩
    exact absurd (hready.symm.trans hlit) (by decide)
  refine congrArg Host.Outcome.next ((if_neg hlit).trans ((if_pos hready).trans ?_))
  rw [hplan]
  exact if_pos hdue

theorem exec_repeatFrame_due (t : Nat) (n : Fin 4) (s : State) (hlit : (s.at t).engState n = E_LIT)
    (hgo : (s.at t).eng[n].stop = false) (hnew : ((s.at t).engPlan n).2 = false)
    (hdue : (s.at t).onTick ((s.at t).engPlan n).1 = true) :
    exec (.repeatFrame t n) s = .next ((s.at t).litStart n false) :=
  congrArg Host.Outcome.next (if_pos ⟨hlit, (Bool.not_eq_true' _).mpr hgo, (Bool.not_eq_true' _).mpr hnew, hdue⟩)

theorem exec_holdH2Start_due (t : Nat) (n : Fin 4) (s : State) (hhold : (s.at t).engState n = E_HOLD)
    (hgo : (s.at t).eng[n].stop = false) (hh1 : (s.at t).flag (.eng n) ENG_STATUS_HOLD_PHASE = false)
    (hdue : (s.at t).onTick (tickUp ((s.at t).eng[n].sk + (s.at t).eng[n].holdPnom)) = true) :
    exec (.holdH2Start t n) s = .next ((s.at t).engFrame n .h2 ((s.at t).holdImage n) false) :=
  congrArg Host.Outcome.next (if_pos ⟨hhold, (Bool.not_eq_true' _).mpr hgo, (Bool.not_eq_true' _).mpr hh1, hdue⟩)

theorem exec_holdEnd_due (t : Nat) (n : Fin 4) (s : State) (hhold : (s.at t).engState n = E_HOLD)
    (hgo : (s.at t).eng[n].stop = false) (hh2 : (s.at t).flag (.eng n) ENG_STATUS_HOLD_PHASE = true)
    (hdue : (s.at t).onTick ((s.at t).holdEndPlan n) = true) :
    exec (.holdEnd t n) s = .next ((s.at t).engFrame n .first ((s.at t).holdImage n) false) :=
  congrArg Host.Outcome.next (if_pos ⟨hhold, (Bool.not_eq_true' _).mpr hgo, hh2, hdue⟩)

/-! ### What ends a frame, and what follows it -/

theorem exec_engStopDone_ended (t : Nat) (n : Fin 4) (s : State) (h : (s.at t).eng[n].stop = true ∧
    (s.at t).engFrames n = true ∧ (s.at t).eng[n].sk + (s.at t).eng[n].lk ≤ (s.at t).now) :
    exec (.engStopDone t n) s = .next (((s.at t).ltnLoop (ltnOfEng n) ((s.at t).levelUsed n)).engOff n) :=
  congrArg Host.Outcome.next (if_pos h)

theorem exec_retrainRetry_due (t : Nat) (n : Fin 4) {a : Nat} (s : State) (hretry : (s.at t).eng[n].retryAt = some a)
    (h : (s.at t).engState n = E_SAFE ∧ (s.at t).get (.eng n) ENG_STATE_INFO_CAUSE = CAUSE_LINK_DEAD ∧
      a ≤ (s.at t).now) :
    exec (.retrainRetry t n) s = .next ((s.at t).engRetrain n) := by
  refine congrArg Host.Outcome.next ?_
  dsimp only
  rw [hretry]
  exact if_pos h

theorem exec_blankingStart_ended (t : Nat) (n : Fin 4) (s : State) (hframes : (s.at t).engFrames n = true)
    (hlight : (s.at t).flag (.eng n) ENG_STATUS_BLANKING = false)
    (hend : (s.at t).eng[n].sk + (s.at t).eng[n].lk ≤ (s.at t).now) :
    exec (.blankingStart t n) s = .next (((s.at t).ltnDark (ltnOfEng n)).put (.eng n) ENG_STATUS_BLANKING 1) :=
  congrArg Host.Outcome.next (if_pos ⟨hframes, (Bool.not_eq_true' _).mpr hlight, hend⟩)

/-! ### Underruns in a row (R111) -/

theorem engOfLtn_engine (n : Fin 4) (h : n.val < 6) : engOfLtn ⟨n.val, h⟩ = some n := finOf_val n

theorem engOfLtn_scanner (k : Fin 2) (h : k.val + 4 < 6) : engOfLtn ⟨k.val + 4, h⟩ = none := by
  unfold engOfLtn finOf
  exact dif_neg (Nat.not_lt.mpr (Nat.le_add_left 4 k.val))

theorem scnOfLtn_scanner (k : Fin 2) (h : k.val + 4 < 6) : scnOfLtn ⟨k.val + 4, h⟩ = some k := finOf_val k

theorem exec_underrunPersist_engine (t : Nat) (n : Fin 4) (hu : n.val < 6) (s : State)
    (h : (s.at t).engFrames n = true ∧ (s.at t).inf (.eng n) ENG_CFG_UNDERRUN_LIMIT ≠ 0 ∧
      (s.at t).inf (.eng n) ENG_CFG_UNDERRUN_LIMIT ≤ (s.at t).eng[n].urRun + (if (s.at t).eng[n].ur then 1 else 0)) :
    exec (.underrunPersist t ⟨n.val, hu⟩) s =
      .next (((s.at t).raise (.eng n) ENG_EV_UNDERRUN_PERSIST).engTo n E_SAFE CAUSE_UNDERRUN) := by
  refine congrArg Host.Outcome.next ?_
  rw [engOfLtn_engine]
  exact if_pos h

theorem exec_underrunPersist_scanner (t : Nat) (k : Fin 2) (hu : k.val + 4 < 6) (s : State)
    (h : (s.at t).scnFrames k = true ∧ (s.at t).inf (.scn k) SCN_CFG_UNDERRUN_LIMIT ≠ 0 ∧
      (s.at t).inf (.scn k) SCN_CFG_UNDERRUN_LIMIT ≤ (s.at t).scn[k].urRun + (if (s.at t).scn[k].ur then 1 else 0)) :
    exec (.underrunPersist t ⟨k.val + 4, hu⟩) s =
      .next ((((s.at t).ltnDark ⟨k.val + 4, hu⟩).raise (.scn k) ENG_EV_UNDERRUN_PERSIST).scnTo k E_SAFE
        SCN_UNDERRUN_PERSIST) := by
  refine congrArg Host.Outcome.next ?_
  rw [engOfLtn_scanner, scnOfLtn_scanner]
  exact if_pos h

/-! ### The pulse of FSYNCn (R112) -/

/-- The pulse of this frame as it begins. -/
def State.fsyncBegin (s : State) (n : Fin 4) : State :=
  s.modEng n fun e => { e with
    fsync := true, fsyncDone := true, fsyncEnd := s.fsyncAt n + usU (s.inf (.eng n) ENG_FSYNC_WIDTH) }

theorem exec_fsyncPulse_due (t : Nat) (n : Fin 4) (s : State) (hframes : (s.at t).engFrames n = true)
    (hen : (s.at t).infFlag (.eng n) ENG_FSYNC_EN = true) (hnot : (s.at t).eng[n].fsyncDone = false)
    (hdue : (s.at t).onTick ((s.at t).fsyncAt n) = true) :
    exec (.fsyncPulse t n) s = .next ((s.at t).fsyncBegin n) :=
  congrArg Host.Outcome.next (if_pos ⟨hframes, hen, (Bool.not_eq_true' _).mpr hnot, hdue⟩)

theorem exec_fsyncPulseEnd_due (t : Nat) (n : Fin 4) (s : State)
    (h : (s.at t).eng[n].fsync = true ∧ (s.at t).eng[n].fsyncEnd ≤ (s.at t).now) :
    exec (.fsyncPulseEnd t n) s = .next ((s.at t).modEng n fun e => { e with fsync := false }) :=
  congrArg Host.Outcome.next (if_pos h)

/-! ### The statement -/

/-- Settles O13: under the condition named, each command is its step. -/
theorem engineFramesComplete : Obligations.EngineFramesComplete := by
  refine ⟨?newImage, ?first, ?repeated, ?h2, ?holdEnd, ?stopDone, ?retry, ?blanking, ?engUnderruns, ?scnUnderruns, ?fsync,
    ?fsyncEnd⟩
  case newImage =>
    rintro n t s ⟨hlit, hgo, hnew, hdue⟩
    exact ⟨_, exec_frameStart_lit t n s hlit hgo hnew hdue, rfl⟩
  case first =>
    rintro n due t s ⟨hready, hplan, hdue⟩
    exact ⟨_, exec_frameStart_first t n s hready hplan hdue, rfl⟩
  case repeated =>
    rintro n t s ⟨hlit, hgo, hnew, hdue⟩
    exact ⟨_, exec_repeatFrame_due t n s hlit hgo hnew hdue, rfl⟩
  case h2 =>
    rintro n t s ⟨hhold, hgo, hh1, hdue⟩
    exact ⟨_, exec_holdH2Start_due t n s hhold hgo hh1 hdue, rfl⟩
  case holdEnd =>
    rintro n t s ⟨hhold, hgo, hh2, hdue⟩
    exact ⟨_, exec_holdEnd_due t n s hhold hgo hh2 hdue, rfl⟩
  case stopDone =>
    intro n t s h
    exact ⟨_, exec_engStopDone_ended t n s h, rfl⟩
  case retry =>
    rintro n a t s ⟨hretry, hdue, hsafe, hdead⟩
    exact ⟨_, exec_retrainRetry_due t n s hretry ⟨hsafe, hdead, hdue⟩, rfl⟩
  case blanking =>
    rintro n t s ⟨hframes, hlight, hend⟩
    exact ⟨_, exec_blankingStart_ended t n s hframes hlight hend, rfl,
      State.flag_setFlag_same _ (.eng n) ENG_STATUS_BLANKING true rfl (by decide)⟩
  case engUnderruns =>
    intro n t s h
    exact ⟨_, exec_underrunPersist_engine t n _ s h, rfl⟩
  case scnUnderruns =>
    intro k t s h
    exact ⟨_, exec_underrunPersist_scanner t k _ s h, rfl⟩
  case fsync =>
    rintro n t s ⟨hframes, hen, hnot, hdue⟩
    refine ⟨_, exec_fsyncPulse_due t n s hframes hen hnot hdue, ?_, ?_, fun _ _ => rfl⟩
    · rw [State.fsyncBegin, State.modEng_eng]
    · rw [State.fsyncBegin, State.modEng_eng]
  case fsyncEnd =>
    intro n t s h
    refine ⟨_, exec_fsyncPulseEnd_due t n s h, ?_, fun _ _ => rfl⟩
    rw [State.modEng_eng]

end Sys2Proof.Machine

/-! ## The commands of a mirror engine (R114, R136) -/

namespace Sys2Proof.Machine

/-! ### What a command does in each state of the table (R114) -/

theorem State.engStart_off (s : State) (n : Fin 4) (path off : Nat) (hprog : s.inf (.grd n) GRD_PRG0_CTRL_COUNT ≠ 0)
    (hoff : s.engState n = E_OFF) : s.engStart n path off =
      ((((s.modEng n fun e => { e with start := true, mark := s.now }).engTo n E_TRAIN 0).put (.eng n)
        ENG_STATUS_PBA_WAIT 1).pbaRequest (ID_ENG n.val) NO_PORT, (ST_OK, 0)) :=
  (if_neg hprog).trans (if_pos hoff)

theorem State.engStart_ready (s : State) (n : Fin 4) (path off : Nat) (hprog : s.inf (.grd n) GRD_PRG0_CTRL_COUNT ≠ 0)
    (hready : s.engState n = E_READY) : s.engStart n path off =
      (s.modEng n fun e => { e with start := true, mark := s.now }, (ST_OK, 0)) := by
  have hoff : s.engState n ≠ E_OFF := by rw [hready]; decide
  exact (if_neg hprog).trans ((if_neg hoff).trans (if_pos hready))

theorem State.engStart_safe (s : State) (n : Fin 4) (path off : Nat) (hprog : s.inf (.grd n) GRD_PRG0_CTRL_COUNT ≠ 0)
    (hsafe : s.engState n = E_SAFE) : s.engStart n path off =
      ((s.modEng n fun e => { e with start := true, mark := s.now }).engRetrain n, (ST_OK, 0)) := by
  have hoff : s.engState n ≠ E_OFF := by rw [hsafe]; decide
  have hready : s.engState n ≠ E_READY := by rw [hsafe]; decide
  exact (if_neg hprog).trans ((if_neg hoff).trans ((if_neg hready).trans (if_pos hsafe)))

theorem State.engStop_dark (s : State) (n : Fin 4) (path off : Nat)
    (h : s.engState n = E_TRAIN ∨ s.engState n = E_READY ∨ s.engState n = E_SAFE) :
    s.engStop n path off = ((s.mbxStartCut n.val).engOff n, (ST_OK, 0)) := if_pos h

theorem State.engStop_frames (s : State) (n : Fin 4) (path off : Nat) (h : s.engState n = E_LIT ∨ s.engState n = E_HOLD) :
    s.engStop n path off = ((s.mbxStartCut n.val).modEng n fun e => { e with stop := true, fin := none }, (ST_OK, 0)) := by
  have hdark : ¬ (s.engState n = E_TRAIN ∨ s.engState n = E_READY ∨ s.engState n = E_SAFE) := by
    rcases h with h | h <;> rw [h] <;> decide
  exact (if_neg hdark).trans (if_pos h)

theorem State.engPark_light (s : State) (n : Fin 4) (path off : Nat)
    (h : s.engState n = E_READY ∨ s.engState n = E_LIT ∨ s.engState n = E_HOLD) :
    s.engPark n path off = ((s.mbxStartCut n.val).engTo n E_SAFE CAUSE_PARK, (ST_OK, 0)) := if_pos h

theorem State.engFaultClear_gone (s : State) (n : Fin 4) (path off : Nat) (h : s.engState n = E_FAULT)
    (hgone : s.faultGone n = true) : s.engFaultClear n path off = (s.engOff n, (ST_OK, 0)) := if_pos ⟨h, hgone⟩

/-! ### A command is a write of `ENG_CMD` (R119) -/

/-- A command that writes a code to `ENG_CMD` completes with what the engine does with that code. -/
theorem completes_of_engCmd {c : Nat → Instr} {path : Path} {n : Fin 4} {v : Nat} {P : State → Prop}
    {Q : State → State → Prop} (hexec : ∀ t s, exec (c t) s = .next ((s.at t).regBy path (.eng n) ENG_CMD v))
    (hv : v < 2 ^ 32) (hw : ∀ u, P u → u.writable path (.eng n) ENG_CMD = true)
    (hQ : ∀ u, P u → Q u ((u.engCmdWrite path n v).answer (BitVec.ofNat 32 v))) : Completes c P Q := by
  intro t s hP
  have hwrite := (s.at t).regBy_reaches path (.eng n) ENG_CMD v (by decide) (hw _ hP)
  rw [Nat.mod_eq_of_lt hv, State.pageWrite_block _ _ _ _ _ (by decide) (by decide)] at hwrite
  exact ⟨_, (hexec t s).trans (congrArg Host.Outcome.next hwrite), hQ _ hP⟩

theorem exec_engStart (t : Nat) (path : Path) (n : Fin 4) (s : State) :
    exec (.engStart t path n) s = .next ((s.at t).regBy path (.eng n) ENG_CMD 1) := rfl
theorem exec_engStop (t : Nat) (path : Path) (n : Fin 4) (s : State) :
    exec (.engStop t path n) s = .next ((s.at t).regBy path (.eng n) ENG_CMD 2) := rfl
theorem exec_engPark (t : Nat) (path : Path) (n : Fin 4) (s : State) :
    exec (.engPark t path n) s = .next ((s.at t).regBy path (.eng n) ENG_CMD 3) := rfl
theorem exec_engFaultClear (t : Nat) (path : Path) (n : Fin 4) (s : State) :
    exec (.engFaultClear t path n) s = .next ((s.at t).regBy path (.eng n) ENG_CMD 4) := rfl

theorem State.engCmdWrite_start (s : State) (path : Path) (n : Fin 4) :
    s.engCmdWrite path n 1 = (s.engStart n (pathCode path) ENG_CMD.off).1 := rfl
theorem State.engCmdWrite_stop (s : State) (path : Path) (n : Fin 4) :
    s.engCmdWrite path n 2 = (s.engStop n (pathCode path) ENG_CMD.off).1 := rfl
theorem State.engCmdWrite_park (s : State) (path : Path) (n : Fin 4) :
    s.engCmdWrite path n 3 = (s.engPark n (pathCode path) ENG_CMD.off).1 := rfl
theorem State.engCmdWrite_faultClear (s : State) (path : Path) (n : Fin 4) :
    s.engCmdWrite path n 4 = (s.engFaultClear n (pathCode path) ENG_CMD.off).1 := rfl

@[simp] theorem State.answer_eng (s : State) (v : Word) : (s.answer v).eng = s.eng := rfl

/-! ### The statement -/

/-- Settles O15: each command is a write of its code to `ENG_CMD`, which does what the engine's state asks for. -/
theorem engineCommandsComplete : Obligations.EngineCommandsComplete := by
  refine ⟨?start, ?stopDark, ?stopFrames, ?park, ?faultClear⟩
  case start =>
    intro path n
    refine completes_of_engCmd (exec_engStart · path n) (by decide) (fun _ h => h.1) ?_
    rintro u ⟨-, hprog, hstate⟩
    rw [u.engCmdWrite_start]
    refine ⟨?_, rfl⟩
    rcases hstate with hoff | hready | hsafe
    · rw [u.engStart_off n _ _ hprog hoff]
    · rw [u.engStart_ready n _ _ hprog hready]
    · rw [u.engStart_safe n _ _ hprog hsafe]
  case stopDark =>
    intro path n
    refine completes_of_engCmd (exec_engStop · path n) (by decide) (fun _ h => h.1) ?_
    rintro u ⟨-, hstate⟩
    rw [u.engCmdWrite_stop, u.engStop_dark n _ _ hstate]
    dsimp only [BitVec.ofNat_eq_ofNat]
  case stopFrames =>
    intro path n
    refine completes_of_engCmd (exec_engStop · path n) (by decide) (fun _ h => h.1) ?_
    rintro u ⟨-, hstate⟩
    rw [u.engCmdWrite_stop, u.engStop_frames n _ _ hstate]
    refine ⟨rfl, ?_⟩
    rw [State.answer_eng, State.modEng_eng]
  case park =>
    intro path n
    refine completes_of_engCmd (exec_engPark · path n) (by decide) (fun _ h => h.1) ?_
    rintro u ⟨-, hstate⟩
    rw [u.engCmdWrite_park, u.engPark_light n _ _ hstate]
    dsimp only [BitVec.ofNat_eq_ofNat]
  case faultClear =>
    intro path n
    refine completes_of_engCmd (exec_engFaultClear · path n) (by decide) (fun _ h => h.1) ?_
    rintro u ⟨-, hfault, hgone⟩
    rw [u.engCmdWrite_faultClear, u.engFaultClear_gone n _ _ hfault hgone]
    dsimp only [BitVec.ofNat_eq_ofNat]

end Sys2Proof.Machine

/-! ## Units that are OFF and dark stay so (R39, R114, R142, R380, R383) -/

namespace Sys2Proof.Machine

/-- From `s` to `u` engines that were OFF are OFF, and windows and kill pins of Lanterns that were low are low. -/
structure KeepsOff (s u : State) : Prop where
  off : ∀ n : Fin 4, s.engState n = E_OFF → u.engState n = E_OFF
  win : ∀ x : Fin 6, s.get (.ltn x) LTN_STATUS_WIN = 0 → u.get (.ltn x) LTN_STATUS_WIN = 0
  kill : ∀ x : Fin 6, s.ltn[x].killN = false → u.ltn[x].killN = false

theorem KeepsOff.refl (s : State) : KeepsOff s s := ⟨fun _ h => h, fun _ h => h, fun _ h => h⟩

theorem KeepsOff.trans {s u v : State} (h : KeepsOff s u) (k : KeepsOff u v) : KeepsOff s v where
  off n hs := k.off n (h.off n hs)
  win x hs := k.win x (h.win x hs)
  kill x hs := k.kill x (h.kill x hs)

theorem KeepsOff.ite {c : Prop} [Decidable c] {s u v : State} (hu : c → KeepsOff s u) (hv : ¬ c → KeepsOff s v) :
    KeepsOff s (if c then u else v) := by
  split_ifs with h
  · exact hu h
  · exact hv h

theorem KeepsOff.foldl {ι : Type} {f : State → ι → State} (h : ∀ s x, KeepsOff s (f s x)) (l : List ι) (s : State) :
    KeepsOff s (l.foldl f s) := by
  induction l generalizing s with
  | nil => exact .refl s
  | cons x l ih => exact (h s x).trans (ih (f s x))

theorem State.lanternDark_iff (s : State) (x : Fin 6) :
    s.lanternDark x = true ↔ s.ltn[x].killN = false ∧ s.get (.ltn x) LTN_STATUS_WIN = 0 := by
  simp [State.lanternDark, State.flag]

theorem KeepsOff.dark {s u : State} (h : KeepsOff s u) {x : Fin 6} (hs : s.lanternDark x = true) :
    u.lanternDark x = true := by
  rw [State.lanternDark_iff] at hs ⊢
  obtain ⟨hkill, hwin⟩ := hs
  exact ⟨h.kill x hkill, h.win x hwin⟩

/-- A change behind the registers and the Lanterns. -/
theorem KeepsOff.of_regs {s u : State} (hr : u.regs = s.regs) (hl : u.ltn = s.ltn) : KeepsOff s u where
  off n h := (State.get_of_regs hr _ _).trans h
  win x h := (State.get_of_regs hr _ _).trans h
  kill x h := by rw [hl]; exact h

/-- What leaves every field off those of events, error records and the recorder, and the Lanterns. -/
theorem KeepsOff.of_get {s u : State} (hg : ∀ (q : Page) (g : RF), QuietReg q g → u.get q g = s.get q g)
    (hl : u.ltn = s.ltn) : KeepsOff s u where
  off n h := (hg (.eng n) BLK_STATE ⟨nofun, by decide⟩).trans h
  win x h := (hg (.ltn x) LTN_STATUS_WIN ⟨nofun, by decide⟩).trans h
  kill x h := by rw [hl]; exact h

theorem State.keepsOff_setReg (s : State) {a : Nat} (v : Word) (heng : ∀ n : Fin 4, a ≠ (Page.eng n).base + BLK_STATE.off)
    (hltn : ∀ x : Fin 6, a ≠ (Page.ltn x).base + LTN_STATUS_WIN.off) : KeepsOff s (s.setReg a v) where
  off n h := by
    unfold State.engState State.get at h ⊢
    rw [State.reg_setReg_ne _ _ (heng n)]
    exact h
  win x h := by
    unfold State.get at h ⊢
    rw [State.reg_setReg_ne _ _ (hltn x)]
    exact h
  kill x h := h

/-- A register of a page that is no engine's and no Lantern's. -/
theorem State.keepsOff_setReg_page (s : State) {p : Page} {off : Nat} (v : Word) (heng : ∀ n, p ≠ .eng n)
    (hltn : ∀ x, p ≠ .ltn x) (ho : off < 0x1000) : KeepsOff s (s.setReg (p.base + off) v) :=
  s.keepsOff_setReg v (fun n => Page.addr_ne (heng n) ho (by decide)) fun x => Page.addr_ne (hltn x) ho (by decide)

theorem State.keepsOff_put_page (s : State) {p : Page} (f : RF) (v : Nat) (heng : ∀ n, p ≠ .eng n)
    (hltn : ∀ x, p ≠ .ltn x) (ho : f.off < 0x1000) : KeepsOff s (s.put p f v) :=
  s.keepsOff_setReg_page _ heng hltn ho

/-- A register at another offset of its page, whatever the page. -/
theorem State.keepsOff_put_off (s : State) (p : Page) {f : RF} (v : Nat) (ho : f.off < 0x1000)
    (hstate : f.off ≠ BLK_STATE.off) (hstatus : f.off ≠ LTN_STATUS_WIN.off) : KeepsOff s (s.put p f v) :=
  s.keepsOff_setReg _ (fun n => Page.addr_ne_off p (.eng n) hstate ho (by decide)) fun x =>
    Page.addr_ne_off p (.ltn x) hstatus ho (by decide)

/-! ### Events and responses -/

theorem State.keepsOff_raise (s : State) (p : Page) (b : Nat) : KeepsOff s (s.raise p b) :=
  .of_get (fun q g h => s.get_raise p q b g h) (s.onlyRecords_raise p b).ltn

theorem State.keepsOff_record (s : State) (ty : Nat) (l : List Nat) : KeepsOff s (s.record ty l) :=
  .of_get (fun q g h => s.get_record ty l q g h) (s.onlyRecords_record ty l).ltn

theorem State.keepsOff_bump (s : State) (p : Page) {f : RF} (ho : f.off < 0x1000) (hstate : f.off ≠ BLK_STATE.off)
    (hstatus : f.off ≠ LTN_STATUS_WIN.off) : KeepsOff s (s.bump p f) := by
  unfold State.bump State.count
  exact (KeepsOff.of_regs (State.note_regs _ _ _ _) (State.note_ltn _ _ _ _)).trans
    (State.keepsOff_put_off _ p _ ho hstate hstatus)

/-- What is events alone, with the Lanterns as they are. -/
theorem OnlyEvents.keepsOff {s u : State} (h : OnlyEvents s u) (hl : u.ltn = s.ltn) : KeepsOff s u where
  off n hs := (h.get (.eng n) BLK_STATE (by decide) (by decide)).trans hs
  win x hs := (h.get (.ltn x) LTN_STATUS_WIN (by decide) (by decide)).trans hs
  kill x hs := by rw [hl]; exact hs

theorem State.ltn_ite {c : Prop} [Decidable c] {s u v : State} (hu : c → u.ltn = s.ltn) (hv : ¬ c → v.ltn = s.ltn) :
    (if c then u else v).ltn = s.ltn := by
  split_ifs with h
  · exact hu h
  · exact hv h

theorem State.icpReplyFor_ltn (s : State) (owed : Option MbxRec) (port op status detail ref key : Nat) (payload : List Byte) :
    (s.icpReplyFor owed port op status detail ref key payload).ltn = s.ltn := by
  unfold State.icpReplyFor
  split
  · cases finOf 16 key <;> rfl
  · rfl

theorem State.icpPost_ltn (s : State) (i : Fin 32) (status detail : Nat) (owed : Option MbxRec) (payload : List Byte) :
    (s.icpPost i status detail owed payload).ltn = s.ltn := by
  unfold State.icpPost
  extract_lets c
  split
  · rfl
  · exact State.ltn_ite (fun _ => rfl) fun _ => State.icpReplyFor_ltn _ _ _ _ _ _ _ _ _

theorem State.mbxPost_ltn (s : State) (i : Fin 32) (status detail state : Nat) (result : List Nat) :
    (s.mbxPost i status detail state result).ltn = s.ltn := by
  unfold State.mbxPost
  extract_lets c final w0 w1 words counted rejected missed box posted icp shown
  have hrejected : rejected.ltn = s.ltn := State.ltn_ite
    (fun _ => ((s.onlyRecords_bump .mbx MBX_REJECT_CNT).trans (State.onlyRecords_logEntry _ _ _ _ _)).ltn) fun _ => rfl
  have hmissed : missed.ltn = s.ltn := State.ltn_ite
    (fun _ => (rejected.onlyRecords_bump .mbx (MP_DL_MISS 4)).ltn.trans hrejected) fun _ => hrejected
  have hshown : shown.ltn = s.ltn := hmissed
  refine State.ltn_ite (fun _ => (State.icpPost_ltn _ _ _ _ _ _).trans hshown) fun _ => State.ltn_ite ?_ ?_
  · exact fun _ => (State.onlyRecords_raise _ _ _).ltn.trans hshown
  · exact fun _ => (State.onlyRecords_raise _ _ _).ltn.trans hshown

theorem State.mbxFinishAll_ltn (s : State) (p : MbxWait → Bool) (status detail word2 : Nat) :
    (s.mbxFinishAll p status detail word2).ltn = s.ltn := by
  unfold State.mbxFinishAll
  refine List.foldlRecOn (motive := fun u : State => u.ltn = s.ltn) _ _ rfl fun u hu i _ => ?_
  unfold State.mbxFinish
  exact State.ltn_ite (fun _ => State.ltn_ite (fun _ => (State.mbxPost_ltn _ _ _ _ _ _).trans hu) fun _ => hu) fun _ => hu

theorem State.keepsOff_mbxFinishAll (s : State) (p : MbxWait → Bool) (status detail word2 : Nat) :
    KeepsOff s (s.mbxFinishAll p status detail word2) :=
  (State.onlyEvents_mbxFinishAll _ _ _ _ _).keepsOff (State.mbxFinishAll_ltn _ _ _ _ _)

theorem State.onlyEvents_mbxUnit (s : State) (u new err : Nat) : OnlyEvents s (s.mbxUnit u new err) := by
  unfold State.mbxUnit
  extract_lets started stopped
  have hstarted : OnlyEvents s started :=
    .ite (fun _ => State.onlyEvents_mbxFinishAll _ _ _ _ _) fun _ =>
      .ite (fun _ => State.onlyEvents_mbxFinishAll _ _ _ _ _) fun _ => .refl s
  have hstopped : OnlyEvents started stopped :=
    .ite (fun _ => State.onlyEvents_mbxFinishAll _ _ _ _ _) fun _ => .refl _
  exact (hstarted.trans hstopped).trans (.ite (fun _ => State.onlyEvents_mbxFinishAll _ _ _ _ _) fun _ => .refl _)

theorem State.mbxUnit_ltn (s : State) (u new err : Nat) : (s.mbxUnit u new err).ltn = s.ltn := by
  unfold State.mbxUnit
  split_ifs <;> simp only [State.mbxFinishAll_ltn]

theorem State.calLost_frame (s : State) (cls inst : Nat) :
    (s.calLost cls inst).regs = s.regs ∧ (s.calLost cls inst).ltn = s.ltn := by
  unfold State.calLost
  split
  · exact ⟨rfl, rfl⟩
  · exact ⟨rfl, rfl⟩

theorem State.get_calLost (s : State) (cls inst : Nat) (q : Page) (g : RF) : (s.calLost cls inst).get q g = s.get q g :=
  State.get_of_regs (s.calLost_frame cls inst).1 q g

theorem State.keepsOff_calLost (s : State) (cls inst : Nat) : KeepsOff s (s.calLost cls inst) :=
  .of_regs (s.calLost_frame cls inst).1 (s.calLost_frame cls inst).2

/-! ### A domain that switches off (R39) -/

/-- A field of a page whose reset value is 0. -/
abbrev Page.ResetsZero (p : Page) (g : RF) : Prop :=
  ∀ r ∈ p.rows, ∀ i ∈ List.range r.count, r.off + r.stride * i = g.off → bitsOf (r.resetOf i) g.lo g.w = 0

theorem Page.eng_state_resetsZero : ∀ n : Fin 4, (Page.eng n).ResetsZero BLK_STATE := by decide +kernel
theorem Page.ltn_win_resetsZero : ∀ x : Fin 6, (Page.ltn x).ResetsZero LTN_STATUS_WIN := by decide +kernel

theorem bitsOf_eq_zero_iff (x lo w : Nat) : bitsOf x lo w = 0 ↔ ∀ i < w, x.testBit (lo + i) = false := by
  constructor
  · intro h i hi
    have hbit := bitsOf_testBit x lo w i
    rw [h, Nat.zero_testBit, decide_eq_true hi, Bool.true_and] at hbit
    exact hbit.symm
  · intro h
    refine Nat.eq_of_testBit_eq fun i => ?_
    rw [bitsOf_testBit, Nat.zero_testBit]
    by_cases hi : i < w
    · rw [h i hi, Bool.and_false]
    · rw [decide_eq_false hi, Bool.false_and]

/-- A field that is 0 in both words is 0 in their mix. -/
theorem bitsOf_mixBits_zero (m : Nat) {x y lo w : Nat} (hx : bitsOf x lo w = 0) (hy : bitsOf y lo w = 0) :
    bitsOf (mixBits m x y) lo w = 0 := by
  rw [bitsOf_eq_zero_iff] at hx hy ⊢
  intro i hi
  unfold mixBits
  rw [Nat.testBit_or, Nat.testBit_and, Nat.testBit_and, hx i hi, hy i hi, Bool.false_and, Bool.false_and, Bool.or_false]

/-- A field whose reset value is 0, and which is 0, stays 0 when its page's status reads its reset values. -/
theorem State.get_statusOff_zero (s : State) (p : Page) (keep : Nat → Bool) {q : Page} {g : RF} (hg : g.off < 0x1000)
    (hfit : g.Fits) (hz : q.ResetsZero g) (h : s.get q g = 0) : (s.statusOff p keep).get q g = 0 := by
  unfold State.statusOff
  refine List.foldlRecOn (motive := fun u : State => u.get q g = 0) _ _ h fun u hu r hr => ?_
  dsimp only
  split_ifs
  · exact hu
  refine List.foldlRecOn (motive := fun u : State => u.get q g = 0) _ _ hu fun v hv i hi => ?_
  split_ifs
  · exact hv
  by_cases ha : p.base + (r.off + r.stride * i) = q.base + g.off
  · obtain ⟨-, -, -, hend, -⟩ := p.rows_sound r hr
    have hstep : r.stride * i ≤ r.stride * r.count := Nat.mul_le_mul_left _ (List.mem_range.mp hi).le
    have hpq : p = q := by
      by_contra hne
      exact Page.addr_ne hne (by omega) hg ha
    subst hpq
    have hreset := hz r hr i hi (Nat.add_left_cancel ha)
    unfold State.get Word.field at hv ⊢
    rw [ha, State.reg_setReg_same, BitVec.toNat_ofNat, bitsOf_mod_word _ _ _ hfit]
    exact bitsOf_mixBits_zero _ hreset hv
  · unfold State.get at hv ⊢
    rw [State.reg_setReg_ne _ _ ha]
    exact hv

theorem State.statusOff_ltn (s : State) (p : Page) (keep : Nat → Bool) : (s.statusOff p keep).ltn = s.ltn := by
  unfold State.statusOff
  refine List.foldlRecOn (motive := fun u : State => u.ltn = s.ltn) _ _ rfl fun u hu r _ => ?_
  dsimp only
  split_ifs
  · exact hu
  refine List.foldlRecOn (motive := fun u : State => u.ltn = s.ltn) _ _ hu fun v hv i _ => ?_
  split_ifs
  · exact hv
  · exact hv

theorem State.keepsOff_statusOff (s : State) (p : Page) (keep : Nat → Bool) : KeepsOff s (s.statusOff p keep) where
  off n h := s.get_statusOff_zero p keep (by decide) (by decide) (Page.eng_state_resetsZero n) h
  win x h := s.get_statusOff_zero p keep (by decide) (by decide) (Page.ltn_win_resetsZero x) h
  kill x h := by rw [State.statusOff_ltn]; exact h

/-! ### Blocks without their domain (R39) -/

/-- What the blocks hold behind their pages. -/
theorem State.keepsOff_logic (s : State) {cmp : Comp} {eng : Vector Engine 4} {grd : Vector Grinder 4} {sxl : Vector Link 4}
    {scn : Vector Scanner 2} {dmcs : Dmc} {nvm : Nvm} {eth : Vector EthPort 4} {can : Vector CanPort 4} {stor : Stor}
    {bulk : Option Bulk} {sec : Sec} {fsram : List (Nat × Byte)} :
    KeepsOff s { s with cmp := cmp, eng := eng, grd := grd, sxl := sxl, scn := scn, dmcs := dmcs, nvm := nvm, eth := eth,
                        can := can, stor := stor, bulk := bulk, sec := sec, fsram := fsram } := .of_regs rfl rfl

theorem State.keepsOff_modNp (s : State) (q : NpIx) (f : NpPort → NpPort) : KeepsOff s (s.modNp q f) := .of_regs rfl rfl
theorem State.keepsOff_modMx (s : State) (q : MxIx) (f : MxPort → MxPort) : KeepsOff s (s.modMx q f) := .of_regs rfl rfl
theorem State.keepsOff_cal (s : State) {cal : Cal} : KeepsOff s { s with cal := cal } := .of_regs rfl rfl

/-- The state of a Lantern is no engine's. -/
theorem State.keepsOff_putLtnState (s : State) (x : Fin 6) (st : Nat) : KeepsOff s (s.put (.ltn x) BLK_STATE st) :=
  s.keepsOff_setReg (a := (Page.ltn x).base + BLK_STATE.off) _
    (fun n => Page.addr_ne (p := .ltn x) (q := .eng n) nofun (by decide) (by decide)) fun y =>
    Page.addr_ne_off (.ltn x) (.ltn y) (by decide) (by decide) (by decide)

/-- A Lantern whose kill pin is low in its new data. -/
theorem State.keepsOff_lantern (s : State) (x : Fin 6) {l : Lantern} (h : l.killN = false) :
    KeepsOff s { s with ltn := s.ltn.set x.val l } where
  off _ hs := hs
  win _ hs := hs
  kill y hs := by
    simp only [Fin.getElem_fin, Vector.getElem_set] at hs ⊢
    split_ifs
    · exact h
    · exact hs

theorem State.keepsOff_npShowGroup (s : State) (g : Fin 13) : KeepsOff s (s.npShowGroup g) := by
  have hput : ∀ (u : State) (f : RF) (v : Nat), f.off < 0x1000 → KeepsOff u (u.put (.np g) f v) := fun u f v hf =>
    u.keepsOff_put_page f v (fun _ => nofun) (fun _ => nofun) hf
  unfold State.npShowGroup
  extract_lets p bits waits opens runs
  exact (((hput s NP_GRP_STATUS_PBA_WAIT _ (by decide)).trans (hput waits NP_GRP_STATUS_CHAIN_OPEN _ (by decide))).trans
    (hput opens NP_GRP_STATUS_RUN _ (by decide))).trans (hput runs BLK_STATE _ (by decide))

theorem State.keepsOff_mxShowGroup (s : State) (g : Fin 3) : KeepsOff s (s.mxShowGroup g) := by
  have hput : ∀ (u : State) (f : RF) (v : Nat), f.off < 0x1000 → KeepsOff u (u.put (.mx g) f v) := fun u f v hf =>
    u.keepsOff_put_page f v (fun _ => nofun) (fun _ => nofun) hf
  unfold State.mxShowGroup
  extract_lets p bits st waits lost runs
  exact (((hput s MX_GRP_STATUS_PBA_WAIT _ (by decide)).trans (hput waits MX_GRP_STATUS_TE_LOST _ (by decide))).trans
    (hput lost MX_GRP_STATUS_RUN _ (by decide))).trans (hput runs BLK_STATE _ (by decide))

theorem npLane_lt (q : NpIx) : npLane q < 8 := Nat.mod_lt _ (by decide)
theorem mxLane_lt (q : MxIx) : mxLane q < 8 := Nat.mod_lt _ (by decide)

theorem State.keepsOff_npTo (s : State) (q : NpIx) (st : Nat) : KeepsOff s (s.npTo q st) := by
  have hlane := npLane_lt q
  have hoff : (NP_STATUS_STATE (npLane q)).off < 0x1000 := by simp only [NP_STATUS_STATE]; omega
  exact (s.keepsOff_put_page (p := npPage q) _ st (fun _ => nofun) (fun _ => nofun) hoff).trans
    (State.keepsOff_npShowGroup _ _)

theorem State.keepsOff_npDomainOff (s : State) (q : NpIx) : KeepsOff s (s.npDomainOff q) := by
  unfold State.npDomainOff
  extract_lets p base cleared idle
  have hlane := npLane_lt q
  have hcleared : KeepsOff s cleared := by
    refine List.foldlRecOn (motive := KeepsOff s) _ _ (.refl s) fun u hu o ho => hu.trans ?_
    have hbound : ∀ o ∈ [0x30, 0x34, 0x38, 0x3C, 0x58], o < 0x100 := by decide
    have hsmall := hbound o ho
    rw [Nat.add_assoc]
    exact u.keepsOff_setReg_page (p := npPage q) 0 (fun _ => nofun) (fun _ => nofun) (by omega)
  exact (hcleared.trans (cleared.keepsOff_modNp q _)).trans (State.keepsOff_npTo _ _ _)

theorem State.keepsOff_mxHold (s : State) (q : MxIx) : KeepsOff s (s.mxHold q) := by
  have hlane := mxLane_lt q
  have hoff : (MX_STATUS_CLONE_HOLD (mxLane q)).off < 0x1000 := by simp only [MX_STATUS_CLONE_HOLD]; omega
  unfold State.mxHold
  extract_lets hold
  exact .ite (fun _ => .refl s) fun _ =>
    s.keepsOff_put_page (p := mxPage q) _ _ (fun _ => nofun) (fun _ => nofun) hoff

theorem State.keepsOff_mxDomainOff (s : State) (q : MxIx) : KeepsOff s (s.mxDomainOff q) := by
  unfold State.mxDomainOff
  extract_lets p cleared
  have hlane := mxLane_lt q
  have hcleared : KeepsOff s cleared := by
    refine List.foldlRecOn (motive := KeepsOff s) _ _ (.refl s) fun u hu o ho => hu.trans ?_
    have hbound : ∀ o ∈ [0x28, 0x2C, 0x30, 0x34, 0x38], o < 0x100 := by decide
    have hsmall := hbound o ho
    rw [Nat.add_assoc, Nat.add_assoc]
    exact u.keepsOff_setReg_page (p := mxPage q) 0 (fun _ => nofun) (fun _ => nofun) (by omega)
  exact ((hcleared.trans (cleared.keepsOff_modMx q _)).trans (.foldl State.keepsOff_mxHold _ _)).trans (State.keepsOff_mxShowGroup _ _)

/-- A Lantern without its domain has its kill pin low, whatever it was; TRIPPED is a state of the Lantern, not of an
engine. -/
theorem State.keepsOff_ltnDomainOff (s : State) (x : Fin 6) : KeepsOff s (s.ltnDomainOff x) := by
  unfold State.ltnDomainOff
  extract_lets l tr lost status cal line lined shown fresh
  have hlost : KeepsOff s lost :=
    (((s.keepsOff_calLost _ _).trans (State.keepsOff_calLost _ _ _)).trans (State.keepsOff_calLost _ _ _)).trans
      (State.keepsOff_calLost _ _ _)
  have hstatus : KeepsOff lost status := lost.keepsOff_statusOff _ _
  have hlined : KeepsOff status lined := status.keepsOff_cal
  have hstat : (CAL_DL_STAT x.val).off < 0x1000 := by simp only [CAL_DL_STAT]; omega
  have hshown : KeepsOff lined shown := lined.keepsOff_put_page _ _ (fun _ => nofun) (fun _ => nofun) hstat
  have hfresh : KeepsOff shown fresh := shown.keepsOff_lantern x rfl
  have htripped : KeepsOff fresh (fresh.put (.ltn x) BLK_STATE 4) := fresh.keepsOff_putLtnState x 4
  exact (((hlost.trans hstatus).trans hlined).trans (hshown.trans hfresh)).trans (.ite (fun _ => htripped) fun _ => .refl _)

theorem State.keepsOff_blocksOff (s : State) (d : Nat) : KeepsOff s (s.blocksOff d) := by
  unfold State.blocksOff
  refine .ite (fun _ => ?engine) fun _ => .ite (fun _ => ?link) fun _ => .ite (fun _ => ?scanners) fun _ =>
    .ite (fun _ => ?lanterns) fun _ => .ite (fun _ => ?ports) fun _ => .ite (fun _ => ?compositor) fun _ =>
    .ite (fun _ => ?dram) fun _ => .ite (fun _ => ?net) fun _ => .ite (fun _ => ?stor) fun _ =>
    .ite (fun _ => ?sec) fun _ => .ite (fun _ => ?nvm) fun _ => .refl s
  case engine =>
    split
    · next n _ =>
      exact ((s.keepsOff_statusOff (.grd n) fun _ => false).trans
        (State.keepsOff_statusOff _ (.eng n) fun off => off == ENG_STATE_INFO.off)).trans (State.keepsOff_logic _)
    · exact .refl s
  case link =>
    split
    · next n _ => exact (s.keepsOff_statusOff (.sxl n) fun _ => false).trans (State.keepsOff_logic _)
    · exact .refl s
  case scanners =>
    exact .foldl (fun u k => (u.keepsOff_statusOff (.scn k) fun off => off == SCN_STATE_INFO.off).trans
      (State.keepsOff_logic _)) _ s
  case lanterns => exact .foldl State.keepsOff_ltnDomainOff _ s
  case ports =>
    exact (KeepsOff.foldl (fun u q => .ite (fun _ => u.keepsOff_npDomainOff q) fun _ => .refl u) _ s).trans
      (.foldl (fun u q => .ite (fun _ => u.keepsOff_mxDomainOff q) fun _ => .refl u) _ _)
  case compositor =>
    exact (KeepsOff.foldl (fun (u : State) (i : Fin 7) => u.keepsOff_statusOff (.comp (i.castLE (by decide))) fun _ => false)
      (List.finRange 7) s).trans (State.keepsOff_logic _)
  case dram =>
    exact (KeepsOff.foldl (fun (u : State) (i : Fin 4) => u.keepsOff_statusOff (.dmc i) fun _ => false) (List.finRange 4) s).trans
      (State.keepsOff_logic _)
  case net =>
    exact (KeepsOff.foldl (fun u n => (u.keepsOff_statusOff (.eth n) fun _ => false).trans
      (State.keepsOff_statusOff _ (.can n) fun _ => false)) (List.finRange 4) s).trans (State.keepsOff_logic _)
  case stor => exact (s.keepsOff_statusOff .stor fun _ => false).trans (State.keepsOff_logic _)
  case sec => exact (s.keepsOff_statusOff .sec fun off => off == 0x44).trans (State.keepsOff_logic _)
  case nvm => exact (s.keepsOff_statusOff .nvm fun off => off == 0x60).trans (State.keepsOff_logic _)

theorem State.keepsOff_setDom (s : State) (d : Nat) (on ret : Bool) : KeepsOff s (s.setDom d on ret) := by
  have hput : ∀ (u : State) (f : RF) (v : Nat), f.off < 0x1000 → KeepsOff u (u.put .basecamp f v) := fun u f v hf =>
    u.keepsOff_put_page f v (fun _ => nofun) (fun _ => nofun) hf
  unfold State.setDom
  exact (hput s ⟨BC_PD_ON.off, d, 1⟩ (ofBool on) (show BC_PD_ON.off < 0x1000 by decide)).trans
    (hput _ ⟨BC_PD_RET.off, d, 1⟩ (ofBool ret) (show BC_PD_RET.off < 0x1000 by decide))

theorem State.keepsOff_domOff (s : State) (d : Nat) : KeepsOff s (s.domOff d) := by
  unfold State.domOff
  extract_lets blocks
  have hblocks : KeepsOff s blocks := (s.keepsOff_setDom d false false).trans (State.keepsOff_blocksOff _ d)
  exact .ite (fun _ => hblocks.trans (.of_regs rfl rfl)) fun _ => hblocks

theorem State.keepsOff_domRefresh (s : State) : KeepsOff s s.domRefresh :=
  .foldl (fun u d => .ite
    (fun _ => .ite (fun _ => .refl u) fun _ => .ite (fun _ => u.keepsOff_setDom d _ _) fun _ => u.keepsOff_domOff d)
    fun _ => .ite (fun _ => .ite (fun _ => .refl u) fun _ => u.keepsOff_domOff d)
      fun _ => .ite (fun _ => u.keepsOff_setDom d _ _) fun _ => .refl u) _ s

/-! ### A release (R380, R383) -/

theorem State.keepsOff_putPba (s : State) (f : RF) (v : Nat) (hf : f.off < 0x1000) : KeepsOff s (s.put .pba f v) :=
  s.keepsOff_put_page f v (fun _ => nofun) (fun _ => nofun) hf

theorem State.keepsOff_pbaShow (s : State) : KeepsOff s s.pbaShow := by
  unfold State.pbaShow
  extract_lets m w g waits grants core length slot budget
  have hwaits : KeepsOff s waits := (s.keepsOff_putPba _ _ (by decide)).trans (State.keepsOff_putPba _ _ _ (by decide))
  have hgrants : KeepsOff waits grants :=
    (waits.keepsOff_putPba _ _ (by decide)).trans (State.keepsOff_putPba _ _ _ (by decide))
  have hslot : KeepsOff grants slot := ((grants.keepsOff_putPba _ _ (by decide)).trans
    (core.keepsOff_putPba _ _ (by decide))).trans (length.keepsOff_putPba _ _ (by decide))
  have hbudget : KeepsOff slot budget := .ite (fun _ => slot.keepsOff_putPba _ _ (by decide)) fun _ => .refl slot
  exact ((hwaits.trans hgrants).trans (hslot.trans hbudget)).trans (budget.keepsOff_putPba _ _ (by decide))

theorem State.keepsOff_deliverLimits (s : State) : KeepsOff s s.deliverLimits :=
  ((KeepsOff.foldl (fun u x => u.keepsOff_put_off (.ltn x) (f := LTN_LIMIT_IN) _ (by decide) (by decide) (by decide)) _ s).trans
    (.foldl (fun u g => u.keepsOff_put_off (.np g) (f := NP_LIMIT_IN) _ (by decide) (by decide) (by decide)) _ _)).trans
    (.foldl (fun u g => u.keepsOff_put_off (.mx g) (f := MX_LIMIT_IN) _ (by decide) (by decide) (by decide)) _ _)

theorem State.keepsOff_pbaEvaluate (s : State) : KeepsOff s s.pbaEvaluate := by
  unfold State.pbaEvaluate
  rcases s.pbaTarget with ⟨tl, te, td, isOver⟩
  dsimp -zeta only
  extract_lets r bypass l e d fell was factors lowered status counted raised demand
  have hlowered : KeepsOff s lowered := (s.keepsOff_putPba _ _ (by decide)).trans
    (.ite (fun _ => factors.keepsOff_raise _ _) fun _ => .refl factors)
  have hcounted : KeepsOff lowered counted := (lowered.keepsOff_putPba _ _ (by decide)).trans
    (.ite (fun _ => status.keepsOff_bump .pba (by decide) (by decide) (by decide)) fun _ => .refl status)
  have hraised : KeepsOff counted raised := .ite (fun _ => counted.keepsOff_raise _ _) fun _ =>
    .ite (fun _ => counted.keepsOff_raise _ _) fun _ => .refl counted
  have hdemand : KeepsOff raised demand := raised.keepsOff_putPba _ _ (by decide)
  exact ((hlowered.trans hcounted).trans (hraised.trans hdemand)).trans
    ((State.keepsOff_deliverLimits _).trans (State.keepsOff_pbaShow _))

theorem State.keepsOff_pbaRelease (s : State) (id port : Nat) : KeepsOff s (s.pbaRelease id port) := by
  unfold State.pbaRelease
  extract_lets had pba taken pba' unloaded
  have hunloaded : KeepsOff s unloaded :=
    KeepsOff.trans (u := taken) (.of_regs rfl rfl) (.ite (fun _ => .refl taken) fun _ => .of_regs rfl rfl)
  exact hunloaded.trans (.ite (fun _ => (State.keepsOff_domRefresh _).trans (State.keepsOff_pbaEvaluate _))
    fun _ => State.keepsOff_pbaShow _)

end Sys2Proof.Machine

/-! ## An engine enters a state (R114–R116, R158, R185) -/

namespace Sys2Proof.Machine

/-! ### The stages of a transition -/

/-- The state and its cause are shown, the change is an event, and a cause of class HW_FAULT is recorded (R115). -/
def State.engEntered (s : State) (n : Fin 4) (new cause : Nat) : State :=
  let shown := (s.put (.eng n) ENG_STATE_INFO (cause * 256 + s.engState n)).put (.eng n) BLK_STATE new
  let u := ({ shown with planAt := s.now } : State).raise (.eng n) ENG_EV_STATE_CHANGE
  if hwCause cause then u.errHw (.eng n) ST_HW_FAULT cause else u

/-- Frames end unless the new state shows frames too (R112, R116). -/
def State.engLeft (s : State) (n : Fin 4) (old new : Nat) (frames : Bool) : State :=
  let stays := new = E_LIT ∨ new = E_HOLD
  let s := if stays then s else s.engStopFrames n
  let s := if old = E_TRAIN then s.put (.eng n) ENG_STATUS_PBA_WAIT 0 else s
  let s := if frames ∧ !decide stays then (s.calLeave (ltnOfEng n)).ltnForget (ltnOfEng n) else s
  if frames ∧ !decide stays then s.engCommitStopped n else s

/-- The array parks or leaves its pattern, and the timer of LINK_DEAD runs or not (R114, R185). -/
def State.engLinked (s : State) (n : Fin 4) (old new cause : Nat) : State :=
  let s := if new = E_SAFE then s.linkPark n (s.get (.eng n) ENG_SAFE_PARK)
    else if new = E_FAULT ∨ (old = E_SAFE ∧ new = E_READY) then s.linkPark n 0 else s
  if new = E_SAFE ∧ cause = CAUSE_LINK_DEAD then
    s.modEng n fun e => { e with retryAt := some (s.now + msU (s.get (.sxl n) SXL_RETRY_RETRAIN_RETRY_MS)) }
  else s.modEng n fun e => { e with retryAt := none }

theorem State.engTo_eq (s : State) (n : Fin 4) (new cause : Nat) : s.engTo n new cause =
    (((((s.engEntered n new cause).engLeft n (s.engState n) new (s.engFrames n)).ltnFollow (ltnOfEng n) (s.engState n)
      new).engLinked n (s.engState n) new cause).noteState n.val (s.engState n) new cause) := rfl

/-! ### The registers of other pages -/

theorem QuietReg.lt {q : Page} {g : RF} (h : QuietReg q g) : g.off < 0x1000 := h.2.1

theorem State.get_ltnDark (s : State) (x : Fin 6) {q : Page} {g : RF} (hq : Page.ltn x ≠ q) (hg : g.off < 0x1000) :
    (s.ltnDark x).get q g = s.get q g := by
  unfold State.ltnDark
  extract_lets closed
  rw [State.get_put_page _ _ _ _ _ _ hq (by decide) hg, State.get_put_page _ _ _ _ _ _ hq (by decide) hg]
  unfold closed
  split_ifs
  · rfl
  · rfl

theorem State.get_ltnTo (s : State) (x : Fin 6) (st : Nat) {q : Page} {g : RF} (hq : Page.ltn x ≠ q)
    (hg : g.off < 0x1000) : (s.ltnTo x st).get q g = s.get q g := by
  unfold State.ltnTo
  extract_lets lit ready
  have hlit : lit.get q g = s.get q g := by
    unfold lit
    split_ifs
    · rfl
    · exact s.get_calLost 3 x.val q g
  have hready : ready.get q g = lit.get q g := by
    unfold ready
    split_ifs
    · rfl
    · exact lit.get_calLost 5 x.val q g
  rw [State.get_put_page _ _ _ _ _ _ hq (by decide) hg, hready, hlit]

theorem State.get_ltnOffPins (s : State) (x : Fin 6) {q : Page} {g : RF} (hq : Page.ltn x ≠ q) (hg : g.off < 0x1000) :
    (s.ltnOffPins x).get q g = s.get q g := by
  unfold State.ltnOffPins
  rw [State.modLtn_get, s.get_ltnDark x hq hg]

/-- A load touches no register. -/
theorem State.get_ltnWantArm (s : State) (x : Fin 6) (engState : Nat) (q : Page) (g : RF) :
    (s.ltnWantArm x engState).get q g = s.get q g := by
  unfold State.ltnWantArm
  split_ifs
  · rfl
  · rfl

theorem State.get_ltnFollow (s : State) (x : Fin 6) (old new : Nat) {q : Page} {g : RF} (hq : Page.ltn x ≠ q)
    (hg : g.off < 0x1000) : (s.ltnFollow x old new).get q g = s.get q g := by
  have harmed : ∀ u : State, ((u.ltnDark x).ltnTo x LTN_ARMED).get q g = u.get q g := fun u =>
    (State.get_ltnTo _ _ _ hq hg).trans (u.get_ltnDark x hq hg)
  unfold State.ltnFollow
  extract_lets st cleared resumed
  have hresumed : resumed.get q g = s.get q g := by
    unfold resumed
    split_ifs
    · exact (harmed cleared).trans (State.modLtn_get _ _ _ _ _)
    · rfl
    · rfl
  rw [← hresumed]
  split_ifs
  · rfl
  · exact (State.get_ltnTo _ _ _ hq hg).trans (resumed.get_ltnOffPins x hq hg)
  · exact (harmed _).trans (State.modLtn_get _ _ _ _ _)
  · rfl
  · exact resumed.get_ltnWantArm x new q g
  · rfl

theorem State.get_linkPark (s : State) (n : Fin 4) (pat : Nat) {q : Page} {g : RF} (hq : Page.sxl n ≠ q)
    (hg : g.off < 0x1000) : (s.linkPark n pat).get q g = s.get q g := by
  unfold State.linkPark
  split_ifs
  · exact State.get_put_page _ _ _ _ _ _ hq (by decide) hg
  · rfl

theorem State.get_grdStop (s : State) (n : Fin 4) {q : Page} {g : RF} (hq : Page.grd n ≠ q) (hg : g.off < 0x1000) :
    (s.grdStop n).get q g = s.get q g := by
  unfold State.grdStop
  extract_lets idle shown
  rw [State.get_put_page _ _ _ _ _ _ hq (by decide) hg]
  unfold shown
  rw [State.get_put_page _ _ _ _ _ _ hq (by decide) hg, State.get_put_page _ _ _ _ _ _ hq (by decide) hg,
    State.get_put_page _ _ _ _ _ _ hq (by decide) hg]
  rfl

/-- Training writes the link's page alone. -/
theorem State.get_trainStart (s : State) (n : Fin 4) {q : Page} {g : RF} (hq : Page.sxl n ≠ q) (hg : g.off < 0x1000) :
    (s.trainStart n).get q g = s.get q g := by
  unfold State.trainStart State.sxlTo
  extract_lets counted stepped down
  rw [State.get_put_page _ _ _ _ _ _ hq (by decide) hg]
  unfold down
  rw [State.get_put_page _ _ _ _ _ _ hq (by decide) hg, State.get_put_page _ _ _ _ _ _ hq (by decide) hg]
  exact (State.modSxl_get _ _ _ _ _).trans (State.get_bump_ne _ _ _ _ _ (Page.addr_ne hq (by decide) hg))

theorem State.get_linkStop (s : State) (n : Fin 4) {q : Page} {g : RF} (hq : Page.sxl n ≠ q) (hg : g.off < 0x1000) :
    (s.linkStop n).get q g = s.get q g := by
  unfold State.linkStop State.sxlTo
  extract_lets stopped down shown
  rw [State.get_put_page _ _ _ _ _ _ hq (by decide) hg]
  unfold shown
  rw [State.get_put_page _ _ _ _ _ _ hq (by decide) hg, State.get_put_page _ _ _ _ _ _ hq (by decide) hg]
  unfold down
  rw [State.get_put_page _ _ _ _ _ _ hq (by decide) hg, State.get_put_page _ _ _ _ _ _ hq (by decide) hg]
  rfl

theorem State.get_noteState (s : State) (u prev new cause : Nat) {q : Page} {g : RF} (hq : QuietReg q g)
    (hcalm : g.off ∉ eventOffs) : (s.noteState u prev new cause).get q g = s.get q g := by
  unfold State.noteState
  extract_lets delays eps recorded
  have hdelays : delays.get q g = s.get q g := by
    unfold delays
    split_ifs
    · rfl
    · exact State.get_calLost _ _ _ _ _
    · exact State.get_calLost _ _ _ _ _
  have heps : eps.get q g = delays.get q g := by
    unfold eps
    split_ifs
    · exact State.get_calLost _ _ _ _ _
    · rfl
  have hrecorded : recorded.get q g = eps.get q g := eps.get_record _ _ _ _ hq
  rw [(recorded.onlyEvents_mbxUnit _ _ _).get q g hq.lt hcalm, hrecorded, heps, hdelays]

/-! ### What calibration leaves (R415) -/

/-- A page that no calibration value reaches. -/
structure Page.Uncalibrated (q : Page) : Prop where
  grd : ∀ n, Page.grd n ≠ q
  ltn : ∀ x, Page.ltn x ≠ q
  sxl : ∀ n, Page.sxl n ≠ q
  cal : Page.cal ≠ q

theorem Page.eng_uncalibrated (n : Fin 4) : (Page.eng n).Uncalibrated := ⟨fun _ => nofun, fun _ => nofun, fun _ => nofun, nofun⟩

theorem State.get_ltnDelaySnap (s : State) (x : Fin 6) {q : Page} {g : RF} (hq : Page.ltn x ≠ q) (hg : QuietReg q g) :
    (s.ltnDelaySnap x).get q g = s.get q g := by
  have hlt := hg.lt
  unfold State.ltnDelaySnap
  extract_lets ro rc o c shown
  have hshown : shown.get q g = s.get q g := by
    unfold shown
    rw [State.get_put_page _ _ _ _ _ _ hq (by decide) hlt, State.get_put_page _ _ _ _ _ _ hq (by decide) hlt,
      State.get_put_page _ _ _ _ _ _ hq (by decide) hlt]
  split_ifs
  · rw [State.get_raise _ _ _ _ _ hg, hshown]
  · exact hshown

theorem State.get_putScnTrim (s : State) (k : Fin 2) (f r : Nat) {q : Page} {g : RF} (hq : Page.cal ≠ q)
    (hg : g.off < 0x1000) : ((s.put .cal (CAL_SCN_TRIM_FWD k.val) f).put .cal (CAL_SCN_TRIM_RET k.val) r).get q g = s.get q g := by
  have hfwd : (CAL_SCN_TRIM_FWD k.val).off < 0x1000 := by simp only [CAL_SCN_TRIM_FWD]; omega
  have hret : (CAL_SCN_TRIM_RET k.val).off < 0x1000 := by simp only [CAL_SCN_TRIM_RET]; omega
  rw [State.get_put_page _ _ _ _ _ _ hq hret hg, State.get_put_page _ _ _ _ _ _ hq hfwd hg]

/-- New calibration values reach Grinders, Lanterns, links and scanners. -/
theorem State.get_calApply (s : State) (cls inst : Nat) (vals : List Int) (snap : Bool) {q : Page} {g : RF}
    (hq : q.Uncalibrated) (hg : QuietReg q g) : (s.calApply cls inst vals snap).get q g = s.get q g := by
  have hlt := hg.lt
  unfold State.calApply
  split
  case h_1 =>
    split
    · rfl
    · extract_lets half
      refine List.foldlRecOn (motive := fun u : State => u.get q g = s.get q g) _ _ rfl fun u hu b hb => ?_
      have hb32 : b < 32 := by have := List.mem_range.mp hb; omega
      extract_lets ts e target
      have htarget : target.get q g = s.get q g := by
        unfold target
        rw [State.get_put_page _ _ _ _ _ _ (hq.grd _) (by simp only [GRD_BLK_E_TGT]; omega) hlt,
          State.get_put_page _ _ _ _ _ _ (hq.grd _) (by simp only [GRD_BLK_TS_TGT]; omega) hlt]
        exact hu
      split_ifs
      · rw [State.get_put_page _ _ _ _ _ _ (hq.grd _) (by simp only [GRD_BLK_E]; omega) hlt,
          State.get_put_page _ _ _ _ _ _ (hq.grd _) (by simp only [GRD_BLK_TS]; omega) hlt]
        exact htarget
      · exact htarget
  case h_2 =>
    split
    · rfl
    · extract_lets echo
      split_ifs
      · exact (echo.get_ltnDelaySnap _ (hq.ltn _) hg).trans (State.modLtn_get _ _ _ _ _)
      · rfl
  case h_3 =>
    split
    · rfl
    · extract_lets d dark
      rw [State.get_put_page _ _ _ _ _ _ (hq.ltn _) (by decide) hlt, State.modLtn_get]
      exact s.modCal_get _ q g
  case h_4 =>
    split
    · rfl
    · extract_lets e r eps
      split_ifs
      · rw [State.get_put_page _ _ _ _ _ _ (hq.sxl _) (by decide) hlt, State.modSxl_get]
        exact State.modSxl_get _ _ _ _ _
      · exact State.modSxl_get _ _ _ _ _
  case h_5 =>
    split
    · rfl
    · split_ifs
      · rfl
      · rfl
  case h_6 =>
    split
    · rfl
    · extract_lets f r target
      split_ifs
      · exact (target.get_putScnTrim _ _ _ hq.cal hlt).trans (s.modCal_get _ q g)
      · exact s.modCal_get _ q g
  case h_7 => rfl

theorem State.get_calDeliver (s : State) (u : Nat) (any : Bool) {q : Page} {g : RF} (hq : q.Uncalibrated)
    (hg : QuietReg q g) :
    (s.calDeliver u any).get q g = s.get q g := by
  unfold State.calDeliver
  extract_lets mine now taken
  have htaken : taken.get q g = s.get q g := s.modCal_get _ q g
  rw [State.get_foldl (fun v e => ?_) now taken, htaken]
  exact v.get_calApply e.cls e.inst e.vals any hq hg

theorem State.get_adcSwitch (s : State) (x : Fin 6) (frames : Bool) {q : Page} {g : RF} (hq : q.Uncalibrated)
    (hg : QuietReg q g) :
    (s.adcSwitch x frames).get q g = s.get q g := by
  have hlt := hg.lt
  unfold State.adcSwitch State.adcReplace
  extract_lets b k j spared
  split_ifs
  · rw [State.get_raise _ _ _ _ _ hg, State.get_put_page _ _ _ _ _ _ (hq.ltn _) (by decide) hlt,
      State.get_put_page _ _ _ _ _ _ (hq.ltn _) (by decide) hlt]
    rfl
  · rfl
  · exact State.get_put_page _ _ _ _ _ _ (hq.ltn _) (by decide) hlt
  · exact State.get_put_page _ _ _ _ _ _ (hq.ltn _) (by decide) hlt
  · rfl

theorem State.get_calLeave (s : State) (x : Fin 6) {q : Page} {g : RF} (hq : q.Uncalibrated)
    (hg : QuietReg q g) :
    (s.calLeave x).get q g = s.get q g := by
  unfold State.calLeave
  extract_lets delivered preset
  have hdelivered : delivered.get q g = s.get q g := s.get_calDeliver _ _ hq hg
  have hpreset : preset.get q g = delivered.get q g := by
    unfold preset
    split
    · split
      · rfl
      · exact delivered.get_calApply _ _ _ _ hq hg
    · split
      · rfl
      · exact delivered.get_putScnTrim _ _ _ hq.cal hg.lt
  exact (preset.get_adcSwitch x false hq hg).trans (hpreset.trans hdelivered)

/-! ### A commit writes `COMMIT` and events (R42, R46) -/

theorem State.get_mark_anyoff (s : State) (p q : Page) (f g : RF) (h : f.off ≠ g.off) (hf : f.off < 0x1000)
    (hg : g.off < 0x1000) : (s.mark p f).get q g = s.get q g :=
  (State.get_put_anyoff _ p q f g 1 h hf hg).trans (State.note_get _ _ _ _ _ _)

theorem State.get_commitStatus (s : State) (g : Group) (late reject : Bool) (q : Page) {f : RF} (hf : f.off < 0x1000)
    (hc : COMMIT.off ≠ f.off) : (s.commitStatus g late reject).get q f = s.get q f := by
  unfold State.commitStatus
  extract_lets cleared dated
  have hdated : dated.get q f = s.get q f := by
    unfold dated
    split_ifs
    · exact (State.get_mark_anyoff _ _ _ COMMIT_LATE f hc (by decide) hf).trans
        (State.get_put_anyoff _ _ _ COMMIT_PENDING f 0 hc (by decide) hf)
    · exact State.get_put_anyoff _ _ _ COMMIT_PENDING f 0 hc (by decide) hf
  split_ifs
  · exact (State.get_mark_anyoff _ _ _ COMMIT_REJECT f hc (by decide) hf).trans hdated
  · exact hdated

theorem State.get_commitClose (s : State) (g : Group) (late reject : Bool) (blame : Page) {q : Page} {f : RF}
    (hf : f.off < 0x1000) (hcalm : f.off ∉ eventOffs) (hc : COMMIT.off ≠ f.off) :
    (s.commitClose g late reject blame).get q f = s.get q f :=
  ((s.onlyEvents_commitClose g late reject blame).get q f hf hcalm).trans (s.get_commitStatus g late reject q hf hc)

theorem State.get_commitWhole (s : State) (g : Group) (late : Bool) (fails : List CommitFail) {q : Page} {f : RF}
    (hq : QuietReg q f) (hcalm : f.off ∉ eventOffs) (hc : COMMIT.off ≠ f.off) :
    (s.commitWhole g late fails).1.get q f = s.get q f := by
  have hlt := hq.lt
  unfold State.commitWhole
  split
  · unfold State.commitReject
    rw [State.get_commitClose _ _ _ _ _ hlt hcalm hc, State.get_errHw _ _ _ _ _ _ hq]
  · rw [State.get_commitClose _ _ _ _ _ hlt hcalm hc, State.releasePages_get]

theorem State.get_grdValInfo (s : State) (n : Fin 4) {q : Page} {f : RF} (hq : Page.grd n ≠ q) (hf : f.off < 0x1000) :
    (s.grdValInfo n).get q f = s.get q f := by
  unfold State.grdValInfo
  extract_lets fs
  split
  · rfl
  · split
    · exact State.get_put_page _ _ _ _ _ _ hq (by decide) hf
    · rfl

theorem State.get_engCommit (s : State) (n : Fin 4) (sync : Bool) {q : Page} {f : RF} (hgrd : Page.grd n ≠ q)
    (hq : QuietReg q f) (hcalm : f.off ∉ eventOffs) (hc : COMMIT.off ≠ f.off) (hlate : ENG_LATE_CNT.off ≠ f.off) :
    (s.engCommit n sync).1.get q f = s.get q f := by
  have hlt := hq.lt
  unfold State.engCommit
  extract_lets g late counted fails inc shown
  have hcounted : counted.get q f = s.get q f := by
    unfold counted
    split_ifs
    · exact State.get_bump_ne _ _ _ _ _ (Page.addr_ne_off _ _ hlate (by decide) hlt)
    · rfl
  have hshown : shown.get q f = counted.get q f := by
    unfold shown
    split_ifs
    · rfl
    · exact counted.get_grdValInfo n hgrd hlt
  have hwhole := shown.get_commitWhole g late fails hq hcalm hc
  rw [hshown, hcounted] at hwhole
  generalize shown.commitWhole g late fails = w at hwhole ⊢
  rw [← hwhole]
  dsimp only
  split_ifs
  · rfl
  · rfl
  · rfl
  · rfl

theorem State.get_engCommitStopped (s : State) (n : Fin 4) {q : Page} {f : RF} (hgrd : Page.grd n ≠ q)
    (hq : QuietReg q f) (hcalm : f.off ∉ eventOffs) (hc : COMMIT.off ≠ f.off) (hlate : ENG_LATE_CNT.off ≠ f.off) :
    (s.engCommitStopped n).get q f = s.get q f := by
  unfold State.engCommitStopped
  split_ifs
  · exact s.get_engCommit n false hgrd hq hcalm hc hlate
  · rfl

/-! ### What each stage leaves -/

theorem State.get_engStopFrames (s : State) (n : Fin 4) {q : Page} {g : RF} (hgrd : Page.grd n ≠ q) (hg : g.off < 0x1000)
    (hstatus : (Page.eng n).base + ENG_STATUS.off ≠ q.base + g.off) : (s.engStopFrames n).get q g = s.get q g := by
  have hput : ∀ (u : State) (f : RF) (v : Nat), f.off = ENG_STATUS.off → (u.put (.eng n) f v).get q g = u.get q g :=
    fun u f v hf => State.get_put_ne _ _ _ _ _ _ (hf ▸ hstatus)
  unfold State.engStopFrames
  extract_lets stopped phase shown
  rw [State.get_grdStop _ _ hgrd hg]
  unfold shown
  rw [hput _ ENG_STATUS_FLUX_CLAMP _ rfl, hput _ ENG_STATUS_OVERLONG _ rfl]
  unfold phase
  rw [hput _ ENG_STATUS_HOLD_PHASE _ rfl, hput _ ENG_STATUS_BLANKING _ rfl]
  exact State.modEng_get _ _ _ _ _

theorem State.get_planAt (s : State) (t : Nat) (q : Page) (g : RF) : ({ s with planAt := t } : State).get q g = s.get q g := rfl

theorem State.get_engEntered (s : State) (n : Fin 4) (new cause : Nat) {q : Page} {g : RF} (hq : QuietReg q g) :
    (s.engEntered n new cause).get q g =
      ((s.put (.eng n) ENG_STATE_INFO (cause * 256 + s.engState n)).put (.eng n) BLK_STATE new).get q g := by
  unfold State.engEntered
  extract_lets shown u
  have hu : u.get q g = shown.get q g := (State.get_raise _ _ _ _ _ hq).trans (shown.get_planAt s.now q g)
  split_ifs
  · rw [State.get_errHw _ _ _ _ _ _ hq, hu]
  · exact hu

theorem State.get_engLinked (s : State) (n : Fin 4) (old new cause : Nat) {q : Page} {g : RF} (hq : Page.sxl n ≠ q)
    (hg : g.off < 0x1000) : (s.engLinked n old new cause).get q g = s.get q g := by
  unfold State.engLinked
  extract_lets parked
  have hparked : parked.get q g = s.get q g := by
    unfold parked
    split_ifs
    · exact s.get_linkPark n _ hq hg
    · exact s.get_linkPark n _ hq hg
    · rfl
  split_ifs
  · exact (State.modEng_get _ _ _ _ _).trans hparked
  · exact (State.modEng_get _ _ _ _ _).trans hparked

/-- A field in which an engine's page shows its state and cause: no more than its entry writes it. -/
abbrev EngShows (g : RF) : Prop := g.off ∈ [BLK_STATE.off, ENG_STATE_INFO.off]

theorem EngShows.calm {g : RF} (h : EngShows g) (n : Fin 4) : QuietReg (.eng n) g ∧ g.off ∉ eventOffs ∧
    COMMIT.off ≠ g.off ∧ ENG_LATE_CNT.off ≠ g.off ∧ ENG_STATUS.off ≠ g.off := by
  have hcalm : ∀ o ∈ [BLK_STATE.off, ENG_STATE_INFO.off], (o < 0x1000 ∧ o ≠ IRQ_STAT.off ∧ o ≠ ERR_CODE.off ∧
      o ≠ ERR_INFO.off ∧ o ≠ ERR_CNT.off) ∧ o ∉ eventOffs ∧ COMMIT.off ≠ o ∧ ENG_LATE_CNT.off ≠ o ∧ ENG_STATUS.off ≠ o := by
    decide
  obtain ⟨hquiet, hrest⟩ := hcalm g.off h
  exact ⟨⟨nofun, hquiet⟩, hrest⟩

theorem State.get_engLeft (s : State) (n : Fin 4) (old new : Nat) (frames : Bool) {g : RF} (hg : EngShows g) :
    (s.engLeft n old new frames).get (.eng n) g = s.get (.eng n) g := by
  obtain ⟨hquiet, hcalm, hcommit, hlate, hstatus⟩ := hg.calm n
  have hlt := hquiet.lt
  unfold State.engLeft
  extract_lets stays stopped granted measured
  have hstopped : stopped.get (.eng n) g = s.get (.eng n) g := by
    unfold stopped
    split_ifs
    · rfl
    · exact s.get_engStopFrames n nofun hlt (Page.addr_ne_off _ _ hstatus (by decide) hlt)
  have hgranted : granted.get (.eng n) g = stopped.get (.eng n) g := by
    unfold granted
    split_ifs
    · exact State.get_put_off _ _ ENG_STATUS_PBA_WAIT _ _ hstatus
    · rfl
  have hmeasured : measured.get (.eng n) g = granted.get (.eng n) g := by
    unfold measured
    split_ifs
    · unfold State.ltnForget
      rw [State.modLtn_get, granted.get_calLeave _ (Page.eng_uncalibrated n) hquiet]
    · rfl
  rw [← hstopped, ← hgranted, ← hmeasured]
  split_ifs
  · exact measured.get_engCommitStopped n nofun hquiet hcalm hcommit hlate
  · rfl

/-- What an engine's page shows of its state is what its entry wrote. -/
theorem State.get_engTo (s : State) (n : Fin 4) (new cause : Nat) {g : RF} (hg : EngShows g) :
    (s.engTo n new cause).get (.eng n) g =
      ((s.put (.eng n) ENG_STATE_INFO (cause * 256 + s.engState n)).put (.eng n) BLK_STATE new).get (.eng n) g := by
  obtain ⟨hquiet, hcalm, -⟩ := hg.calm n
  have hlt := hquiet.lt
  rw [State.engTo_eq, State.get_noteState _ _ _ _ _ hquiet hcalm, State.get_engLinked _ _ _ _ _ (q := .eng n) nofun hlt,
    State.get_ltnFollow _ _ _ _ (q := .eng n) nofun hlt, State.get_engLeft _ _ _ _ _ hg, State.get_engEntered _ _ _ _ hquiet]

theorem State.engState_engTo (s : State) (n : Fin 4) {new : Nat} (cause : Nat) (h : new < 2 ^ 8) :
    (s.engTo n new cause).engState n = new := by
  unfold State.engState
  rw [State.get_engTo _ _ _ _ (by decide), State.get_put_same _ _ _ _ (by decide)]
  exact Nat.mod_eq_of_lt h

/-- The cause stands above the state that was left (R115). -/
theorem bitsOf_cause {cause old : Nat} (hc : cause < 2 ^ 8) (ho : old < 2 ^ 8) :
    bitsOf ((cause * 256 + old) % 2 ^ 32) 8 8 = cause := by
  simp only [bitsOf]
  omega

theorem State.get_stateCause (s : State) (n : Fin 4) :
    s.get (.eng n) ENG_STATE_INFO_CAUSE = bitsOf (s.get (.eng n) ENG_STATE_INFO) 8 8 := by
  have hword : ∀ x, bitsOf x 8 8 = bitsOf (bitsOf x 0 32) 8 8 := fun x => by
    simp only [bitsOf]
    omega
  exact hword _

theorem State.cause_engTo (s : State) (n : Fin 4) (new : Nat) {cause : Nat} (h : cause < 2 ^ 8) :
    (s.engTo n new cause).get (.eng n) ENG_STATE_INFO_CAUSE = cause := by
  have hold : s.engState n < 2 ^ 8 := s.get_lt (.eng n) BLK_STATE
  rw [State.get_engTo _ _ _ _ (by decide), State.get_put_off _ _ _ _ _ (by decide), State.get_stateCause,
    State.get_put_same _ _ _ _ (by decide)]
  exact bitsOf_cause h hold

end Sys2Proof.Machine

/-! ## Engine commands follow the table (R114) -/

namespace Sys2Proof.Machine

/-! ### The Lantern of an engine that goes OFF (R142, R158) -/

theorem State.ltnOffPins_dark (s : State) (x : Fin 6) : (s.ltnOffPins x).lanternDark x = true := by
  rw [State.lanternDark_iff]
  unfold State.ltnOffPins
  rw [State.modLtn_ltn, State.modLtn_get]
  refine ⟨rfl, ?_⟩
  unfold State.ltnDark
  rw [State.get_put_apart _ _ LTN_STATUS_LSEL LTN_STATUS_WIN _ rfl (by decide) (by decide),
    State.get_put_same _ _ _ _ (by decide)]
  rfl

theorem State.keepsOff_ltnTo (s : State) (x : Fin 6) (st : Nat) : KeepsOff s (s.ltnTo x st) := by
  unfold State.ltnTo
  extract_lets lit ready
  have hlit : KeepsOff s lit := .ite (fun _ => .refl s) fun _ => s.keepsOff_calLost _ _
  have hready : KeepsOff lit ready := .ite (fun _ => .refl lit) fun _ => lit.keepsOff_calLost _ _
  exact (hlit.trans hready).trans (ready.keepsOff_putLtnState x st)

/-- The Lantern follows its engine to OFF dark, unless its interlock has tripped. -/
theorem State.ltnFollow_off_dark (s : State) (x : Fin 6) (old : Nat) (h : s.ltnState x ≠ LTN_TRIPPED) :
    (s.ltnFollow x old E_OFF).lanternDark x = true := by
  unfold State.ltnFollow
  extract_lets st cleared resumed
  rw [if_pos rfl, if_neg h]
  exact (State.keepsOff_ltnTo _ x LTN_OFF).dark (resumed.ltnOffPins_dark x)

theorem State.keepsOff_putLink (s : State) (n : Fin 4) (f : RF) (v : Nat) (hf : f.off < 0x1000) :
    KeepsOff s (s.put (.sxl n) f v) := s.keepsOff_put_page f v (fun _ => nofun) (fun _ => nofun) hf

theorem State.keepsOff_modSxl (s : State) (n : Fin 4) (f : Link → Link) : KeepsOff s (s.modSxl n f) := .of_regs rfl rfl
theorem State.keepsOff_modEng (s : State) (n : Fin 4) (f : Engine → Engine) : KeepsOff s (s.modEng n f) := .of_regs rfl rfl

theorem State.keepsOff_linkPark (s : State) (n : Fin 4) (pat : Nat) : KeepsOff s (s.linkPark n pat) :=
  .ite (fun _ => (s.keepsOff_modSxl n _).trans (State.keepsOff_putLink _ _ _ _ (by decide))) fun _ => .refl s

theorem State.keepsOff_engLinked (s : State) (n : Fin 4) (old new cause : Nat) :
    KeepsOff s (s.engLinked n old new cause) := by
  unfold State.engLinked
  extract_lets parked
  have hparked : KeepsOff s parked := .ite (fun _ => s.keepsOff_linkPark n _) fun _ =>
    .ite (fun _ => s.keepsOff_linkPark n 0) fun _ => .refl s
  exact hparked.trans (.ite (fun _ => parked.keepsOff_modEng n _) fun _ => parked.keepsOff_modEng n _)

theorem State.keepsOff_noteState (s : State) (u prev new cause : Nat) : KeepsOff s (s.noteState u prev new cause) := by
  unfold State.noteState
  extract_lets delays eps recorded
  have hdelays : KeepsOff s delays := .ite (fun _ => .refl s) fun _ =>
    .ite (fun _ => s.keepsOff_calLost _ _) fun _ => s.keepsOff_calLost _ _
  have heps : KeepsOff delays eps := .ite (fun _ => delays.keepsOff_calLost _ _) fun _ => .refl delays
  have hrecorded : KeepsOff eps recorded := eps.keepsOff_record _ _
  exact ((hdelays.trans heps).trans hrecorded).trans
    ((recorded.onlyEvents_mbxUnit _ _ _).keepsOff (recorded.mbxUnit_ltn _ _ _))

/-- An engine without frames has none to end. -/
theorem State.get_engLeft_noFrames (s : State) (n : Fin 4) (old new : Nat) {q : Page} {g : RF} (hgrd : Page.grd n ≠ q)
    (heng : Page.eng n ≠ q) (hg : g.off < 0x1000) : (s.engLeft n old new false).get q g = s.get q g := by
  unfold State.engLeft
  extract_lets stays stopped granted measured
  have hstopped : stopped.get q g = s.get q g := by
    unfold stopped
    split_ifs
    · rfl
    · exact s.get_engStopFrames n hgrd hg (Page.addr_ne heng (by decide) hg)
  have hgranted : granted.get q g = stopped.get q g := by
    unfold granted
    split_ifs
    · exact State.get_put_page _ _ _ _ _ _ heng (by decide) hg
    · rfl
  have hnone : ¬ (false = true ∧ (!decide stays) = true) := fun h => Bool.false_ne_true h.1
  unfold measured
  rw [if_neg hnone, if_neg hnone, hgranted, hstopped]

theorem State.engTo_off_dark (s : State) (n : Fin 4) (cause : Nat) (hframes : s.engFrames n = false)
    (h : s.ltnState (ltnOfEng n) ≠ LTN_TRIPPED) : (s.engTo n E_OFF cause).lanternDark (ltnOfEng n) = true := by
  have hne : Page.eng n ≠ .ltn (ltnOfEng n) := nofun
  rw [State.engTo_eq, hframes]
  refine ((State.keepsOff_engLinked _ _ _ _ _).trans (State.keepsOff_noteState _ _ _ _ _)).dark
    (State.ltnFollow_off_dark _ _ _ ?_)
  unfold State.ltnState at h ⊢
  rw [State.get_engLeft_noFrames _ _ _ _ (q := .ltn (ltnOfEng n)) nofun hne (by decide),
    State.get_engEntered _ _ _ _ (q := .ltn (ltnOfEng n)) ⟨nofun, by decide⟩,
    State.get_put_page _ _ _ _ _ _ hne (by decide) (by decide), State.get_put_page _ _ _ _ _ _ hne (by decide) (by decide)]
  exact h

theorem State.keepsOff_linkStop (s : State) (n : Fin 4) : KeepsOff s (s.linkStop n) := by
  unfold State.linkStop State.sxlTo
  extract_lets stopped down shown
  have hstopped : KeepsOff s stopped := s.keepsOff_modSxl n _
  have hdown : KeepsOff stopped down :=
    (stopped.keepsOff_putLink n _ _ (by decide)).trans (State.keepsOff_putLink _ _ _ _ (by decide))
  have hshown : KeepsOff down shown :=
    (down.keepsOff_putLink n _ _ (by decide)).trans (State.keepsOff_putLink _ _ _ _ (by decide))
  exact ((hstopped.trans hdown).trans hshown).trans (shown.keepsOff_putLink n _ _ (by decide))

/-- After its transition to OFF an engine gives up link, grant and domains, and stays OFF. -/
theorem State.keepsOff_engOff (s : State) (n : Fin 4) : KeepsOff (s.engTo n E_OFF 0) (s.engOff n) := by
  have hready : (⟨COMP_STATUS.off, 8 + n.val, 1⟩ : RF).off < 0x1000 := show COMP_STATUS.off < 0x1000 by decide
  unfold State.engOff
  extract_lets off down idle unready
  have hdown : KeepsOff off down := (off.keepsOff_linkStop n).trans
    (State.keepsOff_put_off _ (.eng n) (f := ENG_STATUS_PBA_WAIT) 0 (by decide) (by decide) (by decide))
  have hidle : KeepsOff down idle := down.keepsOff_modEng n _
  have hunready : KeepsOff idle unready := idle.keepsOff_put_page (p := .comp 0) _ 0 (fun _ => nofun) (fun _ => nofun) hready
  exact ((hdown.trans hidle).trans hunready).trans (unready.keepsOff_pbaRelease _ _)

theorem State.engState_engOff (s : State) (n : Fin 4) : (s.engOff n).engState n = E_OFF :=
  (s.keepsOff_engOff n).off n (s.engState_engTo n 0 (by decide))

theorem State.engOff_dark (s : State) (n : Fin 4) (hframes : s.engFrames n = false)
    (h : s.ltnState (ltnOfEng n) ≠ LTN_TRIPPED) : (s.engOff n).lanternDark (ltnOfEng n) = true :=
  (s.keepsOff_engOff n).dark (s.engTo_off_dark n 0 hframes h)

/-! ### What the commands leave (R114) -/

/-- The commands waiting for a START are answered by events. -/
theorem State.onlyEvents_mbxStartCut (s : State) (u : Nat) : OnlyEvents s (s.mbxStartCut u) :=
  s.onlyEvents_mbxFinishAll _ _ _ _

theorem State.engState_mbxStartCut (s : State) (u : Nat) (n : Fin 4) : (s.mbxStartCut u).engState n = s.engState n :=
  (s.onlyEvents_mbxStartCut u).get (.eng n) BLK_STATE (by decide) (by decide)

theorem State.ltnState_mbxStartCut (s : State) (u : Nat) (x : Fin 6) : (s.mbxStartCut u).ltnState x = s.ltnState x :=
  (s.onlyEvents_mbxStartCut u).get (.ltn x) BLK_STATE (by decide) (by decide)

theorem State.engState_engRetrain (s : State) (n : Fin 4) : (s.engRetrain n).engState n = E_TRAIN := by
  have htrain : (s.engTo n E_TRAIN 0).engState n = E_TRAIN := s.engState_engTo n 0 (by decide)
  unfold State.engState at htrain ⊢
  unfold State.engRetrain
  extract_lets u
  split_ifs
  · exact (u.get_trainStart n (q := .eng n) nofun (by decide)).trans htrain
  · exact (u.get_put_off (.eng n) ENG_STATUS_PBA_WAIT BLK_STATE 1 (by decide)).trans htrain

theorem State.get_pbaShow (s : State) {q : Page} {g : RF} (hq : Page.pba ≠ q) (hg : g.off < 0x1000) :
    s.pbaShow.get q g = s.get q g := by
  have hput : ∀ (u : State) (f : RF) (v : Nat), f.off < 0x1000 → (u.put .pba f v).get q g = u.get q g := fun u f v hf =>
    State.get_put_page _ _ _ _ _ _ hq hf hg
  unfold State.pbaShow State.pbaState
  extract_lets m w g' waits grants core length slot budget
  have hslot : slot.get q g = s.get q g := by
    unfold slot length core grants waits
    rw [hput _ _ _ (by decide), hput _ _ _ (by decide), hput _ _ _ (by decide), hput _ _ _ (by decide),
      hput _ _ _ (by decide), hput _ _ _ (by decide), hput _ _ _ (by decide)]
  have hbudget : budget.get q g = slot.get q g := by
    unfold budget
    split_ifs
    · exact hput _ _ _ (by decide)
    · rfl
  rw [hput _ _ _ (by decide), hbudget, hslot]

theorem State.get_pbaRequest (s : State) (id port : Nat) {q : Page} {g : RF} (hq : Page.pba ≠ q) (hg : g.off < 0x1000) :
    (s.pbaRequest id port).get q g = s.get q g := by
  unfold State.pbaRequest
  split_ifs
  · rfl
  · exact State.get_pbaShow _ hq hg

theorem State.pbaShow_pba (s : State) : s.pbaShow.pba = s.pba := by
  unfold State.pbaShow State.pbaState
  extract_lets m w g waits grants core length slot budget
  have hslot : slot.pba = s.pba := by
    unfold slot length core grants waits
    rw [State.put_pba, State.put_pba, State.put_pba, State.put_pba, State.put_pba, State.put_pba, State.put_pba]
  rw [State.put_pba]
  unfold budget
  split_ifs
  · rw [State.put_pba, hslot]
  · exact hslot

/-- A requester that asks holds a grant or waits (R376). -/
theorem State.pbaRequest_asks (s : State) (id port : Nat) : (s.pbaRequest id port).pba.grants.contains (id, port) = true ∨
    ∃ q ∈ (s.pbaRequest id port).pba.queue, q.id = id ∧ q.port = port := by
  unfold State.pbaRequest
  split_ifs with h
  · rcases h with hgrant | hqueue
    · exact .inl hgrant
    · obtain ⟨q, hq, hsame⟩ := List.any_eq_true.mp hqueue
      rw [Bool.and_eq_true, beq_iff_eq, beq_iff_eq] at hsame
      exact .inr ⟨q, hq, hsame⟩
  · rw [State.pbaShow_pba]
    exact .inr ⟨_, List.mem_append_right _ (List.mem_singleton.mpr rfl), rfl, rfl⟩

/-! ### The statement -/

/-- Settles O55: each command takes its row of the table, and the transition's register frame shows the state that row
names. -/
theorem engineCommandsFollowTheTable : Obligations.EngineCommandsFollowTheTable := by
  intro s n path off
  refine ⟨?startOff, ?startSafe, ?stop, ?park, ?faultClear⟩
  case startOff =>
    intro hoff hprog
    rw [s.engStart_off n path off hprog hoff]
    dsimp only
    refine ⟨rfl, ?state, ?waits, State.pbaRequest_asks _ _ _⟩
    case state =>
      unfold State.engState
      rw [State.get_pbaRequest _ _ _ (q := .eng n) nofun (by decide), State.get_put_off _ _ _ _ _ (by decide)]
      exact State.engState_engTo _ n 0 (by decide)
    case waits =>
      unfold State.flag
      rw [State.get_pbaRequest _ _ _ (q := .eng n) nofun (by decide), State.get_put_same _ _ _ _ (by decide)]
      rfl
  case startSafe =>
    intro hsafe hprog
    rw [s.engStart_safe n path off hprog hsafe]
    dsimp only
    exact ⟨rfl, State.engState_engRetrain _ n⟩
  case stop =>
    intro hstate
    rw [s.engStop_dark n path off hstate]
    dsimp only
    refine ⟨rfl, State.engState_engOff _ n, fun htrip => State.engOff_dark _ n ?_ ?_⟩
    · unfold State.engFrames
      rw [State.engState_mbxStartCut]
      rcases hstate with h | h | h <;> rw [h] <;> rfl
    · rw [State.ltnState_mbxStartCut]
      exact htrip
  case park =>
    intro hstate
    rw [s.engPark_light n path off hstate]
    dsimp only
    exact ⟨rfl, State.engState_engTo _ n CAUSE_PARK (by decide), State.cause_engTo _ n E_SAFE (by decide)⟩
  case faultClear =>
    intro hfault hgone
    rw [s.engFaultClear_gone n path off hfault hgone]
    dsimp only
    exact ⟨rfl, State.engState_engOff s n⟩

end Sys2Proof.Machine

/-! ## Reads of time-stamps (R119, R164, R218, R247, R268, R273, R291, R406) -/

namespace Sys2Proof.Machine

/-- A command that is one read of a register completes with the word read and the side effects of the read. -/
theorem completes_of_register_read {c : Nat → Instr} {path : Path} {p : Page} {f : RF} {Q : State → State → Prop}
    (hexec : ∀ t s, exec (c t) s = .next ((s.at t).getBy path p f)) (hf : f.off < 0x800)
    (hQ : ∀ u, Q u ((u.readSide path p f.off).answer (BitVec.ofNat 32 (u.regRead path p f.off)))) :
    Completes c (fun u => u.readable path p f = true) Q := fun t s hread =>
  ⟨_, (hexec t s).trans (congrArg Host.Outcome.next ((s.at t).getBy_reaches path p f hf hread)), hQ _⟩

/-- A command that is one read of a stamp's nanoseconds latches the stamp's seconds. -/
theorem completes_of_stamp_read {c : Nat → Instr} {path : Path} {p : Page} {f : RF}
    (hexec : ∀ t s, exec (c t) s = .next ((s.at t).getBy path p f)) (hf : f.off < 0x800)
    (hside : ∀ u : State, u.readSide path p f.off = u.latchStamp p f) :
    Completes c (fun u => u.readable path p f = true)
      (fun u r => r = (u.latchStamp p f).answer (BitVec.ofNat 32 (u.regRead path p f.off))) :=
  completes_of_register_read hexec hf fun u => by rw [hside]

/-! ### What each command reads -/

theorem exec_timeNowRead (t : Nat) (path : Path) (s : State) :
    exec (.timeNowRead t path) s = .next ((s.at t).getBy path .time TIME_NOW_NS) := rfl
theorem exec_engFstartNsRead (t : Nat) (path : Path) (n : Fin 4) (s : State) :
    exec (.engFstartNsRead t path n) s = .next ((s.at t).getBy path (.eng n) ENG_FSTART_NS) := rfl
theorem exec_scnFstartNsRead (t : Nat) (path : Path) (k : Fin 2) (s : State) :
    exec (.scnFstartNsRead t path k) s = .next ((s.at t).getBy path (.scn k) SCN_FSTART_NS) := rfl
theorem exec_ltnIlkTimeNsRead (t : Nat) (path : Path) (x : Fin 6) (s : State) :
    exec (.ltnIlkTimeNsRead t path x) s = .next ((s.at t).getBy path (.ltn x) LTN_ILK_TIME_NS) := rfl
theorem exec_npLatchNsRead (t : Nat) (path : Path) (q : Fin 104) (s : State) :
    exec (.npLatchNsRead t path q) s = .next ((s.at t).getBy path (npPage q) (NP_LATCH_NS (npLane q))) := rfl
theorem exec_mxFstartNsRead (t : Nat) (path : Path) (q : Fin 24) (s : State) :
    exec (.mxFstartNsRead t path q) s = .next ((s.at t).getBy path (mxPage q) (MX_FSTART_NS (mxLane q))) := rfl
theorem exec_timePpsinNsRead (t : Nat) (path : Path) (s : State) :
    exec (.timePpsinNsRead t path) s = .next ((s.at t).getBy path .time TIME_PPSIN_NS) := rfl
theorem exec_thermShutNsRead (t : Nat) (path : Path) (s : State) :
    exec (.thermShutNsRead t path) s = .next ((s.at t).getBy path .therm THERM_SHUT_NS) := rfl

/-! ### The side effect of each read -/

theorem State.readSide_timeNow (s : State) (path : Path) : s.readSide path .time TIME_NOW_NS.off = s.latchNow path := rfl
theorem State.readSide_engFstart (s : State) (path : Path) (n : Fin 4) :
    s.readSide path (.eng n) ENG_FSTART_NS.off = s.latchStamp (.eng n) ENG_FSTART_NS := rfl
theorem State.readSide_scnFstart (s : State) (path : Path) (k : Fin 2) :
    s.readSide path (.scn k) SCN_FSTART_NS.off = s.latchStamp (.scn k) SCN_FSTART_NS := rfl
theorem State.readSide_ltnIlkTime (s : State) (path : Path) (x : Fin 6) :
    s.readSide path (.ltn x) LTN_ILK_TIME_NS.off = s.latchStamp (.ltn x) LTN_ILK_TIME_NS := rfl
theorem State.readSide_timePpsin (s : State) (path : Path) :
    s.readSide path .time TIME_PPSIN_NS.off = s.latchStamp .time TIME_PPSIN_NS := rfl
theorem State.readSide_thermShut (s : State) (path : Path) :
    s.readSide path .therm THERM_SHUT_NS.off = s.latchStamp .therm THERM_SHUT_NS := rfl

/-- The offset of a lane's register tells the lane (R247). -/
theorem npLatchNs_lane {l : Nat} (h : l < 8) : 0x100 ≤ (NP_LATCH_NS l).off ∧ (NP_LATCH_NS l).off < 0x800 ∧
    ((NP_LATCH_NS l).off - 0x100) / 0x80 = l := by
  simp only [NP_LATCH_NS]
  omega

theorem State.readSide_npLatch (s : State) (path : Path) (g : Fin 13) {l : Nat} (h : l < 8) :
    s.readSide path (.np g) (NP_LATCH_NS l).off = s.latchStamp (.np g) (NP_LATCH_NS l) := by
  obtain ⟨hlow, -, hlane⟩ := npLatchNs_lane h
  simp only [State.readSide, hlane, hlow, h, and_self, if_true]

/-- The offset of a lane's register tells the lane (R268). -/
theorem mxFstartNs_lane {l : Nat} (h : l < 8) : 0x100 ≤ (MX_FSTART_NS l).off ∧ (MX_FSTART_NS l).off < 0x800 ∧
    ((MX_FSTART_NS l).off - 0x100) / 0x80 = l := by
  simp only [MX_FSTART_NS]
  omega

theorem State.readSide_mxFstart (s : State) (path : Path) (g : Fin 3) {l : Nat} (h : l < 8) :
    s.readSide path (.mx g) (MX_FSTART_NS l).off = s.latchStamp (.mx g) (MX_FSTART_NS l) := by
  obtain ⟨hlow, -, hlane⟩ := mxFstartNs_lane h
  simp only [State.readSide, hlane, hlow, h, and_self, if_true]

/-! ### The clock (R273) -/

/-- While TIME is not frozen its nanoseconds read as the clock's. -/
theorem State.regRead_timeNow (s : State) (path : Path) (h : s.frozen .time = false) :
    s.regRead path .time TIME_NOW_NS.off = s.localNs := (s.regRead_live path .time _ h).trans rfl

theorem State.latchNow_latchSec (s : State) (path : Path) :
    (s.latchNow path).clock.latchSec[pathIx path] = BitVec.ofNat 32 s.localSec := by
  simp [State.latchNow]

theorem State.sameRegs_latchNow (s : State) (path : Path) : SameRegsExactly s (s.latchNow path) [] := fun _ _ => rfl

/-! ### The statement -/

/-- Settles O25: each command is one read, and the lemma about its register says what the read latches. -/
theorem stampReadsComplete : Obligations.StampReadsComplete := by
  refine ⟨?now, ?eng, ?scn, ?ltn, ?np, ?mx, ?ppsin, ?therm⟩
  case now =>
    intro path
    refine completes_of_register_read (exec_timeNowRead · path) (by decide) fun u => ?_
    rw [u.readSide_timeNow]
    refine ⟨fun hlive => ?_, ?_, fun a ha => (State.answer_reg _ _ _).trans (u.sameRegs_latchNow path a ha)⟩
    · rw [State.answer_out, u.regRead_timeNow path hlive]
    · rw [State.answer_clock, u.latchNow_latchSec]
  case eng =>
    intro path n
    exact completes_of_stamp_read (exec_engFstartNsRead · path n) (by decide) (·.readSide_engFstart path n)
  case scn =>
    intro path k
    exact completes_of_stamp_read (exec_scnFstartNsRead · path k) (by decide) (·.readSide_scnFstart path k)
  case ltn =>
    intro path x
    exact completes_of_stamp_read (exec_ltnIlkTimeNsRead · path x) (by decide) (·.readSide_ltnIlkTime path x)
  case np =>
    intro path q
    have hlane := npLane_lt q
    obtain ⟨-, hhigh, -⟩ := npLatchNs_lane hlane
    exact completes_of_stamp_read (exec_npLatchNsRead · path q) hhigh (·.readSide_npLatch path (npGroup q) hlane)
  case mx =>
    intro path q
    have hlane := mxLane_lt q
    obtain ⟨-, hhigh, -⟩ := mxFstartNs_lane hlane
    exact completes_of_stamp_read (exec_mxFstartNsRead · path q) hhigh (·.readSide_mxFstart path (mxGroup q) hlane)
  case ppsin =>
    intro path
    exact completes_of_stamp_read (exec_timePpsinNsRead · path) (by decide) (·.readSide_timePpsin path)
  case therm =>
    intro path
    exact completes_of_stamp_read (exec_thermShutNsRead · path) (by decide) (·.readSide_thermShut path)

end Sys2Proof.Machine

/-! ## The machine at reset (R114, R158, R212, R361, R364) -/

namespace Sys2Proof.Machine

/-- No cell is written at reset: every register reads, and has in force, its reset value. -/
theorem State.reset_reg (a : Nat) : State.reset.reg a = resetAt a ∧ State.reset.infReg a = resetAt a := ⟨rfl, rfl⟩

theorem State.reset_get (p : Page) (f : RF) : State.reset.get p f = Word.field (resetAt (p.base + f.off)) f := rfl

/-- Every unit is OFF, the Lanterns with their windows closed. -/
theorem resetAt_units : (∀ n : Fin 4, Word.field (resetAt ((Page.eng n).base + BLK_STATE.off)) BLK_STATE = E_OFF) ∧
    (∀ k : Fin 2, Word.field (resetAt ((Page.scn k).base + BLK_STATE.off)) BLK_STATE = E_OFF) ∧
    (∀ x : Fin 6, Word.field (resetAt ((Page.ltn x).base + BLK_STATE.off)) BLK_STATE = LTN_OFF ∧
      Word.field (resetAt ((Page.ltn x).base + LTN_STATUS_WIN.off)) LTN_STATUS_WIN = 0) := by decide +kernel

/-- The power state is the first, and no domain is on. -/
theorem resetAt_basecamp : Word.field (resetAt (Page.basecamp.base + BLK_STATE.off)) BLK_STATE = PS_INIT ∧
    Word.field (resetAt (Page.basecamp.base + BC_PD_ON.off)) BC_PD_ON = 0 := by decide +kernel

theorem resetAt_underrunLimit :
    ∀ n : Fin 4, Word.field (resetAt ((Page.eng n).base + ENG_CFG_UNDERRUN_LIMIT.off)) ENG_CFG_UNDERRUN_LIMIT = 16 := by
  decide +kernel

theorem State.reset_killN (x : Fin 6) : State.reset.ltn[x].killN = false := by
  revert x
  decide

/-- Settles O60: nothing is written at reset, so registers read their tables and memories read 0. -/
theorem resetState : Obligations.ResetState := by
  obtain ⟨heng, hscn, hltn⟩ := resetAt_units
  obtain ⟨hpstate, hdomains⟩ := resetAt_basecamp
  refine ⟨hpstate, hdomains, rfl, rfl, heng, hscn, fun x => ?lantern, rfl, State.reset_reg, resetAt_underrunLimit,
    fun _ => ⟨rfl, rfl, rfl⟩⟩
  case lantern =>
    obtain ⟨hoff, hwin⟩ := hltn x
    refine ⟨?_, hoff⟩
    unfold State.lanternDark State.flag
    rw [State.reset_killN, State.reset_get, hwin]
    rfl

end Sys2Proof.Machine

/-! ## The block commands of a Grinder (R124, R126, R132) -/

namespace Sys2Proof.Machine

/-! ### What the link and the records leave of a Grinder -/

@[simp] theorem State.modEng_grd (s : State) (n : Fin 4) (f : Engine → Engine) : (s.modEng n f).grd = s.grd := rfl
@[simp] theorem State.linkTx_grd (s : State) (n : Fin 4) (items : List (List Byte)) : (s.linkTx n items).grd = s.grd := rfl
@[simp] theorem State.linkAbort_grd (s : State) (n : Fin 4) (block slot : Nat) (fill : List Byte) :
    (s.linkAbort n block slot fill).grd = s.grd := rfl
@[simp] theorem State.linkRelease_grd (s : State) (n : Fin 4) : (s.linkRelease n).grd = s.grd := rfl

/-- A command on the link moves the load in flight at most: a packet that grows ends later (R174). -/
theorem State.linkCmd_moves_load (s : State) (n : Fin 4) (cmd : List Byte) (latest : Int) :
    ∃ l, (s.linkCmd n cmd latest).grd[n] = { s.grd[n] with load := l } := by
  unfold State.linkCmd
  split
  next => exact ⟨s.grd[n].load, rfl⟩
  next =>
    dsimp only
    split
    · exact ⟨_, State.modGrd_grd _ _ _⟩
    · exact ⟨s.grd[n].load, rfl⟩

/-- A FILL moves the load in flight, or ends it where it is the load that missed its deadline (R175). -/
theorem State.sendFill_moves_load (s : State) (n : Fin 4) (c b : Nat) :
    ∃ l, (s.sendFill n c b).grd[n] = { s.grd[n] with load := l } := by
  unfold State.sendFill
  dsimp only
  split
  next =>
    split
    · exact ⟨none, State.modGrd_grd _ _ _⟩
    · exact s.linkCmd_moves_load n _ _
  next => exact ⟨s.grd[n].load, rfl⟩

/-- A margin moves the smallest margin of the frame alone, beside what `SLACK_LOW` records. -/
theorem State.onlyRecords_loadSlack (s : State) (n : Fin 4) (m : Nat) :
    ∃ k, OnlyRecords (s.modGrd n fun g => { g with slack := k }) (s.loadSlack n m) := by
  unfold State.loadSlack
  extract_lets old least wasLow kept
  refine ⟨some least, ?_⟩
  split
  · exact State.onlyRecords_raise _ _ _
  · exact .refl _

theorem State.loadSlack_moves_slack (s : State) (n : Fin 4) (m : Nat) :
    ∃ k, (s.loadSlack n m).grd[n] = { s.grd[n] with slack := k } := by
  obtain ⟨k, hk⟩ := s.onlyRecords_loadSlack n m
  exact ⟨k, by rw [hk.grd, State.modGrd_grd]⟩

@[simp] theorem State.loadSlack_eng (s : State) (n : Fin 4) (m : Nat) : (s.loadSlack n m).eng = s.eng := by
  obtain ⟨k, hk⟩ := s.onlyRecords_loadSlack n m
  exact hk.eng

@[simp] theorem State.engUnderrun_grd (s : State) (n : Fin 4) (plane block : Nat) :
    (s.engUnderrun n plane block).grd = s.grd := by
  unfold State.engUnderrun
  rw [State.modEng_grd, State.put_grd]
  exact ((State.onlyRecords_bump _ _ _).trans (State.onlyRecords_raise _ _ _)).grd

/-- A frame with an underrun is marked (R110). -/
theorem State.engUnderrun_marks_frame (s : State) (n : Fin 4) (plane block : Nat) :
    (s.engUnderrun n plane block).eng[n].ur = true := by
  unfold State.engUnderrun
  rw [State.modEng_eng]

/-! ### What each command does under its condition -/

theorem exec_planeStart_due (t : Nat) (n : Fin 4) {p : Plane} (s : State)
    (hplane : (s.at t).grd[n].planes[(s.at t).grd[n].begun]? = some p)
    (hdue : (s.at t).engFrames n = true ∧ (s.at t).now = (s.at t).eng[n].sk + p.entry) :
    exec (.planeStart t n) s = .next ((s.at t).modGrd n fun g => { g with begun := g.begun + 1 }) := by
  refine congrArg Host.Outcome.next ?_
  dsimp only
  rw [hplane]
  exact if_pos hdue

/-- The load of a block for a plane is sent and kept as the load in flight (R132). -/
def State.startLoad (s : State) (n : Fin 4) (c b : Nat) : State :=
  (s.sendLoad n c b).modGrd n fun g => { g with
    load := some ⟨c, b, s.loadStart n, s.loadStart n + s.loadTime n c b⟩ }

/-- The Grinder enters PREFETCH with the first load of the first LIT frame (R132, R185). -/
def State.enterPrefetch (s : State) (n : Fin 4) : State :=
  if s.engState n = E_READY ∧ s.get (.grd n) BLK_STATE = GRD_IDLE then
    (s.put (.grd n) BLK_STATE GRD_PREFETCH).linkRelease n
  else s

@[simp] theorem State.enterPrefetch_grd (s : State) (n : Fin 4) : (s.enterPrefetch n).grd = s.grd := by
  unfold State.enterPrefetch
  split <;> rfl

theorem exec_blockLoad_open (t : Nat) (n : Fin 4) {d c b : Nat} (s : State) (hidle : (s.at t).grd[n].load = none)
    (hlanes : (s.at t).linkLanes n ≠ 0)
    (hload : earliest (((s.at t).loadsDue n).filter fun l => (s.at t).loadOpen n l.2.1 l.2.2) = some (d, c, b)) :
    exec (.blockLoad t n) s = .next ((((s.at t).lastBoundary n c b).startLoad n c b).enterPrefetch n) := by
  have hfree : ¬ ((s.at t).grd[n].load.isSome = true ∨ (s.at t).linkLanes n = 0) := by
    rw [hidle]
    exact not_or.mpr ⟨Bool.false_ne_true, hlanes⟩
  refine congrArg Host.Outcome.next ((if_neg hfree).trans ?_)
  rw [hload]
  rfl

theorem exec_blockLoadComplete_inTime (t : Nat) (n : Fin 4) {l : BlockLoad} {d : Nat} (s : State)
    (hload : (s.at t).grd[n].load = some l) (hend : l.finish ≤ (s.at t).now)
    (hdeadline : (s.at t).loadDeadline n l.count l.block = some d) (hin : l.finish ≤ d) :
    exec (.blockLoadComplete t n) s =
      .next (((s.at t).modGrd n fun g => { g with load := none, loaded := g.loaded ++ [(l.count, l.block)] }).loadSlack n
        (d - l.finish)) := by
  refine congrArg Host.Outcome.next ?_
  dsimp only
  rw [hload]
  refine (if_neg (Nat.not_lt.mpr hend)).trans ?_
  rw [hdeadline]
  exact if_neg (Nat.not_lt.mpr hin)

/-- The RESET of a block for a plane, as it goes out on the link (R126, R172). -/
def State.resetCommand (s : State) (n : Fin 4) (i c b : Nat) : List Byte :=
  linkCommand 0xC1 b (s.slotPlane n c % s.slotCount n) 0 ((s.resetStamp n c i).toNat % 2 ^ 48)

theorem exec_resetIssue_ready (t : Nat) (n : Fin 4) {i c b : Nat} (s : State)
    (hnext : (s.at t).nextReset n = some (i, c, b)) (hup : (s.at t).linkUp n = true)
    (hstamp : (s.at t).resetWaits n c = false)
    (hout : ((s.at t).grd[n].resets.filter fun r => r.2.1 == b && decide (16 * ((s.at t).now : Int) < r.2.2)).length < 4)
    (hready : ((s.at t).grd[n].loaded.contains (c, b) || (s.at t).grd[n].missed.contains (c, b)) = true)
    (hlatest : 16 * ((s.at t).now : Int) ≤ (s.at t).resetLatest n c i) :
    exec (.resetIssue t n) s =
      .next (((s.at t).linkCmd n ((s.at t).resetCommand n i c b) ((s.at t).resetLatest n c i)).modGrd n fun g => { g with
        resets := g.resets ++ [(c, b, (s.at t).resetApplied n c i)] }) := by
  refine congrArg Host.Outcome.next ?_
  dsimp only
  rw [hnext]
  refine if_neg ?_
  rintro (hdown | hwaits | hfull | hopen | hlate)
  · rw [hup] at hdown; cases hdown
  · rw [hstamp] at hwaits; cases hwaits
  · exact Nat.not_lt.mpr hfull hout
  · rw [hready] at hopen; cases hopen
  · exact Int.not_lt.mpr hlatest hlate

/-- The index of the plane with running count `c` in its frame: the current frame's or the next one's (R110). -/
def State.planeIndex (s : State) (n : Fin 4) (c : Nat) : Nat :=
  if c - s.grd[n].base < s.grd[n].planes.length then c - s.grd[n].base
  else c - s.grd[n].base - s.grd[n].planes.length

/-- A load is abandoned: its FILL goes out and the plane's block is missed (R132, R175). -/
def State.abandonLoad (s : State) (n : Fin 4) (c b : Nat) : State :=
  (s.sendFill n c b).modGrd n fun g => { g with missed := g.missed ++ [(c, b)] }

theorem State.abandonLoad_missed (s : State) (n : Fin 4) (c b : Nat) :
    (s.abandonLoad n c b).grd[n].missed = s.grd[n].missed ++ [(c, b)] := by
  obtain ⟨l, hl⟩ := s.sendFill_moves_load n c b
  rw [State.abandonLoad, State.modGrd_grd, hl]

theorem exec_underrun_missed (t : Nat) (n : Fin 4) {d c b : Nat} (s : State)
    (hmissed : (s.at t).missedLoad n = some (d, c, b)) :
    exec (.underrun t n) s = .next ((((s.at t).abandonLoad n c b).engUnderrun n
      (((s.at t).abandonLoad n c b).planeIndex n c) b).loadSlack n 0) := by
  refine congrArg Host.Outcome.next ?_
  dsimp only
  rw [hmissed]
  rfl

/-! ### The statement -/

/-- Settles O14: under the condition named, each command is its step, in which the link and the records leave the Grinder's
lists of loads and resets. -/
theorem grinderCommandsComplete : Obligations.GrinderCommandsComplete := by
  refine ⟨?plane, ?load, ?loaded, ?reset, ?missed⟩
  case plane =>
    rintro n p t s ⟨hplane, hframes, hdue⟩
    refine ⟨_, exec_planeStart_due t n s hplane ⟨hframes, hdue⟩, ?_, fun _ _ => rfl, .of_mems rfl, fun _ => rfl⟩
    rw [State.modGrd_grd]
  case load =>
    rintro n d c b t s ⟨hidle, hlanes, hload⟩
    refine ⟨_, exec_blockLoad_open t n s hidle hlanes hload, ?_⟩
    dsimp only
    rw [State.enterPrefetch_grd, State.startLoad, State.modGrd_grd]
  case loaded =>
    rintro n l d t s ⟨hload, hend, hdeadline, hin⟩
    refine ⟨_, exec_blockLoadComplete_inTime t n s hload hend hdeadline hin, rfl, ?_⟩
    obtain ⟨k, hk⟩ := State.loadSlack_moves_slack _ n (d - l.finish)
    rw [hk, State.modGrd_grd]
  case reset =>
    rintro n i c b t s ⟨hnext, hup, hstamp, hout, hready, hlatest⟩
    refine ⟨_, exec_resetIssue_ready t n s hnext hup hstamp hout hready hlatest, ?_⟩
    obtain ⟨l, hl⟩ := (s.at t).linkCmd_moves_load n ((s.at t).resetCommand n i c b) ((s.at t).resetLatest n c i)
    rw [State.modGrd_grd, hl]
  case missed =>
    rintro n d c b t s hmissed
    refine ⟨_, exec_underrun_missed t n s hmissed, ?_, ?_⟩
    · obtain ⟨k, hk⟩ := State.loadSlack_moves_slack _ n 0
      rw [hk, State.engUnderrun_grd, State.abandonLoad_missed]
    · rw [State.loadSlack_eng, State.engUnderrun_marks_frame]

end Sys2Proof.Machine

/-! ## A trip of a Lantern (R160, R161, R211) -/

namespace Sys2Proof.Machine

/-! ### What a Lantern shows of its trip -/

/-- The fields of a Lantern's page that a trip sets. -/
def tripFields : List RF :=
  [BLK_STATE, LTN_STATUS_WIN, LTN_STATUS_LSEL, LTN_ILK_STAT_TRIPPED, LTN_ILK_STAT_CAUSE, LTN_ILK_TIME_NS, LTN_TRIP_CNT]

/-- The offsets of the registers in which these fields and the event TRIP lie. -/
def tripOffs : List Nat := IRQ_STAT.off :: tripFields.map (·.off)

theorem tripFields_calm : ∀ g ∈ tripFields, g.Fits ∧ g.off < 0x1000 ∧ g.off ≠ IRQ_STAT.off ∧ g.off ∉ eventOffs := by
  decide

theorem off_mem_tripOffs {g : RF} (h : g ∈ tripFields) : g.off ∈ tripOffs :=
  List.mem_cons_of_mem _ (List.mem_map_of_mem h)

/-- From `s` to `u` a Lantern shows the same trip: its fields are kept, TRIP stays latched, and a low kill pin is low. -/
structure KeepsTrip (x : Fin 6) (s u : State) : Prop where
  get : ∀ g ∈ tripFields, u.get (.ltn x) g = s.get (.ltn x) g
  latched : s.get (.ltn x) (irqBit LTN_EV_TRIP) = 1 → u.get (.ltn x) (irqBit LTN_EV_TRIP) = 1
  kill : s.ltn[x].killN = false → u.ltn[x].killN = false

theorem KeepsTrip.refl {x : Fin 6} (s : State) : KeepsTrip x s s := ⟨fun _ _ => rfl, id, id⟩

theorem KeepsTrip.trans {x : Fin 6} {s u v : State} (h : KeepsTrip x s u) (k : KeepsTrip x u v) : KeepsTrip x s v where
  get g hg := (k.get g hg).trans (h.get g hg)
  latched hs := k.latched (h.latched hs)
  kill hs := k.kill (h.kill hs)

theorem KeepsTrip.ite {x : Fin 6} {c : Prop} [Decidable c] {s u v : State} (hu : c → KeepsTrip x s u)
    (hv : ¬ c → KeepsTrip x s v) : KeepsTrip x s (if c then u else v) := by
  split_ifs with h
  · exact hu h
  · exact hv h

theorem KeepsTrip.foldl {x : Fin 6} {ι : Type} {f : State → ι → State} {l : List ι}
    (h : ∀ s, ∀ i ∈ l, KeepsTrip x s (f s i)) (s : State) : KeepsTrip x s (l.foldl f s) :=
  List.foldlRecOn (motive := fun u : State => KeepsTrip x s u) _ _ (.refl s) fun u hu i hi => hu.trans (h u i hi)

/-- A change behind the registers and the Lanterns. -/
theorem KeepsTrip.of_regs {x : Fin 6} {s u : State} (hr : u.regs = s.regs) (hl : u.ltn = s.ltn) : KeepsTrip x s u where
  get g _ := State.get_of_regs hr _ g
  latched h := (State.get_of_regs hr _ _).trans h
  kill h := by rw [hl]; exact h

/-- Events with the Lanterns as they are. -/
theorem OnlyEvents.keepsTrip {x : Fin 6} {s u : State} (h : OnlyEvents s u) (hl : u.ltn = s.ltn) : KeepsTrip x s u where
  get g hg := by
    obtain ⟨-, hlt, -, hcalm⟩ := tripFields_calm g hg
    exact h.get (.ltn x) g hlt hcalm
  latched hs := h.latched (.ltn x) LTN_EV_TRIP (by decide) hs
  kill hs := by rw [hl]; exact hs

/-- A register that is none of the trip's. -/
theorem State.keepsTrip_setReg (s : State) (x : Fin 6) {a : Nat} (v : Word) (h : ∀ o ∈ tripOffs, a ≠ (Page.ltn x).base + o) :
    KeepsTrip x s (s.setReg a v) where
  get g hg := by
    unfold State.get
    rw [State.reg_setReg_ne _ _ (h g.off (off_mem_tripOffs hg))]
  latched hs := by
    unfold State.get at hs ⊢
    rw [State.reg_setReg_ne _ _ (h IRQ_STAT.off List.mem_cons_self)]
    exact hs
  kill hs := hs

theorem tripOffs_lt : ∀ o ∈ tripOffs, o < 0x1000 := by decide

theorem State.keepsTrip_put_page (s : State) (x : Fin 6) {p : Page} (f : RF) (v : Nat) (hp : p ≠ .ltn x)
    (hf : f.off < 0x1000) : KeepsTrip x s (s.put p f v) :=
  s.keepsTrip_setReg x _ fun o ho => Page.addr_ne hp hf (tripOffs_lt o ho)

theorem State.keepsTrip_put_off (s : State) (x : Fin 6) (p : Page) {f : RF} (v : Nat) (hf : f.off < 0x1000)
    (ho : f.off ∉ tripOffs) : KeepsTrip x s (s.put p f v) :=
  s.keepsTrip_setReg x _ fun o h => Page.addr_ne_off p (.ltn x) (fun e => ho (e ▸ h)) hf (tripOffs_lt o h)

/-- The ramp flag lies in the register of the window, beside it (R148). -/
theorem State.keepsTrip_putRamp (s : State) (x y : Fin 6) (v : Nat) : KeepsTrip x s (s.put (.ltn y) LTN_STATUS_DRAMP v) := by
  by_cases hxy : y = x
  · subst hxy
    have hapart : ∀ g ∈ tripFields, LTN_STATUS_DRAMP.off = g.off → LTN_STATUS_DRAMP.Apart g := by decide
    refine ⟨fun g hg => ?_, fun h => ?_, id⟩
    · obtain ⟨hfits, -⟩ := tripFields_calm g hg
      by_cases ho : LTN_STATUS_DRAMP.off = g.off
      · exact State.get_put_apart _ _ _ _ _ ho hfits (hapart g hg ho)
      · exact State.get_put_off _ _ _ _ _ ho
    · exact (State.get_put_off _ _ LTN_STATUS_DRAMP (irqBit LTN_EV_TRIP) v
        (show LTN_STATUS_DRAMP.off ≠ IRQ_STAT.off by decide)).trans h
  · exact s.keepsTrip_put_page x _ v (fun h => hxy (Page.ltn.inj h)) (by decide)

theorem State.keepsTrip_modLtn (s : State) (x y : Fin 6) {f : Lantern → Lantern} (hf : ∀ l, (f l).killN = l.killN) :
    KeepsTrip x s (s.modLtn y f) where
  get _ _ := rfl
  latched h := h
  kill h := by
    unfold State.modLtn
    simp only [Fin.getElem_fin, Vector.getElem_set] at h ⊢
    split_ifs with hy
    · rw [hf]; simpa only [hy] using h
    · exact h

/-! ### Events and records -/

theorem State.keepsTrip_raise (s : State) (x : Fin 6) (p : Page) {b : Nat} (hb : b < 32) : KeepsTrip x s (s.raise p b) :=
  (s.onlyEvents_raise p hb).keepsTrip (s.onlyRecords_raise p b).ltn

theorem State.keepsTrip_mark (s : State) (x : Fin 6) (p : Page) {f : RF} (hf : f.off < 0x1000) (ho : f.off ∉ tripOffs) :
    KeepsTrip x s (s.mark p f) :=
  (KeepsTrip.of_regs (State.note_regs _ _ _ _) (State.note_ltn _ _ _ _)).trans (State.keepsTrip_put_off _ x p _ hf ho)

theorem State.keepsTrip_bump (s : State) (x : Fin 6) (p : Page) {f : RF} (hf : f.off < 0x1000) (ho : f.off ∉ tripOffs) :
    KeepsTrip x s (s.bump p f) :=
  (KeepsTrip.of_regs (State.note_regs _ _ _ _) (State.note_ltn _ _ _ _)).trans (State.keepsTrip_put_off _ x p _ hf ho)

theorem State.keepsTrip_errHw (s : State) (x : Fin 6) (p : Page) (cls d : Nat) : KeepsTrip x s (s.errHw p cls d) := by
  unfold State.errHw State.err State.errInfo
  extract_lets counted logged
  have hlogged : KeepsTrip x counted logged := .ite
    (fun _ => (State.onlyEvents_logEntry _ _ _ _ _).keepsTrip (State.onlyRecords_logEntry _ _ _ _ _).ltn) fun _ => .refl _
  refine ((s.keepsTrip_bump x p (by decide) (by decide)).trans hlogged).trans (.ite (fun _ => ?_) fun _ => .refl _)
  exact ((State.keepsTrip_put_off _ x p _ (by decide) (by decide)).trans
    (State.keepsTrip_put_off _ x p _ (by decide) (by decide))).trans (State.keepsTrip_raise _ x p (by decide))

theorem State.keepsTrip_calLost (s : State) (x : Fin 6) (cls inst : Nat) : KeepsTrip x s (s.calLost cls inst) :=
  .of_regs (s.calLost_frame cls inst).1 (s.calLost_frame cls inst).2

theorem State.keepsTrip_noteState (s : State) (x : Fin 6) (u prev new cause : Nat) :
    KeepsTrip x s (s.noteState u prev new cause) := by
  unfold State.noteState
  extract_lets delays eps recorded
  have hdelays : KeepsTrip x s delays := .ite (fun _ => .refl s) fun _ =>
    .ite (fun _ => s.keepsTrip_calLost x _ _) fun _ => s.keepsTrip_calLost x _ _
  have heps : KeepsTrip x delays eps := .ite (fun _ => delays.keepsTrip_calLost x _ _) fun _ => .refl delays
  have hrecorded : KeepsTrip x eps recorded := (eps.onlyEvents_record _ _).keepsTrip (eps.onlyRecords_record _ _).ltn
  exact ((hdelays.trans heps).trans hrecorded).trans
    ((recorded.onlyEvents_mbxUnit _ _ _).keepsTrip (recorded.mbxUnit_ltn _ _ _))

/-! ### Calibration (R415–R417) -/

theorem State.keepsTrip_ltnDelaySnap (s : State) (x y : Fin 6) : KeepsTrip x s (s.ltnDelaySnap y) := by
  unfold State.ltnDelaySnap
  extract_lets ro rc o c shown
  have hshown : KeepsTrip x s shown := ((s.keepsTrip_put_off x _ _ (by decide) (by decide)).trans
    (State.keepsTrip_put_off _ x _ _ (by decide) (by decide))).trans (State.keepsTrip_putRamp _ x y 0)
  exact hshown.trans (.ite (fun _ => shown.keepsTrip_raise x _ (by decide)) fun _ => .refl shown)

theorem State.keepsTrip_modCal (s : State) (x : Fin 6) (f : Cal → Cal) : KeepsTrip x s (s.modCal f) := .of_regs rfl rfl
theorem State.keepsTrip_modSxl (s : State) (x : Fin 6) (n : Fin 4) (f : Link → Link) : KeepsTrip x s (s.modSxl n f) :=
  .of_regs rfl rfl
theorem State.keepsTrip_modEng (s : State) (x : Fin 6) (n : Fin 4) (f : Engine → Engine) : KeepsTrip x s (s.modEng n f) :=
  .of_regs rfl rfl
theorem State.keepsTrip_modScn (s : State) (x : Fin 6) (k : Fin 2) (f : Scanner → Scanner) : KeepsTrip x s (s.modScn k f) :=
  .of_regs rfl rfl

theorem State.keepsTrip_putScnTrim (s : State) (x : Fin 6) (k : Fin 2) (f r : Nat) :
    KeepsTrip x s ((s.put .cal (CAL_SCN_TRIM_FWD k.val) f).put .cal (CAL_SCN_TRIM_RET k.val) r) :=
  (s.keepsTrip_put_page x (p := .cal) _ f nofun (by simp only [CAL_SCN_TRIM_FWD]; omega)).trans
    (State.keepsTrip_put_page _ x (p := .cal) _ r nofun (by simp only [CAL_SCN_TRIM_RET]; omega))

/-- A pair of delays of a block of a Grinder. -/
theorem State.keepsTrip_putDelays (s : State) (x : Fin 6) (n : Fin 4) {f g : RF} (ts e : Nat) (hf : f.off < 0x1000)
    (hg : g.off < 0x1000) : KeepsTrip x s ((s.put (.grd n) f ts).put (.grd n) g e) :=
  (s.keepsTrip_put_page x (p := .grd n) f ts nofun hf).trans (State.keepsTrip_put_page _ x (p := .grd n) g e nofun hg)

theorem State.keepsTrip_calApply (s : State) (x : Fin 6) (cls inst : Nat) (vals : List Int) (snap : Bool) :
    KeepsTrip x s (s.calApply cls inst vals snap) := by
  unfold State.calApply
  split
  case h_1 =>
    split
    · exact .refl s
    · next n _ =>
      extract_lets half
      refine .foldl (fun u b hb => ?_) s
      have hb32 : b < 32 := by have := List.mem_range.mp hb; omega
      extract_lets ts e target
      have htarget : KeepsTrip x u target := u.keepsTrip_putDelays x n _ _
        (show (GRD_BLK_TS_TGT b).off < 0x1000 by simp only [GRD_BLK_TS_TGT]; omega)
        (show (GRD_BLK_E_TGT b).off < 0x1000 by simp only [GRD_BLK_E_TGT]; omega)
      exact htarget.trans (.ite (fun _ => target.keepsTrip_putDelays x n _ _
        (show (GRD_BLK_TS b).off < 0x1000 by simp only [GRD_BLK_TS]; omega)
        (show (GRD_BLK_E b).off < 0x1000 by simp only [GRD_BLK_E]; omega)) fun _ => .refl target)
  case h_2 =>
    split
    · exact .refl s
    · next y _ =>
      extract_lets echo
      have hecho : KeepsTrip x s echo := s.keepsTrip_modLtn x y fun _ => rfl
      exact hecho.trans (.ite (fun _ => echo.keepsTrip_ltnDelaySnap x y) fun _ => .refl echo)
  case h_3 =>
    split
    · exact .refl s
    · next y _ =>
      extract_lets d dark
      have hdark : KeepsTrip x dark (dark.modLtn y fun l => { l with dark := d * 65536 }) :=
        dark.keepsTrip_modLtn x y fun _ => rfl
      exact ((s.keepsTrip_modCal x _).trans hdark).trans
        (State.keepsTrip_put_off _ x _ (f := LTN_DARK) _ (by decide) (by decide))
  case h_4 =>
    split
    · exact .refl s
    · next n _ =>
      extract_lets e r eps
      exact (s.keepsTrip_modSxl x n _).trans (.ite (fun _ => (eps.keepsTrip_modSxl x n _).trans
        (State.keepsTrip_put_page _ x (p := .sxl n) SXL_LAT_RES _ nofun (by decide))) fun _ => .refl eps)
  case h_5 =>
    split
    · exact .refl s
    · exact .ite (fun _ => s.keepsTrip_modSxl x _ _) fun _ => s.keepsTrip_modCal x _
  case h_6 =>
    split
    · exact .refl s
    · next k _ =>
      extract_lets f r target
      exact (s.keepsTrip_modCal x _).trans (.ite (fun _ => target.keepsTrip_putScnTrim x k _ _) fun _ => .refl target)
  case h_7 => exact .refl s

theorem State.keepsTrip_calDeliver (s : State) (x : Fin 6) (u : Nat) (any : Bool) : KeepsTrip x s (s.calDeliver u any) :=
  (s.keepsTrip_modCal x _).trans (.foldl (fun v e _ => v.keepsTrip_calApply x e.cls e.inst e.vals any) _)

theorem State.keepsTrip_adcSwitch (s : State) (x y : Fin 6) (frames : Bool) : KeepsTrip x s (s.adcSwitch y frames) := by
  have hbank : ∀ b f, KeepsTrip x s (s.modBank b f) := fun _ _ => .of_regs rfl rfl
  unfold State.adcSwitch State.adcReplace
  extract_lets b k j spared
  refine .ite (fun _ => ?_) fun _ => .ite (fun _ => .refl s) fun _ => .ite (fun _ => ?_) fun _ =>
    .ite (fun _ => ?_) fun _ => .refl s
  · exact (((hbank _ _).trans (State.keepsTrip_put_off _ x _ _ (by decide) (by decide))).trans
      (State.keepsTrip_put_off _ x _ _ (by decide) (by decide))).trans (State.keepsTrip_raise _ x _ (by decide))
  · exact (hbank _ _).trans (State.keepsTrip_put_off _ x _ _ (by decide) (by decide))
  · exact (hbank _ _).trans (State.keepsTrip_put_off _ x _ _ (by decide) (by decide))

theorem State.keepsTrip_calLeave (s : State) (x y : Fin 6) : KeepsTrip x s (s.calLeave y) := by
  unfold State.calLeave
  extract_lets delivered preset
  have hpreset : KeepsTrip x delivered preset := by
    unfold preset
    split
    · split
      · exact .refl _
      · exact (delivered.keepsTrip_calApply x _ _ _ _).trans (State.keepsTrip_modCal _ x _)
    · split
      · exact .refl _
      · exact delivered.keepsTrip_putScnTrim x _ _ _
  exact (((s.keepsTrip_calDeliver x _ _).trans hpreset).trans (preset.keepsTrip_adcSwitch x y false)).trans
    (.of_regs rfl rfl)

/-! ### Commits (R42–R46) -/

theorem State.commitEvents_ltn (late reject : Bool) (s : State) (p : Page) : (s.commitEvents late reject p).ltn = s.ltn := by
  unfold State.commitEvents
  extract_lets done dated
  have hdated : dated.ltn = s.ltn := State.ltn_ite
    (fun _ => (done.onlyRecords_raise p 29).ltn.trans (s.onlyRecords_raise p 30).ltn) fun _ => (s.onlyRecords_raise p 30).ltn
  exact State.ltn_ite (fun _ => (dated.onlyRecords_raise p 28).ltn.trans hdated) fun _ => hdated

theorem State.keepsTrip_commitClose (s : State) (x : Fin 6) (g : Group) (late reject : Bool) (blame : Page) :
    KeepsTrip x s (s.commitClose g late reject blame) := by
  have hmark : ∀ (u : State) (f : RF), f.off = COMMIT.off → KeepsTrip x u (u.mark g.home f) := fun u f hf =>
    u.keepsTrip_mark x g.home (hf ▸ by decide) (hf ▸ by decide)
  have hstatus : KeepsTrip x s (s.commitStatus g late reject) := by
    unfold State.commitStatus
    extract_lets cleared dated
    have hcleared : KeepsTrip x s cleared := (KeepsTrip.of_regs (s := s) (u := s.dropCommitRec g) rfl rfl).trans
      (State.keepsTrip_put_off _ x g.home (f := COMMIT_PENDING) 0 (by decide) (by decide))
    have hdated : KeepsTrip x cleared dated := .ite (fun _ => hmark cleared COMMIT_LATE rfl) fun _ => .refl _
    exact (hcleared.trans hdated).trans (.ite (fun _ => hmark dated COMMIT_REJECT rfl) fun _ => .refl _)
  have hevents : ∀ (u : State) (p : Page), KeepsTrip x u (u.commitEvents late reject p) := fun u p =>
    ((u.onlyEvents_raise p (by decide)).trans (State.onlyEvents_commitEvents late reject u p)).keepsTrip
      (State.commitEvents_ltn late reject u p)
  have hmbx : ∀ u : State, (u.mbxCommit g.home.base late reject blame.base).ltn = u.ltn := fun u =>
    State.ltn_ite (fun _ => State.mbxFinishAll_ltn _ _ _ _ _) fun _ => State.mbxFinishAll_ltn _ _ _ _ _
  rw [s.commitClose_eq]
  exact (hstatus.trans (.foldl (fun u p _ => hevents u p) _)).trans
    ((State.onlyEvents_mbxCommit _ _ _ _ _).keepsTrip (hmbx _))

theorem State.keepsTrip_commitWhole (s : State) (x : Fin 6) (g : Group) (late : Bool) (fails : List CommitFail) :
    KeepsTrip x s (s.commitWhole g late fails).1 := by
  unfold State.commitWhole
  split
  · unfold State.commitReject
    dsimp only
    exact (s.keepsTrip_errHw x _ _ _).trans (State.keepsTrip_commitClose _ x g late true _)
  · have hreleased : KeepsTrip x s (s.releasePages (s.groupPages g) fun _ => true) := by
      obtain ⟨m, hm⟩ := s.foldl_release_frame (stagedOf (s.groupPages g))
      rw [s.releasePages_all, hm]
      exact .of_regs rfl rfl
    dsimp only
    exact hreleased.trans (State.keepsTrip_commitClose _ x g late false g.home)

theorem State.keepsTrip_grdValInfo (s : State) (x : Fin 6) (n : Fin 4) : KeepsTrip x s (s.grdValInfo n) := by
  unfold State.grdValInfo
  extract_lets fs
  split
  · exact .refl s
  · split
    · exact s.keepsTrip_put_page x _ _ nofun (by decide)
    · exact .refl s

theorem State.keepsTrip_engCommitStopped (s : State) (x : Fin 6) (n : Fin 4) : KeepsTrip x s (s.engCommitStopped n) := by
  refine .ite (fun _ => ?_) fun _ => .refl s
  unfold State.engCommit
  extract_lets g late counted fails inc shown
  have hcounted : KeepsTrip x s counted := .ite (fun _ => s.keepsTrip_bump x _ (by decide) (by decide)) fun _ => .refl s
  have hshown : KeepsTrip x counted shown := .ite (fun _ => .refl counted) fun _ => counted.keepsTrip_grdValInfo x n
  refine (hcounted.trans hshown).trans ((shown.keepsTrip_commitWhole x g late fails).trans ?_)
  generalize shown.commitWhole g late fails = w
  dsimp only
  split_ifs
  · exact .of_regs rfl rfl
  · exact .of_regs rfl rfl
  · exact .of_regs rfl rfl
  · exact .refl _

theorem State.keepsTrip_scnCommitStopped (s : State) (x : Fin 6) (k : Fin 2) : KeepsTrip x s (s.scnCommitStopped k) := by
  refine .ite (fun _ => ?_) fun _ => .refl s
  unfold State.scnCommit
  extract_lets g late counted inc
  have hcounted : KeepsTrip x s counted := .ite (fun _ => s.keepsTrip_bump x _ (by decide) (by decide)) fun _ => .refl s
  refine hcounted.trans ((counted.keepsTrip_commitWhole x g late (counted.scnFails k)).trans ?_)
  generalize counted.commitWhole g late (counted.scnFails k) = w
  dsimp only
  split_ifs
  · exact .of_regs rfl rfl
  · exact .refl _

/-! ### The unit of a tripped Lantern enters FAULT (R114, R158, R216) -/

theorem State.keepsTrip_putEng (s : State) (x : Fin 6) (n : Fin 4) (f : RF) (v : Nat) (hf : f.off < 0x1000) :
    KeepsTrip x s (s.put (.eng n) f v) := s.keepsTrip_put_page x (p := .eng n) f v nofun hf

theorem State.keepsTrip_grdStop (s : State) (x : Fin 6) (n : Fin 4) : KeepsTrip x s (s.grdStop n) := by
  have hput : ∀ (u : State) (f : RF) (v : Nat), f.off < 0x1000 → KeepsTrip x u (u.put (.grd n) f v) := fun u f v hf =>
    u.keepsTrip_put_page x (p := .grd n) f v nofun hf
  unfold State.grdStop
  extract_lets idle shown
  have hidle : KeepsTrip x s idle := .of_regs rfl rfl
  exact (((hidle.trans (hput _ _ _ (by decide))).trans (hput _ _ _ (by decide))).trans (hput _ _ _ (by decide))).trans
    (hput shown _ _ (by decide))

theorem State.keepsTrip_engStopFrames (s : State) (x : Fin 6) (n : Fin 4) : KeepsTrip x s (s.engStopFrames n) := by
  unfold State.engStopFrames
  extract_lets stopped phase shown
  have hphase : KeepsTrip x stopped phase :=
    (stopped.keepsTrip_putEng x n ENG_STATUS_BLANKING 0 (by decide)).trans
      (State.keepsTrip_putEng _ x n ENG_STATUS_HOLD_PHASE 0 (by decide))
  have hshown : KeepsTrip x phase shown :=
    (phase.keepsTrip_putEng x n ENG_STATUS_OVERLONG 0 (by decide)).trans
      (State.keepsTrip_putEng _ x n ENG_STATUS_FLUX_CLAMP 0 (by decide))
  exact (((s.keepsTrip_modEng x n _).trans hphase).trans hshown).trans (shown.keepsTrip_grdStop x n)

theorem State.keepsTrip_ltnForget (s : State) (x y : Fin 6) : KeepsTrip x s (s.ltnForget y) :=
  s.keepsTrip_modLtn x y fun _ => rfl

theorem State.keepsTrip_engEntered (s : State) (x : Fin 6) (n : Fin 4) (new cause : Nat) :
    KeepsTrip x s (s.engEntered n new cause) := by
  unfold State.engEntered
  extract_lets shown u
  have hshown : KeepsTrip x s shown := (s.keepsTrip_putEng x n ENG_STATE_INFO _ (by decide)).trans
    (State.keepsTrip_putEng _ x n BLK_STATE _ (by decide))
  have hu : KeepsTrip x s u :=
    (hshown.trans (.of_regs (u := { shown with planAt := s.now }) rfl rfl)).trans (State.keepsTrip_raise _ x _ (by decide))
  exact hu.trans (.ite (fun _ => u.keepsTrip_errHw x _ _ _) fun _ => .refl u)

theorem State.keepsTrip_engLeft (s : State) (x : Fin 6) (n : Fin 4) (old new : Nat) (frames : Bool) :
    KeepsTrip x s (s.engLeft n old new frames) := by
  unfold State.engLeft
  extract_lets stays stopped granted measured
  have hstopped : KeepsTrip x s stopped := .ite (fun _ => .refl s) fun _ => s.keepsTrip_engStopFrames x n
  have hgranted : KeepsTrip x stopped granted := .ite (fun _ => stopped.keepsTrip_putEng x n _ _ (by decide)) fun _ => .refl _
  have hmeasured : KeepsTrip x granted measured :=
    .ite (fun _ => (granted.keepsTrip_calLeave x _).trans (State.keepsTrip_ltnForget _ x _)) fun _ => .refl _
  exact ((hstopped.trans hgranted).trans hmeasured).trans
    (.ite (fun _ => measured.keepsTrip_engCommitStopped x n) fun _ => .refl _)

/-- A tripped Lantern does not follow its unit to FAULT (R158). -/
theorem State.keepsTrip_ltnFollow_fault (s : State) (x : Fin 6) (old : Nat) (h : s.ltnState x = LTN_TRIPPED) :
    KeepsTrip x s (s.ltnFollow x old E_FAULT) := by
  have hnot : ¬ (s.ltnState x = LTN_FALLBACK_ST ∧ E_FAULT ≠ E_OFF) := fun hfb => absurd (h.symm.trans hfb.1) (by decide)
  unfold State.ltnFollow
  extract_lets st cleared resumed
  rw [if_neg (by decide), if_neg (by decide), if_neg (by decide)]
  refine .ite (fun _ => ?_) fun _ => .refl s
  rw [if_neg hnot]
  exact s.keepsTrip_modLtn x x (f := fun l => { l with safeAt := none }) fun _ => rfl

theorem State.keepsTrip_engLinked (s : State) (x : Fin 6) (n : Fin 4) (old new cause : Nat) :
    KeepsTrip x s (s.engLinked n old new cause) := by
  have hpark : ∀ pat, KeepsTrip x s (s.linkPark n pat) := fun pat => .ite (fun _ => (s.keepsTrip_modSxl x n _).trans
    (State.keepsTrip_put_page _ x (p := .sxl n) SXL_STATUS_PARK_CONFIRMED 0 nofun (by decide))) fun _ => .refl s
  unfold State.engLinked
  extract_lets parked
  have hparked : KeepsTrip x s parked := .ite (fun _ => hpark _) fun _ => .ite (fun _ => hpark _) fun _ => .refl s
  exact hparked.trans (.ite (fun _ => parked.keepsTrip_modEng x n _) fun _ => parked.keepsTrip_modEng x n _)

theorem State.keepsTrip_engTo_fault (s : State) (n : Fin 4) (cause : Nat) (h : s.ltnState (ltnOfEng n) = LTN_TRIPPED) :
    KeepsTrip (ltnOfEng n) s (s.engTo n E_FAULT cause) := by
  have hleft := (s.keepsTrip_engEntered (ltnOfEng n) n E_FAULT cause).trans
    (State.keepsTrip_engLeft _ (ltnOfEng n) n (s.engState n) E_FAULT (s.engFrames n))
  rw [State.engTo_eq]
  exact ((hleft.trans (State.keepsTrip_ltnFollow_fault _ _ _ ((hleft.get BLK_STATE (by decide)).trans h))).trans
    (State.keepsTrip_engLinked _ _ _ _ _ _)).trans (State.keepsTrip_noteState _ _ _ _ _ _)

/-! ### A scanner enters a state (R216) -/

/-- The state and its cause are shown, the change is an event, and a cause of class HW_FAULT is recorded (R216). -/
def State.scnEntered (s : State) (k : Fin 2) (new cause : Nat) : State :=
  let u := ((s.put (.scn k) SCN_STATE_INFO (cause * 256 + s.scnState k)).put (.scn k) BLK_STATE new).raise (.scn k)
    ENG_EV_STATE_CHANGE
  if 0x20 ≤ cause ∧ cause ≠ SCN_PARK_CMD then u.errHw (.scn k) ST_HW_FAULT cause else u

/-- The image ends unless the new state shows one too (R216). -/
def State.scnLeft (s : State) (k : Fin 2) (old new : Nat) (frames : Bool) : State :=
  let stays := new = E_LIT ∨ new = E_HOLD
  let s := if stays then s else s.scnStopFrames k
  let s := if old = E_TRAIN then s.put (.scn k) SCN_STATUS_PBA_WAIT 0 else s
  let s := if frames ∧ !decide stays then (s.calLeave (ltnOfScn k)).ltnForget (ltnOfScn k) else s
  if frames ∧ !decide stays then s.scnCommitStopped k else s

theorem State.scnTo_eq (s : State) (k : Fin 2) (new cause : Nat) : s.scnTo k new cause =
    ((((s.scnEntered k new cause).scnLeft k (s.scnState k) new (s.scnFrames k)).ltnFollow (ltnOfScn k) (s.scnState k)
      new).noteState (4 + k.val) (s.scnState k) new cause) := rfl

theorem State.keepsTrip_putScn (s : State) (x : Fin 6) (k : Fin 2) (f : RF) (v : Nat) (hf : f.off < 0x1000) :
    KeepsTrip x s (s.put (.scn k) f v) := s.keepsTrip_put_page x (p := .scn k) f v nofun hf

theorem State.keepsTrip_scnEntered (s : State) (x : Fin 6) (k : Fin 2) (new cause : Nat) :
    KeepsTrip x s (s.scnEntered k new cause) := by
  unfold State.scnEntered
  extract_lets u
  have hu : KeepsTrip x s u := ((s.keepsTrip_putScn x k _ _ (by decide)).trans (State.keepsTrip_putScn _ x k _ _ (by decide))).trans
    (State.keepsTrip_raise _ x _ (by decide))
  exact hu.trans (.ite (fun _ => u.keepsTrip_errHw x _ _ _) fun _ => .refl u)

theorem State.keepsTrip_scnLeft (s : State) (x : Fin 6) (k : Fin 2) (old new : Nat) (frames : Bool) :
    KeepsTrip x s (s.scnLeft k old new frames) := by
  unfold State.scnLeft
  extract_lets stays stopped granted measured
  have hstopped : KeepsTrip x s stopped := .ite (fun _ => .refl s) fun _ => by
    unfold State.scnStopFrames
    extract_lets ended
    exact (((s.keepsTrip_modScn x k _).trans (ended.keepsTrip_putScn x k _ _ (by decide))).trans
      (State.keepsTrip_putScn _ x k _ _ (by decide))).trans (State.keepsTrip_putScn _ x k _ _ (by decide))
  have hgranted : KeepsTrip x stopped granted := .ite (fun _ => stopped.keepsTrip_putScn x k _ _ (by decide)) fun _ => .refl _
  have hmeasured : KeepsTrip x granted measured :=
    .ite (fun _ => (granted.keepsTrip_calLeave x _).trans (State.keepsTrip_ltnForget _ x _)) fun _ => .refl _
  exact ((hstopped.trans hgranted).trans hmeasured).trans
    (.ite (fun _ => measured.keepsTrip_scnCommitStopped x k) fun _ => .refl _)

theorem State.keepsTrip_scnTo_fault (s : State) (k : Fin 2) (cause : Nat) (h : s.ltnState (ltnOfScn k) = LTN_TRIPPED) :
    KeepsTrip (ltnOfScn k) s (s.scnTo k E_FAULT cause) := by
  have hleft := (s.keepsTrip_scnEntered (ltnOfScn k) k E_FAULT cause).trans
    (State.keepsTrip_scnLeft _ (ltnOfScn k) k (s.scnState k) E_FAULT (s.scnFrames k))
  rw [State.scnTo_eq]
  exact (hleft.trans (State.keepsTrip_ltnFollow_fault _ _ _ ((hleft.get BLK_STATE (by decide)).trans h))).trans
    (State.keepsTrip_noteState _ _ _ _ _ _)

theorem Page.scn_uncalibrated (k : Fin 2) : (Page.scn k).Uncalibrated :=
  ⟨fun _ => nofun, fun _ => nofun, fun _ => nofun, nofun⟩

/-- The commit of a scanner's group writes no state. -/
theorem State.scnState_scnCommitStopped (s : State) (k : Fin 2) : (s.scnCommitStopped k).scnState k = s.scnState k := by
  unfold State.scnCommitStopped State.scnState
  split_ifs
  · unfold State.scnCommit
    extract_lets g late counted inc
    have hcounted : counted.get (.scn k) BLK_STATE = s.get (.scn k) BLK_STATE := by
      unfold counted
      split_ifs
      · exact State.get_bump_ne _ _ _ _ _ (Page.addr_ne_off _ _ (by decide) (by decide) (by decide))
      · rfl
    have hwhole := counted.get_commitWhole g late (counted.scnFails k) (q := .scn k) (f := BLK_STATE) ⟨nofun, by decide⟩
      (by decide) (by decide)
    rw [hcounted] at hwhole
    generalize counted.commitWhole g late (counted.scnFails k) = w at hwhole ⊢
    rw [← hwhole]
    dsimp only
    split_ifs
    · rfl
    · rfl
  · rfl

theorem State.scnState_scnLeft (s : State) (k : Fin 2) (old new : Nat) (frames : Bool) :
    (s.scnLeft k old new frames).scnState k = s.scnState k := by
  have hput : ∀ (u : State) (f : RF) (v : Nat), f.off ≠ BLK_STATE.off → (u.put (.scn k) f v).scnState k = u.scnState k :=
    fun u f v hf => State.get_put_off _ _ _ _ _ hf
  unfold State.scnLeft
  extract_lets stays stopped granted measured
  have hstopped : stopped.scnState k = s.scnState k := by
    unfold stopped
    split_ifs
    · rfl
    · unfold State.scnStopFrames
      rw [hput _ _ _ (by decide), hput _ _ _ (by decide), hput _ _ _ (by decide)]
      rfl
  have hgranted : granted.scnState k = stopped.scnState k := by
    unfold granted
    split_ifs
    · exact hput _ _ _ (by decide)
    · rfl
  have hmeasured : measured.scnState k = granted.scnState k := by
    unfold measured
    split_ifs
    · unfold State.scnState State.ltnForget
      rw [State.modLtn_get, granted.get_calLeave _ (Page.scn_uncalibrated k) ⟨nofun, by decide⟩]
    · rfl
  rw [← hstopped, ← hgranted, ← hmeasured]
  split_ifs
  · exact measured.scnState_scnCommitStopped k
  · rfl

theorem State.scnState_scnEntered (s : State) (k : Fin 2) {new : Nat} (cause : Nat) (h : new < 2 ^ 8) :
    (s.scnEntered k new cause).scnState k = new := by
  have hquiet : QuietReg (.scn k) BLK_STATE := ⟨nofun, by decide⟩
  unfold State.scnEntered State.scnState
  extract_lets u
  have hu : u.get (.scn k) BLK_STATE = new := by
    unfold u
    rw [State.get_raise _ _ _ _ _ hquiet, State.get_put_same _ _ _ _ (by decide)]
    exact Nat.mod_eq_of_lt h
  split_ifs
  · rw [State.get_errHw _ _ _ _ _ _ hquiet, hu]
  · exact hu

theorem State.scnState_scnTo (s : State) (k : Fin 2) {new : Nat} (cause : Nat) (h : new < 2 ^ 8) :
    (s.scnTo k new cause).scnState k = new := by
  have hfollow : ∀ (u : State) (old : Nat), (u.ltnFollow (ltnOfScn k) old new).scnState k = u.scnState k := fun u old =>
    u.get_ltnFollow _ _ _ (q := .scn k) nofun (by decide)
  have hnote : ∀ (u : State) (i old : Nat), (u.noteState i old new cause).scnState k = u.scnState k := fun u i old =>
    u.get_noteState _ _ _ _ (q := .scn k) (g := BLK_STATE) ⟨nofun, by decide⟩ (by decide)
  rw [State.scnTo_eq, hnote, hfollow, State.scnState_scnLeft, s.scnState_scnEntered k cause h]

theorem State.scnState_scnRampDown (s : State) (k : Fin 2) : (s.scnRampDown k).scnState k = s.scnState k :=
  State.get_put_off _ _ SCN_STATUS_LOCKED BLK_STATE 0 (by decide)

theorem State.keepsTrip_scnRampDown (s : State) (x : Fin 6) (k : Fin 2) : KeepsTrip x s (s.scnRampDown k) :=
  (s.keepsTrip_modScn x k _).trans (State.keepsTrip_putScn _ x k SCN_STATUS_LOCKED 0 (by decide))

/-! ### A frame start that is undone (R216) -/

/-- The records of frame starts put back the registers that a frame start writes, and no others. -/
def State.StartsOwn (s : State) : Prop :=
  ∀ (k : Fin 2) (b : ScnBack), s.scn[k].back = some b → ∀ c ∈ b.cells, c.1 ∈ scnFrameRegs k

/-- So are the records that a frame start makes. -/
theorem State.scnKeep_own (s : State) (k : Fin 2) : ∀ c ∈ (s.scnKeep k).cells, c.1 ∈ scnFrameRegs k := by
  intro c hc
  obtain ⟨a, ha, rfl⟩ := List.mem_map.mp hc
  exact ha

theorem State.reset_startsOwn : State.reset.StartsOwn := by
  have hnone : ∀ k : Fin 2, State.reset.scn[k].back = none := by decide +kernel
  intro k b hb
  rw [hnone k] at hb
  cases hb

theorem scnFrameRegs_ne_ltn {k : Fin 2} {a : Nat} (h : a ∈ scnFrameRegs k) (x : Fin 6) {o : Nat} (ho : o < 0x1000) :
    a ≠ (Page.ltn x).base + o := by
  rcases List.mem_cons.mp h with rfl | h
  · exact Page.addr_ne (p := .comp 0) (q := .ltn x) nofun (a := COMP_STATUS.off) (by decide) ho
  · obtain ⟨off, hoff, rfl⟩ := List.mem_map.mp h
    have hlt : ∀ o ∈ [BLK_STATE.off, IRQ_STAT.off, SCN_PNOM.off, SCN_FSTART_NS.off, SCN_STATE_INFO.off, SCN_STATUS.off,
      SCN_FRAME_CNT.off, SCN_REPEAT_CNT.off], o < 0x1000 := by decide
    exact Page.addr_ne (p := .scn k) (q := .ltn x) nofun (hlt off hoff) ho

theorem State.keepsTrip_scnUnstart (s : State) (x : Fin 6) (k : Fin 2) (hown : s.StartsOwn) :
    KeepsTrip x s (s.scnUnstart k) := by
  unfold State.scnUnstart
  split
  · exact .refl s
  · next b hb =>
    have hcells : KeepsTrip x s (b.cells.foldl (fun s c => s.setReg c.1 c.2) s) := .foldl (fun u c hc =>
      u.keepsTrip_setReg x c.2 fun o ho => scnFrameRegs_ne_ltn (hown k b hb c hc) x (tripOffs_lt o ho)) s
    exact .ite (fun _ => .refl s) fun _ => hcells.trans (State.keepsTrip_modScn _ x k _)

/-! ### The latch (R161) -/

/-- What a trip of `s` leaves in `r`: the Lantern is dark, at level 0 and TRIPPED, with cause, time, count and event. -/
structure TripLatched (s : State) (x : Fin 6) (cause : Nat) (r : State) : Prop where
  tripped : r.tripped x = true
  dark : r.lanternDark x = true
  level : r.get (.ltn x) LTN_STATUS_LSEL = 0
  state : r.ltnState x = LTN_TRIPPED
  cause : r.get (.ltn x) LTN_ILK_STAT_CAUSE = cause
  time : r.get (.ltn x) LTN_ILK_TIME_NS = s.localNs % 2 ^ 32
  count : r.get (.ltn x) LTN_TRIP_CNT = min (s.get (.ltn x) LTN_TRIP_CNT + 1) (2 ^ 32 - 1)
  event : r.get (.ltn x) (irqBit LTN_EV_TRIP) = 1

theorem TripLatched.keeps {s u v : State} {x : Fin 6} {cause : Nat} (h : TripLatched s x cause u) (k : KeepsTrip x u v) :
    TripLatched s x cause v where
  tripped := by
    have htripped := h.tripped
    unfold State.tripped State.flag at htripped ⊢
    rw [k.get LTN_ILK_STAT_TRIPPED (by decide)]
    exact htripped
  dark := by
    obtain ⟨hkill, hwin⟩ := (u.lanternDark_iff x).mp h.dark
    exact (v.lanternDark_iff x).mpr ⟨k.kill hkill, (k.get LTN_STATUS_WIN (by decide)).trans hwin⟩
  level := (k.get LTN_STATUS_LSEL (by decide)).trans h.level
  state := (k.get BLK_STATE (by decide)).trans h.state
  cause := (k.get LTN_ILK_STAT_CAUSE (by decide)).trans h.cause
  time := (k.get LTN_ILK_TIME_NS (by decide)).trans h.time
  count := (k.get LTN_TRIP_CNT (by decide)).trans h.count
  event := k.latched h.event

/-- A Lantern's transition writes its state; what calibration loses lies behind the registers. -/
theorem State.get_ltnTo_eq (s : State) (x : Fin 6) (st : Nat) (q : Page) (g : RF) :
    (s.ltnTo x st).get q g = (s.put (.ltn x) BLK_STATE st).get q g := by
  unfold State.ltnTo
  extract_lets lit ready
  have hlit : lit.regs = s.regs := by
    unfold lit
    split_ifs
    · rfl
    · exact (s.calLost_frame _ _).1
  have hready : ready.regs = s.regs := by
    unfold ready
    split_ifs
    · exact hlit
    · exact (lit.calLost_frame _ _).1.trans hlit
  refine State.get_of_regs ?_ q g
  unfold State.put State.setReg State.reg
  dsimp only
  rw [hready]

theorem State.get_ltnOffPins_off (s : State) (x : Fin 6) {g : RF} (h : LTN_STATUS.off ≠ g.off) :
    (s.ltnOffPins x).get (.ltn x) g = s.get (.ltn x) g := by
  unfold State.ltnOffPins State.ltnDark
  extract_lets closed
  rw [State.modLtn_get, State.get_put_off _ _ LTN_STATUS_LSEL _ _ h, State.get_put_off _ _ LTN_STATUS_WIN _ _ h]
  unfold closed
  split_ifs
  · rfl
  · rfl

theorem State.get_ltnOffPins_level (s : State) (x : Fin 6) : (s.ltnOffPins x).get (.ltn x) LTN_STATUS_LSEL = 0 := by
  unfold State.ltnOffPins State.ltnDark
  rw [State.modLtn_get, State.get_put_same _ _ _ _ (by decide)]
  rfl

theorem State.modLtn_scn (s : State) (x : Fin 6) (f : Lantern → Lantern) : (s.modLtn x f).scn = s.scn := rfl

/-- The pins of OFF leave clock and scanners as they are. -/
theorem State.ltnOffPins_frame (s : State) (x : Fin 6) :
    (s.ltnOffPins x).clock = s.clock ∧ (s.ltnOffPins x).scn = s.scn := by
  unfold State.ltnOffPins State.ltnDark
  extract_lets closed
  rw [State.modLtn_clock, State.put_clock, State.put_clock, State.modLtn_scn, State.put_scn, State.put_scn]
  unfold closed
  split_ifs
  · exact ⟨State.modLtn_clock _ _ _, State.modLtn_scn _ _ _⟩
  · exact ⟨rfl, rfl⟩

/-- The count of triggers moves no latch. -/
theorem State.tripped_bumpCount (s : State) (x : Fin 6) : (s.bump (.ltn x) LTN_TRIP_CNT).tripped x = s.tripped x := by
  unfold State.tripped State.flag
  rw [State.get_bump_ne _ _ _ _ _ (Page.addr_ne_off _ _ (by decide) (by decide) (by decide))]

/-- The latch's own registers, as they are set on a Lantern whose pins are dark (R161). -/
def State.ilkRecord (s : State) (x : Fin 6) (cause : Nat) : State :=
  let shown := (s.put (.ltn x) LTN_ILK_STAT_TRIPPED 1).put (.ltn x) LTN_ILK_STAT_CAUSE cause
  let raised := (shown.stamp (.ltn x) LTN_ILK_TIME_NS).raise (.ltn x) LTN_EV_TRIP
  raised.ltnTo x LTN_TRIPPED

/-- The trigger is counted and the pins go dark, with no frame to come (R161). -/
def State.tripPins (s : State) (x : Fin 6) : State :=
  ((s.bump (.ltn x) LTN_TRIP_CNT).ltnOffPins x).modLtn x fun l => { l with final := false }

theorem State.tripPins_dark (s : State) (x : Fin 6) : (s.tripPins x).lanternDark x = true := by
  have hpin : ∀ l : Lantern, ({ l with final := false } : Lantern).killN = l.killN := fun _ => rfl
  obtain ⟨hkill, hwin⟩ := (State.lanternDark_iff _ x).mp ((s.bump (.ltn x) LTN_TRIP_CNT).ltnOffPins_dark x)
  unfold State.tripPins
  rw [State.lanternDark_iff, State.modLtn_ltn, State.modLtn_get]
  exact ⟨(hpin _).trans hkill, hwin⟩

theorem State.tripPins_level (s : State) (x : Fin 6) : (s.tripPins x).get (.ltn x) LTN_STATUS_LSEL = 0 := by
  unfold State.tripPins
  rw [State.modLtn_get, State.get_ltnOffPins_level]

theorem State.tripPins_count (s : State) (x : Fin 6) :
    (s.tripPins x).get (.ltn x) LTN_TRIP_CNT = min (s.get (.ltn x) LTN_TRIP_CNT + 1) (2 ^ 32 - 1) := by
  unfold State.tripPins
  rw [State.modLtn_get, State.get_ltnOffPins_off _ _ (by decide), State.get_bump_same _ _ _ (by decide)]
  rfl

theorem State.tripPins_localNs (s : State) (x : Fin 6) : (s.tripPins x).localNs = s.localNs := by
  unfold State.tripPins State.localNs
  rw [State.modLtn_clock, (State.ltnOffPins_frame _ _).1, (State.onlyRecords_bump _ _ _).clock]

theorem State.ltnLatch_tripped (s : State) (x : Fin 6) (cause : Nat) (h : s.tripped x = true) :
    s.ltnLatch x cause = s.bump (.ltn x) LTN_TRIP_CNT := by
  unfold State.ltnLatch
  extract_lets p counted
  exact if_pos ((s.tripped_bumpCount x).trans h)

theorem State.ltnLatch_free (s : State) (x : Fin 6) (cause : Nat) (h : s.tripped x = false) : s.ltnLatch x cause =
    if cause = 6 then (s.tripPins x).ilkRecord x cause
    else ((s.tripPins x).ilkRecord x cause).errHw (.ltn x) ST_HW_FAULT (tripDetail cause) := by
  have hfree : ¬ (s.bump (.ltn x) LTN_TRIP_CNT).tripped x = true := by
    rw [State.tripped_bumpCount, h]
    exact Bool.false_ne_true
  unfold State.ltnLatch
  extract_lets p counted dark shown raised tripped
  rw [if_neg hfree]
  rfl

/-- A field that lies in none of the latch's registers. -/
theorem State.get_ilkRecord (s : State) (x : Fin 6) (cause : Nat) {g : RF} (hquiet : QuietReg (.ltn x) g)
    (h : g.off ∉ [BLK_STATE.off, LTN_ILK_STAT.off, LTN_ILK_TIME_NS.off]) :
    (s.ilkRecord x cause).get (.ltn x) g = s.get (.ltn x) g := by
  simp only [List.mem_cons, List.not_mem_nil, or_false, not_or] at h
  obtain ⟨hstate, hstat, htime⟩ := h
  unfold State.ilkRecord
  rw [State.get_ltnTo_eq, State.get_put_off _ _ _ _ _ (Ne.symm hstate), State.get_raise _ _ _ _ _ hquiet,
    State.get_stamp_ne _ _ _ _ _ (Page.addr_ne_off _ _ (Ne.symm htime) (by decide) hquiet.lt),
    State.get_put_off _ _ LTN_ILK_STAT_CAUSE _ _ (Ne.symm hstat), State.get_put_off _ _ LTN_ILK_STAT_TRIPPED _ _ (Ne.symm hstat)]

/-- A field of `LTN_ILK_STAT` is what the latch wrote there. -/
theorem State.get_ilkRecord_stat (s : State) (x : Fin 6) (cause : Nat) {g : RF} (h : g.off = LTN_ILK_STAT.off) :
    (s.ilkRecord x cause).get (.ltn x) g =
      ((s.put (.ltn x) LTN_ILK_STAT_TRIPPED 1).put (.ltn x) LTN_ILK_STAT_CAUSE cause).get (.ltn x) g := by
  have hlt : g.off < 0x1000 := h ▸ by decide
  have hquiet : QuietReg (.ltn x) g := ⟨nofun, hlt, by rw [h]; decide⟩
  unfold State.ilkRecord
  rw [State.get_ltnTo_eq, State.get_put_off _ _ _ _ _ (by rw [h]; decide), State.get_raise _ _ _ _ _ hquiet,
    State.get_stamp_ne _ _ _ _ _ (Page.addr_ne_off _ _ (by rw [h]; decide) (by decide) hlt)]

/-- A time-stamp shows the nanoseconds of the local clock. -/
theorem State.get_stamp_same (s : State) (p : Page) (f : RF) (h : f.Fits) : (s.stamp p f).get p f = s.localNs % 2 ^ f.w := by
  have hput : (s.stamp p f).get p f = (s.put p f s.localNs).get p f := rfl
  rw [hput, State.get_put_same _ _ _ _ h]

theorem State.get_ilkRecord_time (s : State) (x : Fin 6) (cause : Nat) :
    (s.ilkRecord x cause).get (.ltn x) LTN_ILK_TIME_NS = s.localNs % 2 ^ 32 := by
  unfold State.ilkRecord
  rw [State.get_ltnTo_eq, State.get_put_off _ _ BLK_STATE LTN_ILK_TIME_NS _ (by decide),
    State.get_raise _ _ (.ltn x) _ LTN_ILK_TIME_NS ⟨nofun, by decide⟩, State.get_stamp_same _ _ _ (by decide)]
  unfold State.localNs
  rw [State.put_clock, State.put_clock]
  rfl

theorem State.get_ilkRecord_event (s : State) (x : Fin 6) (cause : Nat) :
    (s.ilkRecord x cause).get (.ltn x) (irqBit LTN_EV_TRIP) = 1 := by
  unfold State.ilkRecord
  rw [State.get_ltnTo_eq, State.get_put_off _ _ BLK_STATE (irqBit LTN_EV_TRIP) _ (show BLK_STATE.off ≠ IRQ_STAT.off by decide)]
  exact State.get_raise_irqBit _ _ (by decide)

theorem State.keepsOff_stampSec (s : State) (l : List (Nat × Word)) : KeepsOff s { s with stampSec := l } := .of_regs rfl rfl

theorem State.keepsOff_ilkRecord (s : State) (x : Fin 6) (cause : Nat) : KeepsOff s (s.ilkRecord x cause) := by
  have hput : ∀ (u : State) (f : RF) (v : Nat), f.off < 0x1000 → f.off ≠ BLK_STATE.off → f.off ≠ LTN_STATUS_WIN.off →
      KeepsOff u (u.put (.ltn x) f v) := fun u f v => u.keepsOff_put_off (.ltn x) v
  have hstamp : ∀ u : State, KeepsOff u (u.stamp (.ltn x) LTN_ILK_TIME_NS) := fun u =>
    (hput u LTN_ILK_TIME_NS u.localNs (by decide) (by decide) (by decide)).trans (State.keepsOff_stampSec _ _)
  unfold State.ilkRecord
  extract_lets shown raised
  have hshown : KeepsOff s shown := (hput s LTN_ILK_STAT_TRIPPED 1 (by decide) (by decide) (by decide)).trans
    (hput _ LTN_ILK_STAT_CAUSE cause (by decide) (by decide) (by decide))
  have hraised : KeepsOff shown raised := (hstamp shown).trans (State.keepsOff_raise _ _ _)
  exact (hshown.trans hraised).trans (raised.keepsOff_ltnTo x _)

theorem State.latched_ltnLatch (s : State) (x : Fin 6) {cause : Nat} (hfree : s.tripped x = false) (hcause : cause < 16) :
    TripLatched s x cause (s.ltnLatch x cause) := by
  have hrecord : TripLatched s x cause ((s.tripPins x).ilkRecord x cause) := by
    refine ⟨?tripped, (State.keepsOff_ilkRecord _ x cause).dark (s.tripPins_dark x), ?level, ?state, ?cause, ?time, ?count,
      State.get_ilkRecord_event _ _ _⟩
    case tripped =>
      unfold State.tripped State.flag
      rw [State.get_ilkRecord_stat _ _ _ (g := LTN_ILK_STAT_TRIPPED) rfl, State.get_put_apart _ _ LTN_ILK_STAT_CAUSE
        LTN_ILK_STAT_TRIPPED _ rfl (by decide) (by decide), State.get_put_same _ _ _ _ (by decide)]
      rfl
    case level => rw [State.get_ilkRecord _ _ _ ⟨nofun, by decide⟩ (by decide), State.tripPins_level]
    case state =>
      unfold State.ilkRecord State.ltnState
      rw [State.get_ltnTo_eq, State.get_put_same _ _ _ _ (by decide)]
      rfl
    case cause =>
      rw [State.get_ilkRecord_stat _ _ _ (g := LTN_ILK_STAT_CAUSE) rfl, State.get_put_same _ _ _ _ (by decide)]
      exact Nat.mod_eq_of_lt hcause
    case time => rw [State.get_ilkRecord_time, State.tripPins_localNs]
    case count => rw [State.get_ilkRecord _ _ _ ⟨nofun, by decide⟩ (by decide), State.tripPins_count]
  rw [s.ltnLatch_free x cause hfree]
  exact hrecord.keeps (.ite (fun _ => .refl _) fun _ => State.keepsTrip_errHw _ x _ _ _)

/-- The latch writes no other page. -/
theorem State.get_ltnLatch (s : State) (x : Fin 6) (cause : Nat) {q : Page} {g : RF} (hq : Page.ltn x ≠ q)
    (hquiet : QuietReg q g) : (s.ltnLatch x cause).get q g = s.get q g := by
  have hlt := hquiet.lt
  have hcount : (s.bump (.ltn x) LTN_TRIP_CNT).get q g = s.get q g :=
    State.get_bump_ne _ _ _ _ _ (Page.addr_ne hq (by decide) hlt)
  by_cases h : s.tripped x = true
  · rw [s.ltnLatch_tripped x cause h, hcount]
  · have hrecord : ((s.tripPins x).ilkRecord x cause).get q g = s.get q g := by
      unfold State.ilkRecord
      rw [State.get_ltnTo _ _ _ hq hlt, State.get_raise _ _ _ _ _ hquiet,
        State.get_stamp_ne _ _ _ _ _ (Page.addr_ne hq (by decide) hlt), State.get_put_page _ _ _ _ _ _ hq (by decide) hlt,
        State.get_put_page _ _ _ _ _ _ hq (by decide) hlt]
      unfold State.tripPins
      rw [State.modLtn_get, State.get_ltnOffPins _ _ hq hlt, hcount]
    rw [s.ltnLatch_free x cause (Bool.eq_false_iff.mpr h)]
    split_ifs
    · exact hrecord
    · exact (State.get_errHw _ _ _ _ _ _ hquiet).trans hrecord

theorem OnlyRecords.scn {s u : State} (h : OnlyRecords s u) : u.scn = s.scn := by
  rw [OnlyRecords] at h; rw [h]

theorem State.stamp_scn (s : State) (p : Page) (f : RF) : (s.stamp p f).scn = s.scn := rfl

theorem State.calLost_scn (s : State) (cls inst : Nat) : (s.calLost cls inst).scn = s.scn := by
  unfold State.calLost
  split
  · rfl
  · rfl

theorem State.ltnTo_scn (s : State) (x : Fin 6) (st : Nat) : (s.ltnTo x st).scn = s.scn := by
  unfold State.ltnTo
  rw [State.put_scn]
  split_ifs <;> simp only [State.calLost_scn]

/-- The latch leaves the scanners as they are. -/
theorem State.ltnLatch_scn (s : State) (x : Fin 6) (cause : Nat) : (s.ltnLatch x cause).scn = s.scn := by
  have hcount : (s.bump (.ltn x) LTN_TRIP_CNT).scn = s.scn := (State.onlyRecords_bump _ _ _).scn
  by_cases h : s.tripped x = true
  · rw [s.ltnLatch_tripped x cause h, hcount]
  · have hrecord : ((s.tripPins x).ilkRecord x cause).scn = s.scn := by
      unfold State.ilkRecord
      rw [State.ltnTo_scn, (State.onlyRecords_raise _ _ _).scn, State.stamp_scn, State.put_scn, State.put_scn]
      unfold State.tripPins
      rw [State.modLtn_scn, (State.ltnOffPins_frame _ _).2, hcount]
    rw [s.ltnLatch_free x cause (Bool.eq_false_iff.mpr h)]
    split_ifs
    · exact hrecord
    · exact (State.onlyRecords_err _ _ _ _ _ _).scn.trans hrecord

theorem State.startsOwn_ltnLatch (s : State) (x : Fin 6) (cause : Nat) (h : s.StartsOwn) : (s.ltnLatch x cause).StartsOwn := by
  unfold State.StartsOwn
  rw [s.ltnLatch_scn]
  exact h

/-! ### A trip (R160, R161, R211) -/

/-- A Lantern serves a mirror engine or a scanner. -/
theorem ltn_cases (x : Fin 6) : (∃ n, x = ltnOfEng n) ∨ ∃ k, x = ltnOfScn k := by
  by_cases h : x.val < 4
  · exact .inl ⟨⟨x.val, h⟩, rfl⟩
  · exact .inr ⟨⟨x.val - 4, by omega⟩, Fin.ext (show x.val = x.val - 4 + 4 by omega)⟩

theorem State.trip_engine (s : State) (n : Fin 4) (cause : Nat) : s.trip (ltnOfEng n) cause = s.engTrip n cause :=
  dif_pos n.isLt

theorem State.trip_scanner (s : State) (k : Fin 2) (cause : Nat) : s.trip (ltnOfScn k) cause = s.scnTrip k cause :=
  dif_neg (show ¬ k.val + 4 < 4 by omega)

theorem State.unitState_engine (s : State) (n : Fin 4) : s.unitState (ltnOfEng n) = s.engState n := by
  unfold State.unitState ltnOfEng
  rw [engOfLtn_engine]

theorem State.unitState_scanner (s : State) (k : Fin 2) : s.unitState (ltnOfScn k) = s.scnState k := by
  unfold State.unitState ltnOfScn
  rw [engOfLtn_scanner, scnOfLtn_scanner]

/-- A further trigger of a tripped Lantern is only counted (R161). -/
theorem State.trip_tripped (s : State) (x : Fin 6) (cause : Nat) (h : s.tripped x = true) :
    s.trip x cause = s.bump (.ltn x) LTN_TRIP_CNT := by
  obtain ⟨n, rfl⟩ | ⟨k, rfl⟩ := ltn_cases x
  · rw [State.trip_engine]
    exact (if_pos (.inl h)).trans (s.ltnLatch_tripped _ cause h)
  · rw [State.trip_scanner]
    exact (if_pos (.inl h)).trans (s.ltnLatch_tripped _ cause h)

theorem State.engTrip_free (s : State) (n : Fin 4) (cause : Nat) (hfree : s.tripped (ltnOfEng n) = false) :
    s.engTrip n cause = if cause = 6 ∨ s.engState n = E_OFF ∨ s.engState n = E_FAULT then s.ltnLatch (ltnOfEng n) cause
      else (s.ltnLatch (ltnOfEng n) cause).engTo n E_FAULT CAUSE_INTERLOCK := by
  have hunit : (s.ltnLatch (ltnOfEng n) cause).engState n = s.engState n :=
    s.get_ltnLatch _ _ (q := .eng n) nofun ⟨nofun, by decide⟩
  unfold State.engTrip
  simp only [hfree, Bool.false_eq_true, false_or, hunit]

theorem State.scnTrip_free (s : State) (k : Fin 2) (cause : Nat) (hfree : s.tripped (ltnOfScn k) = false) :
    s.scnTrip k cause = if cause = 6 ∨ s.scnState k = E_OFF ∨ s.scnState k = E_FAULT then s.ltnLatch (ltnOfScn k) cause
      else (((s.ltnLatch (ltnOfScn k) cause).scnUnstart k).scnTo k E_FAULT SCN_INTERLOCK).scnRampDown k := by
  have hunit : (s.ltnLatch (ltnOfScn k) cause).scnState k = s.scnState k :=
    s.get_ltnLatch _ _ (q := .scn k) nofun ⟨nofun, by decide⟩
  unfold State.scnTrip
  simp only [hfree, Bool.false_eq_true, false_or, hunit]

/-- What a trip does to the state of a unit in `old`, with `new` the state after it. -/
theorem trip_unit_cases {cause old new : Nat} (hstays : cause = 6 ∨ old = E_OFF ∨ old = E_FAULT → new = old)
    (hfault : ¬ (cause = 6 ∨ old = E_OFF ∨ old = E_FAULT) → new = E_FAULT) :
    (cause ≠ 6 → old ≠ E_OFF → new = E_FAULT) ∧ (cause = 6 ∨ old = E_OFF → new = old) := by
  refine ⟨fun htest hoff => ?_, fun h => hstays (h.imp_right .inl)⟩
  by_cases h : cause = 6 ∨ old = E_OFF ∨ old = E_FAULT
  · have hold : old = E_FAULT := (h.resolve_left htest).resolve_left hoff
    exact (hstays h).trans hold
  · exact hfault h

/-- A trip puts its unit into FAULT, but for a TEST and in OFF (R160, R211). -/
theorem State.trip_unitState (s : State) (x : Fin 6) (cause : Nat) (hfree : s.tripped x = false) :
    (cause ≠ 6 → s.unitState x ≠ E_OFF → (s.trip x cause).unitState x = E_FAULT) ∧
      (cause = 6 ∨ s.unitState x = E_OFF → (s.trip x cause).unitState x = s.unitState x) := by
  obtain ⟨n, rfl⟩ | ⟨k, rfl⟩ := ltn_cases x
  · rw [State.trip_engine, State.unitState_engine, State.unitState_engine, s.engTrip_free n cause hfree]
    refine trip_unit_cases (fun h => ?_) fun h => ?_
    · rw [if_pos h]
      exact s.get_ltnLatch _ _ (q := .eng n) nofun ⟨nofun, by decide⟩
    · rw [if_neg h]
      exact State.engState_engTo _ n _ (by decide)
  · rw [State.trip_scanner, State.unitState_scanner, State.unitState_scanner, s.scnTrip_free k cause hfree]
    refine trip_unit_cases (fun h => ?_) fun h => ?_
    · rw [if_pos h]
      exact s.get_ltnLatch _ _ (q := .scn k) nofun ⟨nofun, by decide⟩
    · rw [if_neg h, State.scnState_scnRampDown]
      exact State.scnState_scnTo _ k _ (by decide)

/-- A trip of a Lantern that is not tripped leaves it latched, where records of frame starts are such as the machine makes. -/
theorem State.trip_latched (s : State) (x : Fin 6) {cause : Nat} (hown : s.StartsOwn) (hfree : s.tripped x = false)
    (hcause : cause < 16) : TripLatched s x cause (s.trip x cause) := by
  have hlatched := s.latched_ltnLatch x hfree hcause
  obtain ⟨n, rfl⟩ | ⟨k, rfl⟩ := ltn_cases x
  · rw [State.trip_engine, s.engTrip_free n cause hfree]
    exact hlatched.keeps (.ite (fun _ => .refl _) fun _ => State.keepsTrip_engTo_fault _ n _ hlatched.state)
  · have hunstart := State.keepsTrip_scnUnstart (s.ltnLatch (ltnOfScn k) cause) (ltnOfScn k) k (s.startsOwn_ltnLatch _ _ hown)
    rw [State.trip_scanner, s.scnTrip_free k cause hfree]
    refine hlatched.keeps (.ite (fun _ => .refl _) fun _ => (hunstart.trans ?_).trans (State.keepsTrip_scnRampDown _ _ k))
    exact State.keepsTrip_scnTo_fault _ k _ (hlatched.keeps hunstart).state

/-! ### The statement -/

/-- Scanner 0 in LIT, whose frame starts at this instant with a record that holds the status of Lantern 4, its window open. -/
def State.strayStart : State :=
  (State.reset.put (.scn 0) BLK_STATE E_LIT).modScn 0 fun c => { c with
    back := some { instant := 0, cells := [((Page.ltn 4).base + LTN_STATUS.off, 1)], ready := none, readyGeom := 0
                   frontGeom := 0, sk := 0, pred := 0, urRun := 0 } }

/-- Refutes O54: a trip on the tick of a scanner's frame start puts back whatever registers the record of that start holds
(R216), here the open window of the Lantern that trips. A frame start makes no such record (`State.scnKeep_own`), and
without one the statement holds: `State.trip_tripped`, `State.trip_latched` and `State.trip_unitState`. -/
theorem not_tripShutsTheSource : ¬ Obligations.TripShutsTheSource := by
  rintro ⟨-, htrip⟩
  have hfree : State.strayStart.tripped 4 = false := by decide +kernel
  obtain ⟨-, hdark, -⟩ := htrip State.strayStart 4 1 hfree (by decide)
  have hlit : (State.strayStart.trip 4 1).lanternDark 4 = false := by decide +kernel
  exact Bool.false_ne_true (hlit.symm.trans hdark)

end Sys2Proof.Machine

/-! ## The light commands of the Lanterns (R144, R147, R149–R151, R153, R503) -/

namespace Sys2Proof.Machine

/-! ### The next frame and the setpoint port (R144, R150, R151, R503) -/

theorem exec_frameStartFinal_engine (t : Nat) {x : Fin 6} {n : Fin 4} (s : State) (h : engOfLtn x = some n) :
    exec (.frameStartFinal t x) s = .next ((s.at t).engFinal n) := by
  refine congrArg Host.Outcome.next ?_
  rw [h]

theorem exec_frameStartFinal_scanner (t : Nat) {x : Fin 6} {k : Fin 2} (s : State) (hnone : engOfLtn x = none)
    (hscn : scnOfLtn x = some k) : exec (.frameStartFinal t x) s = .next ((s.at t).scnFinal k) := by
  refine congrArg Host.Outcome.next ?_
  rw [hnone, hscn]

theorem exec_setpointFrame_powered (t : Nat) (x : Fin 6) (resp : Nat) (s : State) (h : (s.at t).domOn PD_LTN = true) :
    exec (.setpointFrame t x resp) s = .next ((s.at t).setpointFrame x resp) :=
  congrArg Host.Outcome.next (if_pos h)

/-- The port of a Lantern is reported dead (R151). -/
def State.setptDeadReport (s : State) (x : Fin 6) : State :=
  ((s.modLtn x fun l => { l with dead := true }).raise (.ltn x) LTN_EV_SETPT_DEAD).errHw (.ltn x) ST_HW_FAULT 0x27

/-- The report moves the Lantern in nothing else. -/
theorem State.setptDeadReport_lantern (s : State) (x : Fin 6) :
    (s.setptDeadReport x).ltn[x] = { s.ltn[x] with dead := true } := by
  unfold State.setptDeadReport State.errHw
  rw [(State.onlyRecords_err _ _ _ _ _ _).ltn, (State.onlyRecords_raise _ _ _).ltn, State.modLtn_ltn]

theorem exec_setptDead_missed (t : Nat) (x : Fin 6) (s : State) (hmiss : 16 ≤ (s.at t).ltn[x].miss)
    (honce : (s.at t).ltn[x].dead = false) : exec (.setptDead t x) s = .next ((s.at t).setptDeadReport x) :=
  congrArg Host.Outcome.next (if_pos ⟨hmiss, (Bool.not_eq_true' _).mpr honce⟩)

theorem exec_setpointLoadRetry_due (t : Nat) (x : Fin 6) (s : State)
    (h : (s.at t).ltn[x].loading = true ∧ (s.at t).ltn[x].loadAt + usU 100 ≤ (s.at t).now) :
    exec (.setpointLoadRetry t x) s = .next (((s.at t).ltnMiss x).ltnLoad x) :=
  congrArg Host.Outcome.next (if_pos h)

/-! ### Windows (R143, R147) -/

/-- After a command to the window, `LSx_WIN` is as commanded. -/
theorem State.flag_ltnWin (s : State) (x : Fin 6) (on : Bool) (edge : Nat) :
    (s.ltnWin x on edge).flag (.ltn x) LTN_STATUS_WIN = on :=
  s.flag_setFlag_same (.ltn x) LTN_STATUS_WIN on rfl (by decide)

theorem exec_windowEdge_opens (t : Nat) (x : Fin 6) (s : State)
    (hdark : (s.at t).flag (.ltn x) LTN_STATUS_WIN = false) (hmay : (s.at t).mayLight x = true)
    (hgap : (s.at t).ltn[x].closeAt + nsU 100 ≤ (s.at t).now + (s.at t).get (.ltn x) LTN_DOUT_OPEN)
    (hedge : ((s.at t).windows x).any (fun w => w.1 == (s.at t).now + (s.at t).get (.ltn x) LTN_DOUT_OPEN &&
      decide ((s.at t).now + (s.at t).get (.ltn x) LTN_DOUT_OPEN + nsU 32 ≤ w.2.1)) = true) :
    exec (.windowEdge t x true) s =
      .next ((s.at t).ltnWin x true ((s.at t).now + (s.at t).get (.ltn x) LTN_DOUT_OPEN)) :=
  congrArg Host.Outcome.next ((if_pos rfl).trans (if_pos ⟨(Bool.not_eq_true' _).mpr hdark, hmay, hgap, hedge⟩))

theorem exec_windowEdge_closes (t : Nat) (x : Fin 6) (s : State) (hlit : (s.at t).flag (.ltn x) LTN_STATUS_WIN = true)
    (hends : ((s.at t).windows x).any (fun w => w.2.1 == (s.at t).now + (s.at t).get (.ltn x) LTN_DOUT_CLOSE) = true)
    (hdark : ((s.at t).windows x).any (fun w => w.1 == (s.at t).now + (s.at t).get (.ltn x) LTN_DOUT_CLOSE) = false) :
    exec (.windowEdge t x false) s =
      .next ((s.at t).ltnWin x false ((s.at t).now + (s.at t).get (.ltn x) LTN_DOUT_CLOSE)) :=
  congrArg Host.Outcome.next ((if_neg Bool.false_ne_true).trans
    (if_pos ⟨hlit, (Bool.or_eq_true _ _).mpr (.inl hends), (Bool.not_eq_true' _).mpr hdark⟩))

/-! ### The level (R149) -/

/-- In the dark the next window to open gives the level. -/
theorem State.levelWindow_dark (s : State) (x : Fin 6) (h : s.flag (.ltn x) LTN_STATUS_WIN = false) :
    s.levelWindow x = nextOpen (s.windows x) s.now := by
  refine if_neg ?_
  rintro ⟨hlit, -⟩
  exact Bool.false_ne_true (h.symm.trans hlit)

theorem exec_lselChange_due (t : Nat) (x : Fin 6) {w : Nat × Nat × Nat} (s : State)
    (hnext : (s.at t).levelWindow x = some w) (hmay : (s.at t).mayLight x = true)
    (hlevel : (s.at t).get (.ltn x) LTN_STATUS_LSEL ≠ w.2.2)
    (hroom : (s.at t).ltn[x].closeAt + nsU ((s.at t).inf (.ltn x) LTN_LSEL_TIME_HOLD) +
      nsU ((s.at t).inf (.ltn x) LTN_LSEL_TIME_SETUP) ≤ w.1)
    (hdue : w.1 ≤ (s.at t).now + nsU ((s.at t).inf (.ltn x) LTN_LSEL_TIME_SETUP)) :
    exec (.lselChange t x) s = .next ((s.at t).put (.ltn x) LTN_STATUS_LSEL w.2.2) := by
  have htight : decide (w.1 < (s.at t).ltn[x].closeAt + nsU ((s.at t).inf (.ltn x) LTN_LSEL_TIME_HOLD) +
      nsU ((s.at t).inf (.ltn x) LTN_LSEL_TIME_SETUP)) = false := decide_eq_false (Nat.not_lt.mpr hroom)
  refine congrArg Host.Outcome.next ?_
  dsimp only
  rw [hnext]
  dsimp only
  rw [htight]
  refine (if_neg ?_).trans (if_neg Bool.false_ne_true)
  rintro (hnot | hearly | hsame)
  · rw [hmay] at hnot; cases hnot
  · exact Nat.not_lt.mpr (Nat.sub_le_of_le_add hdue) hearly
  · exact hlevel hsame

/-! ### Samples (R153) -/

theorem exec_pdSample_powered (t : Nat) (x : Fin 6) (code : Nat) (echo : Bool) (s : State)
    (h : (s.at t).domOn PD_LTN = true) :
    exec (.pdSample t x code echo) s = .next ((s.at t).photoSample x (min code 65535) echo) :=
  congrArg Host.Outcome.next (if_pos h)

/-- The flag of a level whose ratio is stale (R153). -/
def levelStale (lvl : Fin 4) : RF := ⟨LTN_STATUS.off, 8 + lvl.val, 1⟩

theorem exec_ratioStale_unmeasured (t : Nat) (x : Fin 6) (lvl : Fin 4) (s : State) (hmirror : scanMode x = false)
    (hlong : 256 ≤ (s.at t).ltn[x].unmeas[lvl]) (hfresh : (s.at t).get (.ltn x) (levelStale lvl) = 0) :
    exec (.ratioStale t x lvl) s =
      .next (((s.at t).put (.ltn x) (levelStale lvl) 1).raise (.ltn x) LTN_EV_RATIO_STALE) :=
  congrArg Host.Outcome.next (if_pos ⟨(Bool.not_eq_true' _).mpr hmirror, hlong, hfresh⟩)

theorem State.get_levelStale_raised (s : State) (x : Fin 6) (lvl : Fin 4) :
    ((s.put (.ltn x) (levelStale lvl) 1).raise (.ltn x) LTN_EV_RATIO_STALE).get (.ltn x) (levelStale lvl) = 1 := by
  have hfits : (levelStale lvl).Fits := by show 8 + lvl.val + 1 ≤ 32; omega
  have hquiet : QuietReg (.ltn x) (levelStale lvl) := ⟨nofun, show LTN_STATUS.off < 0x1000 ∧ LTN_STATUS.off ≠ IRQ_STAT.off ∧
    LTN_STATUS.off ≠ ERR_CODE.off ∧ LTN_STATUS.off ≠ ERR_INFO.off ∧ LTN_STATUS.off ≠ ERR_CNT.off by decide⟩
  rw [State.get_raise _ _ _ _ _ hquiet, State.get_put_same _ _ _ _ hfits]
  rfl

/-! ### The statement -/

/-- Settles O16: under the condition named, each command is its step. -/
theorem lanternLightCommandsComplete : Obligations.LanternLightCommandsComplete := by
  refine ⟨?engine, ?scanner, ?portFrame, ?dead, ?retry, ?opens, ?closes, ?level, ?sample, ?stale⟩
  case engine =>
    intro x n t s h
    exact ⟨_, exec_frameStartFinal_engine t s h, rfl⟩
  case scanner =>
    rintro x k t s ⟨hnone, hscn⟩
    exact ⟨_, exec_frameStartFinal_scanner t s hnone hscn, rfl⟩
  case portFrame =>
    intro x resp t s h
    exact ⟨_, exec_setpointFrame_powered t x resp s h, rfl⟩
  case dead =>
    rintro x t s ⟨hmiss, honce⟩
    exact ⟨_, exec_setptDead_missed t x s hmiss honce, rfl, congrArg Lantern.dead (State.setptDeadReport_lantern _ x)⟩
  case retry =>
    intro x t s h
    exact ⟨_, exec_setpointLoadRetry_due t x s h, rfl⟩
  case opens =>
    rintro x t s ⟨hdark, hmay, hgap, hedge⟩
    exact ⟨_, exec_windowEdge_opens t x s hdark hmay hgap hedge, rfl, State.flag_ltnWin _ _ _ _⟩
  case closes =>
    rintro x t s ⟨hlit, hends, hdark⟩
    exact ⟨_, exec_windowEdge_closes t x s hlit hends hdark, rfl, State.flag_ltnWin _ _ _ _⟩
  case level =>
    rintro x w t s ⟨hnext, hdark, hmay, hlvl, hlevel, hroom, hdue⟩
    refine ⟨_, exec_lselChange_due t x s ((State.levelWindow_dark _ x hdark).trans hnext) hmay hlevel hroom hdue, rfl, ?_⟩
    rw [State.get_put_same _ _ _ _ (by decide)]
    exact Nat.mod_eq_of_lt hlvl
  case sample =>
    intro x code echo t s h
    exact ⟨_, exec_pdSample_powered t x code echo s h, rfl⟩
  case stale =>
    rintro x lvl t s ⟨hmirror, hlong, hfresh⟩
    exact ⟨_, exec_ratioStale_unmeasured t x lvl s hmirror hlong hfresh, rfl, State.get_levelStale_raised _ x lvl⟩

end Sys2Proof.Machine

/-! ## The interlock and fallback commands of the Lanterns (R158–R163) -/

namespace Sys2Proof.Machine

/-! ### Triggers (R160) -/

theorem exec_winStuck_echo (t : Nat) (x : Fin 6) (s : State) (hactive : ((s.at t).ltnEcho x true).ltnActive x = true)
    (hlong : ((s.at t).ltnEcho x true).ltn[x].echoRise + nsU (((s.at t).ltnEcho x true).get (.ltn x) LTN_WIN_MAX) <
      ((s.at t).ltnEcho x true).now) :
    exec (.winStuck t x true) s = .next (((s.at t).ltnEcho x true).trip x 2) :=
  congrArg Host.Outcome.next (if_pos ⟨hactive, .inr (decide_eq_true hlong)⟩)

theorem exec_linkLitCheck_echo (t : Nat) (x : Fin 6) (pd : Nat) {a : Nat} (s : State)
    (hloss : (s.at t).ltn[x].lossAt = some a) (hdue : a + usU 20 ≤ (s.at t).now)
    (hactive : ((s.at t).lossSeen x true pd).ltnActive x = true) :
    exec (.linkLitCheck t x true pd) s = .next (((s.at t).lossSeen x true pd).trip x 3) := by
  refine congrArg Host.Outcome.next ?_
  dsimp only
  rw [hloss]
  exact (if_neg (Nat.not_lt.mpr hdue)).trans (if_pos ⟨(Bool.or_eq_true _ _).mpr (.inl hactive), .inl rfl⟩)

theorem exec_pinMismatch_long (t : Nat) (x : Fin 6) (pin : Bool) (dur : Nat) (s : State)
    (hpin : pin ≠ (s.at t).ltn[x].killN) (hlong : usU 1 < dur) (hactive : (s.at t).ltnActive x = true) :
    exec (.pinMismatch t x pin dur) s = .next ((((s.at t).pinSeen x pin dur).trip x 7).modLtn x fun l =>
      { l with pinSince := (s.at t).now }) :=
  congrArg Host.Outcome.next (if_pos ⟨bne_iff_ne.mpr hpin, hlong, .inl hactive⟩)

/-! ### The interlock command register (R162, R163) -/

/-- A command that writes a register of a block completes with what the block does with the word written. -/
theorem completes_of_block_write {c : Nat → Instr} {path : Path} {p : Page} {f : RF} {v : Nat} {P : State → Prop}
    {Q : State → State → Prop} (hexec : ∀ t s, exec (c t) s = .next ((s.at t).regBy path p f v)) (hv : v < 2 ^ 32)
    (hlow : 0x044 ≤ f.off) (hhigh : f.off < 0x800) (hw : ∀ u, P u → u.writable path p f = true)
    (hQ : ∀ u, P u → Q u ((u.blockWrite path p f.off v).answer (BitVec.ofNat 32 v))) : Completes c P Q := by
  intro t s hP
  have hwrite := (s.at t).regBy_reaches path p f v (by omega) (hw _ hP)
  rw [Nat.mod_eq_of_lt hv, State.pageWrite_block _ _ _ _ _ hlow hhigh] at hwrite
  exact ⟨_, (hexec t s).trans (congrArg Host.Outcome.next hwrite), hQ _ hP⟩

theorem exec_ilkClear (t : Nat) (path : Path) (x : Fin 6) (s : State) :
    exec (.ilkClear t path x) s = .next ((s.at t).regBy path (.ltn x) LTN_ILK_CMD 1) := rfl
theorem exec_ilkTest (t : Nat) (path : Path) (x : Fin 6) (s : State) :
    exec (.ilkTest t path x) s = .next ((s.at t).regBy path (.ltn x) LTN_ILK_CMD 2) := rfl

theorem State.blockWrite_ilkClear (s : State) (path : Path) (x : Fin 6) :
    s.blockWrite path (.ltn x) LTN_ILK_CMD.off 1 = s.ilkClear path x :=
  show s.ltnWrite path x LTN_ILK_CMD.off 1 = s.ilkClear path x from if_pos rfl
theorem State.blockWrite_ilkTest (s : State) (path : Path) (x : Fin 6) :
    s.blockWrite path (.ltn x) LTN_ILK_CMD.off 2 = s.ilkTest path x :=
  show s.ltnWrite path x LTN_ILK_CMD.off 2 = s.ilkTest path x from if_pos rfl

theorem State.ilkClear_gone (s : State) (x : Fin 6) (htrip : s.tripped x = true)
    (hgone : s.causePresent x (s.scnGone x) = false) :
    s.ilkClear .mp x = s.ltnUnlatch x (s.unitState x == E_OFF) := by
  unfold State.ilkClear
  rw [if_neg (by decide), if_neg (by simp [htrip]), if_neg (by simp [hgone])]

theorem State.ilkTest_idle (s : State) (x : Fin 6) (hltn : s.ltnState x = LTN_OFF ∨ s.ltnState x = LTN_ARMED)
    (hunit : s.unitState x = E_OFF ∨ s.unitState x = E_TRAIN ∨ s.unitState x = E_READY) :
    s.ilkTest .mp x = s.trip x 6 := by
  unfold State.ilkTest
  rw [if_neg (by decide), if_pos ⟨hltn, hunit⟩]

/-- A cleared latch is clear; the load that may follow is behind the registers. -/
theorem State.tripped_ltnUnlatch (s : State) (x : Fin 6) (engineOff : Bool) :
    (s.ltnUnlatch x engineOff).tripped x = false := by
  unfold State.ltnUnlatch
  extract_lets p test off
  have hoff : off.tripped x = false := by
    unfold off State.tripped State.flag
    rw [State.get_ltnTo_eq, State.get_put_off _ _ _ _ _ (by decide), State.get_put_same _ _ _ _ (by decide)]
    rfl
  split_ifs
  · exact hoff
  · exact hoff

/-! ### The fallback train (R159) -/

/-- A command to the window leaves a due frame mark due. -/
theorem State.ltnWin_markDue (s : State) (x : Fin 6) (on : Bool) (edge : Nat) :
    (s.ltnWin x on edge).ltn[x].markDue = s.ltn[x].markDue := by
  unfold State.ltnWin State.edgeCommand
  rw [State.modLtn_ltn, State.modLtn_ltn, State.put_ltn]
  cases on
  · rfl
  · rfl

theorem exec_fallbackWindow_opens (t : Nat) (x : Fin 6) (s : State) (hrun : (s.at t).ltnState x = LTN_FALLBACK_ST)
    (hdark : (s.at t).flag (.ltn x) LTN_STATUS_WIN = false) (hready : (s.at t).ltn[x].fbReady = true)
    (hwhole : (s.at t).ltn[x].cut = false) (hdue : (s.at t).ltn[x].closeAt + usU 2 ≤ (s.at t).now) :
    exec (.fallbackWindow t x) s = .next (((s.at t).ltnWin x true (s.at t).now).modLtn x fun l =>
      { l with fbLen := (s.at t).fallbackWin x }) :=
  congrArg Host.Outcome.next ((if_neg (not_not.mpr hrun)).trans ((if_neg (Bool.eq_false_iff.mp hdark)).trans
    (if_pos ⟨hready, (Bool.not_eq_true' _).mpr hwhole, hdue⟩)))

theorem exec_fallbackWindow_closes (t : Nat) (x : Fin 6) (s : State) (hrun : (s.at t).ltnState x = LTN_FALLBACK_ST)
    (hlit : (s.at t).flag (.ltn x) LTN_STATUS_WIN = true)
    (hdue : (s.at t).ltn[x].openAt + (s.at t).ltn[x].fbLen ≤ (s.at t).now) (hmark : (s.at t).ltn[x].markDue = false) :
    exec (.fallbackWindow t x) s = .next ((s.at t).ltnWin x false (s.at t).now) := by
  refine congrArg Host.Outcome.next ((if_neg (not_not.mpr hrun)).trans ((if_pos hlit).trans ((if_pos hdue).trans (if_neg ?_))))
  rintro ⟨hnow, -⟩
  rw [State.ltnWin_markDue, hmark] at hnow
  cases hnow

theorem exec_fallbackRefresh_due (t : Nat) (x : Fin 6) (s : State)
    (h : (s.at t).ltnState x = LTN_FALLBACK_ST ∧ (s.at t).ltn[x].refreshAt ≤ (s.at t).now) :
    exec (.fallbackRefresh t x) s = .next ((s.at t).fallbackRefresh x) :=
  congrArg Host.Outcome.next (if_pos h)

/-- The want of a confirmation in SAFE is reported (R159). -/
def State.fallbackDarkReport (s : State) (x : Fin 6) : State :=
  (s.modLtn x fun l => { l with darkRaised := true }).raise (.ltn x) LTN_EV_FALLBACK_DARK

theorem State.fallbackDarkReport_lantern (s : State) (x : Fin 6) :
    (s.fallbackDarkReport x).ltn[x] = { s.ltn[x] with darkRaised := true } := by
  unfold State.fallbackDarkReport
  rw [(State.onlyRecords_raise _ _ _).ltn, State.modLtn_ltn]

theorem exec_fallbackDark_due (t : Nat) {x : Fin 6} {n : Fin 4} {a : Nat} (s : State)
    (hsafe : (s.at t).ltn[x].safeAt = some a) (hn : engOfLtn x = some n) (hstate : (s.at t).engState n = E_SAFE)
    (hmode : (s.at t).flag (.ltn x) LTN_FALLBACK_MODE = true) (hidle : (s.at t).ltnState x ≠ LTN_FALLBACK_ST)
    (hpark : (s.at t).flag (.sxl n) SXL_STATUS_PARK_CONFIRMED = false) (honce : (s.at t).ltn[x].darkRaised = false)
    (hdue : a + msU 10 ≤ (s.at t).now) : exec (.fallbackDark t x) s = .next ((s.at t).fallbackDarkReport x) := by
  refine congrArg Host.Outcome.next ?_
  dsimp only
  rw [hsafe, hn]
  exact if_pos ⟨hstate, hmode, hidle, (Bool.not_eq_true' _).mpr hpark, (Bool.not_eq_true' _).mpr honce, hdue⟩

/-! ### The statement -/

/-- Settles O17: under the condition named, each trigger, command and step of the fallback train is what it names. -/
theorem lanternInterlockCommandsComplete : Obligations.LanternInterlockCommandsComplete := by
  refine ⟨?winStuck, ?litCheck, ?pin, ?clear, ?test, ?opens, ?closes, ?refresh, ?dark⟩
  case winStuck =>
    rintro x t s ⟨hactive, hlong⟩
    exact ⟨_, exec_winStuck_echo t x s hactive hlong, rfl⟩
  case litCheck =>
    rintro x a pd t s ⟨hloss, hdue, hactive⟩
    exact ⟨_, exec_linkLitCheck_echo t x pd s hloss hdue hactive, rfl⟩
  case pin =>
    rintro x pin dur t s ⟨hpin, hlong, hactive⟩
    exact ⟨_, exec_pinMismatch_long t x pin dur s hpin hlong hactive, rfl⟩
  case clear =>
    intro x
    refine completes_of_block_write (exec_ilkClear · .mp x) (by decide) (by decide) (by decide) (fun _ h => h.1) ?_
    rintro u ⟨-, htrip, hgone⟩
    rw [u.blockWrite_ilkClear, u.ilkClear_gone x htrip hgone]
    exact ⟨rfl, u.tripped_ltnUnlatch x _⟩
  case test =>
    intro x
    refine completes_of_block_write (exec_ilkTest · .mp x) (by decide) (by decide) (by decide) (fun _ h => h.1) ?_
    rintro u ⟨-, hltn, hunit⟩
    rw [u.blockWrite_ilkTest, u.ilkTest_idle x hltn hunit]
    rfl
  case opens =>
    rintro x t s ⟨hrun, hdark, hready, hwhole, hdue⟩
    refine ⟨_, exec_fallbackWindow_opens t x s hrun hdark hready hwhole hdue, rfl, ?_⟩
    unfold State.flag
    rw [State.modLtn_get]
    exact (s.at t).flag_ltnWin x true (s.at t).now
  case closes =>
    rintro x t s ⟨hrun, hlit, hdue, hmark⟩
    exact ⟨_, exec_fallbackWindow_closes t x s hrun hlit hdue hmark, rfl, State.flag_ltnWin _ _ _ _⟩
  case refresh =>
    intro x t s h
    exact ⟨_, exec_fallbackRefresh_due t x s h, rfl⟩
  case dark =>
    rintro x n a t s ⟨hsafe, hn, hstate, hmode, hidle, hpark, honce, hdue⟩
    exact ⟨_, exec_fallbackDark_due t s hsafe hn hstate hmode hidle hpark honce hdue, rfl,
      congrArg Lantern.darkRaised (State.fallbackDarkReport_lantern _ x)⟩

end Sys2Proof.Machine

/-! ## The commands of the Selxis links (R180–R192) -/

namespace Sys2Proof.Machine

/-! ### Training (R187, R188) -/

theorem exec_trainingStepTimeout_due (t : Nat) (n : Fin 4) (s : State)
    (h : (s.at t).sxl[n].step ≠ 0 ∧ (s.at t).sxl[n].stepAt + ((s.at t).stepLimit n).1 ≤ (s.at t).now) :
    exec (.trainingStepTimeout t n) s = .next ((s.at t).trainDead n ((s.at t).stepLimit n).2) :=
  congrArg Host.Outcome.next (if_pos h)

theorem State.geomFits_put_latRate (s : State) (n : Fin 4) {k : Nat} (hk : k < 3) (v : Nat) :
    (s.put (.sxl n) (SXL_LAT_RATE k) v).geomFits n = s.geomFits n := by
  have hapart : (SXL_LAT_RATE k).off ≠ SXL_ARRAY_GEOM_WIDTH.off := by show 0xC0 + 4 * k ≠ 0x70; omega
  unfold State.geomFits
  rw [State.inf_put, State.inf_put, State.get_put_off _ _ _ _ _ hapart,
    State.get_put_off _ _ _ SXL_ARRAY_GEOM_HEIGHT _ hapart]

/-- What every step of a fold keeps of the geometry check, the fold keeps. -/
theorem State.geomFits_foldl {ι : Type} {f : State → ι → State} {n : Fin 4} (l : List ι)
    (h : ∀ s, ∀ i ∈ l, (f s i).geomFits n = s.geomFits n) (s : State) : (l.foldl f s).geomFits n = s.geomFits n :=
  List.foldlRecOn (motive := fun u => u.geomFits n = s.geomFits n) l f rfl fun u hu i hi => (h u i hi).trans hu

/-- The results of training are kept beside the geometry read from the array. -/
theorem State.geomFits_keepRates (s : State) (n : Fin 4) (ms : List RateMeas) :
    (s.keepRates n ms).geomFits n = s.geomFits n := by
  unfold State.keepRates
  refine (State.geomFits_foldl ms (fun u m _ => ?_) _).trans ((State.geomFits_foldl _ (fun u k hk => ?_) _).trans rfl)
  · dsimp only
    split
    case isTrue hrate => exact State.geomFits_put_latRate _ n hrate _
    case isFalse => rfl
  · exact u.geomFits_put_latRate n (List.mem_range.mp hk) 0

theorem exec_trainingDone_ranked (t : Nat) {n : Fin 4} {ms : List RateMeas} {g rate : Nat} (s : State)
    (hstep : 4 ≤ (s.at t).sxl[n].step) (hgeom : (s.at t).geomFits n = true)
    (hrank : ((s.at t).keepRates n ((s.at t).measured n ms)).bestRank n = some (g, rate)) :
    exec (.trainingDone t n ms) s =
      .next ((((s.at t).keepRates n ((s.at t).measured n ms)).linkRise n g rate).engLinkUp n) := by
  refine congrArg Host.Outcome.next ((if_neg (Nat.not_lt.mpr hstep)).trans ?_)
  dsimp only
  rw [State.geomFits_keepRates, hgeom, hrank]

/-! ### Latency samples (R180) -/

theorem exec_markEcho_training (t : Nat) (n : Fin 4) (echo : Int) (stamp : Nat) (s : State)
    (h : (s.at t).sxl[n].step = 4) :
    exec (.markEcho t n echo stamp) s = .next ((s.at t).trainMark n ((s.at t).markSample n echo stamp) stamp) :=
  congrArg Host.Outcome.next (if_pos h)

/-- A sample of the measurement that is repeated while the link runs (R180). -/
def State.runningMark (s : State) (n : Fin 4) (sample : Int) (stamp : Nat) : State :=
  s.modSxl n fun l => { l with markSum := l.markSum + sample, markCnt := l.markCnt + 1, markOut := l.markOut.erase stamp }

theorem State.runningMark_link (s : State) (n : Fin 4) (sample : Int) (stamp : Nat) :
    (s.runningMark n sample stamp).sxl[n] = { s.sxl[n] with
      markSum := s.sxl[n].markSum + sample, markCnt := s.sxl[n].markCnt + 1, markOut := s.sxl[n].markOut.erase stamp } :=
  s.modSxl_sxl n _

theorem exec_markEcho_running (t : Nat) (n : Fin 4) (echo : Int) (stamp : Nat) (s : State)
    (hstep : (s.at t).sxl[n].step ≠ 4) (hstate : (s.at t).sxlState n = SXL_ACTIVE) :
    exec (.markEcho t n echo stamp) s = .next ((s.at t).runningMark n ((s.at t).markSample n echo stamp) stamp) :=
  congrArg Host.Outcome.next ((if_neg hstep).trans (if_pos hstate))

/-! ### The sideband and its polls (R181, R183) -/

/-- A request goes out with the tag that the link holds. -/
theorem State.sbSend_tag (s : State) (n : Fin 4) (op addr data : Nat) :
    (s.sbSend n op addr data).sxl[n].tag = s.sxl[n].tag := by
  unfold State.sbSend
  rw [State.modSxl_sxl]

theorem exec_sidebandTransaction_good (t : Nat) (n : Fin 4) (op addr data resp : Nat) (s : State)
    (hruns : (s.at t).sbRuns n = true) (hgood : sbOk ((s.at t).sbStep1 n).sxl[n].tag resp = true) :
    exec (.sidebandTransaction t n op addr data resp) s =
      .next ((((s.at t).sbStep1 n).sbSend n op addr data).sbDone n op addr data resp) := by
  refine congrArg Host.Outcome.next ((if_neg (by rw [hruns]; decide)).trans (if_pos ?_))
  rw [State.sbSend_tag]
  exact hgood

theorem exec_sidebandTimeout_runs (t : Nat) (n : Fin 4) (s : State) (h : (s.at t).sbRuns n = true) :
    exec (.sidebandTimeout t n) s = .next (((s.at t).sbStep1 n).sbError n) :=
  congrArg Host.Outcome.next (if_pos h)

/-- The failed transactions are no longer counted once they have ended the sideband (R181). -/
def State.sbFailsTaken (s : State) (n : Fin 4) : State := s.modSxl n fun l => { l with failed := 0 }

theorem State.sbFailsTaken_link (s : State) (n : Fin 4) : (s.sbFailsTaken n).sxl[n] = { s.sxl[n] with failed := 0 } :=
  s.modSxl_sxl n _

theorem exec_sbDead_training (t : Nat) (n : Fin 4) (s : State) (hfailed : 3 ≤ (s.at t).sxl[n].failed)
    (hstep : (s.at t).sxl[n].step ≠ 0) :
    exec (.sbDead t n) s = .next (((s.at t).sbFailsTaken n).trainDead n SXL_SB_DEAD) := by
  have htraining : ((s.at t).sbFailsTaken n).sxl[n].step ≠ 0 := by
    rw [State.sbFailsTaken_link]
    exact hstep
  exact congrArg Host.Outcome.next ((if_neg (Nat.not_lt.mpr hfailed)).trans (if_pos htraining))

theorem exec_sbDead_up (t : Nat) (n : Fin 4) (s : State) (hfailed : 3 ≤ (s.at t).sxl[n].failed)
    (hstep : (s.at t).sxl[n].step = 0) (hup : (s.at t).linkUp n = true) :
    exec (.sbDead t n) s = .next (((s.at t).sbFailsTaken n).engLinkLoss n SXL_SB_DEAD (s.at t).sxl[n].locked) := by
  have hlink := (s.at t).sbFailsTaken_link n
  have hidle : ¬ ((s.at t).sbFailsTaken n).sxl[n].step ≠ 0 := by
    rw [hlink]
    exact not_not.mpr hstep
  have hlocked : ((s.at t).sbFailsTaken n).sxl[n].locked = (s.at t).sxl[n].locked := by rw [hlink]
  rw [← hlocked]
  exact congrArg Host.Outcome.next ((if_neg (Nat.not_lt.mpr hfailed)).trans ((if_neg hidle).trans (if_pos hup)))

theorem exec_attn_up (t : Nat) (n : Fin 4) (stat crc late info : Nat) (s : State)
    (h : (s.at t).sbRuns n = true ∧ (s.at t).flag (.sxl n) SXL_STATUS_SB_OK = true) :
    exec (.attn t n stat crc late info) s = .next ((s.at t).attnRead n stat crc late info) :=
  congrArg Host.Outcome.next (if_pos h)

theorem exec_linkStatPoll_due (t : Nat) (n : Fin 4) (stat : Nat) (s : State)
    (h : (s.at t).sbRuns n = true ∧ (s.at t).flag (.sxl n) SXL_STATUS_SB_OK = true ∧
      (s.at t).sxl[n].statAt + msU 1 ≤ (s.at t).now) :
    exec (.linkStatPoll t n stat) s = .next ((s.at t).statPoll n stat) :=
  congrArg Host.Outcome.next (if_pos h)

theorem exec_tempPoll_due (t : Nat) (n : Fin 4) (temp : Nat) (s : State)
    (h : (s.at t).sbRuns n = true ∧ (s.at t).flag (.sxl n) SXL_STATUS_SB_OK = true ∧
      (s.at t).sxl[n].tempAt + msU 100 ≤ (s.at t).now) :
    exec (.tempPoll t n temp) s =
      .next ((((s.at t).sbReads n 1 0x08).sbRead n 0x08 temp).modSxl n fun l => { l with tempAt := (s.at t).now }) :=
  congrArg Host.Outcome.next (if_pos h)

/-! ### Eyes, CRC windows and probes (R190) -/

theorem exec_eyePoll_due (t : Nat) (n : Fin 4) (eyes : Vector Nat 16) (s : State)
    (hstate : (s.at t).sxlState n = SXL_ACTIVE) (hdue : (s.at t).sxl[n].eyeAt + msU 100 ≤ (s.at t).now) :
    exec (.eyePoll t n eyes) s = .next ((s.at t).eyePoll n eyes) :=
  congrArg Host.Outcome.next (if_neg (not_or.mpr ⟨not_not.mpr hstate, Nat.not_lt.mpr hdue⟩))

theorem exec_crcWindow_due (t : Nat) (n : Fin 4) (s : State) (hup : (s.at t).linkUp n = true)
    (hdue : (s.at t).sxl[n].crcAt + secU 1 ≤ (s.at t).now) :
    exec (.crcWindow t n) s = .next ((s.at t).crcWindow n) :=
  congrArg Host.Outcome.next (if_neg (not_or.mpr ⟨by rw [hup]; decide, Nat.not_lt.mpr hdue⟩))

theorem exec_groupProbe_due (t : Nat) (n : Fin 4) (pass : Nat) (s : State)
    (hstate : (s.at t).sxlState n = SXL_ACTIVE) (hen : (s.at t).infFlag (.sxl n) SXL_CFG_PROBE_EN = true)
    (hdue : (s.at t).sxl[n].probeAt + msU ((s.at t).get (.sxl n) SXL_RETRY_PROBE_MS) ≤ (s.at t).now) :
    exec (.groupProbe t n pass) s = .next ((s.at t).groupProbe n pass) :=
  congrArg Host.Outcome.next
    (if_neg (not_or.mpr ⟨not_not.mpr hstate, not_or.mpr ⟨by rw [hen]; decide, Nat.not_lt.mpr hdue⟩⟩))

/-! ### Losses (R192) -/

theorem exec_rateSwitchTimeout_due (t : Nat) {n : Fin 4} {a : Nat} (s : State)
    (hswitch : (s.at t).sxl[n].switchAt = some a) (hup : (s.at t).linkUp n = true) (hdue : a + usU 4 ≤ (s.at t).now) :
    exec (.rateSwitchTimeout t n) s = .next ((s.at t).engLinkLoss n SXL_LANE_LOSS (s.at t).sxl[n].locked) := by
  refine congrArg Host.Outcome.next ?_
  dsimp only
  rw [hswitch]
  exact if_pos ⟨hup, hdue⟩

theorem exec_linkLoss_up (t : Nat) (n : Fin 4) (pll : Bool) (groups : Nat) (s : State) (h : (s.at t).linkUp n = true) :
    exec (.linkLoss t n pll groups) s =
      .next ((s.at t).engLinkLoss n (if pll then SXL_PLL_LOCK else SXL_LANE_LOSS) groups) :=
  congrArg Host.Outcome.next (if_pos h)

/-! ### PARK stores (R186) -/

@[simp] theorem State.answer_sxl (s : State) (v : Word) : (s.answer v).sxl = s.sxl := rfl

/-- A word with GO is the word that the command writes. -/
theorem exec_parkLoad_go (t : Nat) (path : Path) (n : Fin 4) {v : Nat} (hgo : v % 2 = 1) (s : State) :
    exec (.parkLoad t path n v) s = .next ((s.at t).regBy path (.sxl n) SXL_PARK_LOAD v) := by
  have hv : v ||| 1 = v := by
    have hhalf : (v ||| 1) / 2 = v / 2 := (Nat.or_div_two ..).trans (Nat.or_zero _)
    have hodd : (v ||| 1) % 2 = 1 := Nat.or_mod_two_eq_one.mpr (.inr rfl)
    omega
  exact congrArg (fun w => Host.Outcome.next ((s.at t).regBy path (.sxl n) SXL_PARK_LOAD w)) hv

theorem State.blockWrite_parkLoad (s : State) (path : Path) (n : Fin 4) (v : Nat) :
    s.blockWrite path (.sxl n) SXL_PARK_LOAD.off v = s.parkLoad path n v :=
  show s.sxlWrite path n SXL_PARK_LOAD.off v = s.parkLoad path n v from if_pos rfl

/-- In READY a store that is asked for is waited for. -/
theorem State.parkWait_parkLoad (s : State) (path : Path) (n : Fin 4) {v : Nat} (hgo : v % 2 = 1)
    (hpattern : 2 ≤ bitsOf v 1 2) (hready : s.engState n = E_READY) : (s.parkLoad path n v).sxl[n].parkWait = true := by
  unfold State.parkLoad
  rw [if_neg (by omega), if_neg (Nat.not_lt.mpr hpattern), if_neg (not_not.mpr hready), State.modSxl_sxl]

/-! ### The statement -/

/-- Settles O18: under the condition named, each command is its step; the running link's latency sample is behind the registers,
and the PARK store is a write of its word. -/
theorem linkCommandsComplete : Obligations.LinkCommandsComplete := by
  refine ⟨?stepTimeout, ?trained, ?trainMark, ?runMark, ?response, ?noResponse, ?deadTraining, ?deadUp, ?attn, ?stat, ?temp,
    ?eyes, ?crc, ?probe, ?rateSwitch, ?loss, ?park⟩
  case stepTimeout =>
    intro n t s h
    exact ⟨_, exec_trainingStepTimeout_due t n s h, rfl⟩
  case trained =>
    rintro n ms g rate t s ⟨hstep, hgeom, hrank⟩
    exact ⟨_, exec_trainingDone_ranked t s hstep hgeom hrank, rfl⟩
  case trainMark =>
    intro n echo stamp t s h
    exact ⟨_, exec_markEcho_training t n echo stamp s h, rfl⟩
  case runMark =>
    rintro n echo stamp t s ⟨hstep, hstate⟩
    have hlink := (s.at t).runningMark_link n ((s.at t).markSample n echo stamp) stamp
    exact ⟨_, exec_markEcho_running t n echo stamp s hstep hstate, congrArg Link.markSum hlink, congrArg Link.markCnt hlink,
      fun _ _ => rfl, fun _ => ⟨rfl, rfl, rfl, rfl⟩, fun _ => rfl⟩
  case response =>
    rintro n op addr data resp t s ⟨hruns, hgood⟩
    exact ⟨_, exec_sidebandTransaction_good t n op addr data resp s hruns hgood, rfl⟩
  case noResponse =>
    intro n t s h
    exact ⟨_, exec_sidebandTimeout_runs t n s h, rfl⟩
  case deadTraining =>
    rintro n t s ⟨hfailed, hstep⟩
    exact ⟨_, exec_sbDead_training t n s hfailed hstep, rfl⟩
  case deadUp =>
    rintro n t s ⟨hfailed, hstep, hup⟩
    exact ⟨_, exec_sbDead_up t n s hfailed hstep hup, rfl⟩
  case attn =>
    intro n stat crc late info t s h
    exact ⟨_, exec_attn_up t n stat crc late info s h, rfl⟩
  case stat =>
    intro n stat t s h
    exact ⟨_, exec_linkStatPoll_due t n stat s h, rfl⟩
  case temp =>
    intro n temp t s h
    exact ⟨_, exec_tempPoll_due t n temp s h, rfl⟩
  case eyes =>
    rintro n eyes t s ⟨hstate, hdue⟩
    exact ⟨_, exec_eyePoll_due t n eyes s hstate hdue, rfl⟩
  case crc =>
    rintro n t s ⟨hup, hdue⟩
    exact ⟨_, exec_crcWindow_due t n s hup hdue, rfl⟩
  case probe =>
    rintro n pass t s ⟨hstate, hen, hdue⟩
    exact ⟨_, exec_groupProbe_due t n pass s hstate hen hdue, rfl⟩
  case rateSwitch =>
    rintro n a t s ⟨hswitch, hup, hdue⟩
    exact ⟨_, exec_rateSwitchTimeout_due t s hswitch hup hdue, rfl⟩
  case loss =>
    intro n pll groups t s h
    exact ⟨_, exec_linkLoss_up t n pll groups s h, rfl⟩
  case park =>
    intro path n v hv hgo hpattern
    refine completes_of_block_write (exec_parkLoad_go · path n hgo) hv (by decide) (by decide) (fun _ h => h.1) ?_
    rintro u ⟨-, hready⟩
    rw [u.blockWrite_parkLoad]
    exact ⟨rfl, u.parkWait_parkLoad path n hgo hpattern hready⟩

end Sys2Proof.Machine

/-! ## The drive and frame commands of the scanners (R204–R214) -/

namespace Sys2Proof.Machine

/-! ### The axes (R208, R211) -/

theorem exec_turningPoint (t : Nat) (k : Fin 2) (peak lag : Nat) (locked : Bool) (s : State) :
    exec (.turningPoint t k peak lag locked) s = .next ((s.at t).turningPoint k peak lag locked) := rfl

theorem exec_turningPointMissed_due (t : Nat) (k : Fin 2) (s : State) (hrun : (s.at t).scn[k].running = true)
    (honce : (s.at t).scn[k].missed = false)
    (hdue : (s.at t).scn[k].lastTp + 9 * (s.at t).scn[k].half / 4 ≤ (s.at t).now) :
    exec (.turningPointMissed t k) s =
      .next (((s.at t).modScn k fun c => { c with missed := true }).ampLoss k SCN_AMP_LOST) :=
  congrArg Host.Outcome.next (if_pos ⟨hrun, (Bool.not_eq_true' _).mpr honce, hdue⟩)

/-- The lines of the slow axis out of tolerance in a row, after one more line that is out of it or not (R211). -/
def State.slowLine (s : State) (k : Fin 2) (bad : Bool) : State :=
  s.modScn k fun c => { c with slowBad := if bad then c.slowBad + 1 else 0 }

theorem State.slowLine_slowBad (s : State) (k : Fin 2) (bad : Bool) :
    (s.slowLine k bad).scn[k].slowBad = if bad then s.scn[k].slowBad + 1 else 0 :=
  congrArg Scanner.slowBad (s.modScn_scn k _)

/-- The middle of a line of running drives: the line counts, and the one that completes the run is amplitude loss. -/
theorem exec_slowAxisCheck_running (t : Nat) (k : Fin 2) {err : Nat} {bad : Bool} (s : State)
    (hrun : (s.at t).scn[k].running = true)
    (hbad : decide ((s.at t).inf (.scn k) SCN_SLOW_TOL_TOL < err) = bad) :
    exec (.slowAxisCheck t k err) s = .next
      (if ((s.at t).slowLine k bad).scn[k].slowBad = (s.at t).inf (.scn k) SCN_SLOW_TOL_COUNT ∧ bad then
        ((s.at t).slowLine k bad).ampLoss k SCN_SLOW_LOST else (s.at t).slowLine k bad) := by
  have hstill : ¬ (!(s.at t).scn[k].running) = true := by rw [hrun]; decide
  subst hbad
  exact congrArg Host.Outcome.next (if_neg hstill)

theorem exec_slowAxisCheck_good (t : Nat) (k : Fin 2) {err : Nat} (s : State) (hrun : (s.at t).scn[k].running = true)
    (hgood : err ≤ (s.at t).inf (.scn k) SCN_SLOW_TOL_TOL) :
    exec (.slowAxisCheck t k err) s = .next ((s.at t).slowLine k false) :=
  (exec_slowAxisCheck_running t k s hrun (decide_eq_false (Nat.not_lt.mpr hgood))).trans
    (congrArg Host.Outcome.next (if_neg fun h => Bool.false_ne_true h.2))

theorem exec_slowAxisCheck_lost (t : Nat) (k : Fin 2) {err : Nat} (s : State) (hrun : (s.at t).scn[k].running = true)
    (hbad : (s.at t).inf (.scn k) SCN_SLOW_TOL_TOL < err)
    (hlast : (s.at t).scn[k].slowBad + 1 = (s.at t).inf (.scn k) SCN_SLOW_TOL_COUNT) :
    exec (.slowAxisCheck t k err) s = .next (((s.at t).slowLine k true).ampLoss k SCN_SLOW_LOST) :=
  (exec_slowAxisCheck_running t k s hrun (decide_eq_true hbad)).trans
    (congrArg Host.Outcome.next (if_pos ⟨(State.slowLine_slowBad _ k true).trans hlast, rfl⟩))

/-! ### Pixels and frames (R205, R212, R214) -/

theorem exec_lmodUpdate (t : Nat) (k : Fin 2) (s : State) :
    exec (.lmodUpdate t k) s = .next ((s.at t).lmodUpdate k) := rfl

theorem State.edgeCommand_scn (s : State) (x : Fin 6) (opening : Bool) : (s.edgeCommand x opening).scn = s.scn := rfl

/-- The modulation of the pixel due now is followed by that of the next slot. -/
theorem State.lmodUpdate_pixel (s : State) (k : Fin 2) (hlit : s.scnLit k = true)
    (hline : s.scn[k].line < s.scn[k].lact) (hpixel : s.scn[k].pixel < s.scn[k].px)
    (hdue : (s.slotOf k s.scn[k].pixel).2 = s.now) : (s.lmodUpdate k).scn[k].pixel = s.scn[k].pixel + 1 := by
  have hactive : ¬ ((!s.scnLit k) = true ∨ s.scn[k].lact ≤ s.scn[k].line ∨ s.scn[k].px ≤ s.scn[k].pixel) := by
    rw [hlit]
    rintro (h | h | h)
    · cases h
    · exact Nat.not_lt.mpr h hline
    · exact Nat.not_lt.mpr h hpixel
  unfold State.lmodUpdate
  dsimp only
  rw [if_neg hactive, if_neg (not_not.mpr hdue.symm), State.modScn_scn, State.edgeCommand_scn]

theorem exec_scnUnderrun (t : Nat) (k : Fin 2) (s : State) :
    exec (.scnUnderrun t k) s = .next ((s.at t).scnUnderrun k) := rfl

/-- The first pixel of a line without data marks the line and its frame. -/
theorem State.scnUnderrun_marked (s : State) (k : Fin 2) (hlit : s.scnLit k = true)
    (hline : s.scn[k].line < s.scn[k].lact) (hfirst : s.scn[k].under = false) :
    (s.scnUnderrun k).scn[k].under = true ∧ (s.scnUnderrun k).scn[k].ur = true := by
  unfold State.scnUnderrun
  rw [if_pos ⟨hlit, hline, (Bool.not_eq_true' _).mpr hfirst⟩, State.modScn_scn]
  exact ⟨rfl, rfl⟩

theorem exec_scnFrameStart_due (t : Nat) (k : Fin 2) (s : State)
    (h : (s.at t).scn[k].due = true ∧ (s.at t).onTick (s.at t).scn[k].lastTp = true) :
    exec (.scnFrameStart t k) s = .next (((s.at t).modScn k fun c => { c with due := false }).scnStart k) :=
  congrArg Host.Outcome.next (if_pos h)

/-! ### Spin-up and ramp-down (R209, R211) -/

theorem exec_spinupSweepDone_due (t : Nat) (k : Fin 2) (freq : Nat) (s : State) (htrain : (s.at t).scnState k = E_TRAIN)
    (hrun : (s.at t).scn[k].running = true) (hsweep : (s.at t).scn[k].swept = false)
    (hdue : (s.at t).scn[k].spinAt + msU 40 ≤ (s.at t).now) :
    exec (.spinupSweepDone t k freq) s =
      .next (((s.at t).modScn k fun c => { c with swept := true }).freqTo k freq) :=
  congrArg Host.Outcome.next (if_pos ⟨htrain, hrun, (Bool.not_eq_true' _).mpr hsweep, hdue⟩)

/-- The drive frequency is all that moves in the scanner, and it stays within FMIN to FMAX (R208). -/
theorem State.freqTo_scanner (s : State) (k : Fin 2) (f : Int) :
    (s.freqTo k f).scn[k] = { s.scn[k] with
      freq := (clampI (16 * s.inf (.scn k) SCN_FAST_FREQ_FMIN : Nat) (16 * s.inf (.scn k) SCN_FAST_FREQ_FMAX : Nat)
        f).toNat } := by
  unfold State.freqTo
  extract_lets p lo hi g lim was moved
  have hmoved : moved.scn[k] = { s.scn[k] with freq := g } := s.modScn_scn k fun c => { c with freq := g }
  split_ifs
  · exact (congrArg (fun v : Vector Scanner 2 => v[k]) (moved.onlyRecords_raise p SCN_EV_FREQ_LIMIT).scn).trans hmoved
  · exact hmoved

theorem exec_spinupDone_locked (t : Nat) {k : Fin 2} {f : Nat} (s : State) (hlock : (s.at t).scn[k].lockedFrom = some f)
    (h : (s.at t).scnState k = E_TRAIN ∧ (s.at t).scn[k].swept = true ∧ (s.at t).scn[k].near = true ∧
      f + msU 10 ≤ (s.at t).now) :
    exec (.spinupDone t k) s =
      .next (((((s.at t).scnUse k).modScn k fun c => { c with line := 0, due := true, pixel := 0 }).put (.scn k)
        SCN_STATUS_MON_ARMED 1).scnTo k E_READY 0) := by
  refine congrArg Host.Outcome.next ?_
  dsimp only
  rw [hlock]
  exact if_pos h

theorem exec_spinupFail_due (t : Nat) (k : Fin 2) (s : State)
    (h : (s.at t).scnState k = E_TRAIN ∧ (s.at t).scn[k].running = true ∧
      (s.at t).scn[k].spinAt + msU 250 ≤ (s.at t).now) :
    exec (.spinupFail t k) s = .next (((s.at t).scnTo k E_SAFE SCN_SPINUP_FAIL).scnRampDown k) :=
  congrArg Host.Outcome.next (if_pos h)

/-- Stopped drives leave the state of the scanner as it is. -/
theorem State.scnState_scnDrivesZero (s : State) (k : Fin 2) : (s.scnDrivesZero k).scnState k = s.scnState k := by
  unfold State.scnDrivesZero State.scnState
  rw [State.get_put_off _ _ _ _ _ (by decide), State.get_put_off _ _ _ _ _ (by decide),
    State.get_put_off _ _ _ _ _ (by decide), State.modScn_get, State.modScn_get]

theorem State.scnDrivesZero_running (s : State) (k : Fin 2) : (s.scnDrivesZero k).scn[k].running = false := by
  unfold State.scnDrivesZero
  rw [State.put_scn, State.put_scn, State.put_scn, State.modScn_scn, State.modScn_scn]

theorem State.scnDrivesZero_disarmed (s : State) (k : Fin 2) :
    (s.scnDrivesZero k).flag (.scn k) SCN_STATUS_MON_ARMED = false := by
  unfold State.scnDrivesZero State.flag
  dsimp only
  rw [State.get_put_apart _ _ SCN_STATUS_FREQ_LIMIT SCN_STATUS_MON_ARMED _ rfl (by decide) (by decide),
    State.get_put_apart _ _ SCN_STATUS_LOCKED SCN_STATUS_MON_ARMED _ rfl (by decide) (by decide),
    State.get_put_same _ _ _ _ (by decide)]
  rfl

theorem exec_drivesStopped_on (t : Nat) (k : Fin 2) (s : State) (hramp : (s.at t).scn[k].rampDown = true)
    (hon : (s.at t).scnState k ≠ E_OFF) : exec (.drivesStopped t k) s = .next ((s.at t).scnDrivesZero k) := by
  have hstays : ((s.at t).scnDrivesZero k).scnState k ≠ E_OFF := by rwa [State.scnState_scnDrivesZero]
  exact congrArg Host.Outcome.next ((if_pos hramp).trans (if_neg hstays))

/-! ### The statement -/

/-- Settles O19: under the condition named, each command is its step, and the step's lemma says what it shows of the
scanner. -/
theorem scannerFramesComplete : Obligations.ScannerFramesComplete := by
  refine ⟨?turn, ?missed, ?slowGood, ?slowLost, ?pixel, ?underrun, ?frame, ?swept, ?ready, ?failed, ?stopped⟩
  case turn =>
    intro k peak lag locked t s _
    exact ⟨_, exec_turningPoint t k peak lag locked s, rfl⟩
  case missed =>
    rintro k t s ⟨hrun, honce, hdue⟩
    exact ⟨_, exec_turningPointMissed_due t k s hrun honce hdue, rfl⟩
  case slowGood =>
    rintro k err t s ⟨hrun, hgood⟩
    exact ⟨_, exec_slowAxisCheck_good t k s hrun hgood, State.slowLine_slowBad _ k false, fun _ _ => rfl⟩
  case slowLost =>
    rintro k err t s ⟨hrun, hbad, hlast⟩
    exact ⟨_, exec_slowAxisCheck_lost t k s hrun hbad hlast, rfl⟩
  case pixel =>
    rintro k t s ⟨hlit, hline, hpixel, hdue⟩
    exact ⟨_, exec_lmodUpdate t k s, rfl, State.lmodUpdate_pixel _ k hlit hline hpixel hdue⟩
  case underrun =>
    rintro k t s ⟨hlit, hline, hfirst⟩
    exact ⟨_, exec_scnUnderrun t k s, rfl, State.scnUnderrun_marked _ k hlit hline hfirst⟩
  case frame =>
    intro k t s h
    exact ⟨_, exec_scnFrameStart_due t k s h, rfl⟩
  case swept =>
    rintro k freq t s ⟨htrain, hrun, hsweep, hdue⟩
    have hscn := ((s.at t).modScn k fun c => { c with swept := true }).freqTo_scanner k freq
    refine ⟨_, exec_spinupSweepDone_due t k freq s htrain hrun hsweep hdue, rfl, ?_, congrArg Scanner.freq hscn⟩
    rw [hscn, State.modScn_scn]
  case ready =>
    rintro k f t s ⟨hlock, hdue, htrain, hswept, hnear⟩
    exact ⟨_, exec_spinupDone_locked t s hlock ⟨htrain, hswept, hnear, hdue⟩, rfl⟩
  case failed =>
    intro k t s h
    exact ⟨_, exec_spinupFail_due t k s h, rfl⟩
  case stopped =>
    rintro k t s ⟨hramp, hon⟩
    exact ⟨_, exec_drivesStopped_on t k s hramp hon, rfl, State.scnDrivesZero_running _ k,
      State.scnDrivesZero_disarmed _ k⟩

end Sys2Proof.Machine

/-! ## The commands of the scanners (R204, R216) -/

namespace Sys2Proof.Machine

/-! ### What a command does in each state of the table (R216) -/

/-- A START that the table takes is carried out. -/
theorem State.scnStartCmd_ok (s : State) (k : Fin 2) (path off : Nat)
    (h : s.scnState k = E_OFF ∨ s.scnState k = E_READY ∨ s.scnState k = E_SAFE) :
    (s.scnStartCmd k path off).2 = (ST_OK, 0) := by
  unfold State.scnStartCmd
  extract_lets st marked waiting
  split_ifs with hoff _ hready hsafe
  · rfl
  · rfl
  · rfl
  · rfl
  · rfl
  · exact absurd h (not_or.mpr ⟨hoff, not_or.mpr ⟨hready, hsafe⟩⟩)

theorem State.scnStopCmd_dark (s : State) (k : Fin 2) (path off : Nat)
    (h : s.scnState k = E_TRAIN ∨ s.scnState k = E_READY ∨ s.scnState k = E_SAFE) :
    s.scnStopCmd k path off = ((s.mbxStartCut (4 + k.val)).scnOff k, (ST_OK, 0)) := if_pos h

theorem State.scnStopCmd_frames (s : State) (k : Fin 2) (path off : Nat) (h : s.scnState k = E_LIT ∨ s.scnState k = E_HOLD) :
    s.scnStopCmd k path off = ((s.mbxStartCut (4 + k.val)).modScn k fun c => { c with stop := true }, (ST_OK, 0)) := by
  have hdark : ¬ (s.scnState k = E_TRAIN ∨ s.scnState k = E_READY ∨ s.scnState k = E_SAFE) := by
    rcases h with h | h <;> rw [h] <;> decide
  exact (if_neg hdark).trans (if_pos h)

theorem State.scnParkCmd_light (s : State) (k : Fin 2) (path off : Nat)
    (h : s.scnState k = E_READY ∨ s.scnState k = E_LIT ∨ s.scnState k = E_HOLD) :
    s.scnParkCmd k path off =
      (((s.mbxStartCut (4 + k.val)).ltnDark (ltnOfScn k)).scnTo k E_SAFE SCN_PARK_CMD, (ST_OK, 0)) := if_pos h

theorem State.scnFaultClear_gone (s : State) (k : Fin 2) (path off : Nat) (h : s.scnState k = E_FAULT)
    (hgone : s.tripped (ltnOfScn k) = false) : s.scnFaultClear k path off = (s.scnOff k, (ST_OK, 0)) :=
  if_pos ⟨h, (Bool.not_eq_true' _).mpr hgone⟩

/-! ### A command is a write of `SCN_CMD` (R218) -/

theorem exec_scnStart (t : Nat) (path : Path) (k : Fin 2) (s : State) :
    exec (.scnStart t path k) s = .next ((s.at t).regBy path (.scn k) SCN_CMD 1) := rfl
theorem exec_scnStop (t : Nat) (path : Path) (k : Fin 2) (s : State) :
    exec (.scnStop t path k) s = .next ((s.at t).regBy path (.scn k) SCN_CMD 2) := rfl
theorem exec_scnPark (t : Nat) (path : Path) (k : Fin 2) (s : State) :
    exec (.scnPark t path k) s = .next ((s.at t).regBy path (.scn k) SCN_CMD 3) := rfl
theorem exec_scnFaultClear (t : Nat) (path : Path) (k : Fin 2) (s : State) :
    exec (.scnFaultClear t path k) s = .next ((s.at t).regBy path (.scn k) SCN_CMD 4) := rfl

/-- A write of `SCN_CMD` is the scanner's command of that code. -/
theorem State.blockWrite_scnCmd (s : State) (path : Path) (k : Fin 2) (v : Nat) :
    s.blockWrite path (.scn k) SCN_CMD.off v = s.scnCmdWrite path k v :=
  show s.scnWrite path k SCN_CMD.off v = s.scnCmdWrite path k v from if_pos rfl

theorem State.scnCmdWrite_start (s : State) (path : Path) (k : Fin 2) :
    s.scnCmdWrite path k 1 = (s.scnStartCmd k (pathCode path) SCN_CMD.off).1 := rfl
theorem State.scnCmdWrite_stop (s : State) (path : Path) (k : Fin 2) :
    s.scnCmdWrite path k 2 = (s.scnStopCmd k (pathCode path) SCN_CMD.off).1 := rfl
theorem State.scnCmdWrite_park (s : State) (path : Path) (k : Fin 2) :
    s.scnCmdWrite path k 3 = (s.scnParkCmd k (pathCode path) SCN_CMD.off).1 := rfl
theorem State.scnCmdWrite_faultClear (s : State) (path : Path) (k : Fin 2) :
    s.scnCmdWrite path k 4 = (s.scnFaultClear k (pathCode path) SCN_CMD.off).1 := rfl

/-- A command that writes a code to `SCN_CMD` completes with what the scanner does with that code. -/
theorem completes_of_scnCmd {c : Nat → Instr} {path : Path} {k : Fin 2} {v : Nat} {P : State → Prop}
    {Q : State → State → Prop} (hexec : ∀ t s, exec (c t) s = .next ((s.at t).regBy path (.scn k) SCN_CMD v))
    (hv : v < 2 ^ 32) (hw : ∀ u, P u → u.writable path (.scn k) SCN_CMD = true)
    (hQ : ∀ u, P u → Q u ((u.scnCmdWrite path k v).answer (BitVec.ofNat 32 v))) : Completes c P Q :=
  completes_of_block_write hexec hv (by decide) (by decide) hw fun u hP =>
    (u.blockWrite_scnCmd path k v).symm ▸ hQ u hP

@[simp] theorem State.answer_scn (s : State) (v : Word) : (s.answer v).scn = s.scn := rfl

/-! ### Entries of the pixel-timing tables (R204) -/

theorem exec_pttDataWrite (t : Nat) (path : Path) (k : Fin 2) (v : Nat) (s : State) :
    exec (.pttDataWrite t path k v) s = .next ((s.at t).regBy path (.scn k) SCN_PTT_DATA v) := rfl

theorem State.blockWrite_pttData (s : State) (path : Path) (k : Fin 2) (v : Nat) :
    s.blockWrite path (.scn k) SCN_PTT_DATA.off v = s.pttWrite path k v :=
  show s.scnWrite path k SCN_PTT_DATA.off v = s.pttWrite path k v from (if_neg (by decide)).trans (if_pos rfl)

/-- Entry `i` of a table takes a value. -/
def State.pttSet (s : State) (k : Fin 2) (table i v : Nat) : State :=
  s.modScn k fun c => { c with ptt := cellPut 0 c.ptt (2048 * table + i) (BitVec.ofNat 32 v) }

/-- The entry reads as stored. -/
theorem State.tau_pttSet (s : State) (k : Fin 2) (table i : Nat) {v : Nat} (hv : v < 2 ^ 32) :
    (s.pttSet k table i v).tau k table i = v := by
  unfold State.tau State.pttSet
  rw [State.modScn_scn, cellGet_put_same, BitVec.toNat_ofNat, Nat.mod_eq_of_lt hv]

/-- A table that neither a frame nor a pending commit uses takes the entry. -/
theorem State.pttWrite_free (s : State) (path : Path) (k : Fin 2) (v : Nat) (hdark : s.scnFrames k = false)
    (hidle : s.commitPending (.scn k) = false) :
    s.pttWrite path k v =
      (s.pttSet k (s.get (.scn k) SCN_PTT_IDX_TABLE) (s.get (.scn k) SCN_PTT_IDX_INDEX) (v % 2 ^ 24)).put (.scn k)
        SCN_PTT_IDX_INDEX (min 1024 (s.get (.scn k) SCN_PTT_IDX_INDEX + 1)) := by
  unfold State.pttWrite
  rw [hdark, hidle]
  rfl

/-- INDEX moves on within its field, and TABLE stays. -/
theorem State.pttIndex_moved (s : State) (k : Fin 2) (i : Nat) :
    (s.put (.scn k) SCN_PTT_IDX_INDEX (min 1024 i)).get (.scn k) SCN_PTT_IDX_TABLE = s.get (.scn k) SCN_PTT_IDX_TABLE ∧
      (s.put (.scn k) SCN_PTT_IDX_INDEX (min 1024 i)).get (.scn k) SCN_PTT_IDX_INDEX = min 1024 i := by
  have hfield : min 1024 i < 2 ^ SCN_PTT_IDX_INDEX.w := (Nat.min_le_left _ _).trans_lt (by decide)
  exact ⟨State.get_put_apart _ _ _ _ _ rfl (by decide) (by decide),
    (State.get_put_same _ _ _ _ (by decide)).trans (Nat.mod_eq_of_lt hfield)⟩

/-! ### The statement -/

/-- Settles O20: each command is a write of its code to `SCN_CMD`, which does what the scanner's state asks for, and an entry
is a write of `SCN_PTT_DATA`. -/
theorem scannerCommandsComplete : Obligations.ScannerCommandsComplete := by
  refine ⟨?start, ?stopDark, ?stopFrames, ?park, ?faultClear, ?entry⟩
  case start =>
    intro path k
    refine completes_of_scnCmd (exec_scnStart · path k) (by decide) (fun _ h => h.1) ?_
    rintro u ⟨-, hstate⟩
    rw [u.scnCmdWrite_start]
    exact ⟨u.scnStartCmd_ok k _ _ hstate, rfl⟩
  case stopDark =>
    intro path k
    refine completes_of_scnCmd (exec_scnStop · path k) (by decide) (fun _ h => h.1) ?_
    rintro u ⟨-, hstate⟩
    rw [u.scnCmdWrite_stop, u.scnStopCmd_dark k _ _ hstate]
    dsimp only [BitVec.ofNat_eq_ofNat]
  case stopFrames =>
    intro path k
    refine completes_of_scnCmd (exec_scnStop · path k) (by decide) (fun _ h => h.1) ?_
    rintro u ⟨-, hstate⟩
    rw [u.scnCmdWrite_stop, u.scnStopCmd_frames k _ _ hstate, State.answer_scn, State.modScn_scn]
  case park =>
    intro path k
    refine completes_of_scnCmd (exec_scnPark · path k) (by decide) (fun _ h => h.1) ?_
    rintro u ⟨-, hstate⟩
    rw [u.scnCmdWrite_park, u.scnParkCmd_light k _ _ hstate]
    dsimp only [BitVec.ofNat_eq_ofNat]
  case faultClear =>
    intro path k
    refine completes_of_scnCmd (exec_scnFaultClear · path k) (by decide) (fun _ h => h.1) ?_
    rintro u ⟨-, hfault, hgone⟩
    rw [u.scnCmdWrite_faultClear, u.scnFaultClear_gone k _ _ hfault hgone]
    dsimp only [BitVec.ofNat_eq_ofNat]
  case entry =>
    intro path k v hv
    refine completes_of_block_write (exec_pttDataWrite · path k v) hv (by decide) (by decide) (fun _ h => h.1) ?_
    rintro u ⟨-, hdark, hidle⟩
    rw [u.blockWrite_pttData, u.pttWrite_free path k v hdark hidle]
    have hentry : v % 2 ^ 24 < 2 ^ 32 := by omega
    obtain ⟨htable, hindex⟩ := State.pttIndex_moved (u.pttSet k (u.get (.scn k) SCN_PTT_IDX_TABLE)
      (u.get (.scn k) SCN_PTT_IDX_INDEX) (v % 2 ^ 24)) k (u.get (.scn k) SCN_PTT_IDX_INDEX + 1)
    exact ⟨htable.symm, u.tau_pttSet k _ _ hentry, hindex⟩

end Sys2Proof.Machine

/-! ## The commands of the Narpa ports (R221, R229, R231, R236–R240, R243) -/

namespace Sys2Proof.Machine

/-! ### The lane of a register (R247) -/

/-- A port is the one of its group in its lane. -/
theorem npPort_npLane (q : NpIx) : npPort (npGroup q) (npLane q) = some q := by
  have hport : 8 * (npGroup q).val + npLane q = q.val := Nat.div_add_mod q.val 8
  unfold npPort
  rw [if_pos (npLane_lt q), hport, finOf_val]

/-- The offset of a lane's register tells the lane and the register's place in it. -/
theorem npCmd_lane {l : Nat} (h : l < 8) : 0x100 ≤ (NP_CMD l).off ∧ (NP_CMD l).off < 0x500 ∧
    ((NP_CMD l).off - 0x100) / 0x80 = l ∧ ((NP_CMD l).off - 0x100) % 0x80 = 0x28 := by
  simp only [NP_CMD]
  omega

theorem npCfgAcc_lane {l : Nat} (h : l < 8) : 0x100 ≤ (NP_CFGACC l).off ∧ (NP_CFGACC l).off < 0x500 ∧
    ((NP_CFGACC l).off - 0x100) / 0x80 = l ∧ ((NP_CFGACC l).off - 0x100) % 0x80 = 0x2C := by
  simp only [NP_CFGACC]
  omega

/-! ### A command is a write of its register (R236, R238, R243) -/

theorem exec_npEnum (t : Nat) (path : Path) (q : Fin 104) (s : State) :
    exec (.npEnum t path q) s = .next ((s.at t).regBy path (npPage q) (NP_CMD (npLane q)) 1) := rfl
theorem exec_npStrobe (t : Nat) (path : Path) (q : Fin 104) (s : State) :
    exec (.npStrobe t path q) s = .next ((s.at t).regBy path (npPage q) (NP_CMD (npLane q)) 2) := rfl
theorem exec_cfgAccess (t : Nat) (path : Path) (q : Fin 104) (v : Nat) (s : State) :
    exec (.cfgAccess t path q v) s = .next ((s.at t).regBy path (npPage q) (NP_CFGACC (npLane q)) (v ||| 2 ^ 31)) := rfl

/-- Of a port's registers only `NP_CMD` and `NP_CFGACC` have rules of their own when written (R236, R238, R243). -/
theorem State.npWrite_lane (s : State) (path : Path) (q : NpIx) {off : Nat} (v : Nat) (hlow : 0x100 ≤ off)
    (hhigh : off < 0x500) (hlane : (off - 0x100) / 0x80 = npLane q) :
    s.npWrite path (npGroup q) off v =
      if (off - 0x100) % 0x80 = 0x28 then s.npCmd path q off v
      else if (off - 0x100) % 0x80 = 0x2C then s.npCfgAcc path q off v
      else s.plainWrite path (npPage q) off v := by
  unfold State.npWrite
  extract_lets p
  rw [if_neg fun h => absurd (h.2 ▸ hlow) (by decide), if_neg fun h => absurd (h.2 ▸ hlow) (by decide),
    if_neg (by omega), if_pos ⟨hlow, hhigh⟩, hlane, npPort_npLane]
  dsimp only
  split
  · next hcmd => rw [if_pos hcmd]
  · next hacc => rw [hacc, if_neg (by decide), if_pos rfl]
  · next hcmd hacc => rw [if_neg hcmd, if_neg hacc]; rfl

/-- A write of a port's `NP_CMD` is the port's command. -/
theorem State.blockWrite_npCmd (s : State) (path : Path) (q : NpIx) (v : Nat) :
    s.blockWrite path (npPage q) (NP_CMD (npLane q)).off v = s.npCmd path q (NP_CMD (npLane q)).off v := by
  obtain ⟨hlow, hhigh, hlane, hplace⟩ := npCmd_lane (npLane_lt q)
  exact (s.npWrite_lane path q v hlow hhigh hlane).trans (if_pos hplace)

/-- A write of a port's `NP_CFGACC` is a configuration access. -/
theorem State.blockWrite_npCfgAcc (s : State) (path : Path) (q : NpIx) (v : Nat) :
    s.blockWrite path (npPage q) (NP_CFGACC (npLane q)).off v = s.npCfgAcc path q (NP_CFGACC (npLane q)).off v := by
  obtain ⟨hlow, hhigh, hlane, hplace⟩ := npCfgAcc_lane (npLane_lt q)
  exact (s.npWrite_lane path q v hlow hhigh hlane).trans ((if_neg (by omega)).trans (if_pos hplace))

/-- A command that writes a code to `NP_CMD` completes with what the port does with that code. -/
theorem completes_of_npCmd {c : Nat → Instr} {path : Path} {q : NpIx} {v : Nat} {P : State → Prop}
    {Q : State → State → Prop}
    (hexec : ∀ t s, exec (c t) s = .next ((s.at t).regBy path (npPage q) (NP_CMD (npLane q)) v)) (hv : v < 2 ^ 32)
    (hw : ∀ u, P u → u.writable path (npPage q) (NP_CMD (npLane q)) = true)
    (hQ : ∀ u, P u → Q u ((u.npCmd path q (NP_CMD (npLane q)).off v).answer (BitVec.ofNat 32 v))) : Completes c P Q := by
  obtain ⟨hlow, hhigh, -⟩ := npCmd_lane (npLane_lt q)
  exact completes_of_block_write hexec hv (by omega) (by omega) hw fun u hP =>
    (u.blockWrite_npCmd path q v).symm ▸ hQ u hP

theorem State.npCmd_enum (s : State) (path : Path) (q : NpIx) (off : Nat)
    (h : s.npState q = NP_RUN ∨ s.npState q = NP_ENUM_FAIL) :
    s.npCmd path q off 1 = (s.modNp q fun o => { o with enumWant := true }).npSettle q := if_pos h

/-- STROBE is taken in RUN in either latch mode (R238; log entry 51). -/
theorem State.npCmd_strobe (s : State) (path : Path) (q : NpIx) (off : Nat) (h : s.npState q = NP_RUN) :
    s.npCmd path q off 2 =
      s.npSchedule q ((s.localTime : Int) + toNs (2 * (s.npN q + 1) * s.npT q) + 4000) none := if_pos h

@[simp] theorem State.answer_np (s : State) (v : Word) : (s.answer v).np = s.np := rfl

/-- A port for which a strobe is scheduled has a strobe. -/
theorem State.npSchedule_strobe (s : State) (q : NpIx) (L : Int) (entry : Option Nat) :
    (s.npSchedule q L entry).np[q].strobe.isSome = true := by
  unfold State.npSchedule
  extract_lets b
  rw [State.put_np, State.modNp_np]
  split_ifs with hhas
  · exact hhas
  · rfl

/-- GO of an access that is free to start is set (R236). -/
theorem State.npCfgAcc_go (s : State) (path : Path) (q : NpIx) {v : Nat} (hgo : bitsOf v 31 1 = 1)
    (hfree : s.flag (npPage q) (NP_CFGACC_GO (npLane q)) = false) :
    (s.npCfgAcc path q (NP_CFGACC (npLane q)).off v).flag (npPage q) (NP_CFGACC_GO (npLane q)) = true := by
  have hset : s.npCfgAcc path q (NP_CFGACC (npLane q)).off v =
      s.setReg ((npPage q).base + (NP_CFGACC_GO (npLane q)).off) (BitVec.ofNat 32 (withBits v 31 1 1)) := by
    unfold State.npCfgAcc
    dsimp only
    rw [hfree, if_neg fun h => Bool.false_ne_true h.1, if_neg Bool.false_ne_true, hgo]
    rfl
  unfold State.flag State.get
  rw [hset, State.reg_setReg_same, Word.field, BitVec.toNat_ofNat]
  exact congrArg (· != 0) ((bitsOf_mod_word _ 31 1 (by decide)).trans (bitsOf_withBits_same v 31 1 1))

/-- A word with GO forced on has GO. -/
theorem bitsOf_or_go (v : Nat) : bitsOf (v ||| 2 ^ 31) 31 1 = 1 := by
  have hbit : (bitsOf (v ||| 2 ^ 31) 31 1).testBit 0 = true := by
    rw [bitsOf_testBit, Nat.testBit_or, Nat.testBit_two_pow_self, Bool.or_true]
    rfl
  have hlt := bitsOf_lt (v ||| 2 ^ 31) 31 1
  rw [Nat.testBit_zero, decide_eq_true_eq] at hbit
  omega

/-! ### Frames, latches and returns (R221, R231, R236, R237, R239, R240) -/

theorem exec_npFrame_image (t : Nat) {q : Fin 104} {s w : State} (hbank : (s.at t).domOn (npBank q) = true)
    (hw : w = (s.at t).npReady q) (hrun : w.npState q = NP_RUN) (htear : w.npTear q = false)
    (henum : w.np[q].enumWant = false) (hgo : w.flag (npPage q) (NP_CFGACC_GO (npLane q)) = false)
    (hdue : w.npImageDue q = true) : exec (.npFrame t q) s = .next (w.npImageFrame q) := by
  subst hw
  have hlive : ¬ (!(s.at t).domOn (npBank q)) = true := by rw [hbank]; decide
  have hpass : ((s.at t).npReady q).npState q ≠ NP_ENUM_ST := by rw [hrun]; decide
  have hserves : ¬ (((s.at t).npReady q).npState q ≠ NP_RUN ∨ ((s.at t).npReady q).npTear q = true ∨
      ((s.at t).npReady q).np[q].enumWant = true) := by
    rintro (h | h | h)
    · exact h hrun
    · exact Bool.false_ne_true (htear ▸ h)
    · exact Bool.false_ne_true (henum ▸ h)
  refine congrArg Host.Outcome.next ((if_neg hlive).trans ((if_neg hpass).trans ((if_neg hserves).trans ?_)))
  exact (if_neg fun h => Bool.false_ne_true (hgo ▸ h.1)).trans (if_pos hdue)

theorem exec_npLatch (t : Nat) (q : Fin 104) (s : State) : exec (.npLatch t q) s = .next ((s.at t).npLatch q) := rfl

theorem exec_npReturnFrame_quiet (t : Nat) {q : Fin 104} (mark : Nat) (cells : List (Nat × Nat)) {quiet : Nat}
    {s w : State} {x : NpRet} {rest : List NpRet} (hw : w = (s.at t).npReady q) (hrets : w.np[q].rets = x :: rest)
    (hquiet : 3 * x.cell ≤ 2 * quiet) : exec (.npReturnFrame t q mark cells quiet) s =
      .next (w.npTakeReturn q x rest (npReturned x.kind x.nodes w.np[q].tx (npReceive x.cell mark cells))) := by
  subst hw
  refine congrArg Host.Outcome.next ?_
  dsimp only
  rw [hrets]
  exact if_neg (Nat.not_lt.mpr hquiet)

theorem exec_chainOpen_silent (t : Nat) {q : Fin 104} {s w : State} (hw : w = (s.at t).npReady q)
    (hsilent : 3 ≤ w.np[q].silent) (hrun : w.npState q = NP_RUN)
    (hclosed : w.flag (npPage q) (NP_STATUS_CHAIN_OPEN (npLane q)) = false) : exec (.chainOpen t q) s =
      .next (((w.put (npPage q) (NP_STATUS_CHAIN_OPEN (npLane q)) 1).npShowGroup (npGroup q)).raise (npPage q)
        (8 + npLane q)) := by
  subst hw
  refine congrArg Host.Outcome.next (if_neg ?_)
  rintro (h | h | h)
  · exact Nat.not_lt.mpr hsilent h
  · exact h hrun
  · exact Bool.false_ne_true (hclosed ▸ h)

/-! ### Strobe marks (R229, R238) -/

theorem exec_npStrobeMark_due (t : Nat) {q : Fin 104} {s : State} {b : NpStrobe}
    (hstrobe : (s.at t).np[q].strobe = some b) (hkept : ((s.at t).strobeDropped b).isNone = true)
    (htick : (s.at t).onTick ((s.at t).strobeTick q b) = true) (hrun : (s.at t).npState q = NP_RUN) :
    exec (.npStrobeMark t q) s =
      .next ((((s.at t).npMark q ((s.at t).strobeLate q b.mark)).schedMarked b ((s.at t).strobeLate q b.mark)).npSettle
        q) := by
  have hsends : ¬ ((!(s.at t).onTick ((s.at t).strobeTick q b)) = true ∨
      (s.at t).npState q ≠ NP_RUN ∧ (s.at t).npState q ≠ NP_ENUM_ST) := by
    rw [htick]
    simp [hrun]
  refine congrArg Host.Outcome.next ?_
  dsimp only
  rw [hstrobe]
  dsimp only
  rw [Option.isNone_iff_eq_none.mp hkept]
  exact if_neg hsends

/-! ### The statement -/

/-- Settles O21: ENUM, STROBE and a configuration access are each a write of the port's register, and the others are their steps
under the condition named. -/
theorem narpaCommandsComplete : Obligations.NarpaCommandsComplete := by
  refine ⟨?frame, ?latch, ?returns, ?chain, ?enum, ?strobe, ?mark, ?access⟩
  case frame =>
    rintro q w t s ⟨hbank, hw, hrun, htear, henum, hgo, hdue⟩
    exact ⟨_, exec_npFrame_image t hbank hw hrun htear henum hgo hdue, rfl⟩
  case latch =>
    intro q at' gov rest t s _
    exact ⟨_, exec_npLatch t q s, rfl⟩
  case returns =>
    rintro q mark cells quiet w x rest t s ⟨hw, hrets, hquiet⟩
    exact ⟨_, exec_npReturnFrame_quiet t mark cells hw hrets hquiet, rfl⟩
  case chain =>
    rintro q w t s ⟨hw, hsilent, hrun, hclosed⟩
    exact ⟨_, exec_chainOpen_silent t hw hsilent hrun hclosed, rfl⟩
  case enum =>
    intro path q
    refine completes_of_npCmd (exec_npEnum · path q) (by decide) (fun _ h => h.1) ?_
    rintro u ⟨-, hstate⟩
    rw [u.npCmd_enum path q _ hstate]
    dsimp only [BitVec.ofNat_eq_ofNat]
  case strobe =>
    intro path q
    refine completes_of_npCmd (exec_npStrobe · path q) (by decide) (fun _ h => h.1) ?_
    rintro u ⟨-, hrun⟩
    rw [u.npCmd_strobe path q _ hrun]
    exact ⟨rfl, u.npSchedule_strobe q _ none⟩
  case mark =>
    rintro q b t s ⟨hstrobe, hkept, htick, hrun⟩
    exact ⟨_, exec_npStrobeMark_due t hstrobe hkept htick hrun, rfl⟩
  case access =>
    intro path q v hv
    obtain ⟨hlow, hhigh, -⟩ := npCfgAcc_lane (npLane_lt q)
    refine completes_of_block_write (exec_cfgAccess · path q v) (Nat.or_lt_two_pow hv (by decide)) (by omega) (by omega)
      (fun _ h => h.1) ?_
    rintro u ⟨-, hfree⟩
    rw [u.blockWrite_npCfgAcc, State.answer_flag]
    exact u.npCfgAcc_go path q (bitsOf_or_go v) hfree

end Sys2Proof.Machine

/-! ## The commands of the keeper (R243–R246, R368, R369) -/

namespace Sys2Proof.Machine

/-! ### The keeper's store (R244) -/

theorem exec_npkDataAccess_write (t : Nat) (path : Path) (v : Nat) (s : State) :
    exec (.npkDataAccess t path true v) s = .next ((s.at t).regBy path (.np 0) NPK_DATA v) := rfl
theorem exec_npkDataAccess_read (t : Nat) (path : Path) (v : Nat) (s : State) :
    exec (.npkDataAccess t path false v) s = .next ((s.at t).getBy path (.np 0) NPK_DATA) := rfl

/-- A word goes into the keeper's store at `NPK_ADDR`. -/
def State.npkStore (s : State) (v : Nat) : State :=
  s.modKeeper fun k => { k with store := memSetLE k.store s.npkAddr 4 v }

@[simp] theorem State.answer_keeper (s : State) (v : Word) : (s.answer v).keeper = s.keeper := rfl

theorem State.store_npkNext_npkStore (s : State) (v : Nat) :
    (s.npkStore v).npkNext.keeper.store = memSetLE s.keeper.store s.npkAddr 4 v := rfl

theorem State.npkAddr_npkStore (s : State) (v : Nat) : (s.npkStore v).npkAddr = s.npkAddr := rfl
theorem State.reg_npkStore (s : State) (v a : Nat) : (s.npkStore v).reg a = s.reg a := rfl
@[simp] theorem State.answer_npkAddr (s : State) (v : Word) : (s.answer v).npkAddr = s.npkAddr := rfl

/-- The step to the next word moves `NPK_ADDR` alone. -/
theorem State.reg_npkNext (s : State) {a : Nat} (h : a ≠ (Page.np 0).base + NPK_ADDR.off) : s.npkNext.reg a = s.reg a :=
  s.reg_put_ne _ _ _ a h.symm

theorem State.blockWrite_npkData (s : State) (path : Path) (v : Nat) :
    s.blockWrite path (.np 0) NPK_DATA.off v = (s.npkStore v).npkNext := by
  show s.npWrite path 0 NPK_DATA.off v = _
  unfold State.npWrite
  exact if_pos ⟨rfl, rfl⟩

theorem State.readSide_npkData (s : State) (path : Path) : s.readSide path (.np 0) NPK_DATA.off = s.npkNext := rfl

/-- `NPK_DATA` shows the word of the store; FREEZE holds none of its bits (R37). -/
theorem State.regRead_npkData (s : State) (path : Path) :
    BitVec.ofNat 32 (s.regRead path (.np 0) NPK_DATA.off) = BitVec.ofNat 32 (memLE s.keeper.store s.npkAddr 4) := by
  have hlive : s.regLive path (.np 0) NPK_DATA.off = memLE s.keeper.store s.npkAddr 4 := rfl
  have hmask : heldMask (.np 0) NPK_DATA.off = 0 := by decide
  apply BitVec.eq_of_getLsbD_eq
  intro b hb
  rw [BitVec.getLsbD_ofNat, BitVec.getLsbD_ofNat]
  cases hfrozen : s.frozen (.np 0) with
  | false => rw [s.regRead_live path _ _ hfrozen, hlive]
  | true => rw [s.regRead_frozen_testBit path _ _ hfrozen hb, hmask, hlive, Nat.zero_testBit, if_neg Bool.false_ne_true]

/-- The keeper's address reads as the next word's. -/
theorem State.npkAddr_npkNext (s : State) : s.npkNext.npkAddr = (s.npkAddr + 4) % 0x4000 := by
  have haddr : s.npkAddr % 4 = 0 := by unfold State.npkAddr; omega
  unfold State.npkNext
  generalize s.npkAddr = a at haddr
  unfold State.npkAddr
  rw [State.get_put_same _ _ _ _ (by decide)]
  show (a + 4) % 0x4000 % 2 ^ 32 / 4 * 4 % 0x4000 = (a + 4) % 0x4000
  omega

/-! ### Wake frames, keepalive strobes and the end of a frame (R245, R246) -/

theorem exec_keeperWakeFrame_due (t : Nat) {p : Fin 8} {rest : List Nat} {s : State}
    (hplay : (s.at t).keeper.play = p.val :: rest) (hline : (s.at t).keeperLine p.val = false)
    (hfree : (s.at t).keeperBarred p = false)
    (hdue : ∀ f, (s.at t).keeper.first = some f → f + usU (50 * p.val) ≤ (s.at t).now) :
    exec (.keeperWakeFrame t p) s = .next (((s.at t).keeperTake p rest).keeperSend p) := by
  have hopen : ¬ (s.at t).keeperBarred p = true := Bool.eq_false_iff.mp hfree
  refine congrArg Host.Outcome.next ?_
  dsimp only
  rw [hplay, hline]
  cases hfirst : (s.at t).keeper.first with
  | none => exact (if_neg (by simp)).trans (if_neg hopen)
  | some f => exact (if_neg (by simp [hdue f hfirst])).trans (if_neg hopen)

theorem State.keeperSend_play (s : State) (p : Fin 8) : (s.keeperSend p).keeper.play = s.keeper.play := by
  unfold State.keeperSend
  rw [State.put_keeper, State.modKeeper_keeper]

theorem State.keeperTake_play (s : State) (p : Fin 8) (rest : List Nat) : (s.keeperTake p rest).keeper.play = rest := rfl

/-- A keepalive mark of two BCLK periods is on the line, and the next one is a second later (R246). -/
def State.aliveMark (s : State) (p : Fin 8) : State :=
  s.modKeeper fun k => { k with
    alive := k.alive.set p (s.now + secU 1), line := k.line ++ [(p.val, s.now + 31250, false)] }

theorem exec_keepaliveStrobe_due (t : Nat) {p : Fin 8} {s : State} (hdue : (s.at t).keeper.alive[p] ≤ (s.at t).now)
    (halive : (s.at t).aliveNow p = true) (hline : (s.at t).keeperLine p.val = false) :
    exec (.keepaliveStrobe t p) s = .next ((s.at t).aliveMark p) := by
  refine congrArg Host.Outcome.next (if_neg ?_)
  rintro (h | h | h)
  · exact Nat.not_lt.mpr hdue h
  · exact Bool.eq_false_iff.mp ((Bool.not_eq_true' _).mp h) halive
  · exact Bool.false_ne_true (hline ▸ h)

theorem State.aliveMark_alive (s : State) (p : Fin 8) : (s.aliveMark p).keeper.alive[p] = s.now + secU 1 := by
  simp [State.aliveMark]

/-- The keeper frames that have ended leave the line of their port. -/
def State.keeperLineEnd (s : State) (p : Fin 8) : State :=
  s.modKeeper fun k => { k with line := k.line.filter fun e => !(e.1 == p.val && decide (e.2.1 ≤ s.now)) }

theorem exec_keeperFrameEnd_idle (t : Nat) {p : Fin 8} {q : NpIx} {s : State} (hport : finOf 104 p.val = some q)
    (hidle : (s.at t).npState q ≠ NP_ENUM_ST) :
    exec (.keeperFrameEnd t p) s = .next ((s.at t).keeperLineEnd p).keeperDone := by
  refine congrArg Host.Outcome.next (congrArg State.keeperDone ?_)
  rw [hport]
  exact if_neg fun h => hidle h.2.1

/-! ### The statement -/

/-- Settles O22: an access of `NPK_DATA` is a write or a read of it, and the others are their steps under the condition named. -/
theorem keeperCommandsComplete : Obligations.KeeperCommandsComplete := by
  refine ⟨?write, ?read, ?wake, ?alive, ?frameEnd⟩
  case write =>
    intro path v hv
    refine completes_of_block_write (exec_npkDataAccess_write · path v) hv (by decide) (by decide) (fun _ h => h) ?_
    intro u _
    rw [u.blockWrite_npkData, State.answer_keeper, State.store_npkNext_npkStore, State.answer_npkAddr, State.npkAddr_npkNext,
      State.npkAddr_npkStore]
    refine ⟨memLE_setLE_word u.keeper.store u.npkAddr hv, memByte_setLE_outside 4 u.keeper.store u.npkAddr v, rfl,
      fun a ha => ?_⟩
    rw [State.answer_reg, State.reg_npkNext _ (List.mem_singleton.not.mp ha), State.reg_npkStore]
  case read =>
    intro path v
    refine completes_of_register_read (exec_npkDataAccess_read · path v) (by decide) fun u => ?_
    rw [u.readSide_npkData, u.regRead_npkData]
  case wake =>
    rintro p rest t s ⟨hplay, hline, hfree, hdue⟩
    exact ⟨_, exec_keeperWakeFrame_due t hplay hline hfree hdue, rfl,
      (State.keeperSend_play _ p).trans (State.keeperTake_play _ p rest)⟩
  case alive =>
    rintro p t s ⟨hdue, halive, hline⟩
    exact ⟨_, exec_keepaliveStrobe_due t hdue halive hline, State.aliveMark_alive _ p, rfl, fun _ _ => rfl⟩
  case frameEnd =>
    rintro p q hport t s ⟨-, hidle⟩
    exact ⟨_, exec_keeperFrameEnd_idle t hport hidle, rfl⟩

end Sys2Proof.Machine

/-! ## The commands of the matrix ports (R262–R264, R266) -/

namespace Sys2Proof.Machine

/-- An edge of TE that a FRAME_MEMORY port takes finds the port settled: a port that a commit has switched off and whose SHOW
has ended has gone OFF (R266) before the edge is a swap or a commit point (R263). -/
theorem exec_teEdge_active (t : Nat) {q : Fin 24} {falling : Bool} {s : State}
    (hup : ((s.at t).mxSettle q).flag .basecamp BC_STATUS_HOLD_UP = false)
    (hstate : (s.at t).mxState q = MX_RUN ∨ (s.at t).mxState q = MX_TE_LOST)
    (hmem : ((s.at t).mxSettle q).mxMem q = true)
    (hpol : falling = (((s.at t).mxSettle q).mxInf q MX_TE_POL == 1)) :
    exec (.teEdge t q falling) s = .next (((s.at t).mxSettle q).mxEdge q) := by
  refine congrArg Host.Outcome.next (if_neg ?_)
  rw [hup, hmem, hpol]
  rcases hstate with h | h <;> simp [h]

/-- Matrix port 0 in RUN, in FRAME_MEMORY mode, its bank on, switched off by a commit that waited for the SHOW of the last
transfer, which has ended by now; nothing else is under way. -/
def State.endedShow : State :=
  let bank := (State.reset.put .basecamp BC_PD_ON 0x3400003).put .basecamp BC_PD_REQ 0x400000
  ((bank.put (.mx 0) (MX_STATUS_STATE 0) MX_RUN).putInf (.mx 0) (MX_CFG_MODE 0) 1).modMx 0 fun o =>
    { o with showEnd := some bank.now, stop := true }

theorem State.endedShow_at_zero : State.endedShow.at 0 = State.endedShow := if_pos (Nat.zero_le _)

/-- The edge that comes now is one to be taken, by the port as it is and by the port when it has settled. -/
theorem State.endedShow_takesEdge : State.endedShow.flag .basecamp BC_STATUS_HOLD_UP = false ∧
    (State.endedShow.mxState 0 = MX_RUN ∨ State.endedShow.mxState 0 = MX_TE_LOST) ∧ State.endedShow.mxMem 0 = true ∧
    false = (State.endedShow.mxInf 0 MX_TE_POL == 1) := by decide +kernel

theorem State.endedShow_settled_takesEdge : (State.endedShow.mxSettle 0).flag .basecamp BC_STATUS_HOLD_UP = false ∧
    (State.endedShow.mxSettle 0).mxMem 0 = true ∧ false = ((State.endedShow.mxSettle 0).mxInf 0 MX_TE_POL == 1) := by
  decide +kernel

/-- What the edge makes of the port when it has settled, and of the port as it is. -/
theorem State.endedShow_edge_off : ((State.endedShow.mxSettle 0).mxEdge 0).mxState 0 = MX_OFF := by decide +kernel
theorem State.endedShow_edge_run : (State.endedShow.mxEdge 0).mxState 0 = MX_RUN := by decide +kernel

theorem exec_teEdge_endedShow :
    exec (.teEdge 0 0 false) State.endedShow = .next ((State.endedShow.mxSettle 0).mxEdge 0) := by
  obtain ⟨-, hstate, -⟩ := State.endedShow_takesEdge
  obtain ⟨hup, hmem, hpol⟩ := State.endedShow_settled_takesEdge
  have h := exec_teEdge_active (s := State.endedShow) (q := 0) (falling := false) 0
  rw [State.endedShow_at_zero] at h
  exact h hup hstate hmem hpol

/-- Refutes O23: when a commit has switched a port off and its SHOW has ended, an edge of TE is not taken by the port as it
was, in RUN. The port goes OFF first (R266; `exec_teEdge_active`). -/
theorem not_matrixCommandsComplete : ¬ Obligations.MatrixCommandsComplete := by
  rintro ⟨-, -, -, -, -, hedge, -⟩
  obtain ⟨v, hexec, hrun⟩ := hedge 0 false 0 State.endedShow (State.endedShow_at_zero.symm ▸ State.endedShow_takesEdge)
  rw [State.endedShow_at_zero] at hrun
  have hoff : v = (State.endedShow.mxSettle 0).mxEdge 0 := Host.Outcome.next.inj (hexec.symm.trans exec_teEdge_endedShow)
  have hstate : MX_RUN = MX_OFF := calc
    MX_RUN = (State.endedShow.mxEdge 0).mxState 0 := State.endedShow_edge_run.symm
    _ = ((State.endedShow.mxSettle 0).mxEdge 0).mxState 0 := congrArg (State.mxState · 0) (hrun.symm.trans hoff)
    _ = MX_OFF := State.endedShow_edge_off
  exact absurd hstate (by decide)

end Sys2Proof.Machine

namespace Sys2Proof.Machine

/-- Lantern 0 tripped and dark; Lantern 4 RUN under scanner 0, whose frame starts at this instant with a record that holds
the status of Lantern 0, its window open. The kill pin of Lantern 4 reads wrong. -/
def State.strayTrip : State :=
  let lit := ((State.reset.put (.scn 0) BLK_STATE E_LIT).put (.ltn 4) BLK_STATE LTN_RUN).modScn 0 fun c => { c with
    back := some { instant := 0, cells := [((Page.ltn 0).base + LTN_STATUS.off, 1)], ready := none, readyGeom := 0
                   frontGeom := 0, sk := 0, pred := 0, urRun := 0 } }
  { (lit.put (.ltn 0) LTN_ILK_STAT_TRIPPED 1).put (.ltn 0) BLK_STATE LTN_TRIPPED with
    pending := [.pinMismatch 0 4 true (usU 2)] }

/-- The machine as the step finds it, and as it leaves it. -/
def State.strayTaken : State := { State.strayTrip with pending := [] }
def State.strayTripped : State :=
  ((State.strayTaken.pinSeen 4 true (usU 2)).trip 4 7).modLtn 4 fun l => { l with pinSince := State.strayTaken.now }

theorem State.interlockHolds_strayTrip : InterlockHolds State.strayTrip := by
  unfold InterlockHolds
  decide +kernel

theorem State.strayTaken_at_zero : State.strayTaken.at 0 = State.strayTaken := if_pos (Nat.zero_le _)

theorem step_strayTrip : step State.strayTrip = .next State.strayTripped := by
  have htrip := exec_pinMismatch_long 0 4 true (usU 2) State.strayTaken
  rw [State.strayTaken_at_zero] at htrip
  exact htrip (by decide +kernel) (by decide) (by decide +kernel)

/-- The start that the trip undoes opens the window of Lantern 0, whose latch stays set. -/
theorem State.strayTripped_open : State.strayTripped.tripped 0 = true ∧ State.strayTripped.lanternDark 0 = false := by
  decide +kernel

/-- Refutes O7: a trip of a scanner's Lantern on the tick of its frame start puts back whatever registers the record of that
start holds (R216), here the open window of another Lantern that is tripped. `InterlockHolds` says nothing of such records,
which no frame start makes (`State.scnKeep_own`). -/
theorem not_stepKeepsTheInterlock : ¬ Obligations.StepKeepsTheInterlock := by
  intro h
  obtain ⟨htripped, hopen⟩ := State.strayTripped_open
  obtain ⟨-, hdark, -⟩ := h _ _ State.interlockHolds_strayTrip step_strayTrip 0 htripped
  exact Bool.false_ne_true (hopen.symm.trans hdark)

end Sys2Proof.Machine

/-! ## The step and the queue -/

namespace Sys2Proof.Machine

/-- Settles O1: `step` takes the front command, by its definition. -/
theorem stepRunsTheFrontCommand : Obligations.StepRunsTheFrontCommand := by
  intro c rest s hqueue
  unfold step
  rw [hqueue]

/-- Settles O2: `step` idles on an empty queue, by its definition. -/
theorem stepIdlesOnAnEmptyQueue : Obligations.StepIdlesOnAnEmptyQueue := by
  intro s hqueue
  unfold step
  rw [hqueue]

theorem State.reset_canonical : State.reset.canonical = true := by decide

theorem State.reset_untripped (x : Fin 6) : State.reset.tripped x = false := by
  revert x
  decide +kernel

/-- Settles O8: nothing is listed at reset, and no latch is set. -/
theorem resetMeetsTheInvariants : Obligations.ResetMeetsTheInvariants := by
  refine ⟨State.reset_canonical, fun x htripped => ?_, State.reset_untripped⟩
  exact absurd htripped (by rw [State.reset_untripped]; exact Bool.false_ne_true)

end Sys2Proof.Machine

/-! ## A servo update (R272) -/

namespace Sys2Proof.Machine

/-- The increment that a rate word asks for. -/
def State.rateAsked (s : State) (v : Nat) : Nat := bitsOf v 0 20 * 2 ^ 16 + s.get .time TIME_INCR_EXT

/-- The increment within its limits, shown and in use. -/
def State.rateSet (s : State) (v : Nat) : State :=
  let lim := clampN incrLo incrHi (s.rateAsked v)
  ({ s with clock := { s.clock with incr := lim } } : State).put .time TIME_INCR (lim / 2 ^ 16)

/-- A rate word out of hold-off sets the increment within its limits, and then is a servo update. -/
theorem State.timeIncrWrite_free (s : State) (v : Nat) (h : s.flag .time TIME_STATUS_HOLDOFF = false) :
    s.timeIncrWrite v = (if clampN incrLo incrHi (s.rateAsked v) = s.rateAsked v then
      (s.rateSet v).put .time TIME_STATUS_INCR_LIMIT 0
      else (((s.rateSet v).put .time TIME_STATUS_INCR_LIMIT 1).bump .time TIME_INCR_LIMIT_CNT).raise .time 7).servoUpdate := by
  unfold State.timeIncrWrite
  rw [h]
  rfl

/-- A servo update ends freerun, and else only takes its instant (R272, R277). -/
theorem State.servoUpdate_cases {P : State → State → Prop} (s : State) (hsame : ∀ u : State, P u u)
    (htrans : ∀ u v w : State, P u v → P v w → P u w) (hclock : ∀ (u : State) (f : Option Nat) (e : Bool),
      P u { u with clock := { u.clock with servoFrom := f, servoExpired := e } })
    (hflag : ∀ u : State, P u (u.put .time TIME_STATUS_FREERUN 0)) (hstate : ∀ u : State, P u (u.put .time BLK_STATE 1))
    (hraise : ∀ u : State, P u (u.raise .time 10)) : P s s.servoUpdate := by
  unfold State.servoUpdate
  extract_lets _ taken freed
  have htaken : P s taken := hclock s _ _
  have hfreed : P s freed := htrans _ _ _ htaken (hflag taken)
  split_ifs
  · exact hsame s
  · exact htrans _ _ _ (htrans _ _ _ hfreed (hstate freed)) (hraise _)
  · exact htrans _ _ _ hfreed (hraise _)
  · exact htaken

theorem State.servoUpdate_incr (s : State) : s.servoUpdate.clock.incr = s.clock.incr :=
  s.servoUpdate_cases (P := fun u v => v.clock.incr = u.clock.incr) (fun _ => rfl) (fun _ _ _ h k => k.trans h)
    (fun _ _ _ => rfl) (fun _ => rfl) (fun _ => rfl) fun _ => congrArg Clock.incr (State.onlyRecords_raise _ _ _).clock

/-- A servo update moves no field of TIME but its state and FREERUN, beside what its event moves. -/
theorem State.get_servoUpdate (s : State) {g : RF} (hquiet : QuietReg .time g) (hstate : g.off ≠ BLK_STATE.off)
    (hfits : g.Fits) (hfree : g.off ≠ TIME_STATUS_FREERUN.off ∨ TIME_STATUS_FREERUN.Apart g) :
    s.servoUpdate.get .time g = s.get .time g := by
  refine s.servoUpdate_cases (P := fun u v => v.get .time g = u.get .time g) (fun _ => rfl) (fun _ _ _ h k => k.trans h)
    (fun _ _ _ => rfl) (fun u => ?_) (fun u => u.get_put_off .time BLK_STATE g 1 hstate.symm)
    fun u => State.get_raise _ _ _ _ _ hquiet
  by_cases hoff : g.off = TIME_STATUS_FREERUN.off
  · exact u.get_put_apart .time _ _ _ hoff.symm hfits (hfree.resolve_left (not_not_intro hoff))
  · exact u.get_put_off .time _ _ _ (Ne.symm hoff)

/-- A servo update leaves latched what was latched. -/
theorem State.servoUpdate_latched (s : State) {b : Nat} (hb : b < 32) (h : s.get .time (irqBit b) = 1) :
    s.servoUpdate.get .time (irqBit b) = 1 :=
  s.servoUpdate_cases (P := fun u v => u.get .time (irqBit b) = 1 → v.get .time (irqBit b) = 1) (fun _ h => h)
    (fun _ _ _ h k hu => k (h hu)) (fun _ _ _ h => h)
    (fun u h => (u.get_put_off .time TIME_STATUS_FREERUN (irqBit b) 0 (show (0x84 : Nat) ≠ 0x14 by decide)).trans h)
    (fun u h => (u.get_put_off .time BLK_STATE (irqBit b) 1 (show (0x0C : Nat) ≠ 0x14 by decide)).trans h)
    (fun u h => (u.onlyEvents_raise .time (by decide)).latched .time b hb h) h

theorem State.incr_timeIncrWrite (s : State) (v : Nat) (hfree : s.flag .time TIME_STATUS_HOLDOFF = false) :
    (s.timeIncrWrite v).clock.incr = clampN incrLo incrHi (s.rateAsked v) := by
  rw [s.timeIncrWrite_free v hfree, State.servoUpdate_incr]
  split_ifs
  · rfl
  · exact congrArg Clock.incr (State.onlyRecords_raise _ _ _).clock

/-- Settles O47: out of hold-off a rate word sets the increment within its limits and shows when it was limited, and the
servo update that follows moves none of it. -/
theorem servoUpdateIsLimited : Obligations.ServoUpdateIsLimited := by
  intro s v hfree
  have hset := s.timeIncrWrite_free v hfree
  show (incrLo ≤ s.rateAsked v → s.rateAsked v ≤ incrHi → _) ∧ (s.rateAsked v < incrLo → _) ∧ (incrHi < s.rateAsked v → _) ∧
    (s.rateAsked v < incrLo ∨ incrHi < s.rateAsked v → _)
  have hincr := s.incr_timeIncrWrite v hfree
  have hlimits : incrLo ≤ incrHi := by decide
  refine ⟨fun hlo hhi => ?_, fun hlo => ?_, fun hhi => ?_, fun hout => ?_⟩
  · have hin : clampN incrLo incrHi (s.rateAsked v) = s.rateAsked v := by unfold clampN; omega
    refine ⟨hincr.trans hin, ?_⟩
    rw [hset, if_pos hin]
    unfold State.flag
    rw [State.get_servoUpdate _ (by decide) (by decide) (by decide) (.inr (by decide)), State.get_put_same _ _ _ _ (by decide)]
    rfl
  · exact hincr.trans (by unfold clampN; omega : clampN incrLo incrHi (s.rateAsked v) = incrLo)
  · exact hincr.trans (by unfold clampN; omega : clampN incrLo incrHi (s.rateAsked v) = incrHi)
  · have hclamped : clampN incrLo incrHi (s.rateAsked v) ≠ s.rateAsked v := by unfold clampN; omega
    rw [hset, if_neg hclamped]
    refine ⟨?_, ?_, State.servoUpdate_latched _ (by decide) (State.get_raise_irqBit _ _ (by decide))⟩
    · unfold State.flag
      rw [State.get_servoUpdate _ (by decide) (by decide) (by decide) (.inr (by decide)), State.get_raise _ _ _ _ _ (by decide),
        State.get_bump_ne _ _ _ _ _ (by decide), State.get_put_same _ _ _ _ (by decide)]
      rfl
    · rw [State.get_servoUpdate _ (by decide) (by decide) (by decide) (.inl (by decide)), State.get_raise _ _ _ _ _ (by decide),
        State.get_bump_same _ _ _ (by decide), State.get_put_off _ _ _ _ _ (by decide)]
      exact congrArg (fun n => min (n + 1) (2 ^ 32 - 1)) (State.get_put_off _ _ _ _ _ (by decide))

end Sys2Proof.Machine

/-! ## The order of grants (R378) -/

namespace Sys2Proof.Machine

/-- The order of R378: class, then the time it waits since, then requester, then port. -/
theorem State.reqBefore_iff (s : State) (a b : PbaReq) : s.reqBefore a b = true ↔
    s.reqClass a.id < s.reqClass b.id ∨ (s.reqClass a.id = s.reqClass b.id ∧ (a.since < b.since ∨ (a.since = b.since ∧
      (a.id < b.id ∨ (a.id = b.id ∧ a.port < b.port))))) := by
  unfold State.reqBefore
  simp only [Bool.or_eq_true, Bool.and_eq_true, decide_eq_true_eq, beq_iff_eq]

theorem State.reqBefore_irrefl (s : State) (a : PbaReq) : s.reqBefore a a = false := by
  rw [← Bool.not_eq_true, State.reqBefore_iff]
  omega

theorem State.reqBefore_asymm (s : State) {a b : PbaReq} (h : s.reqBefore a b = true) : s.reqBefore b a = false := by
  rw [← Bool.not_eq_true, State.reqBefore_iff]
  rw [State.reqBefore_iff] at h
  omega

/-- A request that does not come before one that does not come before a third does not come before the third. -/
theorem State.reqBefore_negTrans (s : State) {a b c : PbaReq} (hab : s.reqBefore a b = false) (hbc : s.reqBefore b c = false) :
    s.reqBefore a c = false := by
  rw [← Bool.not_eq_true, State.reqBefore_iff] at hab hbc ⊢
  omega

theorem firstBy_eq_none_iff (lt : PbaReq → PbaReq → Bool) (l : List PbaReq) : firstBy lt l = none ↔ l = [] := by
  cases l with
  | nil => simp [firstBy]
  | cons a r =>
    unfold firstBy
    split
    · simp
    · split <;> simp

theorem firstBy_mem (lt : PbaReq → PbaReq → Bool) {l : List PbaReq} {q : PbaReq} (h : firstBy lt l = some q) : q ∈ l := by
  induction l generalizing q with
  | nil => simp [firstBy] at h
  | cons a r ih =>
    unfold firstBy at h
    split at h
    · exact Option.some.inj h ▸ List.mem_cons_self
    · next b hb =>
      split at h
      · exact Option.some.inj h ▸ List.mem_cons_of_mem _ (ih hb)
      · exact Option.some.inj h ▸ List.mem_cons_self

/-- None of the list comes before the one that `firstBy` takes. -/
theorem State.firstBy_first (s : State) {l : List PbaReq} {q : PbaReq} (h : firstBy s.reqBefore l = some q) :
    ∀ o ∈ l, s.reqBefore o q = false := by
  induction l generalizing q with
  | nil => simp [firstBy] at h
  | cons a r ih =>
    unfold firstBy at h
    split at h
    · next hnone =>
      rw [(firstBy_eq_none_iff _ _).mp hnone, ← Option.some.inj h]
      intro o ho
      rw [List.mem_singleton.mp ho, s.reqBefore_irrefl]
    · next b hb =>
      split at h
      · next hba =>
        rw [← Option.some.inj h]
        intro o ho
        rcases List.mem_cons.mp ho with rfl | ho
        · exact s.reqBefore_asymm hba
        · exact ih hb o ho
      · next hba =>
        rw [← Option.some.inj h]
        intro o ho
        rcases List.mem_cons.mp ho with rfl | ho
        · exact s.reqBefore_irrefl _
        · exact s.reqBefore_negTrans (ih hb o ho) (Bool.not_eq_true _ ▸ hba)

theorem State.passes_of_legal (s : State) {q : PbaReq} (h : s.reqClass q.id = 0) : s.passes q = true := by
  unfold State.passes
  simp [h]

/-- Settles O58: the request granted is the first by R378 of those that wait and pass. -/
theorem grantsFollowTheOrder : Obligations.GrantsFollowTheOrder := by
  refine fun s => ⟨fun q hgrant => ?_, fun hnone o ho => ?_, fun q => s.passes_of_legal⟩
  · obtain ⟨hwaits, hpasses⟩ := List.mem_filter.mp (firstBy_mem _ hgrant)
    exact ⟨hwaits, hpasses, fun o ho hpass => s.firstBy_first hgrant o (List.mem_filter.mpr ⟨ho, hpass⟩)⟩
  · have hempty := (firstBy_eq_none_iff _ _).mp hnone
    exact Bool.not_eq_true _ ▸ List.filter_eq_nil_iff.mp hempty o ho

end Sys2Proof.Machine

/-! ## What an operation leaves on other pages -/

namespace Sys2Proof.Machine

theorem SamePages.refl (s : State) (ps : List Page) : SamePages s s ps := fun _ _ _ => rfl

theorem SamePages.trans {s u v : State} {ps : List Page} (h : SamePages s u ps) (k : SamePages u v ps) : SamePages s v ps :=
  fun a hp hr => (k a hp hr).trans (h a hp hr)

/-- A change behind the registers. -/
theorem SamePages.hidden {s u v : State} {ps : List Page} (h : SamePages s u ps) (hregs : v.regs = u.regs) :
    SamePages s v ps := by
  refine h.trans fun a _ _ => ?_
  unfold State.reg
  rw [hregs]

theorem SamePages.ite {c : Prop} [Decidable c] {s u v : State} {ps : List Page} (hu : c → SamePages s u ps)
    (hv : ¬ c → SamePages s v ps) : SamePages s (if c then u else v) ps := by
  split_ifs with h
  · exact hu h
  · exact hv h

theorem SamePages.foldl {ι : Type} {f : State → ι → State} {s u : State} {ps : List Page}
    (hf : ∀ v x, SamePages v (f v x) ps) (h : SamePages s u ps) (l : List ι) : SamePages s (l.foldl f u) ps := by
  induction l generalizing u with
  | nil => exact h
  | cons x l ih => exact ih (h.trans (hf u x))

theorem SamePages.mono {s u : State} {ps qs : List Page} (h : SamePages s u ps) (hsub : ps ⊆ qs) : SamePages s u qs :=
  fun a hp hr => h a (fun p hm => hp p (hsub hm)) hr

/-- A register of a listed page is not one outside them. -/
theorem Page.ne_of_outside {ps : List Page} {p : Page} (hp : p ∈ ps) {off a : Nat} (hoff : off < 0x1000)
    (ha : ∀ q ∈ ps, ¬ (q.base ≤ a ∧ a < q.base + 0x1000)) : p.base + off ≠ a := by
  rintro rfl
  exact ha p hp ⟨by omega, by omega⟩

theorem SamePages.put {s u : State} {ps : List Page} (h : SamePages s u ps) {p : Page} {f : RF} {x : Nat} (hp : p ∈ ps)
    (hf : f.off < 0x1000) : SamePages s (u.put p f x) ps :=
  h.trans fun _ ha _ => State.reg_put_ne _ _ _ _ _ (Page.ne_of_outside hp hf ha)

theorem SamePages.bump {s u : State} {ps : List Page} (h : SamePages s u ps) {p : Page} {f : RF} (hp : p ∈ ps)
    (hf : f.off < 0x1000) : SamePages s (u.bump p f) ps :=
  h.trans fun _ ha _ => State.reg_bump_ne _ _ _ (Page.ne_of_outside hp hf ha)

theorem SamePages.raise {s u : State} {ps : List Page} (h : SamePages s u ps) {p : Page} {b : Nat} (hp : p ∈ ps) :
    SamePages s (u.raise p b) ps :=
  h.trans fun _ ha hr => State.reg_raise _ _ _ (Page.ne_of_outside hp (by decide) ha) hr

theorem SamePages.logEntry {s u : State} {ps : List Page} (h : SamePages s u ps) {pg c d x : Nat} :
    SamePages s (u.logEntry pg c d x) ps := h.trans fun _ _ _ => State.reg_logEntry _ _ _ _ _ _

theorem SamePages.errInfo {s u : State} {ps : List Page} (h : SamePages s u ps) {p : Page} {path off c d i : Nat}
    (hp : p ∈ ps) : SamePages s (u.errInfo p path off c d i) ps := by
  refine h.trans fun a ha hr => State.sameRegs_errInfo _ _ _ _ _ _ _ a (fun hmem => ?_) hr
  simp only [errRegs, List.mem_cons, List.not_mem_nil, or_false] at hmem
  rcases hmem with e | e | e | e <;> exact Page.ne_of_outside hp (by decide) ha e.symm

end Sys2Proof.Machine

/-! ## An extension access outside its grants (R326, R327) -/

namespace Sys2Proof.Machine

/-- From `s` to `u` only responses are posted: the answer of the access, the memories, the run of the MP and of the
extension, Basecamp and the Lanterns stay. -/
structure OnlyPosts (s u : State) : Prop where
  out : u.out = s.out
  mems : u.mems = s.mems
  up : u.mp.up = s.mp.up
  extStopped : u.mp.extStopped = s.mp.extStopped
  bc : u.bc = s.bc
  ltn : u.ltn = s.ltn

theorem OnlyPosts.refl (s : State) : OnlyPosts s s := ⟨rfl, rfl, rfl, rfl, rfl, rfl⟩

theorem OnlyPosts.trans {s u v : State} (h : OnlyPosts s u) (k : OnlyPosts u v) : OnlyPosts s v :=
  ⟨k.out.trans h.out, k.mems.trans h.mems, k.up.trans h.up, k.extStopped.trans h.extStopped, k.bc.trans h.bc,
    k.ltn.trans h.ltn⟩

theorem OnlyPosts.ite {c : Prop} [Decidable c] {s u v : State} (hu : c → OnlyPosts s u) (hv : ¬ c → OnlyPosts s v) :
    OnlyPosts s (if c then u else v) := by
  split_ifs with h
  · exact hu h
  · exact hv h

theorem OnlyPosts.foldl {ι : Type} {f : State → ι → State} (h : ∀ s x, OnlyPosts s (f s x)) (l : List ι) (s : State) :
    OnlyPosts s (l.foldl f s) := by
  induction l generalizing s with
  | nil => exact .refl s
  | cons x l ih => exact (h s x).trans (ih (f s x))

theorem State.onlyPosts_bump (s : State) (p : Page) (f : RF) : OnlyPosts s (s.bump p f) :=
  ⟨rfl, rfl, rfl, rfl, rfl, rfl⟩

theorem State.onlyPosts_logEntry (s : State) (pg c d x : Nat) : OnlyPosts s (s.logEntry pg c d x) := by
  unfold State.logEntry
  exact .ite (fun _ => ⟨rfl, rfl, rfl, rfl, rfl, rfl⟩) fun _ => .refl s

theorem State.onlyPosts_put (s : State) (p : Page) (f : RF) (x : Nat) : OnlyPosts s (s.put p f x) :=
  ⟨rfl, rfl, rfl, rfl, rfl, rfl⟩
theorem State.onlyPosts_ring (s : State) (m : List (Nat × Byte)) (n : Nat) :
    OnlyPosts s { s with dram := m, mp := { s.mp with recSeq := n } } := ⟨rfl, rfl, rfl, rfl, rfl, rfl⟩
theorem State.onlyPosts_latch (s : State) (p : Page) (b : Nat) : OnlyPosts s (s.latch p b) :=
  ⟨rfl, rfl, rfl, rfl, rfl, rfl⟩

theorem State.onlyPosts_record (s : State) (ty : Nat) (l : List Nat) : OnlyPosts s (s.record ty l) := by
  by_cases hr : s.recording = true
  · simp only [State.record, hr, if_true]
    split
    · exact (s.onlyPosts_bump _ _).trans (State.onlyPosts_latch _ _ _)
    · exact (s.onlyPosts_ring _ _).trans (State.onlyPosts_put _ _ _ _)
  · simp only [State.record, hr]
    exact .refl s

theorem State.onlyPosts_raise (s : State) (p : Page) (b : Nat) : OnlyPosts s (s.raise p b) :=
  (s.onlyPosts_latch p b).trans (State.onlyPosts_record _ _ _)

theorem State.onlyPosts_icpReplyFor (s : State) (owed : Option MbxRec) (port op status detail ref key : Nat)
    (payload : List Byte) : OnlyPosts s (s.icpReplyFor owed port op status detail ref key payload) := by
  unfold State.icpReplyFor
  split
  · cases finOf 16 key <;> exact ⟨rfl, rfl, rfl, rfl, rfl, rfl⟩
  · exact .refl s

theorem State.onlyPosts_icpPost (s : State) (i : Fin 32) (status detail : Nat) (owed : Option MbxRec) (payload : List Byte) :
    OnlyPosts s (s.icpPost i status detail owed payload) := by
  unfold State.icpPost
  extract_lets c
  split
  · exact .refl s
  · exact .ite (fun _ => ⟨rfl, rfl, rfl, rfl, rfl, rfl⟩) fun _ =>
      (s.onlyPosts_icpReplyFor owed c.port 3 status detail c.ref c.key payload).trans ⟨rfl, rfl, rfl, rfl, rfl, rfl⟩

/-- A posted response is one slot, an event, and what it counts and logs. -/
theorem State.onlyPosts_mbxPost (s : State) (i : Fin 32) (status detail state : Nat) (result : List Nat) :
    OnlyPosts s (s.mbxPost i status detail state result) := by
  unfold State.mbxPost
  extract_lets c final w0 w1 words counted rejected missed box posted icp shown
  have hrejected : OnlyPosts s rejected :=
    .ite (fun _ => (s.onlyPosts_bump _ _).trans (State.onlyPosts_logEntry _ _ _ _ _)) fun _ => .refl s
  have hmissed : OnlyPosts s missed := hrejected.trans (.ite (fun _ => State.onlyPosts_bump _ _ _) fun _ => .refl _)
  have hshown : OnlyPosts s shown := hmissed.trans ⟨rfl, rfl, rfl, rfl, rfl, rfl⟩
  exact hshown.trans (.ite (fun _ => State.onlyPosts_icpPost _ _ _ _ _ _) fun _ =>
    .ite (fun _ => State.onlyPosts_raise _ _ _) fun _ => State.onlyPosts_raise _ _ _)

theorem State.onlyPosts_mbxFinish (s : State) (i : Fin 32) (status detail word2 : Nat) :
    OnlyPosts s (s.mbxFinish i status detail word2) := by
  unfold State.mbxFinish
  exact .ite (fun _ => State.onlyPosts_mbxPost _ _ _ _ _ _) fun _ => ⟨rfl, rfl, rfl, rfl, rfl, rfl⟩

theorem State.onlyPosts_mbxFinishAll (s : State) (p : MbxWait → Bool) (status detail word2 : Nat) :
    OnlyPosts s (s.mbxFinishAll p status detail word2) := by
  unfold State.mbxFinishAll
  exact .foldl (fun _ _ => .ite (fun _ => State.onlyPosts_mbxFinish _ _ _ _ _) fun _ => .refl _) _ s

theorem State.regs_icpReplyFor (s : State) (owed : Option MbxRec) (port op status detail ref key : Nat)
    (payload : List Byte) : (s.icpReplyFor owed port op status detail ref key payload).regs = s.regs := by
  unfold State.icpReplyFor
  split
  · cases finOf 16 key <;> rfl
  · rfl

theorem State.regs_icpPost (s : State) (i : Fin 32) (status detail : Nat) (owed : Option MbxRec) (payload : List Byte) :
    (s.icpPost i status detail owed payload).regs = s.regs := by
  unfold State.icpPost
  extract_lets c
  split
  · rfl
  · split
    · rfl
    · exact State.regs_icpReplyFor _ _ _ _ _ _ _ _ _

theorem SamePages.mbxPost {s u : State} {ps : List Page} (h : SamePages s u ps) {i : Fin 32} {status detail state : Nat}
    {result : List Nat} (hp : .mbx ∈ ps) : SamePages s (u.mbxPost i status detail state result) ps := by
  unfold State.mbxPost
  extract_lets c final w0 w1 words counted rejected missed box posted icp shown
  have hrejected : SamePages s rejected ps := .ite (fun _ => (h.bump hp (by decide)).logEntry) fun _ => h
  have hmissed : SamePages s missed ps := .ite (fun _ => hrejected.bump hp (by decide)) fun _ => hrejected
  have hshown : SamePages s shown ps := hmissed.hidden rfl
  exact .ite (fun _ => hshown.hidden (State.regs_icpPost _ _ _ _ _ _)) fun _ =>
    .ite (fun _ => hshown.raise hp) fun _ => hshown.raise hp

theorem SamePages.mbxFinish {s u : State} {ps : List Page} (h : SamePages s u ps) {i : Fin 32} {status detail word2 : Nat}
    (hp : .mbx ∈ ps) : SamePages s (u.mbxFinish i status detail word2) ps := by
  unfold State.mbxFinish
  exact .ite (fun _ => h.mbxPost hp) fun _ => h.hidden rfl

theorem SamePages.mbxFinishAll {s u : State} {ps : List Page} (h : SamePages s u ps) {p : MbxWait → Bool}
    {status detail word2 : Nat} (hp : .mbx ∈ ps) : SamePages s (u.mbxFinishAll p status detail word2) ps := by
  unfold State.mbxFinishAll
  exact .foldl (fun v _ => .ite (fun _ => (SamePages.refl v ps).mbxFinish hp) fun _ => .refl v ps) h _

/-- The extension is stopped, and its fault counted and raised. -/
def State.extStop (s : State) : State :=
  ((({ s with mp := { s.mp with extStopped := true } } : State).put .mbx MP_EXT_CTRL_RUN 0).bump .mbx
    MP_EXT_FAULT_CNT).raise .mbx 8

/-- The commands of the extension that are under way are answered INTERRUPTED (R327). -/
def State.extCutShort (s : State) : State :=
  (s.mbxSlots ORG_EXT).foldl (fun (s : State) i =>
    let c : MbxSlot := s.mbx.slots[i]
    if c.st = SL_EXEC ∨ c.st = SL_RUNNING then s.mbxPost i ST_INTERRUPTED 0 0 [] else s) s

theorem State.extFault_eq (s : State) : s.extFault = s.extStop.extCutShort := rfl

theorem State.onlyPosts_extCutShort (s : State) : OnlyPosts s s.extCutShort :=
  .foldl (fun _ _ => .ite (fun _ => State.onlyPosts_mbxPost _ _ _ _ _ _) fun _ => .refl _) _ s

theorem State.onlyEvents_extCutShort (s : State) : OnlyEvents s s.extCutShort :=
  .foldl (fun _ _ => .ite (fun _ => State.onlyEvents_mbxPost _ _ _ _ _ _) fun _ => .refl _) _ s

theorem State.samePages_extFault (s : State) : SamePages s s.extFault [.mbx] := by
  have hmbx : Page.mbx ∈ [Page.mbx] := List.mem_singleton_self _
  rw [State.extFault_eq]
  have hstop : SamePages s s.extStop [.mbx] :=
    (((SamePages.refl s _).hidden (v := { s with mp := { s.mp with extStopped := true } }) rfl).put hmbx (by decide)).bump hmbx
      (by decide) |>.raise hmbx
  exact hstop.foldl (fun v _ => .ite (fun _ => (SamePages.refl v _).mbxPost hmbx) fun _ => .refl v _) _

/-- Stopping the extension is a mark in the MP, and an event. -/
theorem State.onlyPosts_extStop (s : State) : OnlyPosts { s with mp := { s.mp with extStopped := true } } s.extStop :=
  ((State.onlyPosts_put _ _ _ _).trans (State.onlyPosts_bump _ _ _)).trans (State.onlyPosts_raise _ _ _)

theorem State.writeBy_extOutside (s : State) {a : Nat} (width v : Nat) (hlive : s.pathLive .ext = true)
    (hmay : s.extMay a true = false) : s.writeBy .ext a width v = ({ s with out := [] } : State).extFault := by
  unfold State.writeBy State.access
  simp [hlive, hmay]

/-- Settles O57: the access is stopped before the bus; the fault is the stop of the extension, and then its commands under way
are answered, which moves nothing but MBX. -/
theorem extensionFaultsStopTheExtension : Obligations.ExtensionFaultsStopTheExtension := by
  intro s a width v hlive hmay
  rw [s.writeBy_extOutside width v hlive hmay]
  set t : State := { s with out := [] }
  have hposts := t.onlyPosts_extStop.trans t.extStop.onlyPosts_extCutShort
  have hevents := t.extStop.onlyEvents_extCutShort
  have hpages : SamePages s t.extFault [.mbx] := t.samePages_extFault
  rw [State.extFault_eq] at hpages ⊢
  have hquiet : QuietReg .mbx MP_EXT_CTRL_RUN ∧ QuietReg .mbx MP_EXT_FAULT_CNT := by decide
  refine ⟨hposts.out, hposts.extStopped, ?_, ?_, ?_, hpages, .of_mems hposts.mems, hposts.up⟩
  · unfold State.flag
    rw [hevents.get _ _ (by decide) (by decide)]
    unfold State.extStop
    rw [State.get_raise _ _ _ _ _ hquiet.1, State.get_bump_ne _ _ _ _ _ (by decide), State.get_put_same _ _ _ _ (by decide)]
    rfl
  · rw [hevents.get _ _ (by decide) (by decide)]
    unfold State.extStop
    rw [State.get_raise _ _ _ _ _ hquiet.2, State.get_bump_same _ _ _ (by decide), State.get_put_off _ _ _ _ _ (by decide)]
    rfl
  · exact hevents.latched _ _ (by decide) (State.get_raise_irqBit _ _ (by decide))

end Sys2Proof.Machine

/-! ## The overvoltage flag (R360) -/

namespace Sys2Proof.Machine

theorem OnlyRecords.bc {s u : State} (h : OnlyRecords s u) : u.bc = s.bc := by
  rw [OnlyRecords] at h; rw [h]

/-- VBAT_OV is set and its event raised. -/
def State.ovFlagged (s : State) : State := (s.put .basecamp BC_STATUS_VBAT_OV 1).raise .basecamp BC_EV_VBAT_OV

theorem State.ovFlagged_flag (s : State) : s.ovFlagged.flag .basecamp BC_STATUS_VBAT_OV = true := by
  unfold State.ovFlagged State.flag
  rw [State.get_raise _ _ _ _ _ (by decide), State.get_put_same _ _ _ _ (by decide)]
  rfl

theorem State.onlyRecords_ovFlagged (s : State) : OnlyRecords s s.ovFlagged :=
  (State.onlyRecords_put _ _ _ _).trans (State.onlyRecords_raise _ _ _)

theorem State.onlyPosts_ovFlagged (s : State) : OnlyPosts s s.ovFlagged :=
  (State.onlyPosts_put _ _ _ _).trans (State.onlyPosts_raise _ _ _)

theorem State.sameRegs_ovFlagged (s : State) :
    SameRegs s s.ovFlagged [Page.basecamp.base + BC_STATUS.off, Page.basecamp.base + IRQ_STAT.off] := by
  intro a ha hrec
  simp only [List.mem_cons, List.not_mem_nil, or_false, not_or] at ha
  obtain ⟨hstatus, hirq⟩ := ha
  unfold State.ovFlagged
  rw [State.reg_raise _ _ _ (Ne.symm hirq) hrec]
  exact s.reg_put_ne _ BC_STATUS_VBAT_OV _ _ (Ne.symm hstatus)

theorem State.ovFlagged_pstate (s : State) : s.ovFlagged.pstate = s.pstate := by
  unfold State.ovFlagged State.pstate
  rw [State.get_raise _ _ _ _ _ (by decide), State.get_put_off _ _ _ _ _ (by decide)]

theorem State.vbatStep_rated (s : State) (t : Nat) {v : Nat} (f : State → State) (hv : v ≤ 5800) :
    s.vbatStep t v f = .next (f (s.at t)) := if_neg (by omega)

/-- What VBAT_OV does with a VBAT within the ratings (R360). -/
theorem exec_vbatOv_rated (t : Nat) {v : Nat} (dur : Nat) (s : State) (hv : v ≤ 5800) : exec (.vbatOv t v dur) s =
    .next (if (s.at t).pstate = PS_INIT ∨ v ≤ 4200 ∨ dur < msU 1 ∨ (s.at t).flag .basecamp BC_STATUS_VBAT_OV = true then s.at t
      else (s.at t).ovFlagged) := s.vbatStep_rated t _ hv

theorem exec_vbatOv_flags (t : Nat) {v dur : Nat} (s : State) (hlow : 4200 < v) (hv : v ≤ 5800) (hdur : msU 1 ≤ dur)
    (hinit : (s.at t).pstate ≠ PS_INIT) (hfree : (s.at t).flag .basecamp BC_STATUS_VBAT_OV = false) :
    exec (.vbatOv t v dur) s = .next (s.at t).ovFlagged := by
  rw [exec_vbatOv_rated t dur s hv, if_neg]
  rw [hfree]
  simp only [hinit, Bool.false_eq_true, or_false, false_or]
  omega

theorem exec_vbatOvEnd_ends (t : Nat) {v dur : Nat} (s : State) (hv : v ≤ 4100) (hdur : msU 10 ≤ dur) :
    exec (.vbatOvEnd t v dur) s = .next ((s.at t).put .basecamp BC_STATUS_VBAT_OV 0) :=
  (s.vbatStep_rated t _ (by omega)).trans (congrArg Host.Outcome.next (if_neg (by omega)))

theorem State.flag_putZero (s : State) (p : Page) (f : RF) (hf : f.Fits) : (s.put p f 0).flag p f = false := by
  unfold State.flag
  rw [State.get_put_same _ _ _ _ hf, Nat.zero_mod]
  rfl

/-- Settles O48: VBAT_OV is `State.ovFlagged` or nothing, and its end clears the flag alone. -/
theorem overvoltageIsFlagged : Obligations.OvervoltageIsFlagged := by
  refine ⟨fun v dur hlow hv hdur t s hinit => ?_, fun v dur hv hdur t s _ => ?_, fun t v dur s r hshort hexec => ?_,
    fun t v dur s r hshort hexec => ?_⟩
  · cases hfree : (s.at t).flag .basecamp BC_STATUS_VBAT_OV with
    | true =>
      refine ⟨s.at t, ?_, hfree, fun h => absurd (hfree.symm.trans h) Bool.true_eq_false.mp, fun _ _ _ => rfl, rfl, rfl, rfl, rfl, rfl,
        .of_mems rfl⟩
      rw [exec_vbatOv_rated t dur s hv, if_pos (.inr (.inr (.inr hfree)))]
    | false =>
      have hrecords := (s.at t).onlyRecords_ovFlagged
      have hposts := (s.at t).onlyPosts_ovFlagged
      exact ⟨_, exec_vbatOv_flags t s hlow hv hdur hinit hfree, State.ovFlagged_flag _,
        fun _ => State.get_raise_irqBit _ _ (by decide), State.sameRegs_ovFlagged _, State.ovFlagged_pstate _, hrecords.bc,
        hposts.up, hrecords.eng, hrecords.ltn, .of_mems hposts.mems⟩
  · refine ⟨_, exec_vbatOvEnd_ends t s hv hdur, State.flag_putZero _ _ _ (by decide), fun a ha => ?_⟩
    exact State.reg_put_ne _ _ _ _ _ (Ne.symm (List.ne_of_not_mem_cons ha))
  · by_cases hv : v ≤ 5800
    · rw [exec_vbatOv_rated t dur s hv, if_pos (by omega)] at hexec
      exact (Host.Outcome.next.inj hexec).symm
    · have hfault : exec (.vbatOv t v dur) s = .fault .overstress := if_pos (by omega)
      exact absurd (hfault.symm.trans hexec) nofun
  · by_cases hv : v ≤ 5800
    · have hnext : exec (.vbatOvEnd t v dur) s = .next (s.at t) :=
        (s.vbatStep_rated t _ hv).trans (congrArg Host.Outcome.next (if_pos hshort))
      exact (Host.Outcome.next.inj (hexec.symm.trans hnext))
    · have hfault : exec (.vbatOvEnd t v dur) s = .fault .overstress := if_pos (by omega)
      exact absurd (hfault.symm.trans hexec) nofun

end Sys2Proof.Machine

/-! ## A cold reset (R371, R372) -/

namespace Sys2Proof.Machine

/-! ### A cold reset -/

/-- What a cold reset keeps is kept before the keeper's ports are shown again. -/
def State.coldCells (s : State) : State :=
  let bb := Page.base .basecamp
  let r : State := { State.reset with
    now := s.now, pkg := s.pkg, fresh := s.fresh, out := s.out, pending := s.pending
    regs := s.regs.filter fun c => keepCell c.1
    held := s.held.filter fun c => c.1 / 0x1000 == 0x40001
    pulses := s.pulses.filter fun e => e.1 == bb
    conds := s.conds.filter fun e => e.1 == bb
    stampSec := s.stampSec.filter fun c => c.1 == (Page.base .therm) + THERM_SHUT_NS.off
    mbxRec := s.recordIcp ++ s.recordSlots
    therm := { tsb := s.therm.tsb, shutAt := s.therm.shutAt, restarts := s.therm.restarts, report := s.therm.report }
    nvmMem := s.nvmMem
    sec := s.sec.cold
    keeper := s.keeper
    bc := { s.bc with kickAt := none } }
  ((r.put .basecamp BC_PD_ON 0).put .basecamp BC_PD_RET 0).put .basecamp BC_STATUS_WDOG_RUN 0

theorem State.coldReset_eq (s : State) : s.coldReset = s.coldCells.keeperPorts := rfl

theorem cellGet_filter_dropped {α : Type} (l : List (Nat × α)) (f : Nat → Bool) {k : Nat} (h : f k = false) :
    cellGet (l.filter fun c => f c.1) k = none := by
  induction l with
  | nil => rfl
  | cons c l ih =>
    obtain ⟨a, v⟩ := c
    by_cases ha : a = k
    · subst ha
      simp [h, ih]
    · by_cases hf : f a = true <;> simp [hf, cellGet, ha, ih]

/-- A register that a cold reset does not keep reads its reset value. -/
theorem State.coldCells_reg (s : State) {a : Nat} (hkeep : keepCell a = false) (hbc : a / 0x1000 ≠ 0x40001) :
    s.coldCells.reg a = resetAt a := by
  have hne : ∀ off, off < 0x1000 → Page.basecamp.base + off ≠ a := by
    rintro off hoff rfl
    exact hbc (by show (0x40001000 + off) / 0x1000 = 0x40001; omega)
  unfold State.coldCells
  rw [State.reg_put_ne _ _ _ _ _ (hne _ (by decide)), State.reg_put_ne _ _ _ _ _ (hne _ (by decide)),
    State.reg_put_ne _ _ _ _ _ (hne _ (by decide))]
  exact congrArg (Option.getD · (resetAt a)) (cellGet_filter_dropped s.regs keepCell hkeep)

/-- The pages of the Narpa groups. -/
def npPages : List Page := (List.finRange 13).map Page.np

theorem npPage_mem (g : Fin 13) : Page.np g ∈ npPages := List.mem_map_of_mem (List.mem_finRange g)

theorem SamePages.npShowGroup {s u : State} {ps : List Page} (h : SamePages s u ps) {g : Fin 13} (hp : .np g ∈ ps) :
    SamePages s (u.npShowGroup g) ps :=
  (((h.put hp (f := NP_GRP_STATUS_PBA_WAIT) (by decide)).put hp (f := NP_GRP_STATUS_CHAIN_OPEN) (by decide)).put hp
    (f := NP_GRP_STATUS_RUN) (by decide)).put hp (f := BLK_STATE) (by decide)

theorem SamePages.npTo {s u : State} {ps : List Page} (h : SamePages s u ps) {q : NpIx} {st : Nat} (hp : npPage q ∈ ps) :
    SamePages s (u.npTo q st) ps := by
  have hlane := npLane_lt q
  exact (h.put hp (f := NP_STATUS_STATE (npLane q)) (by simp only [NP_STATUS_STATE]; omega)).npShowGroup hp

/-- What goes on while a supply rises: the memories and the Lanterns are left as they are. -/
structure KeepsLamps (s u : State) : Prop where
  mems : u.mems = s.mems
  ltn : u.ltn = s.ltn

theorem KeepsLamps.refl (s : State) : KeepsLamps s s := ⟨rfl, rfl⟩

theorem KeepsLamps.trans {s u v : State} (h : KeepsLamps s u) (k : KeepsLamps u v) : KeepsLamps s v :=
  ⟨k.mems.trans h.mems, k.ltn.trans h.ltn⟩

theorem KeepsLamps.ite {c : Prop} [Decidable c] {s u v : State} (hu : c → KeepsLamps s u) (hv : ¬ c → KeepsLamps s v) :
    KeepsLamps s (if c then u else v) := by
  split_ifs with h
  · exact hu h
  · exact hv h

theorem State.keepsLamps_put (s : State) (p : Page) (f : RF) (x : Nat) : KeepsLamps s (s.put p f x) := ⟨rfl, rfl⟩

theorem OnlyPosts.keepsLamps {s u : State} (h : OnlyPosts s u) : KeepsLamps s u := ⟨h.mems, h.ltn⟩

theorem State.keepsLamps_npTo (s : State) (q : NpIx) (st : Nat) : KeepsLamps s (s.npTo q st) :=
  ((((State.keepsLamps_put _ _ _ _).trans (State.keepsLamps_put _ _ _ _)).trans (State.keepsLamps_put _ _ _ _)).trans
    (State.keepsLamps_put _ _ _ _)).trans (State.keepsLamps_put _ _ _ _)

theorem State.keeperPorts_frame (s : State) : SamePages s s.keeperPorts npPages ∧ KeepsLamps s s.keeperPorts := by
  unfold State.keeperPorts
  refine List.foldlRecOn (motive := fun u => SamePages s u npPages ∧ KeepsLamps s u) _ _ ⟨.refl _ _, .refl s⟩ fun u hu p _ => ?_
  obtain ⟨hpages, hlamps⟩ := hu
  dsimp only
  split
  · next q _ =>
    generalize (if u.keeperServes q then NP_KEEPER else NP_OFF) = st
    exact ⟨.ite (fun _ => .ite (fun _ => hpages) fun _ => hpages.npTo (npPage_mem _)) fun _ => hpages,
      .ite (fun _ => .ite (fun _ => hlamps) fun _ => hlamps.trans (State.keepsLamps_npTo _ _ _)) fun _ => hlamps⟩
  · exact ⟨hpages, hlamps⟩

/-- The page of a register, and that the recorder does not move it. -/
theorem SamePages.get {s u : State} {ps : List Page} (h : SamePages s u ps) {q : Page} {g : RF} (hq : q ∉ ps)
    (hstor : q ≠ .stor) (hg : g.off < 0x1000) : u.get q g = s.get q g := by
  have hout : ∀ p ∈ ps, ¬ (p.base ≤ q.base + g.off ∧ q.base + g.off < p.base + 0x1000) := by
    rintro p hp ⟨hle, hlt⟩
    have hne : p ≠ q := fun e => hq (e ▸ hp)
    exact Page.addr_ne hne (a := q.base + g.off - p.base) (by omega) hg (by omega)
  have hrec : q.base + g.off ∉ recorderRegs := by
    simp only [recorderRegs, List.mem_cons, List.not_mem_nil, or_false, not_or]
    exact ⟨Page.addr_ne hstor hg (by decide), Page.addr_ne hstor hg (by decide), Page.addr_ne hstor hg (by decide)⟩
  unfold State.get
  rw [h _ hout hrec]

/-! ### Power-up begins (R355, R371) -/

/-- From `s` to `u` the first step of power-up has begun: of Basecamp only the switches, monitors and steps changed. -/
structure FirstStep (s u : State) : Prop where
  pages : SamePages s u [.basecamp]
  lamps : KeepsLamps s u
  get : ∀ g : RF, g.off ≠ BC_STATUS.off → g.off ≠ BC_RAIL_MON.off → u.get .basecamp g = s.get .basecamp g

theorem FirstStep.refl (s : State) : FirstStep s s := ⟨.refl _ _, .refl s, fun _ _ _ => rfl⟩

theorem FirstStep.trans {s u v : State} (h : FirstStep s u) (k : FirstStep u v) : FirstStep s v :=
  ⟨h.pages.trans k.pages, h.lamps.trans k.lamps, fun g hs hm => (k.get g hs hm).trans (h.get g hs hm)⟩

theorem FirstStep.ite {c : Prop} [Decidable c] {s u v : State} (hu : c → FirstStep s u) (hv : ¬ c → FirstStep s v) :
    FirstStep s (if c then u else v) := by
  split_ifs with h
  · exact hu h
  · exact hv h

theorem State.firstStep_put (s : State) (f : RF) (x : Nat) (h : f.off = BC_STATUS.off ∨ f.off = BC_RAIL_MON.off) :
    FirstStep s (s.put .basecamp f x) where
  pages := (SamePages.refl s _).put (List.mem_singleton_self _) (by rcases h with h | h <;> rw [h] <;> decide)
  lamps := State.keepsLamps_put _ _ _ _
  get g hs hm := State.get_put_off _ _ _ _ _ (by rcases h with h | h <;> rw [h] <;> [exact hs.symm; exact hm.symm])

theorem State.firstStep_modBc (s : State) (f : Bc → Bc) : FirstStep s (s.modBc f) where
  pages := (SamePages.refl s _).hidden (State.modBc_regs _ _)
  lamps := ⟨rfl, rfl⟩
  get _ _ _ := State.modBc_get _ _ _ _

/-- The first step is recorded as on, starts the crystal's windows, and waits for the next. -/
theorem State.firstStep_stepDone (s : State) (h : s.bc.step = 0) : FirstStep s s.stepDone := by
  unfold State.stepDone
  extract_lets k recorded good rails started
  have hk : k = 0 := h
  have hgood : FirstStep s good := (s.firstStep_modBc _).trans (State.firstStep_put _ (BC_PG k) 1 (.inl rfl))
  have hrails : FirstStep s rails :=
    List.foldlRecOn (motive := FirstStep s) _ _ hgood fun _ hu _ _ => hu.trans (State.firstStep_put _ _ _ (.inr rfl))
  have hstarted : FirstStep s started := by
    refine .ite (fun _ => hrails.trans (State.firstStep_modBc _ _)) fun _ => ?_
    rw [if_neg (by omega)]
    exact hrails
  rw [if_neg (by omega)]
  exact hstarted.trans (State.firstStep_modBc _ _)

theorem State.firstStep_stepBegin (s : State) (h : s.bc.step = 0) : FirstStep s s.stepBegin := by
  unfold State.stepBegin
  extract_lets k begun
  have hbegun : FirstStep s begun := (s.firstStep_put (BC_EN k) 1 (.inl rfl)).trans (State.firstStep_modBc _ _)
  have hstep : begun.bc.step = 0 := by
    unfold begun
    rw [State.modBc_bc, State.put_bc]
    exact h
  split_ifs
  · exact .refl s
  · exact hbegun.trans (begun.firstStep_stepDone hstep)
  · exact hbegun

/-! ### The power state -/

/-- A power state is entered, and its event raised. -/
def State.pstateEntered (s : State) (st : Nat) : State :=
  let s := (s.put .basecamp BLK_STATE st).raise .basecamp BC_EV_PSTATE
  if st = PS_RUN then s.modBc fun b => { b with runAt := s.now } else s

theorem State.pstateTo_eq (s : State) (st : Nat) : s.pstateTo st =
    if s.pstate = st then s else (s.pstateEntered st).mbxFinishAll (· == .power st) ST_OK 0 0 := rfl

theorem State.pstate_pstateTo (s : State) {st : Nat} (hst : st < 256) : (s.pstateTo st).pstate = st := by
  rw [State.pstateTo_eq]
  split_ifs with h
  · exact h
  · have hentered : (s.pstateEntered st).get .basecamp BLK_STATE = st := by
      have hraised : ((s.put .basecamp BLK_STATE st).raise .basecamp BC_EV_PSTATE).get .basecamp BLK_STATE = st := by
        rw [State.get_raise _ _ _ _ _ (by decide), State.get_put_same _ _ _ _ (by decide)]
        exact Nat.mod_eq_of_lt hst
      unfold State.pstateEntered
      split_ifs
      · exact hraised
      · exact hraised
    exact ((State.onlyEvents_mbxFinishAll _ _ _ _ _).get _ _ (by decide) (by decide)).trans hentered

/-- A power state other than RUN is entered with its register, its event, and what waits for it. -/
theorem State.pstateTo_frame (s : State) {st : Nat} (hst : st ≠ PS_RUN) : OnlyPosts s (s.pstateTo st) ∧
    SamePages s (s.pstateTo st) [.basecamp, .mbx] ∧ ∀ g : RF, QuietReg .basecamp g → g.off ≠ BLK_STATE.off →
      g.off ∉ eventOffs → (s.pstateTo st).get .basecamp g = s.get .basecamp g := by
  have hbc : Page.basecamp ∈ [Page.basecamp, .mbx] := by decide
  have hentered : s.pstateEntered st = (s.put .basecamp BLK_STATE st).raise .basecamp BC_EV_PSTATE := if_neg hst
  rw [State.pstateTo_eq, hentered]
  split_ifs with h
  · exact ⟨.refl s, .refl _ _, fun _ _ _ _ => rfl⟩
  · refine ⟨((s.onlyPosts_put _ _ _).trans (State.onlyPosts_raise _ _ _)).trans (State.onlyPosts_mbxFinishAll _ _ _ _ _),
      (((SamePages.refl s _).put hbc (by decide)).raise hbc).mbxFinishAll (by decide), fun g hquiet hstate hoff => ?_⟩
    rw [(State.onlyEvents_mbxFinishAll _ _ _ _ _).get _ _ hquiet.2.1 hoff, State.get_raise _ _ _ _ _ hquiet,
      State.get_put_off _ _ _ _ _ hstate.symm]

/-! ### Power-up -/

/-- What a cause of power-up is recorded as, before the power state is entered. -/
def State.upCaused (s : State) (cause : Nat) : State :=
  ((s.put .basecamp BC_RST_CAUSE_CAUSE cause).put .basecamp BC_STATUS_HOLD_UP 0).modBc fun b => { b with
    step := 0, delayAt := none, down := none, lossSupply := false, lossTherm := false, supplyWait := false
    wakeHeld := false, wakePend := false }

theorem State.goUp_eq (s : State) (cause : Nat) : s.goUp cause =
    ((s.upCaused cause).pstateTo PS_SEQ_UP).keeperWake.stepBegin := rfl

theorem State.upCaused_step (s : State) (cause : Nat) : (s.upCaused cause).bc.step = 0 := rfl

theorem State.samePages_upCaused (s : State) (cause : Nat) : SamePages s (s.upCaused cause) [.basecamp] := by
  have hbc : Page.basecamp ∈ [Page.basecamp] := List.mem_singleton_self _
  have hput := ((SamePages.refl s _).put hbc (f := BC_RST_CAUSE_CAUSE) (x := cause) (by decide)).put hbc
    (f := BC_STATUS_HOLD_UP) (x := 0) (by decide)
  exact hput.hidden (State.modBc_regs _ _)

theorem State.upCaused_cause (s : State) {cause : Nat} (h : cause < 256) :
    (s.upCaused cause).get .basecamp BC_RST_CAUSE_CAUSE = cause := by
  unfold State.upCaused
  rw [State.modBc_get, State.get_put_off _ _ _ _ _ (by decide), State.get_put_same _ _ _ _ (by decide)]
  exact Nat.mod_eq_of_lt h

theorem State.keepsLamps_upCaused (s : State) (cause : Nat) : KeepsLamps s (s.upCaused cause) := ⟨rfl, rfl⟩

theorem State.keepsLamps_keeperWake (s : State) : KeepsLamps s s.keeperWake := ⟨rfl, rfl⟩
theorem State.keeperWake_bc (s : State) : s.keeperWake.bc = s.bc := rfl

theorem State.samePages_keeperWake (s : State) : SamePages s s.keeperWake [.basecamp] := by
  unfold State.keeperWake
  extract_lets ports
  have hplay : SamePages s { s with keeper := { s.keeper with play := ports, first := none, latch := [] } } [.basecamp] :=
    (SamePages.refl s _).hidden rfl
  exact hplay.put (List.mem_singleton_self _) (by decide)

theorem State.get_keeperWake (s : State) {g : RF} (h : g.off ≠ BC_KEEPER_SENT.off) :
    s.keeperWake.get .basecamp g = s.get .basecamp g := by
  unfold State.keeperWake
  rw [State.get_put_off _ _ _ _ _ h.symm]
  rfl

/-- What power-up begins with: the power state and the cause shown, and no page moved but Basecamp and MBX. -/
theorem State.goUp_frame (s : State) {cause : Nat} (hcause : cause < 256) : (s.goUp cause).pstate = PS_SEQ_UP ∧
    (s.goUp cause).get .basecamp BC_RST_CAUSE_CAUSE = cause ∧ SamePages s (s.goUp cause) [.basecamp, .mbx] ∧
    KeepsLamps s (s.goUp cause) := by
  obtain ⟨hposts, hpages, hget⟩ := (s.upCaused cause).pstateTo_frame (st := PS_SEQ_UP) (by decide)
  have hstate := (s.upCaused cause).pstate_pstateTo (st := PS_SEQ_UP) (by decide)
  have hbc : ((s.upCaused cause).pstateTo PS_SEQ_UP).keeperWake.bc.step = 0 := by
    rw [State.keeperWake_bc, hposts.bc, State.upCaused_step]
  have hfirst := State.firstStep_stepBegin _ hbc
  rw [State.goUp_eq]
  refine ⟨?_, ?_, ?_, ?_⟩
  · unfold State.pstate
    rw [hfirst.get _ (by decide) (by decide), State.get_keeperWake _ (by decide)]
    exact hstate
  · rw [hfirst.get _ (by decide) (by decide), State.get_keeperWake _ (by decide),
      hget _ (by decide) (by decide) (by decide), s.upCaused_cause hcause]
  · have hup : SamePages s (s.upCaused cause) [.basecamp, .mbx] := (s.samePages_upCaused cause).mono (by decide)
    exact (hup.trans hpages).trans (((State.samePages_keeperWake _).trans hfirst.pages).mono (by decide))
  · exact ((s.keepsLamps_upCaused cause).trans hposts.keepsLamps).trans
      ((State.keepsLamps_keeperWake _).trans hfirst.lamps)

/-! ### The statement -/

theorem State.coldCells_units (s : State) : (∀ n : Fin 4, s.coldCells.engState n = E_OFF) ∧
    (∀ k : Fin 2, s.coldCells.scnState k = E_OFF) ∧ ∀ x : Fin 6, s.coldCells.get (.ltn x) LTN_STATUS_WIN = 0 := by
  obtain ⟨heng, hscn, hltn⟩ := resetAt_units
  have hkeep : (∀ n : Fin 4, keepCell ((Page.eng n).base + BLK_STATE.off) = false ∧
      ((Page.eng n).base + BLK_STATE.off) / 0x1000 ≠ 0x40001) ∧
      (∀ k : Fin 2, keepCell ((Page.scn k).base + BLK_STATE.off) = false ∧
        ((Page.scn k).base + BLK_STATE.off) / 0x1000 ≠ 0x40001) ∧
      ∀ x : Fin 6, keepCell ((Page.ltn x).base + LTN_STATUS_WIN.off) = false ∧
        ((Page.ltn x).base + LTN_STATUS_WIN.off) / 0x1000 ≠ 0x40001 := by decide
  obtain ⟨hkeng, hkscn, hkltn⟩ := hkeep
  refine ⟨fun n => ?_, fun k => ?_, fun x => ?_⟩
  · exact (congrArg (Word.field · BLK_STATE) (s.coldCells_reg (hkeng n).1 (hkeng n).2)).trans (heng n)
  · exact (congrArg (Word.field · BLK_STATE) (s.coldCells_reg (hkscn k).1 (hkscn k).2)).trans (hscn k)
  · exact (congrArg (Word.field · LTN_STATUS_WIN) (s.coldCells_reg (hkltn x).1 (hkltn x).2)).trans (hltn x).2

theorem State.coldCells_lamps (s : State) : s.coldCells.mems = [[], [], s.nvmMem, s.keeper.store] ∧
    s.coldCells.ltn = State.reset.ltn := by
  unfold State.coldCells
  rw [State.mems_put, State.mems_put, State.mems_put, State.put_ltn, State.put_ltn, State.put_ltn]
  exact ⟨rfl, rfl⟩

theorem State.coldCells_domains (s : State) : s.coldCells.get .basecamp BC_PD_ON = 0 ∧ s.coldCells.get .basecamp BC_PD_RET = 0 := by
  unfold State.coldCells
  refine ⟨?_, ?_⟩
  · rw [State.get_put_off _ _ _ _ _ (by decide), State.get_put_off _ _ _ _ _ (by decide), State.get_put_same _ _ _ _ (by decide),
      Nat.zero_mod]
  · rw [State.get_put_off _ _ _ _ _ (by decide), State.get_put_same _ _ _ _ (by decide), Nat.zero_mod]

theorem npPages_ne : (∀ n : Fin 4, Page.eng n ∉ npPages ∧ Page.eng n ∉ [Page.basecamp, .mbx]) ∧
    (∀ k : Fin 2, Page.scn k ∉ npPages ∧ Page.scn k ∉ [Page.basecamp, .mbx]) ∧
    (∀ x : Fin 6, Page.ltn x ∉ npPages ∧ Page.ltn x ∉ [Page.basecamp, .mbx]) ∧ Page.basecamp ∉ npPages := by decide

theorem State.rstWrite_key (s : State) : s.rstWrite .mp 0xC01D = s.coldReset.goUp 0x03 :=
  (if_neg (by decide)).trans (if_pos rfl)

theorem State.rstWrite_other (s : State) {v : Nat} (h : v ≠ 0xC01D) : s.rstWrite .mp v = s :=
  (if_neg (by decide)).trans (if_neg h)

theorem State.rstWrite_path (s : State) {path : Path} (v : Nat) (h : path ≠ .mp) : s.rstWrite path v =
    s.err .basecamp (pathCode path) BC_RST.off ST_STATE_REJECT BC_PATH := if_pos h

/-- After a cold reset and what power-up begins with, a register of another page reads as the reset left it. -/
theorem State.get_coldUp (s : State) {cause : Nat} (hcause : cause < 256) {q : Page} {g : RF} (hnp : q ∉ npPages)
    (hbc : q ∉ [Page.basecamp, .mbx]) (hstor : q ≠ .stor) (hg : g.off < 0x1000) :
    (s.coldReset.goUp cause).get q g = s.coldCells.get q g := by
  obtain ⟨-, -, hpages, -⟩ := s.coldReset.goUp_frame hcause
  rw [hpages.get hbc hstor hg, State.coldReset_eq, s.coldCells.keeperPorts_frame.1.get hnp hstor hg]

theorem State.coldUp_lamps (s : State) {cause : Nat} (hcause : cause < 256) :
    KeepsLamps s.coldCells (s.coldReset.goUp cause) := by
  obtain ⟨-, -, -, hlamps⟩ := s.coldReset.goUp_frame hcause
  rw [State.coldReset_eq] at hlamps ⊢
  exact s.coldCells.keeperPorts_frame.2.trans hlamps

/-- Settles O59: the key is a cold reset and then power-up; what neither keeps reads as at reset. -/
theorem systemResetIsCold : Obligations.SystemResetIsCold := by
  refine ⟨fun s => ?_, fun s v h => s.rstWrite_other h, fun s path v h => ?_⟩
  · rw [State.rstWrite_key]
    obtain ⟨hstate, hcause, -, -⟩ := s.coldReset.goUp_frame (cause := 0x03) (by decide)
    obtain ⟨hmems, hltn⟩ := s.coldUp_lamps (cause := 0x03) (by decide)
    obtain ⟨hcellMems, hcellLtn⟩ := s.coldCells_lamps
    obtain ⟨heng, hscn, hwin⟩ := s.coldCells_units
    obtain ⟨hnpEng, hnpScn, hnpLtn, hnpBc⟩ := npPages_ne
    obtain ⟨hon, hret⟩ := s.coldCells_domains
    have hports := s.coldCells.keeperPorts_frame.1
    refine ⟨hstate, hcause, ?_, ?_, fun x => ?_, fun n => ?_, fun k => ?_, fun a => ?_⟩
    · rw [State.coldReset_eq, hports.get hnpBc nofun (by decide), hon]
    · rw [State.coldReset_eq, hports.get hnpBc nofun (by decide), hret]
    · rw [State.lanternDark_iff]
      refine ⟨?_, ?_⟩
      · rw [hltn, hcellLtn]
        exact State.reset_killN x
      · rw [s.get_coldUp (by decide) (hnpLtn x).1 (hnpLtn x).2 nofun (by decide), hwin x]
    · exact (s.get_coldUp (by decide) (hnpEng n).1 (hnpEng n).2 nofun (by decide)).trans (heng n)
    · exact (s.get_coldUp (by decide) (hnpScn k).1 (hnpScn k).2 nofun (by decide)).trans (hscn k)
    · simp only [State.mems, List.cons.injEq, and_true] at hmems hcellMems
      obtain ⟨htcm, hfsram, hnvm, -⟩ := hmems
      obtain ⟨hcellTcm, hcellFsram, hcellNvm, -⟩ := hcellMems
      rw [htcm, hfsram, hnvm, hcellTcm, hcellFsram, hcellNvm]
      exact ⟨rfl, rfl, rfl⟩
  · rw [s.rstWrite_path v h]
    exact ⟨State.sameRegs_err _ _ _ _ _ _, State.sameOnChip_err _ _ _ _ _ _⟩

end Sys2Proof.Machine

/-! ## The commands of the local clock (R271–R284) -/

namespace Sys2Proof.Machine

/-! ### The writes and reads that reach the clock -/

theorem exec_timeIncrWrite (t : Nat) (path : Path) (v : Nat) (s : State) :
    exec (.timeIncrWrite t path v) s = .next ((s.at t).regBy path .time TIME_INCR v) := rfl
theorem exec_timeAdjSet (t : Nat) (path : Path) (s : State) :
    exec (.timeAdjSet t path) s = .next ((s.at t).regBy path .time TIME_ADJ 1) := rfl
theorem exec_timeAdjStep (t : Nat) (path : Path) (s : State) :
    exec (.timeAdjStep t path) s = .next ((s.at t).regBy path .time TIME_ADJ 2) := rfl
theorem exec_timeSlewWrite (t : Nat) (path : Path) (v : Nat) (s : State) :
    exec (.timeSlewWrite t path v) s = .next ((s.at t).regBy path .time TIME_SLEW v) := rfl
theorem exec_pdelayWrite (t : Nat) (path : Path) (p : Fin 4) (v : Nat) (s : State) :
    exec (.pdelayWrite t path p v) s = .next ((s.at t).regBy path .time (TIME_PDELAY p.val) v) := rfl
theorem exec_txqPush (t : Nat) (path : Path) (p : Fin 4) (v : Nat) (s : State) :
    exec (.txqPush t path p v) s = .next ((s.at t).regBy path .time (TIME_TXQ_PUSH3 p.val) v) := rfl
theorem exec_txqPop (t : Nat) (path : Path) (p : Fin 4) (s : State) :
    exec (.txqPop t path p) s = .next ((s.at t).getBy path .time (TIME_TXQ_W3 p.val)) := rfl

theorem State.blockWrite_timeIncr (s : State) (path : Path) (v : Nat) :
    s.blockWrite path .time TIME_INCR.off v = s.timeIncrWrite v :=
  show s.timeWrite path TIME_INCR.off v = _ from if_pos rfl

theorem State.blockWrite_timeAdj (s : State) (path : Path) (v : Nat) :
    s.blockWrite path .time TIME_ADJ.off v = s.timeAdjWrite path v :=
  show s.timeWrite path TIME_ADJ.off v = _ from
    (if_neg (by decide)).trans ((if_neg (by decide)).trans (if_pos rfl))

theorem State.blockWrite_timeSlew (s : State) (path : Path) (v : Nat) :
    s.blockWrite path .time TIME_SLEW.off v = s.timeSlewWrite path v :=
  show s.timeWrite path TIME_SLEW.off v = _ from
    (if_neg (by decide)).trans ((if_neg (by decide)).trans ((if_neg (by decide)).trans (if_pos rfl)))

theorem State.blockWrite_timePdelay (s : State) (path : Path) (p : Fin 4) (v : Nat) :
    s.blockWrite path .time (TIME_PDELAY p.val).off v = s.pdelayWrite p.val v := by
  have hport : (0xB0 + 0x4 * p.val - 0xB0) / 4 = p.val := by omega
  calc s.timeWrite path (0xB0 + 0x4 * p.val) v
      = s.pdelayWrite ((0xB0 + 0x4 * p.val - 0xB0) / 4) v :=
        (if_neg (show ¬ 0xB0 + 0x4 * p.val = 0x48 by omega)).trans <|
          (if_neg (show ¬ 0xB0 + 0x4 * p.val = 0x4C by omega)).trans <|
          (if_neg (show ¬ 0xB0 + 0x4 * p.val = 0x6C by omega)).trans <|
          (if_neg (show ¬ 0xB0 + 0x4 * p.val = 0x70 by omega)).trans <| if_pos (by omega)
    _ = s.pdelayWrite p.val v := by rw [hport]

theorem State.blockWrite_txqPush (s : State) (path : Path) (p : Fin 4) (v : Nat) :
    s.blockWrite path .time (TIME_TXQ_PUSH3 p.val).off v = s.txqPushWrite path p 3 (BitVec.ofNat 32 v) := by
  have hport : (0x14C + 0x10 * p.val - 0x140) / 0x10 = p.val := by omega
  have hword : (0x14C + 0x10 * p.val) % 0x10 / 4 = 3 := by omega
  calc s.timeWrite path (0x14C + 0x10 * p.val) v
      = (match finOf 4 ((0x14C + 0x10 * p.val - 0x140) / 0x10) with
        | none => s
        | some q => s.txqPushWrite path q ((0x14C + 0x10 * p.val) % 0x10 / 4) (BitVec.ofNat 32 v)) :=
        (if_neg (show ¬ 0x14C + 0x10 * p.val = 0x48 by omega)).trans <|
          (if_neg (show ¬ 0x14C + 0x10 * p.val = 0x4C by omega)).trans <|
          (if_neg (show ¬ 0x14C + 0x10 * p.val = 0x6C by omega)).trans <|
          (if_neg (show ¬ 0x14C + 0x10 * p.val = 0x70 by omega)).trans <| (if_neg (by omega)).trans <| if_pos (by omega)
    _ = s.txqPushWrite path p 3 (BitVec.ofNat 32 v) := by rw [hport, hword, finOf_val]

theorem State.readSide_txqPop (s : State) (path : Path) (p : Fin 4) :
    s.readSide path .time (TIME_TXQ_W3 p.val).off = s.txqPop p := by
  have hport : (0x10C + 0x10 * p.val - 0x100) / 0x10 = p.val := by omega
  calc s.readSide path .time (0x10C + 0x10 * p.val)
      = (match finOf 4 ((0x10C + 0x10 * p.val - 0x100) / 0x10) with
        | some q => s.txqPop q
        | none => s) :=
        (if_neg (show ¬ 0x10C + 0x10 * p.val = 0x50 by omega)).trans <|
          (if_neg (show ¬ 0x10C + 0x10 * p.val = 0x94 by omega)).trans <| if_pos (by omega)
    _ = s.txqPop p := by rw [hport, finOf_val]

/-! ### What they do -/

/-- The clock with an adjustment to take at its next tick (R274). -/
def State.adjSet (s : State) (a : ClockAdj) : State := { s with clock := { s.clock with adj := some a } }

theorem State.timeAdjWrite_set (s : State) (path : Path) (hns : s.get .time TIME_SET_NS < 1000000000) :
    s.timeAdjWrite path 1 = s.adjSet
      (.set (bitsOf (s.get .time TIME_SET_HI) 0 16 * 2 ^ 32 + s.get .time TIME_SET_SEC) (s.get .time TIME_SET_NS)) :=
  if_neg (Nat.not_le.mpr hns)

/-- A step forward never takes the clock before 0. -/
theorem State.timeAdjWrite_step (s : State) (path : Path) (hd : 0 ≤ signed 32 (s.get .time TIME_STEP_OFS)) :
    s.timeAdjWrite path 2 = s.adjSet (.step (signed 32 (s.get .time TIME_STEP_OFS))) :=
  if_neg (Int.not_lt.mpr (Int.add_nonneg (Int.natCast_nonneg _) (Int.mul_nonneg hd (by decide))))

/-- The clock with a slew of `o` ns to run (R275). -/
def State.slewSet (s : State) (o : Int) : State :=
  { s with clock := { s.clock with slewRem := o.natAbs * 2 ^ 32, slewNeg := decide (o < 0) } }

theorem State.timeSlewWrite_taken (s : State) (path : Path) {v : Nat} (hfree : s.flag .time TIME_STATUS_HOLDOFF = false)
    (ho : (signed 32 v).natAbs ≤ 10000000) :
    s.timeSlewWrite path v = (s.slewSet (signed 32 v)).put .time TIME_STATUS_SLEWING 1 := by
  unfold State.timeSlewWrite
  rw [hfree]
  exact if_neg (Nat.not_lt.mpr ho)

theorem State.flag_putOne (s : State) (p : Page) (f : RF) (hf : f.Fits) (hw : f.w ≠ 0) : (s.put p f 1).flag p f = true := by
  unfold State.flag
  rw [State.get_put_same _ _ _ _ hf, Nat.mod_eq_of_lt (Nat.one_lt_two_pow hw)]
  rfl

theorem State.get_withClock (s : State) (c : Clock) (p : Page) (f : RF) : ({ s with clock := c } : State).get p f = s.get p f := rfl

/-- The path delay `v` of port `p` shown, and the port known to have had one (R278). -/
def State.pdelayShown (s : State) (p : Fin 4) (v : Nat) : State :=
  let shown := s.put .time (TIME_PDELAY p.val) (bitsOf v 0 24)
  if s.clock.pdelaySeen.contains p.val then shown
  else { shown with clock := { shown.clock with pdelaySeen := shown.clock.pdelaySeen ++ [p.val] } }

theorem State.get_pdelayShown (s : State) (p : Fin 4) (v : Nat) :
    (s.pdelayShown p v).get .time (TIME_PDELAY p.val) = bitsOf v 0 24 := by
  have hkept : (s.put .time (TIME_PDELAY p.val) (bitsOf v 0 24)).get .time (TIME_PDELAY p.val) = bitsOf v 0 24 :=
    (State.get_put_same _ _ _ _ (show 0 + 32 ≤ 32 by decide)).trans
      (Nat.mod_eq_of_lt ((bitsOf_lt v 0 24).trans (show 2 ^ 24 < 2 ^ 32 by decide)))
  unfold State.pdelayShown
  dsimp only
  split
  · exact hkept
  · exact (State.get_withClock _ _ _ _).trans hkept

/-- A path step: its port and size are shown, counted and raised (R278). -/
def State.pathStepped (s : State) (p : Nat) (d : Int) : State :=
  ((s.put .time TIME_PATH_INFO (p * 2 ^ 28 + unsigned 28 d)).bump .time TIME_PATH_STEP_CNT).raise .time 1

/-- The hold-off of `h` ms that a path step begins (R278). -/
def State.holdoffFor (s : State) (h : Nat) : State :=
  ({ s with clock := { s.clock with holdEnd := some (s.now + msU h) } } : State).put .time TIME_STATUS_HOLDOFF 1

theorem State.get_put_ne_pdelay (s : State) (p : Fin 4) (f : RF) (x : Nat) (hf : f.off < 0xB0) :
    (s.put .time f x).get .time (TIME_PDELAY p.val) = s.get .time (TIME_PDELAY p.val) :=
  s.get_put_off .time f _ x (Nat.ne_of_lt (Nat.lt_add_right _ hf))

theorem State.get_pathStepped (s : State) (p : Fin 4) (d : Int) :
    (s.pathStepped p.val d).get .time (TIME_PDELAY p.val) = s.get .time (TIME_PDELAY p.val) := by
  have hquiet : ∀ p : Fin 4, QuietReg .time (TIME_PDELAY p.val) := by decide
  have hcount : (0x188 : Nat) ≠ 0xB0 + 4 * p.val := by omega
  unfold State.pathStepped
  rw [State.get_raise _ _ _ _ _ (hquiet p), State.get_bump_ne _ _ _ _ _ fun h => hcount (Nat.add_left_cancel h),
    State.get_put_ne_pdelay _ _ _ _ (by decide)]

theorem State.pdelayWrite_eq (s : State) (p : Fin 4) (v : Nat) (d : Int)
    (hd : d = (bitsOf v 0 24 : Int) - s.get .time (TIME_PDELAY p.val)) : s.pdelayWrite p.val v =
    (if s.clock.pdelaySeen.contains p.val ∧ (s.pdelayShown p v).get .time TIME_PDELAY_THR * 16 < d.natAbs then
      if ((s.pdelayShown p v).pathStepped p.val d).get .time TIME_CFG_SRC_PORT = p.val ∧
          ((s.pdelayShown p v).pathStepped p.val d).get .time TIME_PATH_HOLDOFF ≠ 0 then
        if (((s.pdelayShown p v).pathStepped p.val d).holdoffFor
            (((s.pdelayShown p v).pathStepped p.val d).get .time TIME_PATH_HOLDOFF)).timeState = 0 then
          ((s.pdelayShown p v).pathStepped p.val d).holdoffFor
            (((s.pdelayShown p v).pathStepped p.val d).get .time TIME_PATH_HOLDOFF)
        else (((s.pdelayShown p v).pathStepped p.val d).holdoffFor
            (((s.pdelayShown p v).pathStepped p.val d).get .time TIME_PATH_HOLDOFF)).put .time BLK_STATE 3
      else (s.pdelayShown p v).pathStepped p.val d
    else s.pdelayShown p v) := by
  subst hd
  unfold State.pdelayWrite State.holdoffFor State.pathStepped State.pdelayShown
  rfl

/-- A path delay is kept, whether or not it is a path step (R278). -/
theorem State.get_pdelayWrite (s : State) (p : Fin 4) (v : Nat) :
    (s.pdelayWrite p.val v).get .time (TIME_PDELAY p.val) = bitsOf v 0 24 := by
  have hstep (d : Int) : ((s.pdelayShown p v).pathStepped p.val d).get .time (TIME_PDELAY p.val) = bitsOf v 0 24 :=
    (State.get_pathStepped _ p d).trans (s.get_pdelayShown p v)
  have hhold (u : State) (h : Nat) : (u.holdoffFor h).get .time (TIME_PDELAY p.val) = u.get .time (TIME_PDELAY p.val) :=
    State.get_put_ne_pdelay _ p _ _ (by decide)
  rw [s.pdelayWrite_eq p v _ rfl]
  split_ifs
  · exact (hhold _ _).trans (hstep _)
  · exact (State.get_put_ne_pdelay _ p _ _ (by decide)).trans ((hhold _ _).trans (hstep _))
  · exact hstep _
  · exact s.get_pdelayShown p v

theorem State.txqPush_queue (s : State) (p : Fin 4) (e : Vector Word 4) (hroom : s.clock.txq[p].length < 16) :
    (s.txqPush p e).clock.txq[p] = s.clock.txq[p] ++ [e] := by
  have hclock : (s.txqPush p e).clock = { s.clock with txq := s.clock.txq.set p (s.clock.txq[p] ++ [e]) } := by
    unfold State.txqPush
    rw [if_neg (by omega)]
    dsimp only
    split
    · rw [(State.onlyRecords_raise _ _ _).clock, State.put_clock]
    · rw [State.put_clock]
  exact (congrArg (fun c : Clock => c.txq[p]) hclock).trans (Vector.getElem_set_self _)

theorem State.txqPushWrite_last (s : State) (path : Path) (p : Fin 4) (v : Word) (hport : s.boundaryPort p = false) :
    s.txqPushWrite path p 3 v = s.txqPush p #v[s.clock.push[p][0] ||| 1, s.clock.push[p][1], s.clock.push[p][2], v] := by
  unfold State.txqPushWrite
  rw [hport]
  rfl

theorem State.txqPop_queue (s : State) (p : Fin 4) {e : Vector Word 4} {rest : List (Vector Word 4)}
    (hqueue : s.clock.txq[p] = e :: rest) : (s.txqPop p).clock.txq[p] = rest := by
  have hclock : (s.txqPop p).clock = { s.clock with txq := s.clock.txq.set p rest } := by
    unfold State.txqPop
    rw [hqueue]
    dsimp only
    rw [State.put_clock]
  exact (congrArg (fun c : Clock => c.txq[p]) hclock).trans (Vector.getElem_set_self _)

/-! ### The events of the clock (R277, R278, R283, R284) -/

theorem exec_freerun_due (t : Nat) (s : State) (hdom : (s.at t).domOn PD_NOC = true) :
    exec (.freerun t) s = .next (s.at t).freerun := congrArg Host.Outcome.next (if_pos hdom)

/-- The clock left without updates (R277). -/
def State.freeClock (s : State) : State :=
  ({ s with clock := { s.clock with servoExpired := true } } : State).put .time TIME_STATUS_FREERUN 1

theorem State.freerun_due (s : State) {f : Nat} (hfrom : s.clock.servoFrom = some f) (hfirst : s.clock.servoExpired = false)
    (hstate : s.timeState ≠ 0) (hdue : f + msU (s.get .time TIME_SERVO_TMO) ≤ s.now) (hwaits : s.waits servoWaits = false) :
    s.freerun = (if (s.freeClock.bump .time TIME_FREERUN_CNT).timeState = 1 then
      (s.freeClock.bump .time TIME_FREERUN_CNT).put .time BLK_STATE 2 else s.freeClock.bump .time TIME_FREERUN_CNT).raise .time 0 := by
  unfold State.freerun
  rw [hfrom]
  dsimp only
  rw [if_neg]
  · rfl
  · rw [hfirst, hwaits]
    simp only [hstate, Bool.false_eq_true, or_false, false_or]
    omega

theorem State.freerun_flag (s : State) {f : Nat} (hfrom : s.clock.servoFrom = some f) (hfirst : s.clock.servoExpired = false)
    (hstate : s.timeState ≠ 0) (hdue : f + msU (s.get .time TIME_SERVO_TMO) ≤ s.now) (hwaits : s.waits servoWaits = false) :
    s.freerun.clock.servoExpired = true ∧ s.freerun.flag .time TIME_STATUS_FREERUN = true := by
  rw [s.freerun_due hfrom hfirst hstate hdue hwaits]
  have hshown : (s.freeClock.bump .time TIME_FREERUN_CNT).get .time TIME_STATUS_FREERUN = 1 := by
    rw [State.get_bump_ne _ _ _ _ _ (by decide)]
    exact State.get_put_same _ _ _ _ (by decide)
  constructor
  · rw [(State.onlyRecords_raise _ _ _).clock]
    split <;> rfl
  · unfold State.flag
    rw [State.get_raise _ _ _ _ _ (by decide)]
    split
    · rw [State.get_put_off _ _ _ _ _ (by decide), hshown]
      rfl
    · rw [hshown]
      rfl

theorem exec_holdoffEnd_noc (t : Nat) (s : State) (hdom : (s.at t).domOn PD_NOC = true) :
    exec (.holdoffEnd t) s = .next (s.at t).holdoffEnd := congrArg Host.Outcome.next (if_pos hdom)

theorem State.timeSyncOrFree_clock (s : State) : s.timeSyncOrFree.clock = s.clock := by
  unfold State.timeSyncOrFree
  dsimp only
  split <;> rfl

theorem State.holdoffEnd_due (s : State) {e : Nat} (hend : s.clock.holdEnd = some e) (hdue : e ≤ s.now) :
    s.holdoffEnd.clock.holdEnd = none := by
  unfold State.holdoffEnd
  rw [hend]
  dsimp only
  rw [if_neg (Nat.not_lt.mpr hdue), (State.onlyRecords_raise _ _ _).clock, State.timeSyncOrFree_clock]

theorem exec_ppsOut_due (t : Nat) (s : State) (hdom : (s.at t).domOn PD_NOC = true)
    (hen : (s.at t).flag .time TIME_CFG_PPSOUT_EN = true) (hstate : (s.at t).timeState ≠ 0) (hdue : (s.at t).ppsDue = true) :
    exec (.ppsOut t) s = .next { s.at t with clock := { (s.at t).clock with
      ppsOut := true, ppsEnd := some ((s.at t).now + msU ((s.at t).get .time TIME_PPS_WIDTH)) } } :=
  congrArg Host.Outcome.next (if_pos ⟨hdom, hen, hstate, hdue⟩)

theorem exec_ppsOutEnd_due (t : Nat) (s : State) {e : Nat} (hend : (s.at t).clock.ppsEnd = some e) (hdue : e ≤ (s.at t).now) :
    exec (.ppsOutEnd t) s = .next { s.at t with clock := { (s.at t).clock with ppsOut := false, ppsEnd := none } } := by
  refine congrArg Host.Outcome.next ?_
  dsimp only
  rw [hend]
  exact if_pos hdue

/-- An edge of the PPS input, time-stamped (R284). -/
def State.ppsStamped (s : State) : State :=
  ({ s with clock := { s.clock with ppsInLast := some s.now } } : State).stamp .time TIME_PPSIN_NS

/-- The error of an edge against the nearest second of the clock. -/
def State.ppsError (s : State) : Int := if s.localNs < 500000000 then s.localNs else (s.localNs : Int) - 1000000000

/-- An edge that is taken: its time and error are shown (R284). -/
def State.ppsTaken (s : State) : State :=
  ((s.ppsStamped.put .time TIME_PPSIN_ERR (unsigned 32 s.ppsStamped.ppsError)).put .time TIME_STATUS_PPSIN_VALID 1).raise .time 8

theorem exec_ppsIn (t : Nat) (falling : Bool) (s : State) : exec (.ppsIn t falling) s = .next
    (if !(s.at t).domOn PD_NOC ∨ !(s.at t).flag .time TIME_CFG_PPSIN_EN ∨ (s.at t).flag .time TIME_CFG_PPSIN_POL ≠ falling then
      s.at t
    else if (s.at t).clock.ppsInLast.any fun l => decide ((s.at t).now < l + msU 500) then
      ((s.at t).bump .time TIME_PPSIN_GLITCH_CNT).raise .time 9
    else (s.at t).ppsTaken) := by
  unfold exec execPpsIn State.step' State.ppsTaken State.ppsError State.ppsStamped
  rfl

theorem Clock.ppsInLast_early (c : Clock) {K now : Nat} (h : ∀ l, c.ppsInLast = some l → l + K ≤ now) :
    ¬ (c.ppsInLast.any fun l => decide (now < l + K)) = true := by
  cases hl : c.ppsInLast with
  | none => exact Bool.false_ne_true
  | some l => exact fun hlate => absurd (h l hl) (Nat.not_le.mpr (of_decide_eq_true hlate))

theorem exec_ppsIn_taken (t : Nat) (falling : Bool) (s : State) (hdom : (s.at t).domOn PD_NOC = true)
    (hen : (s.at t).flag .time TIME_CFG_PPSIN_EN = true) (hpol : (s.at t).flag .time TIME_CFG_PPSIN_POL = falling)
    (hlast : ∀ l, (s.at t).clock.ppsInLast = some l → l + msU 500 ≤ (s.at t).now) :
    exec (.ppsIn t falling) s = .next (s.at t).ppsTaken := by
  have hlate := (s.at t).clock.ppsInLast_early hlast
  rw [exec_ppsIn, if_neg, if_neg hlate]
  rw [hdom, hen, hpol]
  simp only [Bool.not_true, Bool.false_eq_true, ne_eq, not_true_eq_false, or_self, not_false_eq_true]

theorem State.ppsTaken_clock (s : State) : s.ppsTaken.clock.ppsInLast = some s.now := by
  unfold State.ppsTaken
  rw [(State.onlyRecords_raise _ _ _).clock]
  rfl

theorem State.ppsTaken_flag (s : State) : s.ppsTaken.flag .time TIME_STATUS_PPSIN_VALID = true := by
  unfold State.flag State.ppsTaken
  rw [State.get_raise _ _ _ _ _ (by decide), State.get_put_same _ _ _ _ (by decide)]
  rfl

theorem exec_ppsinValidExpiry_due (t : Nat) (s : State) {l : Nat} (hlast : (s.at t).clock.ppsInLast = some l)
    (hdue : l + msU 1200 ≤ (s.at t).now) :
    exec (.ppsinValidExpiry t) s = .next ((s.at t).put .time TIME_STATUS_PPSIN_VALID 0) := by
  refine congrArg Host.Outcome.next ?_
  dsimp only
  rw [hlast]
  exact if_pos hdue

/-! ### The statement -/

/-- Settles O24: each write and read is the clock's own operation of that register, and each event is its step when it is due. -/
theorem timeCommandsComplete : Obligations.TimeCommandsComplete := by
  refine ⟨?rate, ?set, ?step, ?slew, ?delay, ?push, ?pop, ?tick, ?freerun, ?holdoff, ?pps, ?ppsEnd, ?ppsIn, ?ppsExpiry⟩
  case rate =>
    intro path v hv
    refine completes_of_block_write (exec_timeIncrWrite · path v) hv (by decide) (by decide) (fun _ h => h.1) ?_
    rintro u ⟨-, hfree⟩
    rw [u.blockWrite_timeIncr]
    exact ⟨rfl, u.incr_timeIncrWrite v hfree⟩
  case set =>
    intro path
    refine completes_of_block_write (exec_timeAdjSet · path) (by decide) (by decide) (by decide) (fun _ h => h.1) ?_
    rintro u ⟨-, hns⟩
    rw [u.blockWrite_timeAdj, u.timeAdjWrite_set path hns]
    exact ⟨rfl, fun _ _ => rfl⟩
  case step =>
    intro path
    refine completes_of_block_write (exec_timeAdjStep · path) (by decide) (by decide) (by decide) (fun _ h => h.1) ?_
    rintro u ⟨-, hd⟩
    rw [u.blockWrite_timeAdj, u.timeAdjWrite_step path hd]
    exact ⟨rfl, fun _ _ => rfl⟩
  case slew =>
    intro path v hv ho
    refine completes_of_block_write (exec_timeSlewWrite · path v) hv (by decide) (by decide) (fun _ h => h.1) ?_
    rintro u ⟨-, hfree⟩
    rw [u.blockWrite_timeSlew, u.timeSlewWrite_taken path hfree ho]
    have hclock := (u.slewSet (signed 32 v)).put_clock .time TIME_STATUS_SLEWING 1
    exact ⟨congrArg Clock.slewRem hclock, congrArg Clock.slewNeg hclock, State.flag_putOne _ _ _ (by decide) (by decide)⟩
  case delay =>
    intro path p v hv
    refine completes_of_block_write (exec_pdelayWrite · path p v) hv (by dsimp only [TIME_PDELAY]; omega)
      (by dsimp only [TIME_PDELAY]; omega) (fun _ h => h) ?_
    rintro u -
    rw [u.blockWrite_timePdelay]
    exact ⟨rfl, u.get_pdelayWrite p v⟩
  case push =>
    intro path p v hv
    refine completes_of_block_write (exec_txqPush · path p v) hv (by dsimp only [TIME_TXQ_PUSH3]; omega)
      (by dsimp only [TIME_TXQ_PUSH3]; omega) (fun _ h => h.1) ?_
    rintro u ⟨-, hport, hroom⟩
    rw [u.blockWrite_txqPush, u.txqPushWrite_last path p _ hport]
    exact u.txqPush_queue p _ hroom
  case pop =>
    rintro path p e rest t s ⟨hread, hqueue⟩
    exact ⟨_, (exec_txqPop t path p s).trans (congrArg Host.Outcome.next
      ((s.at t).getBy_reaches path .time _ (by dsimp only [TIME_TXQ_W3]; omega) hread)),
      (congrArg (fun u : State => u.clock.txq[p]) ((s.at t).readSide_txqPop path p)).trans ((s.at t).txqPop_queue p hqueue)⟩
  case tick => exact fun t s _ => ⟨_, rfl, rfl⟩
  case freerun =>
    rintro f t s ⟨hdom, hfrom, hfirst, hstate, hdue, hwaits⟩
    exact ⟨_, exec_freerun_due t s hdom, rfl, (s.at t).freerun_flag hfrom hfirst hstate hdue hwaits⟩
  case holdoff =>
    rintro e t s ⟨hdom, hend, hdue⟩
    exact ⟨_, exec_holdoffEnd_noc t s hdom, rfl, (s.at t).holdoffEnd_due hend hdue⟩
  case pps =>
    rintro t s ⟨hdom, hen, hstate, hdue⟩
    refine ⟨_, exec_ppsOut_due t s hdom hen hstate hdue, ?_, rfl, fun _ _ => rfl⟩
    exact (Bool.and_true _).trans (by
      rw [Bool.and_eq_true, Bool.and_eq_true]
      exact ⟨⟨hdom, hen⟩, bne_iff_ne.mpr hstate⟩)
  case ppsEnd =>
    rintro e t s ⟨hend, hdue⟩
    exact ⟨_, exec_ppsOutEnd_due t s hend hdue, Bool.and_false _, rfl, fun _ _ => rfl⟩
  case ppsIn =>
    rintro falling t s ⟨hdom, hen, hpol, hlast⟩
    exact ⟨_, exec_ppsIn_taken t falling s hdom hen hpol hlast, (s.at t).ppsTaken_clock, (s.at t).ppsTaken_flag⟩
  case ppsExpiry =>
    rintro l t s ⟨hlast, hdue⟩
    exact ⟨_, exec_ppsinValidExpiry_due t s hlast hdue, State.flag_putZero _ _ _ (by decide)⟩

end Sys2Proof.Machine

/-! ## The commands of the scheduler (R285–R289) -/

namespace Sys2Proof.Machine

/-! ### The access register (R285) -/

theorem exec_schedWrite (t : Nat) (path : Path) (i : Fin 256) (s : State) :
    exec (.schedWrite t path i) s = .next ((s.at t).regBy path .sched SCHED_ACC (2 ^ 31 + 1 * 2 ^ 28 + i.val)) := rfl
theorem exec_schedRead (t : Nat) (path : Path) (i : Fin 256) (s : State) :
    exec (.schedRead t path i) s = .next ((s.at t).regBy path .sched SCHED_ACC (2 ^ 31 + 2 * 2 ^ 28 + i.val)) := rfl
theorem exec_schedCancel (t : Nat) (path : Path) (i : Fin 256) (s : State) :
    exec (.schedCancel t path i) s = .next ((s.at t).regBy path .sched SCHED_ACC (2 ^ 31 + 3 * 2 ^ 28 + i.val)) := rfl

theorem State.blockWrite_schedAcc (s : State) (path : Path) (v : Nat) :
    s.blockWrite path .sched SCHED_ACC.off v = s.schedAcc path v :=
  show s.schedWrite path SCHED_ACC.off v = _ from if_pos rfl

/-- The fields of an operation word: GO, OP and INDEX. -/
theorem schedWord_fields (op : Nat) (hop : op < 8) (i : Fin 256) : bitsOf (2 ^ 31 + op * 2 ^ 28 + i.val) 31 1 = 1 ∧
    bitsOf (2 ^ 31 + op * 2 ^ 28 + i.val) 28 3 = op ∧ bitsOf (2 ^ 31 + op * 2 ^ 28 + i.val) 0 8 = i.val := by
  have hi := i.isLt
  unfold bitsOf
  omega

/-- Entry `i` shown in the staging registers (R285). -/
def State.schedShown (s : State) (e : SchedEntry) : State :=
  let sec := e.time / 1000000000
  let s := (s.put .sched SCHED_E_NS (e.time % 1000000000)).put .sched SCHED_E_SEC (sec % 2 ^ 32)
  let s := s.put .sched SCHED_E_CTL (e.action * 2 ^ 28 + e.policy * 2 ^ 26 + sec / 2 ^ 32 % 2 ^ 16)
  let s := (s.put .sched SCHED_E_TARGET e.target).put .sched SCHED_E_VALUE e.value
  let s := (s.put .sched SCHED_E_WINDOW e.window).put .sched SCHED_E_PERIOD e.period
  let s := s.put .sched SCHED_E_STAT
    (pathCode e.path * 2 ^ 8 + ofBool e.missed * 2 ^ 4 + ofBool e.late * 2 ^ 3 + schedCode e.st)
  s.put .sched SCHED_E_LATENESS e.lateness

/-- The operation `op` of a path on entry `i` (R285). -/
def State.schedOp (s : State) (path : Path) (op i : Nat) : State :=
  match op with
  | 1 => match s.schedFail (s.schedStaged path) with
    | some d => s.err .sched (pathCode path) SCHED_ACC.off ST_BAD_PARAM d
    | none => (s.schedStore i (s.schedStaged path)).schedTake
  | 2 => (s.schedShown (s.schedGet i)).schedTake
  | 3 => ((s.schedWithdraw i).schedSet i {}).schedTake
  | _ => s.err .sched (pathCode path) SCHED_ACC.off ST_BAD_OPCODE 0x14

/-- An operation word written while SCHED is not busy starts its operation on its entry. -/
theorem State.schedAcc_go (s : State) (path : Path) (op : Nat) (hop : op < 8) (i : Fin 256) (hfree : s.schedBusy ≤ s.now) :
    s.schedAcc path (2 ^ 31 + op * 2 ^ 28 + i.val) = (s.put .sched SCHED_ACC (op * 2 ^ 28 + i.val)).schedOp path op i.val := by
  obtain ⟨hgo, hopc, hidx⟩ := schedWord_fields op hop i
  have hidle : s.schedIsBusy = false := decide_eq_false (Nat.not_lt.mpr hfree)
  unfold State.schedAcc
  rw [hgo, hopc, hidx, hidle]
  rfl

theorem State.schedOp_write (s : State) (path : Path) (i : Nat) (hlegal : s.schedFail (s.schedStaged path) = none) :
    s.schedOp path 1 i = (s.schedStore i (s.schedStaged path)).schedTake := by
  show (match s.schedFail (s.schedStaged path) with | some d => _ | none => _) = _
  rw [hlegal]

theorem State.schedOp_read (s : State) (path : Path) (i : Nat) :
    s.schedOp path 2 i = (s.schedShown (s.schedGet i)).schedTake := rfl
theorem State.schedOp_cancel (s : State) (path : Path) (i : Nat) :
    s.schedOp path 3 i = ((s.schedWithdraw i).schedSet i {}).schedTake := rfl

/-! ### What a READ shows -/

theorem State.schedGet_put (s : State) (p : Page) (f : RF) (x i : Nat) : (s.put p f x).schedGet i = s.schedGet i := rfl

theorem State.get_schedTake (s : State) (p : Page) (f : RF) : s.schedTake.get p f = s.get p f := rfl

theorem State.get_schedShown (s : State) (e : SchedEntry) :
    (s.schedShown e).get .sched SCHED_E_NS = e.time % 1000000000 ∧
      (s.schedShown e).get .sched SCHED_E_TARGET = e.target % 2 ^ 32 ∧
      (s.schedShown e).get .sched SCHED_E_VALUE = e.value % 2 ^ 32 := by
  have hns : e.time % 1000000000 % 2 ^ 32 = e.time % 1000000000 := by omega
  unfold State.schedShown
  dsimp only
  refine ⟨?ns, ?target, ?value⟩
  case ns =>
    repeat rw [State.get_put_off _ _ _ _ _ (by decide)]
    exact (State.get_put_same _ _ _ _ (by decide)).trans hns
  case target =>
    rw [State.get_put_off _ _ _ _ _ (by decide), State.get_put_off _ _ _ _ _ (by decide), State.get_put_off _ _ _ _ _ (by decide),
      State.get_put_off _ _ _ _ _ (by decide), State.get_put_off _ _ _ _ _ (by decide)]
    exact State.get_put_same _ _ _ _ (by decide)
  case value =>
    rw [State.get_put_off _ _ _ _ _ (by decide), State.get_put_off _ _ _ _ _ (by decide), State.get_put_off _ _ _ _ _ (by decide),
      State.get_put_off _ _ _ _ _ (by decide)]
    exact State.get_put_same _ _ _ _ (by decide)

/-! ### Dispatch and handover (R286, R287, R289) -/

theorem exec_schedDispatch_due (t : Nat) (s : State) {i : Nat} {e : SchedEntry} (hruns : (s.at t).schedRuns = true)
    (htick : (s.at t).schedAt ≠ (s.at t).now / tickU + 1) (hold : (s.at t).schedOld = [])
    (hdue : (s.at t).schedDue = some (i, e)) : exec (.schedDispatch t) s =
      .next (({ s.at t with schedAt := (s.at t).now / tickU + 1 } : State).schedDispatch i e) := by
  unfold exec execSchedDispatch State.step'
  dsimp only
  rw [if_neg, hold, hdue]
  rw [hruns]
  exact not_or_intro nofun htick

theorem exec_strobeHandover_due (t : Nat) (s : State) {i : Nat} {e : SchedEntry} (hruns : (s.at t).schedRuns = true)
    (hdue : (s.at t).strobeDue = some (i, e)) : exec (.strobeHandover t) s = .next ((s.at t).strobeHand i e) := by
  unfold exec execStrobeHandover State.step'
  dsimp only
  rw [if_neg, hdue]
  rw [hruns]
  exact nofun

theorem State.strobeHand_taken (s : State) (i : Nat) (e : SchedEntry) {q : NpIx} {late : Bool}
    (hport : finOf 104 (bitsOf e.target 0 7) = some q) (htakes : s.npTakes q = true)
    (hverdict : e.verdict ((s.localTime : Int) - ((e.time : Int) - toNs (2 * (s.npN q + 1) * s.npT q))) = .run late) :
    s.strobeHand i e = (s.npSchedule q e.time (some i)).schedSet i { e with st := .handed } := by
  unfold State.strobeHand
  rw [hport]
  dsimp only
  rw [htakes, hverdict]
  rfl

/-- Settles O26: each operation word starts its operation on its entry, and what is due is dispatched or handed over. -/
theorem schedCommandsComplete : Obligations.SchedCommandsComplete := by
  refine ⟨?write, ?read, ?cancel, ?dispatch, ?handover⟩
  case write =>
    intro path i w
    refine completes_of_block_write (exec_schedWrite · path i) (by omega) (by decide) (by decide) (fun _ h => h.1) ?_
    rintro u ⟨-, hfree, rfl, hlegal⟩
    have hword : 2 ^ 28 + i.val = 1 * 2 ^ 28 + i.val := by rw [Nat.one_mul]
    rw [hword] at hlegal ⊢
    rw [u.blockWrite_schedAcc, u.schedAcc_go path 1 (by decide) i hfree, State.schedOp_write _ path _ hlegal, Nat.one_mul]
  case read =>
    intro path i
    refine completes_of_block_write (exec_schedRead · path i) (by omega) (by decide) (by decide) (fun _ h => h.1) ?_
    rintro u ⟨-, hfree⟩
    rw [u.blockWrite_schedAcc]
    refine ⟨rfl, ?_⟩
    rw [u.schedAcc_go path 2 (by decide) i hfree, State.schedOp_read, State.schedGet_put, State.answer_get, State.answer_get,
      State.answer_get, State.get_schedTake, State.get_schedTake, State.get_schedTake]
    exact State.get_schedShown _ _
  case cancel =>
    intro path i
    refine completes_of_block_write (exec_schedCancel · path i) (by omega) (by decide) (by decide) (fun _ h => h.1) ?_
    rintro u ⟨-, hfree⟩
    rw [u.blockWrite_schedAcc, u.schedAcc_go path 3 (by decide) i hfree, State.schedOp_cancel]
  case dispatch =>
    rintro i e t s ⟨hruns, htick, hold, hdue⟩
    exact ⟨_, exec_schedDispatch_due t s hruns htick hold hdue, rfl⟩
  case handover =>
    rintro i e q fl t s ⟨hruns, hdue, hport, htakes, hverdict⟩
    exact ⟨_, exec_strobeHandover_due t s hruns hdue, (s.at t).strobeHand_taken i e hport htakes hverdict⟩

end Sys2Proof.Machine

/-! ## The commands of the memory controller (R298, R312, R313, R316) -/

namespace Sys2Proof.Machine

/-! ### What keeps the state of the controller and its training -/

/-- From `s` to `u` the state that the controller shows and its training stay. -/
structure KeepsTraining (s u : State) : Prop where
  state : u.dmcState = s.dmcState
  trainAt : u.dmcs.trainAt = s.dmcs.trainAt

theorem KeepsTraining.refl (s : State) : KeepsTraining s s := ⟨rfl, rfl⟩

section
variable {s u v : State}

theorem KeepsTraining.trans (h : KeepsTraining s u) (k : KeepsTraining u v) : KeepsTraining s v :=
  ⟨k.state.trans h.state, k.trainAt.trans h.trainAt⟩

theorem KeepsTraining.ite {c : Prop} [Decidable c] (hu : KeepsTraining s u) (hv : KeepsTraining s v) :
    KeepsTraining s (if c then u else v) := by
  split
  · exact hu
  · exact hv

theorem KeepsTraining.foldl {ι : Type} {f : State → ι → State} (h : KeepsTraining s u)
    (hf : ∀ v x, KeepsTraining s v → KeepsTraining s (f v x)) (l : List ι) : KeepsTraining s (l.foldl f u) := by
  induction l generalizing u with
  | nil => exact h
  | cons x l ih => exact ih (hf u x h)

/-- A change of neither the registers nor the training. -/
theorem KeepsTraining.hidden (h : KeepsTraining s u) (hregs : v.regs = u.regs) (htrain : v.dmcs.trainAt = u.dmcs.trainAt) :
    KeepsTraining s v := h.trans ⟨State.get_of_regs hregs _ _, htrain⟩

theorem KeepsTraining.put (h : KeepsTraining s u) {p : Page} {f : RF} {x : Nat} (hp : p ≠ .dmc 0) (hf : f.off < 0x1000) :
    KeepsTraining s (u.put p f x) := h.trans ⟨u.get_put_page p (.dmc 0) f BLK_STATE x hp hf (by decide), rfl⟩

theorem KeepsTraining.putOff (h : KeepsTraining s u) {p : Page} {f : RF} {x : Nat} (hf : f.off < 0x1000)
    (hoff : f.off ≠ BLK_STATE.off) : KeepsTraining s (u.put p f x) :=
  h.trans ⟨u.get_put_anyoff p (.dmc 0) f BLK_STATE x hoff hf (by decide), rfl⟩

/-- A change that is only records leaves the training; the state shown is not among them. -/
theorem OnlyRecords.trainAt (h : OnlyRecords s u) : u.dmcs.trainAt = s.dmcs.trainAt := by
  rw [OnlyRecords] at h
  rw [h]

theorem KeepsTraining.raise (h : KeepsTraining s u) {p : Page} {b : Nat} : KeepsTraining s (u.raise p b) :=
  h.trans ⟨State.get_raise _ _ _ _ _ (by decide), (u.onlyRecords_raise p b).trainAt⟩

theorem KeepsTraining.errInfo (h : KeepsTraining s u) {p : Page} {path off cls d i : Nat} :
    KeepsTraining s (u.errInfo p path off cls d i) :=
  h.trans ⟨State.get_errInfo _ _ _ _ _ _ _ _ _ (by decide), (u.onlyRecords_errInfo p path off cls d i).trainAt⟩

theorem KeepsTraining.compTo (h : KeepsTraining s u) {st : Nat} : KeepsTraining s (u.compTo st) :=
  h.foldl (fun _ i k => k.put (p := .comp i) nofun (show (0x0C : Nat) < 0x1000 by decide)) _

theorem KeepsTraining.engWithdraw (h : KeepsTraining s u) {n : Fin 4} : KeepsTraining s (u.engWithdraw n) :=
  (h.hidden (v := u.modEng n fun e => { e with ready := none, fin := none }) rfl rfl).put nofun
    (show COMP_STATUS.off < 0x1000 by decide)

theorem KeepsTraining.scnWithdraw (h : KeepsTraining s u) {k : Fin 2} : KeepsTraining s (u.scnWithdraw k) :=
  (h.hidden (v := u.modScn k fun c => { c with ready := none }) rfl rfl).put nofun (show COMP_STATUS.off < 0x1000 by decide)

theorem KeepsTraining.setSlot (h : KeepsTraining s u) {i : Fin 4} {m : MaskSlot} : KeepsTraining s (u.setSlot i m) := by
  have hoffs : ∀ j : Fin 4, (MASK_SLOT_STAT j.val).off < 0x1000 ∧ (MASK_SLOT_CAP j.val).off < 0x1000 := by decide
  unfold State.setSlot State.imsShow
  refine KeepsTraining.foldl (h.hidden (v := { u with ims := { u.ims with slots := u.ims.slots.set i.val m } }) rfl rfl)
    (fun v j hv => ?_) _
  have hstat (x : Nat) : KeepsTraining s (v.put (.comp 7) (MASK_SLOT_STAT j.val) x) := hv.put nofun (hoffs j).1
  exact (hstat _).put nofun (hoffs j).2

theorem KeepsTraining.compRelease (h : KeepsTraining s u) {r : CompRun} : KeepsTraining s (u.compRelease r) := by
  unfold State.compRelease
  split
  · exact .ite h.setSlot h
  · exact h

/-- A composition abandoned is a matter of the compositor and the units it marked. -/
theorem KeepsTraining.compAbandon (h : KeepsTraining s u) : KeepsTraining s u.compAbandon := by
  unfold State.compAbandon
  split
  · exact h
  · extract_lets _ cut freed
    have hcut : KeepsTraining s cut :=
      .ite (h.hidden (v := u.setCommitRec .comp { u.commitRec .comp with skip := false }) rfl rfl) h
    have hfreed : KeepsTraining s freed := by
      show KeepsTraining s (match cut.cmp.run with | none => cut | some r => _)
      split
      · exact hcut
      · refine (hcut.foldl (fun v i hv => ?_) _).compRelease
        split
        · exact .ite hv.engWithdraw hv
        · exact .ite hv.scnWithdraw hv
        · exact hv
    exact (hfreed.hidden (v := freed.modCmp fun c => { c with run := none }) rfl rfl).compTo

theorem KeepsTraining.count (h : KeepsTraining s u) {p : Page} {f : RF} {n : Nat} (hf : f.off < 0x1000)
    (hoff : f.off ≠ BLK_STATE.off) : KeepsTraining s (u.count p f n) :=
  (h.hidden (v := u.note p f _) rfl rfl).putOff hf hoff

theorem KeepsTraining.dmcFlush (h : KeepsTraining s u) : KeepsTraining s u.dmcFlush := by
  unfold State.dmcFlush State.faultDrop
  extract_lets n flushed
  have hflushed : KeepsTraining s flushed := h.hidden rfl rfl
  exact .ite hflushed (hflushed.count (by decide) (by decide)).raise

theorem KeepsTraining.dmcStart (h : KeepsTraining s u) {slices : Bool} : KeepsTraining s (u.dmcStart slices) := h.hidden rfl rfl

theorem KeepsTraining.setDom (h : KeepsTraining s u) {d : Nat} {on ret : Bool} : KeepsTraining s (u.setDom d on ret) :=
  (h.put (p := .basecamp) (f := ⟨BC_PD_ON.off, d, 1⟩) (x := ofBool on) nofun
    (show BC_PD_ON.off < 0x1000 by decide)).put nofun (show BC_PD_RET.off < 0x1000 by decide)

end

/-! ### The controller's state (R316) -/

theorem State.answer_dmcState (s : State) (v : Word) : (s.answer v).dmcState = s.dmcState := rfl

/-- The state shown on the four pages of the controller. -/
def State.dmcShown (s : State) (st : Nat) : State := (List.finRange 4).foldl (fun s i => s.put (.dmc i) BLK_STATE st) s

theorem State.dmcShown_state (s : State) {st : Nat} (hst : st < 256) : (s.dmcShown st).dmcState = st := by
  have hshown (u : State) : (u.put (.dmc 0) BLK_STATE st).dmcState = st :=
    (u.get_put_same _ _ _ (by decide)).trans (Nat.mod_eq_of_lt hst)
  have hother (u : State) (i : Fin 4) (hi : i ≠ 0) (h : u.dmcState = st) : (u.put (.dmc i) BLK_STATE st).dmcState = st :=
    (u.get_put_page (.dmc i) (.dmc 0) BLK_STATE BLK_STATE st (fun hp => hi (Page.dmc.inj hp)) (by decide) (by decide)).trans h
  exact hother _ 3 (by decide) (hother _ 2 (by decide) (hother _ 1 (by decide) (hshown s)))

theorem State.dmcTo_eq (s : State) (st : Nat) : s.dmcTo st = if s.dmcState = st then s else
    if s.dmcState = DMC_RUN then ((s.dmcShown st).raise (.dmc 0) DMC_EV_STATE_CHANGE).dmcFlush.compAbandon
    else (s.dmcShown st).raise (.dmc 0) DMC_EV_STATE_CHANGE := rfl

/-- A state entered is the state shown, and the training stays. -/
theorem State.dmcTo_enters (s : State) {st : Nat} (hst : st < 256) :
    (s.dmcTo st).dmcState = st ∧ (s.dmcTo st).dmcs.trainAt = s.dmcs.trainAt := by
  have hraised := (KeepsTraining.refl (s.dmcShown st)).raise (p := .dmc 0) (b := DMC_EV_STATE_CHANGE)
  have hshown := s.dmcShown_state hst
  have htrain : (s.dmcShown st).dmcs.trainAt = s.dmcs.trainAt := rfl
  rw [s.dmcTo_eq]
  split_ifs with hsame hrun
  · exact ⟨hsame, rfl⟩
  · have habandoned := hraised.dmcFlush.compAbandon
    exact ⟨habandoned.state.trans hshown, habandoned.trainAt.trans htrain⟩
  · exact ⟨hraised.state.trans hshown, hraised.trainAt.trans htrain⟩

/-! ### `DMC_CMD` (R312, R313, R316) -/

theorem exec_dmcTrain (t : Nat) (path : Path) (s : State) :
    exec (.dmcTrain t path) s = .next ((s.at t).regBy path (.dmc 0) DMC_CMD 1) := rfl
theorem exec_srEnter (t : Nat) (path : Path) (s : State) :
    exec (.srEnter t path) s = .next ((s.at t).regBy path (.dmc 0) DMC_CMD 2) := rfl
theorem exec_srExit (t : Nat) (path : Path) (s : State) :
    exec (.srExit t path) s = .next ((s.at t).regBy path (.dmc 0) DMC_CMD 3) := rfl
theorem exec_dmcStop (t : Nat) (path : Path) (s : State) :
    exec (.dmcStop t path) s = .next ((s.at t).regBy path (.dmc 0) DMC_CMD 4) := rfl

theorem State.blockWrite_dmcCmd (s : State) (path : Path) (v : Nat) :
    s.blockWrite path (.dmc 0) DMC_CMD.off v = s.dmcCmd (pathCode path) v := by
  show s.dmcWrite path 0 DMC_CMD.off v = _
  unfold State.dmcWrite
  dsimp only
  rw [if_pos (show (0 : Fin 4).val = 0 from rfl), if_pos rfl]

theorem State.dmcCmd_train (s : State) (path : Nat) (h : s.dmcState = DMC_OFF) :
    s.dmcCmd path 1 = (s.dmcTo DMC_TRAIN).pbaRequest ID_DMC NO_PORT := if_pos h

theorem State.dmcCmd_enter (s : State) (path : Nat) (h : s.dmcState = DMC_RUN)
    (hidle : s.dmcs.ports.toList.any (!·.isEmpty) = false) :
    s.dmcCmd path 2 = (s.dmcTo DMC_SELF_REFRESH).setDom PD_DPHY false true :=
  (if_neg (not_not_intro h)).trans (if_neg (by rw [hidle]; exact Bool.false_ne_true))

theorem State.dmcCmd_exit (s : State) (path : Nat) (h : s.dmcState = DMC_SELF_REFRESH) :
    s.dmcCmd path 3 = ((s.setDom PD_DPHY true false).dmcStart true).dmcTo DMC_RUN := if_neg (not_not_intro h)

theorem State.dmcCmd_stop (s : State) (path : Nat) (h : s.dmcState = DMC_RUN ∨ s.dmcState = DMC_SELF_REFRESH ∨ s.dmcState = DMC_FAULT) :
    s.dmcCmd path 4 = ((s.dmcTo DMC_OFF).dmcClear.pbaRelease ID_DMC NO_PORT).domOff PD_DPHY := if_pos h

/-! ### Training and faults (R298, R313, R316) -/

theorem State.dmcFault_state (s : State) (h : s.dmcState = DMC_TRAIN ∨ s.dmcState = DMC_RUN ∨ s.dmcState = DMC_SELF_REFRESH) :
    s.dmcFault.dmcState = DMC_FAULT := by
  unfold State.dmcFault
  dsimp only
  rw [if_pos h]
  exact (KeepsTraining.refl _).errInfo.state.trans (State.dmcTo_enters _ (by decide)).1

/-- The channels of `used` that are so, as a mask. -/
def chanMask (used : List (Fin 8)) (f : Fin 8 → Bool) : Nat := used.foldl (fun m c => if f c then m + 2 ^ c.val else m) 0

theorem chanMask_none {used : List (Fin 8)} {f : Fin 8 → Bool} (h : ∀ c, f c = false) : chanMask used f = 0 := by
  unfold chanMask
  induction used with
  | nil => rfl
  | cons c l ih => rw [List.foldl_cons, h c]; exact ih

theorem chanMask_some {used : List (Fin 8)} {f : Fin 8 → Bool} {c : Fin 8} (hc : c ∈ used) (h : f c = true) :
    chanMask used f ≠ 0 := by
  have hgrows (l : List (Fin 8)) (m : Nat) : m ≤ l.foldl (fun m c => if f c then m + 2 ^ c.val else m) m := by
    induction l generalizing m with
    | nil => exact Nat.le_refl m
    | cons d l ih =>
      refine Nat.le_trans ?_ (ih _)
      dsimp only
      split
      · exact Nat.le_add_right _ _
      · exact Nat.le_refl _
  have hpos (l : List (Fin 8)) (m : Nat) (hl : c ∈ l) : 0 < l.foldl (fun m c => if f c then m + 2 ^ c.val else m) m := by
    induction l generalizing m with
    | nil => exact absurd hl List.not_mem_nil
    | cons d l ih =>
      rw [List.foldl_cons]
      rcases List.mem_cons.mp hl with rfl | hl
      · rw [h]
        exact Nat.lt_of_lt_of_le (Nat.lt_of_lt_of_le (Nat.two_pow_pos c.val) (Nat.le_add_left _ m)) (hgrows l _)
      · exact ih _ hl
  exact Nat.ne_of_gt (hpos used 0 hc)

/-- The channels in use. -/
def State.chansUsed (s : State) : List (Fin 8) := (List.finRange 8).filter fun c => chanUsed s.dmcCfg c

/-- A channel's training passes: its steps ran and both its eyes are wide enough (R298, R313). -/
def State.chanPasses (s : State) (res : Vector ChanTrain 8) (c : Fin 8) : Bool :=
  let eye := bitsOf (s.get (.dmc 0) DMC_EYE_MIN) 0 10
  res[c].steps && decide (eye ≤ bitsOf res[c].rd 0 10) && decide (eye ≤ bitsOf res[c].wr 0 10)

/-- What the pages show of a training begun at `t0`, whose failures are the mask `bad`; it runs no more. -/
def State.trainShown (s : State) (res : Vector ChanTrain 8) (t0 bad : Nat) : State :=
  let used := s.chansUsed
  let s := used.foldl (fun s c => s.put (.dmc 2) (DMC_CH_MARGIN c.val) (bitsOf res[c].wr 0 10 * 2 ^ 16 + bitsOf res[c].rd 0 10)) s
  let s := s.put (.dmc 0) DMC_TRAIN_TIME (min 65535 (toUs (s.now - t0)))
  let s := used.foldl (fun s c => (s.put (.dmc 2) (DMC_CH_DRIFT c.val) 0).put (.dmc 2) (DMC_CH_STAT_STATE c.val)
    (if bitOf bad c.val then 4 else 2)) s
  s.modDmc fun d => { d with trainAt := none }

/-- The controller runs after a training that passed. -/
def State.trainPassed (s : State) : State :=
  (((s.put (.dmc 0) DMC_SIZE (dmcUnits s.dmcCfg)).dmcStart false).dmcTo DMC_RUN).raise
    (.dmc 0) DMC_EV_TRAIN_DONE

/-- The controller fails with the channels `bad` of too narrow eyes and `geom` of a wrong geometry. -/
def State.trainFailed (s : State) (bad geom : Nat) : State :=
  let s := (s.dmcTo DMC_FAULT).raise (.dmc 0) DMC_EV_TRAIN_FAIL
  let s := if bad = 0 then s else s.errInfo (.dmc 0) PATH_HW 0 ST_HW_FAULT 0x20 bad
  if geom = 0 then s else s.errInfo (.dmc 0) PATH_HW 0 ST_HW_FAULT 0x21 geom

theorem exec_trainDone_begun (t : Nat) (res : Vector ChanTrain 8) (s : State) {t0 geom bad : Nat}
    (htrain : (s.at t).dmcs.trainAt = some t0) (hgeom : geom = chanMask (s.at t).chansUsed fun c => res[c].geom)
    (hbad : bad = chanMask (s.at t).chansUsed fun c => !(s.at t).chanPasses res c && !res[c].geom) :
    exec (.trainDone t res) s = .next (if geom = 0 ∧ bad = 0 then ((s.at t).trainShown res t0 (geom + bad)).trainPassed
      else ((s.at t).trainShown res t0 (geom + bad)).trainFailed bad geom) := by
  subst hgeom hbad
  unfold exec execTrainDone State.step'
  dsimp only
  rw [htrain]
  rfl

theorem State.trainShown_trainAt (s : State) (res : Vector ChanTrain 8) (t0 bad : Nat) :
    (s.trainShown res t0 bad).dmcs.trainAt = none := rfl

theorem State.trainPassed_runs (s : State) : s.trainPassed.dmcState = DMC_RUN ∧ s.trainPassed.dmcs.trainAt = s.dmcs.trainAt := by
  have hsized : KeepsTraining s (s.put (.dmc 0) DMC_SIZE (dmcUnits s.dmcCfg)) := (KeepsTraining.refl s).putOff (by decide) (by decide)
  obtain ⟨hstate, htrain⟩ := ((s.put (.dmc 0) DMC_SIZE (dmcUnits s.dmcCfg)).dmcStart false).dmcTo_enters
    (st := DMC_RUN) (by decide)
  have hraised := (KeepsTraining.refl
    (((s.put (.dmc 0) DMC_SIZE (dmcUnits s.dmcCfg)).dmcStart false).dmcTo DMC_RUN)).raise (p := .dmc 0) (b := DMC_EV_TRAIN_DONE)
  exact ⟨hraised.state.trans hstate, hraised.trainAt.trans (htrain.trans hsized.dmcStart.trainAt)⟩

theorem State.trainFailed_faults (s : State) (bad geom : Nat) :
    (s.trainFailed bad geom).dmcState = DMC_FAULT ∧ (s.trainFailed bad geom).dmcs.trainAt = s.dmcs.trainAt := by
  obtain ⟨hstate, htrain⟩ := s.dmcTo_enters (st := DMC_FAULT) (by decide)
  have hraised := (KeepsTraining.refl (s.dmcTo DMC_FAULT)).raise (p := .dmc 0) (b := DMC_EV_TRAIN_FAIL)
  have hshown : KeepsTraining (s.dmcTo DMC_FAULT) (s.trainFailed bad geom) :=
    .ite (.ite hraised hraised.errInfo) (KeepsTraining.ite hraised hraised.errInfo).errInfo
  exact ⟨hshown.state.trans hstate, hshown.trainAt.trans htrain⟩

/-! ### The statement -/

/-- Settles O27: each command word is `State.dmcCmd` in the state that allows it, and training ends by its masks of failures. -/
theorem dmcCommandsComplete : Obligations.DmcCommandsComplete := by
  refine ⟨?train, ?enter, ?leave, ?stop, ?pass, ?geom, ?pll⟩
  case train =>
    intro path
    refine completes_of_block_write (exec_dmcTrain · path) (by decide) (by decide) (by decide) (fun _ h => h.1) ?_
    rintro u ⟨-, hoff⟩
    rw [u.blockWrite_dmcCmd, u.dmcCmd_train _ hoff]
    rfl
  case enter =>
    intro path
    refine completes_of_block_write (exec_srEnter · path) (by decide) (by decide) (by decide) (fun _ h => h.1) ?_
    rintro u ⟨-, hrun, hidle⟩
    rw [u.blockWrite_dmcCmd, u.dmcCmd_enter _ hrun hidle]
    exact ⟨rfl, (State.answer_dmcState _ _).trans
      ((KeepsTraining.refl (u.dmcTo DMC_SELF_REFRESH)).setDom.state.trans (u.dmcTo_enters (by decide)).1)⟩
  case leave =>
    intro path
    refine completes_of_block_write (exec_srExit · path) (by decide) (by decide) (by decide) (fun _ h => h.1) ?_
    rintro u ⟨-, hself⟩
    rw [u.blockWrite_dmcCmd, u.dmcCmd_exit _ hself]
    exact ⟨rfl, (State.answer_dmcState _ _).trans (State.dmcTo_enters _ (by decide)).1⟩
  case stop =>
    intro path
    refine completes_of_block_write (exec_dmcStop · path) (by decide) (by decide) (by decide) (fun _ h => h.1) ?_
    rintro u ⟨-, hstate⟩
    rw [u.blockWrite_dmcCmd, u.dmcCmd_stop _ hstate]
    rfl
  case pass =>
    rintro res t0 hres t s ⟨htrain, heyes⟩
    have hgeom : chanMask (s.at t).chansUsed (fun c => res[c].geom) = 0 := chanMask_none fun c => (hres c).2
    have hbad : chanMask (s.at t).chansUsed (fun c => !(s.at t).chanPasses res c && !res[c].geom) = 0 := by
      refine chanMask_none fun c => ?_
      have hpass : (s.at t).chanPasses res c = true := by
        unfold State.chanPasses
        dsimp only
        rw [(hres c).1, decide_eq_true (heyes c).1, decide_eq_true (heyes c).2]
        rfl
      rw [hpass]
      rfl
    refine ⟨_, exec_trainDone_begun t res s htrain hgeom.symm hbad.symm, ?_⟩
    rw [if_pos ⟨rfl, rfl⟩]
    exact State.trainPassed_runs _
  case geom =>
    rintro res t0 c hgeom t s ⟨htrain, hused⟩
    have hmask : chanMask (s.at t).chansUsed (fun c => res[c].geom) ≠ 0 :=
      chanMask_some (List.mem_filter.mpr ⟨List.mem_finRange c, hused⟩) hgeom
    refine ⟨_, exec_trainDone_begun t res s htrain rfl rfl, ?_⟩
    rw [if_neg fun h => hmask h.1]
    exact State.trainFailed_faults _ _ _
  case pll =>
    intro t s h
    exact ⟨_, rfl, rfl, (s.at t).dmcFault_state h⟩

end Sys2Proof.Machine

/-! ## The traffic and upkeep of the memory controller (R297–R314) -/

namespace Sys2Proof.Machine

/-! ### The channels and ranks of the controller -/

@[simp] theorem State.modChan_chan (s : State) (c : Fin 8) (f : DmcChan → DmcChan) :
    (s.modChan c f).dmcs.chans[c] = f s.dmcs.chans[c] := Vector.getElem_set_self _

@[simp] theorem State.modRank_rank (s : State) (c : Fin 8) (r : Fin 2) (f : DmcRank → DmcRank) :
    (s.modRank c r f).dmcs.chans[c].ranks[r] = f s.dmcs.chans[c].ranks[r] :=
  (congrArg (fun k : DmcChan => k.ranks[r]) (s.modChan_chan c _)).trans (Vector.getElem_set_self _)

theorem OnlyRecords.dmcs {s u : State} (h : OnlyRecords s u) : u.dmcs = s.dmcs := by
  rw [OnlyRecords] at h; rw [h]

/-! ### Requests (R301, R302, R304) -/

/-- From `s` to `u` nothing but the power-down of ranks changes. -/
structure OnlyWakes (s u : State) : Prop where
  ports : u.dmcs.ports = s.dmcs.ports
  regs : u.regs = s.regs
  dram : u.dram = s.dram

theorem State.onlyWakes_wakeRanks (s : State) (pa len : Nat) : OnlyWakes s (s.wakeRanks pa len) := by
  unfold State.wakeRanks
  cases finOf 8 (s.chanOf pa) with
  | none => exact ⟨rfl, rfl, rfl⟩
  | some c =>
    dsimp only
    generalize s.rowsOf pa len = rows
    induction rows generalizing s with
    | nil => exact ⟨rfl, rfl, rfl⟩
    | cons e rows ih =>
      rw [List.foldl_cons]
      cases finOf 2 e.1 with
      | none => exact ih s
      | some r =>
        obtain ⟨hports, hregs, hdram⟩ := ih (s.modRank c r fun k => { k with pd := false })
        exact ⟨hports, hregs, hdram⟩

/-- The request that a port takes in (R301, R304). -/
def State.taken (s : State) (p : Fin 8) (write : Bool) (pa len : Nat) (data : List Byte) : DmcReq :=
  { write := write, pa := pa, since := s.now, target := s.portTarget p
    data := if write then (List.range len).map fun i => data.getD i 0 else overlay s.dmcs.ports[p] pa (memBytes s.dram pa len) }

theorem State.portRequest_run (s : State) (p : Fin 8) (write : Bool) {pa len : Nat} (data : List Byte) (hmin : 32 ≤ len)
    (hmax : len ≤ 256) (hseg : pa % 256 + len ≤ 256) (hrun : s.dmcState = DMC_RUN)
    (hfits : pa + len ≤ dmcUnits s.dmcCfg * unit256M) : s.portRequest p write pa len data =
      (s.modDmc fun d => { d with ports := d.ports.set p.val (s.dmcs.ports[p] ++ [s.taken p write pa len data]) }).wakeRanks pa len := by
  unfold State.portRequest
  rw [if_neg (by omega), if_neg (not_not_intro hrun)]
  rfl

theorem exec_writeQueueEntry_front (t : Nat) (p : Fin 8) (s : State) {q : DmcReq} {rest : List DmcReq} {c : Fin 8}
    (hport : (s.at t).dmcs.ports[p] = q :: rest) (hchan : finOf 8 ((s.at t).chanOf q.pa) = some c) (hwrite : q.write = true)
    (hsince : q.since < (s.at t).now) (hroom : (s.at t).dmcs.chans[c].wq.length < 64) :
    exec (.writeQueueEntry t p) s = .next ((((s.at t).enterWrite p q c).latency p q).countBytes p true q.data.length) := by
  unfold exec execWriteQueueEntry State.step'
  dsimp only
  rw [hport]
  dsimp only
  rw [hchan]
  dsimp only
  rw [if_neg]
  rw [hwrite]
  simp only [Bool.not_true, Bool.false_eq_true, false_or]
  omega

theorem State.enterWrite_dram (s : State) (p : Fin 8) (q : DmcReq) (c : Fin 8) :
    (s.enterWrite p q c).dram = memSetBytes s.dram q.pa q.data := by
  unfold State.enterWrite
  dsimp only
  split <;> rfl

/-- The read at the front of a port leaves it with its bytes. -/
def State.readDone (s : State) (p : Fin 8) (q : DmcReq) (ecc : Nat) : State :=
  (({ s with fresh := s.fresh + q.data.length } : State).popPort p).modDmc fun d =>
    { d with rdData := d.rdData.set p.val (s.received q ecc) }

theorem exec_requestComplete_served (t : Nat) (p : Fin 8) (ecc : Fin 3) (s : State) {q : DmcReq} {rest : List DmcReq}
    (hport : (s.at t).dmcs.ports[p] = q :: rest) (hread : q.write = false) (hserved : q.served = true) :
    exec (.requestComplete t p ecc) s = .next (((((s.at t).readDone p q ecc.val).latency p q).countBytes p false
      q.data.length).linkEcc ((s.at t).chanOf q.pa) ecc.val) := by
  unfold exec execRequestComplete State.step'
  dsimp only
  rw [hport]
  dsimp only
  rw [if_neg]
  · rfl
  · rw [hread, hserved]
    exact nofun

theorem State.onlyRecords_latency (s : State) (p : Fin 8) (q : DmcReq) : OnlyRecords s (s.latency p q) := by
  have hmax : OnlyRecords s (s.keepMax (.dmc 1) (DMC_P_MAXLAT p.val) (toNs (s.now - q.since))) := by
    unfold State.keepMax
    split
    · exact State.onlyRecords_put _ _ _ _
    · exact .refl s
  unfold State.latency
  dsimp only
  split
  · exact hmax.trans ((State.onlyRecords_bump _ _ _).trans (State.onlyRecords_raise _ _ _))
  · exact hmax

theorem State.onlyRecords_linkEcc (s : State) (c e : Nat) : OnlyRecords s (s.linkEcc c e) := by
  unfold State.linkEcc
  split
  · exact .refl s
  · split
    · exact .refl s
    · exact (State.onlyRecords_bump _ _ _).trans (State.onlyRecords_raise _ _ _)
    · exact (State.onlyRecords_bump _ _ _).trans ((State.onlyRecords_raise _ _ _).trans (State.onlyRecords_err _ _ _ _ _ _))

theorem State.count_dmcs (s : State) (p : Page) (f : RF) (n : Nat) : (s.count p f n).dmcs = s.dmcs := rfl

theorem State.countBytes_read (s : State) (p : Fin 8) (n : Nat) : (s.countBytes p false n).dmcs.ports = s.dmcs.ports ∧
    (s.countBytes p false n).dmcs.rdData = s.dmcs.rdData := by
  unfold State.countBytes
  dsimp only
  rw [State.count_dmcs]
  exact ⟨rfl, rfl⟩

/-- What follows a completed read changes neither the ports nor what they received. -/
theorem State.readDone_after (s : State) (p : Fin 8) (q : DmcReq) (n c e : Nat) :
    (((s.latency p q).countBytes p false n).linkEcc c e).dmcs.ports = s.dmcs.ports ∧
      (((s.latency p q).countBytes p false n).linkEcc c e).dmcs.rdData = s.dmcs.rdData := by
  have hecc := (State.onlyRecords_linkEcc ((s.latency p q).countBytes p false n) c e).dmcs
  have hlat := (s.onlyRecords_latency p q).dmcs
  exact ⟨(congrArg Dmc.ports hecc).trans ((State.countBytes_read _ p n).1.trans (congrArg Dmc.ports hlat)),
    (congrArg Dmc.rdData hecc).trans ((State.countBytes_read _ p n).2.trans (congrArg Dmc.rdData hlat))⟩

/-! ### Grants and upkeep (R307–R314) -/

theorem exec_grantBoundary_due (t : Nat) (c : Fin 8) (drift : Int) (ecc : Fin 3) (s : State) (hrun : (s.at t).dmcState = DMC_RUN)
    (hused : chanUsed (s.at t).dmcCfg c = true) (hfree : (s.at t).dmcs.chans[c].until' ≤ (s.at t).now) :
    exec (.grantBoundary t c drift ecc) s = .next ((s.at t).grantBoundary c drift ecc.val) := by
  refine congrArg Host.Outcome.next (if_neg ?_)
  rw [hused]
  simp only [hrun, ne_eq, not_true_eq_false, Bool.not_true, Bool.false_eq_true, false_or]
  omega

theorem exec_refreshDue_due (t : Nat) (c : Fin 8) (r : Fin 2) (s : State) (hrun : (s.at t).dmcState = DMC_RUN)
    (hused : chanUsed (s.at t).dmcCfg c = true) (hrank : (s.at t).dmcRanks.contains r = true)
    (hdue : (s.at t).dmcs.chans[c].ranks[r].due ≤ (s.at t).now) :
    exec (.refreshDue t c r) s = .next ((s.at t).modRank c r fun x =>
      { x with debt := min 8 (x.debt + 1), due := x.due + bandInterval (s.at t).dmcs.chans[c].band }) := by
  refine congrArg Host.Outcome.next (if_neg ?_)
  rw [hused, hrank]
  simp only [hrun, ne_eq, not_true_eq_false, Bool.not_true, Bool.false_eq_true, false_or]
  omega

theorem exec_retrainSlice_due (t : Nat) (c : Fin 8) (s : State) {ms : Nat}
    (hms : ms = msU (bitsOf ((s.at t).get (.dmc 0) DMC_RETRAIN) 0 14)) (hrun : (s.at t).dmcState = DMC_RUN)
    (hused : chanUsed (s.at t).dmcCfg c = true) (hon : ms ≠ 0) (hdue : (s.at t).dmcs.chans[c].slice ≤ (s.at t).now) :
    exec (.retrainSlice t c) s = .next ((s.at t).modChan c fun k =>
      { k with slice := (s.at t).now + ms, sliceDue := if k.sliceDue.isSome then k.sliceDue else some (s.at t).now }) := by
  subst hms
  refine congrArg Host.Outcome.next (if_neg ?_)
  rw [hused]
  simp only [hrun, hon, ne_eq, not_true_eq_false, Bool.not_true, Bool.false_eq_true, false_or]
  omega

theorem exec_mr4Read_due (t : Nat) (c : Fin 8) (r : Fin 2) (code : Fin 256) (band : Fin 4) (cool : Bool) (s : State)
    (hrun : (s.at t).dmcState = DMC_RUN) (hused : chanUsed (s.at t).dmcCfg c = true)
    (hrank : (s.at t).dmcRanks.contains r = true)
    (hdue : (s.at t).dmcs.chans[c].ranks[r].mr4At + msU (bitsOf ((s.at t).get (.dmc 0) DMC_TEMP_MS) 0 8) ≤ (s.at t).now) :
    exec (.mr4Read t c r code band cool) s = .next ((s.at t).mr4Read c r code.val band.val cool) := by
  refine congrArg Host.Outcome.next (if_neg ?_)
  rw [hused, hrank]
  simp only [hrun, ne_eq, not_true_eq_false, Bool.not_true, Bool.false_eq_true, false_or]
  omega

theorem exec_rhWindowEnd_due (t : Nat) (s : State) (hrun : (s.at t).dmcState = DMC_RUN)
    (hdue : (s.at t).dmcs.rhFrom + msU 32 ≤ (s.at t).now) :
    exec (.rhWindowEnd t) s = .next ((s.at t).modDmc fun d =>
      { d with rhFrom := (s.at t).now, chans := d.chans.map fun k => { k with rh := [], throttle := [] } }) := by
  refine congrArg Host.Outcome.next (if_neg ?_)
  rintro (h | h)
  · exact h hrun
  · exact absurd hdue (Nat.not_le.mpr h)

theorem exec_powerDownEntry_idle (t : Nat) (c : Fin 8) (r : Fin 2) (s : State) (hrun : (s.at t).dmcState = DMC_RUN)
    (hused : chanUsed (s.at t).dmcCfg c = true) (hrank : (s.at t).dmcRanks.contains r = true)
    (hon : bitsOf ((s.at t).get (.dmc 0) DMC_PD_IDLE) 0 16 ≠ 0) (hdebt : (s.at t).dmcs.chans[c].ranks[r].debt = 0)
    (hports : (s.at t).dmcs.ports.toList.all (·.isEmpty) = true) (hqueue : (s.at t).dmcs.chans[c].wq = [])
    (hdue : (s.at t).dmcs.chans[c].ranks[r].idleFrom + nsU (bitsOf ((s.at t).get (.dmc 0) DMC_PD_IDLE) 0 16) ≤ (s.at t).now) :
    exec (.powerDownEntry t c r) s = .next ((s.at t).modRank c r fun k => { k with pd := true }) := by
  have hnone (f : DmcReq → Bool) : ((s.at t).dmcs.ports.toList.any fun l => l.any f) = false := by
    rw [List.any_eq_false]
    intro l hl
    rw [List.isEmpty_iff.mp (List.all_eq_true.mp hports l hl)]
    exact Bool.false_ne_true
  refine congrArg Host.Outcome.next (if_neg ?_)
  rw [hused, hrank, hnone, hqueue]
  simp only [hrun, hon, hdebt, ne_eq, not_true_eq_false, Bool.not_true, Bool.false_eq_true, false_or, List.any_nil]
  omega

/-! ### The statement -/

/-- Settles O28: in RUN each command is its step, and what it changes is its port, channel or rank. -/
theorem dmcTrafficCompletes : Obligations.DmcTrafficCompletes := by
  refine ⟨?request, ?write, ?read, ?grant, ?refresh, ?slice, ?mr4, ?window, ?powerDown⟩
  case request =>
    rintro p write pa len data hmin hmax hseg t s ⟨hrun, hfits⟩
    refine ⟨_, congrArg Host.Outcome.next ((s.at t).portRequest_run p write data hmin hmax hseg hrun hfits), ?_⟩
    obtain ⟨hports, hregs, hdram⟩ := State.onlyWakes_wakeRanks ((s.at t).modDmc fun d =>
      { d with ports := d.ports.set p.val ((s.at t).dmcs.ports[p] ++ [(s.at t).taken p write pa len data]) }) pa len
    refine ⟨(congrArg (fun l : Vector (List DmcReq) 8 => l[p]) hports).trans (Vector.getElem_set_self _), fun a _ => ?_, fun a => ?_⟩
    · exact congrArg (fun l => (cellGet l a).getD (resetAt a)) hregs
    · exact congrArg (memByte · a) hdram
  case write =>
    rintro p q rest c t s ⟨hport, hchan, hwrite, hsince, hroom⟩
    exact ⟨_, exec_writeQueueEntry_front t p s hport hchan hwrite hsince hroom, rfl, (s.at t).enterWrite_dram p q c⟩
  case read =>
    rintro p ecc q rest t s ⟨hport, hread, hserved⟩
    obtain ⟨hports, hdata⟩ := ((s.at t).readDone p q ecc.val).readDone_after p q q.data.length ((s.at t).chanOf q.pa) ecc.val
    have hgot := (congrArg (fun l : Vector (List Byte) 8 => l[p]) hdata).trans (Vector.getElem_set_self _)
    refine ⟨_, exec_requestComplete_served t p ecc s hport hread hserved,
      (congrArg (fun l : Vector (List DmcReq) 8 => l[p]) hports).trans ((Vector.getElem_set_self _).trans ?_), hgot, ?_⟩
    · exact congrArg (List.drop 1) hport
    · rintro rfl
      exact hgot.trans (if_pos (.inl rfl))
  case grant =>
    rintro c drift ecc t s ⟨hrun, hused, hfree⟩
    exact ⟨_, exec_grantBoundary_due t c drift ecc s hrun hused hfree, rfl⟩
  case refresh =>
    rintro c r t s ⟨hrun, hused, hrank, hdue⟩
    have hset := (s.at t).modRank_rank c r fun x =>
      { x with debt := min 8 (x.debt + 1), due := x.due + bandInterval (s.at t).dmcs.chans[c].band }
    exact ⟨_, exec_refreshDue_due t c r s hrun hused hrank hdue, congrArg DmcRank.debt hset, congrArg DmcRank.due hset,
      fun _ _ => rfl⟩
  case slice =>
    rintro c t s ⟨hrun, hused, hon, hdue⟩
    have hms : msU (bitsOf ((s.at t).get (.dmc 0) DMC_RETRAIN) 0 14) ≠ 0 := by unfold msU; omega
    have hset := (s.at t).modChan_chan c fun k => { k with
      slice := (s.at t).now + msU (bitsOf ((s.at t).get (.dmc 0) DMC_RETRAIN) 0 14)
      sliceDue := if k.sliceDue.isSome then k.sliceDue else some (s.at t).now }
    refine ⟨_, exec_retrainSlice_due t c s rfl hrun hused hms hdue, congrArg DmcChan.slice hset,
      (congrArg (fun k : DmcChan => k.sliceDue.isSome) hset).trans ?_⟩
    dsimp only
    split
    · assumption
    · rfl
  case mr4 =>
    rintro c r code band cool t s ⟨hrun, hused, hrank, hdue⟩
    exact ⟨_, exec_mr4Read_due t c r code band cool s hrun hused hrank hdue, rfl⟩
  case window =>
    rintro t s ⟨hrun, hdue⟩
    refine ⟨_, exec_rhWindowEnd_due t s hrun hdue, rfl, fun c => ?_⟩
    have hchan := Vector.getElem_map (fun k : DmcChan => { k with rh := [], throttle := [] }) (xs := (s.at t).dmcs.chans) c.isLt
    exact ⟨congrArg DmcChan.rh hchan, congrArg DmcChan.throttle hchan⟩
  case powerDown =>
    rintro c r t s ⟨hrun, hused, hrank, hon, hdebt, hports, hqueue, hdue⟩
    exact ⟨_, exec_powerDownEntry_idle t c r s hrun hused hrank hon hdebt hports hqueue hdue,
      congrArg DmcRank.pd ((s.at t).modRank_rank c r fun k => { k with pd := true }), fun _ _ => rfl⟩

end Sys2Proof.Machine

/-! ## The windows and the hardware of the mailbox (R325–R328, R336–R340) -/

namespace Sys2Proof.Machine

/-! ### What an event leaves of the MP -/

/-- An event moves nothing of the MP but the recorder's sequence number (R450). -/
theorem State.raise_mp (s : State) (p : Page) (b : Nat) : ∃ n, (s.raise p b).mp = { s.mp with recSeq := n } := by
  unfold State.raise State.record
  dsimp only
  split_ifs
  · exact ⟨s.mp.recSeq, rfl⟩
  · exact ⟨_, rfl⟩
  · exact ⟨s.mp.recSeq, rfl⟩

theorem State.raise_loadFrom (s : State) (p : Page) (b : Nat) : (s.raise p b).mp.loadFrom = s.mp.loadFrom := by
  obtain ⟨n, h⟩ := s.raise_mp p b
  rw [h]

theorem State.bump_mp (s : State) (p : Page) (f : RF) : (s.bump p f).mp = s.mp := rfl

theorem State.keepMax_mp (s : State) (p : Page) (f : RF) (x : Nat) : (s.keepMax p f x).mp = s.mp := by
  unfold State.keepMax
  split <;> rfl

/-! ### Push and pop (R336, R340) -/

theorem exec_mbxPush (t : Nat) (path : Path) (s : State) :
    exec (.mbxPush t path) s = .next ((s.at t).regBy path .mbx MBX_PUSH 1) := rfl
theorem exec_mbxPop (t : Nat) (path : Path) (s : State) :
    exec (.mbxPop t path) s = .next ((s.at t).regBy path .mbx MBX_POP 1) := rfl

theorem State.blockWrite_mbxPush (s : State) (path : Path) : s.blockWrite path .mbx MBX_PUSH.off 1 = s.mbxPushWrite path :=
  show s.mbxWrite path MBX_PUSH.off 1 = _ from (if_pos rfl).trans (if_pos rfl)

theorem State.blockWrite_mbxPop (s : State) (path : Path) : s.blockWrite path .mbx MBX_POP.off 1 = s.mbxPop path :=
  show s.mbxWrite path MBX_POP.off 1 = _ from (if_neg (by decide)).trans ((if_pos rfl).trans (if_pos rfl))

/-- An event counted leaves the mailbox's slots. -/
theorem State.counted_slot (s : State) (f : RF) (b : Nat) (i : Fin 32) :
    ((s.bump .mbx f).raise .mbx b).mbx.slots[i] = s.mbx.slots[i] :=
  congrArg (fun m : Mbx => m.slots[i]) ((s.onlyRecords_bump .mbx f).trans (State.onlyRecords_raise _ .mbx b)).mbx

/-- Slot `i` taken by the command `c`. -/
def State.slotTaken (s : State) (i : Fin 32) (c : MbxSlot) : State :=
  let u := s.modSlot i fun _ => c
  { u with mbx := { u.mbx with pushes := s.mbx.pushes + 1 } }

theorem State.slotTaken_slot (s : State) (i : Fin 32) (c : MbxSlot) : (s.slotTaken i c).mbx.slots[i] = c :=
  s.modSlot_slots i fun _ => c

/-- A push that finds slot `i` takes it. -/
theorem State.mbxPush_ok (s : State) {o port ref key : Nat} {w : Vector Word 15} {i : Fin 32}
    (hfree : s.pushCheck o (bitsOf w[0].toNat 16 8) = .ok i) : (s.mbxPush o w port ref key).1 = ((s.slotTaken i
      { st := SL_QUEUED, order := s.mbx.pushes, pushedAt := s.now, origin := o
        cmd := w.push (BitVec.ofNat 32 (o * 2 ^ 24 + s.localNs % 2 ^ 24)), port := port, ref := ref, key := key }).bump
      .mbx MBX_CMD_CNT).raise .mbx 0 := by
  unfold State.mbxPush State.slotTaken
  rw [hfree]
  rfl

theorem State.mbxPush_slot (s : State) {o port ref key : Nat} {w : Vector Word 15} {i : Fin 32}
    (hfree : s.pushCheck o (bitsOf w[0].toNat 16 8) = .ok i) :
    (s.mbxPush o w port ref key).1.mbx.slots[i].st = SL_QUEUED ∧ (s.mbxPush o w port ref key).1.mbx.slots[i].origin = o := by
  rw [s.mbxPush_ok hfree]
  have hslot (c : MbxSlot) := (State.counted_slot (s.slotTaken i c) MBX_CMD_CNT 0 i).trans (s.slotTaken_slot i c)
  exact ⟨congrArg MbxSlot.st (hslot _), congrArg MbxSlot.origin (hslot _)⟩

theorem State.mbxPushWrite_slot (s : State) {path : Path} {i : Fin 32} (hcur : s.icpCur = none)
    (hfree : s.pushCheck (originOf path) (bitsOf s.mbx.win[pathSlot path][0].toNat 16 8) = .ok i) :
    (s.mbxPushWrite path).mbx.slots[i].st = SL_QUEUED ∧ (s.mbxPushWrite path).mbx.slots[i].origin = originOf path := by
  have hpush := s.mbxPush_slot (port := 0) (ref := 0) (key := 0) hfree
  unfold State.mbxPushWrite
  rw [hcur]
  exact hpush

theorem State.mbxPop_final (s : State) {path : Path} {i : Fin 32} (hrsp : s.rspSlot path = some i)
    (hfinal : s.mbx.slots[i].final = true) : (s.mbxPop path).mbx.slots[i] = {} := by
  have hpop : s.mbxPop path = s.modSlot i fun _ => {} := by
    unfold State.mbxPop
    rw [hrsp]
    exact if_pos hfinal
  rw [hpop]
  exact s.modSlot_slots i _

theorem State.mbxPop_open (s : State) {path : Path} {i : Fin 32} (hrsp : s.rspSlot path = some i)
    (hfinal : s.mbx.slots[i].final = false) :
    (s.mbxPop path).mbx.slots[i] = { s.mbx.slots[i] with st := SL_RUNNING, rsp := none } := by
  have hpop : s.mbxPop path = s.modSlot i fun c => { c with st := SL_RUNNING, rsp := none } := by
    unfold State.mbxPop
    rw [hrsp]
    exact if_neg (by rw [hfinal]; exact Bool.false_ne_true)
  rw [hpop]
  exact s.modSlot_slots i _

/-! ### Responses and commands past their time (R339, R340) -/

/-- A response dropped unread (R340). -/
def State.rspDropped (s : State) (i : Fin 32) : State := ((s.modSlot i fun _ => {}).bump .mbx MBX_RSP_DROP_CNT).raise .mbx 4

theorem exec_rspDrop_due (t : Nat) (i : Fin 32) (s : State) (hdom : (s.at t).domOn PD_NOC = true)
    (hposted : (s.at t).mbx.slots[i].st = SL_POSTED) (hfinal : (s.at t).mbx.slots[i].final = true)
    (hrsp : (s.at t).mbx.slots[i].rsp.isSome = true)
    (hdue : (s.at t).mbx.slots[i].postedAt + msU (bitsOf ((s.at t).get .mbx MBX_RSP_TMO) 0 16) ≤ (s.at t).now) :
    exec (.rspDrop t i) s = .next ((s.at t).rspDropped i) :=
  congrArg Host.Outcome.next (if_pos ⟨hdom, hposted, hfinal, hrsp, hdue⟩)

theorem State.rspDropped_slot (s : State) (i : Fin 32) : (s.rspDropped i).mbx.slots[i] = {} :=
  (State.counted_slot _ _ _ i).trans (s.modSlot_slots i _)

theorem exec_mbxCommandTimeout_due (t : Nat) (i : Fin 32) (s : State) {d : Nat}
    (hdeadline : (s.at t).mbx.slots[i].deadline = some d) (hdue : d ≤ (s.at t).now) (hup : (s.at t).mp.up = true)
    (hwait : (s.at t).mbx.slots[i].wait ≠ .content) :
    exec (.mbxCommandTimeout t i) s = .next ((s.at t).mbxPost i ST_TIMEOUT 0 0 []) := by
  unfold exec execMbxCommandTimeout State.step'
  dsimp only
  rw [hdeadline]
  dsimp only
  rw [if_neg, if_neg hwait]
  rw [hup]
  simp only [Bool.not_true, Bool.false_eq_true, false_or]
  omega

/-! ### The windows of load and budget (R325, R328) -/

/-- The word `w` of the load `l` shown, with its peak and an event when it is at 95 % (R325). -/
def State.loadShown (s : State) (w l : Nat) : State :=
  let s := (s.put .mbx MP_LOAD w).keepMax .mbx MP_LOAD_PEAK l
  if 95 ≤ l then s.raise .mbx 7 else s

theorem exec_mpLoadWindow_due (t load ext : Nat) (s : State) (hdom : (s.at t).domOn PD_NOC = true)
    (hdue : (s.at t).mp.loadFrom + msU 100 ≤ (s.at t).now) : exec (.mpLoadWindow t load ext) s =
      .next (({ s.at t with mp := { (s.at t).mp with loadFrom := (s.at t).now } } : State).loadShown
        (ofBool (decide (95 ≤ min load 100)) * 2 ^ 31 + min ext 100 * 2 ^ 16 + min load 100) (min load 100)) := by
  unfold exec execMpLoadWindow State.step' State.loadShown
  dsimp only
  rw [if_neg]
  rw [hdom]
  simp only [Bool.not_true, Bool.false_eq_true, false_or]
  omega

theorem State.loadShown_load (s : State) {w : Nat} (l : Nat) (hw : w < 2 ^ 32) :
    (s.loadShown w l).mp.loadFrom = s.mp.loadFrom ∧ (s.loadShown w l).get .mbx MP_LOAD = w := by
  have hword : (s.put .mbx MP_LOAD w).get .mbx MP_LOAD = w :=
    (s.get_put_same _ _ _ (by decide)).trans (Nat.mod_eq_of_lt hw)
  have hpeak : ((s.put .mbx MP_LOAD w).keepMax .mbx MP_LOAD_PEAK l).get .mbx MP_LOAD = w :=
    (State.get_keepMax_ne _ _ _ _ _ _ (by decide)).trans hword
  have hmp : ((s.put .mbx MP_LOAD w).keepMax .mbx MP_LOAD_PEAK l).mp.loadFrom = s.mp.loadFrom := by
    rw [State.keepMax_mp, State.put_mp]
  unfold State.loadShown
  dsimp only
  split
  · exact ⟨(State.raise_loadFrom _ _ _).trans hmp, (State.get_raise _ _ _ _ _ (by decide)).trans hpeak⟩
  · exact ⟨hmp, hpeak⟩

/-- A word of `MP_LOAD` (R325). -/
theorem loadWord_eq (load ext : Nat) : ofBool (decide (95 ≤ min load 100)) * 2 ^ 31 + min ext 100 * 2 ^ 16 + min load 100 =
      ofBool (decide (95 ≤ load)) * 2 ^ 31 + min ext 100 * 2 ^ 16 + min load 100 ∧
    ofBool (decide (95 ≤ load)) * 2 ^ 31 + min ext 100 * 2 ^ 16 + min load 100 < 2 ^ 32 := by
  have hsat : decide (95 ≤ min load 100) = decide (95 ≤ load) := by rw [decide_eq_decide]; omega
  refine ⟨by rw [hsat], ?_⟩
  unfold ofBool
  split <;> omega

theorem exec_extBudgetPeriod_due (t : Nat) (s : State) (hdue : (s.at t).mp.extFrom + msU 10 ≤ (s.at t).now) :
    exec (.extBudgetPeriod t) s = .next { s.at t with mp := { (s.at t).mp with extFrom := (s.at t).now, extCut := false } } :=
  congrArg Host.Outcome.next (if_neg (Nat.not_lt.mpr hdue))

theorem exec_extPreempt_live (t : Nat) (s : State) (hlive : (s.at t).pathLive .ext = true) : exec (.extPreempt t) s =
    .next (({ s.at t with mp := { (s.at t).mp with extCut := true } } : State).bump .mbx (MP_DL_MISS 6)) :=
  congrArg Host.Outcome.next (if_pos hlive)

theorem exec_extFault_outside (t a : Nat) (write : Bool) (s : State) (hmay : (s.at t).extMay a write = false) :
    exec (.extFault t a write) s = .next ((s.at t).access .ext a write id) :=
  congrArg Host.Outcome.next (if_neg (by rw [hmay]; exact Bool.false_ne_true))

/-! ### The statement -/

/-- Settles O29: the windows are writes of MBX, and each event of the hardware is its step when it is due. -/
theorem mailboxHardwareCompletes : Obligations.MailboxHardwareCompletes := by
  refine ⟨?push, ?popFinal, ?popOpen, ?drop, ?timeout, ?load, ?budget, ?preempt, ?fault⟩
  case push =>
    intro path i
    refine completes_of_block_write (exec_mbxPush · path) (by decide) (by decide) (by decide) (fun _ h => h.1) ?_
    rintro u ⟨-, hcur, hfree⟩
    rw [u.blockWrite_mbxPush]
    exact u.mbxPushWrite_slot hcur hfree
  case popFinal =>
    intro path i
    refine completes_of_block_write (exec_mbxPop · path) (by decide) (by decide) (by decide) (fun _ h => h.1) ?_
    rintro u ⟨-, hrsp, hfinal⟩
    rw [u.blockWrite_mbxPop]
    exact u.mbxPop_final hrsp hfinal
  case popOpen =>
    intro path i
    refine completes_of_block_write (exec_mbxPop · path) (by decide) (by decide) (by decide) (fun _ h => h.1) ?_
    rintro u ⟨-, hrsp, hfinal⟩
    rw [u.blockWrite_mbxPop]
    have hslot := u.mbxPop_open hrsp hfinal
    exact ⟨congrArg MbxSlot.st hslot, congrArg MbxSlot.rsp hslot⟩
  case drop =>
    rintro i t s ⟨hdom, hposted, hfinal, hrsp, hdue⟩
    exact ⟨_, exec_rspDrop_due t i s hdom hposted hfinal hrsp hdue, rfl, (s.at t).rspDropped_slot i⟩
  case timeout =>
    rintro i d t s ⟨hdeadline, hdue, hup, hwait⟩
    exact ⟨_, exec_mbxCommandTimeout_due t i s hdeadline hdue hup hwait, rfl⟩
  case load =>
    rintro load ext t s ⟨hdom, hdue⟩
    obtain ⟨hword, hfits⟩ := loadWord_eq load ext
    have hexec := exec_mpLoadWindow_due t load ext s hdom hdue
    rw [hword] at hexec
    exact ⟨_, hexec, State.loadShown_load _ (min load 100) hfits⟩
  case budget =>
    intro t s hdue
    exact ⟨_, exec_extBudgetPeriod_due t s hdue, rfl⟩
  case preempt =>
    intro t s hlive
    refine ⟨_, exec_extPreempt_live t s hlive, congrArg Mp.extCut (State.bump_mp _ _ _), fun a ha => ?_⟩
    exact (State.reg_bump_ne _ _ _ (Ne.symm (List.ne_of_not_mem_cons ha))).trans rfl
  case fault =>
    intro a write t s hmay
    exact ⟨_, exec_extFault_outside t a write s hmay, rfl⟩

end Sys2Proof.Machine

/-! ## The mailbox commands (R338, R342) -/

namespace Sys2Proof.Machine

/-! ### A row of the command table (R338, R342) -/

/-- A command of a row: one that the Runtime knows, whose target is encoded (R342). -/
structure MbxSlot.Known (c : MbxSlot) : Prop where
  form : c.formFails = []
  target : ¬ (c.opcode = 0x41 ∧ bitsOf (c.word 1) 0 2 = 3)

theorem MbxSlot.Known.isSome {c : MbxSlot} (h : c.Known) : (mbxForm c.opcode).isNone = false := by
  have hform := h.form
  unfold MbxSlot.formFails at hform
  cases hop : mbxForm c.opcode with
  | none => rw [hop] at hform; exact absurd hform nofun
  | some _ => rfl

theorem MbxSlot.known_ownOp {op : Nat} {c : MbxSlot} (hown : ownOp op c = true) (hop : op ≠ 0x41) (hform : c.formFails = []) :
    c.Known := ⟨hform, fun h => hop ((beq_iff_eq.mp hown).symm.trans h.1)⟩

theorem MbxSlot.known_ownSub {op sub : Nat} {c : MbxSlot} (hown : ownSub op sub c = true) (hsub : op ≠ 0x41 ∨ sub ≠ 3)
    (hform : c.formFails = []) : c.Known := by
  obtain ⟨hop, hbits⟩ := Bool.and_eq_true_iff.mp hown
  exact ⟨hform, fun h => hsub.elim (fun hne => hne ((beq_iff_eq.mp hop).symm.trans h.1))
    fun hne => hne ((beq_iff_eq.mp hbits).symm.trans h.2)⟩

/-- A known command at the head of the queue is a row's, not an orphan. -/
theorem State.mbxOrphans_known (s : State) {i : Fin 32} (hhead : s.mbxHead = some i) (hknown : s.mbx.slots[i].Known) (fuel : Nat) :
    s.mbxOrphans fuel = s := by
  cases fuel with
  | zero => rfl
  | succ fuel =>
    unfold State.mbxOrphans
    rw [hhead]
    exact if_neg fun h => h.elim (fun hnone => absurd (hknown.isSome.symm.trans hnone) Bool.false_ne_true) hknown.target

theorem State.inExec_formFails (s : State) (i : Fin 32) :
    ((s.inExec i).mbx.slots[i]).formFails = (s.mbx.slots[i]).formFails :=
  (congrArg MbxSlot.formFails (s.modSlot_slots i fun c => { c with st := SL_EXEC })).trans rfl

/-- The Runtime's own command at the head of the queue, all checks passed, acts in EXEC. -/
theorem State.mbxRow_takes (s : State) {own : MbxSlot → Bool} {fails : State → MbxSlot → List MbxFail}
    {act : State → Fin 32 → MbxSlot → State} {i : Fin 32} (htakes : s.takes own i) (hknown : s.mbx.slots[i].Known)
    (hpass : fails s s.mbx.slots[i] = []) : s.mbxRow own fails act = act (s.inExec i) i s.mbx.slots[i] := by
  obtain ⟨hup, hhead, hown, hform⟩ := htakes
  have hexec : s.mbxExec i [] (fun u => act u i s.mbx.slots[i]) = act (s.inExec i) i s.mbx.slots[i] := by
    show (match worstFail (((s.inExec i).mbx.slots[i]).formFails ++ []) with | some (_, _, _) => _ | none => _) = _
    rw [s.inExec_formFails, hform]
    rfl
  unfold State.mbxRow
  rw [hup, s.mbxOrphans_known hhead hknown]
  dsimp only
  rw [hhead]
  dsimp only
  rw [hown, hpass]
  exact hexec

theorem State.mbxRow_op (s : State) {op : Nat} {fails : State → MbxSlot → List MbxFail} {act : State → Fin 32 → MbxSlot → State}
    {i : Fin 32} (htakes : s.takes (ownOp op) i) (hop : op ≠ 0x41) (hpass : fails s s.mbx.slots[i] = []) :
    s.mbxRow (ownOp op) fails act = act (s.inExec i) i s.mbx.slots[i] :=
  have ⟨_, _, hown, hform⟩ := htakes
  s.mbxRow_takes htakes (MbxSlot.known_ownOp hown hop hform) hpass

theorem State.mbxRow_sub (s : State) {op sub : Nat} {fails : State → MbxSlot → List MbxFail}
    {act : State → Fin 32 → MbxSlot → State} {i : Fin 32} (htakes : s.takes (ownSub op sub) i)
    (hsub : op ≠ 0x41 ∨ sub ≠ 3) (hpass : fails s s.mbx.slots[i] = []) :
    s.mbxRow (ownSub op sub) fails act = act (s.inExec i) i s.mbx.slots[i] :=
  have ⟨_, _, hown, hform⟩ := htakes
  s.mbxRow_takes htakes (MbxSlot.known_ownSub hown hsub hform) hpass

theorem failIf_false {b : Bool} {cls d st : Nat} (h : b = false) : failIf b cls d st = [] := by rw [h]; rfl

/-! ### Units, programs, time and sequences (R342, R344, R453) -/

/-- Settles O30: each command is the act of its row on the slot in EXEC. -/
theorem mailboxControlCompletes : Obligations.MailboxControlCompletes := by
  refine ⟨?ping, ?start, ?stop, ?park, ?clear, ?program, ?time, ?seq⟩
  case ping =>
    intro i t s h
    exact ⟨_, congrArg Host.Outcome.next ((s.at t).mbxRow_op h (by decide) rfl), rfl⟩
  case start =>
    rintro i t s ⟨h, hpass⟩
    exact ⟨_, congrArg Host.Outcome.next ((s.at t).mbxRow_op h (by decide) hpass), rfl⟩
  case stop =>
    rintro i t s ⟨h, hpass⟩
    exact ⟨_, congrArg Host.Outcome.next ((s.at t).mbxRow_op h (by decide) hpass), rfl⟩
  case park =>
    rintro i t s ⟨h, hpass⟩
    exact ⟨_, congrArg Host.Outcome.next ((s.at t).mbxRow_op h (by decide) hpass), rfl⟩
  case clear =>
    rintro i x t s ⟨h, hpass, hunit⟩
    refine ⟨_, congrArg Host.Outcome.next ((s.at t).mbxRow_op h (by decide) hpass), ?_⟩
    dsimp only
    rw [hunit]
  case program =>
    rintro i n p t s ⟨h, hpass, heng, hgo, hprogram⟩
    refine ⟨_, congrArg Host.Outcome.next ((s.at t).mbxRow_op h (by decide) hpass), ?_⟩
    dsimp only
    rw [heng, hprogram]
    dsimp only
    rw [hgo]
    rfl
  case time =>
    rintro i t s ⟨h, hns⟩
    exact ⟨_, congrArg Host.Outcome.next ((s.at t).mbxRow_op h (by decide)
      (failIf_false (decide_eq_false (Nat.not_le.mpr hns)))), rfl⟩
  case seq =>
    rintro i l t s ⟨h, hpass, hentries⟩
    refine ⟨_, congrArg Host.Outcome.next ((s.at t).mbxRow_op h (by decide) hpass), ?_⟩
    dsimp only
    rw [hentries]

/-! ### What a response posted leaves -/

/-- From `s` to `u` nothing of the content changes, and nothing of the MP but the recorder's number. -/
structure KeepsContent (s u : State) : Prop where
  content : u.content = s.content
  mp : ∃ n, u.mp = { s.mp with recSeq := n }

theorem KeepsContent.refl (s : State) : KeepsContent s s := ⟨rfl, s.mp.recSeq, rfl⟩

section
variable {s u v : State}

theorem KeepsContent.hidden (h : KeepsContent s u) (hcontent : v.content = u.content) (hmp : v.mp = u.mp) : KeepsContent s v :=
  have ⟨n, hn⟩ := h.mp
  ⟨hcontent.trans h.content, n, hmp.trans hn⟩

theorem KeepsContent.ite {c : Prop} [Decidable c] (hu : c → KeepsContent s u) (hv : ¬ c → KeepsContent s v) :
    KeepsContent s (if c then u else v) := by
  split
  · exact hu ‹_›
  · exact hv ‹_›

theorem KeepsContent.bump (h : KeepsContent s u) {p : Page} {f : RF} : KeepsContent s (u.bump p f) := h.hidden rfl rfl

theorem OnlyRecords.content (h : OnlyRecords s u) : u.content = s.content := by
  rw [OnlyRecords] at h; rw [h]

theorem KeepsContent.raise (h : KeepsContent s u) {p : Page} {b : Nat} : KeepsContent s (u.raise p b) := by
  obtain ⟨n, hn⟩ := h.mp
  obtain ⟨m, hm⟩ := u.raise_mp p b
  exact ⟨(u.onlyRecords_raise p b).content.trans h.content, m, by rw [hm, hn]⟩

theorem KeepsContent.icpPost (h : KeepsContent s u) {i : Fin 32} {status detail : Nat} {owed : Option MbxRec}
    {payload : List Byte} : KeepsContent s (u.icpPost i status detail owed payload) := by
  unfold State.icpPost
  dsimp only
  split
  · exact h
  · refine .ite (fun _ => h.hidden rfl rfl) fun _ => ?_
    unfold State.icpReplyFor
    split
    · split <;> exact h.hidden rfl rfl
    · exact h.hidden rfl rfl

/-- A response is a slot, an event and what it counts; a STATE_REJECT is logged besides (R426). -/
theorem KeepsContent.mbxPost (h : KeepsContent s u) {i : Fin 32} {status detail state : Nat} {result : List Nat}
    (hstatus : status ≠ ST_STATE_REJECT) : KeepsContent s (u.mbxPost i status detail state result) := by
  unfold State.mbxPost
  rw [if_neg hstatus]
  extract_lets c final w0 w1 words same missed box posted icp shown
  have hmissed : KeepsContent s missed := .ite (fun _ => h.bump) fun _ => h
  have hshown : KeepsContent s shown := hmissed.hidden rfl rfl
  exact .ite (fun _ => hshown.icpPost) fun _ => .ite (fun _ => hshown.raise) fun _ => hshown.raise

end

/-- What the log control sets, the response that follows leaves. -/
theorem State.logSet (s : State) (i : Fin 32) (mp : Mp) :
    ∃ n, (({ s with mp := mp } : State).mbxPost i ST_OK 0 0 []).mp = { mp with recSeq := n } :=
  ((KeepsContent.refl ({ s with mp := mp } : State)).mbxPost (by decide)).mp

/-! ### Calibration, records, content, the log and the power state (R339, R345–R347, R418, R426, R450, R454) -/

theorem KeepsContent.mbxAccept {s u : State} (h : KeepsContent s u) {i : Fin 32} {w : MbxWait} {lim : Option Nat} :
    KeepsContent s (u.mbxAccept i w lim) := by
  have hslot (f : MbxSlot → MbxSlot) : KeepsContent s (u.modSlot i f) := h.hidden rfl rfl
  unfold State.mbxAccept
  exact (hslot _).mbxPost (by decide)

theorem State.accepted_content (s : State) (c : Content) (i : Fin 32) (w : MbxWait) (lim : Option Nat) :
    (({ s with content := c } : State).mbxAccept i w lim).content = c := (KeepsContent.refl _).mbxAccept.content

theorem State.dmcFails_run (s : State) (h : s.dmcRunning = true) : s.dmcFails = [] := failIf_false (by rw [h]; rfl)

theorem exec_contentOpenDone_nvm (t : Nat) (p : PkgIn) (s : State) {src off len : Nat} (hup : (s.at t).mp.up = true)
    (hst : (s.at t).content.st = 1) (hnext : (s.at t).content.next = none) (hopening : (s.at t).content.opening = (src, off, len))
    (hsrc : src ≠ 0) (hread : p.read = true) (hdom : (s.at t).domOn PD_NVM = true)
    (hfits : nvmContentBase + 4096 * (off + len) ≤ nvmSize)
    (hpass : (s.at t).pkgFail p (memBytes (s.at t).nvmMem (nvmContentBase + 4096 * off) (4096 * len)) (4096 * len) = none) :
    exec (.contentOpenDone t p) s =
      .next ((s.at t).contentPass p (memBytes (s.at t).nvmMem (nvmContentBase + 4096 * off) (4096 * len))) := by
  show execContentOpenDone t p s = _
  unfold execContentOpenDone State.step'
  beta_reduce
  rw [if_neg, hopening]
  · dsimp only
    rw [if_neg hsrc, if_neg hsrc, hread, hdom, decide_eq_true hfits, hpass]
    rfl
  · rw [hup, hnext]
    simp only [hst, Bool.not_true, Bool.false_eq_true, ne_eq, not_true_eq_false, Option.isSome_none, or_self, not_false_eq_true]

theorem exec_bivouacEntry_late (t : Nat) (s : State) {b : BivWait} (hbiv : (s.at t).mp.biv = some b) (hup : (s.at t).mp.up = true)
    (hlate : b.since + msU 100 ≤ (s.at t).now) (hlegal : (s.at t).pwrLegal 2 = true) :
    exec (.bivouacEntry t) s = .next (({ s.at t with mp := { (s.at t).mp with biv := none } } : State).pwrGo 2) := by
  unfold exec execBivouacEntry State.step'
  dsimp only
  rw [hbiv]
  dsimp only
  rw [if_pos, if_pos]
  · exact hlegal
  · rw [hup, decide_eq_true hlate, Bool.or_true, Bool.and_true]

/-- Settles O31: each command is the act of its row on the slot in EXEC, and the content and the power state move when their
work is done. -/
theorem mailboxServicesComplete : Obligations.MailboxServicesComplete := by
  refine ⟨?calRun, ?calStore, ?commit, ?open_, ?openDone, ?logStop, ?logEvents, ?logRecorder, ?logFlush, ?run, ?standby, ?bivouac,
    ?entry, ?snapshot⟩
  case calRun =>
    rintro i t s ⟨h, hrun, hmin, hmax, hdecl⟩
    refine ⟨_, congrArg Host.Outcome.next ((s.at t).mbxRow_op h (by decide) ?_), rfl⟩
    dsimp only
    rw [hrun, if_neg (by omega), hdecl]
    rfl
  case calStore =>
    rintro i todo t s ⟨h, hpass⟩
    exact ⟨_, congrArg Host.Outcome.next ((s.at t).mbxRow_op h (by decide) hpass), rfl⟩
  case commit =>
    rintro i payload t s ⟨h, htype, hpass⟩
    refine ⟨_, congrArg Host.Outcome.next ((s.at t).mbxRow_op h (by decide) ?_), rfl⟩
    rw [failIf_false (decide_eq_false (Nat.not_lt.mpr htype)), hpass]
    rfl
  case open_ =>
    rintro i t s ⟨h, hsrc, hstor, hst, hdmc⟩
    refine ⟨_, congrArg Host.Outcome.next ((s.at t).mbxRow_op h (by decide) ?_), ?_⟩
    · have habsent : (bitsOf (((s.at t).mbx.slots[i]).word 1) 0 2 == 0 && !Page.declared (s.at t).pkg .stor) = false := by
        by_cases hzero : bitsOf (((s.at t).mbx.slots[i]).word 1) 0 2 = 0
        · rw [hstor hzero, Bool.not_true, Bool.and_false]
        · rw [beq_eq_false_iff_ne.mpr hzero, Bool.false_and]
      dsimp only
      rw [failIf_false (decide_eq_false (Nat.not_lt.mpr hsrc)), failIf_false habsent, failIf_false (beq_eq_false_iff_ne.mpr hst),
        (s.at t).dmcFails_run hdmc]
      rfl
    · have hopened := ((s.at t).inExec i).accepted_content
        { (s.at t).content with
          prev := (s.at t).content.st, st := 1, next := none
          opening := (bitsOf (((s.at t).mbx.slots[i]).word 1) 0 2, ((s.at t).mbx.slots[i]).word 2, ((s.at t).mbx.slots[i]).word 3) }
        i .content (some (secU 5))
      exact ⟨congrArg Content.st hopened, congrArg Content.prev hopened, congrArg Content.opening hopened⟩
  case openDone =>
    rintro p src off len t s ⟨hup, hst, hnext, hopening, hsrc, hread, hdom, hfits, hpass⟩
    exact ⟨_, exec_contentOpenDone_nvm t p s hup hst hnext hopening hsrc hread hdom hfits hpass, rfl⟩
  case logStop =>
    intro i t s h
    obtain ⟨n, hmp⟩ := ((s.at t).inExec i).logSet i { (s.at t).mp with logOn := false, recRun := false }
    exact ⟨_, congrArg Host.Outcome.next ((s.at t).mbxRow_sub h (by decide) rfl), congrArg Mp.logOn hmp, congrArg Mp.recRun hmp⟩
  case logEvents =>
    intro i t s h
    obtain ⟨n, hmp⟩ := ((s.at t).inExec i).logSet i
      { (s.at t).mp with logOn := true, logMask := ((s.at t).mbx.slots[i]).word 2 }
    exact ⟨_, congrArg Host.Outcome.next ((s.at t).mbxRow_sub h (by decide) rfl), congrArg Mp.logOn hmp, congrArg Mp.logMask hmp⟩
  case logRecorder =>
    rintro i t s ⟨h, hstor, hdmc⟩
    obtain ⟨n, hmp⟩ := ((s.at t).inExec i).logSet i
      { (s.at t).mp with recRun := true, logMask := ((s.at t).mbx.slots[i]).word 2 }
    refine ⟨_, congrArg Host.Outcome.next ((s.at t).mbxRow_sub h (by decide) ?_), congrArg Mp.recRun hmp, congrArg Mp.logMask hmp⟩
    rw [failIf_false (by rw [hstor]; rfl), (s.at t).dmcFails_run hdmc]
    rfl
  case logFlush =>
    intro i t s h
    obtain ⟨n, hmp⟩ := ((s.at t).inExec i).logSet i { (s.at t).mp with log := [] }
    exact ⟨_, congrArg Host.Outcome.next ((s.at t).mbxRow_sub h (by decide) rfl), congrArg Mp.log hmp⟩
  case run =>
    rintro i t s ⟨h, hlegal⟩
    exact ⟨_, congrArg Host.Outcome.next ((s.at t).mbxRow_sub h (by decide)
      (if_pos hlegal)), rfl⟩
  case standby =>
    rintro i t s ⟨h, hlegal⟩
    exact ⟨_, congrArg Host.Outcome.next ((s.at t).mbxRow_sub h (by decide)
      (if_pos hlegal)), rfl⟩
  case bivouac =>
    rintro i todo t s ⟨h, hunits, hlegal⟩
    refine ⟨_, congrArg Host.Outcome.next ((s.at t).mbxRow_sub h (by decide) ?_), rfl⟩
    rw [hunits]
    exact if_pos hlegal
  case entry =>
    rintro b t s ⟨hbiv, hup, hlate, hlegal⟩
    exact ⟨_, exec_bivouacEntry_late t s hbiv hup hlate hlegal, rfl⟩
  case snapshot =>
    rintro i t s ⟨h, hword⟩
    refine ⟨_, congrArg Host.Outcome.next ((s.at t).mbxRow_op h (by decide) (if_pos hword)), ?_⟩
    rw [if_pos hword]
    rfl
end Sys2Proof.Machine

/-! ## The transactions of HSPI and ICP (R348, R349, R444–R446) -/

namespace Sys2Proof.Machine

theorem not_notTrue : ¬ (!true) = true := Bool.false_ne_true

/-! ### HSPI (R348) -/

theorem exec_hspiRead (t : Nat) (mosi : List Byte) (s : State) : exec (.hspiRead t mosi) s = .next ((s.at t).hspiRun 0x0B mosi) := rfl
theorem exec_hspiWrite (t : Nat) (mosi : List Byte) (s : State) : exec (.hspiWrite t mosi) s = .next ((s.at t).hspiRun 0x02 mosi) := rfl

theorem State.hspiRun_read (s : State) {mosi : List Byte} (hdom : s.domOn PD_NOC = true) (hlen : 12 ≤ mosi.length)
    (hop : beNat (mosi.take 1) = 0x0B) (hcrc : beNat ((mosi.drop 6).take 2) = crc16 (mosi.take 6)) :
    s.hspiRun 0x0B mosi = ({ s with out := [] } : State).hspiRead mosi (beNat ((mosi.drop 1).take 1) % 64 + 1)
      (beNat ((mosi.drop 2).take 4)) := by
  have hon : ¬ (!({ s with out := [] } : State).domOn PD_NOC) = true := by
    show ¬ (!s.domOn PD_NOC) = true
    rw [hdom]
    exact Bool.false_ne_true
  unfold State.hspiRun
  dsimp only
  rw [if_neg hon, if_neg (by omega), if_neg (not_not_intro hcrc), if_neg fun h => h.1 hop, if_neg (not_not_intro hop), if_pos hop]

theorem State.hspiRun_write (s : State) {mosi : List Byte} (hdom : s.domOn PD_NOC = true) (hlen : 8 ≤ mosi.length)
    (hop : beNat (mosi.take 1) = 0x02) (hcrc : beNat ((mosi.drop 6).take 2) = crc16 (mosi.take 6)) :
    s.hspiRun 0x02 mosi = ({ s with out := [] } : State).hspiWrite mosi (beNat ((mosi.drop 1).take 1) % 64 + 1)
      (beNat ((mosi.drop 2).take 4)) := by
  have hon : ¬ (!({ s with out := [] } : State).domOn PD_NOC) = true := by
    show ¬ (!s.domOn PD_NOC) = true
    rw [hdom]
    exact Bool.false_ne_true
  unfold State.hspiRun
  dsimp only
  rw [if_neg hon, if_neg (by omega), if_neg (not_not_intro hcrc), if_neg fun h => h.2 hop, if_neg (not_not_intro hop),
    if_neg (by rw [hop]; decide)]

/-! ### A row of ICP (R442, R444, R445) -/

/-- An authentic, well-formed request of a row's OP is acted on. -/
theorem State.icpRow_serves (s : State) {n : Fin 4} {op : Nat} {runtime : Bool} {act : State → NetPkt → State} {f : NetPkt}
    {rest : List NetPkt} {w : State} (hserves : s.serves n op f rest w) (hup : runtime = true → s.mp.up = true) :
    s.icpRow n op runtime act = act w f := by
  obtain ⟨hnet, hnoc, hreqs, hform, hop, hfirst, hauth⟩ := hserves
  have hrun : ¬ ((!({ s with out := [] } : State).domOn PD_NET) = true ∨ (!({ s with out := [] } : State).domOn PD_NOC) = true ∨
      (runtime = true ∧ (!s.mp.up) = true)) := by
    show ¬ ((!s.domOn PD_NET) = true ∨ (!s.domOn PD_NOC) = true ∨ _)
    rw [hnet, hnoc]
    rintro (h | h | ⟨hr, h⟩)
    · exact Bool.false_ne_true h
    · exact Bool.false_ne_true h
    · rw [hup hr] at h
      exact Bool.false_ne_true h
  unfold State.icpRow
  dsimp only
  rw [if_neg hrun]
  unfold State.icpTake
  dsimp only
  rw [hreqs]
  dsimp only
  rw [hform, hfirst, if_neg not_notTrue, if_neg fun h => h.elim Bool.false_ne_true fun h => h.1 hop, hauth]
  exact if_pos hop

theorem State.icpAnswer_bulk (s : State) (n : Fin 4) (f : NetPkt) (status detail : Nat) (payload : List Byte) :
    (s.icpAnswer n f status detail payload).bulk = s.bulk := by
  unfold State.icpAnswer State.icpReply State.icpReplyFor
  split
  · split <;> rfl
  · rfl

theorem State.icpReplyFor_bulk (s : State) (owed : Option MbxRec) (port op status detail ref key : Nat) (payload : List Byte) :
    (s.icpReplyFor owed port op status detail ref key payload).bulk = s.bulk ∧
      (s.icpReplyFor owed port op status detail ref key payload).nvmMem = s.nvmMem := by
  unfold State.icpReplyFor
  split
  · split <;> exact ⟨rfl, rfl⟩
  · exact ⟨rfl, rfl⟩

/-! ### The mailbox through ICP (R349) -/

theorem State.mbxPush_result (s : State) {o port ref key : Nat} {w : Vector Word 15} {i : Fin 32}
    (hfree : s.pushCheck o (bitsOf w[0].toNat 16 8) = .ok i) : (s.mbxPush o w port ref key).2 = .ok i.val := by
  unfold State.mbxPush
  rw [hfree]

/-- The command words of an ICP request. -/
def NetPkt.cmdWords (f : NetPkt) : Vector Word 15 := Vector.ofFn fun (k : Fin 15) => BitVec.ofNat 32 (frBE f.payload (4 * k.val) 4)

theorem State.icpMbx_pushes (s : State) (n : Fin 4) (f : NetPkt) {i : Fin 32} (hlen : f.lenIs 60 = true)
    (hfree : s.pushCheck ORG_ICP (bitsOf (BitVec.ofNat 32 (frBE f.payload 0 4)).toNat 16 8) = .ok i) :
    (s.icpMbx n f).mbx.slots[i].st = SL_QUEUED ∧ (s.icpMbx n f).mbx.slots[i].origin = ORG_ICP ∧
      (s.icpMbx n f).mbx.slots[i].ref = f.seq := by
  have hfirst : f.cmdWords[0] = BitVec.ofNat 32 (frBE f.payload 0 4) := Vector.getElem_ofFn _
  rw [← hfirst] at hfree
  have hpush : s.icpMbx n f = (s.mbxPush ORG_ICP f.cmdWords n.val f.seq f.key).1 := by
    show (if (match s.pushCheck ORG_ICP (bitsOf f.cmdWords[0].toNat 16 8) with | .ok _ => true | .error _ => false) &&
        !f.lenIs 60 then _ else match (s.mbxPush ORG_ICP f.cmdWords n.val f.seq f.key).2 with | .ok _ => _ | .error _ => _) = _
    rw [hfree, hlen, s.mbxPush_result hfree]
    rfl
  rw [hpush, s.mbxPush_ok hfree]
  have hslot (c : MbxSlot) := (State.counted_slot (s.slotTaken i c) MBX_CMD_CNT 0 i).trans (s.slotTaken_slot i c)
  exact ⟨congrArg MbxSlot.st (hslot _), congrArg MbxSlot.origin (hslot _), congrArg MbxSlot.ref (hslot _)⟩

/-! ### Bulk transfers (R446) -/

theorem State.bulkOpen_opens (s : State) (n : Fin 4) (f : NetPkt) (hlen : f.lenIs 16 = true) (htarget : frBE f.payload 0 1 ≤ 1)
    (hreserved : frBE f.payload 1 3 = 0) (hunits : frBE f.payload 8 4 ≠ 0) (hmax : frBE f.payload 8 4 ≤ 16384) (hnone : s.bulk = none)
    (hdmc : s.dmcRunning = true) (hfits : frBE f.payload 4 4 + frBE f.payload 8 4 ≤ s.bulkUnits (frBE f.payload 0 1))
    (hfree : s.overlapsOpen (frBE f.payload 0 1) (frBE f.payload 4 4) (frBE f.payload 8 4) = false)
    (hwp : s.flag .nvm NVM_PROT_CONTENT_WP = false) :
    (s.bulkOpen n f).bulk = some { port := n.val, target := frBE f.payload 0 1, offset := frBE f.payload 4 4
                                   length := frBE f.payload 8 4, crc := frBE f.payload 12 4, lastAt := s.now } := by
  unfold State.bulkOpen
  dsimp only
  rw [hnone, if_neg (show ¬ (none.any fun b : Bulk => !b.idle) = true from Bool.false_ne_true), hlen,
    if_neg not_notTrue, if_neg (by omega), if_neg (by omega), hdmc, hfree, hwp, if_neg,
    State.icpAnswer_bulk]
  rintro (h | h | ⟨-, h⟩)
  · exact Bool.false_ne_true h
  · exact Bool.false_ne_true h
  · exact Bool.false_ne_true h

theorem State.bulkOn_open (s : State) (n : Fin 4) (f : NetPkt) (g : State → Bulk → State) {b : Bulk} (hbulk : s.bulk = some b)
    (hidle : b.idle = false) (hclosing : b.closing = false) : s.bulkOn n f g = g s b := by
  unfold State.bulkOn
  rw [hbulk]
  dsimp only
  rw [hidle, hclosing]
  rfl

theorem State.bulkData_fills (s : State) (n : Fin 4) (f : NetPkt) {b : Bulk} (hmin : 12 ≤ f.payload.length)
    (hmax : f.payload.length ≤ 1400) (hlen : f.lenIs f.payload.length = true) (hwords : (f.payload.length - 8) % 4 = 0)
    (hoff : frBE f.payload 0 4 % 4 = 0) (hreserved : frBE f.payload 4 4 = 0)
    (hfits : frBE f.payload 0 4 + (f.payload.length - 8) ≤ b.length * 4096) (hbulk : s.bulk = some b) (hidle : b.idle = false)
    (hclosing : b.closing = false) : (s.bulkData n f).bulk = some { b with
      lastAt := s.now, data := (f.payload.drop 8).zipIdx.foldl (fun m e =>
        cellInsert (cellErase m (frBE f.payload 0 4 + e.2)) (frBE f.payload 0 4 + e.2) e.1) b.data } := by
  have hwithin : ¬ (s.bulk.any fun b => !b.idle && decide (b.length * 4096 < frBE f.payload 0 4 + (f.payload.length - 8))) = true := by
    rw [hbulk]
    show ¬ (!b.idle && decide _) = true
    rw [decide_eq_false (Nat.not_lt.mpr hfits), Bool.and_false]
    exact Bool.false_ne_true
  have hform : ¬ (f.payload.length < 12 ∨ 1400 < f.payload.length ∨ (!f.lenIs f.payload.length) = true ∨
      (f.payload.length - 8) % 4 ≠ 0) := by
    rw [hlen]
    simp only [Bool.not_true, Bool.false_eq_true, false_or]
    omega
  unfold State.bulkData
  dsimp only
  rw [if_neg hform, if_neg hwithin, if_neg (by omega), s.bulkOn_open n f _ hbulk hidle hclosing, State.icpAnswer_bulk]

theorem State.bulkClose_closes (s : State) (n : Fin 4) (f : NetPkt) {b : Bulk} (hlen : f.lenIs 0 = true) (hbulk : s.bulk = some b)
    (hidle : b.idle = false) (hclosing : b.closing = false) :
    (s.bulkClose n f).bulk = some { b with closing := true, port := n.val, ref := f.seq, key := f.key } := by
  unfold State.bulkClose
  rw [hlen, if_neg not_notTrue, s.bulkOn_open n f _ hbulk hidle hclosing, State.icpAnswer_bulk]

theorem State.bulkAbort_ends (s : State) (n : Fin 4) (f : NetPkt) {b : Bulk} (hlen : f.lenIs 0 = true) (hbulk : s.bulk = some b)
    (hidle : b.idle = false) (hclosing : b.closing = false) : (s.bulkAbort n f).bulk = none := by
  unfold State.bulkAbort
  rw [hlen, if_neg not_notTrue, s.bulkOn_open n f _ hbulk hidle hclosing, State.icpAnswer_bulk]

/-- The machine with the closed transfer `b` written to its target. -/
def State.bulkWritten (s : State) (b : Bulk) : State :=
  if b.target = 0 then { s with bulk := none }
  else { s with bulk := none, nvmMem := memSetBytes s.nvmMem (nvmContentBase + 4096 * b.offset) (b.data.map (·.2)) }

theorem exec_bulkCloseComplete_good (t : Nat) (s : State) {b : Bulk} (hbulk : (s.at t).bulk = some b) (hup : (s.at t).mp.up = true)
    (hclosing : b.closing = true) (hpfw : (s.at t).flag .basecamp BC_STATUS_PFW = false)
    (hlen : b.data.length = b.length * 4096) (hcrc : crc32 (b.data.map (·.2)) = b.crc)
    (hnvm : b.target ≠ 0 → (s.at t).domOn PD_NVM = true ∧ (s.at t).flag .nvm NVM_PROT_CONTENT_WP = false) :
    exec (.bulkCloseComplete t true) s = .next (((s.at t).bulkWritten b).icpReplyFor (some b.owes) b.port 0x12 ST_OK 0 b.ref b.key []) := by
  have htakes : (if b.target = 0 then true else (s.at t).domOn PD_NVM && !(s.at t).flag .nvm NVM_PROT_CONTENT_WP) = true := by
    split
    · rfl
    · next htarget =>
      obtain ⟨hdom, hwp⟩ := hnvm htarget
      rw [hdom, hwp]
      rfl
  show execBulkCloseComplete t true s = _
  unfold execBulkCloseComplete State.step' State.bulkWritten
  dsimp only
  rw [hbulk]
  dsimp only
  have hgood : (b.data.length == b.length * 4096 && crc32 (b.data.map (·.2)) == b.crc &&
      (if b.target = 0 then true else (s.at t).domOn PD_NVM && !(s.at t).flag .nvm NVM_PROT_CONTENT_WP)) = true := by
    rw [htakes, beq_iff_eq.mpr hlen, beq_iff_eq.mpr hcrc]
    rfl
  have hfree : ¬ ({ s.at t with bulk := none } : State).flag .basecamp BC_STATUS_PFW = true := by
    show ¬ (s.at t).flag .basecamp BC_STATUS_PFW = true
    rw [hpfw]
    exact Bool.false_ne_true
  rw [hup, hclosing, if_neg fun h => h.elim not_notTrue not_notTrue, if_neg hfree, if_pos hgood]

theorem exec_bulkIdle_late (t : Nat) (s : State) {b : Bulk} (hbulk : (s.at t).bulk = some b) (hup : (s.at t).mp.up = true)
    (hclosing : b.closing = false) (hidle : b.idle = false) (hlate : b.lastAt + secU 10 ≤ (s.at t).now) :
    exec (.bulkIdle t) s = .next { s.at t with bulk := some { b with idle := true, data := [] } } := by
  show execBulkIdle t s = _
  unfold execBulkIdle State.step'
  dsimp only
  rw [hbulk]
  dsimp only
  rw [hup, hclosing, hidle, decide_eq_true hlate]
  rfl

/-! ### The statement -/

/-- Settles O32: a transaction with a good header is its access, and an authentic request is the act of its row. -/
theorem hostCommandsComplete : Obligations.HostCommandsComplete := by
  refine ⟨?hspiRead, ?hspiWrite, ?icpRead, ?icpWrite, ?icpMbx, ?bulkOpen, ?bulkData, ?bulkClose, ?bulkAbort, ?complete, ?idle⟩
  case hspiRead =>
    intro mosi hlen hop hcrc t s hdom
    exact ⟨_, exec_hspiRead t mosi s, (s.at t).hspiRun_read hdom hlen hop hcrc⟩
  case hspiWrite =>
    rintro mosi count hop hcrc rfl hlen - t s hdom
    exact ⟨_, exec_hspiWrite t mosi s, (s.at t).hspiRun_write hdom (by omega) hop hcrc⟩
  case icpRead =>
    intro n f rest w _ _ _ _ t s hserves
    exact ⟨_, congrArg Host.Outcome.next ((s.at t).icpRow_serves hserves nofun), rfl⟩
  case icpWrite =>
    intro n f rest w _ _ _ _ _ t s hserves
    exact ⟨_, congrArg Host.Outcome.next ((s.at t).icpRow_serves hserves nofun), rfl⟩
  case icpMbx =>
    rintro n f rest w i hlen t s ⟨hserves, hfree⟩
    exact ⟨_, congrArg Host.Outcome.next ((s.at t).icpRow_serves hserves nofun), w.icpMbx_pushes n f hlen hfree⟩
  case bulkOpen =>
    rintro n f rest w hlen htarget hreserved hunits hmax t s ⟨hserves, hup, hnone, hdmc, hfits, hfree, hwp⟩
    exact ⟨_, congrArg Host.Outcome.next ((s.at t).icpRow_serves hserves fun _ => hup),
      w.bulkOpen_opens n f hlen htarget hreserved hunits hmax hnone hdmc hfits hfree hwp⟩
  case bulkData =>
    rintro n f rest w b hmin hmax hlen hwords hoff hreserved hfits t s ⟨hserves, hup, hbulk, hidle, hclosing⟩
    exact ⟨_, congrArg Host.Outcome.next ((s.at t).icpRow_serves hserves fun _ => hup),
      w.bulkData_fills n f hmin hmax hlen hwords hoff hreserved hfits hbulk hidle hclosing⟩
  case bulkClose =>
    rintro n f rest w b hlen t s ⟨hserves, hup, hbulk, hidle, hclosing⟩
    exact ⟨_, congrArg Host.Outcome.next ((s.at t).icpRow_serves hserves fun _ => hup), w.bulkClose_closes n f hlen hbulk hidle hclosing⟩
  case bulkAbort =>
    rintro n f rest w b hlen t s ⟨hserves, hup, hbulk, hidle, hclosing⟩
    exact ⟨_, congrArg Host.Outcome.next ((s.at t).icpRow_serves hserves fun _ => hup), w.bulkAbort_ends n f hlen hbulk hidle hclosing⟩
  case complete =>
    rintro b t s ⟨hbulk, hup, hclosing, hpfw, hlen, hcrc, hnvm⟩
    obtain ⟨hsame, hmem⟩ := ((s.at t).bulkWritten b).icpReplyFor_bulk (some b.owes) b.port 0x12 ST_OK 0 b.ref b.key []
    refine ⟨_, exec_bulkCloseComplete_good t s hbulk hup hclosing hpfw hlen hcrc hnvm, hsame.trans ?_, hmem.trans ?_⟩
    · unfold State.bulkWritten
      split <;> rfl
    · unfold State.bulkWritten
      split <;> rfl
  case idle =>
    rintro b t s ⟨hbulk, hup, hclosing, hidle, hlate⟩
    exact ⟨_, exec_bulkIdle_late t s hbulk hup hclosing hidle hlate, rfl⟩

end Sys2Proof.Machine

/-! ## The supply commands of Basecamp (R357–R360, R364, R371, R373) -/

namespace Sys2Proof.Machine

/-- A command on VBAT within the ratings is its step. -/
theorem completes_of_vbatStep {c : Nat → Instr} {v : Nat} {f : State → State} {P : State → Prop} {Q : State → State → Prop}
    (hexec : ∀ t s, exec (c t) s = s.vbatStep t v f) (hv : v ≤ 5800) (hQ : ∀ u, P u → Q u (f u)) : Completes c P Q :=
  fun t s hP => ⟨_, (hexec t s).trans (s.vbatStep_rated t f hv), hQ _ hP⟩

/-! ### Samples and warnings (R357) -/

/-- A sample shows VBAT and keeps its least value. -/
def State.vbatSampled (s : State) (v : Nat) : State :=
  (s.put .basecamp BC_VBAT_VBAT v).put .basecamp BC_VBAT_MIN (min v (s.get .basecamp BC_VBAT_MIN))

theorem State.vbatSampled_get (s : State) {v : Nat} (hv : v ≤ 5800) : (s.vbatSampled v).get .basecamp BC_VBAT_VBAT = v ∧
    (s.vbatSampled v).get .basecamp BC_VBAT_MIN = min v (s.get .basecamp BC_VBAT_MIN) := by
  have hmin : s.get .basecamp BC_VBAT_MIN < 2 ^ 32 := s.get_lt .basecamp BC_VBAT_MIN
  unfold State.vbatSampled
  constructor
  · rw [State.get_put_off _ _ _ _ _ (by decide), State.get_put_same _ _ _ _ (by decide)]
    exact Nat.mod_eq_of_lt (show v < 2 ^ 16 by omega)
  · rw [State.get_put_same _ _ _ _ (by decide)]
    exact Nat.mod_eq_of_lt (show min v (s.get .basecamp BC_VBAT_MIN) < 2 ^ 32 by omega)

/-- The power-fail warning is shown, counted and raised (R357). -/
def State.pfwWarned (s : State) : State :=
  ((s.put .basecamp BC_STATUS_PFW 1).bump .basecamp BC_PFW_CNT).raise .basecamp BC_EV_PFW

theorem State.pfwWarned_get (s : State) {g : RF} (hquiet : QuietReg .basecamp g) (hpfw : g.off ≠ BC_STATUS_PFW.off)
    (hcnt : g.off ≠ BC_PFW_CNT.off) : s.pfwWarned.get .basecamp g = s.get .basecamp g := by
  unfold State.pfwWarned
  rw [State.get_raise _ _ _ _ _ hquiet, State.get_bump_ne _ _ _ _ _ fun h => hcnt (Nat.add_left_cancel h).symm,
    State.get_put_off _ _ _ _ _ (Ne.symm hpfw)]

theorem State.pfwWarned_flag (s : State) : s.pfwWarned.flag .basecamp BC_STATUS_PFW = true := by
  unfold State.pfwWarned State.flag
  rw [State.get_raise _ _ _ _ _ (by decide), State.get_bump_ne _ _ _ _ _ (by decide), State.get_put_same _ _ _ _ (by decide)]
  rfl

theorem State.pfwWarned_nvm (s : State) : s.pfwWarned.domOn PD_NVM = s.domOn PD_NVM :=
  congrArg (bitOf · PD_NVM) (s.pfwWarned_get (g := BC_PD_ON) (by decide) (by decide) (by decide))

theorem State.pfwEnded_flag (s : State) (u : State)
    (hu : u = (s.put .basecamp BC_STATUS_PFW 0).raise .basecamp BC_EV_PFW_END) :
    (if u.flag .basecamp BC_STATUS_HOLD_UP then u else u.put .nvm NVM_STAT_PFW_BLOCK 0).flag .basecamp BC_STATUS_PFW = false := by
  have hended : u.flag .basecamp BC_STATUS_PFW = false := by
    subst hu
    unfold State.flag
    rw [State.get_raise _ _ _ _ _ (by decide)]
    exact State.flag_putZero s .basecamp BC_STATUS_PFW (by decide)
  split
  · exact hended
  · unfold State.flag
    rw [u.get_put_page .nvm .basecamp NVM_STAT_PFW_BLOCK BC_STATUS_PFW 0 nofun (by decide) (by decide)]
    exact hended

/-! ### Loss and restart (R358, R359, R371, R474) -/

theorem exec_supplyLoss_vbat (t : Nat) (s : State) :
    exec (.supplyLoss t .vbat) s = .next ((s.at t).supplyLoss (supplyDetail .vbat)) :=
  congrArg Host.Outcome.next (if_neg (show ¬ (!true) = true from Bool.false_ne_true))

/-- The power-down of a supply loss (R358). -/
theorem exec_supplyPowerDown_due (t : Nat) (s : State) (hloss : (s.at t).bc.lossSupply = true) (htherm : (s.at t).bc.lossTherm = false)
    (hdue : (s.at t).bc.t0 + usU 40 ≤ (s.at t).now) (hactive : (s.at t).pActive = true) :
    exec (.supplyPowerDown t) s = .next ((((s.at t).coldReset.modBc fun b =>
      { b with lossSupply := false, lossTherm := false, supplyWait := false }).pstateTo PS_SUPPLY_OFF).downLower) := by
  show execSupplyPowerDown t s = _
  unfold execSupplyPowerDown State.step'
  dsimp only
  rw [if_neg, htherm]
  · rfl
  · rw [hloss, hactive]
    simp only [Bool.true_or, Bool.not_true, Bool.false_eq_true, false_or, or_false]
    omega

theorem exec_restartCountClear_due (t : Nat) (s : State) (hrun : (s.at t).pstate = PS_RUN)
    (hdue : (s.at t).bc.runAt + secU 60 ≤ (s.at t).now) :
    exec (.restartCountClear t) s = .next ((s.at t).put .basecamp BC_HIST_SUPPLY 0) :=
  congrArg Host.Outcome.next (if_pos ⟨hrun, hdue⟩)

theorem exec_vbatMinWrite (t : Nat) (path : Path) (v : Nat) (s : State) :
    exec (.vbatMinWrite t path v) s = .next ((s.at t).regBy path .basecamp BC_VBAT_MIN v) := rfl

theorem State.blockWrite_vbatMin (s : State) (path : Path) (v : Nat) :
    s.blockWrite path .basecamp BC_VBAT_MIN.off v = s.put .basecamp BC_VBAT_MIN (s.get .basecamp BC_VBAT_VBAT) :=
  show s.bcWrite path BC_VBAT_MIN.off v = _ from
    (if_neg (by decide)).trans ((if_neg (by decide)).trans ((if_neg (by decide)).trans (if_pos rfl)))

/-! ### The statement -/

/-- Settles O33: with VBAT within the ratings each command is its step in the state that allows it. -/
theorem supplyCommandsComplete : Obligations.SupplyCommandsComplete := by
  refine ⟨?powerOn, ?sample, ?pfw, ?pfwEnd, ?ov, ?ovEnd, ?loss, ?down, ?restart, ?lockout, ?clear, ?vbatLoss, ?minimum⟩
  case powerOn =>
    intro v hlow hv
    refine completes_of_vbatStep (fun _ _ => rfl) hv fun u hinit => ?_
    exact if_neg fun h => h.elim (fun hne => hne hinit) (Nat.not_le.mpr hlow)
  case sample =>
    intro v hv
    refine completes_of_vbatStep (fun _ _ => rfl) hv fun u hinit => ?_
    rw [if_neg hinit]
    exact u.vbatSampled_get hv
  case pfw =>
    intro v dur hv hdur
    refine completes_of_vbatStep (fun _ _ => rfl) (by omega) ?_
    rintro u ⟨hinit, hfree, hnvm⟩
    have hrated : ¬ (u.pstate = PS_INIT ∨ 450 ≤ v ∨ dur ≤ msU 1 ∨ u.flag .basecamp BC_STATUS_PFW = true) := by
      rw [hfree]
      simp only [hinit, Bool.false_eq_true, false_or, or_false]
      omega
    rw [if_neg hrated]
    have hsame : (if u.pfwWarned.domOn PD_NVM then u.pfwWarned.nvmStop true else u.pfwWarned) = u.pfwWarned :=
      if_neg (by rw [u.pfwWarned_nvm, hnvm]; exact Bool.false_ne_true)
    exact ⟨hsame, (congrArg (State.flag · .basecamp BC_STATUS_PFW) hsame).trans u.pfwWarned_flag⟩
  case pfwEnd =>
    intro v dur hlow hv hdur
    refine completes_of_vbatStep (fun _ _ => rfl) hv fun u hpfw => ?_
    rw [if_neg]
    · exact u.pfwEnded_flag _ rfl
    · rw [hpfw]
      simp only [Bool.not_true, Bool.false_eq_true, or_false]
      omega
  case ov =>
    rintro v dur hlow hv hdur t s ⟨hinit, hfree⟩
    exact ⟨_, exec_vbatOv_flags t s hlow hv hdur hinit hfree, rfl, State.ovFlagged_flag _⟩
  case ovEnd =>
    intro v dur hv hdur t s _
    exact ⟨_, exec_vbatOvEnd_ends t s hv hdur, rfl, State.flag_putZero _ _ _ (by decide)⟩
  case loss =>
    intro t s _
    exact ⟨_, exec_supplyLoss_vbat t s, rfl⟩
  case down =>
    rintro t s ⟨hloss, htherm, hdue, hactive⟩
    exact ⟨_, exec_supplyPowerDown_due t s hloss htherm hdue hactive, rfl⟩
  case restart =>
    intro v dur hv
    refine completes_of_vbatStep (fun _ _ => rfl) hv ?_
    rintro u ⟨hoff, hvbat, hcount, hready, hdown⟩
    rw [if_neg (not_not_intro hoff)]
    dsimp only
    rw [if_neg fun h => Nat.not_le.mpr hcount h.2, hready, hdown, hvbat]
    rfl
  case lockout =>
    intro v dur hv
    refine completes_of_vbatStep (fun _ _ => rfl) hv ?_
    rintro u ⟨hoff, hvbat, hcount⟩
    rw [if_neg (not_not_intro hoff)]
    dsimp only
    exact if_pos ⟨by rw [hvbat]; rfl, hcount⟩
  case clear =>
    rintro t s ⟨hrun, hdue⟩
    exact ⟨_, exec_restartCountClear_due t s hrun hdue, rfl, State.get_put_same _ _ _ _ (by decide)⟩
  case vbatLoss =>
    intro v hv
    exact completes_of_vbatStep (fun _ _ => rfl) (by omega) fun u _ => if_pos hv
  case minimum =>
    intro path v hv
    refine completes_of_block_write (exec_vbatMinWrite · path v) hv (by decide) (by decide) (fun _ h => h) fun u _ => ?_
    have hvbat : u.get .basecamp BC_VBAT_VBAT < 2 ^ 16 := u.get_lt .basecamp BC_VBAT_VBAT
    rw [u.blockWrite_vbatMin, State.answer_get, State.get_put_same _ _ _ _ (by decide), Nat.mod_eq_of_lt hvbat]
    exact Nat.mod_eq_of_lt (hvbat.trans (by decide))

end Sys2Proof.Machine

/-! ## The sequences of Basecamp (R20, R354–R356, R404, R474) -/

namespace Sys2Proof.Machine

/-! ### Power-up, the crystal, power-down (R20, R355, R356) -/

theorem exec_seqStepComplete_good (t : Nat) (s : State) (hup : (s.at t).pstate = PS_SEQ_UP) (hrst : (s.at t).bc.nrstLow = false)
    (hhold : (s.at t).flag .basecamp BC_STATUS_HOLD_UP = false) (hen : (s.at t).flag .basecamp (BC_EN (s.at t).bc.step) = true)
    (hfirst : (s.at t).bc.on (s.at t).bc.step = false) (hdelay : (s.at t).bc.delayAt = none)
    (htime : (s.at t).now < (s.at t).bc.stepAt + usU (100 * (s.at t).get .basecamp BC_SEQ_CFG_PG_TMO)) :
    exec (.seqStepComplete t) s = .next (s.at t).stepDone :=
  congrArg Host.Outcome.next (if_pos ⟨hup, by rw [hrst]; rfl, by rw [hhold]; rfl, hen, by rw [hfirst]; rfl, hdelay, htime⟩)

theorem exec_stepDelayExpiry_due (t : Nat) (s : State) {d : Nat} (hdelay : (s.at t).bc.delayAt = some d)
    (hup : (s.at t).pstate = PS_SEQ_UP) (hdue : d ≤ (s.at t).now) (hstep : (s.at t).bc.step < 3) :
    exec (.stepDelayExpiry t) s = .next ((s.at t).modBc fun b => { b with step := b.step + 1 }).stepBegin := by
  show execStepDelayExpiry t s = _
  unfold execStepDelayExpiry State.step'
  dsimp only
  rw [hdelay]
  dsimp only
  rw [if_pos ⟨hup, hdue, hstep⟩]

theorem exec_pgTimeout_due (t : Nat) (s : State) (hup : (s.at t).pstate = PS_SEQ_UP) (hrst : (s.at t).bc.nrstLow = false)
    (hen : (s.at t).flag .basecamp (BC_EN (s.at t).bc.step) = true) (hfirst : (s.at t).bc.on (s.at t).bc.step = false)
    (hdue : (s.at t).bc.stepAt + usU (100 * (s.at t).get .basecamp BC_SEQ_CFG_PG_TMO) ≤ (s.at t).now) :
    exec (.pgTimeout t) s = .next ((s.at t).supplyLoss BC_PG_TIMEOUT) :=
  congrArg Host.Outcome.next (if_pos ⟨hup, by rw [hrst]; rfl, hen, by rw [hfirst]; rfl, hdue⟩)

theorem exec_xtalGood_run (t : Nat) (s : State) (hfrom : (s.at t).bc.xtalFrom.isSome = true) (hrun : 4 ≤ (s.at t).bc.xtalRun)
    (hok : (s.at t).flag .basecamp BC_STATUS_XTAL_OK = false) : exec (.xtalGood t) s =
      .next (((s.at t).put .basecamp BC_STATUS_XTAL_OK 1).modBc fun b => { b with xtalFail := none }).mpRelease :=
  congrArg Host.Outcome.next (if_pos ⟨hfrom, hrun, by rw [hok]; rfl⟩)

theorem exec_xtalStart_late (t : Nat) (s : State) {f : Nat} (hfrom : (s.at t).bc.xtalFrom = some f)
    (hok : (s.at t).flag .basecamp BC_STATUS_XTAL_OK = false) (hfail : (s.at t).bc.xtalFail = none)
    (hdue : f + msU 10 ≤ (s.at t).now) : exec (.xtalStart t) s = .next ((s.at t).supplyLoss BC_XTAL_START) := by
  show execXtalStart t s = _
  unfold execXtalStart State.step'
  dsimp only
  rw [hfrom]
  dsimp only
  rw [if_pos ⟨by rw [hok]; rfl, hfail, hdue⟩]

theorem exec_seqDownStep_fell (t : Nat) (s : State) {k : Nat} (hdown : (s.at t).bc.down = some k) : exec (.seqDownStep t true) s =
    .next ((stepRails k).foldl (fun (s : State) r => s.put .basecamp ⟨BC_RAIL_MON.off, r, 1⟩ 0)
      ((s.at t).put .basecamp (BC_PG k) 0)).downLower := by
  show execSeqDownStep t true s = _
  unfold execSeqDownStep State.step'
  dsimp only
  rw [hdown]
  dsimp only
  rw [if_pos (.inl rfl)]

theorem exec_xtalMonitorWindow_good (t : Nat) (s : State) (hfrom : (s.at t).bc.xtalFrom ≠ none) :
    exec (.xtalMonitorWindow t true) s = .next ((s.at t).modBc fun b => { b with xtalRun := b.xtalRun + 1 }) :=
  congrArg Host.Outcome.next ((if_neg hfrom).trans (if_pos rfl))

theorem exec_xtalMonitorWindow_bad (t : Nat) (s : State) (hfrom : (s.at t).bc.xtalFrom ≠ none)
    (hok : (s.at t).flag .basecamp BC_STATUS_XTAL_OK = true) :
    exec (.xtalMonitorWindow t false) s = .next ((s.at t).modBc fun b => { b with xtalRun := 0 }).xtalFailed :=
  congrArg Host.Outcome.next ((if_neg hfrom).trans ((if_neg Bool.false_ne_true).trans (if_pos hok)))

theorem exec_xtalFailPersist_due (t : Nat) (s : State) {f : Nat} (hfail : (s.at t).bc.xtalFail = some f)
    (hdue : f + msU 100 ≤ (s.at t).now) : exec (.xtalFailPersist t) s = .next ((s.at t).supplyLoss BC_XTAL_START) := by
  show execXtalFailPersist t s = _
  unfold execXtalFailPersist State.step'
  dsimp only
  rw [hfail]
  dsimp only
  rw [if_pos hdue]

/-! ### The core supply (R354) -/

/-- The next target of the core supply, from `cur` towards what the monitors want. -/
def avsNext (cur want ofs : Int) : Int := max (cur - 5) (min (cur + 5) (max 700 (min 820 want) + ofs))

theorem signed_byte (x : Nat) (h : x < 256) : -128 ≤ signed 8 x ∧ signed 8 x < 128 := by
  unfold signed
  split <;> omega

theorem avsNext_near (cur : Nat) (want : Int) {ofs : Int} (hofs : -128 ≤ ofs ∧ ofs < 128) (hcur : cur < 4096) :
    (avsNext cur want ofs).toNat ≤ cur + 5 ∧ cur ≤ (avsNext cur want ofs).toNat + 5 ∧ (avsNext cur want ofs).toNat < 4096 := by
  unfold avsNext
  omega

/-- The core supply moved to `target`, at its limit or not. -/
def State.avsMoved (s : State) (target : Nat) (limit : Bool) : State :=
  let u := (s.modBc fun b => { b with avsAt := s.now, avsLimit := limit }).put .basecamp BC_AVS_TARGET target
  if limit ∧ !s.bc.avsLimit then u.raise .basecamp BC_EV_AVS_LIMIT else u

theorem exec_avsUpdate_due (t : Nat) (want : Int) (s : State) (hen : (s.at t).flag .basecamp BC_AVS_EN = true)
    (hok : (s.at t).flag .basecamp BC_STATUS_XTAL_OK = true) (hdue : (s.at t).bc.avsAt + usU 100 ≤ (s.at t).now) :
    exec (.avsUpdate t want) s = .next ((s.at t).avsMoved (avsNext ((s.at t).get .basecamp BC_AVS_TARGET) want
      (signed 8 ((s.at t).get .basecamp BC_AVS_OFFSET))).toNat (decide (820 < want))) := by
  show execAvsUpdate t want s = _
  unfold execAvsUpdate State.step' State.avsMoved avsNext
  dsimp only
  rw [if_neg]
  rw [hen, hok]
  simp only [Bool.not_true, Bool.false_eq_true, false_or]
  omega

theorem State.avsMoved_target (s : State) {target : Nat} (limit : Bool) (h : target < 4096) :
    (s.avsMoved target limit).get .basecamp BC_AVS_TARGET = target ∧ (s.avsMoved target limit).bc.avsAt = s.now := by
  have hput (u : State) : (u.put .basecamp BC_AVS_TARGET target).get .basecamp BC_AVS_TARGET = target :=
    (u.get_put_same _ _ _ (by decide)).trans (Nat.mod_eq_of_lt h)
  unfold State.avsMoved
  dsimp only
  split
  · exact ⟨(State.get_raise _ _ _ _ _ (by decide)).trans (hput _),
      congrArg Bc.avsAt ((State.onlyRecords_raise _ _ _).bc.trans (State.put_bc _ _ _ _))⟩
  · exact ⟨hput _, congrArg Bc.avsAt (State.put_bc _ _ _ _)⟩

/-! ### After a thermal shutdown (R404) -/

theorem exec_thermalRestart_cool (t : Nat) {v : Nat} (dur : Nat) (s : State) (hv : v ≤ 5800) (hoff : (s.at t).pstate = PS_THERM_OFF)
    (hcool : (s.at t).tsbHot = false) (htime : (s.at t).therm.shutAt.getD 0 + secU 2 ≤ (s.at t).now)
    (hdown : (s.at t).bc.down = none) (hsupply : (s.at t).bc.supplyWait = false)
    (hcount : ((s.at t).therm.restarts.filter fun x => decide ((s.at t).now < x + secU 3600)).length < 3) :
    exec (.thermalRestart t v dur) s = .next (({ s.at t with therm := { (s.at t).therm with
      report := true
      restarts := ((s.at t).therm.restarts.filter fun x => decide ((s.at t).now < x + secU 3600)) ++ [(s.at t).now] } } :
      State).goUp 0x05) := by
  refine (s.vbatStep_rated t _ hv).trans (congrArg Host.Outcome.next ((if_neg ?_).trans (if_neg (Nat.not_le.mpr hcount))))
  rw [hcool, hdown, hsupply]
  simp only [hoff, ne_eq, not_true_eq_false, Bool.false_eq_true, Option.isSome_none, false_and, or_false, false_or]
  omega

/-! ### The statement -/

/-- Settles O34: each event of a sequence is its step when it is due. -/
theorem sequenceCommandsComplete : Obligations.SequenceCommandsComplete := by
  refine ⟨?stepDone, ?delay, ?timeout, ?xtalGood, ?xtalStart, ?down, ?windowGood, ?windowBad, ?persist, ?avs, ?thermal⟩
  case stepDone =>
    rintro t s ⟨hup, hrst, hhold, hen, hfirst, hdelay, htime⟩
    exact ⟨_, exec_seqStepComplete_good t s hup hrst hhold hen hfirst hdelay htime, rfl⟩
  case delay =>
    rintro d t s ⟨hdelay, hup, hdue, hstep⟩
    exact ⟨_, exec_stepDelayExpiry_due t s hdelay hup hdue hstep, rfl⟩
  case timeout =>
    rintro t s ⟨hup, hrst, hen, hfirst, hdue⟩
    exact ⟨_, exec_pgTimeout_due t s hup hrst hen hfirst hdue, rfl⟩
  case xtalGood =>
    rintro t s ⟨hfrom, hrun, hok⟩
    exact ⟨_, exec_xtalGood_run t s hfrom hrun hok, rfl⟩
  case xtalStart =>
    rintro f t s ⟨hfrom, hok, hfail, hdue⟩
    exact ⟨_, exec_xtalStart_late t s hfrom hok hfail hdue, rfl⟩
  case down =>
    intro k t s hdown
    exact ⟨_, exec_seqDownStep_fell t s hdown, rfl⟩
  case windowGood =>
    intro t s hfrom
    exact ⟨_, exec_xtalMonitorWindow_good t s (Option.isSome_iff_ne_none.mp hfrom), rfl, fun _ _ => rfl⟩
  case windowBad =>
    rintro t s ⟨hfrom, hok⟩
    exact ⟨_, exec_xtalMonitorWindow_bad t s (Option.isSome_iff_ne_none.mp hfrom) hok, rfl⟩
  case persist =>
    rintro f t s ⟨hfail, hdue⟩
    exact ⟨_, exec_xtalFailPersist_due t s hfail hdue, rfl⟩
  case avs =>
    rintro want t s ⟨hen, hok, hdue⟩
    have hofs := signed_byte _ ((s.at t).get_lt .basecamp BC_AVS_OFFSET)
    obtain ⟨hmax, hmin, hfits⟩ := avsNext_near ((s.at t).get .basecamp BC_AVS_TARGET) want hofs ((s.at t).get_lt .basecamp BC_AVS_TARGET)
    obtain ⟨htarget, hat⟩ := (s.at t).avsMoved_target (decide (820 < want)) hfits
    refine ⟨_, exec_avsUpdate_due t want s hen hok hdue, ?_, ?_, hat⟩
    · exact htarget.trans_le hmax
    · rw [htarget]
      exact hmin
  case thermal =>
    rintro v dur hv t s ⟨hoff, hcool, htime, hdown, hsupply, hcount⟩
    exact ⟨_, exec_thermalRestart_cool t dur s hv hoff hcool htime hdown hsupply hcount, rfl⟩

end Sys2Proof.Machine

/-! ## The power, wake, reset and watchdog commands (R324, R332–R334, R362, R364, R367, R370, R372) -/

namespace Sys2Proof.Machine

/-! ### The command registers of Basecamp (R362, R364, R370, R372) -/

theorem exec_pwrCmdRun (t : Nat) (path : Path) (s : State) :
    exec (.pwrCmdRun t path) s = .next ((s.at t).regBy path .basecamp BC_PWR_CMD 0x100) := rfl
theorem exec_pwrCmdStandby (t : Nat) (path : Path) (s : State) :
    exec (.pwrCmdStandby t path) s = .next ((s.at t).regBy path .basecamp BC_PWR_CMD 0x101) := rfl
theorem exec_pwrCmdBivouac (t : Nat) (path : Path) (s : State) :
    exec (.pwrCmdBivouac t path) s = .next ((s.at t).regBy path .basecamp BC_PWR_CMD 0x102) := rfl
theorem exec_pdReqWrite (t : Nat) (path : Path) (v : Nat) (s : State) :
    exec (.pdReqWrite t path v) s = .next ((s.at t).regBy path .basecamp BC_PD_REQ v) := rfl
theorem exec_systemReset (t : Nat) (path : Path) (v : Nat) (s : State) :
    exec (.systemReset t path v) s = .next ((s.at t).regBy path .basecamp BC_RST v) := rfl
theorem exec_wdogKick (t : Nat) (path : Path) (v : Nat) (s : State) :
    exec (.wdogKick t path v) s = .next ((s.at t).regBy path .basecamp BC_WDOG_KICK v) := rfl

theorem State.blockWrite_pwrCmd (s : State) (path : Path) (v : Nat) :
    s.blockWrite path .basecamp BC_PWR_CMD.off v = s.pwrCmd path v := show s.bcWrite path BC_PWR_CMD.off v = _ from if_pos rfl

theorem State.blockWrite_wdogKick (s : State) (path : Path) (v : Nat) :
    s.blockWrite path .basecamp BC_WDOG_KICK.off v = s.wdogKick path v :=
  show s.bcWrite path BC_WDOG_KICK.off v = _ from (if_neg (by decide)).trans (if_pos rfl)

theorem State.blockWrite_rst (s : State) (path : Path) (v : Nat) :
    s.blockWrite path .basecamp BC_RST.off v = s.rstWrite path v :=
  show s.bcWrite path BC_RST.off v = _ from (if_neg (by decide)).trans ((if_neg (by decide)).trans (if_pos rfl))

theorem State.blockWrite_pdReq (s : State) (path : Path) (v : Nat) :
    s.blockWrite path .basecamp BC_PD_REQ.off v = s.pdReqWrite v :=
  show s.bcWrite path BC_PD_REQ.off v = _ from (if_neg (by decide)).trans ((if_neg (by decide)).trans
    ((if_neg (by decide)).trans ((if_neg (by decide)).trans (if_pos rfl))))

/-- A legal power command of the MP is carried out (R364). -/
theorem State.pwrCmd_legal (s : State) {v target : Nat} (hgo : bitsOf v 8 1 ≠ 0) (htarget : bitsOf v 0 2 = target) (hne : target ≠ 3)
    (hlegal : s.pwrLegal target = true) : s.pwrCmd .mp v = s.pwrGo target := by
  unfold State.pwrCmd
  dsimp only
  rw [if_neg (by decide), if_neg hgo, htarget, if_neg hne, if_pos hlegal]

theorem State.wdogKick_first (s : State) : s.wdogKick .mp 0xA5 = s.modBc fun b => { b with kickAt := some s.now } :=
  (if_neg (by decide)).trans (if_pos rfl)

theorem State.wdogKick_second (s : State) {f : Nat} (hfirst : s.bc.kickAt = some f) (htime : s.now ≤ f + usU 100) :
    s.wdogKick .mp 0x5A = (s.modBc fun b => { b with kickAt := none }).wdogService := by
  unfold State.wdogKick
  rw [if_neg (by decide), if_neg (by decide)]
  dsimp only
  rw [hfirst]
  exact if_pos ⟨rfl, htime⟩

/-! ### Domains and wake sources (R362, R367) -/

theorem exec_domainOn_due (t : Nat) (d : Fin 26) (s : State) (h : (s.at t).domDue d.val = true) :
    exec (.domainOn t d) s = .next ((s.at t).domSwitchOn d.val) := congrArg Host.Outcome.next (if_pos h)

/-- A wake pin at a level. -/
def State.pinAt (s : State) (i : Fin 4) (level : Bool) : State := s.modBc fun b => { b with wakePin := b.wakePin.set i level }

theorem exec_wakePin_rises (t : Nat) (i : Fin 4) (level : Bool) (s : State) (hwas : (s.at t).wakeActive i = false)
    (hbiv : (s.at t).pstate = PS_BIVOUAC) (hactive : ((s.at t).pinAt i level).wakeActive i = true) :
    exec (.wakePin t i level) s = .next (((s.at t).pinAt i level).modBc fun b =>
      { b with wakeFrom := b.wakeFrom.set i (some (s.at t).now) }) := by
  have hinactive : ¬ (!((s.at t).pinAt i level).wakeActive i) = true := by
    rw [hactive]
    exact not_notTrue
  exact congrArg Host.Outcome.next ((if_neg hinactive).trans (if_pos ⟨.inl hbiv, by rw [hwas]; rfl⟩))

theorem exec_wakeQualified_due (t : Nat) (i : Fin 4) (s : State) {f : Nat} (hfrom : (s.at t).bc.wakeFrom[i] = some f)
    (hen : (s.at t).wakeEnabled i = true) (hdue : f + usU (10 * (s.at t).get .basecamp BC_WAKE_CFG_FILT) ≤ (s.at t).now)
    (hbiv : (s.at t).pstate = PS_BIVOUAC) : exec (.wakeQualified t i) s =
      .next (((s.at t).modBc fun b => { b with wakeFrom := b.wakeFrom.set i none }).wakeRecord i.val) := by
  show execWakeQualified t i s = _
  unfold execWakeQualified State.step'
  dsimp only
  rw [hfrom]
  dsimp only
  rw [if_pos ⟨hen, hdue, .inl hbiv⟩]

theorem exec_wakeTimer_due (t : Nat) (s : State) (hen : (s.at t).flag .basecamp BC_WAKE_CFG_TIMER_EN = true)
    (hbiv : (s.at t).pstate = PS_BIVOUAC) (hdue : (s.at t).bc.bivAt + secU ((s.at t).get .basecamp BC_WAKE_TIMER) ≤ (s.at t).now)
    (hfirst : (s.at t).bc.timerDone = false) :
    exec (.wakeTimer t) s = .next (((s.at t).modBc fun b => { b with timerDone := true }).wakeRecord 4) :=
  congrArg Host.Outcome.next (if_pos ⟨hen, hdue, by rw [hfirst]; rfl, .inl hbiv⟩)

/-! ### Resets (R372) -/

theorem exec_pinReset_long (t : Nat) {dur : Nat} (s : State) (hdur : usU 5 ≤ dur) (hinit : (s.at t).pstate ≠ PS_INIT)
    (hhigh : (s.at t).bc.nrstLow = false) : exec (.pinReset t dur) s = .next (((s.at t).coldReset.modBc fun b =>
      { b with nrstLow := true, nrstWake := (s.at t).pstate = PS_BIVOUAC }).goUp 0x02) := by
  have hshort : ¬ dur < usU 1 := Nat.not_lt.mpr (Nat.le_trans (by decide) hdur)
  show execPinReset t dur s = _
  unfold execPinReset State.step'
  rw [if_neg hshort, if_neg (Nat.not_lt.mpr hdur)]
  dsimp only
  rw [if_neg]
  rw [hhigh]
  exact not_or_intro hinit Bool.false_ne_true

theorem exec_nresetRise_up (t : Nat) (s : State) (hlow : (s.at t).bc.nrstLow = true) (hwake : (s.at t).bc.nrstWake = false)
    (hup : (s.at t).pstate = PS_SEQ_UP) : exec (.nresetRise t) s =
      .next ((s.at t).modBc fun b => { b with nrstLow := false, nrstWake := false }).stepBegin := by
  show execNresetRise t s = _
  unfold execNresetRise State.step'
  dsimp only
  rw [hlow, if_neg not_notTrue, hwake, if_neg Bool.false_ne_true]
  exact congrArg Host.Outcome.next (if_pos hup)

/-! ### Restarts of the MP (R324, R332–R334, R370) -/

theorem exec_wdogExpiry_due (t : Nat) (s : State) (hrun : (s.at t).flag .basecamp BC_STATUS_WDOG_RUN = true)
    (hdue : (s.at t).bc.wdogDue ≤ (s.at t).now) : exec (.wdogExpiry t) s = .next (s.at t).wdogExpire :=
  congrArg Host.Outcome.next (if_pos ⟨hrun, hdue⟩)

theorem exec_lockstep_runs (t : Nat) (s : State) (h : (s.at t).mpRuns = true) :
    exec (.lockstep t) s = .next ((s.at t).mpExpiry 0x02) := congrArg Host.Outcome.next (if_pos h)

theorem exec_mpFault_runs (t : Nat) (ext : Bool) (s : State) (h : (s.at t).mpRuns = true) : exec (.mpFault t ext) s =
    .next (({ s.at t with mp := { (s.at t).mp with extBlame := ext } } : State).mpExpiry 0x03) :=
  congrArg Host.Outcome.next (if_pos h)

theorem exec_runtimeUp_booted (t : Nat) (s : State) (hruns : (s.at t).mpRuns = true) (hrestart : (s.at t).mp.restart = true)
    (hbooted : (s.at t).sec.booted = true) (hrecovery : (s.at t).flag .sec SEC_STATUS_RECOVERY = false) :
    exec (.runtimeUp t) s = .next (s.at t).runtimeUp :=
  congrArg Host.Outcome.next (if_pos ⟨hruns, hrestart, hbooted, by rw [hrecovery]; rfl⟩)

theorem exec_shortWindowClose_due (t : Nat) (s : State) {f : Nat} (hfrom : (s.at t).mp.shortFrom = some f)
    (hdue : f + secU 2 ≤ (s.at t).now) :
    exec (.shortWindowClose t) s = .next { s.at t with mp := { (s.at t).mp with shortFrom := none, shortCnt := 0 } } := by
  show execShortWindowClose t s = _
  unfold execShortWindowClose State.step'
  dsimp only
  rw [hfrom]
  dsimp only
  rw [if_pos hdue]

theorem exec_longWindowClose_due (t : Nat) (s : State) {f : Nat} (hfrom : (s.at t).mp.longFrom = some f)
    (hdue : f + secU 10 ≤ (s.at t).now) : exec (.longWindowClose t) s =
      .next (({ s.at t with mp := { (s.at t).mp with longFrom := none, longCnt := 0 } } : State).put .mbx MP_EXPIRIES 0) := by
  show execLongWindowClose t s = _
  unfold execLongWindowClose State.step'
  dsimp only
  rw [hfrom]
  dsimp only
  rw [if_pos hdue]

/-! ### The statement -/

/-- Settles O35: a legal word of a command register is its act, and each event is its step when it is due. -/
theorem powerCommandsComplete : Obligations.PowerCommandsComplete := by
  refine ⟨?run, ?standby, ?bivouac, ?request, ?domain, ?pin, ?qualified, ?timer, ?pinReset, ?rise, ?reset, ?kick, ?service,
    ?expiry, ?lockstep, ?fault, ?runtime, ?short, ?long⟩
  case run =>
    refine completes_of_block_write (exec_pwrCmdRun · .mp) (by decide) (by decide) (by decide) (fun _ h => h.1) ?_
    rintro u ⟨-, hlegal⟩
    rw [u.blockWrite_pwrCmd, u.pwrCmd_legal (by decide) (by decide) (by decide) hlegal]
    rfl
  case standby =>
    refine completes_of_block_write (exec_pwrCmdStandby · .mp) (by decide) (by decide) (by decide) (fun _ h => h.1) ?_
    rintro u ⟨-, hlegal⟩
    rw [u.blockWrite_pwrCmd, u.pwrCmd_legal (by decide) (by decide) (by decide) hlegal]
    rfl
  case bivouac =>
    refine completes_of_block_write (exec_pwrCmdBivouac · .mp) (by decide) (by decide) (by decide) (fun _ h => h.1) ?_
    rintro u ⟨-, hlegal⟩
    rw [u.blockWrite_pwrCmd, u.pwrCmd_legal (by decide) (by decide) (by decide) hlegal]
    rfl
  case request =>
    intro path v hv
    refine completes_of_block_write (exec_pdReqWrite · path v) hv (by decide) (by decide) (fun _ h => h) fun u _ => ?_
    rw [u.blockWrite_pdReq]
  case domain =>
    intro d t s h
    exact ⟨_, exec_domainOn_due t d s h, rfl⟩
  case pin =>
    rintro i level t s ⟨hwas, hbiv, hactive⟩
    exact ⟨_, exec_wakePin_rises t i level s hwas hbiv hactive, Vector.getElem_set_self _, Vector.getElem_set_self _, fun _ _ => rfl⟩
  case qualified =>
    rintro i f t s ⟨hfrom, hen, hdue, hbiv⟩
    exact ⟨_, exec_wakeQualified_due t i s hfrom hen hdue hbiv, rfl⟩
  case timer =>
    rintro t s ⟨hen, hbiv, hdue, hfirst⟩
    exact ⟨_, exec_wakeTimer_due t s hen hbiv hdue hfirst, rfl⟩
  case pinReset =>
    rintro dur hdur t s ⟨hinit, hhigh⟩
    exact ⟨_, exec_pinReset_long t s hdur hinit hhigh, rfl⟩
  case rise =>
    rintro t s ⟨hlow, hwake, hup⟩
    exact ⟨_, exec_nresetRise_up t s hlow hwake hup, rfl⟩
  case reset =>
    refine completes_of_block_write (exec_systemReset · .mp 0xC01D) (by decide) (by decide) (by decide) (fun _ h => h) fun u _ => ?_
    rw [u.blockWrite_rst, u.rstWrite_key]
    rfl
  case kick =>
    refine completes_of_block_write (exec_wdogKick · .mp 0xA5) (by decide) (by decide) (by decide) (fun _ h => h) fun u _ => ?_
    rw [u.blockWrite_wdogKick, u.wdogKick_first]
    exact ⟨rfl, fun _ _ => rfl⟩
  case service =>
    intro f
    refine completes_of_block_write (exec_wdogKick · .mp 0x5A) (by decide) (by decide) (by decide) (fun _ h => h.1) ?_
    rintro u ⟨-, hfirst, htime⟩
    rw [u.blockWrite_wdogKick, u.wdogKick_second hfirst htime]
    rfl
  case expiry =>
    rintro t s ⟨hrun, hdue⟩
    exact ⟨_, exec_wdogExpiry_due t s hrun hdue, rfl⟩
  case lockstep =>
    intro t s h
    exact ⟨_, exec_lockstep_runs t s h, rfl⟩
  case fault =>
    intro ext t s h
    exact ⟨_, exec_mpFault_runs t ext s h, rfl⟩
  case runtime =>
    rintro t s ⟨hruns, hrestart, hbooted, hrecovery⟩
    exact ⟨_, exec_runtimeUp_booted t s hruns hrestart hbooted hrecovery, rfl⟩
  case short =>
    rintro f t s ⟨hfrom, hdue⟩
    exact ⟨_, exec_shortWindowClose_due t s hfrom hdue, rfl⟩
  case long =>
    rintro f t s ⟨hfrom, hdue⟩
    exact ⟨_, exec_longWindowClose_due t s hfrom hdue, rfl⟩

end Sys2Proof.Machine

/-! ## The commands of PBA and THERM (R378, R382, R383, R392–R394, R397, R400, R403) -/

namespace Sys2Proof.Machine

/-! ### Grants, evaluations and long waits (R378, R382, R383) -/

theorem exec_pbaGrant_due (t : Nat) (s : State) {q : PbaReq} (hdom : (s.at t).domOn PD_NOC = true)
    (hdue : (s.at t).pba.nextAt ≤ (s.at t).now) (hnext : (s.at t).nextGrant = some q) :
    exec (.pbaGrant t) s = .next ((s.at t).pbaGrant q).proceedAll.pbaDue := by
  show execPbaGrant t s = _
  unfold execPbaGrant State.step'
  beta_reduce
  rw [if_neg (by simp only [hdom, Bool.not_true, Bool.false_eq_true, or_false]; omega), hnext]

/-- An evaluation that is due and has nothing of its tick to wait for takes place (log entry 25). -/
theorem State.pbaDue_now (s : State) (hdue : s.pba.evalDue = true) (hfree : s.waits evalWaits = false) :
    s.pbaDue = ({ s with pba := { s.pba with evalDue := false } } : State).pbaEvaluate := by
  unfold State.pbaDue
  rw [if_neg (by simp only [hdue, hfree, Bool.not_true, Bool.false_eq_true, or_self, not_false_eq_true])]

theorem exec_pbaEvaluation_due (t : Nat) (s : State) (hdom : (s.at t).domOn PD_NOC = true)
    (hdue : (s.at t).pba.evalAt + msU 1 ≤ (s.at t).now) (hfree : (s.at t).waits evalWaits = false) :
    exec (.pbaEvaluation t) s =
      .next ({ s.at t with pba := { (s.at t).pba with evalAt := (s.at t).now, evalDue := false } } : State).pbaEvaluate := by
  show execPbaEvaluation t s = _
  unfold execPbaEvaluation State.step'
  beta_reduce
  rw [if_neg (by simp only [hdom, Bool.not_true, Bool.false_eq_true, false_or]; omega)]
  exact congrArg Host.Outcome.next (State.pbaDue_now _ rfl hfree)

theorem exec_waitLong_due (t : Nat) (s : State)
    (h : (s.at t).pba.queue.any (fun q => !q.warned && decide (q.since + msU ((s.at t).get .pba PBA_WAIT_WARN) ≤ (s.at t).now)) =
      true) :
    exec (.waitLong t) s = .next (({ s.at t with pba := { (s.at t).pba with queue := (s.at t).pba.queue.map fun (q : PbaReq) =>
      { q with warned := q.warned || (!q.warned && decide (q.since + msU ((s.at t).get .pba PBA_WAIT_WARN) ≤ (s.at t).now)) } } } :
        State).raise .pba 1) := congrArg Host.Outcome.next (if_pos h)

/-! ### Readings (R392, R393, R400, R403) -/

theorem exec_sensorSample_cool (t : Nat) (i : Fin 24) (v : Int) (s : State) {w : State} (hdom : (s.at t).domOn PD_NOC = true)
    (h : (s.at t).tsSample i v = (w, none)) : exec (.sensorSample t i v) s = .next w.pbaDue := by
  show execSensorSample t i v s = _
  unfold execSensorSample State.step'
  beta_reduce
  rw [if_neg (by simp only [hdom, Bool.not_true, Bool.false_eq_true, not_false_eq_true]), h]

theorem exec_sensorSample_hot (t : Nat) (i : Fin 24) (v : Int) (s : State) {w : State} {sensor : Nat} {x : Int}
    (hdom : (s.at t).domOn PD_NOC = true) (h : (s.at t).tsSample i v = (w, some (sensor, x))) :
    exec (.sensorSample t i v) s = .next (w.thermShut sensor x) := by
  show execSensorSample t i v s = _
  unfold execSensorSample State.step'
  beta_reduce
  rw [if_neg (by simp only [hdom, Bool.not_true, Bool.false_eq_true, not_false_eq_true]), h]

/-- The state in which the Basecamp sensor has read `v`. -/
def State.tsbRead (s : State) (v : Int) : State :=
  ({ s with therm := { s.therm with tsb := { last := v, seen := true, bad := 0, at? := some s.now } } } : State).put .therm
    THERM_TSB (2 ^ 31 + unsigned 16 v)

theorem exec_tsbSample_cool (t : Nat) (v : Int) (s : State) (hinit : (s.at t).pstate ≠ PS_INIT)
    (hdom : (s.at t).domOn PD_NOC = true) (hcool : v < degC ((s.at t).get .therm THERM_THR_SHUT)) :
    exec (.tsbSample t v) s = .next ((s.at t).tsbRead v) := by
  have hlimit : ((s.at t).tsbRead v).get .therm THERM_THR_SHUT = (s.at t).get .therm THERM_THR_SHUT :=
    State.get_put_off _ .therm THERM_TSB THERM_THR_SHUT _ (by decide)
  refine congrArg Host.Outcome.next ((if_neg hinit).trans ((if_pos hdom).trans (if_neg ?_)))
  show ¬ degC (((s.at t).tsbRead v).get .therm THERM_THR_SHUT) ≤ v
  rw [hlimit]
  omega

theorem unsigned_lt (w : Nat) (x : Int) : unsigned w x < 2 ^ w := by
  have hpos : (0 : Int) < ((2 ^ w : Nat) : Int) := by exact_mod_cast Nat.two_pow_pos w
  have hlt := Int.emod_lt_of_pos x hpos
  have hnn := Int.emod_nonneg x (Int.ne_of_gt hpos)
  unfold unsigned
  omega

theorem State.get_tsbRead (s : State) (v : Int) : (s.tsbRead v).get .therm THERM_TSB = 2 ^ 31 + unsigned 16 v := by
  have hu := unsigned_lt 16 v
  refine (State.get_put_same _ _ _ _ (by decide)).trans (Nat.mod_eq_of_lt ?_)
  show _ < 2 ^ 32
  omega

/-! ### Throttle levels and restored sources (R394, R397) -/

theorem exec_throtStepUp_due (t : Nat) (s : State) {f : Nat} (habove : (s.at t).therm.aboveFrom = some f)
    (hdue : f + msU ((s.at t).get .therm THERM_STEP_UP_MS) ≤ (s.at t).now) :
    exec (.throtStepUp t) s =
      .next ((((s.at t).modTherm fun o => { o with aboveFrom := some (s.at t).now }).throtUp.thermShow).pbaDue) := by
  show execThrotStepUp t s = _
  unfold execThrotStepUp State.step'
  beta_reduce
  rw [habove]
  dsimp only
  rw [if_neg (by omega)]

theorem exec_throtStepDown_due (t : Nat) (s : State) {f : Nat} (hbelow : (s.at t).therm.belowFrom = some f)
    (hdue : f + msU ((s.at t).get .therm THERM_STEP_DOWN_MS) ≤ (s.at t).now)
    (hsubst : (s.at t).flag .therm THERM_STATUS_SUBST = false) :
    exec (.throtStepDown t) s =
      .next ((((s.at t).modTherm fun o => { o with belowFrom := some (s.at t).now }).throtDown.thermShow).pbaDue) := by
  have hkept : ((s.at t).modTherm fun o => { o with belowFrom := some (s.at t).now }).flag .therm THERM_STATUS_SUBST = false := hsubst
  show execThrotStepDown t s = _
  unfold execThrotStepDown State.step'
  beta_reduce
  rw [hbelow]
  dsimp only
  rw [if_neg (by omega), hkept]
  rfl

theorem exec_revalidate (t : Nat) (path : Path) (src : Fin 32) (s : State) :
    exec (.revalidate t path src) s = .next ((s.at t).regBy path .therm THERM_CMD (1 + src.val * 2 ^ 8)) := rfl

/-- A REVALIDATE of a source whose reading is plausible restores it (R394). -/
theorem State.blockWrite_revalidate (s : State) (path : Path) (src : Fin 32) {w : State} (h : s.revalidate src.val = (w, true)) :
    s.blockWrite path .therm THERM_CMD.off (1 + src.val * 2 ^ 8) = w := by
  obtain ⟨hop, hsrc⟩ : bitsOf (1 + src.val * 2 ^ 8) 0 4 = 1 ∧ bitsOf (1 + src.val * 2 ^ 8) 8 5 = src.val := by
    have hlt := src.isLt
    unfold bitsOf
    omega
  show s.thermWrite path THERM_CMD.off _ = w
  unfold State.thermWrite
  dsimp only
  rw [if_pos rfl, if_neg (by rw [hop]; decide), hsrc, h]
  rfl

/-- Settles O36: each command is its step when it is due. -/
theorem pbaAndThermCommandsComplete : Obligations.PbaAndThermCommandsComplete := by
  refine ⟨?grant, ?evaluation, ?wait, ?sample, ?shut, ?tsb, ?xt, ?up, ?down, ?restored⟩
  case grant =>
    rintro q t s ⟨hdom, hdue, hnext⟩
    exact ⟨_, exec_pbaGrant_due t s hdom hdue hnext, rfl⟩
  case evaluation =>
    rintro t s ⟨hdom, hdue, hfree⟩
    exact ⟨_, exec_pbaEvaluation_due t s hdom hdue hfree, rfl⟩
  case wait =>
    intro t s h
    exact ⟨_, exec_waitLong_due t s h, rfl⟩
  case sample =>
    rintro i v w t s ⟨hdom, hsample⟩
    exact ⟨_, exec_sensorSample_cool t i v s hdom hsample, rfl⟩
  case shut =>
    rintro i v w sensor x t s ⟨hdom, hsample⟩
    exact ⟨_, exec_sensorSample_hot t i v s hdom hsample, rfl⟩
  case tsb =>
    rintro v t s ⟨hinit, hdom, hcool, -, -⟩
    exact ⟨_, exec_tsbSample_cool t v s hinit hdom hcool, rfl, State.get_tsbRead _ v⟩
  case xt =>
    intro i v t s _
    exact ⟨_, rfl, rfl⟩
  case up =>
    rintro f t s ⟨habove, hdue⟩
    exact ⟨_, exec_throtStepUp_due t s habove hdue, rfl⟩
  case down =>
    rintro f t s ⟨hbelow, hdue, hsubst⟩
    exact ⟨_, exec_throtStepDown_due t s hbelow hdue hsubst, rfl⟩
  case restored =>
    intro path src w
    refine completes_of_block_write (exec_revalidate · path src) (by have := src.isLt; omega) (by decide) (by decide)
      (fun _ h => h.1) ?_
    rintro u ⟨-, hrestored⟩
    rw [u.blockWrite_revalidate path src hrestored]

end Sys2Proof.Machine

/-! ## The commands of CAL and the NVM (R413, R414, R418, R421, R427) -/

namespace Sys2Proof.Machine

/-! ### Background measurements (R413, R414) -/

theorem exec_calMeasurementStart_begins (t cls inst a b : Nat) (matched : Bool) (s : State) (hcls : cls ≠ 4)
    (hdom : (s.at t).domOn PD_NOC = true) (hdue : (s.at t).calDue cls inst = true)
    (hready : ((s.at t).setCalSignals cls inst a b).calPrecond cls inst a b = true) :
    exec (.calMeasurementStart t cls inst a b matched) s =
      .next (((s.at t).setCalSignals cls inst a b).calBegin cls inst) :=
  congrArg Host.Outcome.next ((if_pos ⟨hdom, hdue⟩).trans ((if_pos hready).trans (if_neg hcls)))

/-- The state in which a background measurement has ended, its signals kept. -/
def State.calEnded (s : State) (cls inst : Nat) (m : CalMeas) : State :=
  (s.setCalSignals cls inst m.a m.b).modCalOf cls inst fun c => { c with from? := none, ended := some s.now }

/-- A result that ends without a run is screened, set against the one before it, and accepted when they agree (R414). -/
def State.calTaken (s : State) (cls inst : Nat) (m : CalMeas) : State :=
  let (s, use) := s.calScreen cls inst m
  if !use then (s.adcTurnOver cls inst).calState
  else
    let prev := s.calPrev cls inst
    let s := s.setCalPrev cls inst m.vals
    let s := match prev with
      | none => s
      | some p => if s.calAgree cls p m.vals then s.calAccept cls inst (calMean cls p m.vals) m else s.calDisagree cls inst
    (s.adcTurnOver cls inst).calState

theorem State.calTaken_agrees (s : State) (cls inst : Nat) (m : CalMeas) {w : State} {p : List Int}
    (hscreen : s.calScreen cls inst m = (w, true)) (hprev : w.calPrev cls inst = some p)
    (hagree : (w.setCalPrev cls inst m.vals).calAgree cls p m.vals = true) :
    s.calTaken cls inst m =
      (((w.setCalPrev cls inst m.vals).calAccept cls inst (calMean cls p m.vals) m).adcTurnOver cls inst).calState := by
  unfold State.calTaken
  rw [hscreen]
  dsimp only
  rw [hprev]
  dsimp only
  rw [if_neg (by decide), if_pos hagree]

theorem State.now_setCalSignals (s : State) (cls inst a b : Nat) : (s.setCalSignals cls inst a b).now = s.now := by
  unfold State.setCalSignals
  split
  · split <;> rfl
  · split
    · split <;> rfl
    · rfl

theorem State.run_setCalSignals (s : State) (cls inst a b : Nat) : (s.setCalSignals cls inst a b).cal.run = s.cal.run := by
  unfold State.setCalSignals
  split
  · split <;> rfl
  · split
    · split <;> rfl
    · rfl

/-- A measurement that ends without a run ends by itself: skipped when a precondition failed, else its result is taken. -/
theorem exec_calMeasurementDone_alone (t cls inst : Nat) (m : CalMeas) (s : State)
    (hopen : ((s.at t).calOf cls inst).from?.isSome = true) (hready : (s.at t).adcReady cls inst = true)
    (hrun : (s.at t).cal.run = none) :
    exec (.calMeasurementDone t cls inst m) s = .next
      (if !(!((s.at t).calOf cls inst).lost && (s.at t).calPrecond cls inst m.a m.b && (cls != 3 || decide (256 ≤ m.a))) then
        ((((s.at t).calEnded cls inst m).bump .cal CAL_SKIP_CNT).adcTurnOver cls inst).calState
      else ((s.at t).calEnded cls inst m).calTaken cls inst m) := by
  show execCalMeasurementDone t cls inst m s = _
  unfold execCalMeasurementDone State.step'
  dsimp only
  rw [if_neg (by simp only [Option.isNone_eq_false_iff.mpr hopen, hready, Bool.not_true, Bool.false_eq_true, or_self,
      not_false_eq_true]),
    State.run_setCalSignals, hrun]
  dsimp only [Option.filter]
  rw [State.now_setCalSignals]
  rfl

theorem exec_calMeasurementDone_lost (t cls inst : Nat) (m : CalMeas) (s : State)
    (hopen : ((s.at t).calOf cls inst).from?.isSome = true) (hready : (s.at t).adcReady cls inst = true)
    (hrun : (s.at t).cal.run = none) (hlost : ((s.at t).calOf cls inst).lost = true) :
    exec (.calMeasurementDone t cls inst m) s =
      .next ((((s.at t).calEnded cls inst m).bump .cal CAL_SKIP_CNT).adcTurnOver cls inst).calState := by
  rw [exec_calMeasurementDone_alone t cls inst m s hopen hready hrun, hlost, Bool.not_true, Bool.false_and, Bool.false_and,
    if_pos Bool.not_false]

theorem exec_calMeasurementDone_good (t cls inst : Nat) (m : CalMeas) (s : State)
    (hopen : ((s.at t).calOf cls inst).from?.isSome = true) (hready : (s.at t).adcReady cls inst = true)
    (hrun : (s.at t).cal.run = none) (hlost : ((s.at t).calOf cls inst).lost = false)
    (hpre : (s.at t).calPrecond cls inst m.a m.b = true) (hscan : cls = 3 → 256 ≤ m.a) :
    exec (.calMeasurementDone t cls inst m) s = .next (((s.at t).calEnded cls inst m).calTaken cls inst m) := by
  have hlight : (cls != 3 || decide (256 ≤ m.a)) = true := by
    by_cases h : cls = 3
    · rw [decide_eq_true (hscan h), Bool.or_true]
    · rw [bne_iff_ne.mpr h, Bool.true_or]
  rw [exec_calMeasurementDone_alone t cls inst m s hopen hready hrun, hlost, hpre, hlight]
  rfl

theorem exec_calUnstable_due (t cls inst : Nat) (s : State)
    (hmax : (s.at t).get .cal CAL_CFG_DISAGREE_MAX ≤ ((s.at t).calOf cls inst).dis) (hsome : 0 < ((s.at t).calOf cls inst).dis)
    (hstable : ((s.at t).calOf cls inst).unstable = false) :
    exec (.calUnstable t cls inst) s = .next (((((s.at t).modCalOf cls inst fun c => { c with unstable := true }).put .cal
      ⟨(calQual cls inst).off, 30, 1⟩ 1).raise .cal CAL_EV_UNSTABLE).errHw .cal ST_HW_FAULT CAL_UNSTABLE_D) :=
  congrArg Host.Outcome.next (if_pos ⟨hmax, hsome, by rw [hstable]; rfl⟩)

/-! ### Runs (R418) -/

theorem exec_calCmd (t : Nat) (path : Path) (cls : Fin 16) (inst : Fin 8) (s : State) :
    exec (.calCmd t path cls inst) s =
      .next ((s.at t).regBy path .cal CAL_CMD (2 ^ 31 + inst.val * 2 ^ 16 + cls.val)) := rfl

/-- The fields of a command word: GO, CLASS and INSTANCE. -/
theorem calWord_fields (cls : Fin 16) (inst : Fin 8) : bitsOf (2 ^ 31 + inst.val * 2 ^ 16 + cls.val) 31 1 = 1 ∧
    bitsOf (2 ^ 31 + inst.val * 2 ^ 16 + cls.val) 0 4 = cls.val ∧
    bitsOf (2 ^ 31 + inst.val * 2 ^ 16 + cls.val) 16 3 = inst.val := by
  have hcls := cls.isLt
  have hinst := inst.isLt
  unfold bitsOf
  omega

theorem State.calCmd_accepted (s : State) (path : Path) (cls : Fin 16) (inst : Fin 8) (hlow : 1 ≤ cls.val) (hhigh : cls.val ≤ 9)
    (hrun : s.cal.run = none) (hdecl : s.calDeclared cls.val inst.val = true) :
    (s.calCmd path (2 ^ 31 + inst.val * 2 ^ 16 + cls.val)).2 = (ST_ACCEPTED, 0) := by
  obtain ⟨hgo, hcls, hinst⟩ := calWord_fields cls inst
  unfold State.calCmd
  dsimp only
  rw [hgo, hcls, hinst, hrun, if_neg (by decide), if_neg (by decide), if_neg (by omega), hdecl, if_neg (by decide), apply_ite Prod.snd]
  exact ite_self _

theorem exec_calTimeout_due (t : Nat) (s : State) {run : CalRun} (hrun : (s.at t).cal.run = some run)
    (hdue : run.start + secU 10 ≤ (s.at t).now) :
    exec (.calTimeout t) s = .next ((s.at t).calRunEnd ST_TIMEOUT CAL_TIMEOUT_D) := by
  show execCalTimeout t s = _
  unfold execCalTimeout State.step'
  beta_reduce
  rw [hrun]
  exact congrArg Host.Outcome.next (if_pos hdue)

/-! ### Commands of the NVM (R421) -/

theorem exec_nvmProgram (t : Nat) (path : Path) (count : Fin 8) (s : State) :
    exec (.nvmProgram t path count) s = .next ((s.at t).regBy path .nvm NVM_CMD (2 ^ 31 + count.val * 2 ^ 8 + 1)) := rfl
theorem exec_nvmRead (t : Nat) (path : Path) (count : Fin 8) (s : State) :
    exec (.nvmRead t path count) s = .next ((s.at t).regBy path .nvm NVM_CMD (2 ^ 31 + count.val * 2 ^ 8 + 2)) := rfl

/-- The fields of a command word: GO, OP and COUNT. -/
theorem nvmWord_fields (count : Fin 8) {op : Nat} (hop : op < 16) : bitsOf (2 ^ 31 + count.val * 2 ^ 8 + op) 31 1 = 1 ∧
    bitsOf (2 ^ 31 + count.val * 2 ^ 8 + op) 0 4 = op ∧ bitsOf (2 ^ 31 + count.val * 2 ^ 8 + op) 8 3 = count.val := by
  have hcount := count.isLt
  unfold bitsOf
  omega

/-- A command whose checks pass begins (R421). -/
theorem State.blockWrite_nvmCmd (s : State) (path : Path) (count : Fin 8) {op : Nat} (hop : op < 16)
    (hpass : (s.nvmCheck op (s.get .nvm NVM_ADDR) (count.val + 1)).1 = ST_OK) :
    s.blockWrite path .nvm NVM_CMD.off (2 ^ 31 + count.val * 2 ^ 8 + op) =
      s.nvmBegin { op := op, addr := s.get .nvm NVM_ADDR, count := count.val + 1, since := s.now, path := pathCode path
                   data := if op = 1 then s.nvmWbuf (32 * (count.val + 1)) else [] } := by
  obtain ⟨hgo, hopc, hcount⟩ := nvmWord_fields count hop
  refine (show s.nvmWrite path NVM_CMD.off _ = _ from if_pos rfl).trans ?_
  unfold State.nvmCmd
  rw [hgo, hopc, hcount, if_neg (by decide)]
  dsimp only
  rw [if_neg (not_not_intro hpass)]

/-! ### Granules and the scan (R421, R427) -/

theorem exec_nvmGranuleDone_again (t : Nat) (s : State) {run : NvmRun} (hrun : (s.at t).nvm.run = some run) (hop : run.op = 1)
    (hagain : run.again = false) : exec (.nvmGranuleDone t 1) s =
      .next ((s.at t).modNvm fun n => { n with run := some { run with again := true } }) := by
  show execNvmGranuleDone t 1 s = _
  unfold execNvmGranuleDone State.step'
  beta_reduce
  rw [hrun]
  dsimp only
  rw [if_pos hop, if_neg (by decide), if_pos (by rw [hagain]; rfl)]

/-- The state in which the granule under way of a PROGRAM is in the memory. -/
def State.granuleStored (s : State) (r : NvmRun) : State :=
  { s with nvmMem := memSetBytes s.nvmMem (r.addr + 32 * r.done) ((r.data.drop (32 * r.done)).take 32) }

/-- A granule outside the records that reads back is in the memory, is counted, and the next follows. -/
theorem exec_nvmGranuleDone_content (t : Nat) (s : State) {run : NvmRun} (hrun : (s.at t).nvm.run = some run) (hop : run.op = 1)
    (hcontent : recAt (run.addr + 32 * run.done) = none) : exec (.nvmGranuleDone t 0) s =
      .next ((((s.at t).granuleStored run).bump .nvm NVM_PROG_CNT).granuleNext run) := by
  show execNvmGranuleDone t 0 s = _
  unfold execNvmGranuleDone State.step'
  beta_reduce
  rw [hrun]
  dsimp only
  rw [if_pos hop, if_pos rfl, hcontent]
  rfl

theorem exec_nvmScan_due (t : Nat) (s : State) (hdom : (s.at t).domOn PD_NVM = true) (hstate : (s.at t).get .nvm BLK_STATE = NVM_SCAN)
    (hidle : (s.at t).nvm.scanAt = none) :
    exec (.nvmScan t) s = .next ((s.at t).modNvm fun n => { n with scanAt := some (s.at t).now }) :=
  congrArg Host.Outcome.next (if_pos ⟨hdom, hstate, hidle⟩)

/-- The end of a scan, reported with the record it found interrupted (R427). -/
def State.scanReport (s : State) : State :=
  let s := s.raise .nvm NVM_EV_SCAN_DONE
  let m := s.get .nvm NVM_INTR
  if bitOf m 31 then
    (s.errInfo .nvm PATH_HW 0 ST_INTERRUPTED NVM_REC_INTERRUPTED (bitsOf m 8 5 * 2 ^ 8 + bitsOf m 0 1)).put .nvm NVM_INTR 0
  else s

/-- The state in which the scan has ended and the block is IDLE. -/
def State.scanIdle (s : State) : State := (s.modNvm fun n => { n with scanAt := none }).put .nvm BLK_STATE NVM_IDLE

theorem exec_scanDone_shown (t : Nat) (s : State) (hopen : (s.at t).nvm.scanAt.isSome = true) :
    ∃ w : State, exec (.scanDone t) s = .next w.scanIdle.scanReport :=
  ⟨_, congrArg Host.Outcome.next (if_neg (Option.isSome_iff_ne_none.mp hopen))⟩

theorem State.onlyRecords_scanReport (s : State) : OnlyRecords s s.scanReport := by
  unfold State.scanReport
  dsimp only
  split
  · exact ((s.onlyRecords_raise _ _).trans (State.onlyRecords_errInfo _ _ _ _ _ _ _)).trans (State.onlyRecords_put _ _ _ _)
  · exact s.onlyRecords_raise _ _

theorem State.state_scanReport (s : State) : s.scanReport.get .nvm BLK_STATE = s.get .nvm BLK_STATE := by
  have hraise := s.get_raise .nvm .nvm NVM_EV_SCAN_DONE BLK_STATE (by decide)
  unfold State.scanReport
  dsimp only
  split
  · rw [State.get_put_off _ _ _ _ _ (by decide), State.get_errInfo _ _ _ _ _ _ _ _ _ (by decide), hraise]
  · exact hraise

/-- Settles O37: a command word starts its command, and each step of a measurement, a run or a scan is taken when it is due. -/
theorem calAndNvmCommandsComplete : Obligations.CalAndNvmCommandsComplete := by
  refine ⟨?start, ?lost, ?agreed, ?unstable, ?command, ?timeout, ?program, ?read, ?again, ?granule, ?scan, ?scanned⟩
  case start =>
    rintro cls inst a b m hcls t s ⟨hdom, hdue, hready⟩
    exact ⟨_, exec_calMeasurementStart_begins t cls inst a b m s hcls hdom hdue hready, rfl⟩
  case lost =>
    rintro cls inst m t s ⟨hopen, hready, hrun, hlost⟩
    exact ⟨_, exec_calMeasurementDone_lost t cls inst m s hopen hready hrun hlost, rfl⟩
  case agreed =>
    rintro cls inst m w p t s ⟨hopen, hready, hrun, hlost, hpre, hscan, hscreen, hprev, hagree⟩
    exact ⟨_, exec_calMeasurementDone_good t cls inst m s hopen hready hrun hlost hpre hscan,
      State.calTaken_agrees _ cls inst m hscreen hprev hagree⟩
  case unstable =>
    rintro cls inst t s ⟨hmax, hsome, hstable⟩
    exact ⟨_, exec_calUnstable_due t cls inst s hmax hsome hstable, rfl⟩
  case command =>
    intro path cls inst hlow hhigh
    refine completes_of_block_write (exec_calCmd · path cls inst) (by have := cls.isLt; have := inst.isLt; omega) (by decide)
      (by decide) (fun _ h => h.1) ?_
    rintro u ⟨-, hrun, hdecl⟩
    exact ⟨congrArg (State.answer · _) (show u.calWrite path CAL_CMD.off _ = _ from if_pos rfl),
      u.calCmd_accepted path cls inst hlow hhigh hrun hdecl⟩
  case timeout =>
    rintro run t s ⟨hrun, hdue⟩
    exact ⟨_, exec_calTimeout_due t s hrun hdue, rfl⟩
  case program =>
    intro path count
    refine completes_of_block_write (exec_nvmProgram · path count) (by have := count.isLt; omega) (by decide) (by decide)
      (fun _ h => h.1) ?_
    rintro u ⟨-, hpass⟩
    rw [u.blockWrite_nvmCmd path count (by decide) hpass, if_pos rfl]
  case read =>
    intro path count
    refine completes_of_block_write (exec_nvmRead · path count) (by have := count.isLt; omega) (by decide) (by decide)
      (fun _ h => h.1) ?_
    rintro u ⟨-, hpass⟩
    rw [u.blockWrite_nvmCmd path count (by decide) hpass, if_neg (by decide)]
  case again =>
    rintro run t s ⟨hrun, hop, hagain⟩
    exact ⟨_, exec_nvmGranuleDone_again t s hrun hop hagain, rfl, fun _ _ => rfl⟩
  case granule =>
    rintro run t s ⟨hrun, hop, hcontent⟩
    exact ⟨_, exec_nvmGranuleDone_content t s hrun hop hcontent, _, rfl, rfl⟩
  case scan =>
    rintro t s ⟨hdom, hstate, hidle⟩
    exact ⟨_, exec_nvmScan_due t s hdom hstate hidle, rfl, fun _ _ => rfl⟩
  case scanned =>
    intro t s hopen
    obtain ⟨w, hexec⟩ := exec_scanDone_shown t s hopen
    refine ⟨_, hexec, ?_, ?_⟩
    · rw [w.scanIdle.onlyRecords_scanReport.nvm]
      rfl
    · rw [State.state_scanReport]
      exact State.get_put_same _ _ _ _ (by decide)

end Sys2Proof.Machine

/-! ## The commands of mask ingest (R74, R94, R442) -/

namespace Sys2Proof.Machine

/-- With no packet of the same key slot and tick on a lower port, none is taken first (R443). -/
theorem State.imsLower_none (s : State) (n : Fin 4) (f : NetPkt) (h : s.lowerFirst n f = false) : s.imsLower n f = s := by
  have hskip : ∀ l : List (Fin 4), l.foldl (fun (s : State) m =>
      if m < n ∧ s.eth[m].ims.head?.any (fun g => g.at' / tickU == f.at' / tickU && frBE g.bytes 2 1 == frBE f.bytes 2 1) then
        s.imsTake m else s) s = s := by
    intro l
    induction l with
    | nil => rfl
    | cons m l ih =>
      refine (congrArg (l.foldl _) (if_neg ?_)).trans ih
      rintro ⟨hlt, hhead⟩
      obtain ⟨g, hg, hsame⟩ := (Option.any_eq_true _ _).mp hhead
      have hmem : g ∈ s.eth[m].ims := List.mem_of_mem_head? hg
      have hall := List.any_eq_false.mp h m (List.mem_finRange m)
      rw [decide_eq_true hlt, Bool.true_and] at hall
      exact List.any_eq_false.mp (Bool.eq_false_iff.mpr hall) g (List.mem_append_left _ hmem) hsame
  exact hskip _

/-- A packet with its type and length right and its checks passed hands its segment over while ingest is enabled (R442). -/
theorem State.imsTake_authentic (s : State) (n : Fin 4) {f : NetPkt} {rest : List NetPkt} {w : State} (hims : s.eth[n].ims = f :: rest)
    (htype : frBE f.bytes 0 2 = 0x494D) (hlen : 16 ≤ f.bytes.length)
    (hauth : (s.modEth n fun e => { e with ims := rest }).authenticate 1 n f = (w, none))
    (hen : w.flag (.comp 7) IMS_CFG_EN = true) :
    s.imsTake n = w.imsSegment (((f.bytes.drop 8).take (f.bytes.length - 16)).map (·.toNat)) := by
  unfold State.imsTake
  rw [hims]
  dsimp only
  rw [if_neg (by rintro (hne | hlt)
                 · exact hne htype
                 · omega), hauth]
  exact if_pos hen

theorem exec_imsPacket_authentic (t : Nat) (n : Fin 4) (s : State) {f : NetPkt} {rest : List NetPkt} {w : State}
    (hims : (s.at t).eth[n].ims = f :: rest) (hfirst : (s.at t).lowerFirst n f = false) (htype : frBE f.bytes 0 2 = 0x494D)
    (hlen : 16 ≤ f.bytes.length) (hauth : ((s.at t).modEth n fun e => { e with ims := rest }).authenticate 1 n f = (w, none))
    (hen : w.flag (.comp 7) IMS_CFG_EN = true) :
    exec (.imsPacket t n) s = .next (w.imsSegment (((f.bytes.drop 8).take (f.bytes.length - 16)).map (·.toNat))) := by
  show execImsPacket t n s = _
  unfold execImsPacket State.step'
  beta_reduce
  rw [hims]
  dsimp only
  rw [State.imsLower_none _ n f hfirst, hfirst, if_neg Bool.false_ne_true,
    State.imsTake_authentic _ n hims htype hlen hauth hen]

theorem exec_assemblyTimeout_due (t : Nat) (i : Fin 4) (s : State) (hfilling : (s.at t).ims.slots[i].state = MASK_FILLING)
    (hdue : (s.at t).ims.slots[i].since + (s.at t).imsTimeout ≤ (s.at t).now) :
    exec (.assemblyTimeout t i) s =
      .next ((((s.at t).setSlot i {}).bump (.comp 7) MASK_TIMEOUT_CNT).raise (.comp 0) COMP_EV_ASSEMBLY_TIMEOUT) :=
  congrArg Host.Outcome.next (if_neg (by rintro (hne | hlt)
                                         · exact hne hfilling
                                         · omega))

theorem OnlyRecords.ims {s u : State} (h : OnlyRecords s u) : u.ims = s.ims := by
  rw [show u = _ from h]

theorem State.onlyRecords_imsShow (s : State) : OnlyRecords s s.imsShow := by
  have hfold : ∀ (l : List (Fin 4)) (u : State), OnlyRecords s u → OnlyRecords s (l.foldl (fun s i =>
      (s.put (.comp 7) (MASK_SLOT_STAT i.val) (if s.ims.slots[i].state = MASK_FREE then 0
        else s.ims.slots[i].id * 65536 + (if s.ims.slots[i].hdr.mode = 2 then 4 else 0) + s.ims.slots[i].state)).put (.comp 7)
        (MASK_SLOT_CAP i.val) (if s.ims.slots[i].state = MASK_FREE then 0 else s.ims.slots[i].hdr.capture % 1000000000)) u) := by
    intro l
    induction l with
    | nil => exact fun u hu => hu
    | cons i l ih => exact fun u hu => ih _ ((hu.trans (u.onlyRecords_put _ _ _)).trans (State.onlyRecords_put _ _ _ _))
  exact hfold _ s (.refl s)

/-- Settles O12: each command is its step when its conditions hold. -/
theorem ingestCommandsComplete : Obligations.IngestCommandsComplete := by
  refine ⟨?packet, ?timeout, ?expiry, ?config⟩
  case packet =>
    rintro n f rest w t s ⟨hims, hfirst, htype, hlen, hauth, hen⟩
    exact ⟨_, exec_imsPacket_authentic t n s hims hfirst htype hlen hauth hen, rfl⟩
  case timeout =>
    rintro i t s ⟨hfilling, hdue⟩
    refine ⟨_, exec_assemblyTimeout_due t i s hfilling hdue, rfl, ?_⟩
    rw [(State.onlyRecords_raise _ _ _).ims, (State.onlyRecords_bump _ _ _).ims,
      show ((s.at t).setSlot i {}).ims = _ from (State.onlyRecords_imsShow _).ims]
    exact congrArg MaskSlot.state (Vector.getElem_set_self _)
  case expiry =>
    intro t s _
    exact ⟨_, rfl, rfl⟩
  case config =>
    intro path v hv
    refine completes_of_block_write (c := fun t => .imsCfgWrite t path v) (fun _ _ => rfl) hv (by decide) (by decide) (fun _ h => h.1)
      fun u _ => congrArg (State.answer · _) ?_
    show u.compWrite path 7 IMS_CFG.off v = _
    exact (if_neg (by decide)).trans (if_pos ⟨rfl, rfl⟩)

end Sys2Proof.Machine

/-! ## The commands of SEC (R456, R457) -/

namespace Sys2Proof.Machine

/-! ### Boot (R456) -/

/-- Slot B is tried first: its header is plausible, and slot A's is not or has the lower version (R456). -/
abbrev State.bootsBFirst (s : State) (a b : BootImg) : Bool :=
  s.imgPlausible b && (!s.imgPlausible a || decide (imgVer a < imgVer b))

/-- Recovery: neither image is valid (R456). -/
def State.bootFailed (s : State) : State :=
  ((({ s with sec := { s.sec with booted := true } } : State).put .sec SEC_STATUS_RECOVERY 1).put .sec
    ⟨SEC_STATUS.off, 4, 2⟩ 2).raise .sec SEC_EV_BOOT_FAIL

/-- Boot with image `x` of slot `slot` tried first and `y` after it (R456). -/
def State.bootFrom (s : State) (x y ext : BootImg) (slot : Nat) : State :=
  if s.imgValid x then ((s.sigCount x).runtimeStart x slot).extLoad ext
  else if s.imgValid y then (((s.sigCount x).sigCount y).runtimeStart y (1 - slot)).extLoad ext
  else ((s.sigCount x).sigCount y).bootFailed

theorem exec_boot_fresh (t : Nat) (a b ext : BootImg) (s : State) (hdom : (s.at t).domOn PD_MP = true)
    (hdown : (s.at t).mp.up = false) (hfresh : (s.at t).sec.booted = false) :
    exec (.boot t a b ext) s = .next (if (s.at t).bootsBFirst a b then (s.at t).bootFrom b a ext 1
      else (s.at t).bootFrom a b ext 0) := by
  show execBoot t a b ext s = _
  unfold execBoot State.step'
  dsimp only
  rw [if_neg (by simp only [hdom, hdown, hfresh, Bool.not_true, Bool.false_eq_true, or_self, not_false_eq_true])]
  unfold State.bootsBFirst
  generalize ((s.at t).imgPlausible b && (!(s.at t).imgPlausible a || decide (imgVer a < imgVer b))) = first
  cases first <;> rfl

theorem State.bootFrom_neither (s : State) {x y : BootImg} (ext : BootImg) (slot : Nat) (hx : s.imgValid x = false)
    (hy : s.imgValid y = false) : s.bootFrom x y ext slot = ((s.sigCount x).sigCount y).bootFailed := by
  unfold State.bootFrom
  rw [hx, hy]
  rfl

theorem State.mp_sigCount (s : State) (i : BootImg) : (s.sigCount i).mp = s.mp := by
  unfold State.sigCount
  split
  · exact s.bump_mp _ _
  · rfl

theorem OnlyRecords.sec {s u : State} (h : OnlyRecords s u) : u.sec = s.sec := by
  rw [show u = _ from h]

/-- A failed boot leaves the MP down and SEC in recovery. -/
theorem State.bootFailed_recovery (s : State) (hdown : s.mp.up = false) :
    s.bootFailed.sec.booted = true ∧ s.bootFailed.mp.up = false ∧ s.bootFailed.flag .sec SEC_STATUS_RECOVERY = true := by
  obtain ⟨n, hmp⟩ := State.raise_mp ((({ s with sec := { s.sec with booted := true } } : State).put .sec SEC_STATUS_RECOVERY 1).put
    .sec ⟨SEC_STATUS.off, 4, 2⟩ 2) .sec SEC_EV_BOOT_FAIL
  refine ⟨?_, ?_, ?_⟩
  · exact congrArg (·.booted) (State.onlyRecords_raise _ _ _).sec
  · exact (congrArg Mp.up hmp).trans hdown
  · refine (congrArg (· != 0) ((State.get_raise _ _ _ _ _ (by decide)).trans ?_)).trans (show (1 != 0) = true from rfl)
    exact (State.get_put_apart _ .sec ⟨SEC_STATUS.off, 4, 2⟩ SEC_STATUS_RECOVERY 2 rfl (by decide) (by decide)).trans
      (State.get_put_same _ .sec SEC_STATUS_RECOVERY 1 (by decide))

/-! ### Recovery (R456) -/

/-- A GO in recovery, checked at once (log entry 79). -/
theorem exec_recoveryBoot_go (t : Nat) (path : Path) (key sig : Bool) (s : State) {w : State}
    (hw : (s.at t).writable path .sec SEC_RECOVERY = true) (hrec : (s.at t).flag .sec SEC_STATUS_RECOVERY = true)
    (hanswer : w = (s.at t).answer (BitVec.ofNat 32 (2 ^ 31))) (hvalid : w.imgValid (w.recoveryImg key sig) = true) :
    exec (.recoveryBoot t path key sig) s = .next ((({ w with sec := { w.sec with recovGo := false } } : State).sigCount
      (w.recoveryImg key sig)).runtimeStart (w.recoveryImg key sig) 2) := by
  have hgo : (s.at t).blockWrite path .sec SEC_RECOVERY.off (2 ^ 31) =
      ({ s.at t with sec := { (s.at t).sec with recovGo := true } } : State) :=
    show (s.at t).secWrite path SEC_RECOVERY.off (2 ^ 31) = _ from (if_neg (by decide)).trans ((if_neg (by decide)).trans
      ((if_pos rfl).trans (if_pos ⟨by decide, hrec⟩)))
  have hwrite := (s.at t).regBy_reaches path .sec SEC_RECOVERY (2 ^ 31) (by decide) hw
  rw [Nat.mod_eq_of_lt (by decide), State.pageWrite_block _ _ _ _ _ (by decide) (by decide), hgo] at hwrite
  subst hanswer
  refine congrArg Host.Outcome.next ((congrArg (State.recoveryCheck · key sig) hwrite).trans ?_)
  exact (if_neg not_notTrue).trans (if_pos hvalid)

/-! ### Key operations and the SVN (R456, R457) -/

theorem exec_keyWrite (t : Nat) (path : Path) (slot : Fin 16) (s : State) : exec (.keyWrite t path slot) s =
    .next ((s.at t).regBy path .sec SEC_KEY_CTL (2 ^ 31 + 1 * 2 ^ 8 + slot.val)) := rfl
theorem exec_keyErase (t : Nat) (path : Path) (slot : Fin 16) (s : State) : exec (.keyErase t path slot) s =
    .next ((s.at t).regBy path .sec SEC_KEY_CTL (2 ^ 31 + 2 * 2 ^ 8 + slot.val)) := rfl
theorem exec_keyLock (t : Nat) (path : Path) (slot : Fin 16) (s : State) : exec (.keyLock t path slot) s =
    .next ((s.at t).regBy path .sec SEC_KEY_CTL (2 ^ 31 + 3 * 2 ^ 8 + slot.val)) := rfl
theorem exec_keyRevoke (t : Nat) (path : Path) (slot : Fin 16) (s : State) : exec (.keyRevoke t path slot) s =
    .next ((s.at t).regBy path .sec SEC_KEY_CTL (2 ^ 31 + 4 * 2 ^ 8 + slot.val)) := rfl
theorem exec_svnAdvance (t : Nat) (path : Path) (svn : Nat) (s : State) : exec (.svnAdvance t path svn) s =
    .next ((s.at t).regBy path .sec SEC_SVN_CMD (2 ^ 31 + svn % 2 ^ 31)) := rfl

/-- The fields of an operation word: GO, OP and SLOT. -/
theorem keyWord_fields {op : Nat} (hop : op < 16) (slot : Fin 16) : bitsOf (2 ^ 31 + op * 2 ^ 8 + slot.val) 31 1 = 1 ∧
    bitsOf (2 ^ 31 + op * 2 ^ 8 + slot.val) 8 4 = op ∧ bitsOf (2 ^ 31 + op * 2 ^ 8 + slot.val) 0 4 = slot.val := by
  have hslot := slot.isLt
  unfold bitsOf
  omega

/-- A key operation of the MP whose checks pass is applied, and its result shown (R457). -/
theorem completes_of_keyOp {c : Nat → Instr} {op : Nat} (hop : op < 16) (slot : Fin 16)
    (hexec : ∀ t s, exec (c t) s = .next ((s.at t).regBy .mp .sec SEC_KEY_CTL (2 ^ 31 + op * 2 ^ 8 + slot.val))) :
    Completes c (fun u => u.writable .mp .sec SEC_KEY_CTL = true ∧ u.keyCheck op slot.val = (ST_OK, 0))
      (fun u r => r = (((u.put .sec SEC_KEY_RES 0).keyApply op slot).raise .sec SEC_EV_KEY_DONE).answer
        (BitVec.ofNat 32 (2 ^ 31 + op * 2 ^ 8 + slot.val))) := by
  obtain ⟨hgo, hopc, hslot⟩ := keyWord_fields hop slot
  refine completes_of_block_write hexec (by have := slot.isLt; omega) (by decide) (by decide) (fun _ h => h.1) ?_
  rintro u ⟨-, hpass⟩
  refine congrArg (State.answer · _) ((show u.secWrite .mp SEC_KEY_CTL.off _ = u.keyCtl .mp _ from if_pos rfl).trans ?_)
  unfold State.keyCtl
  rw [if_neg (by decide), hgo, if_neg (by decide), hopc, hslot]
  dsimp only
  rw [hpass, finOf_val]
  rfl

theorem State.blockWrite_svn (s : State) (path : Path) {svn : Nat} (hsvn : svn < 64) (hnew : s.sec.svn ≤ svn)
    (hrun : svn ≤ s.get .sec ⟨SEC_STATUS.off, 16, 8⟩) :
    s.blockWrite path .sec SEC_SVN_CMD.off (2 ^ 31 + svn % 2 ^ 31) =
      ({ s with sec := { s.sec with svn := svn } } : State).put .sec SEC_STATUS_OTP svn := by
  obtain ⟨hgo, hfield⟩ : bitsOf (2 ^ 31 + svn % 2 ^ 31) 31 1 = 1 ∧ bitsOf (2 ^ 31 + svn % 2 ^ 31) 0 6 = svn := by
    unfold bitsOf
    omega
  refine (show s.secWrite path SEC_SVN_CMD.off _ = s.svnCmd path _ from (if_neg (by decide)).trans (if_pos rfl)).trans ?_
  unfold State.svnCmd
  rw [hgo, hfield, if_neg (by decide)]
  exact if_neg (by omega)

/-- Settles O38: boot takes the first valid image in its order, and each command word is its act when its checks pass. -/
theorem securityCommandsComplete : Obligations.SecurityCommandsComplete := by
  refine ⟨?slotA, ?slotB, ?neither, ?recovery, fun slot => completes_of_keyOp (by decide) slot (exec_keyWrite · .mp slot),
    fun slot => completes_of_keyOp (by decide) slot (exec_keyErase · .mp slot),
    fun slot => completes_of_keyOp (by decide) slot (exec_keyLock · .mp slot),
    fun slot => completes_of_keyOp (by decide) slot (exec_keyRevoke · .mp slot), ?svn⟩
  case slotA =>
    rintro a b ext t s ⟨hdom, hdown, hfresh, hvalid, hfirst⟩
    refine ⟨_, exec_boot_fresh t a b ext s hdom hdown hfresh, (if_neg (Bool.eq_false_iff.mp hfirst)).trans (if_pos hvalid)⟩
  case slotB =>
    rintro a b ext t s ⟨hdom, hdown, hfresh, hvalid, hfirst⟩
    exact ⟨_, exec_boot_fresh t a b ext s hdom hdown hfresh, (if_pos hfirst).trans (if_pos hvalid)⟩
  case neither =>
    rintro a b ext t s ⟨hdom, hdown, hfresh, ha, hb⟩
    refine ⟨_, exec_boot_fresh t a b ext s hdom hdown hfresh, ?_⟩
    split
    · rw [State.bootFrom_neither _ ext 1 hb ha]
      exact State.bootFailed_recovery _ (by rw [State.mp_sigCount, State.mp_sigCount, hdown])
    · rw [State.bootFrom_neither _ ext 0 ha hb]
      exact State.bootFailed_recovery _ (by rw [State.mp_sigCount, State.mp_sigCount, hdown])
  case recovery =>
    rintro path key sig w t s ⟨hw, hrec, hanswer, hvalid⟩
    exact ⟨_, exec_recoveryBoot_go t path key sig s hw hrec hanswer hvalid, rfl⟩
  case svn =>
    intro path svn hsvn
    refine completes_of_block_write (exec_svnAdvance · path svn) (by omega) (by decide) (by decide) (fun _ h => h.1) ?_
    rintro u ⟨-, hnew, hrun⟩
    rw [u.blockWrite_svn path hsvn hnew hrun]
    refine ⟨rfl, ?_⟩
    rw [State.answer_get, State.get_put_same _ _ _ _ (by decide)]
    exact Nat.mod_eq_of_lt hsvn

end Sys2Proof.Machine

/-! ## The commands of the Ethernet ports (R436, R437, R439, R440, R463) -/

namespace Sys2Proof.Machine

/-! ### Frames and the doorbell (R436, R437, R439) -/

/-- A port that is on, with its link up, handles a frame with a good FCS and a legal length by its MACsec setting (R436). -/
theorem exec_ethFrameRx_good (t : Nat) (n : Fin 4) (f : EthRx) (s : State) (hfcs : f.fcs = true) (hmin : 14 ≤ f.bytes.length)
    (hmax : f.bytes.length ≤ 1996) (hon : (s.at t).ethOn n = true) (hlink : (s.at t).flag (.eth n) ETH_STATUS_LINK = true) :
    exec (.ethFrameRx t n f) s = .next (
      let s := s.at t
      let bad (s : State) : State := (s.bump (.eth n) ETH_MSEC_DROP_CNT).raise (.eth n) ETH_EV_MSEC
      if s.flag (.eth n) ETH_CFG_MSEC_EN then
        if etherType f.bytes = 0x88E5 then
          if (s.msecCheck n f).2 then (s.msecCheck n f).1.ethClassify n f.plain true f.tag else bad (s.msecCheck n f).1
        else if s.flag (.eth n) ETH_CFG_MSEC_REQ ∧ !isGptp f.bytes then bad s
        else s.ethClassify n f.bytes false f.tag
      else s.ethClassify n f.bytes false f.tag) := by
  have hgate : ¬ ((!(s.at t).ethOn n) = true ∨ (!(s.at t).flag (.eth n) ETH_STATUS_LINK) = true ∨ f.bytes.length < 14) := by
    simp only [hon, hlink, Bool.not_true, Bool.false_eq_true, false_or]
    omega
  exact congrArg Host.Outcome.next ((if_neg hgate).trans ((if_neg (by rw [hfcs]; decide)).trans (if_neg (by omega))))

theorem exec_ethFrameRx_open (t : Nat) (n : Fin 4) (f : EthRx) (s : State) (hfcs : f.fcs = true) (hmin : 14 ≤ f.bytes.length)
    (hmax : f.bytes.length ≤ 1996) (hon : (s.at t).ethOn n = true) (hlink : (s.at t).flag (.eth n) ETH_STATUS_LINK = true)
    (hopen : (s.at t).flag (.eth n) ETH_CFG_MSEC_EN = false) :
    exec (.ethFrameRx t n f) s = .next ((s.at t).ethClassify n f.bytes false f.tag) :=
  (exec_ethFrameRx_good t n f s hfcs hmin hmax hon hlink).trans
    (congrArg Host.Outcome.next (if_neg (Bool.eq_false_iff.mp hopen)))

theorem exec_ethFrameRx_secured (t : Nat) (n : Fin 4) (f : EthRx) (s : State) {w : State} (hfcs : f.fcs = true)
    (hmin : 14 ≤ f.bytes.length) (hmax : f.bytes.length ≤ 1996) (htype : etherType f.bytes = 0x88E5)
    (hon : (s.at t).ethOn n = true) (hlink : (s.at t).flag (.eth n) ETH_STATUS_LINK = true)
    (hsec : (s.at t).flag (.eth n) ETH_CFG_MSEC_EN = true) (hcheck : (s.at t).msecCheck n f = (w, true)) :
    exec (.ethFrameRx t n f) s = .next (w.ethClassify n f.plain true f.tag) := by
  refine (exec_ethFrameRx_good t n f s hfcs hmin hmax hon hlink).trans (congrArg Host.Outcome.next ?_)
  refine (if_pos hsec).trans ((if_pos htype).trans ?_)
  rw [hcheck]
  rfl

theorem exec_ethTxDoorbell (t : Nat) (path : Path) (n : Fin 4) (v : Nat) (s : State) :
    exec (.ethTxDoorbell t path n v) s = .next ((s.at t).regBy path (.eth n) ETH_TX_CTL v) := rfl

theorem State.blockWrite_ethTx (s : State) (path : Path) (n : Fin 4) (v : Nat) :
    s.blockWrite path (.eth n) ETH_TX_CTL.off v = (s.plainWrite path (.eth n) ETH_TX_CTL.off v).txDoorbell n := by
  show s.ethWrite path n ETH_TX_CTL.off v = _
  unfold State.ethWrite
  dsimp only
  rw [if_neg (by decide), if_neg (by decide), if_neg (by decide), if_pos rfl]

theorem exec_ethFrameTx_reply (t : Nat) (n : Fin 4) (s : State) {a : IcpReply} {rest : List IcpReply}
    (hon : (s.at t).ethOn n = true) (hlink : (s.at t).flag (.eth n) ETH_STATUS_LINK = true)
    (hfree : (s.at t).eth[n].busy ≤ (s.at t).now) (hopen : (s.at t).flag (.eth n) ETH_CFG_MSEC_EN = false)
    (hreply : (s.at t).eth[n].replies = a :: rest) :
    exec (.ethFrameTx t n true) s = .next (((((s.at t).modEth n fun e => { e with replies := rest }).icpSent a).txLine n
      (14 + 20 + 8 + a.bytes.length + 8) a.bytes).raise (.eth n) ETH_EV_TX) := by
  show execEthFrameTx t n true s = _
  unfold execEthFrameTx State.step'
  beta_reduce
  rw [if_neg (by simp only [hon, hlink, Bool.not_true, Bool.false_eq_true, false_or]; omega), hopen, hreply]
  rfl

/-! ### The link (R463) -/

/-- The link of a port has changed (R463). -/
def State.linkChanged (s : State) (n : Fin 4) (up : Bool) : State :=
  let s := (s.put (.eth n) ETH_STATUS_LINK (ofBool up)).put (.eth n) ⟨ETH_STATUS.off, 0, 2⟩
    (if n.val < 2 then 2 else s.get (.eth n) ETH_CFG_SPEED)
  (if up then s else s.bump (.eth n) ETH_LINK_DOWN_CNT).raise (.eth n) ETH_EV_LINK

theorem exec_linkChange_new (t : Nat) (n : Fin 4) (up : Bool) (s : State) (hon : (s.at t).ethOn n = true)
    (hwas : (s.at t).flag (.eth n) ETH_STATUS_LINK = !up) :
    exec (.linkChange t n up) s = .next ((s.at t).linkChanged n up) :=
  congrArg Host.Outcome.next (if_neg (by rw [hon, hwas]; cases up <;> decide))

theorem State.link_linkChanged (s : State) (n : Fin 4) (up : Bool) : (s.linkChanged n up).flag (.eth n) ETH_STATUS_LINK = up := by
  have hput : ((s.put (.eth n) ETH_STATUS_LINK (ofBool up)).put (.eth n) ⟨ETH_STATUS.off, 0, 2⟩
      (if n.val < 2 then 2 else s.get (.eth n) ETH_CFG_SPEED)).get (.eth n) ETH_STATUS_LINK = ofBool up % 2 :=
    (State.get_put_apart _ (.eth n) ⟨ETH_STATUS.off, 0, 2⟩ ETH_STATUS_LINK _ rfl (by decide) (by decide)).trans
      (State.get_put_same _ (.eth n) ETH_STATUS_LINK _ (by decide))
  have hget : (s.linkChanged n up).get (.eth n) ETH_STATUS_LINK = ofBool up % 2 := by
    unfold State.linkChanged
    dsimp only
    rw [State.get_raise _ _ (.eth n) _ ETH_STATUS_LINK ⟨nofun, by decide⟩]
    split
    · exact hput
    · rw [State.get_bump_ne _ _ _ _ _ (Page.addr_ne_off _ _ (by decide) (by decide) (by decide)), hput]
  refine (congrArg (· != 0) hget).trans ?_
  cases up <;> rfl

/-! ### MACsec associations (R440) -/

theorem exec_msecSaInstall (t : Nat) (path : Path) (n : Fin 4) (v : Nat) (s : State) :
    exec (.msecSaInstall t path n v) s = .next ((s.at t).regBy path (.eth n) ETH_MSEC_CTL (v ||| 2 ^ 31)) := rfl

theorem or_go_eq {v : Nat} (hlow : 2 ^ 31 ≤ v) (hhigh : v < 2 ^ 32) : v ||| 2 ^ 31 = v := by
  have hsplit : v = 2 ^ 31 ||| (v - 2 ^ 31) := by
    have hadd := Nat.two_pow_add_eq_or_of_lt (by omega : v - 2 ^ 31 < 2 ^ 31) 1
    rw [Nat.mul_one] at hadd
    omega
  rw [hsplit, Nat.or_right_comm, Nat.or_self]

/-- The TX association that an installing word describes (R440). -/
def State.msecTxSa (s : State) (n : Fin 4) (v : Nat) : MsecSa where
  cipher := bitsOf v 16 2
  sci := s.get (.eth n) ETH_MSEC_SCI_HI * 2 ^ 32 + s.get (.eth n) ETH_MSEC_SCI_LO
  ssci := s.get (.eth n) ETH_MSEC_SSCI
  key := s.eth[n].sak.toList
  pn := (s.get (.eth n) ⟨ETH_MSEC_PN_HI.off, 0, 32⟩ * 2 ^ 32 + s.get (.eth n) ETH_MSEC_PN_LO) % 2 ^ 32

/-- A TX association without extended numbers, whose AN is new, is installed (R440). -/
theorem State.blockWrite_msecTx (s : State) (path : Path) (n : Fin 4) {v : Nat} (hgo : bitsOf v 31 1 = 1)
    (hcipher : bitsOf v 16 2 < 2) (htx : bitOf v 4 = false) (hnew : (s.eth[n].txSa.any fun e => e.1 == bitsOf v 8 2) = false) :
    s.blockWrite path (.eth n) ETH_MSEC_CTL.off v =
      (s.modEth n fun p => { p with txSa := saPut p.txSa (bitsOf v 8 2) (s.msecTxSa n v) }).msecShow n := by
  have hplace : s.blockWrite path (.eth n) ETH_MSEC_CTL.off v = s.msecInstall path n v := by
    show s.ethWrite path n ETH_MSEC_CTL.off v = _
    unfold State.ethWrite
    dsimp only
    rw [if_neg (by decide), if_neg (by decide), if_neg (by decide), if_neg (by decide), if_neg (by decide), if_pos rfl]
  rw [hplace]
  unfold State.msecInstall
  rw [hgo, if_neg (by decide)]
  dsimp only
  rw [htx, if_neg Bool.false_ne_true, hnew, if_pos hcipher, if_neg (by simp only [Bool.false_eq_true, false_or]; omega)]
  rfl

theorem bitsOf_go {v : Nat} (hlow : 2 ^ 31 ≤ v) (hhigh : v < 2 ^ 32) : bitsOf v 31 1 = 1 := by
  unfold bitsOf
  omega

/-- Settles O39: each frame, write and event is its step when its conditions hold. -/
theorem ethernetCommandsComplete : Obligations.EthernetCommandsComplete := by
  refine ⟨?plain, ?secured, ?doorbell, ?reply, ?link, ?install⟩
  case plain =>
    rintro n f hfcs hmin hmax t s ⟨hon, hlink, hopen⟩
    exact ⟨_, exec_ethFrameRx_open t n f s hfcs hmin hmax hon hlink hopen, rfl⟩
  case secured =>
    rintro n f w hfcs hmin hmax htype t s ⟨hon, hlink, hsec, hcheck⟩
    exact ⟨_, exec_ethFrameRx_secured t n f s hfcs hmin hmax htype hon hlink hsec hcheck, rfl⟩
  case doorbell =>
    intro path n v hv
    refine completes_of_block_write (exec_ethTxDoorbell · path n v) hv (by decide) (by decide) (fun _ h => h) fun u _ => ?_
    rw [u.blockWrite_ethTx]
  case reply =>
    rintro n a rest t s ⟨hon, hlink, hfree, hopen, hreply⟩
    exact ⟨_, exec_ethFrameTx_reply t n s hon hlink hfree hopen hreply, rfl⟩
  case link =>
    rintro n up t s ⟨hon, hwas⟩
    exact ⟨_, exec_linkChange_new t n up s hon hwas, State.link_linkChanged _ n up⟩
  case install =>
    intro path n v hv hgo hcipher htx
    refine completes_of_block_write (v := v) (fun t s => by rw [exec_msecSaInstall, or_go_eq hgo hv]) hv (by decide) (by decide)
      (fun _ h => h.1) ?_
    rintro u ⟨-, hnew⟩
    rw [u.blockWrite_msecTx path n (bitsOf_go hgo hv) hcipher htx hnew]
    exact congrArg EthPort.txSa (Vector.getElem_set_self _)

end Sys2Proof.Machine

/-! ## The commands of CAN and storage (R447–R449, R460, R461) -/

namespace Sys2Proof.Machine

/-! ### CAN frames (R447) -/

theorem exec_canFrameRx_taken (t : Nat) (n : Fin 4) (f : CanFrame) (s : State) {w : State} (hon : (s.at t).canOn n = true)
    (hbus : (s.at t).canState n ≠ 2) (hkind : f.kind ≤ (s.at t).get (.can n) CAN_CFG_MODE) (hacc : (s.at t).canAccepts n f = true)
    (hfits : f.data.length ≤ ((s.at t).get (.can n) CAN_RX_CTL_BUFSZ + 1) * 128) (hdmc : (s.at t).dmcRunning = true)
    (hput : (s.at t).canPut n f = some w) :
    exec (.canFrameRx t n f) s =
      .next (((w.put (.can n) CAN_STATUS_REC (w.get (.can n) CAN_STATUS_REC - 1)).bump (.can n) CAN_RX_CNT).raise
        (.can n) CAN_EV_RX) := by
  show execCanFrameRx t n f s = _
  unfold execCanFrameRx State.step'
  dsimp only
  rw [if_neg (by simp only [hon, hacc, hbus, Bool.not_true, Bool.false_eq_true, false_or, or_false]; omega), if_neg (by omega),
    if_neg (by rw [hdmc]; exact not_notTrue), hput]

/-- The state in which the frame at the head of a TX ring has gone (R447). -/
def State.canSent (s : State) (n : Fin 4) : State :=
  let d := s.get (.can n) CAN_TX_BASE * 64 + 32 * s.get (.can n) ⟨CAN_TX_HEAD.off, 0, 12⟩
  let data := memBytes s.dram (s.dramWord (d + 4) * 64) (min (bitsOf (s.dramWord d) 0 16) 2048)
  let s := (s.modCan n fun c => { c with last := data }).put (.can n) ⟨CAN_TX_HEAD.off, 0, 12⟩
    ((s.get (.can n) ⟨CAN_TX_HEAD.off, 0, 12⟩ + 1) % max 1 (s.get (.can n) ⟨CAN_TX_CTL.off, 0, 13⟩))
  ((s.put (.can n) CAN_STATUS_TEC (s.get (.can n) CAN_STATUS_TEC - 1)).bump (.can n) CAN_TX_CNT).raise (.can n) CAN_EV_TX

theorem exec_canFrameTx_next (t : Nat) (n : Fin 4) (s : State) (hon : (s.at t).canOn n = true) (hbus : (s.at t).canState n ≠ 2)
    (hlisten : (s.at t).flag (.can n) CAN_CFG_LISTEN_ONLY = false)
    (hring : (s.at t).get (.can n) ⟨CAN_TX_HEAD.off, 0, 12⟩ < (s.at t).get (.can n) ⟨CAN_TX_CTL.off, 0, 13⟩)
    (hfull : (s.at t).get (.can n) ⟨CAN_TX_HEAD.off, 0, 12⟩ ≠ (s.at t).get (.can n) ⟨CAN_TX_CTL.off, 16, 12⟩)
    (hdmc : (s.at t).dmcRunning = true) : exec (.canFrameTx t n) s = .next ((s.at t).canSent n) := by
  show execCanFrameTx t n s = _
  unfold execCanFrameTx State.step'
  dsimp only
  rw [if_neg (by simp only [hon, hbus, hlisten, hfull, Bool.not_true, Bool.false_eq_true, false_or, or_false]; omega),
    if_neg (by rw [hdmc]; exact not_notTrue)]
  rfl

theorem State.head_canSent (s : State) (n : Fin 4)
    (hring : s.get (.can n) ⟨CAN_TX_HEAD.off, 0, 12⟩ < s.get (.can n) ⟨CAN_TX_CTL.off, 0, 13⟩) :
    (s.canSent n).get (.can n) ⟨CAN_TX_HEAD.off, 0, 12⟩ =
      (s.get (.can n) ⟨CAN_TX_HEAD.off, 0, 12⟩ + 1) % s.get (.can n) ⟨CAN_TX_CTL.off, 0, 13⟩ % 2 ^ 12 := by
  unfold State.canSent
  dsimp only
  rw [State.get_raise _ _ (.can n) _ ⟨CAN_TX_HEAD.off, 0, 12⟩ ⟨nofun, by decide⟩,
    State.get_bump_ne _ _ (.can n) _ ⟨CAN_TX_HEAD.off, 0, 12⟩ (Page.addr_ne_off _ _ (by decide) (by decide) (by decide)),
    State.get_put_off _ (.can n) CAN_STATUS_TEC ⟨CAN_TX_HEAD.off, 0, 12⟩ _ (by decide),
    State.get_put_same _ (.can n) ⟨CAN_TX_HEAD.off, 0, 12⟩ _ (by decide), Nat.max_eq_right (by omega)]

/-! ### Bus-off (R447, R460) -/

/-- The registers of bus-off: the state and the TX error count. -/
def State.canOffShown (s : State) (n : Fin 4) : State := (s.canTo n 2).put (.can n) CAN_STATUS_TEC 255

/-- A port has gone bus-off (R460). -/
def State.canOff (s : State) (n : Fin 4) : State :=
  let s := s.canOffShown n
  let s := s.modCan n fun c => { c with offAt := some s.now, recov := s.flag (.can n) CAN_CFG_AUTO_RECOVER }
  (s.bump (.can n) CAN_BUSOFF_CNT).raise (.can n) CAN_EV_OFF

theorem exec_busOff_on (t : Nat) (n : Fin 4) (s : State) (hon : (s.at t).canOn n = true) (hbus : (s.at t).canState n ≠ 2) :
    exec (.busOff t n) s = .next ((s.at t).canOff n) :=
  congrArg Host.Outcome.next (if_neg (by simp only [hon, hbus, Bool.not_true, Bool.false_eq_true, or_self, not_false_eq_true]))

theorem State.state_canTo (s : State) (n : Fin 4) {st : Nat} (hst : st < 4) : (s.canTo n st).canState n = st := by
  unfold State.canTo
  split
  · assumption
  · unfold State.canState
    rw [State.get_raise _ _ (.can n) _ ⟨CAN_STATUS.off, 0, 2⟩ ⟨nofun, by decide⟩,
      State.get_put_same _ (.can n) ⟨CAN_STATUS.off, 0, 2⟩ _ (by decide)]
    exact Nat.mod_eq_of_lt hst

theorem State.onlyRecords_canTo (s : State) (n : Fin 4) (st : Nat) : OnlyRecords s (s.canTo n st) := by
  unfold State.canTo
  split
  · exact .refl s
  · exact (s.onlyRecords_put _ _ _).trans (State.onlyRecords_raise _ _ _)

theorem OnlyRecords.can {s u : State} (h : OnlyRecords s u) : u.can = s.can := by
  rw [show u = _ from h]

/-- A register of a CAN port beside its counters keeps its value while bus-off is counted and raised. -/
theorem State.get_canOff (s : State) (n : Fin 4) (g : RF) (hg : QuietReg (.can n) g) (hcnt : CAN_BUSOFF_CNT.off ≠ g.off) :
    (s.canOff n).get (.can n) g = (s.canOffShown n).get (.can n) g := by
  unfold State.canOff
  dsimp only
  rw [State.get_raise _ _ _ _ _ hg, State.get_bump_ne _ _ _ _ _ (Page.addr_ne_off _ _ hcnt (by decide) hg.2.1)]
  exact State.modCan_get _ _ _ _ _

theorem State.state_canOff (s : State) (n : Fin 4) : (s.canOff n).canState n = 2 :=
  (s.get_canOff n ⟨CAN_STATUS.off, 0, 2⟩ ⟨nofun, by decide⟩ (by decide)).trans
    ((State.get_put_apart _ (.can n) CAN_STATUS_TEC ⟨CAN_STATUS.off, 0, 2⟩ _ rfl (by decide) (by decide)).trans
      (s.state_canTo n (by decide)))

theorem State.tec_canOff (s : State) (n : Fin 4) : (s.canOff n).get (.can n) CAN_STATUS_TEC = 255 :=
  (s.get_canOff n CAN_STATUS_TEC ⟨nofun, by decide⟩ (by decide)).trans (State.get_put_same _ _ _ _ (by decide))

theorem State.offAt_canOff (s : State) (n : Fin 4) : (s.canOff n).can[n].offAt = some s.now := by
  have hnow : (s.canOffShown n).now = s.now := ((s.onlyRecords_canTo n 2).trans (State.onlyRecords_put _ _ _ _)).now
  unfold State.canOff
  dsimp only
  rw [hnow, (State.onlyRecords_raise _ _ _).can, (State.onlyRecords_bump _ _ _).can]
  exact congrArg CanPort.offAt (Vector.getElem_set_self _)

theorem exec_canRecover (t : Nat) (path : Path) (n : Fin 4) (s : State) :
    exec (.canRecover t path n) s = .next ((s.at t).regBy path (.can n) CAN_CMD 1) := rfl

theorem State.blockWrite_canRecover (s : State) (path : Path) (n : Fin 4) (hoff : s.canState n = 2) :
    s.blockWrite path (.can n) CAN_CMD.off 1 = s.modCan n fun c => { c with recov := true } := by
  show s.canWrite path n CAN_CMD.off 1 = _
  unfold State.canWrite
  dsimp only
  rw [if_pos rfl]
  unfold State.canCmd
  rw [if_neg (by decide), if_neg (not_not_intro hoff)]

/-- The counts of a port that recovered, and its hidden state, at their start (R460). -/
def State.canCleared (s : State) (n : Fin 4) : State :=
  ((s.put (.can n) CAN_STATUS_TEC 0).put (.can n) CAN_STATUS_REC 0).modCan n fun c => { c with offAt := none, recov := false }

theorem exec_busOffRecoveryDone_asked (t : Nat) (n : Fin 4) (s : State) (hon : (s.at t).canOn n = true)
    (hoff : (s.at t).canState n = 2) (hasked : (s.at t).can[n].recov = true) :
    exec (.busOffRecoveryDone t n) s = .next (((s.at t).canCleared n).canTo n 0) :=
  congrArg Host.Outcome.next (if_pos ⟨hon, hoff, hasked⟩)

theorem State.counts_canCleared (s : State) (n : Fin 4) : ((s.canCleared n).canTo n 0).get (.can n) CAN_STATUS_TEC = 0 ∧
    ((s.canCleared n).canTo n 0).get (.can n) CAN_STATUS_REC = 0 := by
  have hkeep : ∀ (u : State) (g : RF), QuietReg (.can n) g → CAN_STATUS.off = g.off → g.Fits →
      (⟨CAN_STATUS.off, 0, 2⟩ : RF).Apart g → (u.canTo n 0).get (.can n) g = u.get (.can n) g := by
    intro u g hg hoff hfits hapart
    unfold State.canTo
    split
    · rfl
    · rw [State.get_raise _ _ _ _ _ hg, State.get_put_apart _ _ ⟨CAN_STATUS.off, 0, 2⟩ _ _ hoff hfits hapart]
  rw [hkeep _ CAN_STATUS_TEC ⟨nofun, by decide⟩ rfl (by decide) (by decide),
    hkeep _ CAN_STATUS_REC ⟨nofun, by decide⟩ rfl (by decide) (by decide)]
  have hclear : ∀ g, (s.canCleared n).get (.can n) g =
      ((s.put (.can n) CAN_STATUS_TEC 0).put (.can n) CAN_STATUS_REC 0).get (.can n) g := State.modCan_get _ _ _ _
  rw [hclear, hclear]
  exact ⟨(State.get_put_apart _ (.can n) CAN_STATUS_REC CAN_STATUS_TEC _ rfl (by decide) (by decide)).trans
    (State.get_put_same _ _ _ _ (by decide)), State.get_put_same _ _ _ _ (by decide)⟩

/-! ### Storage commands (R448, R449) -/

theorem exec_storLinkUp (t : Nat) (path : Path) (s : State) :
    exec (.storLinkUp t path) s = .next ((s.at t).regBy path .stor STOR_CMD 1) := rfl
theorem exec_storShutdown (t : Nat) (path : Path) (s : State) :
    exec (.storShutdown t path) s = .next ((s.at t).regBy path .stor STOR_CMD 2) := rfl
theorem exec_storDoorbell_sq (t : Nat) (path : Path) (v : Nat) (s : State) :
    exec (.storDoorbell t path false v) s = .next ((s.at t).regBy path .stor STOR_IOSQ_TAIL v) := rfl
theorem exec_storDoorbell_cq (t : Nat) (path : Path) (v : Nat) (s : State) :
    exec (.storDoorbell t path true v) s = .next ((s.at t).regBy path .stor STOR_IOCQ_HEAD v) := rfl

theorem State.blockWrite_storCmd (s : State) (path : Path) (v : Nat) : s.blockWrite path .stor STOR_CMD.off v = s.storCmd path v :=
  show s.storWrite path STOR_CMD.off v = _ from if_pos rfl

theorem State.blockWrite_sqTail (s : State) (path : Path) (v : Nat) :
    s.blockWrite path .stor STOR_IOSQ_TAIL.off v = (s.plainWrite path .stor STOR_IOSQ_TAIL.off v).storDoorbell (bitsOf v 0 6) :=
  show s.storWrite path STOR_IOSQ_TAIL.off v = _ from (if_neg (by decide)).trans ((if_neg (by decide)).trans (if_pos rfl))

theorem State.blockWrite_cqHead (s : State) (path : Path) (v : Nat) :
    s.blockWrite path .stor STOR_IOCQ_HEAD.off v = s.plainWrite path .stor STOR_IOCQ_HEAD.off v :=
  show s.storWrite path STOR_IOCQ_HEAD.off v = _ from (if_neg (by decide)).trans ((if_neg (by decide)).trans (if_neg (by decide)))

theorem State.storCmd_linkUp (s : State) (path : Path) (hdown : s.storState = STOR_DOWN) (hon : s.storOn = true) :
    s.storCmd path 1 = (s.modStor fun c => { c with retrains := 0 }).storTo STOR_TRAINING := if_pos ⟨hdown, hon⟩

theorem State.storCmd_shutdown (s : State) (path : Path) (h : s.storState = STOR_READY ∨ s.storState = STOR_FAULT) :
    s.storCmd path 2 = (s.modStor fun _ => {}).storTo STOR_DOWN := if_pos h

/-! ### States of the storage link (R448, R461) -/

/-- An event leaves the registers of STOR that the recorder does not keep. -/
theorem State.get_raise_stor (s : State) (b : Nat) (g : RF) (hirq : IRQ_STAT.off ≠ g.off)
    (hrec : Page.stor.base + g.off ∉ recorderRegs) : (s.raise .stor b).get .stor g = s.get .stor g :=
  congrArg (Word.field · g) (s.reg_raise .stor b (by omega) hrec)

theorem State.state_storTo (s : State) {st : Nat} (hst : st < 8) : (s.storTo st).storState = st := by
  unfold State.storTo
  split
  · assumption
  · unfold State.storState
    rw [State.get_raise_stor _ _ _ (by decide) (by decide), State.get_put_off _ _ _ _ _ (by decide),
      State.get_put_same _ _ _ _ (by decide)]
    exact Nat.mod_eq_of_lt hst

/-- A state change leaves the registers of STOR beside its state, its events and the recorder's. -/
theorem State.get_storTo (s : State) (st : Nat) (g : RF) (hstat : STOR_STATUS.off ≠ g.off) (hblk : BLK_STATE.off ≠ g.off)
    (hirq : IRQ_STAT.off ≠ g.off) (hrec : Page.stor.base + g.off ∉ recorderRegs) :
    (s.storTo st).get .stor g = s.get .stor g := by
  unfold State.storTo
  split
  · rfl
  · rw [State.get_raise_stor _ _ _ hirq hrec, State.get_put_off _ _ _ _ _ hblk, State.get_put_off _ _ ⟨STOR_STATUS.off, 0, 3⟩ _ _ hstat]

theorem State.onlyRecords_storTo (s : State) (st : Nat) : OnlyRecords s (s.storTo st) := by
  unfold State.storTo
  split
  · exact .refl s
  · exact ((s.onlyRecords_put _ _ _).trans (State.onlyRecords_put _ _ _ _)).trans (State.onlyRecords_raise _ _ _)

theorem OnlyRecords.stor {s u : State} (h : OnlyRecords s u) : u.stor = s.stor := by
  rw [show u = _ from h]

/-- The link has trained: its width, its rate and INIT are shown (R461). -/
def State.storTrained (s : State) (i : StorInit) : State :=
  ((s.put .stor ⟨STOR_STATUS.off, 12, 1⟩ (ofBool (i.x2 && !s.flag .stor ⟨STOR_CFG.off, 4, 1⟩))).put .stor
    ⟨STOR_STATUS.off, 8, 2⟩ (max i.rate (s.get .stor ⟨STOR_CFG.off, 0, 2⟩))).storTo STOR_INIT

/-- The namespace in use is shown (R448). -/
def State.storNamed (s : State) (id lba cap : Nat) : State :=
  (((s.put .stor STOR_NSID id).put .stor STOR_CAP (min cap (2 ^ 30))).put .stor STOR_LBAF (if lba = 4096 then 1 else 0)).put .stor
    STOR_STATUS_NS_TRUNC (ofBool (decide (2 ^ 30 < cap)))

/-- The drive is ready on its namespace (R448). -/
def State.storReady (s : State) (i : StorInit) (id lba cap : Nat) : State :=
  (((s.storTrained i).storNamed id lba cap).modStor fun c => { c with retrains := 0, timeouts := 0 }).storTo STOR_READY

theorem exec_storInitDone_one (t : Nat) (i : StorInit) (s : State) {id lba cap : Nat} (hlink : i.link = true)
    (hns : i.ns = [(id, lba, cap)]) (hlba : lba = 512 ∨ lba = 4096)
    (hstate : (s.at t).storState = STOR_TRAINING ∨ (s.at t).storState = STOR_INIT) :
    exec (.storInitDone t i) s = .next ((s.at t).storReady i id lba cap) := by
  have hfits : [(id, lba, cap)].filter (fun e => e.2.1 == 512 || e.2.1 == 4096) = [(id, lba, cap)] :=
    List.filter_eq_self.mpr fun e he => by
      rw [List.mem_singleton.mp he]
      simpa only [Bool.or_eq_true, beq_iff_eq] using hlba
  show execStorInitDone t i s = _
  unfold execStorInitDone State.step'
  dsimp only
  rw [if_neg (fun h => hstate.elim h.1 h.2), if_neg (by rw [hlink]; exact not_notTrue), hns, hfits]
  rfl

theorem State.get_storReady (s : State) (i : StorInit) (id lba cap : Nat) (g : RF) (hstat : STOR_STATUS.off ≠ g.off)
    (hblk : BLK_STATE.off ≠ g.off) (hirq : IRQ_STAT.off ≠ g.off) (hrec : Page.stor.base + g.off ∉ recorderRegs) :
    (s.storReady i id lba cap).get .stor g = ((s.storTrained i).storNamed id lba cap).get .stor g :=
  (State.get_storTo _ _ g hstat hblk hirq hrec).trans (State.modStor_get _ _ _ _)

theorem State.namespace_storNamed (s : State) {id lba cap : Nat} : (s.storNamed id lba cap).get .stor STOR_NSID = id % 2 ^ 32 ∧
    (s.storNamed id lba cap).get .stor STOR_CAP = min cap (2 ^ 30) ∧
    (s.storNamed id lba cap).get .stor STOR_LBAF = (if lba = 4096 then 1 else 0) := by
  have hcap : min cap (2 ^ 30) % 2 ^ STOR_CAP.w = min cap (2 ^ 30) :=
    Nat.mod_eq_of_lt (Nat.lt_of_le_of_lt (Nat.min_le_right _ _) (by decide))
  unfold State.storNamed
  refine ⟨?_, ?_, ?_⟩
  · rw [State.get_put_off _ _ _ _ _ (by decide), State.get_put_off _ _ _ _ _ (by decide), State.get_put_off _ _ _ _ _ (by decide),
      State.get_put_same _ _ _ _ (by decide)]
    rfl
  · rw [State.get_put_off _ _ _ _ _ (by decide), State.get_put_off _ _ _ _ _ (by decide), State.get_put_same _ _ _ _ (by decide),
      hcap]
  · rw [State.get_put_off _ _ _ _ _ (by decide), State.get_put_same _ _ _ _ (by decide)]
    split <;> rfl

theorem exec_storLinkDrop_retrains (t : Nat) (s : State) (hdown : (s.at t).storState ≠ STOR_DOWN)
    (hfault : (s.at t).storState ≠ STOR_FAULT) (hfew : (s.at t).stor.retrains < 3) :
    exec (.storLinkDrop t) s = .next ((((s.at t).modStor fun c => { c with retrains := c.retrains + 1, cmds := [] }).bump .stor
      STOR_RETRAIN_CNT).storTo STOR_TRAINING) :=
  congrArg Host.Outcome.next ((if_neg (fun h => h.elim hdown hfault)).trans (if_pos hfew))

/-! ### Completions and timeouts (R449) -/

theorem exec_cqPosted_known (t index : Nat) (error : Bool) (s : State) (hready : (s.at t).storState = STOR_READY)
    (hknown : (s.at t).stor.cmds.any (fun c => c.index == index) = true) :
    ∃ w, exec (.cqPosted t index error) s = .next w ∧ w.stor =
      { (s.at t).stor with cmds := (s.at t).stor.cmds.filter (fun x => x.index != index), timeouts := 0 } := by
  refine ⟨_, congrArg Host.Outcome.next (if_pos ⟨hready, hknown⟩), ?_⟩
  dsimp only
  rw [(State.onlyRecords_raise _ _ _).stor]
  split
  · exact (State.onlyRecords_bump _ _ _).stor
  · rfl

theorem exec_nvmeTimeout_few (t index : Nat) (s : State) {c : NvmeCmd}
    (hfind : (s.at t).stor.cmds.find? (fun c => c.index == index) = some c) (hdue : c.since + secU 2 ≤ (s.at t).now)
    (hfew : (s.at t).stor.timeouts < 2) :
    exec (.nvmeTimeout t index) s = .next ((((s.at t).modStor fun x => { x with
      cmds := x.cmds.filter (fun y => y.index != index), timeouts := (s.at t).stor.timeouts + 1 }).bump .stor
        STOR_TIMEOUT_CNT).raise .stor STOR_EV_TIMEOUT) := by
  show execNvmeTimeout t index s = _
  unfold execNvmeTimeout State.step'
  beta_reduce
  rw [hfind]
  exact congrArg Host.Outcome.next ((if_neg (by omega)).trans (if_pos (by omega)))

/-- Settles O40: each frame, command and event is its step when its conditions hold. -/
theorem canAndStorageCommandsComplete : Obligations.CanAndStorageCommandsComplete := by
  refine ⟨?rx, ?tx, ?off, ?ask, ?recovered, ?up, ?shutdown, ?sq, ?cq, ?init, ?drop, ?posted, ?timeout⟩
  case rx =>
    rintro n f w t s ⟨hon, hbus, hkind, hacc, hfits, hdmc, hput⟩
    exact ⟨_, exec_canFrameRx_taken t n f s hon hbus hkind hacc hfits hdmc hput, rfl⟩
  case tx =>
    rintro n t s ⟨hon, hbus, hlisten, hring, hfull, hdmc⟩
    exact ⟨_, exec_canFrameTx_next t n s hon hbus hlisten hring hfull hdmc, State.head_canSent _ n hring⟩
  case off =>
    rintro n t s ⟨hon, hbus⟩
    exact ⟨_, exec_busOff_on t n s hon hbus, State.state_canOff _ n, State.tec_canOff _ n, State.offAt_canOff _ n⟩
  case ask =>
    intro path n
    refine completes_of_block_write (exec_canRecover · path n) (by decide) (by decide) (by decide) (fun _ h => h.1) ?_
    rintro u ⟨-, hoff⟩
    rw [u.blockWrite_canRecover path n hoff]
    exact ⟨congrArg CanPort.recov (Vector.getElem_set_self _), fun _ _ => rfl⟩
  case recovered =>
    rintro n t s ⟨hon, hoff, hasked⟩
    exact ⟨_, exec_busOffRecoveryDone_asked t n s hon hoff hasked, State.state_canTo _ n (by decide), State.counts_canCleared _ n⟩
  case up =>
    intro path
    refine completes_of_block_write (exec_storLinkUp · path) (by decide) (by decide) (by decide) (fun _ h => h.1) ?_
    rintro u ⟨-, hdown, hon⟩
    rw [u.blockWrite_storCmd, u.storCmd_linkUp path hdown hon]
    rfl
  case shutdown =>
    intro path
    refine completes_of_block_write (exec_storShutdown · path) (by decide) (by decide) (by decide) (fun _ h => h.1) ?_
    rintro u ⟨-, hstate⟩
    rw [u.blockWrite_storCmd, u.storCmd_shutdown path hstate]
    rfl
  case sq =>
    intro path v hv
    refine completes_of_block_write (exec_storDoorbell_sq · path v) hv (by decide) (by decide) (fun _ h => h) fun u _ => ?_
    rw [u.blockWrite_sqTail]
  case cq =>
    intro path v hv
    refine completes_of_block_write (exec_storDoorbell_cq · path v) hv (by decide) (by decide) (fun _ h => h) fun u _ => ?_
    rw [u.blockWrite_cqHead]
  case init =>
    rintro i id lba cap hlink hns hlba t s hstate
    refine ⟨_, exec_storInitDone_one t i s hlink hns hlba hstate, State.state_storTo _ (by decide), ?_⟩
    rw [State.get_storReady _ i id lba cap STOR_NSID (by decide) (by decide) (by decide) (by decide),
      State.get_storReady _ i id lba cap STOR_CAP (by decide) (by decide) (by decide) (by decide),
      State.get_storReady _ i id lba cap STOR_LBAF (by decide) (by decide) (by decide) (by decide)]
    exact State.namespace_storNamed _
  case drop =>
    rintro t s ⟨hdown, hfault, hfew⟩
    refine ⟨_, exec_storLinkDrop_retrains t s hdown hfault hfew, ?_, ?_, State.state_storTo _ (by decide)⟩
    · rw [(State.onlyRecords_storTo _ _).stor, (State.onlyRecords_bump _ _ _).stor]
      rfl
    · rw [(State.onlyRecords_storTo _ _).stor, (State.onlyRecords_bump _ _ _).stor]
      rfl
  case posted =>
    rintro index error t s ⟨hready, hknown⟩
    obtain ⟨w, hexec, hstor⟩ := exec_cqPosted_known t index error s hready hknown
    exact ⟨w, hexec, congrArg Stor.cmds hstor, congrArg Stor.timeouts hstor⟩
  case timeout =>
    rintro index c t s ⟨hfind, hdue, hfew⟩
    refine ⟨_, exec_nvmeTimeout_few t index s hfind hdue hfew, ?_⟩
    dsimp only
    rw [(State.onlyRecords_raise _ _ _).stor, (State.onlyRecords_bump _ _ _).stor]
    exact ⟨rfl, rfl⟩

end Sys2Proof.Machine

/-! ## What stops the machine (R481, R494) -/

namespace Sys2Proof.Machine

/-- The commands that carry VBAT, and the voltage they carry. -/
abbrev CarriesVbat (c : Instr) (t v : Nat) : Prop :=
  c = .basecampPowerOn t v ∨ c = .vbatSample t v ∨ c = .vbatLoss t v ∨ ∃ dur, c = .pfw t v dur ∨ c = .pfwEnd t v dur ∨
    c = .vbatOv t v dur ∨ c = .vbatOvEnd t v dur ∨ c = .supplyRestart t v dur ∨ c = .thermalRestart t v dur

/-- Every command runs, but for those that carry VBAT and a pulse of the reset pin. -/
theorem exec_shape (c : Instr) (s : State) : (∃ u, exec c s = .next u) ∨
    (∃ t v f, CarriesVbat c t v ∧ exec c s = s.vbatStep t v f) ∨ ∃ t dur, c = .pinReset t dur := by
  cases c with
  | pinReset t dur => exact .inr (.inr ⟨t, dur, rfl⟩)
  | basecampPowerOn t v => exact .inr (.inl ⟨t, v, _, .inl rfl, rfl⟩)
  | vbatSample t v => exact .inr (.inl ⟨t, v, _, .inr (.inl rfl), rfl⟩)
  | vbatLoss t v => exact .inr (.inl ⟨t, v, _, .inr (.inr (.inl rfl)), rfl⟩)
  | pfw t v dur => exact .inr (.inl ⟨t, v, _, .inr (.inr (.inr ⟨dur, .inl rfl⟩)), rfl⟩)
  | pfwEnd t v dur => exact .inr (.inl ⟨t, v, _, .inr (.inr (.inr ⟨dur, .inr (.inl rfl)⟩)), rfl⟩)
  | vbatOv t v dur => exact .inr (.inl ⟨t, v, _, .inr (.inr (.inr ⟨dur, .inr (.inr (.inl rfl))⟩)), rfl⟩)
  | vbatOvEnd t v dur => exact .inr (.inl ⟨t, v, _, .inr (.inr (.inr ⟨dur, .inr (.inr (.inr (.inl rfl)))⟩)), rfl⟩)
  | supplyRestart t v dur => exact .inr (.inl ⟨t, v, _, .inr (.inr (.inr ⟨dur, .inr (.inr (.inr (.inr (.inl rfl))))⟩)), rfl⟩)
  | thermalRestart t v dur => exact .inr (.inl ⟨t, v, _, .inr (.inr (.inr ⟨dur, .inr (.inr (.inr (.inr (.inr rfl))))⟩)), rfl⟩)
  | _ => exact .inl ⟨_, rfl⟩

/-- A pulse of the reset pin of 1 µs up to 5 µs stops the machine (R494). -/
theorem exec_pinReset_short (t : Nat) {dur : Nat} (s : State) (hlow : usU 1 ≤ dur) (hhigh : dur < usU 5) :
    exec (.pinReset t dur) s = .fault .resetPulseUndefined := (if_neg (Nat.not_lt.mpr hlow)).trans (if_pos hhigh)

/-- Any other pulse runs. -/
theorem exec_pinReset_defined (t : Nat) {dur : Nat} (s : State) (h : ¬ (usU 1 ≤ dur ∧ dur < usU 5)) :
    ∃ f, exec (.pinReset t dur) s = s.step' t f := by
  by_cases hshort : dur < usU 1
  · exact ⟨_, if_pos hshort⟩
  · exact ⟨_, (if_neg hshort).trans (if_neg fun hlt => h ⟨Nat.not_lt.mp hshort, hlt⟩)⟩

/-- A voltage beyond the absolute maximum stops the machine (R481). -/
theorem State.vbatStep_over (s : State) (t : Nat) {v : Nat} (f : State → State) (h : 5800 < v) :
    s.vbatStep t v f = .fault .overstress := if_pos h

/-- What a command comes to: it runs, a pulse of the pin is undefined, or VBAT is beyond its maximum. -/
theorem exec_outcome (c : Instr) (s : State) : (∃ u, exec c s = .next u) ∨
    (exec c s = .fault .resetPulseUndefined ∧ ∃ t dur, c = .pinReset t dur ∧ usU 1 ≤ dur ∧ dur < usU 5) ∨
    (exec c s = .fault .overstress ∧ ∃ t v, 5800 < v ∧ CarriesVbat c t v) := by
  obtain hruns | ⟨t, v, f, hc, h⟩ | ⟨t, dur, rfl⟩ := exec_shape c s
  · exact .inl hruns
  · by_cases hv : 5800 < v
    · exact .inr (.inr ⟨h.trans (s.vbatStep_over t f hv), t, v, hv, hc⟩)
    · exact .inl ⟨_, h.trans (s.vbatStep_rated t f (Nat.not_lt.mp hv))⟩
  · by_cases hdur : usU 1 ≤ dur ∧ dur < usU 5
    · exact .inr (.inl ⟨exec_pinReset_short t s hdur.1 hdur.2, t, dur, rfl, hdur⟩)
    · exact .inl ⟨_, (exec_pinReset_defined t s hdur).choose_spec⟩

/-- Settles O5: the outcomes of a command are those of `exec_outcome`. -/
theorem onlyTwoCausesStopTheMachine : Obligations.OnlyTwoCausesStopTheMachine := by
  refine ⟨fun c s r h => ?_, fun c s h => ?_, fun c s h => ?_, fun t dur s => exec_pinReset_short t s,
    fun t v s => s.vbatStep_over t _⟩
  · obtain ⟨u, hu⟩ | ⟨hu, -⟩ | ⟨hu, -⟩ := exec_outcome c s <;> cases hu.symm.trans h
  · obtain ⟨u, hu⟩ | ⟨-, hc⟩ | ⟨hu, -⟩ := exec_outcome c s
    · cases hu.symm.trans h
    · exact hc
    · cases hu.symm.trans h
  · obtain ⟨u, hu⟩ | ⟨hu, -⟩ | ⟨-, hc⟩ := exec_outcome c s
    · cases hu.symm.trans h
    · cases hu.symm.trans h
    · exact hc

end Sys2Proof.Machine

/-! ## What every operation keeps

`Frame free D u s` relates the machine `u` where a command began to the machine `s` that it has come to: canonical forms last, the
queue and the package stand, and time has not run back. With `free` false, the bytes of the on-chip memories, the NVM and the keeper's
store stand too, and with the recorder stopped it stays stopped and the DRAM changes within `D` alone. -/

namespace Sys2Proof.Machine

structure Frame (free : Prop) (D : Nat → Prop) (u s : State) : Prop where
  canonical : u.canonical = true → s.canonical = true
  pending : s.pending = u.pending
  pkg : s.pkg = u.pkg
  now : u.now ≤ s.now
  mem : free ∨ ((s.tcm = u.tcm ∧ s.fsram = u.fsram ∧ s.nvmMem = u.nvmMem ∧ s.keeper.store = u.keeper.store) ∧
    (u.mp.recRun = false → s.mp.recRun = false ∧ ∀ a, ¬ D a → memByte s.dram a = memByte u.dram a))

/-- What a command comes to, where it runs, in the relation to the machine that took it. -/
def FrameOut (free : Prop) (D : Nat → Prop) (s : State) (o : Out) : Prop := ∀ v, o = .next v → Frame free D s v

/-- What `Frame` speaks of in a state. -/
abbrev State.core (s : State) := (s.now, s.pkg, s.pending, s.regs, s.inForce, s.held, s.stampSec, s.tcm, s.fsram, s.dram, s.nvmMem,
  s.keeper.store, s.mp.recRun)

/-- The stores that are kept in canonical form. -/
structure State.Wf (s : State) : Prop where
  regs : cellsWf resetAt s.regs = true
  inForce : cellsWf resetAt s.inForce = true
  held : cellsWf resetAt s.held = true
  stampSec : cellsWf (fun _ => 0) s.stampSec = true
  tcm : Memory.wf s.tcm = true
  fsram : Memory.wf s.fsram = true
  dram : Memory.wf s.dram = true
  nvmMem : Memory.wf s.nvmMem = true
  store : Memory.wf s.keeper.store = true

theorem State.canonical_iff (s : State) : s.canonical = true ↔ s.Wf := by
  unfold State.canonical
  simp only [Bool.and_eq_true]
  exact ⟨fun ⟨⟨⟨⟨⟨⟨⟨⟨a, b⟩, c⟩, d⟩, e⟩, f⟩, g⟩, h⟩, i⟩ => ⟨a, b, c, d, e, f, g, h, i⟩,
    fun ⟨a, b, c, d, e, f, g, h, i⟩ => ⟨⟨⟨⟨⟨⟨⟨⟨a, b⟩, c⟩, d⟩, e⟩, f⟩, g⟩, h⟩, i⟩⟩

namespace Frame

variable {free : Prop} {D : Nat → Prop} {u s v : State}

theorem refl (s : State) : Frame free D s s :=
  ⟨id, rfl, rfl, Nat.le_refl _, .inr ⟨⟨rfl, rfl, rfl, rfl⟩, fun h => ⟨h, fun _ _ => rfl⟩⟩⟩

/-- A change of what the relation does not speak of. -/
theorem hidden (h : Frame free D u s) (e : v.core = s.core) : Frame free D u v := by
  obtain ⟨hcan, hpend, hpkg, hnow, hmem⟩ := h
  simp only [State.core, Prod.mk.injEq] at e
  obtain ⟨enow, epkg, epend, eregs, einf, eheld, estamp, etcm, efsram, edram, envm, estore, erec⟩ := e
  refine ⟨fun hu => ?_, epend.trans hpend, epkg.trans hpkg, enow ▸ hnow, ?_⟩
  · have hs := hcan hu
    unfold State.canonical at hs ⊢
    rw [eregs, einf, eheld, estamp, etcm, efsram, edram, envm, estore]
    exact hs
  · rw [etcm, efsram, envm, estore, edram, erec]
    exact hmem

theorem ite {c : Prop} [Decidable c] (hs : Frame free D u s) (hv : Frame free D u v) : Frame free D u (if c then s else v) := by
  split
  · exact hs
  · exact hv

theorem dite {c : Prop} [Decidable c] {f : c → State} {g : ¬ c → State} (hs : ∀ h, Frame free D u (f h))
    (hv : ∀ h, Frame free D u (g h)) : Frame free D u (if h : c then f h else g h) := by
  split
  · exact hs _
  · exact hv _

theorem pair {α : Type} {x : α} (h : Frame free D u s) : Frame free D u (s, x).1 := h

/-- A pair taken apart. -/
theorem ofPair {α : Type} {x : State × α} {a : State} {b : α} (h : Frame free D u x.1) (e : x = (a, b)) : Frame free D u a := by
  rw [e] at h
  exact h

theorem iteFst {α : Type} {c : Prop} [Decidable c] {x y : State × α} (hx : Frame free D u x.1) (hy : Frame free D u y.1) :
    Frame free D u (if c then x else y).1 := by
  split
  · exact hx
  · exact hy

theorem diteFst {α : Type} {c : Prop} [Decidable c] {f : c → State × α} {g : ¬ c → State × α} (hs : ∀ h, Frame free D u (f h).1)
    (hv : ∀ h, Frame free D u (g h).1) : Frame free D u (if h : c then f h else g h).1 := by
  split
  · exact hs _
  · exact hv _

theorem foldl {α : Type} {f : State → α → State} {l : List α} (hf : ∀ {s} (a : α), Frame free D u s → Frame free D u (f s a))
    (h : Frame free D u s) : Frame free D u (l.foldl f s) := by
  induction l generalizing s with
  | nil => exact h
  | cons a l ih => exact ih (hf a h)

theorem foldlFst {α β : Type} {f : State × β → α → State × β} {l : List α} {x : State × β}
    (hf : ∀ {y} (a : α), Frame free D u y.1 → Frame free D u (f y a).1) (h : Frame free D u x.1) :
    Frame free D u (l.foldl f x).1 := by
  induction l generalizing x with
  | nil => exact h
  | cons a l ih => exact ih (hf a h)

/-! ### Changes of what the relation does not speak of -/

theorem withFresh (h : Frame free D u s) {x} : Frame free D u { s with fresh := x } := h.hidden rfl
theorem withOut (h : Frame free D u s) {x} : Frame free D u { s with out := x } := h.hidden rfl
theorem withPulses (h : Frame free D u s) {x} : Frame free D u { s with pulses := x } := h.hidden rfl
theorem withConds (h : Frame free D u s) {x} : Frame free D u { s with conds := x } := h.hidden rfl
theorem withCmp (h : Frame free D u s) {x} : Frame free D u { s with cmp := x } := h.hidden rfl
theorem withIms (h : Frame free D u s) {x} : Frame free D u { s with ims := x } := h.hidden rfl
theorem withCommits (h : Frame free D u s) {x} : Frame free D u { s with commits := x } := h.hidden rfl
theorem withEng (h : Frame free D u s) {x} : Frame free D u { s with eng := x } := h.hidden rfl
theorem withGrd (h : Frame free D u s) {x} : Frame free D u { s with grd := x } := h.hidden rfl
theorem withPlanAt (h : Frame free D u s) {x} : Frame free D u { s with planAt := x } := h.hidden rfl
theorem withLtn (h : Frame free D u s) {x} : Frame free D u { s with ltn := x } := h.hidden rfl
theorem withSxl (h : Frame free D u s) {x} : Frame free D u { s with sxl := x } := h.hidden rfl
theorem withScn (h : Frame free D u s) {x} : Frame free D u { s with scn := x } := h.hidden rfl
theorem withNp (h : Frame free D u s) {x} : Frame free D u { s with np := x } := h.hidden rfl
theorem withMx (h : Frame free D u s) {x} : Frame free D u { s with mx := x } := h.hidden rfl
theorem withClock (h : Frame free D u s) {x} : Frame free D u { s with clock := x } := h.hidden rfl
theorem withSched (h : Frame free D u s) {x} : Frame free D u { s with sched := x } := h.hidden rfl
theorem withSchedOld (h : Frame free D u s) {x} : Frame free D u { s with schedOld := x } := h.hidden rfl
theorem withSchedAt (h : Frame free D u s) {x} : Frame free D u { s with schedAt := x } := h.hidden rfl
theorem withSchedBusy (h : Frame free D u s) {x} : Frame free D u { s with schedBusy := x } := h.hidden rfl
theorem withDmcs (h : Frame free D u s) {x} : Frame free D u { s with dmcs := x } := h.hidden rfl
theorem withMbx (h : Frame free D u s) {x} : Frame free D u { s with mbx := x } := h.hidden rfl
theorem withMbxRec (h : Frame free D u s) {x} : Frame free D u { s with mbxRec := x } := h.hidden rfl
theorem withBc (h : Frame free D u s) {x} : Frame free D u { s with bc := x } := h.hidden rfl
theorem withPba (h : Frame free D u s) {x} : Frame free D u { s with pba := x } := h.hidden rfl
theorem withTherm (h : Frame free D u s) {x} : Frame free D u { s with therm := x } := h.hidden rfl
theorem withCal (h : Frame free D u s) {x} : Frame free D u { s with cal := x } := h.hidden rfl
theorem withNvm (h : Frame free D u s) {x} : Frame free D u { s with nvm := x } := h.hidden rfl
theorem withEth (h : Frame free D u s) {x} : Frame free D u { s with eth := x } := h.hidden rfl
theorem withCan (h : Frame free D u s) {x} : Frame free D u { s with can := x } := h.hidden rfl
theorem withStor (h : Frame free D u s) {x} : Frame free D u { s with stor := x } := h.hidden rfl
theorem withBulk (h : Frame free D u s) {x} : Frame free D u { s with bulk := x } := h.hidden rfl
theorem withContent (h : Frame free D u s) {x} : Frame free D u { s with content := x } := h.hidden rfl
theorem withSec (h : Frame free D u s) {x} : Frame free D u { s with sec := x } := h.hidden rfl
theorem withIcpCur (h : Frame free D u s) {x} : Frame free D u { s with icpCur := x } := h.hidden rfl
theorem withHspi (h : Frame free D u s) {x} : Frame free D u { s with hspi := x } := h.hidden rfl

/-- The MP's own state changes, all but the recorder's switch. -/
theorem withMpKept (h : Frame free D u s) {up re cut blame stop log sf sc lf lc ld ef mask l rs bv} :
    Frame free D u { s with mp := ⟨up, re, sf, sc, lf, lc, stop, cut, blame, ld, ef, log, mask, l, s.mp.recRun, rs, bv⟩ } :=
  h.hidden rfl

/-- The keeper plays on, its store as it was. -/
theorem withKeeperKept (h : Frame free D u s) {play first line latch sent alive} :
    Frame free D u { s with keeper := ⟨s.keeper.store, play, first, line, latch, sent, alive⟩ } := h.hidden rfl

/-! Several of them at once -/

theorem withEngGrd (h : Frame free D u s) {x y} : Frame free D u { s with eng := x, grd := y } := h.hidden rfl
theorem withEthCanBulk (h : Frame free D u s) {x y z} : Frame free D u { s with eth := x, can := y, bulk := z } := h.hidden rfl
theorem withNpClock (h : Frame free D u s) {x y} : Frame free D u { s with np := x, clock := y } := h.hidden rfl
theorem withSchedNext (h : Frame free D u s) {x y} : Frame free D u { s with schedOld := x, schedAt := y } := h.hidden rfl
theorem withSchedOnly (h : Frame free D u s) {x y} : Frame free D u { s with sched := x, schedOld := y } := h.hidden rfl
theorem withMpSec (h : Frame free D u s) {up re cut blame stop log sf sc lf lc ld ef mask l rs bv x} :
    Frame free D u { s with
      mp := ⟨up, re, sf, sc, lf, lc, stop, cut, blame, ld, ef, log, mask, l, s.mp.recRun, rs, bv⟩, sec := x } :=
  h.hidden rfl

/-! ### Stores -/

theorem setReg (h : Frame free D u s) {a : Nat} {x : Word} : Frame free D u (s.setReg a x) := by
  refine ⟨fun hu => ?_, h.pending, h.pkg, h.now, h.mem⟩
  obtain ⟨hr, hi, hh, hst, ht, hf, hd, hn, hk⟩ := (State.canonical_iff s).mp (h.canonical hu)
  exact (State.canonical_iff _).mpr ⟨cellsWf_put resetAt _ _ hr, hi, hh, hst, ht, hf, hd, hn, hk⟩

theorem setInfReg (h : Frame free D u s) {a : Nat} {x : Word} : Frame free D u (s.setInfReg a x) := by
  refine ⟨fun hu => ?_, h.pending, h.pkg, h.now, h.mem⟩
  obtain ⟨hr, hi, hh, hst, ht, hf, hd, hn, hk⟩ := (State.canonical_iff s).mp (h.canonical hu)
  exact (State.canonical_iff _).mpr ⟨hr, cellsWf_put resetAt _ _ hi, hh, hst, ht, hf, hd, hn, hk⟩

/-- New values in force, in canonical form. -/
theorem withInForce (h : Frame free D u s) {l : List (Nat × Word)}
    (hl : cellsWf resetAt s.inForce = true → cellsWf resetAt l = true) : Frame free D u { s with inForce := l } := by
  refine ⟨fun hu => ?_, h.pending, h.pkg, h.now, h.mem⟩
  obtain ⟨hr, hi, hh, hst, ht, hf, hd, hn, hk⟩ := (State.canonical_iff s).mp (h.canonical hu)
  exact (State.canonical_iff _).mpr ⟨hr, hl hi, hh, hst, ht, hf, hd, hn, hk⟩

/-- New held values, in canonical form. -/
theorem withHeld (h : Frame free D u s) {l : List (Nat × Word)} (hl : cellsWf resetAt s.held = true → cellsWf resetAt l = true) :
    Frame free D u { s with held := l } := by
  refine ⟨fun hu => ?_, h.pending, h.pkg, h.now, h.mem⟩
  obtain ⟨hr, hi, hh, hst, ht, hf, hd, hn, hk⟩ := (State.canonical_iff s).mp (h.canonical hu)
  exact (State.canonical_iff _).mpr ⟨hr, hi, hl hh, hst, ht, hf, hd, hn, hk⟩

/-- The seconds of a stamp are stored. -/
theorem withStampSec (h : Frame free D u s) {a : Nat} {x : Word} :
    Frame free D u { s with stampSec := cellPut 0 s.stampSec a x } := by
  refine ⟨fun hu => ?_, h.pending, h.pkg, h.now, h.mem⟩
  obtain ⟨hr, hi, hh, hst, ht, hf, hd, hn, hk⟩ := (State.canonical_iff s).mp (h.canonical hu)
  exact (State.canonical_iff _).mpr ⟨hr, hi, hh, cellsWf_put (fun _ => 0) _ _ hst, ht, hf, hd, hn, hk⟩

/-- Time moves on, and what one instant shows is forgotten. -/
theorem withNow (h : Frame free D u s) {t : Nat} (ht : s.now ≤ t) :
    Frame free D u { s with now := t, pulses := [], recent := [] } :=
  ⟨h.canonical, h.pending, h.pkg, Nat.le_trans h.now ht, h.mem⟩

/-! ### Memories, where they are free -/

theorem withTcm (h : Frame True D u s) {m : List (Nat × Byte)} (hm : Memory.wf s.tcm = true → Memory.wf m = true) :
    Frame True D u { s with tcm := m } := by
  refine ⟨fun hu => ?_, h.pending, h.pkg, h.now, .inl trivial⟩
  obtain ⟨hr, hi, hh, hst, ht, hf, hd, hn, hk⟩ := (State.canonical_iff s).mp (h.canonical hu)
  exact (State.canonical_iff _).mpr ⟨hr, hi, hh, hst, hm ht, hf, hd, hn, hk⟩

theorem withFsram (h : Frame True D u s) {m : List (Nat × Byte)} (hm : Memory.wf s.fsram = true → Memory.wf m = true) :
    Frame True D u { s with fsram := m } := by
  refine ⟨fun hu => ?_, h.pending, h.pkg, h.now, .inl trivial⟩
  obtain ⟨hr, hi, hh, hst, ht, hf, hd, hn, hk⟩ := (State.canonical_iff s).mp (h.canonical hu)
  exact (State.canonical_iff _).mpr ⟨hr, hi, hh, hst, ht, hm hf, hd, hn, hk⟩

theorem withDram (h : Frame True D u s) {m : List (Nat × Byte)} (hm : Memory.wf s.dram = true → Memory.wf m = true) :
    Frame True D u { s with dram := m } := by
  refine ⟨fun hu => ?_, h.pending, h.pkg, h.now, .inl trivial⟩
  obtain ⟨hr, hi, hh, hst, ht, hf, hd, hn, hk⟩ := (State.canonical_iff s).mp (h.canonical hu)
  exact (State.canonical_iff _).mpr ⟨hr, hi, hh, hst, ht, hf, hm hd, hn, hk⟩

/-- Content enters the DRAM, and is known as the next one. -/
theorem withDramContent (h : Frame True D u s) {m : List (Nat × Byte)} {c : Content}
    (hm : Memory.wf s.dram = true → Memory.wf m = true) : Frame True D u { s with dram := m, content := c } :=
  (h.withDram hm).hidden rfl

theorem withNvmMem (h : Frame True D u s) {m : List (Nat × Byte)} (hm : Memory.wf s.nvmMem = true → Memory.wf m = true) :
    Frame True D u { s with nvmMem := m } := by
  refine ⟨fun hu => ?_, h.pending, h.pkg, h.now, .inl trivial⟩
  obtain ⟨hr, hi, hh, hst, ht, hf, hd, hn, hk⟩ := (State.canonical_iff s).mp (h.canonical hu)
  exact (State.canonical_iff _).mpr ⟨hr, hi, hh, hst, ht, hf, hd, hm hn, hk⟩

theorem withKeeper (h : Frame True D u s) {k : Keeper} (hm : Memory.wf s.keeper.store = true → Memory.wf k.store = true) :
    Frame True D u { s with keeper := k } := by
  refine ⟨fun hu => ?_, h.pending, h.pkg, h.now, .inl trivial⟩
  obtain ⟨hr, hi, hh, hst, ht, hf, hd, hn, hk⟩ := (State.canonical_iff s).mp (h.canonical hu)
  exact (State.canonical_iff _).mpr ⟨hr, hi, hh, hst, ht, hf, hd, hn, hm hk⟩

/-- The MP's own state changes, the recorder's switch with it. -/
theorem withMp (h : Frame True D u s) {m : Mp} : Frame True D u { s with mp := m } := by
  refine ⟨fun hu => ?_, h.pending, h.pkg, h.now, .inl trivial⟩
  obtain ⟨hr, hi, hh, hst, ht, hf, hd, hn, hk⟩ := (State.canonical_iff s).mp (h.canonical hu)
  exact (State.canonical_iff _).mpr ⟨hr, hi, hh, hst, ht, hf, hd, hn, hk⟩

/-- The MP's own state changes, and the recorder stops. -/
theorem withMpStopped (h : Frame free D u s) {m : Mp} (e : m.recRun = false) : Frame free D u { s with mp := m } := by
  refine ⟨fun hu => ?_, h.pending, h.pkg, h.now, h.mem.imp id fun ⟨hchip, hdram⟩ => ⟨hchip, fun hu => ⟨e, (hdram hu).2⟩⟩⟩
  obtain ⟨hr, hi, hh, hst, ht, hf, hd, hn, hk⟩ := (State.canonical_iff s).mp (h.canonical hu)
  exact (State.canonical_iff _).mpr ⟨hr, hi, hh, hst, ht, hf, hd, hn, hk⟩

/-- A record enters the ring: with the recorder stopped, none does. -/
theorem ringRecord (h : Frame free D u s) (hrun : s.mp.recRun = true) {m : List (Nat × Byte)}
    (hm : Memory.wf s.dram = true → Memory.wf m = true) {p : Mp} :
    Frame free D u { s with dram := m, mp := p } := by
  refine ⟨fun hu => ?_, h.pending, h.pkg, h.now, h.mem.imp id fun ⟨hchip, hdram⟩ => ⟨hchip, fun hu => ?_⟩⟩
  · obtain ⟨hr, hi, hh, hst, ht, hf, hd, hn, hk⟩ := (State.canonical_iff s).mp (h.canonical hu)
    exact (State.canonical_iff _).mpr ⟨hr, hi, hh, hst, ht, hf, hm hd, hn, hk⟩
  · exact absurd ((hdram hu).1.symm.trans hrun) Bool.false_ne_true

/-! ### The operations every meaning is built from -/

theorem put (h : Frame free D u s) {p : Page} {f : RF} {x : Nat} : Frame free D u (s.put p f x) := h.setReg

theorem putInf (h : Frame free D u s) {p : Page} {f : RF} {x : Nat} : Frame free D u (s.putInf p f x) := h.setInfReg

theorem modKeeper (h : Frame free D u s) {play : Keeper → List Nat} {first : Keeper → Option Nat}
    {line : Keeper → List (Nat × Nat × Bool)} {latch : Keeper → List Nat} {sent : Keeper → List (Nat × Nat × Nat × List Bool)}
    {alive : Keeper → Vector Nat 8} :
    Frame free D u (s.modKeeper fun k => ⟨k.store, play k, first k, line k, latch k, sent k, alive k⟩) := h.withKeeperKept

theorem note (h : Frame free D u s) {p : Page} {f : RF} {x : Nat} : Frame free D u (s.note p f x) := h.hidden rfl
theorem mark (h : Frame free D u s) {p : Page} {f : RF} : Frame free D u (s.mark p f) := h.note.put
theorem count (h : Frame free D u s) {p : Page} {f : RF} {n : Nat} : Frame free D u (s.count p f n) := h.note.put
theorem bump (h : Frame free D u s) {p : Page} {f : RF} : Frame free D u (s.bump p f) := h.count
theorem latch (h : Frame free D u s) {p : Page} {b : Nat} : Frame free D u (s.latch p b) := by
  unfold State.latch
  exact h.withPulses.mark

theorem record (h : Frame free D u s) {ty : Nat} {l : List Nat} : Frame free D u (s.record ty l) := by
  unfold State.record
  dsimp only
  split
  · next hrec =>
    have hrun : s.mp.recRun = true := (Bool.and_eq_true _ _ ▸ hrec).1
    split
    · exact h.bump.latch
    · refine put (h.ringRecord hrun ?_)
      exact Memory.wf_ringWrite _ _ _ _ _
  · exact h

end Frame

end Sys2Proof.Machine

/-! ## What every operation keeps: one lemma per operation

Each lemma takes the relation to the machine so far and gives it to the machine that the operation leaves, in the order of the model's
files. An operation that may store to a memory has it with `free` true; the others have it for every `free` and `D`. A term `h.put.raise`
follows the definition from its argument outwards; the machines that a definition names are `w1`, `w2`, … here, in its order. -/

namespace Sys2Proof.Machine.Frame

variable {free : Prop} {D : Nat → Prop} {u s : State}

/-! ### Ops -/

theorem setFlag (h : Frame free D u s) {p : Page} {f : RF} {b : Bool} : Frame free D u (s.setFlag p f b) := by
  unfold State.setFlag
  exact h.put

theorem keepMax (h : Frame free D u s) {p : Page} {f : RF} {x : Nat} : Frame free D u (s.keepMax p f x) := by
  unfold State.keepMax
  exact .ite h.put h

theorem raise (h : Frame free D u s) {p : Page} {bit : Nat} : Frame free D u (s.raise p bit) := by
  unfold State.raise
  exact h.latch.record

theorem raiseCond (h : Frame free D u s) {p : Page} {bit : Nat} : Frame free D u (s.raiseCond p bit) := by
  unfold State.raiseCond
  exact .ite h h.withConds.mark.record

theorem dropCond (h : Frame free D u s) {p : Page} {bit : Nat} : Frame free D u (s.dropCond p bit) := by
  unfold State.dropCond
  exact h.withConds

theorem logEntry (h : Frame free D u s) {page cls detail state : Nat} : Frame free D u (s.logEntry page cls detail state) := by
  unfold State.logEntry
  dsimp only
  exact .ite h.withMpKept h

theorem errInfo (h : Frame free D u s) {p : Page} {path off cls detail info : Nat} :
    Frame free D u (s.errInfo p path off cls detail info) := by
  unfold State.errInfo
  dsimp only
  exact .ite (.raise (.put (.put (.ite h.bump.logEntry h.bump)))) (.ite h.bump.logEntry h.bump)

theorem err (h : Frame free D u s) {p : Page} {path off cls detail : Nat} : Frame free D u (s.err p path off cls detail) := by
  unfold State.err
  exact h.errInfo

theorem errHw (h : Frame free D u s) {p : Page} {cls detail : Nat} : Frame free D u (s.errHw p cls detail) := by
  unfold State.errHw
  exact h.err

theorem busErr (h : Frame free D u s) {path : Path} {a cause : Nat} : Frame free D u (s.busErr path a cause) := by
  unfold State.busErr
  dsimp only
  exact h.put.put.bump.withOut

theorem answer (h : Frame free D u s) {v : Word} : Frame free D u (s.answer v) := by
  unfold State.answer
  exact h.withOut

theorem tookFree (h : Frame free D u s) : Frame free D u s.tookFree := by
  unfold State.tookFree
  exact h.withFresh

theorem tickAdj (h : Frame free D u s) {adj : ClockAdj} : Frame free D u (s.tickAdj adj) := by
  unfold State.tickAdj
  dsimp only
  exact .raise (.bump (.ite h.withNpClock.put.put h.withNpClock.put))

theorem ticks (h : Frame free D u s) {k : Nat} : Frame free D u (s.ticks k) := by
  unfold State.ticks
  dsimp only
  split
  · exact h
  · exact h.tickAdj
  · exact h.tickAdj.withClock
  · exact .ite h.withClock.put.raise h.withClock

theorem atInstant (h : Frame free D u s) {t : Nat} : Frame free D u (s.at t) := by
  unfold State.at
  split
  · exact h
  · next hlate =>
    refine .ite (ticks ?_) ?_
    · exact h.withNow (by omega)
    · exact h.withNow (by omega)

theorem stamp (h : Frame free D u s) {p : Page} {f : RF} : Frame free D u (s.stamp p f) := by
  unfold State.stamp
  dsimp only
  exact h.put.withStampSec

theorem stampAt (h : Frame free D u s) {p : Page} {f : RF} {localNs : Nat} : Frame free D u (s.stampAt p f localNs) := by
  unfold State.stampAt
  dsimp only
  exact h.put.withStampSec

theorem latchStamp (h : Frame free D u s) {p : Page} {f : RF} : Frame free D u (s.latchStamp p f) := by
  unfold State.latchStamp
  exact h.setReg

/-! ### Access -/

theorem plainWrite (h : Frame free D u s) {path : Path} {p : Page} {off v : Nat} : Frame free D u (s.plainWrite path p off v) := by
  unfold State.plainWrite
  dsimp only
  split
  · exact h
  · split
    · exact h.setReg.withHeld (cellsWf_put resetAt _ _)
    · exact .ite h.err (.setReg (.ite h.err h))

/-! ### Mail -/

theorem modSlot (h : Frame free D u s) {i : Fin 32} {f : MbxSlot → MbxSlot} : Frame free D u (s.modSlot i f) := by
  unfold State.modSlot
  dsimp only
  exact h.withMbx

theorem mbxPush (h : Frame free D u s) {o : Nat} {w : Vector Word 15} {port ref key : Nat} :
    Frame free D u (s.mbxPush o w port ref key).1 := by
  unfold State.mbxPush
  dsimp only
  split
  · exact h.bump.raise.pair
  · exact h.modSlot.withMbx.bump.raise.pair

theorem mbxPushWrite (h : Frame free D u s) {path : Path} : Frame free D u (s.mbxPushWrite path) := by
  unfold State.mbxPushWrite
  dsimp only
  exact h.mbxPush.withMbx

theorem icpReplyFor (h : Frame free D u s) {owed : Option MbxRec} {port op status detail ref key : Nat} {payload : List Byte} :
    Frame free D u (s.icpReplyFor owed port op status detail ref key payload) := by
  unfold State.icpReplyFor
  refine .dite (fun _ => ?_) (fun _ => h)
  extract_lets _ _ w1 _ _
  have h1 : Frame free D u w1 := by
    unfold w1
    split
    · exact h.withSec
    · exact h
  exact h1.withEth

theorem icpReply (h : Frame free D u s) {port op status detail ref key : Nat} {payload : List Byte} :
    Frame free D u (s.icpReply port op status detail ref key payload) := by
  unfold State.icpReply
  exact h.icpReplyFor

theorem mapReplies (h : Frame free D u s) {n : Fin 4} {f : List IcpReply → List IcpReply} : Frame free D u (s.mapReplies n f) := by
  unfold State.mapReplies
  dsimp only
  exact h.withEth

theorem icpPost (h : Frame free D u s) {i : Fin 32} {status detail : Nat} {owed : Option MbxRec} {payload : List Byte} :
    Frame free D u (s.icpPost i status detail owed payload) := by
  unfold State.icpPost
  dsimp only
  split
  · exact h
  · exact .ite h.mapReplies h.icpReplyFor.mapReplies

theorem icpSent (h : Frame free D u s) {r : IcpReply} : Frame free D u (s.icpSent r) := by
  unfold State.icpSent
  split
  · exact h
  · exact .ite h.modSlot h.modSlot

theorem mbxPost (h : Frame free D u s) {i : Fin 32} {status detail state : Nat} {result : List Nat} :
    Frame free D u (s.mbxPost i status detail state result) := by
  unfold State.mbxPost
  extract_lets _ _ _ _ _ w1 w2 w3 _ w4 _ w5
  have h1 : Frame free D u w1 := h.bump
  have h2 : Frame free D u w2 := .ite h1.logEntry h
  have h3 : Frame free D u w3 := .ite h2.bump h2
  have h4 : Frame free D u w4 := h3.withMbx
  have h5 : Frame free D u w5 := h4.modSlot
  exact .ite h5.icpPost (.ite h5.raise h5.raise)

theorem mbxPop (h : Frame free D u s) {path : Path} : Frame free D u (s.mbxPop path) := by
  unfold State.mbxPop
  dsimp only
  split
  · exact h
  · exact .ite h.modSlot h.modSlot

theorem mbxWinWrite (h : Frame free D u s) {path : Path} {off : Nat} {v : Word} : Frame free D u (s.mbxWinWrite path off v) := by
  unfold State.mbxWinWrite
  dsimp only
  split
  · exact h
  · exact h.withMbx

theorem mbxFinish (h : Frame free D u s) {i : Fin 32} {status detail word2 : Nat} :
    Frame free D u (s.mbxFinish i status detail word2) := by
  unfold State.mbxFinish
  exact .ite h.mbxPost h.modSlot

theorem mbxFinishAll (h : Frame free D u s) {p : MbxWait → Bool} {status detail word2 : Nat} :
    Frame free D u (s.mbxFinishAll p status detail word2) := by
  unfold State.mbxFinishAll
  exact .foldl (fun _ hs => .ite hs.mbxFinish hs) h

theorem mbxUnit (h : Frame free D u s) {u' new err : Nat} : Frame free D u (s.mbxUnit u' new err) := by
  unfold State.mbxUnit
  extract_lets w1 w2
  have h1 : Frame free D u w1 := .ite h.mbxFinishAll (.ite h.mbxFinishAll h)
  have h2 : Frame free D u w2 := .ite h1.mbxFinishAll h1
  exact .ite h2.mbxFinishAll h2

theorem mbxStartCut (h : Frame free D u s) {u' : Nat} : Frame free D u (s.mbxStartCut u') := by
  unfold State.mbxStartCut
  exact h.mbxFinishAll

theorem mbxCommit (h : Frame free D u s) {base : Nat} {late reject : Bool} {blame : Nat} :
    Frame free D u (s.mbxCommit base late reject blame) := by
  unfold State.mbxCommit
  exact .ite h.mbxFinishAll h.mbxFinishAll

theorem bivPost (h : Frame free D u s) {i : Fin 32} : Frame free D u (s.bivPost i) := by
  unfold State.bivPost
  dsimp only
  exact h.modSlot.withMpKept.mbxPost

theorem mbxStored (h : Frame free D u s) {status err : Nat} : Frame free D u (s.mbxStored status err) := by
  unfold State.mbxStored
  dsimp only
  exact .ite (.foldl (fun _ hs => .ite hs.bivPost hs) h.mbxFinishAll) h.mbxFinishAll.mbxFinishAll

theorem contentSwap (h : Frame free D u s) : Frame free D u s.contentSwap := by
  unfold State.contentSwap
  dsimp only
  split
  · exact h
  · exact .foldl (fun _ hs => .ite (.ite hs.mbxPost hs.mbxFinish) hs) h.withContent

/-! ### Notify -/

theorem calLost (h : Frame free D u s) {cls inst : Nat} : Frame free D u (s.calLost cls inst) := by
  unfold State.calLost
  dsimp only
  split
  · exact h.withCal
  · exact h

theorem noteState (h : Frame free D u s) {u' prev new cause : Nat} : Frame free D u (s.noteState u' prev new cause) := by
  unfold State.noteState
  dsimp only
  exact .mbxUnit (.record (.ite (.calLost (.ite h (.ite h.calLost h.calLost))) (.ite h (.ite h.calLost h.calLost))))

theorem noteFrame (h : Frame free D u s) {u' : Nat} : Frame free D u (s.noteFrame u') := by
  unfold State.noteFrame
  dsimp only
  split
  · exact h
  · exact .ite h.record h

theorem noteMask (h : Frame free D u s) {i : Fin 4} : Frame free D u (s.noteMask i) := by
  unfold State.noteMask
  dsimp only
  exact .ite h.record h

/-! ### Ports -/

theorem modNp (h : Frame free D u s) {q : NpIx} {f : NpPort → NpPort} : Frame free D u (s.modNp q f) := by
  unfold State.modNp
  exact h.withNp

theorem npShowGroup (h : Frame free D u s) {g : Fin 13} : Frame free D u (s.npShowGroup g) := by
  unfold State.npShowGroup
  dsimp only
  exact h.put.put.put.put

theorem npTo (h : Frame free D u s) {q : NpIx} {st : Nat} : Frame free D u (s.npTo q st) := by
  unfold State.npTo
  exact h.put.npShowGroup

theorem npDomainOff (h : Frame free D u s) {q : NpIx} : Frame free D u (s.npDomainOff q) := by
  unfold State.npDomainOff
  dsimp only
  exact .npTo (.modNp (.foldl (fun _ hs => hs.setReg) h))

theorem modMx (h : Frame free D u s) {q : MxIx} {f : MxPort → MxPort} : Frame free D u (s.modMx q f) := by
  unfold State.modMx
  exact h.withMx

theorem mxShowGroup (h : Frame free D u s) {g : Fin 3} : Frame free D u (s.mxShowGroup g) := by
  unfold State.mxShowGroup
  dsimp only
  exact h.put.put.put.put

theorem mxHold (h : Frame free D u s) {q : MxIx} : Frame free D u (s.mxHold q) := by
  unfold State.mxHold
  dsimp only
  exact .ite h h.setFlag

theorem mxHolds (h : Frame free D u s) : Frame free D u s.mxHolds := by
  unfold State.mxHolds
  exact .foldl (fun _ hs => hs.mxHold) h

theorem mxTo (h : Frame free D u s) {q : MxIx} {st : Nat} : Frame free D u (s.mxTo q st) := by
  unfold State.mxTo
  exact .ite h h.put.raise.mxHolds.mxShowGroup

theorem mxDomainOff (h : Frame free D u s) {q : MxIx} : Frame free D u (s.mxDomainOff q) := by
  unfold State.mxDomainOff
  dsimp only
  exact .mxShowGroup (.mxHolds (.modMx (.foldl (fun _ hs => hs.setReg) h)))

/-! ### Domains -/

theorem setDom (h : Frame free D u s) {d : Nat} {on ret : Bool} : Frame free D u (s.setDom d on ret) := by
  unfold State.setDom
  exact h.put.put

theorem statusOff (h : Frame free D u s) {p : Page} {keep : Nat → Bool} : Frame free D u (s.statusOff p keep) := by
  unfold State.statusOff
  dsimp only
  exact .foldl (fun _ hs => .ite hs (.foldl (fun _ hs1 => .ite hs1 hs1.setReg) hs)) h

theorem ltnDomainOff (h : Frame free D u s) {x : Fin 6} : Frame free D u (s.ltnDomainOff x) := by
  unfold State.ltnDomainOff
  dsimp only
  exact .ite h.calLost.calLost.calLost.calLost.statusOff.withCal.put.withLtn.put
    h.calLost.calLost.calLost.calLost.statusOff.withCal.put.withLtn

theorem blocksOff (h : Frame free D u s) {d : Nat} : Frame free D u (s.blocksOff d) := by
  unfold State.blocksOff
  refine .ite ?_ (.ite ?_ (.ite ?_ (.ite ?_ (.ite ?_ (.ite ?_ (.ite ?_ (.ite ?_ (.ite ?_ (.ite ?_ (.ite ?_ h))))))))))
  · split
    · exact .withEngGrd h.statusOff.statusOff
    · exact h
  · split
    · exact .withSxl h.statusOff
    · exact h
  · exact .foldl (fun _ hs => .withScn hs.statusOff) h
  · exact .foldl (fun _ hs => hs.ltnDomainOff) h
  · exact .foldl (fun _ hs => .ite hs.mxDomainOff hs) (.foldl (fun _ hs => .ite hs.npDomainOff hs) h)
  · exact .withCmp (.foldl (fun _ hs => hs.statusOff) h)
  · exact .withDmcs (.foldl (fun _ hs => hs.statusOff) h)
  · exact .withEthCanBulk (.foldl (fun _ hs => hs.statusOff.statusOff) h)
  · exact .withStor h.statusOff
  · exact .withSec h.statusOff
  · exact .withNvm h.statusOff

theorem domOff (h : Frame True D u s) {d : Nat} : Frame True D u (s.domOff d) := by
  unfold State.domOff
  exact .ite (h.setDom.blocksOff.withFsram (Memory.wf_clear _ _)) h.setDom.blocksOff

theorem deliverLimits (h : Frame free D u s) : Frame free D u s.deliverLimits := by
  unfold State.deliverLimits
  dsimp only
  exact .foldl (fun _ hs => hs.put) (.foldl (fun _ hs => hs.put) (.foldl (fun _ hs => hs.put) h))

theorem pbaState (h : Frame free D u s) : Frame free D u s.pbaState := by
  unfold State.pbaState
  exact h.put

theorem pbaShow (h : Frame free D u s) : Frame free D u s.pbaShow := by
  unfold State.pbaShow
  dsimp only
  exact .pbaState (.ite h.put.put.put.put.put.put.put.put h.put.put.put.put.put.put.put)

theorem pbaEvaluate (h : Frame free D u s) : Frame free D u s.pbaEvaluate := by
  unfold State.pbaEvaluate
  split
  · extract_lets _ _ _ _ _ _ _ w1 w2 w3 w4 w5 w6
    have h1 : Frame free D u w1 := h.put
    have h2 : Frame free D u w2 := .ite h1.raise h1
    have h3 : Frame free D u w3 := h2.put
    have h4 : Frame free D u w4 := .ite h3.bump h3
    have h5 : Frame free D u w5 := .ite h4.raise (.ite h4.raise h4)
    have h6 : Frame free D u w6 := h5.put
    exact h6.deliverLimits.pbaShow

theorem pbaDue (h : Frame free D u s) : Frame free D u s.pbaDue := by
  unfold State.pbaDue
  dsimp only
  exact .ite h h.withPba.pbaEvaluate

theorem domRefresh (h : Frame True D u s) : Frame True D u s.domRefresh := by
  unfold State.domRefresh
  dsimp only
  exact .foldl (fun _ hs => .ite (.ite hs (.ite hs.setDom hs.domOff)) (.ite (.ite hs hs.domOff) (.ite hs.setDom hs))) h

theorem pbaRequest (h : Frame free D u s) {id port : Nat} : Frame free D u (s.pbaRequest id port) := by
  unfold State.pbaRequest
  dsimp only
  exact .ite h h.withPba.pbaShow

theorem pbaRelease (h : Frame True D u s) {id port : Nat} : Frame True D u (s.pbaRelease id port) := by
  unfold State.pbaRelease
  dsimp only
  exact .ite (.pbaEvaluate (.domRefresh (.ite h.withPba h.withPba))) (.pbaShow (.ite h.withPba h.withPba))

theorem softRun (h : Frame free D u s) {id : Nat} : Frame free D u (s.softRun id) := by
  unfold State.softRun
  dsimp only
  exact h.withPba

theorem pbaGrant (h : Frame free D u s) {q : PbaReq} : Frame free D u (s.pbaGrant q) := by
  unfold State.pbaGrant
  dsimp only
  exact .pbaEvaluate (.raise (.ite h.withPba.bump.keepMax.put.put.put.raise h.withPba.bump.keepMax.put.put))

/-! ### Lantern -/

theorem modLtn (h : Frame free D u s) {x : Fin 6} {f : Lantern → Lantern} : Frame free D u (s.modLtn x f) := by
  unfold State.modLtn
  exact h.withLtn

theorem ltnTo (h : Frame free D u s) {x : Fin 6} {st : Nat} : Frame free D u (s.ltnTo x st) := by
  unfold State.ltnTo
  dsimp only
  exact .put (.ite (.ite h h.calLost) (.calLost (.ite h h.calLost)))

theorem ltnDark (h : Frame free D u s) {x : Fin 6} : Frame free D u (s.ltnDark x) := by
  unfold State.ltnDark
  dsimp only
  exact .put (.put (.ite h.modLtn h))

theorem edgeCommand (h : Frame free D u s) {x : Fin 6} {opening : Bool} : Frame free D u (s.edgeCommand x opening) := by
  unfold State.edgeCommand
  dsimp only
  exact h.modLtn

theorem ltnWin (h : Frame free D u s) {x : Fin 6} {on : Bool} {edge : Nat} : Frame free D u (s.ltnWin x on edge) := by
  unfold State.ltnWin
  dsimp only
  exact h.put.edgeCommand.modLtn

theorem ltnOffPins (h : Frame free D u s) {x : Fin 6} : Frame free D u (s.ltnOffPins x) := by
  unfold State.ltnOffPins
  exact h.ltnDark.modLtn

theorem ltnWriteCodes (h : Frame free D u s) {x : Fin 6} {c : Vector Nat 4} : Frame free D u (s.ltnWriteCodes x c) := by
  unfold State.ltnWriteCodes
  exact h.modLtn

theorem ltnFinal (h : Frame free D u s) {x : Fin 6} {v : State} {r : Nat} : Frame free D u (s.ltnFinal x v r) := by
  unfold State.ltnFinal
  dsimp only
  exact .modLtn (.ltnWriteCodes (.ite (.raise (.bump (.ite h.put.raise h.put))) (.ite h.put.raise h.put)))

theorem ltnResponse (h : Frame free D u s) {x : Fin 6} {resp : Nat} : Frame free D u (s.ltnResponse x resp) := by
  unfold State.ltnResponse
  dsimp only
  refine .ite h ?_
  split
  · exact .ite h.bump.raise h
  · exact .ite (.modLtn (.ite h.bump.raise h)) (.ite h.bump.raise h)

theorem ltnSendNext (h : Frame free D u s) {x : Fin 6} {more : Bool} : Frame free D u (s.ltnSendNext x more) := by
  unfold State.ltnSendNext
  exact h.modLtn

theorem ltnMark (h : Frame free D u s) {x : Fin 6} : Frame free D u (s.ltnMark x) := by
  unfold State.ltnMark
  exact h.edgeCommand.modLtn

theorem ltnMiss (h : Frame free D u s) {x : Fin 6} : Frame free D u (s.ltnMiss x) := by
  unfold State.ltnMiss
  dsimp only
  exact h.bump.raise.modLtn

theorem ltnLoad (h : Frame free D u s) {x : Fin 6} : Frame free D u (s.ltnLoad x) := by
  unfold State.ltnLoad
  exact h.ltnWriteCodes.modLtn

theorem ltnArm (h : Frame free D u s) {x : Fin 6} : Frame free D u (s.ltnArm x) := by
  unfold State.ltnArm
  dsimp only
  exact h.ltnMark.modLtn.ltnTo

theorem ltnRamp (h : Frame free D u s) {x : Fin 6} : Frame free D u (s.ltnRamp x) := by
  unfold State.ltnRamp
  dsimp only
  exact .ite h.put.put.put.raise h.put.put.put

theorem ltnDelaySnap (h : Frame free D u s) {x : Fin 6} : Frame free D u (s.ltnDelaySnap x) := by
  unfold State.ltnDelaySnap
  dsimp only
  exact .ite h.put.put.put.raise h.put.put.put

theorem ltnGain (h : Frame free D u s) {x : Fin 6} : Frame free D u (s.ltnGain x) := by
  unfold State.ltnGain
  dsimp only
  split
  · exact h
  · exact .ite (.ite h.put.put.put.bump.raise h.put.put.put) h.put

theorem ltnRatio (h : Frame free D u s) {x : Fin 6} {j : Fin 4} : Frame free D u (s.ltnRatio x j) := by
  unfold State.ltnRatio
  dsimp only
  split
  · exact .ite h.modLtn.put.put (.ite h.put h)
  · exact h

theorem ltnDarkMean (h : Frame free D u s) {x : Fin 6} : Frame free D u (s.ltnDarkMean x) := by
  unfold State.ltnDarkMean
  dsimp only
  exact .ite h h.modLtn.put

theorem ltnEarly (h : Frame free D u s) {x : Fin 6} : Frame free D u (s.ltnEarly x) := by
  unfold State.ltnEarly
  exact .ite h h.modLtn.ltnGain

theorem ltnForget (h : Frame free D u s) {x : Fin 6} : Frame free D u (s.ltnForget x) := by
  unfold State.ltnForget
  exact h.modLtn

theorem ltnLoop (h : Frame free D u s) {x : Fin 6} {used : Nat → Bool} : Frame free D u (s.ltnLoop x used) := by
  unfold State.ltnLoop
  dsimp only
  exact .ite h (.ltnForget (.ltnDarkMean (.modLtn (.ite h.ltnEarly (.foldl (fun _ hs => hs.ltnRatio) h.ltnEarly)))))

theorem ltnFrameStart (h : Frame free D u s) {x : Fin 6} : Frame free D u (s.ltnFrameStart x) := by
  unfold State.ltnFrameStart
  dsimp only
  exact .put (.put (.put (.modLtn (.ite h.ltnMark h.ltnMiss))))

theorem fallbackWrite (h : Frame free D u s) {x : Fin 6} : Frame free D u (s.fallbackWrite x) := by
  unfold State.fallbackWrite
  exact h.ltnWriteCodes.modLtn

theorem fallbackStart (h : Frame free D u s) {x : Fin 6} : Frame free D u (s.fallbackStart x) := by
  unfold State.fallbackStart
  dsimp only
  exact h.modLtn.ltnForget.fallbackWrite.ltnTo

theorem ltnLatch (h : Frame free D u s) {x : Fin 6} {cause : Nat} : Frame free D u (s.ltnLatch x cause) := by
  unfold State.ltnLatch
  dsimp only
  exact .ite h.bump (.ite h.bump.ltnOffPins.modLtn.put.put.stamp.raise.ltnTo
    h.bump.ltnOffPins.modLtn.put.put.stamp.raise.ltnTo.errHw)

theorem ltnUnlatch (h : Frame free D u s) {x : Fin 6} {engineOff : Bool} : Frame free D u (s.ltnUnlatch x engineOff) := by
  unfold State.ltnUnlatch
  dsimp only
  exact .ite h.put.ltnTo.ltnLoad h.put.ltnTo

theorem ltnEcho (h : Frame free D u s) {x : Fin 6} {echo : Bool} : Frame free D u (s.ltnEcho x echo) := by
  unfold State.ltnEcho
  dsimp only
  exact h.put.modLtn

theorem ltnSample (h : Frame free D u s) {x : Fin 6} {code : Nat} {echo : Bool} : Frame free D u (s.ltnSample x code echo).1 := by
  unfold State.ltnSample
  dsimp only
  exact h.ltnEcho.modLtn

theorem ltnInterior (h : Frame free D u s) {x : Fin 6} {j : Fin 4} {code : Nat} : Frame free D u (s.ltnInterior x j code) := by
  unfold State.ltnInterior
  exact h.modLtn

theorem ltnDarkSample (h : Frame free D u s) {x : Fin 6} {code : Nat} : Frame free D u (s.ltnDarkSample x code) := by
  unfold State.ltnDarkSample
  exact h.modLtn

theorem ltnPlainWrite (h : Frame free D u s) {path : Path} {x : Fin 6} {off v : Nat} :
    Frame free D u (s.ltnPlainWrite path x off v) := by
  unfold State.ltnPlainWrite
  exact .ite h h.plainWrite

theorem ltnSrst (h : Frame free D u s) {x : Fin 6} : Frame free D u (s.ltnSrst x) := by
  unfold State.ltnSrst
  dsimp only
  exact h.ltnDark.modLtn.ltnTo

/-! ### Grinder -/

theorem modGrd (h : Frame free D u s) {n : Fin 4} {f : Grinder → Grinder} : Frame free D u (s.modGrd n f) := by
  unfold State.modGrd
  exact h.withGrd

theorem grdRamp (h : Frame free D u s) {n : Fin 4} {cnt : Nat} : Frame free D u (s.grdRamp n cnt) := by
  unfold State.grdRamp
  dsimp only
  exact .modGrd (.put (.ite (.raise (.ite (.raise (.bump (.put (.foldlFst (fun _ hs => hs.put.put.pair) h)))) (.put (.foldlFst (fun
    _ hs => hs.put.put.pair) h)))) (.ite (.raise (.bump (.put (.foldlFst (fun _ hs => hs.put.put.pair) h)))) (.put (.foldlFst (fun
    _ hs => hs.put.put.pair) h)))))

theorem grdPulses (h : Frame free D u s) {n : Fin 4} : Frame free D u (s.grdPulses n) := by
  unfold State.grdPulses
  dsimp only
  exact .ite h.modGrd.bump.raise h.modGrd

theorem useProg (h : Frame free D u s) {n : Fin 4} {x : Nat} : Frame free D u (s.useProg n x) := by
  unfold State.useProg
  dsimp only
  exact .ite h.modGrd.put.put.raise h.modGrd.put.put

theorem grdStop (h : Frame free D u s) {n : Fin 4} : Frame free D u (s.grdStop n) := by
  unfold State.grdStop
  dsimp only
  exact h.modGrd.put.put.put.put

theorem grdRestart (h : Frame free D u s) {n : Fin 4} : Frame free D u (s.grdRestart n) := by
  unfold State.grdRestart
  dsimp only
  exact h.modGrd

/-! ### Link -/

theorem modSxl (h : Frame free D u s) {n : Fin 4} {f : Link → Link} : Frame free D u (s.modSxl n f) := by
  unfold State.modSxl
  exact h.withSxl

theorem sxlTo (h : Frame free D u s) {n : Fin 4} {st : Nat} : Frame free D u (s.sxlTo n st) := by
  unfold State.sxlTo
  exact h.put

theorem linkSync (h : Frame free D u s) {n : Fin 4} {rate lat : Nat} : Frame free D u (s.linkSync n rate lat) := by
  unfold State.linkSync
  exact h.put.modSxl

theorem linkUse (h : Frame free D u s) {n : Fin 4} {groups rate : Nat} : Frame free D u (s.linkUse n groups rate) := by
  unfold State.linkUse
  dsimp only
  exact .ite h.put.put.modSxl h.put.put.modSxl.linkSync.put.modSxl

theorem eyeWorst (h : Frame free D u s) {n : Fin 4} {eyes : Vector Nat 16} : Frame free D u (s.eyeWorst n eyes) := by
  unfold State.eyeWorst
  dsimp only
  split
  · exact h.put
  · exact h.put

theorem eyeShow (h : Frame free D u s) {n : Fin 4} {eyes : Vector Nat 16} : Frame free D u (s.eyeShow n eyes) := by
  unfold State.eyeShow
  dsimp only
  exact .eyeWorst (.foldl (fun _ hs => hs.put) h)

theorem eyeRead (h : Frame free D u s) {n : Fin 4} {k data : Nat} : Frame free D u (s.eyeRead n k data) := by
  unfold State.eyeRead
  dsimp only
  exact h.eyeShow

theorem linkPark (h : Frame free D u s) {n : Fin 4} {pat : Nat} : Frame free D u (s.linkPark n pat) := by
  unfold State.linkPark
  exact .ite h.modSxl.put h

theorem linkRelease (h : Frame free D u s) {n : Fin 4} : Frame free D u (s.linkRelease n) := by
  unfold State.linkRelease
  exact h.modSxl.put

theorem trainStart (h : Frame free D u s) {n : Fin 4} : Frame free D u (s.trainStart n) := by
  unfold State.trainStart
  dsimp only
  exact h.bump.modSxl.put.put.sxlTo

theorem trainFail (h : Frame free D u s) {n : Fin 4} {detail : Nat} : Frame free D u (s.trainFail n detail) := by
  unfold State.trainFail
  dsimp only
  exact .errHw (.sxlTo (.ite h.put.put.modSxl.put h.put.put.modSxl))

theorem keepRates (h : Frame free D u s) {n : Fin 4} {ms : List RateMeas} : Frame free D u (s.keepRates n ms) := by
  unfold State.keepRates
  dsimp only
  exact .foldl (fun _ hs => .dite (fun _ => hs.modSxl.put) (fun _ => hs)) (.foldl (fun _ hs => hs.put) h.modSxl)

theorem linkRise (h : Frame free D u s) {n : Fin 4} {groups rate : Nat} : Frame free D u (s.linkRise n groups rate) := by
  unfold State.linkRise
  dsimp only
  exact h.put.linkUse.put.put.eyeShow.modSxl.sxlTo.raise

theorem linkStop (h : Frame free D u s) {n : Fin 4} : Frame free D u (s.linkStop n) := by
  unfold State.linkStop
  dsimp only
  exact h.modSxl.put.put.put.put.sxlTo

theorem linkDrop (h : Frame free D u s) {n : Fin 4} {detail groups : Nat} : Frame free D u (s.linkDrop n detail groups) := by
  unfold State.linkDrop
  dsimp only
  exact .sxlTo (.modSxl (.ite h.bump.put.raise.errHw.put.put.put h.bump.put.raise.errHw.put.put))

theorem stepDown (h : Frame free D u s) {n : Fin 4} {groups rate : Nat} : Frame free D u (s.stepDown n groups rate) := by
  unfold State.stepDown
  dsimp only
  exact .ite h.bump.raise.put.modSxl h.raise

theorem linkInterim (h : Frame free D u s) {n : Fin 4} {new : Nat × Nat} {start : Nat} :
    Frame free D u (s.linkInterim n new start) := by
  unfold State.linkInterim
  dsimp only
  exact .ite h.linkUse.modSxl h.linkUse.modSxl.sxlTo

theorem linkJoin (h : Frame free D u s) {n : Fin 4} : Frame free D u (s.linkJoin n) := by
  unfold State.linkJoin
  split
  · exact .ite h.linkUse h
  · exact h

theorem linkFinal (h : Frame free D u s) {n : Fin 4} : Frame free D u (s.linkFinal n) := by
  unfold State.linkFinal
  dsimp only
  split
  · exact h
  · exact h.linkUse.modSxl.put.sxlTo

theorem linkChangeNow (h : Frame free D u s) {n : Fin 4} {new : Nat × Nat} : Frame free D u (s.linkChangeNow n new) := by
  unfold State.linkChangeNow
  dsimp only
  exact h.modSxl.linkFinal

theorem linkStatRead (h : Frame free D u s) {n : Fin 4} {v : Nat} : Frame free D u (s.linkStatRead n v) := by
  unfold State.linkStatRead
  extract_lets _ _ _ w1 w2 _ w3 _ _ w4 _ w5
  have h1 : Frame free D u w1 := h.put.put
  have h2 : Frame free D u w2 := .ite h1 h1.raise
  have h3 : Frame free D u w3 := h2.put
  have h4 : Frame free D u w4 := .ite h3.raise h3
  have h5 : Frame free D u w5 := .ite h4.modSxl.sxlTo h4
  exact h5.modSxl

theorem sbRead (h : Frame free D u s) {n : Fin 4} {addr data : Nat} : Frame free D u (s.sbRead n addr data) := by
  unfold State.sbRead
  extract_lets w1 w2
  have h1 : Frame free D u w1 := h.put
  have h2 : Frame free D u w2 := h1.put
  split
  · exact h1.put
  · exact h2.put
  · exact h1.modSxl
  · exact h1.put
  · exact h1.put
  · exact h1.put
  · exact h1.put
  · exact h1.modSxl
  · exact h1.put
  · exact h1.linkStatRead
  · exact h1.modSxl
  · exact .ite h1.eyeRead h1

theorem epsRamp (h : Frame free D u s) {n : Fin 4} {snap : Bool} : Frame free D u (s.epsRamp n snap) := by
  unfold State.epsRamp
  dsimp only
  exact h.modSxl.put

/-! ### CalApply -/

theorem modCal (h : Frame free D u s) {f : Cal → Cal} : Frame free D u (s.modCal f) := by
  unfold State.modCal
  exact h.withCal

theorem modLines (h : Frame free D u s) {x : Fin 6} {f : DelayLines → DelayLines} : Frame free D u (s.modLines x f) := by
  unfold State.modLines
  exact h.modCal

theorem modBank (h : Frame free D u s) {b : Fin 2} {f : AdcBank → AdcBank} : Frame free D u (s.modBank b f) := by
  unfold State.modBank
  exact h.modCal

theorem calApply (h : Frame free D u s) {cls inst : Nat} {vals : List Int} {snap : Bool} :
    Frame free D u (s.calApply cls inst vals snap) := by
  unfold State.calApply
  split
  · split
    · exact h
    · extract_lets _
      refine .foldl (fun _ hs => ?_) h
      extract_lets _ _ w1 _
      have h1 : Frame free D u w1 := hs.put.put
      exact .ite h1.put.put h1
  · split
    · exact h
    · extract_lets w1
      have h1 : Frame free D u w1 := h.modLtn
      exact .ite h1.ltnDelaySnap h1
  · split
    · exact h
    · extract_lets _ w1
      have h1 : Frame free D u w1 := h.modCal
      exact h1.modLtn.put
  · split
    · exact h
    · extract_lets _ _ w1
      have h1 : Frame free D u w1 := h.modSxl
      exact .ite h1.modSxl.put h1
  · split
    · exact h
    · extract_lets _ _
      exact .ite h.modSxl h.modCal
  · split
    · exact h
    · extract_lets _ _ w1
      have h1 : Frame free D u w1 := h.modCal
      exact .ite h1.put.put h1
  · exact h

theorem calDeliver (h : Frame free D u s) {u' : Nat} {any : Bool} : Frame free D u (s.calDeliver u' any) := by
  unfold State.calDeliver
  dsimp only
  exact .foldl (fun _ hs => hs.calApply) h.modCal

theorem trimRamp (h : Frame free D u s) {k : Fin 2} : Frame free D u (s.trimRamp k) := by
  unfold State.trimRamp
  dsimp only
  exact h.put.put

theorem presetStep (h : Frame free D u s) {n : Fin 4} : Frame free D u (s.presetStep n) := by
  unfold State.presetStep
  dsimp only
  split
  · exact h
  · split
    · exact h
    · refine .ite h.modCal ?_
      split
      · exact h
      · exact h.modCal.modSxl

theorem dlShow (h : Frame free D u s) {x : Fin 6} : Frame free D u (s.dlShow x) := by
  unfold State.dlShow
  dsimp only
  exact h.put

theorem dlRotate (h : Frame free D u s) {x : Fin 6} : Frame free D u (s.dlRotate x) := by
  unfold State.dlRotate
  dsimp only
  split
  · exact .ite h.modLines h.modLines.dlShow
  · exact .ite h (.ite h.modLines.dlShow h.modLines)

theorem adcReplace (h : Frame free D u s) {x : Fin 6} : Frame free D u (s.adcReplace x) := by
  unfold State.adcReplace
  dsimp only
  exact h.modBank.put.put.raise

theorem adcSwitch (h : Frame free D u s) {x : Fin 6} {frames : Bool} : Frame free D u (s.adcSwitch x frames) := by
  unfold State.adcSwitch
  dsimp only
  exact .ite h.adcReplace (.ite h (.ite h.modBank.put (.ite h.modBank.put h)))

theorem adcRamp (h : Frame free D u s) {x : Fin 6} {snap : Bool} : Frame free D u (s.adcRamp x snap) := by
  unfold State.adcRamp
  dsimp only
  exact h.modBank

theorem calFrame (h : Frame free D u s) {u' : Fin 6} : Frame free D u (s.calFrame u') := by
  unfold State.calFrame
  dsimp only
  refine .adcRamp (.adcSwitch (.dlRotate ?_))
  split
  · exact h.calDeliver.presetStep
  · split
    · exact h.calDeliver.trimRamp
    · exact h.calDeliver

theorem calLeave (h : Frame free D u s) {u' : Fin 6} : Frame free D u (s.calLeave u') := by
  unfold State.calLeave
  dsimp only
  refine .adcRamp (.adcSwitch ?_)
  split
  · split
    · exact h.calDeliver
    · exact h.calDeliver.calApply.modCal
  · split
    · exact h.calDeliver
    · exact h.calDeliver.put.put

/-! ### LinkItems -/

theorem linkTx (h : Frame free D u s) {n : Fin 4} {items : List (List Byte)} : Frame free D u (s.linkTx n items) := by
  unfold State.linkTx
  dsimp only
  exact h.modSxl

theorem linkTxPackets (h : Frame free D u s) {n : Fin 4} {items : List (List Byte)} {count : Nat} :
    Frame free D u (s.linkTxPackets n items count) := by
  unfold State.linkTxPackets
  exact h.linkTx.modSxl

theorem linkCmd (h : Frame free D u s) {n : Fin 4} {cmd : List Byte} {latest : Int} : Frame free D u (s.linkCmd n cmd latest) := by
  unfold State.linkCmd
  dsimp only
  split
  · exact h.linkTx
  · exact .ite h.modSxl.modGrd h.modSxl

theorem linkAbort (h : Frame free D u s) {n : Fin 4} {block slot : Nat} {fill : List Byte} :
    Frame free D u (s.linkAbort n block slot fill) := by
  unfold State.linkAbort
  dsimp only
  exact h.modSxl

/-! ### Commit -/

theorem release (h : Frame free D u s) {e : Nat × Nat} : Frame free D u (s.release e) := by
  unfold State.release
  exact h.setInfReg

theorem releasePages (h : Frame free D u s) {ps : List Page} {sel : Nat → Bool} : Frame free D u (s.releasePages ps sel) := by
  unfold State.releasePages
  exact .foldl (fun _ hs => .foldl (fun _ hs1 => hs1.release) hs) h

theorem setCommitRec (h : Frame free D u s) {g : Group} {r : CommitRec} : Frame free D u (s.setCommitRec g r) := by
  unfold State.setCommitRec
  exact h.withCommits

theorem dropCommitRec (h : Frame free D u s) {g : Group} : Frame free D u (s.dropCommitRec g) := by
  unfold State.dropCommitRec
  exact h.withCommits

theorem commitOpen (h : Frame free D u s) {g : Group} {r : CommitRec} : Frame free D u (s.commitOpen g r) := by
  unfold State.commitOpen
  exact h.setCommitRec.put

theorem commitClose (h : Frame free D u s) {g : Group} {late reject : Bool} {blame : optParam Page g.home} :
    Frame free D u (s.commitClose g late reject blame) := by
  unfold State.commitClose
  extract_lets w1 w2 w3 w4
  have h1 : Frame free D u w1 := h.dropCommitRec.put
  have h2 : Frame free D u w2 := .ite h1.mark h1
  have h3 : Frame free D u w3 := .ite h2.mark h2
  have h4 : Frame free D u w4 := by
    unfold w4
    refine .foldl (fun _ hs => ?_) h3
    extract_lets w5 w6
    have h5 : Frame free D u w5 := hs.raise
    have h6 : Frame free D u w6 := .ite h5.raise h5
    exact .ite h6.raise h6
  exact h4.mbxCommit

theorem commitReject (h : Frame free D u s) {g : Group} {late : Bool} {f : CommitFail} :
    Frame free D u (s.commitReject g late f) := by
  unfold State.commitReject
  exact h.errHw.commitClose

theorem commitWhole (h : Frame free D u s) {g : Group} {late : Bool} {fails : List CommitFail} :
    Frame free D u (s.commitWhole g late fails).1 := by
  unfold State.commitWhole
  split
  · exact h.commitReject.pair
  · exact h.releasePages.commitClose.pair

/-! ### Engine -/

theorem modEng (h : Frame free D u s) {n : Fin 4} {f : Engine → Engine} : Frame free D u (s.modEng n f) := by
  unfold State.modEng
  exact h.withEng

theorem grdValInfo (h : Frame free D u s) {n : Fin 4} : Frame free D u (s.grdValInfo n) := by
  unfold State.grdValInfo
  dsimp only
  split
  · exact h
  · split
    · exact h.put
    · exact h

theorem engCommit (h : Frame free D u s) {n : Fin 4} {sync : Bool} : Frame free D u (s.engCommit n sync).1 := by
  unfold State.engCommit
  dsimp only
  exact .ite (.modSxl (.ite (.withPlanAt (.commitWhole (.ite (.ite h.bump h) (.grdValInfo (.ite h.bump h))))) (.commitWhole (.ite
    (.ite h.bump h) (.grdValInfo (.ite h.bump h)))))) (.ite (.withPlanAt (.commitWhole (.ite (.ite h.bump h) (.grdValInfo (.ite
    h.bump h))))) (.commitWhole (.ite (.ite h.bump h) (.grdValInfo (.ite h.bump h)))))

theorem engCommitStopped (h : Frame free D u s) {n : Fin 4} : Frame free D u (s.engCommitStopped n) := by
  unfold State.engCommitStopped
  exact .ite h.engCommit h

theorem ltnWantArm (h : Frame free D u s) {x : Fin 6} {engState : Nat} : Frame free D u (s.ltnWantArm x engState) := by
  unfold State.ltnWantArm
  exact .ite h.ltnLoad h

theorem ltnFollow (h : Frame free D u s) {x : Fin 6} {old new : Nat} : Frame free D u (s.ltnFollow x old new) := by
  unfold State.ltnFollow
  extract_lets _ w1 w2 w3
  have h1 : Frame free D u w1 := h.modLtn
  have h2 : Frame free D u w2 := .ite (.ite h1.ltnDark.ltnTo h1) h
  have h3 : Frame free D u w3 := h2.modLtn
  exact .ite (.ite h2 h2.ltnOffPins.ltnTo) (.ite (.ite h3.ltnDark.ltnTo h3) (.ite h2.ltnWantArm h2))

theorem engStopFrames (h : Frame free D u s) {n : Fin 4} : Frame free D u (s.engStopFrames n) := by
  unfold State.engStopFrames
  dsimp only
  exact h.modEng.put.put.put.put.grdStop

theorem engTo (h : Frame free D u s) {n : Fin 4} {new cause : Nat} : Frame free D u (s.engTo n new cause) := by
  unfold State.engTo
  extract_lets _ _ _ w1 w2 w3 w4 _ w5 w6 w7 w8 w9 w10 w11
  have h1 : Frame free D u w1 := h.put.put
  have h2 : Frame free D u w2 := h1.withPlanAt
  have h3 : Frame free D u w3 := h2.raise
  have h4 : Frame free D u w4 := .ite h3.errHw h3
  have h5 : Frame free D u w5 := .ite h4 h4.engStopFrames
  have h6 : Frame free D u w6 := .ite h5.put h5
  have h7 : Frame free D u w7 := .ite h6.calLeave.ltnForget h6
  have h8 : Frame free D u w8 := .ite h7.engCommitStopped h7
  have h9 : Frame free D u w9 := h8.ltnFollow
  have h10 : Frame free D u w10 := .ite h9.linkPark (.ite h9.linkPark h9)
  have h11 : Frame free D u w11 := .ite h10.modEng h10.modEng
  exact h11.noteState

theorem engOff (h : Frame True D u s) {n : Fin 4} : Frame True D u (s.engOff n) := by
  unfold State.engOff
  dsimp only
  exact h.engTo.linkStop.put.modEng.put.pbaRelease

theorem engRetrain (h : Frame free D u s) {n : Fin 4} : Frame free D u (s.engRetrain n) := by
  unfold State.engRetrain
  dsimp only
  exact .ite h.engTo.trainStart h.engTo.put

theorem engProceed (h : Frame free D u s) {n : Fin 4} : Frame free D u (s.engProceed n) := by
  unfold State.engProceed
  exact .ite h.put.trainStart.ltnWantArm h

theorem engLinkUp (h : Frame free D u s) {n : Fin 4} : Frame free D u (s.engLinkUp n) := by
  unfold State.engLinkUp
  dsimp only
  exact .ite h.modSxl.engTo h.modSxl

theorem engLinkDead (h : Frame free D u s) {n : Fin 4} : Frame free D u (s.engLinkDead n) := by
  unfold State.engLinkDead
  dsimp only
  exact .ite h.engTo h

theorem engLinkLoss (h : Frame free D u s) {n : Fin 4} {detail groups : Nat} : Frame free D u (s.engLinkLoss n detail groups) := by
  unfold State.engLinkLoss
  extract_lets _ _ w1 w2
  have h1 : Frame free D u w1 := h.linkDrop
  have h2 : Frame free D u w2 := h1.ltnDark.modLtn
  exact .ite h2.engRetrain (.ite h2.engTo.trainStart (.ite h2.trainStart h2))

theorem engTrip (h : Frame free D u s) {n : Fin 4} {cause : Nat} : Frame free D u (s.engTrip n cause) := by
  unfold State.engTrip
  dsimp only
  exact .ite h.ltnLatch h.ltnLatch.engTo

theorem framePrep (h : Frame free D u s) {n : Fin 4} {ph : Phase} {fromReady sync : Bool} {start : Nat} :
    Frame free D u (s.framePrep n ph fromReady sync start).1 := by
  unfold State.framePrep
  extract_lets w1 _ _ _ _ _ _
  have h1 : Frame free D u w1 := h.calDeliver
  split
  rename_i _ w2 _ e2
  have h2 : Frame free D u w2 := .ofPair (.iteFst (.iteFst h1.setCommitRec h1.engCommit) h1) e2
  extract_lets _ taken w3 w4 _ w5 w6 w7 w8 w9
  have h3 : Frame free D u w3 := h2.epsRamp
  have h4 : Frame free D u w4 := h3.grdRamp.modEng
  have h5 : Frame free D u w5 := h3.linkFinal
  have h6 : Frame free D u w6 := .ite h5.grdRestart h5
  have h8 : Frame free D u w8 := .ite h3.useProg.grdRestart h3
  have h9 : Frame free D u w9 := h8.grdRamp.grdPulses
  clear_value taken
  cases taken with
  | h1 =>
    refine .pair ?_
    split
    · exact h4.linkInterim
    · exact h4
  | h2 => exact h6.useProg.grdRamp
  | lit => exact h9
  | first => exact h9

theorem grdNext (h : Frame free D u s) {n : Fin 4} {v : State} {ph : Phase} {pl : List Plane} :
    Frame free D u (s.grdNext n v ph pl) := by
  unfold State.grdNext
  dsimp only
  exact h.modGrd

theorem engReplan (h : Frame free D u s) {n : Fin 4} : Frame free D u (s.engReplan n) := by
  unfold State.engReplan
  dsimp only
  split
  · exact .ite h.grdNext.ltnFinal h.grdNext
  · exact h

theorem grdFrame (h : Frame free D u s) {n : Fin 4} {ph : Phase} {pl : List Plane} : Frame free D u (s.grdFrame n ph pl) := by
  unfold State.grdFrame
  dsimp only
  exact .ite h.put.modGrd.put.put.put.put.bump.raise h.put.modGrd.put.put.put.put

theorem ratioStart (h : Frame free D u s) {n : Fin 4} : Frame free D u (s.ratioStart n) := by
  unfold State.ratioStart
  dsimp only
  exact .foldl (fun _ hs => hs.put) h.modLtn

theorem ltnEngFrame (h : Frame free D u s) {n : Fin 4} {fromReady : Bool} : Frame free D u (s.ltnEngFrame n fromReady) := by
  unfold State.ltnEngFrame
  extract_lets _ _ w1 w2 w3
  have h1 : Frame free D u w1 := .ite h.ratioStart h
  have h2 : Frame free D u w2 := h1.ltnLoop.ltnRamp
  have h3 : Frame free D u w3 := h2.ltnFrameStart
  exact .ite (.ite h3.ltnTo.softRun h3) h2

theorem engSwap (h : Frame free D u s) {n : Fin 4} : Frame free D u (s.engSwap n) := by
  unfold State.engSwap
  dsimp only
  exact .ite h.put.modEng.put.bump.raise h.put.modEng.put

theorem engFrame (h : Frame free D u s) {n : Fin 4} {ph : Phase} {new sync : Bool} : Frame free D u (s.engFrame n ph new sync) := by
  unfold State.engFrame
  extract_lets _ _ _ _ _ _ _
  split
  rename_i _ w1 _ _ e1
  have h1 : Frame free D u w1 := .ofPair h.framePrep e1
  refine .ite h1.engLinkLoss ?_
  extract_lets _ w2 w3 w4 w5
  have h2 : Frame free D u w2 := .ite h1 h1.engTo
  have h3 : Frame free D u w3 := h1.engTo
  have h4 : Frame free D u w4 := by
    unfold w4
    split
    · exact h2.bump.raise
    · exact h1
    · exact .ite h1 (.ite h3.modEng.linkRelease h3)
  have h5 : Frame free D u w5 := .ite h4.engSwap h4
  refine .ite h1.engTo ?_
  split
  · extract_lets w6 w7 w8 w9 w10 w11 w12 w13 w14 w15 w16 w17 w18 w19
    have h6 : Frame free D u w6 := h5.put.put
    have h7 : Frame free D u w7 := .ite h6.bump.raise h6
    have h8 : Frame free D u w8 := h7.put
    have h9 : Frame free D u w9 := .ite h8.bump.raise h8
    have h10 : Frame free D u w10 := h9.stamp
    have h11 : Frame free D u w11 := h10.bump.raise
    have h12 : Frame free D u w12 := .ite h11 h11.bump.raise
    have h13 : Frame free D u w13 := .ite h12 h12.put.put
    have h14 : Frame free D u w14 := h13.grdFrame
    have h15 : Frame free D u w15 := h14.modEng
    have h16 : Frame free D u w16 := h15.put.put
    have h17 : Frame free D u w17 := h16.put.put
    have h18 : Frame free D u w18 := h17.put
    have h19 : Frame free D u w19 := h18.ltnEngFrame.calFrame
    exact h19.noteFrame

theorem litStart (h : Frame free D u s) {n : Fin 4} {new : Bool} : Frame free D u (s.litStart n new) := by
  unfold State.litStart
  dsimp only
  exact .foldl (fun _ hs => hs.engFrame) h

theorem engRefuse (h : Frame free D u s) {p : Page} {path off cls detail : Nat} :
    Frame free D u (s.engRefuse p path off cls detail).1 := by
  unfold State.engRefuse
  dsimp only
  exact h.err

theorem engStart (h : Frame free D u s) {n : Fin 4} {path off : Nat} : Frame free D u (s.engStart n path off).1 := by
  unfold State.engStart
  dsimp only
  exact .iteFst h.engRefuse (.iteFst h.modEng.engTo.put.pbaRequest.pair (.iteFst h.modEng.pair (.iteFst h.modEng.engRetrain.pair
    h.engRefuse)))

theorem engStop (h : Frame True D u s) {n : Fin 4} {path off : Nat} : Frame True D u (s.engStop n path off).1 := by
  unfold State.engStop
  dsimp only
  exact .iteFst h.mbxStartCut.engOff.pair (.iteFst h.mbxStartCut.modEng.pair h.engRefuse)

theorem engPark (h : Frame free D u s) {n : Fin 4} {path off : Nat} : Frame free D u (s.engPark n path off).1 := by
  unfold State.engPark
  dsimp only
  exact .iteFst h.mbxStartCut.engTo.pair h.engRefuse

theorem engFaultClear (h : Frame True D u s) {n : Fin 4} {path off : Nat} : Frame True D u (s.engFaultClear n path off).1 := by
  unfold State.engFaultClear
  exact .iteFst h.engOff.pair h.engRefuse

theorem engCmdWrite (h : Frame True D u s) {path : Path} {n : Fin 4} {v : Nat} : Frame True D u (s.engCmdWrite path n v) := by
  unfold State.engCmdWrite
  dsimp only
  split
  · exact h.engStart
  · exact h.engStop
  · exact h.engPark
  · exact h.engFaultClear
  · exact h.err

theorem engImage (h : Frame free D u s) {n : Fin 4} {comp geom pred : Nat} : Frame free D u (s.engImage n comp geom pred) := by
  unfold State.engImage
  dsimp only
  exact h.modEng.put

theorem engWithdraw (h : Frame free D u s) {n : Fin 4} : Frame free D u (s.engWithdraw n) := by
  unfold State.engWithdraw
  exact h.modEng.put

theorem engUnderrun (h : Frame free D u s) {n : Fin 4} {plane block : Nat} : Frame free D u (s.engUnderrun n plane block) := by
  unfold State.engUnderrun
  dsimp only
  exact h.bump.raise.put.modEng

theorem engXtalFail (h : Frame free D u s) {n : Fin 4} : Frame free D u (s.engXtalFail n) := by
  unfold State.engXtalFail
  dsimp only
  exact .ite (.ite h.ltnLatch h) (.engTo (.ite h.ltnLatch h))

theorem engWdogSafe (h : Frame free D u s) {n : Fin 4} : Frame free D u (s.engWdogSafe n) := by
  unfold State.engWdogSafe
  dsimp only
  exact .ite h (.ite (.modEng (.errHw (.put (.ite h.modSxl.sxlTo h)))) (.engTo (.ite h.modSxl.sxlTo h)))

theorem engSrst (h : Frame free D u s) {n : Fin 4} : Frame free D u (s.engSrst n) := by
  unfold State.engSrst
  exact h.modEng

/-! ### GrinderCmds -/

/-- An act at an instant. -/
theorem step' {t : Nat} {f : State → State} (hf : ∀ {w}, Frame free D s w → Frame free D s (f w)) :
    FrameOut free D s (s.step' t f) := by
  rintro v hv
  cases hv
  exact hf (refl s).atInstant

theorem execFrameStart {t : Nat} {n : Fin 4} : FrameOut free D s (execFrameStart t n s) := by
  refine step' fun hs => ?_
  dsimp only
  refine .ite (.ite hs.litStart hs) (.ite ?_ hs)
  split
  · exact .ite (.foldl (fun _ hs => hs.engFrame) hs) hs
  · exact hs

theorem execRepeat {t : Nat} {n : Fin 4} : FrameOut free D s (execRepeat t n s) :=
  step' fun hs => .ite hs.litStart hs

theorem execHoldH2Start {t : Nat} {n : Fin 4} : FrameOut free D s (execHoldH2Start t n s) :=
  step' fun hs => .ite hs.engFrame hs

theorem execHoldEnd {t : Nat} {n : Fin 4} : FrameOut free D s (execHoldEnd t n s) :=
  step' fun hs => .ite hs.engFrame hs

theorem execBlankingStart {t : Nat} {n : Fin 4} : FrameOut free D s (execBlankingStart t n s) :=
  step' fun hs => .ite hs.ltnDark.put hs

theorem execPlaneStart {t : Nat} {n : Fin 4} : FrameOut free D s (execPlaneStart t n s) := by
  refine step' fun hs => ?_
  split
  · exact .ite hs.modGrd hs
  · exact hs

theorem sendLoad (h : Frame free D u s) {n : Fin 4} {c b : Nat} : Frame free D u (s.sendLoad n c b) := by
  unfold State.sendLoad
  dsimp only
  split
  · exact h
  · exact h.linkTxPackets

theorem lastBoundary (h : Frame free D u s) {n : Fin 4} {c b : Nat} : Frame free D u (s.lastBoundary n c b) := by
  unfold State.lastBoundary
  exact .ite h.linkJoin h

theorem execBlockLoad {t : Nat} {n : Fin 4} : FrameOut free D s (execBlockLoad t n s) := by
  refine step' fun hs => ?_
  dsimp only
  refine .ite hs ?_
  split
  · exact hs
  · exact .ite hs.lastBoundary.sendLoad.modGrd.put.linkRelease hs.lastBoundary.sendLoad.modGrd

theorem loadSlack (h : Frame free D u s) {n : Fin 4} {m : Nat} : Frame free D u (s.loadSlack n m) := by
  unfold State.loadSlack
  dsimp only
  exact .ite h.modGrd.raise h.modGrd

theorem execBlockLoadComplete {t : Nat} {n : Fin 4} : FrameOut free D s (execBlockLoadComplete t n s) := by
  refine step' fun hs => ?_
  split
  · exact hs
  · refine .ite hs ?_
    split
    · exact hs.modGrd
    · exact .ite hs hs.modGrd.loadSlack

theorem execResetIssue {t : Nat} {n : Fin 4} : FrameOut free D s (execResetIssue t n s) := by
  refine step' fun hs => ?_
  dsimp only
  split
  · exact hs
  · exact .ite hs hs.linkCmd.modGrd

theorem sendFill (h : Frame free D u s) {n : Fin 4} {c b : Nat} : Frame free D u (s.sendFill n c b) := by
  unfold State.sendFill
  dsimp only
  split
  · exact .ite h.linkAbort.modGrd h.linkCmd
  · exact h.linkTx

theorem execUnderrun {t : Nat} {n : Fin 4} : FrameOut free D s (execUnderrun t n s) := by
  refine step' fun hs => ?_
  dsimp only
  split
  · exact hs
  · exact hs.sendFill.modGrd.engUnderrun.loadSlack

theorem execFsyncPulse {t : Nat} {n : Fin 4} : FrameOut free D s (execFsyncPulse t n s) :=
  step' fun hs => .ite hs.modEng hs

theorem execFsyncPulseEnd {t : Nat} {n : Fin 4} : FrameOut free D s (execFsyncPulseEnd t n s) :=
  step' fun hs => .ite hs.modEng hs

theorem execEngStopDone {t : Nat} {n : Fin 4} : FrameOut True D s (execEngStopDone t n s) :=
  step' fun hs => .ite hs.ltnLoop.engOff hs

theorem execRetrainRetry {t : Nat} {n : Fin 4} : FrameOut free D s (execRetrainRetry t n s) := by
  refine step' fun hs => ?_
  split
  · exact .ite hs.engRetrain hs
  · exact hs

theorem grdSnap (h : Frame free D u s) {n : Fin 4} : Frame free D u (s.grdSnap n) := by
  unfold State.grdSnap
  exact h.grdRamp.modGrd

theorem engFinal (h : Frame free D u s) {n : Fin 4} : Frame free D u (s.engFinal n) := by
  unfold State.engFinal
  extract_lets _ w1 _ w2
  have h1 : Frame free D u w1 := .ite h.grdSnap h
  have h2 : Frame free D u w2 := .ite h1.ltnEarly h1
  split
  · exact h
  · refine .ite h ?_
    extract_lets w3
    have h3 : Frame free D u w3 := h2.modEng.modGrd
    split
    · exact h3
    · extract_lets w4
      have h4 : Frame free D u w4 := h3.grdNext
      exact .ite h4.ltnFinal h4

/-! ### Scanner -/

theorem modScn (h : Frame free D u s) {k : Fin 2} {f : Scanner → Scanner} : Frame free D u (s.modScn k f) := by
  unfold State.modScn
  exact h.withScn

theorem pttWrite (h : Frame free D u s) {path : Path} {k : Fin 2} {v : Nat} : Frame free D u (s.pttWrite path k v) := by
  unfold State.pttWrite
  dsimp only
  exact .ite h.err h.modScn.put

theorem scnUse (h : Frame free D u s) {k : Fin 2} : Frame free D u (s.scnUse k) := by
  unfold State.scnUse
  dsimp only
  exact h.modScn

theorem scnCommit (h : Frame free D u s) {k : Fin 2} : Frame free D u (s.scnCommit k).1 := by
  unfold State.scnCommit
  dsimp only
  exact .ite (.modScn (.scnUse (.commitWhole (.ite h.bump h)))) (.commitWhole (.ite h.bump h))

theorem scnCommitStopped (h : Frame free D u s) {k : Fin 2} : Frame free D u (s.scnCommitStopped k) := by
  unfold State.scnCommitStopped
  exact .ite h.scnCommit h

theorem scnStopFrames (h : Frame free D u s) {k : Fin 2} : Frame free D u (s.scnStopFrames k) := by
  unfold State.scnStopFrames
  dsimp only
  exact h.modScn.put.put.put

theorem scnRampDown (h : Frame free D u s) {k : Fin 2} : Frame free D u (s.scnRampDown k) := by
  unfold State.scnRampDown
  exact h.modScn.put

theorem scnDrivesZero (h : Frame free D u s) {k : Fin 2} : Frame free D u (s.scnDrivesZero k) := by
  unfold State.scnDrivesZero
  dsimp only
  exact h.modScn.modScn.put.put.put

theorem scnTo (h : Frame free D u s) {k : Fin 2} {new cause : Nat} : Frame free D u (s.scnTo k new cause) := by
  unfold State.scnTo
  extract_lets _ _ _ w1 w2 w3 _ w4 w5 w6 w7 w8
  have h1 : Frame free D u w1 := h.put.put
  have h2 : Frame free D u w2 := h1.raise
  have h3 : Frame free D u w3 := .ite h2.errHw h2
  have h4 : Frame free D u w4 := .ite h3 h3.scnStopFrames
  have h5 : Frame free D u w5 := .ite h4.put h4
  have h6 : Frame free D u w6 := .ite h5.calLeave.ltnForget h5
  have h7 : Frame free D u w7 := .ite h6.scnCommitStopped h6
  have h8 : Frame free D u w8 := h7.ltnFollow
  exact h8.noteState

theorem scnRelease (h : Frame True D u s) {k : Fin 2} : Frame True D u (s.scnRelease k) := by
  unfold State.scnRelease
  exact h.pbaRelease

theorem scnOff (h : Frame True D u s) {k : Fin 2} : Frame True D u (s.scnOff k) := by
  unfold State.scnOff
  dsimp only
  exact .ite h.scnTo.put.modScn.put.scnRampDown h.scnTo.put.modScn.put.scnRelease

theorem spinUp (h : Frame free D u s) {k : Fin 2} : Frame free D u (s.spinUp k) := by
  unfold State.spinUp
  exact h.scnUse.modScn.put.put

theorem scnRespin (h : Frame free D u s) {k : Fin 2} : Frame free D u (s.scnRespin k) := by
  unfold State.scnRespin
  dsimp only
  exact .ite h.scnTo.spinUp h.scnTo.put

theorem scnProceed (h : Frame free D u s) {k : Fin 2} : Frame free D u (s.scnProceed k) := by
  unfold State.scnProceed
  exact .ite h.put.spinUp.ltnWantArm h

theorem scnUnstart (h : Frame free D u s) {k : Fin 2} : Frame free D u (s.scnUnstart k) := by
  unfold State.scnUnstart
  dsimp only
  split
  · exact h
  · exact .ite h (.modScn (.foldl (fun _ hs => hs.setReg) h))

theorem scnTrip (h : Frame free D u s) {k : Fin 2} {cause : Nat} : Frame free D u (s.scnTrip k cause) := by
  unfold State.scnTrip
  dsimp only
  exact .ite h.ltnLatch h.ltnLatch.scnUnstart.scnTo.scnRampDown

theorem trip (h : Frame free D u s) {x : Fin 6} {cause : Nat} : Frame free D u (s.trip x cause) := by
  unfold State.trip
  exact .dite (fun _ => h.engTrip) (fun _ => h.scnTrip)

theorem ampLoss (h : Frame free D u s) {k : Fin 2} {detail : Nat} : Frame free D u (s.ampLoss k detail) := by
  unfold State.ampLoss
  dsimp only
  exact .ite (.ite h.bump.raise.errHw.scnTrip h.bump.raise.errHw) h

theorem scnXtalFail (h : Frame free D u s) {k : Fin 2} : Frame free D u (s.scnXtalFail k) := by
  unfold State.scnXtalFail
  dsimp only
  exact .ite (.ite h.ltnLatch h) (.scnRampDown (.scnTo (.ite h.ltnLatch h)))

theorem scnWdogSafe (h : Frame free D u s) {k : Fin 2} : Frame free D u (s.scnWdogSafe k) := by
  unfold State.scnWdogSafe
  dsimp only
  exact .ite h (.ite h.put.errHw (.ite h.scnTo.scnRampDown h.scnTo))

theorem freqTo (h : Frame free D u s) {k : Fin 2} {f : Int} : Frame free D u (s.freqTo k f) := by
  unfold State.freqTo
  dsimp only
  exact .ite h.modScn.put.raise h.modScn.put

theorem phaseStep (h : Frame free D u s) {k : Fin 2} {lag : Nat} : Frame free D u (s.phaseStep k lag) := by
  unfold State.phaseStep
  dsimp only
  exact h.freqTo

theorem nextLine (h : Frame free D u s) {k : Fin 2} : Frame free D u (s.nextLine k) := by
  unfold State.nextLine
  dsimp only
  exact .ite (.modScn (.ite h.modScn.put.modLtn h.modScn.put)) h.modScn

theorem turningPoint (h : Frame free D u s) {k : Fin 2} {peak lag : Nat} {locked : Bool} :
    Frame free D u (s.turningPoint k peak lag locked) := by
  unfold State.turningPoint
  extract_lets _ _ _ _ _ _ _ _ _ _ _ w1 w2 w3 w4 w5 w6
  have h1 : Frame free D u w1 := h.modScn
  have h2 : Frame free D u w2 := h1.put
  have h3 : Frame free D u w3 := h2.put
  have h4 : Frame free D u w4 := h3.put
  have h5 : Frame free D u w5 := .ite h4.phaseStep h4
  have h6 : Frame free D u w6 := h5.nextLine
  exact .ite h (.ite h6.ampLoss h6)

theorem ltnScnFrame (h : Frame free D u s) {k : Fin 2} : Frame free D u (s.ltnScnFrame k) := by
  unfold State.ltnScnFrame
  dsimp only
  exact .ite (.ite h.ltnLoop.ltnRamp.ltnFrameStart.ltnTo.softRun h.ltnLoop.ltnRamp.ltnFrameStart) h.ltnLoop.ltnRamp

theorem scnFrame (h : Frame free D u s) {k : Fin 2} {new : Bool} : Frame free D u (s.scnFrame k new) := by
  unfold State.scnFrame
  extract_lets _ _ w1 w2 w3 w4 w5 w6 _ _ w7 w8
  have h1 : Frame free D u w1 := h.put
  have h2 : Frame free D u w2 := .ite h1.modScn.put h
  have h3 : Frame free D u w3 := h2.stamp
  have h4 : Frame free D u w4 := h3.bump.raise
  have h5 : Frame free D u w5 := .ite h4 h4.bump.raise
  have h6 : Frame free D u w6 := h5.put.put
  have h7 : Frame free D u w7 := h6.put
  have h8 : Frame free D u w8 := h7.modScn
  exact h8.calDeliver.ltnScnFrame.calFrame

theorem scnBegin (h : Frame True D u s) {k : Fin 2} : Frame True D u (s.scnBegin k) := by
  unfold State.scnBegin
  dsimp only
  refine .ite ?_ (.ite h.ltnLoop.scnOff (.ite (.ite (.modScn (.scnFrame (.raise (.scnTo (.iteFst (.iteFst h.setCommitRec.pair
    h.scnCommit) h))))) (.scnFrame (.scnUse (.iteFst (.iteFst h.setCommitRec.pair h.scnCommit) h)))) (.ite (.ite
    h.put.scnUse.scnFrame.modScn (.ite (.scnFrame (.scnUse (.iteFst (.iteFst h.put.scnTo.setCommitRec.pair h.put.scnTo.scnCommit)
    h.put.scnTo.pair))) h.scnTo)) h)))
  split
  · exact .ite h.scnTo.modScn.scnUse.scnFrame h
  · exact h

theorem scnStart (h : Frame True D u s) {k : Fin 2} : Frame True D u (s.scnStart k) := by
  unfold State.scnStart
  exact h.scnBegin.modScn

theorem lmodUpdate (h : Frame free D u s) {k : Fin 2} : Frame free D u (s.lmodUpdate k) := by
  unfold State.lmodUpdate
  dsimp only
  exact .ite h (.ite h h.edgeCommand.modScn)

theorem scnUnderrun (h : Frame free D u s) {k : Fin 2} : Frame free D u (s.scnUnderrun k) := by
  unfold State.scnUnderrun
  dsimp only
  exact .ite h.bump.raise.put.modScn h

theorem scnStartCmd (h : Frame free D u s) {k : Fin 2} {path off : Nat} : Frame free D u (s.scnStartCmd k path off).1 := by
  unfold State.scnStartCmd
  dsimp only
  exact .iteFst (.iteFst h.modScn.scnTo.put.scnProceed.pair h.modScn.scnTo.put.pbaRequest.pair) (.iteFst h.modScn.pair (.iteFst
    (.iteFst h.modScn.scnTo.pair h.modScn.scnRespin.pair) h.engRefuse))

theorem scnStopCmd (h : Frame True D u s) {k : Fin 2} {path off : Nat} : Frame True D u (s.scnStopCmd k path off).1 := by
  unfold State.scnStopCmd
  dsimp only
  exact .iteFst h.mbxStartCut.scnOff.pair (.iteFst h.mbxStartCut.modScn.pair h.engRefuse)

theorem scnParkCmd (h : Frame free D u s) {k : Fin 2} {path off : Nat} : Frame free D u (s.scnParkCmd k path off).1 := by
  unfold State.scnParkCmd
  dsimp only
  exact .iteFst h.mbxStartCut.ltnDark.scnTo.pair h.engRefuse

theorem scnFaultClear (h : Frame True D u s) {k : Fin 2} {path off : Nat} : Frame True D u (s.scnFaultClear k path off).1 := by
  unfold State.scnFaultClear
  exact .iteFst h.scnOff.pair h.engRefuse

theorem scnCmdWrite (h : Frame True D u s) {path : Path} {k : Fin 2} {v : Nat} : Frame True D u (s.scnCmdWrite path k v) := by
  unfold State.scnCmdWrite
  dsimp only
  split
  · exact h.scnStartCmd
  · exact h.scnStopCmd
  · exact h.scnParkCmd
  · exact h.scnFaultClear
  · exact h.err

theorem scnImage (h : Frame free D u s) {k : Fin 2} {geom : Nat} : Frame free D u (s.scnImage k geom) := by
  unfold State.scnImage
  exact h.modScn.put

theorem scnWithdraw (h : Frame free D u s) {k : Fin 2} : Frame free D u (s.scnWithdraw k) := by
  unfold State.scnWithdraw
  exact h.modScn.put

theorem scnWrite (h : Frame True D u s) {path : Path} {k : Fin 2} {off v : Nat} : Frame True D u (s.scnWrite path k off v) := by
  unfold State.scnWrite
  exact .ite h.scnCmdWrite (.ite h.pttWrite h.plainWrite)

theorem scnSrst (h : Frame free D u s) {k : Fin 2} : Frame free D u (s.scnSrst k) := by
  unfold State.scnSrst
  exact h.modScn

/-! ### LanternCmds -/

theorem scnFinal (h : Frame free D u s) {k : Fin 2} : Frame free D u (s.scnFinal k) := by
  unfold State.scnFinal
  dsimp only
  exact .ite (.ltnFinal (.ite h.ltnEarly h)) h

theorem execFrameStartFinal {t : Nat} {x : Fin 6} : FrameOut free D s (execFrameStartFinal t x s) := by
  refine step' fun hs => ?_
  split
  · exact hs.engFinal
  · split
    · exact hs.scnFinal
    · exact hs

theorem setpointFrame (h : Frame free D u s) {x : Fin 6} {resp : Nat} : Frame free D u (s.setpointFrame x resp) := by
  unfold State.setpointFrame
  extract_lets _ w1 w2 w3
  have h1 : Frame free D u w1 := .ite h h.modLtn
  have h2 : Frame free D u w2 := h1.ltnResponse
  have h3 : Frame free D u w3 := h2.modLtn.ltnSendNext
  exact .ite h3 (.ite h3.ltnArm (.ite h3.ltnMark h3))

theorem execSetpointFrame {t : Nat} {x : Fin 6} {resp : Nat} : FrameOut free D s (execSetpointFrame t x resp s) :=
  step' fun hs => .ite hs.setpointFrame hs

theorem execSetptDead {t : Nat} {x : Fin 6} : FrameOut free D s (execSetptDead t x s) :=
  step' fun hs => .ite hs.modLtn.raise.errHw hs

theorem execSetpointLoadRetry {t : Nat} {x : Fin 6} : FrameOut free D s (execSetpointLoadRetry t x s) :=
  step' fun hs => .ite hs.ltnMiss.ltnLoad hs

theorem execWindowEdge {t : Nat} {x : Fin 6} {on : Bool} : FrameOut free D s (execWindowEdge t x on s) :=
  step' fun hs => .ite (.ite hs.ltnWin hs) (.ite hs.ltnWin hs)

theorem execLselChange {t : Nat} {x : Fin 6} : FrameOut free D s (execLselChange t x s) := by
  refine step' fun hs => ?_
  dsimp only
  split
  · exact hs
  · exact .ite hs (.ite hs.put.bump.raise hs.put)

theorem photoSample (h : Frame free D u s) {x : Fin 6} {code : Nat} {echo : Bool} : Frame free D u (s.photoSample x code echo) := by
  unfold State.photoSample
  split
  rename_i _ w1 _ e1
  have h1 : Frame free D u w1 := .ofPair h.ltnSample e1
  extract_lets w2 w3
  have h2 : Frame free D u w2 := .ite h1.ltnDarkSample h1
  have h3 : Frame free D u w3 := by
    unfold w3
    refine .ite (.ite h2.modLtn h2) ?_
    split
    · exact h2.ltnInterior
    · exact h2
  exact .ite h3.trip h3

theorem execPdSample {t : Nat} {x : Fin 6} {code : Nat} {echo : Bool} : FrameOut free D s (execPdSample t x code echo s) :=
  step' fun hs => .ite hs.photoSample hs

theorem execRatioStale {t : Nat} {x : Fin 6} {lvl : Fin 4} : FrameOut free D s (execRatioStale t x lvl s) :=
  step' fun hs => .ite hs.put.raise hs

theorem execWinStuck {t : Nat} {x : Fin 6} {echo : Bool} : FrameOut free D s (execWinStuck t x echo s) :=
  step' fun hs => .ite hs.ltnEcho.trip hs.ltnEcho

theorem lossSeen (h : Frame free D u s) {x : Fin 6} {echo : Bool} {pd : Nat} : Frame free D u (s.lossSeen x echo pd) := by
  unfold State.lossSeen
  exact h.ltnEcho.modLtn

theorem execLinkLitCheck {t : Nat} {x : Fin 6} {echo : Bool} {pd : Nat} : FrameOut free D s (execLinkLitCheck t x echo pd s) := by
  refine step' fun hs => ?_
  dsimp only
  split
  · exact hs
  · exact .ite hs (.ite hs.lossSeen.trip hs.lossSeen)

theorem pinSeen (h : Frame free D u s) {x : Fin 6} {pin : Bool} {dur : Nat} : Frame free D u (s.pinSeen x pin dur) := by
  unfold State.pinSeen
  dsimp only
  exact h.modLtn

theorem execPinMismatch {t : Nat} {x : Fin 6} {pin : Bool} {dur : Nat} : FrameOut free D s (execPinMismatch t x pin dur s) :=
  step' fun hs => .ite hs.pinSeen.trip.modLtn hs.pinSeen

theorem ilkClear (h : Frame free D u s) {path : Path} {x : Fin 6} : Frame free D u (s.ilkClear path x) := by
  unfold State.ilkClear
  dsimp only
  exact .ite h.err (.ite h (.ite h.err h.ltnUnlatch))

theorem ilkTest (h : Frame free D u s) {path : Path} {x : Fin 6} : Frame free D u (s.ilkTest path x) := by
  unfold State.ilkTest
  dsimp only
  exact .ite h.err (.ite h.trip h.err)

theorem ltnWrite (h : Frame free D u s) {path : Path} {x : Fin 6} {off v : Nat} : Frame free D u (s.ltnWrite path x off v) := by
  unfold State.ltnWrite
  refine .ite ?_ h.ltnPlainWrite
  split
  · exact h.ilkClear
  · exact h.ilkTest
  · exact h.err

theorem ltnEnable (h : Frame free D u s) {x : Fin 6} {en : Bool} : Frame free D u (s.ltnEnable x en) := by
  unfold State.ltnEnable
  exact .ite h.ltnWantArm (.ite h.ltnOffPins.ltnTo h)

theorem fallbackTry (h : Frame free D u s) {n : Fin 4} : Frame free D u (s.fallbackTry n) := by
  unfold State.fallbackTry
  dsimp only
  exact .ite h.fallbackStart (.ite h.modLtn h)

theorem execFallbackWindow {t : Nat} {x : Fin 6} : FrameOut free D s (execFallbackWindow t x s) :=
  step' fun hs => .ite hs (.ite (.ite (.ite hs.ltnWin.ltnMark hs.ltnWin) hs) (.ite hs.ltnWin.modLtn hs))

theorem fallbackLoop (h : Frame free D u s) {x : Fin 6} : Frame free D u (s.fallbackLoop x) := by
  unfold State.fallbackLoop
  dsimp only
  split
  · exact h
  · exact .ite h.put (.ite h.put.modLtn.put.bump.raise h.put.modLtn.put)

theorem fallbackRefresh (h : Frame free D u s) {x : Fin 6} : Frame free D u (s.fallbackRefresh x) := by
  unfold State.fallbackRefresh
  dsimp only
  exact h.fallbackLoop.ltnDarkMean.modLtn.fallbackWrite

theorem execFallbackRefresh {t : Nat} {x : Fin 6} : FrameOut free D s (execFallbackRefresh t x s) :=
  step' fun hs => .ite hs.fallbackRefresh hs

theorem execFallbackDark {t : Nat} {x : Fin 6} : FrameOut free D s (execFallbackDark t x s) := by
  refine step' fun hs => ?_
  split
  · exact .ite hs.modLtn.raise hs
  · exact hs

/-! ### LinkCmds -/

theorem trainDead (h : Frame free D u s) {n : Fin 4} {detail : Nat} : Frame free D u (s.trainDead n detail) := by
  unfold State.trainDead
  exact h.trainFail.engLinkDead

theorem execTrainingStepTimeout {t : Nat} {n : Fin 4} : FrameOut free D s (execTrainingStepTimeout t n s) :=
  step' fun hs => .ite hs.trainDead hs

theorem execTrainingDone {t : Nat} {n : Fin 4} {ms : List RateMeas} : FrameOut free D s (execTrainingDone t n ms s) := by
  refine step' fun hs => ?_
  dsimp only
  refine .ite hs ?_
  split
  · exact hs.keepRates.linkRise.engLinkUp
  · exact hs.keepRates.trainDead

theorem sendMark (h : Frame free D u s) {n : Fin 4} : Frame free D u (s.sendMark n) := by
  unfold State.sendMark
  dsimp only
  exact .ite h h.linkTx.modSxl

theorem passStart (h : Frame free D u s) {n : Fin 4} {fine : Bool} {lat : Nat} : Frame free D u (s.passStart n fine lat) := by
  unfold State.passStart
  dsimp only
  exact h.linkSync.modSxl.sendMark

theorem visitRate (h : Frame free D u s) {n : Fin 4} {rate : Nat} : Frame free D u (s.visitRate n rate) := by
  unfold State.visitRate
  exact h.modSxl

theorem visitNext (h : Frame free D u s) {n : Fin 4} {from' : Nat} : Frame free D u (s.visitNext n from') := by
  unfold State.visitNext
  split
  · exact h.modSxl.visitRate
  · exact h.modSxl

theorem trainMark (h : Frame free D u s) {n : Fin 4} {sample : Int} {stamp : Nat} :
    Frame free D u (s.trainMark n sample stamp) := by
  unfold State.trainMark
  extract_lets w1 _ _
  have h1 : Frame free D u w1 := h.modSxl
  exact .ite (.ite h1.sendMark (.ite h1.passStart h1.trainDead)) (.ite h1.sendMark (.ite h1.modSxl.visitNext h1.trainDead))

theorem execMarkEcho {t : Nat} {n : Fin 4} {echo : Int} {stamp : Nat} : FrameOut free D s (execMarkEcho t n echo stamp s) :=
  step' fun hs => .ite hs.trainMark (.ite hs.modSxl hs)

theorem arrayCrc (h : Frame free D u s) {n : Fin 4} {k : Nat} : Frame free D u (s.arrayCrc n k) := by
  unfold State.arrayCrc
  dsimp only
  exact .ite h h.count.raise.modSxl

theorem engUnderruns (h : Frame free D u s) {n : Fin 4} {plane block k : Nat} :
    Frame free D u (s.engUnderruns n plane block k) := by
  induction k with
  | zero => exact h
  | succ k ih => exact ih.engUnderrun

theorem arrayErr (h : Frame free D u s) {n : Fin 4} {errInfo : Nat} : Frame free D u (s.arrayErr n errInfo) := by
  unfold State.arrayErr
  dsimp only
  exact .ite h.modSxl.engUnderruns h.modSxl.engUnderruns.modEng

theorem arrayLate (h : Frame free D u s) {n : Fin 4} {k : Nat} : Frame free D u (s.arrayLate n k) := by
  unfold State.arrayLate
  exact .ite h h.count.raise

theorem statRead (h : Frame free D u s) {n : Fin 4} {v : Nat} : Frame free D u (s.statRead n v) := by
  unfold State.statRead
  dsimp only
  exact .fallbackTry (.ite h.linkStatRead.engLinkLoss h.linkStatRead)

theorem sbReads (h : Frame free D u s) {n : Fin 4} {k addr : Nat} : Frame free D u (s.sbReads n k addr) := by
  unfold State.sbReads
  exact h.modSxl

theorem sbError (h : Frame free D u s) {n : Fin 4} : Frame free D u (s.sbError n) := by
  unfold State.sbError
  dsimp only
  exact h.bump.raise.modSxl

theorem sbStep1 (h : Frame free D u s) {n : Fin 4} : Frame free D u (s.sbStep1 n) := by
  unfold State.sbStep1
  exact .ite h.modSxl h

theorem sbTrain (h : Frame free D u s) {n : Fin 4} {op addr data : Nat} : Frame free D u (s.sbTrain n op addr data) := by
  unfold State.sbTrain
  extract_lets _ _ w1 _ w2
  have h1 : Frame free D u w1 := .ite h.modSxl h
  have h2 : Frame free D u w2 := h1.modSxl.sxlTo
  exact .ite h1.trainDead (.ite h1.modSxl (.ite (.ite h2.visitNext h2) (.ite h1.modSxl (.ite h1.passStart h1))))

theorem sbSend (h : Frame free D u s) {n : Fin 4} {op addr data : Nat} : Frame free D u (s.sbSend n op addr data) := by
  unfold State.sbSend
  exact h.modSxl

theorem sbWrite (h : Frame free D u s) {n : Fin 4} {addr data : Nat} : Frame free D u (s.sbWrite n addr data) := by
  unfold State.sbWrite
  dsimp only
  split
  · exact .modSxl (.ite h.visitRate h)
  · exact h.modSxl
  · exact h.modSxl
  · exact h.modSxl
  · exact h.modSxl
  · exact h

theorem sbDone (h : Frame free D u s) {n : Fin 4} {op addr data resp : Nat} : Frame free D u (s.sbDone n op addr data resp) := by
  unfold State.sbDone
  extract_lets _ w1 w2 w3 _ w4
  have h1 : Frame free D u w1 := h.modSxl
  have h2 : Frame free D u w2 := h1.put
  have h3 : Frame free D u w3 := .ite h2.linkPark h2
  have h4 : Frame free D u w4 := .ite (.ite h3.statRead (.ite h3.arrayCrc (.ite h3.arrayLate (.ite h3.arrayErr h3.sbRead)))) (.ite
    h3.sbWrite (.ite (.ite h3.linkPark h3.linkRelease) h3))
  exact .ite h3 h4.sbTrain

theorem execSidebandTransaction {t : Nat} {n : Fin 4} {op addr data resp : Nat} :
    FrameOut free D s (execSidebandTransaction t n op addr data resp s) :=
  step' fun hs => .ite hs (.ite hs.sbStep1.sbSend.sbDone hs.sbStep1.sbSend.sbError)

theorem execSidebandTimeout {t : Nat} {n : Fin 4} : FrameOut free D s (execSidebandTimeout t n s) :=
  step' fun hs => .ite hs.sbStep1.sbError hs

theorem execSbDead {t : Nat} {n : Fin 4} : FrameOut free D s (execSbDead t n s) :=
  step' fun hs => .ite hs (.ite hs.modSxl.trainDead (.ite hs.modSxl.engLinkLoss hs.modSxl.put.sxlTo.errHw))

theorem attnRead (h : Frame free D u s) {n : Fin 4} {linkStat crc late errInfo : Nat} :
    Frame free D u (s.attnRead n linkStat crc late errInfo) := by
  unfold State.attnRead
  dsimp only
  exact .arrayErr (.arrayLate (.arrayCrc (.ite h.sbReads h.sbReads.statRead)))

theorem execAttn {t : Nat} {n : Fin 4} {linkStat crc late errInfo : Nat} :
    FrameOut free D s (execAttn t n linkStat crc late errInfo s) :=
  step' fun hs => .ite hs.attnRead hs

theorem statPoll (h : Frame free D u s) {n : Fin 4} {linkStat : Nat} : Frame free D u (s.statPoll n linkStat) := by
  unfold State.statPoll
  exact h.sbReads.modSxl.statRead

theorem execLinkStatPoll {t : Nat} {n : Fin 4} {linkStat : Nat} : FrameOut free D s (execLinkStatPoll t n linkStat s) :=
  step' fun hs => .ite hs.statPoll hs

theorem execTempPoll {t : Nat} {n : Fin 4} {temp : Nat} : FrameOut free D s (execTempPoll t n temp s) :=
  step' fun hs => .ite hs.sbReads.sbRead.modSxl hs

theorem decideNow (h : Frame free D u s) {n : Fin 4} : Frame free D u (s.decideNow n) := by
  unfold State.decideNow
  refine .ite h ?_
  split
  · exact .ite h.linkChangeNow h
  · exact h

theorem eyeStep (h : Frame free D u s) {n : Fin 4} {g : Nat} : Frame free D u (s.eyeStep n g) := by
  unfold State.eyeStep
  dsimp only
  exact .ite h.modSxl (.ite h.modSxl.stepDown h.modSxl.stepDown)

theorem eyePoll (h : Frame free D u s) {n : Fin 4} {eyes : Vector Nat 16} : Frame free D u (s.eyePoll n eyes) := by
  unfold State.eyePoll
  dsimp only
  exact .ite (.decideNow (.foldl (fun _ hs => .ite hs.eyeStep hs) h.sbReads.modSxl.eyeShow.modSxl)) h.sbReads.modSxl.eyeShow.modSxl

theorem execEyePoll {t : Nat} {n : Fin 4} {eyes : Vector Nat 16} : FrameOut free D s (execEyePoll t n eyes s) :=
  step' fun hs => .ite hs hs.eyePoll

theorem crcWindow (h : Frame free D u s) {n : Fin 4} : Frame free D u (s.crcWindow n) := by
  unfold State.crcWindow
  dsimp only
  exact .ite h.modSxl.stepDown.decideNow h.modSxl

theorem execCrcWindow {t : Nat} {n : Fin 4} : FrameOut free D s (execCrcWindow t n s) :=
  step' fun hs => .ite hs hs.crcWindow

theorem groupProbe (h : Frame free D u s) {n : Fin 4} {pass : Nat} : Frame free D u (s.groupProbe n pass) := by
  unfold State.groupProbe
  dsimp only
  exact .decideNow (.foldl (fun _ hs => .ite (.ite hs.modSxl.modSxl.raise hs.modSxl) hs) h.modSxl)

theorem execGroupProbe {t : Nat} {n : Fin 4} {pass : Nat} : FrameOut free D s (execGroupProbe t n pass s) :=
  step' fun hs => .ite hs hs.groupProbe

theorem execRateSwitchTimeout {t : Nat} {n : Fin 4} : FrameOut free D s (execRateSwitchTimeout t n s) := by
  refine step' fun hs => ?_
  split
  · exact .ite hs.engLinkLoss hs
  · exact hs

theorem execLinkLoss {t : Nat} {n : Fin 4} {pll : Bool} {groups : Nat} : FrameOut free D s (execLinkLoss t n pll groups s) :=
  step' fun hs => .ite hs.engLinkLoss hs

theorem parkLoad (h : Frame free D u s) {path : Path} {n : Fin 4} {v : Nat} : Frame free D u (s.parkLoad path n v) := by
  unfold State.parkLoad
  dsimp only
  exact .ite h (.ite h.err (.ite h.err h.linkTxPackets.modSxl))

theorem sxlWrite (h : Frame free D u s) {path : Path} {n : Fin 4} {off v : Nat} : Frame free D u (s.sxlWrite path n off v) := by
  unfold State.sxlWrite
  exact .ite h.parkLoad h.plainWrite

theorem engWrite (h : Frame True D u s) {path : Path} {n : Fin 4} {off v : Nat} : Frame True D u (s.engWrite path n off v) := by
  unfold State.engWrite
  dsimp only
  exact .ite h.engCmdWrite (.ite h.plainWrite.modSxl h.plainWrite)

theorem sxlSrst (h : Frame free D u s) {n : Fin 4} : Frame free D u (s.sxlSrst n) := by
  unfold State.sxlSrst
  exact h.modSxl

theorem grdSrst (h : Frame free D u s) {n : Fin 4} : Frame free D u (s.grdSrst n) := by
  unfold State.grdSrst
  exact h.modGrd

/-! ### ScannerCmds -/

theorem execTurningPoint {t : Nat} {k : Fin 2} {peak lag : Nat} {locked : Bool} :
    FrameOut free D s (execTurningPoint t k peak lag locked s) :=
  step' fun hs => hs.turningPoint

theorem execTurningPointMissed {t : Nat} {k : Fin 2} : FrameOut free D s (execTurningPointMissed t k s) :=
  step' fun hs => .ite hs.modScn.ampLoss hs

theorem execSlowAxisCheck {t : Nat} {k : Fin 2} {err : Nat} : FrameOut free D s (execSlowAxisCheck t k err s) :=
  step' fun hs => .ite hs (.ite hs.modScn.ampLoss hs.modScn)

theorem execLmodUpdate {t : Nat} {k : Fin 2} : FrameOut free D s (execLmodUpdate t k s) :=
  step' fun hs => hs.lmodUpdate

theorem execScnUnderrun {t : Nat} {k : Fin 2} : FrameOut free D s (execScnUnderrun t k s) :=
  step' fun hs => hs.scnUnderrun

theorem execScnFrameStart {t : Nat} {k : Fin 2} : FrameOut True D s (execScnFrameStart t k s) :=
  step' fun hs => .ite hs.modScn.scnStart hs

theorem execSpinupSweepDone {t : Nat} {k : Fin 2} {freq : Nat} : FrameOut free D s (execSpinupSweepDone t k freq s) :=
  step' fun hs => .ite hs.modScn.freqTo hs

theorem execSpinupDone {t : Nat} {k : Fin 2} : FrameOut free D s (execSpinupDone t k s) := by
  refine step' fun hs => ?_
  dsimp only
  split
  · exact hs
  · exact .ite hs.scnUse.modScn.put.scnTo hs

theorem execSpinupFail {t : Nat} {k : Fin 2} : FrameOut free D s (execSpinupFail t k s) :=
  step' fun hs => .ite hs.scnTo.scnRampDown hs

theorem execDrivesStopped {t : Nat} {k : Fin 2} : FrameOut True D s (execDrivesStopped t k s) :=
  step' fun hs => .ite (.ite hs.scnDrivesZero.scnRelease hs.scnDrivesZero) hs

theorem execUnderrunPersist {t : Nat} {u' : Fin 6} : FrameOut free D s (execUnderrunPersist t u' s) := by
  refine step' fun hs => ?_
  dsimp only
  split
  · exact .ite hs.raise.engTo hs
  · split
    · exact .ite hs.ltnDark.raise.scnTo hs
    · exact hs

/-! ### Narpa -/

theorem npValues (h : Frame free D u s) {q : NpIx} {N C : Nat} : Frame free D u (s.npValues q N C).1 := by
  unfold State.npValues
  dsimp only
  exact .iteFst (.pair (.put (.modNp (.ite h.modNp h)))) (.pair (.put (.modNp (.ite h.modNp h))))

theorem npSend (h : Frame free D u s) {q : NpIx} {kind : NpKind} {nodes gap T : Nat} {strobe gov : Bool}
    {sl : List (Nat × List Nat)} : Frame free D u (s.npSend q kind nodes gap T strobe gov sl) := by
  unfold State.npSend
  dsimp only
  exact h.bump.put.modNp

theorem npEnumFrame (h : Frame free D u s) {q : NpIx} : Frame free D u (s.npEnumFrame q) := by
  unfold State.npEnumFrame
  dsimp only
  exact .ite h (.ite (.ite h.npSend.modNp h) (.ite (.ite h.npSend.modNp h) h))

theorem npCfgFrame (h : Frame free D u s) {q : NpIx} : Frame free D u (s.npCfgFrame q) := by
  unfold State.npCfgFrame
  dsimp only
  exact .ite h.npSend h

theorem npImageFrame (h : Frame free D u s) {q : NpIx} : Frame free D u (s.npImageFrame q) := by
  unfold State.npImageFrame
  dsimp only
  exact .ite h h.npValues.count.npSend.modNp

theorem npEnum (h : Frame free D u s) {q : NpIx} : Frame free D u (s.npEnum q) := by
  unfold State.npEnum
  exact h.modNp.npTo

theorem npOn (h : Frame free D u s) {q : NpIx} : Frame free D u (s.npOn q) := by
  unfold State.npOn
  dsimp only
  exact .ite h.put.modNp.npTo h.put.modNp.npTo.pbaRequest

theorem npProceed (h : Frame free D u s) {q : NpIx} : Frame free D u (s.npProceed q) := by
  unfold State.npProceed
  exact .ite h.put.npEnum h

theorem npOffNow (h : Frame True D u s) {q : NpIx} : Frame True D u (s.npOffNow q) := by
  unfold State.npOffNow
  dsimp only
  exact h.put.put.put.put.modNp.npTo.pbaRelease

theorem npApply (h : Frame True D u s) {q : NpIx} : Frame True D u (s.npApply q) := by
  unfold State.npApply
  dsimp only
  exact .ite (.ite (.ite h.releasePages.modNp.modNp h.releasePages.modNp.npOffNow) h.releasePages.modNp) (.ite
    h.releasePages.modNp.npOn (.ite h.releasePages.modNp.npEnum h.releasePages.modNp))

theorem npPoint (h : Frame True D u s) {q : NpIx} : Frame True D u (s.npPoint q) := by
  unfold State.npPoint
  extract_lets _ _ _ _ w1 w2 w3 _ _ w4
  have h1 : Frame True D u w1 := .ite h h.releasePages.setCommitRec
  have h2 : Frame True D u w2 := h1.npApply
  have h3 : Frame True D u w3 := .ite h2.bump h2
  have h4 : Frame True D u w4 := h3.setCommitRec
  exact .ite h (.ite h4.commitClose h4)

theorem npGo (h : Frame True D u s) {g : Fin 13} : Frame True D u (s.npGo g) := by
  unfold State.npGo
  extract_lets _ w1 _ _ _ w2 w3 w4
  have h1 : Frame True D u w1 := h.commitOpen
  have h2 : Frame True D u w2 := h1.setCommitRec
  have h3 : Frame True D u w3 := .ite h2.releasePages h2
  have h4 : Frame True D u w4 := .foldl (fun _ hs => hs.npApply) h3
  split
  · exact h1.commitReject
  · exact .ite h4.commitClose h4

theorem npSettle (h : Frame True D u s) {q : NpIx} : Frame True D u (s.npSettle q) := by
  unfold State.npSettle
  dsimp only
  exact .ite (.npEnum (.ite (.npOffNow (.ite h.npPoint h)) (.ite h.npPoint h))) (.ite (.npOffNow (.ite h.npPoint h)) (.ite
    h.npPoint h))

theorem npLatch (h : Frame True D u s) {q : NpIx} : Frame True D u (s.npLatch q) := by
  unfold State.npLatch
  dsimp only
  split
  · exact h
  · exact .ite h (.npSettle (.ite h.modNp.stampAt.npPoint h.modNp.stampAt))

theorem npSchedule (h : Frame free D u s) {q : NpIx} {L : Int} {entry : Option Nat} : Frame free D u (s.npSchedule q L entry) := by
  unfold State.npSchedule
  dsimp only
  exact h.modNp.put

theorem npWithdraw (h : Frame free D u s) {q : NpIx} : Frame free D u (s.npWithdraw q) := by
  unfold State.npWithdraw
  exact h.modNp.put

theorem npMark (h : Frame True D u s) {q : NpIx} {late : Bool} : Frame True D u (s.npMark q late) := by
  unfold State.npMark
  extract_lets _ _ _ _ w1 _ _ w2 w3 w4 _ _
  have h1 : Frame True D u w1 := h.npWithdraw
  have h2 : Frame True D u w2 := h1.modNp
  have h3 : Frame True D u w3 := h2.stampAt
  have h4 : Frame True D u w4 := .ite h3.bump.raise h3
  exact .ite h4.npPoint (.ite h4.setCommitRec h4)

theorem npRecords (h : Frame True D u s) {q : NpIx} : Frame True D u (s.npRecords q) := by
  unfold State.npRecords
  refine .ite (h.withFsram fun hm => ?_) h
  exact List.foldlRecOn (motive := fun m => Memory.wf m = true) _ _ hm fun _ hm _ _ => Memory.wf_setBytes _ _ hm

theorem npDiag (h : Frame free D u s) {q : NpIx} : Frame free D u (s.npDiag q) := by
  unfold State.npDiag
  dsimp only
  exact h.modNp

theorem npAge (h : Frame free D u s) {q : NpIx} {k : Nat} : Frame free D u (s.npAge q k) := by
  unfold State.npAge
  exact h.modNp

theorem npNodeErr (h : Frame free D u s) {q : NpIx} {f : Nat → RF} {k : Nat} : Frame free D u (s.npNodeErr q f k) := by
  unfold State.npNodeErr
  exact .ite h h.count.raise

theorem npCfgDone (h : Frame free D u s) {q : NpIx} {w : Option Nat} : Frame free D u (s.npCfgDone q w) := by
  unfold State.npCfgDone
  dsimp only
  exact h.put.put.raise

theorem npReturn (h : Frame True D u s) {q : NpIx} {kind : NpKind} {n unused : Nat} {ws : List Nat} {ok : Bool} :
    Frame True D u (s.npReturn q kind n unused ws ok) := by
  unfold State.npReturn
  extract_lets _ _ _ _ _ _ w2 w3 _ _ w4 w5 w6 w7
  have h2 : Frame True D u w2 := h.modNp
  have h3 : Frame True D u w3 := h2.put
  have h4 : Frame True D u w4 := h3.npNodeErr
  have h5 : Frame True D u w5 := .ite h4.bump.raise h4
  have h6 : Frame True D u w6 := .ite (.ite h5.npDiag h5) h.npAge.npNodeErr
  have h7 : Frame True D u w7 := h6.npRecords.npShowGroup
  exact .ite h7.npCfgDone h7

theorem npEnumDone (h : Frame free D u s) {q : NpIx} {found minch : Nat} {silent : Bool} :
    Frame free D u (s.npEnumDone q found minch silent) := by
  unfold State.npEnumDone
  dsimp only
  exact .ite h.put.put.raise.modNp.npTo h.put.put.raise.npTo.errHw

theorem npEnumReturn (h : Frame True D u s) {q : NpIx} {kind : NpKind} {n unused : Nat} {ws : List Nat} {ok : Bool} :
    Frame True D u (s.npEnumReturn q kind n unused ws ok) := by
  unfold State.npEnumReturn
  dsimp only
  exact .ite h (.ite (.ite h.npEnumDone h.put.modNp) (.ite h.npEnumDone h.modNp.put.npRecords.npEnumDone))

theorem npLost (h : Frame free D u s) {q : NpIx} {r : NpRet} : Frame free D u (s.npLost q r) := by
  unfold State.npLost
  dsimp only
  split
  · exact h.npAge.modNp
  · exact h.npAge.modNp.npCfgDone
  · exact .ite h.npAge.modNp.npEnumDone h.npAge.modNp

theorem npExpire (h : Frame True D u s) {q : NpIx} : Frame True D u (s.npExpire q) := by
  unfold State.npExpire
  dsimp only
  exact .ite h (.npRecords (.foldl (fun _ hs => hs.npLost) h.modNp))

theorem npCut (h : Frame free D u s) {q : NpIx} : Frame free D u (s.npCut q) := by
  unfold State.npCut
  dsimp only
  split
  · exact .ite h.modNp h
  · exact h

/-! ### Matrix -/

theorem mxTake (h : Frame free D u s) {q : MxIx} {v : (Nat → RF) → Nat} : Frame free D u (s.mxTake q v) := by
  unfold State.mxTake
  dsimp only
  exact h.modMx.mxHold

theorem mxShift (h : Frame free D u s) {q : MxIx} {v : (Nat → RF) → Nat} {row at' : Nat} {lost : Option Nat} :
    Frame free D u (s.mxShift q v row at' lost) := by
  unfold State.mxShift
  dsimp only
  exact h.modMx

theorem mxTransfer (h : Frame free D u s) {q : MxIx} : Frame free D u (s.mxTransfer q) := by
  unfold State.mxTransfer
  dsimp only
  exact h.mxTake.modMx

theorem mxOffNow (h : Frame True D u s) {q : MxIx} {st : Nat} : Frame True D u (s.mxOffNow q st) := by
  unfold State.mxOffNow
  dsimp only
  exact h.put.modMx.mxTo.pbaRelease.domRefresh

theorem mxOn (h : Frame free D u s) {q : MxIx} : Frame free D u (s.mxOn q) := by
  unfold State.mxOn
  dsimp only
  exact h.modMx.put.mxTo.pbaRequest

theorem mxProceed (h : Frame free D u s) {q : MxIx} : Frame free D u (s.mxProceed q) := by
  unfold State.mxProceed
  dsimp only
  exact .ite h.put.mxShowGroup h.put.modMx.mxTo

theorem mxSettle (h : Frame True D u s) {q : MxIx} : Frame True D u (s.mxSettle q) := by
  unfold State.mxSettle
  exact .ite h.mxOffNow h

theorem mxApply (h : Frame True D u s) {q : MxIx} : Frame True D u (s.mxApply q) := by
  unfold State.mxApply
  dsimp only
  exact .ite (.ite h.releasePages.mxHolds.modMx (.ite h.releasePages.mxHolds.modMx.modMx h.releasePages.mxHolds.modMx.mxOffNow))
    (.ite h.releasePages.mxHolds.modMx.mxOn h.releasePages.mxHolds.modMx)

theorem mxPoint (h : Frame True D u s) {q : MxIx} : Frame True D u (s.mxPoint q) := by
  unfold State.mxPoint
  dsimp only
  exact .ite h (.ite (.commitClose (.setCommitRec (.ite h.mxApply.bump h.mxApply))) (.setCommitRec (.ite h.mxApply.bump h.mxApply)))

theorem mxGoOnTick (h : Frame True D u s) {q : MxIx} : Frame True D u (s.mxGoOnTick q) := by
  unfold State.mxGoOnTick
  dsimp only
  exact .ite (.ite (.ite h.mxPoint.mxTransfer h.mxPoint) h) (.ite h.mxTake.mxShift h)

theorem mxGo (h : Frame True D u s) {g : Fin 3} : Frame True D u (s.mxGo g) := by
  unfold State.mxGo
  extract_lets _ w1 _ _ _ w2 w3 w4 w5
  have h1 : Frame True D u w1 := h.commitOpen
  have h2 : Frame True D u w2 := .foldl (fun _ hs => hs.modMx) h1
  have h3 : Frame True D u w3 := h2.setCommitRec
  have h4 : Frame True D u w4 := .foldl (fun _ hs => hs.mxApply) h3
  have h5 : Frame True D u w5 := .foldl (fun _ hs => hs.mxGoOnTick) h4
  split
  · exact h1.commitReject
  · exact .ite h5.commitClose h5

theorem mxXtalFail (h : Frame True D u s) {q : MxIx} : Frame True D u (s.mxXtalFail q) := by
  unfold State.mxXtalFail
  dsimp only
  exact .ite h.errHw.mxOffNow.mxPoint h

theorem mxFrame (h : Frame free D u s) {q : MxIx} {S : Nat} : Frame free D u (s.mxFrame q S) := by
  unfold State.mxFrame
  dsimp only
  exact .raise (.bump (.stampAt (.modMx (.ite h h.mxTake.mxShift))))

theorem mxLatch (h : Frame free D u s) {q : MxIx} : Frame free D u (s.mxLatch q) := by
  unfold State.mxLatch
  dsimp only
  exact .ite h.modMx.mxTake.mxShift h.modMx.mxShift

theorem mxRowEnd (h : Frame free D u s) {q : MxIx} : Frame free D u (s.mxRowEnd q) := by
  unfold State.mxRowEnd
  exact h.modMx

theorem mxPhase (h : Frame free D u s) {v : State} {q : MxIx} (hv : s.mxPhase q = some v) : Frame free D u v := by
  unfold State.mxPhase at hv
  split at hv
  · split at hv
    · cases hv
    · split at hv
      · cases hv
        exact h.mxLatch
      · cases hv
    · split at hv
      · cases hv
        exact h.mxRowEnd
      · cases hv
  · cases hv

theorem mxAdvance (h : Frame free D u s) {q : MxIx} {k : Nat} : Frame free D u (s.mxAdvance q k) := by
  induction k generalizing s with
  | zero => exact h
  | succ k ih =>
    unfold State.mxAdvance
    split
    · next hphase => exact ih (h.mxPhase hphase)
    · exact h

theorem mxNow (h : Frame free D u s) {q : MxIx} : Frame free D u (s.mxNow q) := by
  unfold State.mxNow
  exact h.mxAdvance

theorem execMxFrameStart {t : Nat} {q : MxIx} : FrameOut True D s (execMxFrameStart t q s) :=
  step' fun hs => .ite hs.mxNow (.ite (.ite hs.mxNow.modMx hs.mxNow.mxPoint) (.mxFrame (.ite hs.mxNow.modMx hs.mxNow.mxPoint)))

theorem execMxRowSlot {t : Nat} {q : MxIx} : FrameOut free D s (execMxRowSlot t q s) :=
  step' fun hs => hs.mxNow

theorem mxLose (h : Frame free D u s) {q : MxIx} {c : Nat} : Frame free D u (s.mxLose q c) := by
  unfold State.mxLose
  dsimp only
  exact h.modMx

theorem execMxUnderrun {t : Nat} {q : MxIx} {c : Fin 64} : FrameOut free D s (execMxUnderrun t q c s) :=
  step' fun hs => .ite hs.mxNow hs.mxNow.mxLose.bump.put.raise

theorem mxEdge (h : Frame True D u s) {q : MxIx} : Frame True D u (s.mxEdge q) := by
  unfold State.mxEdge
  extract_lets _ _ _ w1 w2 _ w3 w4 w5 w6 _ w7 _
  have h1 : Frame True D u w1 := by
    unfold w1
    split
    · exact h.put
    · exact h
  have h2 : Frame True D u w2 := h1.modMx
  have h3 : Frame True D u w3 := h2.modMx
  have h4 : Frame True D u w4 := h3.stamp.bump.raise
  have h5 : Frame True D u w5 := by
    unfold w5
    split
    · exact h2
    · exact .ite (.ite h4.bump.raise h4) (.ite h2.modMx h2)
  have h6 : Frame True D u w6 := .ite h5.modMx.mxTo.pbaRequest h5
  have h7 : Frame True D u w7 := h6.modMx.mxPoint
  exact .ite h6 (.ite h7 (.ite h7.mxTransfer h7))

theorem execTeEdge {t : Nat} {q : MxIx} {falling : Bool} : FrameOut True D s (execTeEdge t q falling s) :=
  step' fun hs => .ite hs.mxSettle hs.mxSettle.mxEdge

theorem execMxTransferComplete {t : Nat} {q : MxIx} : FrameOut True D s (execMxTransferComplete t q s) := by
  refine step' fun hs => ?_
  dsimp only
  split
  · exact hs.mxSettle
  · exact .ite hs hs.bump.modMx

theorem execTeTimeout {t : Nat} {q : MxIx} : FrameOut True D s (execTeTimeout t q s) :=
  step' fun hs => .ite hs hs.bump.raise.errHw.mxTo.pbaRelease.mxPoint

theorem mxCmd (h : Frame free D u s) {path : Nat} {q : MxIx} {v : Nat} : Frame free D u (s.mxCmd path q v) := by
  unfold State.mxCmd
  dsimp only
  exact .ite h.err (.ite h.modMx h.err)

theorem mxWrite (h : Frame free D u s) {path : Nat} {g : Fin 3} {off v : Nat} : Frame free D u (s.mxWrite path g off v) := by
  unfold State.mxWrite
  exact .foldl (fun _ hs => .ite hs.mxCmd hs) h

/-! ### Ims -/

theorem imsShow (h : Frame free D u s) : Frame free D u s.imsShow := by
  unfold State.imsShow
  dsimp only
  exact .foldl (fun _ hs => hs.put.put) h

theorem setSlot (h : Frame free D u s) {i : Fin 4} {m : MaskSlot} : Frame free D u (s.setSlot i m) := by
  unfold State.setSlot
  dsimp only
  exact h.withIms.imsShow

theorem supersede (h : Frame free D u s) {i : Fin 4} : Frame free D u (s.supersede i) := by
  unfold State.supersede
  dsimp only
  exact .ite h h.setSlot.bump.raise

theorem imsReject (h : Frame free D u s) {slot : Option (Fin 4)} {id : Option Nat} {cnt : RF} :
    Frame free D u (s.imsReject slot id cnt) := by
  unfold State.imsReject
  extract_lets w1 w2 _
  have h1 : Frame free D u w1 := h.bump.raise
  have h2 : Frame free D u w2 := by
    unfold w2
    split
    · exact h1.setSlot
    · exact h1
  split
  · exact h2
  · extract_lets _
    exact h2.withIms

theorem imsAlloc (h : Frame free D u s) : Frame free D u s.imsAlloc.1 := by
  unfold State.imsAlloc
  dsimp only
  split
  · exact h
  · split
    · exact h.supersede.pair
    · split
      · exact h.bump.pair
      · exact h

theorem imsComplete (h : Frame free D u s) {i : Fin 4} : Frame free D u (s.imsComplete i) := by
  unfold State.imsComplete
  dsimp only
  exact .ite h.bump.raise.setSlot.bump (.withIms (.setSlot (.foldl (fun _ hs => .ite hs.supersede hs) h.bump.raise)))

theorem imsStore (h : Frame True D u s) {i : Fin 4} {sizes : List Nat} : Frame True D u (s.imsStore i sizes) := by
  unfold State.imsStore
  refine .foldl (fun n hs => ?_) h
  exact (hs.tookFree.withDram (Memory.wf_setBytes _ _)).withFresh

theorem imsJoin (h : Frame True D u s) {slot : Option (Fin 4)} {m : MaskSlot} {idx : Nat} {tiles : List (Nat × List Nat)}
    {objs : List MaskObj} : Frame True D u (s.imsJoin slot m idx tiles objs) := by
  unfold State.imsJoin
  dsimp only
  split
  · split
    · exact h.count.pair
    · exact h.count.imsAlloc
  · refine .ite (.imsComplete (.imsStore (.setSlot ?_))) (.imsStore (.setSlot ?_))
    · split
      · exact h.count.pair
      · exact h.count.imsAlloc
    · split
      · exact h.count.pair
      · exact h.count.imsAlloc

theorem imsSegment (h : Frame True D u s) {b : List Nat} : Frame True D u (s.imsSegment b) := by
  unfold State.imsSegment
  dsimp only
  refine .ite h.imsReject (.ite h (.ite h.imsReject (.ite h.imsReject (.ite h.imsReject (.ite h.bump (.ite ?_ ?_))))))
  · split
    · exact h.imsReject
    · exact h.imsJoin
  · split
    · exact h.imsReject
    · exact .ite h.imsReject h.imsJoin

theorem imsEnable (h : Frame free D u s) {en : Bool} : Frame free D u (s.imsEnable en) := by
  unfold State.imsEnable
  dsimp only
  exact .ite h.setFlag.withIms (.ite (.foldl (fun _ hs => .ite hs.setSlot hs) h.setFlag) h.setFlag)

theorem imsCfgWrite (h : Frame free D u s) {path : Path} {v : Nat} : Frame free D u (s.imsCfgWrite path v) := by
  unfold State.imsCfgWrite
  dsimp only
  exact .ite h.err h.put.imsEnable

theorem imsBaseWrite (h : Frame free D u s) {path : Path} {v : Nat} : Frame free D u (s.imsBaseWrite path v) := by
  unfold State.imsBaseWrite
  exact .ite h.err h.plainWrite

theorem execAssemblyTimeout {t : Nat} {i : Fin 4} : FrameOut free D s (execAssemblyTimeout t i s) :=
  step' fun hs => .ite hs hs.setSlot.bump.raise

theorem execRejectRecordExpiry {t : Nat} : FrameOut free D s (execRejectRecordExpiry t s) :=
  step' fun hs => hs.withIms

/-! ### Comp -/

theorem compTo (h : Frame free D u s) {st : Nat} : Frame free D u (s.compTo st) := by
  unfold State.compTo
  exact .foldl (fun _ hs => hs.put) h

theorem modCmp (h : Frame free D u s) {f : Comp → Comp} : Frame free D u (s.modCmp f) := by
  unfold State.modCmp
  exact h.withCmp

theorem unifChange (h : Frame free D u s) {n : Fin 4} {old : Nat} : Frame free D u (s.unifChange n old) := by
  unfold State.unifChange
  dsimp only
  exact h.modCmp.put

theorem compApply (h : Frame free D u s) {late : Bool} : Frame free D u (s.compApply late) := by
  unfold State.compApply
  dsimp only
  exact .ite h.commitWhole (.foldl (fun _ hs => .ite hs hs.unifChange) (.ite h.commitWhole.withPlanAt.modCmp
    h.commitWhole.withPlanAt))

theorem compGo (h : Frame free D u s) : Frame free D u s.compGo := by
  unfold State.compGo
  dsimp only
  exact .ite h.commitOpen.compApply h.commitOpen

theorem compPoint (h : Frame free D u s) : Frame free D u s.compPoint := by
  unfold State.compPoint
  dsimp only
  exact .ite h (.ite h.setCommitRec h.compApply)

theorem compSetup (h : Frame free D u s) : Frame free D u s.compSetup := by
  unfold State.compSetup
  exact h.modCmp.compTo

theorem fadeStep (h : Frame free D u s) {n : Fin 4} : Frame free D u (s.fadeStep n) := by
  unfold State.fadeStep
  dsimp only
  exact h.modCmp.put

theorem staleFlag (h : Frame free D u s) {fl cnt : RF} {ev : Nat} {b : Bool} : Frame free D u (s.staleFlag fl cnt ev b) := by
  unfold State.staleFlag
  dsimp only
  exact .ite h.setFlag.bump.raise h.setFlag

theorem latchMask (h : Frame free D u s) : Frame free D u s.latchMask.1 := by
  unfold State.latchMask
  dsimp only
  split
  · exact h
  · exact h.setSlot.modCmp.pair

theorem compLatch (h : Frame free D u s) {r : CompRun} {tP : Nat} : Frame free D u (s.compLatch r tP).1 := by
  unfold State.compLatch
  dsimp only
  split
  · refine .pair (.staleFlag (.staleFlag ?_))
    split
    · exact h.latchMask.noteMask
    · exact h.latchMask
  · refine .pair (.ite (.raise (.bump (.put (.put (.put (.staleFlag (.staleFlag ?_))))))) (.put (.put (.put (.staleFlag (.staleFlag
      ?_))))))
    · split
      · exact h.latchMask.noteMask
      · exact h.latchMask
    · split
      · exact h.latchMask.noteMask
      · exact h.latchMask

theorem skipScns (h : Frame free D u s) {l : List (Fin 2)} : Frame free D u (s.skipScns l) := by
  unfold State.skipScns
  exact .foldl (fun _ hs => hs.bump.raise) h

theorem compStart (h : Frame free D u s) : Frame free D u s.compStart := by
  unfold State.compStart
  dsimp only
  exact .ite h.contentSwap.compPoint.compTo (.compTo (.modCmp (.foldl (fun _ hs => hs.fadeStep) (.compLatch (.ite
    h.contentSwap.compPoint.skipScns.setFlag.raise h.contentSwap.compPoint.skipScns.setFlag)))))

theorem putImage (h : Frame True D u s) {a : Nat} {px : List Nat} : Frame True D u (s.putImage a px) :=
  h.withFsram (Memory.wf_setBytes _ _)

theorem engDone (h : Frame True D u s) {r : CompRun} {n : Fin 4} {geom pred : Nat} {px : List Nat} :
    Frame True D u (s.engDone r n geom pred px).1 := by
  unfold State.engDone
  dsimp only
  exact h.putImage.put.engImage

theorem compEngine (h : Frame True D u s) {r : CompRun} {n : Fin 4} {geom pred : Nat} :
    Frame True D u (s.compEngine r n geom pred).1 := by
  unfold State.compEngine
  dsimp only
  refine .foldlFst (fun _ hs => ?_) h.engDone
  refine .iteFst hs ?_
  split
  · exact hs
  · exact hs.engDone

theorem compScanner (h : Frame True D u s) {r : CompRun} {k : Fin 2} {geom : Nat} : Frame True D u (s.compScanner r k geom).1 := by
  unfold State.compScanner
  dsimp only
  exact h.putImage.scnImage

theorem compRelease (h : Frame free D u s) {r : CompRun} : Frame free D u (s.compRelease r) := by
  unfold State.compRelease
  dsimp only
  split
  · exact .ite h.setSlot h
  · exact h

theorem compAbandon (h : Frame free D u s) : Frame free D u s.compAbandon := by
  unfold State.compAbandon
  refine .ite h ?_
  extract_lets _ w1 w2
  have h1 : Frame free D u w1 := .ite h.setCommitRec h
  have h2 : Frame free D u w2 := by
    unfold w2
    split
    · exact h1
    · extract_lets w3
      have h3 : Frame free D u w3 := by
        unfold w3
        refine .foldl (fun _ hs => ?_) h1
        split
        · exact .ite hs.engWithdraw hs
        · exact .ite hs.scnWithdraw hs
        · exact hs
      exact h3.compRelease
  exact h2.modCmp.compTo

theorem compEnable (h : Frame True D u s) {en : Bool} : Frame True D u (s.compEnable en) := by
  unfold State.compEnable
  dsimp only
  exact .ite (.ite h h.modCmp.compTo.pbaRequest) (.ite h (.ite h.compAbandon.modCmp.compTo.pbaRelease.compApply
    h.compAbandon.modCmp.compTo.pbaRelease))

theorem compProceed (h : Frame free D u s) : Frame free D u s.compProceed := by
  unfold State.compProceed
  exact .ite h h.modCmp

theorem compSrst (h : Frame True D u s) {i : Fin 8} : Frame True D u (s.compSrst i) := by
  unfold State.compSrst
  dsimp only
  exact .ite h.compEnable.modCmp (.ite h.compAbandon.withIms.imsShow h.compAbandon)

theorem motionPublish (h : Frame free D u s) : Frame free D u s.motionPublish := by
  unfold State.motionPublish
  dsimp only
  exact h.modCmp

theorem compWrite (h : Frame free D u s) {path : Path} {i : Fin 8} {off v : Nat} : Frame free D u (s.compWrite path i off v) := by
  unfold State.compWrite
  exact .ite h.plainWrite.motionPublish (.ite h.imsCfgWrite (.ite h.imsBaseWrite h.plainWrite))

theorem execSetupStart {t : Nat} : FrameOut free D s (execSetupStart t s) :=
  step' fun hs => .ite hs.compSetup hs

theorem execCompTrigTimeout {t : Nat} : FrameOut free D s (execCompTrigTimeout t s) :=
  step' fun hs => .ite hs.compSetup hs

theorem execCompositionStart {t : Nat} : FrameOut free D s (execCompositionStart t s) :=
  step' fun hs => .ite hs.compStart hs

theorem execEngBackBufferReady {t : Nat} : FrameOut True D s (execEngBackBufferReady t s) := by
  refine step' fun hs => ?_
  split
  · exact hs
  · split
    · split
      · refine .ite hs ?_
        split
        rename_i _ w2 _ e2
        have h2 : Frame True D s w2 := .ofPair hs.compEngine e2
        exact h2.modCmp
      · exact hs
    · split
      · split
        · refine .ite hs ?_
          split
          rename_i _ w2 _ e2
          have h2 : Frame True D s w2 := .ofPair hs.compScanner e2
          exact h2.modCmp
        · exact hs
      · exact hs

theorem execCompositionEnd {t : Nat} : FrameOut free D s (execCompositionEnd t s) := by
  refine step' fun hs => ?_
  dsimp only
  split
  · exact hs
  · exact .ite hs (.compTo (.modCmp (.raise (.compRelease (.ite (.raise (.bump (.ite hs.put.bump.bump.raise hs.put.bump))) (.ite
      hs.put.bump.bump.raise hs.put.bump))))))

/-! ### Therm -/

theorem modTherm (h : Frame free D u s) {f : Therm → Therm} : Frame free D u (s.modTherm f) := by
  unfold State.modTherm
  exact h.withTherm

theorem thermShow (h : Frame free D u s) : Frame free D u s.thermShow := by
  unfold State.thermShow
  dsimp only
  exact h.put.put.setFlag.put

theorem thermDram (h : Frame free D u s) {b : Bool} : Frame free D u (s.thermDram b) := by
  unfold State.thermDram
  dsimp only
  exact .ite h (.thermShow (.ite h.setFlag.raise h.setFlag))

theorem tsShow (h : Frame free D u s) {i : Fin 24} : Frame free D u (s.tsShow i) := by
  unfold State.tsShow
  dsimp only
  exact h.put

theorem tsShowAll (h : Frame free D u s) : Frame free D u s.tsShowAll := by
  unfold State.tsShowAll
  exact .foldl (fun _ hs => .ite hs.tsShow hs) h

theorem substNone (h : Frame free D u s) : Frame free D u s.substNone := by
  unfold State.substNone
  dsimp only
  exact .ite h.setFlag.raise.errHw h.setFlag

theorem tjUpdate (h : Frame free D u s) : Frame free D u s.tjUpdate := by
  unfold State.tjUpdate
  split
  · exact h
  · exact h.put.put.setFlag

theorem warnUpdate (h : Frame free D u s) : Frame free D u s.warnUpdate := by
  unfold State.warnUpdate
  dsimp only
  exact .ite (.ite h.put.raise h) (.ite h.put.bump.raise h)

theorem throtUp (h : Frame free D u s) : Frame free D u s.throtUp := by
  unfold State.throtUp
  exact .ite h h.modTherm.bump.raise

theorem throtDown (h : Frame free D u s) : Frame free D u s.throtDown := by
  unfold State.throtDown
  exact .ite h h.modTherm.raise

theorem throtUpdate (h : Frame free D u s) : Frame free D u s.throtUpdate := by
  unfold State.throtUpdate
  dsimp only
  exact .ite (.ite h.modTherm.modTherm.throtUp h.modTherm) (.ite h.modTherm h.modTherm)

theorem tsSample (h : Frame free D u s) {i : Fin 24} {r : Int} : Frame free D u (s.tsSample i r).1 := by
  unfold State.tsSample
  dsimp only
  split
  · exact .pair (.thermShow (.tsShowAll (.substNone (.tjUpdate (.ite h.modTherm.put.bump.raise.errHw h.modTherm)))))
  · exact .iteFst (.pair (.thermShow (.tsShowAll (.substNone (.tjUpdate (.ite h.modTherm.put.bump.raise.errHw h.modTherm))))))
      (.pair (.thermShow (.throtUpdate (.warnUpdate (.tsShowAll (.substNone (.tjUpdate (.ite h.modTherm.put.bump.raise.errHw
      h.modTherm))))))))

theorem xtShow (h : Frame free D u s) : Frame free D u s.xtShow := by
  unfold State.xtShow
  dsimp only
  exact .ite (.raise (.setFlag (.foldl (fun _ hs => .put (.modTherm (.ite hs hs.modTherm))) h))) (.setFlag (.foldl (fun _ hs =>
    .put (.modTherm (.ite hs hs.modTherm))) h))

theorem xtFail (h : Frame free D u s) {i : Fin 8} : Frame free D u (s.xtFail i) := by
  unfold State.xtFail
  exact h.put.bump.raise.errHw

theorem xtSample (h : Frame free D u s) {i : Fin 8} {r : Int} : Frame free D u (s.xtSample i r) := by
  unfold State.xtSample
  dsimp only
  exact .ite h (.xtShow (.ite h.modTherm.xtFail h.modTherm))

theorem revalidate (h : Frame free D u s) {src : Nat} : Frame free D u (s.revalidate src).1 := by
  unfold State.revalidate
  dsimp only
  refine .diteFst (fun _ => .iteFst h.put.substNone.tsShowAll.thermShow.pair h) (fun _ => ?_)
  split
  · exact h
  · exact .iteFst h.put.xtShow.pair h

theorem thermWrite (h : Frame free D u s) {path : Path} {off v : Nat} : Frame free D u (s.thermWrite path off v) := by
  unfold State.thermWrite
  dsimp only
  exact .ite (.ite h.err (.ite h.revalidate h.err)) (.ite h.plainWrite.modTherm.thermShow (.ite h.plainWrite.thermShow (.ite
    h.plainWrite.xtShow h.plainWrite)))

theorem execXtSample {t : Nat} {i : Fin 8} {r : Int} : FrameOut free D s (execXtSample t i r s) :=
  step' fun hs => hs.xtSample.pbaDue

theorem execThrotStepUp {t : Nat} : FrameOut free D s (execThrotStepUp t s) := by
  refine step' fun hs => ?_
  split
  · exact hs.pbaDue
  · exact .ite hs.pbaDue hs.modTherm.throtUp.thermShow.pbaDue

theorem execThrotStepDown {t : Nat} : FrameOut free D s (execThrotStepDown t s) := by
  refine step' fun hs => ?_
  dsimp only
  split
  · exact hs.pbaDue
  · exact .ite hs.pbaDue (.pbaDue (.ite hs.modTherm hs.modTherm.throtDown.thermShow))

/-! ### Dmc -/

theorem modDmc (h : Frame free D u s) {f : Dmc → Dmc} : Frame free D u (s.modDmc f) := by
  unfold State.modDmc
  exact h.withDmcs

theorem modChan (h : Frame free D u s) {c : Fin 8} {f : DmcChan → DmcChan} : Frame free D u (s.modChan c f) := by
  unfold State.modChan
  exact h.modDmc

theorem modRank (h : Frame free D u s) {c : Fin 8} {r : Fin 2} {f : DmcRank → DmcRank} : Frame free D u (s.modRank c r f) := by
  unfold State.modRank
  exact h.modChan

theorem faultDrop (h : Frame free D u s) {k : Nat} : Frame free D u (s.faultDrop k) := by
  unfold State.faultDrop
  exact .ite h h.count.raise

theorem dmcFlush (h : Frame free D u s) : Frame free D u s.dmcFlush := by
  unfold State.dmcFlush
  dsimp only
  exact h.modDmc.faultDrop

theorem dmcTo (h : Frame free D u s) {st : Nat} : Frame free D u (s.dmcTo st) := by
  unfold State.dmcTo
  dsimp only
  exact .ite h (.ite (.compAbandon (.dmcFlush (.raise (.foldl (fun _ hs => hs.put) h)))) (.raise (.foldl (fun _ hs => hs.put) h)))

theorem dmcStart (h : Frame free D u s) {slices : Bool} : Frame free D u (s.dmcStart slices) := by
  unfold State.dmcStart
  dsimp only
  exact h.modDmc

theorem bandRequest (h : Frame free D u s) : Frame free D u s.bandRequest := by
  unfold State.bandRequest
  exact h.thermDram

theorem dmcClear (h : Frame free D u s) : Frame free D u s.dmcClear := by
  unfold State.dmcClear
  exact h.modDmc.bandRequest

theorem dmcCmd (h : Frame True D u s) {path v : Nat} : Frame True D u (s.dmcCmd path v) := by
  unfold State.dmcCmd
  extract_lets _ _ _ w1
  have h1 : Frame True D u w1 := h.err
  split
  · exact .ite h.dmcTo.pbaRequest h1
  · exact .ite h1 (.ite h.err h.dmcTo.setDom)
  · exact .ite h1 h.setDom.dmcStart.dmcTo
  · exact .ite h.dmcTo.dmcClear.pbaRelease.domOff h1
  · exact h.err

theorem dmcProceed (h : Frame free D u s) : Frame free D u s.dmcProceed := by
  unfold State.dmcProceed
  exact .ite h.modDmc h

theorem dmcFault (h : Frame free D u s) : Frame free D u s.dmcFault := by
  unfold State.dmcFault
  dsimp only
  exact .ite h.modDmc.dmcTo.errHw h

theorem dmcSrst (h : Frame True D u s) : Frame True D u s.dmcSrst := by
  unfold State.dmcSrst
  exact .ite h.dmcTo.dmcClear.pbaRelease.domOff h.dmcClear

theorem dmcWrite (h : Frame True D u s) {path : Path} {i : Fin 4} {off v : Nat} : Frame True D u (s.dmcWrite path i off v) := by
  unfold State.dmcWrite
  dsimp only
  exact .ite (.ite h.dmcCmd (.ite (.ite h.err (.ite h.err (.ite h.err h.plainWrite))) (.ite h.err (.ite h.plainWrite.xtShow
    h.plainWrite)))) (.ite h.setReg h.plainWrite)

theorem wakeRanks (h : Frame free D u s) {pa len : Nat} : Frame free D u (s.wakeRanks pa len) := by
  unfold State.wakeRanks
  split
  · exact h
  · refine .foldl (fun _ hs => ?_) h
    split
    · exact hs.modRank
    · exact hs

theorem countBytes (h : Frame free D u s) {p : Fin 8} {write : Bool} {n : Nat} : Frame free D u (s.countBytes p write n) := by
  unfold State.countBytes
  dsimp only
  exact h.modDmc.count

theorem aperWrite (h : Frame True D u s) {path : Path} {a v : Nat} : Frame True D u (s.aperWrite path a v) := by
  unfold State.aperWrite
  exact (h.modDmc.withDram (Memory.wf_setLE _ _ _)).countBytes

theorem portRequest (h : Frame free D u s) {p : Fin 8} {write : Bool} {pa len : Nat} {data : List Byte} :
    Frame free D u (s.portRequest p write pa len data) := by
  unfold State.portRequest
  dsimp only
  exact .ite h (.ite (.ite h.faultDrop h.faultDrop.modDmc) h.modDmc.wakeRanks)

theorem latency (h : Frame free D u s) {p : Fin 8} {q : DmcReq} : Frame free D u (s.latency p q) := by
  unfold State.latency
  dsimp only
  exact .ite h.keepMax.bump.raise h.keepMax

theorem popPort (h : Frame free D u s) {p : Fin 8} : Frame free D u (s.popPort p) := by
  unfold State.popPort
  exact h.modDmc

theorem linkEcc (h : Frame free D u s) {c e : Nat} : Frame free D u (s.linkEcc c e) := by
  unfold State.linkEcc
  refine .ite h ?_
  split
  · exact h
  · exact h.bump.raise
  · exact h.bump.raise.errHw

theorem hammer (h : Frame free D u s) {c : Fin 8} {port r b row : Nat} : Frame free D u (s.hammer c port r b row) := by
  unfold State.hammer
  dsimp only
  exact .ite h.modChan h.modChan.modChan.mark.put.bump.raise

theorem activate (h : Frame free D u s) {c : Fin 8} {port r b row : Nat} : Frame free D u (s.activate c port r b row) := by
  unfold State.activate
  dsimp only
  exact .ite h (.ite (.hammer (.ite h.modChan h.modChan.hammer)) (.ite h.modChan h.modChan.hammer))

theorem serve (h : Frame free D u s) {c : Fin 8} {port pa len : Nat} : Frame free D u (s.serve c port pa len) := by
  unfold State.serve
  dsimp only
  refine .foldl (fun _ hs => ?_) h
  split
  · exact hs.activate.modRank
  · exact hs.activate

theorem readGrant (h : Frame free D u s) {c p : Fin 8} : Frame free D u (s.readGrant c p) := by
  unfold State.readGrant
  dsimp only
  exact .modChan (.modDmc (.foldl (fun _ hs => hs.serve) h))

theorem writeGrant (h : Frame free D u s) {c : Fin 8} {ecc : Nat} : Frame free D u (s.writeGrant c ecc) := by
  unfold State.writeGrant
  dsimp only
  exact .linkEcc (.modChan (.foldl (fun _ hs => hs.serve) h))

theorem refresh (h : Frame free D u s) {c : Fin 8} {r : Fin 2} {forced : Bool} : Frame free D u (s.refresh c r forced) := by
  unfold State.refresh
  dsimp only
  exact .ite h.modRank.modChan.bump.raise h.modRank.modChan

theorem retrain (h : Frame free D u s) {c : Fin 8} {drift : Int} : Frame free D u (s.retrain c drift) := by
  unfold State.retrain
  dsimp only
  exact .ite h.modChan.raise.errHw h.modChan.put

theorem grantBoundary (h : Frame free D u s) {c : Fin 8} {drift : Int} {ecc : Nat} :
    Frame free D u (s.grantBoundary c drift ecc) := by
  unfold State.grantBoundary
  extract_lets _ _ _ _ _ _
  split
  · exact h.refresh
  · refine .ite h.retrain ?_
    split
    · exact h.modChan
    · split
      · exact h.refresh
      · refine .ite h.retrain ?_
        split
        · exact h.readGrant
        · exact .ite h.writeGrant h

theorem mr4Read (h : Frame free D u s) {c : Fin 8} {r : Fin 2} {code band : Nat} {cool : Bool} :
    Frame free D u (s.mr4Read c r code band cool) := by
  unfold State.mr4Read
  dsimp only
  refine .ite (.bandRequest (.ite h.put.modRank.modChan.raise.raise h.put.modRank.modChan.raise)) (.ite h.put.modRank.modChan ?_)
  split
  · exact h.put.modRank.modChan
  · exact .ite (.bandRequest (.ite h.put.modRank.modChan.raise.raise h.put.modRank.modChan.raise)) h.put.modRank

theorem execTrainDone {t : Nat} {res : Vector ChanTrain 8} : FrameOut free D s (execTrainDone t res s) := by
  refine step' fun hs => ?_
  split
  · exact hs
  · extract_lets _ _ _ _ _ _ w2 w3 w4 w5 w6 w7 w8
    have h2 : Frame free D s w2 := .foldl (fun _ hs => hs.put) hs
    have h3 : Frame free D s w3 := h2.put
    have h4 : Frame free D s w4 := .foldl (fun _ hs => hs.put.put) h3
    have h5 : Frame free D s w5 := h4.modDmc
    have h6 : Frame free D s w6 := h5.put
    have h7 : Frame free D s w7 := h5.dmcTo.raise
    have h8 : Frame free D s w8 := .ite h7 h7.errInfo
    exact .ite h6.dmcStart.dmcTo.raise (.ite h8 h8.errInfo)

theorem execPhyPllLoss {t : Nat} : FrameOut free D s (execPhyPllLoss t s) :=
  step' fun hs => hs.dmcFault

theorem execPortRequest {t : Nat} {p : Fin 8} {write : Bool} {pa len : Nat} {data : List Byte} :
    FrameOut free D s (execPortRequest t p write pa len data s) :=
  step' fun hs => hs.portRequest

theorem enterWrite (h : Frame True D u s) {p : Fin 8} {q : DmcReq} {c : Fin 8} : Frame True D u (s.enterWrite p q c) := by
  unfold State.enterWrite
  exact .ite (h.popPort.withDram (Memory.wf_setBytes _ _)).modChan.bump (h.popPort.withDram (Memory.wf_setBytes _ _)).modChan

theorem execWriteQueueEntry {t : Nat} {p : Fin 8} : FrameOut True D s (execWriteQueueEntry t p s) := by
  refine step' fun hs => ?_
  split
  · exact hs
  · split
    · exact hs
    · exact .ite hs hs.enterWrite.latency.countBytes

theorem execRequestComplete {t : Nat} {p : Fin 8} {ecc : Fin 3} : FrameOut free D s (execRequestComplete t p ecc s) := by
  refine step' fun hs => ?_
  dsimp only
  split
  · exact hs
  · exact .ite hs hs.withFresh.popPort.modDmc.latency.countBytes.linkEcc

theorem execGrantBoundary {t : Nat} {c : Fin 8} {drift : Int} {ecc : Fin 3} :
    FrameOut free D s (execGrantBoundary t c drift ecc s) :=
  step' fun hs => .ite hs hs.grantBoundary

theorem execRefreshDue {t : Nat} {c : Fin 8} {r : Fin 2} : FrameOut free D s (execRefreshDue t c r s) :=
  step' fun hs => .ite hs hs.modRank

theorem execRetrainSlice {t : Nat} {c : Fin 8} : FrameOut free D s (execRetrainSlice t c s) :=
  step' fun hs => .ite hs hs.modChan

theorem execMr4Read {t : Nat} {c : Fin 8} {r : Fin 2} {code : Fin 256} {band : Fin 4} {cool : Bool} :
    FrameOut free D s (execMr4Read t c r code band cool s) :=
  step' fun hs => .ite hs hs.mr4Read

theorem execRhWindowEnd {t : Nat} : FrameOut free D s (execRhWindowEnd t s) :=
  step' fun hs => .ite hs hs.modDmc

theorem execPowerDownEntry {t : Nat} {c : Fin 8} {r : Fin 2} : FrameOut free D s (execPowerDownEntry t c r s) :=
  step' fun hs => .ite hs hs.modRank

/-! ### Cal -/

theorem modCalOf (h : Frame free D u s) {cls inst : Nat} {f : CalInst → CalInst} : Frame free D u (s.modCalOf cls inst f) := by
  unfold State.modCalOf
  split
  · exact h.modCal
  · exact h

theorem calState (h : Frame free D u s) : Frame free D u s.calState := by
  unfold State.calState
  exact h.put

theorem adcTrip (h : Frame free D u s) {x : Fin 6} : Frame free D u (s.adcTrip x) := by
  unfold State.adcTrip
  exact .ite h.trip h

theorem adcFail (h : Frame free D u s) {b : Fin 2} {j : Fin 4} : Frame free D u (s.adcFail b j) := by
  unfold State.adcFail
  extract_lets _ _ w1 w2 w3 w4
  have h1 : Frame free D u w1 := h.modBank
  have h2 : Frame free D u w2 := h1.raise.errHw
  have h3 : Frame free D u w3 := h2.put
  have h4 : Frame free D u w4 := h3.modBank
  refine .ite h ?_
  split
  · split
    · refine .ite ?_ ?_
      · split
        · exact h3.adcTrip
        · exact h3
      · split
        · exact h4.put
        · exact h4
    · exact h3
  · split
    · exact h2
    · exact .ite h2.adcTrip (.ite h2.modBank h2.adcReplace)

theorem lineFail (h : Frame free D u s) {x : Fin 6} {l : Fin 3} : Frame free D u (s.lineFail x l) := by
  unfold State.lineFail
  dsimp only
  exact .ite h h.modLines.put.raise.errHw

theorem refMeasured (h : Frame free D u s) {e : Int} : Frame free D u (s.refMeasured e) := by
  unfold State.refMeasured
  dsimp only
  exact .ite (.ite h.put.modCal (.xtShow (.foldl (fun _ hs => .ite hs hs.xtFail) h.put.modCal.modCal.raiseCond.errHw))) (.ite (.ite
    h.put.modCal h.put.modCal.dropCond) h.put)

theorem calDeliverNew (h : Frame free D u s) {cls inst : Nat} {vals : List Int} :
    Frame free D u (s.calDeliverNew cls inst vals) := by
  unfold State.calDeliverNew
  split
  · split
    · exact h
    · exact .ite h.lineFail h.modLines
  · split
    · exact h
    · extract_lets w1 _
      have h1 : Frame free D u w1 := h.modBank
      exact .ite h1.modBank h1
  · exact h
  · extract_lets _
    exact .ite h.modCal h.calApply

theorem calAccept (h : Frame free D u s) {cls inst : Nat} {vals : List Int} {m : CalMeas} :
    Frame free D u (s.calAccept cls inst vals m) := by
  unfold State.calAccept
  dsimp only
  exact .calDeliverNew (.modCalOf (.ite h.bump.put.raise h.bump.put))

theorem calDisagree (h : Frame free D u s) {cls inst : Nat} : Frame free D u (s.calDisagree cls inst) := by
  unfold State.calDisagree
  exact h.bump.modCalOf

theorem setCalPrev (h : Frame free D u s) {cls inst : Nat} {v : List Int} : Frame free D u (s.setCalPrev cls inst v) := by
  unfold State.setCalPrev
  refine .ite ?_ (.ite ?_ h.modCalOf)
  · split
    · exact h.modLines
    · exact h
  · split
    · exact h.modBank
    · exact h

theorem adcTurnOver (h : Frame free D u s) {cls inst : Nat} : Frame free D u (s.adcTurnOver cls inst) := by
  unfold State.adcTurnOver
  dsimp only
  refine .ite h ?_
  split
  · exact h
  · refine .ite h (.ite h.modBank ?_)
    split
    · exact h.modBank.put
    · exact h.modBank

theorem setCalSignals (h : Frame free D u s) {cls inst a b : Nat} : Frame free D u (s.setCalSignals cls inst a b) := by
  unfold State.setCalSignals
  refine .ite ?_ (.ite ?_ h)
  · split
    · exact h.modCal
    · exact h
  · split
    · exact h.modCal
    · exact h

theorem adcBegin (h : Frame free D u s) {b : Fin 2} {matched : Bool} : Frame free D u (s.adcBegin b matched).1 := by
  unfold State.adcBegin
  dsimp only
  split
  · exact h
  · split
    · exact h.modBank.modBank.pair
    · exact .iteFst h.modBank.modBank.pair (.pair (.ite h.modBank.modBank.adcFail h.modBank.modBank))

theorem calBegin (h : Frame free D u s) {cls inst : Nat} : Frame free D u (s.calBegin cls inst) := by
  unfold State.calBegin
  exact h.modCalOf.calState

theorem execCalMeasurementStart {t cls inst a b : Nat} {matched : Bool} :
    FrameOut free D s (execCalMeasurementStart t cls inst a b matched s) := by
  refine step' fun hs => ?_
  refine .ite ?_ hs
  extract_lets w2
  have h2 : Frame free D s w2 := hs.setCalSignals
  refine .ite (.ite ?_ h2.calBegin) h2.bump.modCalOf
  split
  · exact h2
  · split
    rename_i _ w3 _ e3
    have h3 : Frame free D s w3 := .ofPair h2.adcBegin e3
    exact .ite h3.calBegin h3.modCalOf

theorem calRunEnd (h : Frame free D u s) {status detail : Nat} : Frame free D u (s.calRunEnd status detail) := by
  unfold State.calRunEnd
  split
  · exact h
  · extract_lets w1 w2 w3 w4 w5 w6
    have h1 : Frame free D u w1 := h.modCal
    have h2 : Frame free D u w2 := h1.modCalOf.adcTurnOver
    have h3 : Frame free D u w3 := h2.put
    have h4 : Frame free D u w4 := .ite h3 h3.errHw
    have h5 : Frame free D u w5 := .ite h4.bump.raise h4
    have h6 : Frame free D u w6 := h5.raise.calState
    exact h6.mbxFinishAll

theorem calCmd (h : Frame free D u s) {path : Path} {v : Nat} : Frame free D u (s.calCmd path v).1 := by
  unfold State.calCmd
  dsimp only
  refine .iteFst h (.iteFst h.err.pair (.iteFst h.err.pair (.iteFst h.err.pair (.iteFst (.pair (.calBegin (.ite ?_ h.modCal.put)))
    h.modCal.put.calRunEnd.pair))))
  split
  · exact .ite h.modCal.put.adcBegin h.modCal.put
  · exact h.modCal.put

theorem execCalTimeout {t : Nat} : FrameOut free D s (execCalTimeout t s) := by
  refine step' fun hs => ?_
  split
  · exact .ite hs.calRunEnd hs
  · exact hs

theorem calScreen (h : Frame free D u s) {cls inst : Nat} {m : CalMeas} : Frame free D u (s.calScreen cls inst m).1 := by
  unfold State.calScreen
  dsimp only
  split
  · split
    · exact h
    · exact .iteFst h (.pair (.ite h.lineFail h))
  · split
    · exact h
    · exact .iteFst h.adcFail.pair h
  · exact h.refMeasured.pair
  · exact h

theorem execCalMeasurementDone {t cls inst : Nat} {m : CalMeas} : FrameOut free D s (execCalMeasurementDone t cls inst m s) := by
  refine step' fun hs => ?_
  dsimp only
  refine .ite hs ?_
  split
  · refine .ite hs.setCalSignals (.ite hs.setCalSignals.calRunEnd (.ite hs.setCalSignals.calScreen.calRunEnd ?_))
    split
    · exact hs.setCalSignals.calScreen.setCalPrev.modCal
    · exact .ite hs.setCalSignals.calScreen.setCalPrev.calAccept.calRunEnd
        hs.setCalSignals.calScreen.setCalPrev.calDisagree.calRunEnd
  · refine .ite hs.setCalSignals.modCalOf.bump.adcTurnOver.calState (.ite hs.setCalSignals.modCalOf.calScreen.adcTurnOver.calState
      (.calState (.adcTurnOver ?_)))
    split
    · exact hs.setCalSignals.modCalOf.calScreen.setCalPrev
    · exact .ite hs.setCalSignals.modCalOf.calScreen.setCalPrev.calAccept hs.setCalSignals.modCalOf.calScreen.setCalPrev.calDisagree

theorem execCalUnstable {t cls inst : Nat} : FrameOut free D s (execCalUnstable t cls inst s) :=
  step' fun hs => .ite hs.modCalOf.put.raise.errHw hs

theorem calEnable (h : Frame free D u s) {en : Bool} : Frame free D u (s.calEnable en) := by
  unfold State.calEnable
  dsimp only
  exact .ite h (.calState (.foldl (fun _ hs => .ite hs hs.adcTurnOver) h.modCal))

theorem calWrite (h : Frame free D u s) {path : Path} {off v : Nat} : Frame free D u (s.calWrite path off v) := by
  unfold State.calWrite
  exact .ite h.calCmd h.plainWrite

/-! ### Nvm -/

theorem modNvm (h : Frame free D u s) {f : Nvm → Nvm} : Frame free D u (s.modNvm f) := by
  unfold State.modNvm
  exact h.withNvm

theorem nvmEnd (h : Frame free D u s) {status detail : Nat} : Frame free D u (s.nvmEnd status detail) := by
  unfold State.nvmEnd
  dsimp only
  exact .raise (.ite h.modNvm.put.put h.modNvm.put.put.errHw)

theorem nvmBegin (h : Frame free D u s) {r : NvmRun} : Frame free D u (s.nvmBegin r) := by
  unfold State.nvmBegin
  dsimp only
  refine .ite ?_ h.modNvm.put.put
  split
  · exact h.modNvm.put.put.put
  · exact h.modNvm.put.put

theorem nvmCmd (h : Frame free D u s) {path : Path} {v : Nat} : Frame free D u (s.nvmCmd path v) := by
  unfold State.nvmCmd
  dsimp only
  exact .ite h (.ite h.err h.nvmBegin)

theorem storeEnd (h : Frame free D u s) {status : Nat} : Frame free D u (s.storeEnd status) := by
  unfold State.storeEnd
  exact h.modNvm.mbxStored

theorem nvmUndo (h : Frame free D u s) {r : NvmRun} : Frame free D u (s.nvmUndo r) := by
  unfold State.nvmUndo
  dsimp only
  exact .ite h.modNvm.put.put.put.put.storeEnd h.modNvm.put.put.put.put.err

theorem nvmStop (h : Frame free D u s) {pfw : Bool} : Frame free D u (s.nvmStop pfw) := by
  unfold State.nvmStop
  dsimp only
  split
  · exact .ite h.put (.ite h.put.nvmUndo h.put.modNvm)
  · exact h.put

theorem storeNext (h : Frame free D u s) {fuel : Nat} : Frame free D u (s.storeNext fuel) := by
  induction fuel generalizing s with
  | zero => exact h
  | succ fuel ih =>
    unfold State.storeNext
    split
    · exact h
    · split
      · split
        · exact h
        · exact h.modNvm.nvmBegin
        · exact h.storeEnd
      · split
        · exact h.storeEnd
        · exact ih h.modNvm

theorem storeStep (h : Frame free D u s) {status : Nat} : Frame free D u (s.storeStep status) := by
  unfold State.storeStep
  split
  · exact h
  · exact .ite h.storeEnd (.ite h.storeEnd (.ite h.storeEnd h.storeNext))

theorem storeBegin (h : Frame free D u s) {todo : List (Nat × List Byte)} : Frame free D u (s.storeBegin todo) := by
  unfold State.storeBegin
  exact h.modNvm.storeNext

theorem nvmSpoil (h : Frame True D u s) {a : Nat} : Frame True D u (s.nvmSpoil a) := by
  unfold State.nvmSpoil
  exact .foldl (fun _ hs => (hs.withNvmMem (Memory.wf_setLE _ _ _)).tookFree) h

theorem granuleNext (h : Frame free D u s) {r : NvmRun} : Frame free D u (s.granuleNext r) := by
  unfold State.granuleNext
  dsimp only
  exact .ite (.ite h.modNvm.put.raise.nvmEnd.storeStep h.modNvm.put.raise.nvmEnd.storeNext) (.ite (.ite
    h.modNvm.put.bump.raise.nvmEnd.storeStep h.modNvm.put.bump.raise.nvmEnd.storeNext) (.ite (.ite h.modNvm.put.nvmEnd.storeStep
    h.modNvm.put.nvmEnd.storeNext) h.modNvm.put))

theorem execNvmGranuleDone {t : Nat} {res : Fin 3} : FrameOut True D s (execNvmGranuleDone t res s) := by
  refine step' fun hs => ?_
  dsimp only
  split
  · exact hs
  · refine .ite (.ite (.granuleNext ?_) (.ite hs.modNvm (.ite hs.nvmSpoil.nvmEnd.storeStep hs.nvmSpoil.nvmEnd.storeNext)))
      (.granuleNext (.ite (.raise (.bump ?_)) ?_))
    · have hstored {w a b} (hw : Frame True D s w) : Frame True D s (({ w with nvmMem := memSetBytes w.nvmMem a b } : State).bump
          .nvm NVM_PROG_CNT) := (hw.withNvmMem (Memory.wf_setBytes _ _)).bump
      split
      · exact .ite (.ite (.put (.ite (hstored hs).raise (hstored hs))) (.ite (hstored hs).raise (hstored hs))) (hstored hs)
      · exact hstored hs
    all_goals exact .ite (.foldl (fun _ hs => hs.put.tookFree) hs) (.foldl (fun _ hs => hs.put) hs)

theorem execNvmScan {t : Nat} : FrameOut free D s (execNvmScan t s) :=
  step' fun hs => .ite hs.modNvm hs

theorem execScanDone {t : Nat} : FrameOut free D s (execScanDone t s) :=
  step' fun hs => .ite hs (.ite hs.put.put.put.modNvm.put.raise.errInfo.put hs.put.put.put.modNvm.put.raise)

theorem nvmWrite (h : Frame free D u s) {path : Path} {off v : Nat} : Frame free D u (s.nvmWrite path off v) := by
  unfold State.nvmWrite
  exact .ite h.nvmCmd (.ite h.err h.plainWrite)

/-! ### Time -/

theorem timeSyncOrFree (h : Frame free D u s) : Frame free D u s.timeSyncOrFree := by
  unfold State.timeSyncOrFree
  dsimp only
  exact .ite h.put h.put.put

theorem servoUpdate (h : Frame free D u s) : Frame free D u s.servoUpdate := by
  unfold State.servoUpdate
  dsimp only
  exact .ite h (.ite (.raise (.ite h.withClock.put.put h.withClock.put)) h.withClock)

theorem holdDiscard (h : Frame free D u s) : Frame free D u s.holdDiscard := by
  unfold State.holdDiscard
  exact h.bump

theorem timeIncrWrite (h : Frame free D u s) {v : Nat} : Frame free D u (s.timeIncrWrite v) := by
  unfold State.timeIncrWrite
  dsimp only
  exact .ite h.holdDiscard.servoUpdate (.servoUpdate (.ite h.withClock.put.put h.withClock.put.put.bump.raise))

theorem timeExtWrite (h : Frame free D u s) {v : Nat} : Frame free D u (s.timeExtWrite v) := by
  unfold State.timeExtWrite
  exact .ite h.holdDiscard h.put

theorem timeAdjWrite (h : Frame free D u s) {path : Path} {v : Nat} : Frame free D u (s.timeAdjWrite path v) := by
  unfold State.timeAdjWrite
  dsimp only
  split
  · exact .ite h.err h.withClock
  · exact .ite h.err h.withClock
  · exact h.err

theorem timeSlewWrite (h : Frame free D u s) {path : Path} {v : Nat} : Frame free D u (s.timeSlewWrite path v) := by
  unfold State.timeSlewWrite
  dsimp only
  exact .ite h.holdDiscard (.ite h.err h.withClock.put)

theorem pdelayWrite (h : Frame free D u s) {p v : Nat} : Frame free D u (s.pdelayWrite p v) := by
  unfold State.pdelayWrite
  dsimp only
  exact .ite (.ite (.ite (.put (.withClock (.raise (.bump (.put (.ite h.put h.put.withClock)))))) (.put (.put (.withClock (.raise
    (.bump (.put (.ite h.put h.put.withClock)))))))) (.raise (.bump (.put (.ite h.put h.put.withClock))))) (.ite h.put
    h.put.withClock)

theorem freerun (h : Frame free D u s) : Frame free D u s.freerun := by
  unfold State.freerun
  dsimp only
  split
  · exact h
  · exact .ite h (.raise (.ite h.withClock.put.bump.put h.withClock.put.bump))

theorem holdoffEnd (h : Frame free D u s) : Frame free D u s.holdoffEnd := by
  unfold State.holdoffEnd
  dsimp only
  split
  · exact h
  · exact .ite h h.withClock.timeSyncOrFree.raise

theorem latchNow (h : Frame free D u s) {path : Path} : Frame free D u (s.latchNow path) := by
  unfold State.latchNow
  dsimp only
  exact h.withClock

theorem txqPush (h : Frame free D u s) {p : Fin 4} {e : Vector Word 4} : Frame free D u (s.txqPush p e) := by
  unfold State.txqPush
  dsimp only
  exact .ite h.mark.bump.raise (.ite h.withClock.put.raise h.withClock.put)

theorem txqPop (h : Frame free D u s) {p : Fin 4} : Frame free D u (s.txqPop p) := by
  unfold State.txqPop
  dsimp only
  split
  · exact h
  · exact h.withClock.put

theorem txqPushWrite (h : Frame free D u s) {path : Path} {p : Fin 4} {w : Nat} {v : Word} :
    Frame free D u (s.txqPushWrite path p w v) := by
  unfold State.txqPushWrite
  dsimp only
  exact .ite h.err (.dite (fun _ => h.withClock) (fun _ => h.txqPush))

theorem timeSrst (h : Frame free D u s) : Frame free D u s.timeSrst := by
  unfold State.timeSrst
  dsimp only
  exact .timeSyncOrFree (.foldl (fun _ hs => hs.put) h.withClock.put.put)

theorem timeWrite (h : Frame free D u s) {path : Path} {off v : Nat} : Frame free D u (s.timeWrite path off v) := by
  unfold State.timeWrite
  refine .ite h.timeIncrWrite (.ite h.timeExtWrite (.ite h.timeAdjWrite (.ite h.timeSlewWrite (.ite h.pdelayWrite (.ite ?_
    h.plainWrite)))))
  split
  · exact h
  · exact h.txqPushWrite

/-! ### Net -/

theorem modEth (h : Frame free D u s) {n : Fin 4} {f : EthPort → EthPort} : Frame free D u (s.modEth n f) := by
  unfold State.modEth
  exact h.withEth

theorem modCan (h : Frame free D u s) {n : Fin 4} {f : CanPort → CanPort} : Frame free D u (s.modCan n f) := by
  unfold State.modCan
  exact h.withCan

theorem msecShow (h : Frame free D u s) {n : Fin 4} : Frame free D u (s.msecShow n) := by
  unfold State.msecShow
  exact h.put

theorem msecCheck (h : Frame free D u s) {n : Fin 4} {f : EthRx} : Frame free D u (s.msecCheck n f).1 := by
  unfold State.msecCheck
  dsimp only
  split
  · exact h
  · split
    · exact h
    · exact .iteFst h h.modEth.pair

theorem msecSend (h : Frame free D u s) {n : Fin 4} : Frame free D u (s.msecSend n).1 := by
  unfold State.msecSend
  dsimp only
  split
  · exact h
  · exact .iteFst h (.pair (.modEth (.ite h.raise h)))

theorem msecInstall (h : Frame free D u s) {path : Path} {n : Fin 4} {v : Nat} : Frame free D u (s.msecInstall path n v) := by
  unfold State.msecInstall
  dsimp only
  exact .ite h (.ite h.err h.modEth.msecShow)

theorem setDramWord (h : Frame True D u s) {a v : Nat} : Frame True D u (s.setDramWord a v) :=
  h.withDram (Memory.wf_setLE _ _ _)

theorem ringPut (h : Frame True D u s) {v : State} {p : Page} {base ctl tail : RF} {data : List Byte} {words : List (Nat × Nat)}
    (hv : s.ringPut p base ctl tail data words = some v) : Frame True D u v := by
  unfold State.ringPut at hv
  obtain ⟨-, hv⟩ := Option.ite_none_left_eq_some.mp hv
  rw [← Option.some.inj hv]
  exact put (.foldl (fun _ hs => hs.setDramWord) (h.withDram (Memory.wf_setBytes _ _)))

theorem ethRing (h : Frame True D u s) {n : Fin 4} {b : List Byte} {verified : Bool} : Frame True D u (s.ethRing n b verified) := by
  unfold State.ethRing
  refine .ite h.faultDrop.bump ?_
  dsimp only
  split
  · exact h.bump.raise
  · next hput => exact (h.ringPut hput).raise

theorem ethClassify (h : Frame True D u s) {n : Fin 4} {b : List Byte} {verified tag : Bool} :
    Frame True D u (s.ethClassify n b verified tag) := by
  unfold State.ethClassify
  extract_lets _ _ w1 _ _
  have h1 : Frame True D u w1 := h.bump
  refine .ite h ?_
  split
  · exact h1.ethRing
  · extract_lets _ _
    exact .ite h1.bump (.ite h1.modEth (.ite (.ite h1.bump h1.modEth) h1.ethRing))

theorem execEthFrameRx {t : Nat} {n : Fin 4} {f : EthRx} : FrameOut True D s (execEthFrameRx t n f s) :=
  step' fun hs => .ite hs (.ite hs.bump (.ite hs.bump (.ite (.ite (.ite hs.msecCheck.ethClassify hs.msecCheck.bump.raise) (.ite
    hs.bump.raise hs.ethClassify)) hs.ethClassify)))

theorem execLinkChange {t : Nat} {n : Fin 4} {up : Bool} : FrameOut free D s (execLinkChange t n up s) :=
  step' fun hs => .ite hs (.raise (.ite hs.put.put hs.put.put.bump))

theorem txFetch (h : Frame free D u s) {n : Fin 4} {fuel : Nat} : Frame free D u (s.txFetch n fuel) := by
  induction fuel generalizing s with
  | zero => exact h
  | succ fuel ih =>
    unfold State.txFetch
    exact .ite h (ih h.modEth)

theorem txDoorbell (h : Frame free D u s) {n : Fin 4} : Frame free D u (s.txDoorbell n) := by
  unfold State.txDoorbell
  exact .ite (.ite h.txFetch h.faultDrop) h

theorem txHeadMove (h : Frame free D u s) {n : Fin 4} {fuel : Nat} : Frame free D u (s.txHeadMove n fuel) := by
  induction fuel generalizing s with
  | zero => exact h
  | succ fuel ih =>
    unfold State.txHeadMove
    exact .ite (ih h.modEth.put) h

theorem ptpStamp (h : Frame free D u s) {n : Fin 4} {b : List Byte} : Frame free D u (s.ptpStamp n b) := by
  unfold State.ptpStamp
  dsimp only
  exact .ite h.txqPush h

theorem txLine (h : Frame free D u s) {n : Fin 4} {len : Nat} {last : List Byte} : Frame free D u (s.txLine n len last) := by
  unfold State.txLine
  dsimp only
  exact h.modEth

theorem execEthFrameTx {t : Nat} {n : Fin 4} {icp : Bool} : FrameOut free D s (execEthFrameTx t n icp s) := by
  refine step' fun hs => ?_
  extract_lets _ _ w2
  have h2 : Frame free D s w2 := .ite hs.txFetch hs
  refine .ite hs (.ite ?_ ?_)
  · split
    · exact hs
    · extract_lets w3
      have h3 : Frame free D s w3 := hs.modEth.icpSent
      split
      rename_i _ w4 _ e4
      have h4 : Frame free D s w4 := .ofPair (.iteFst h3.msecSend h3) e4
      exact .ite h4.txLine.raise h4
  · split
    · exact h2
    · split
      · exact h2
      · extract_lets _ w3
        have h3 : Frame free D s w3 := h2.modEth
        split
        rename_i _ w4 _ e4
        have h4 : Frame free D s w4 := .ofPair (.iteFst h3.msecSend h3) e4
        extract_lets w5
        have h5 : Frame free D s w5 := .ite h4.txLine.ptpStamp h4
        exact h5.txHeadMove.raise

theorem authenticate (h : Frame free D u s) {usage : Nat} {n : Fin 4} {f : NetPkt} :
    Frame free D u (s.authenticate usage n f).1 := by
  unfold State.authenticate
  dsimp only
  refine .iteFst h (.iteFst h ?_)
  split
  · exact h
  · exact .iteFst h h.withSec.pair

theorem imsTake (h : Frame True D u s) {n : Fin 4} : Frame True D u (s.imsTake n) := by
  unfold State.imsTake
  split
  · exact h
  · extract_lets _ w1 _
    have h1 : Frame True D u w1 := h.modEth
    refine .ite h1 ?_
    split
    rename_i _ w2 _ e2
    have h2 : Frame True D u w2 := .ofPair h1.authenticate e2
    split
    · exact h2.bump.raise
    · exact h2.bump.raise
    · exact .ite h2.imsSegment h2

theorem imsLower (h : Frame True D u s) {n : Fin 4} {f : NetPkt} : Frame True D u (s.imsLower n f) := by
  unfold State.imsLower
  exact .foldl (fun _ hs => .ite hs.imsTake hs) h

theorem execImsPacket {t : Nat} {n : Fin 4} : FrameOut True D s (execImsPacket t n s) := by
  refine step' fun hs => ?_
  dsimp only
  split
  · exact hs
  · exact .ite hs.imsLower hs.imsLower.imsTake

theorem liveWrite (h : Frame free D u s) {path : Path} {p : Page} {off v lo w : Nat} :
    Frame free D u (s.liveWrite path p off v lo w) := by
  unfold State.liveWrite
  exact .ite h.err h.plainWrite

theorem ethWrite (h : Frame free D u s) {path : Path} {n : Fin 4} {off v : Nat} : Frame free D u (s.ethWrite path n off v) := by
  unfold State.ethWrite
  extract_lets _ _
  refine .ite (.ite h.plainWrite.msecShow (.ite h.err (.ite h.liveWrite h.plainWrite.msecShow))) (.ite h.liveWrite (.ite
    h.liveWrite (.ite h.plainWrite.txDoorbell (.ite (.ite h.err h.plainWrite) (.ite h.msecInstall (.ite ?_ h.plainWrite))))))
  split
  · exact h.modEth
  · exact h

theorem canTo (h : Frame free D u s) {n : Fin 4} {st : Nat} : Frame free D u (s.canTo n st) := by
  unfold State.canTo
  exact .ite h h.put.raise

theorem canPut (h : Frame True D u s) {v : State} {n : Fin 4} {f : CanFrame} (hv : s.canPut n f = some v) : Frame True D u v :=
  h.ringPut hv

theorem execCanFrameRx {t : Nat} {n : Fin 4} {f : CanFrame} : FrameOut True D s (execCanFrameRx t n f s) := by
  refine step' fun hs => ?_
  dsimp only
  refine .ite hs (.ite hs.bump (.ite hs.faultDrop.bump ?_))
  split
  · exact hs.bump.raise
  · next hput => exact (hs.canPut hput).put.bump.raise

theorem execCanFrameTx {t : Nat} {n : Fin 4} : FrameOut free D s (execCanFrameTx t n s) :=
  step' fun hs => .ite hs (.ite hs.faultDrop hs.modCan.put.put.bump.raise)

theorem execBusOff {t : Nat} {n : Fin 4} : FrameOut free D s (execBusOff t n s) :=
  step' fun hs => .ite hs hs.canTo.put.modCan.bump.raise

theorem execBusOffRecoveryDone {t : Nat} {n : Fin 4} : FrameOut free D s (execBusOffRecoveryDone t n s) :=
  step' fun hs => .ite hs.put.put.modCan.canTo hs

theorem canCmd (h : Frame free D u s) {path : Path} {n : Fin 4} {v : Nat} : Frame free D u (s.canCmd path n v) := by
  unfold State.canCmd
  dsimp only
  exact .ite h.err (.ite h.err h.modCan)

theorem canWrite (h : Frame free D u s) {path : Path} {n : Fin 4} {off v : Nat} : Frame free D u (s.canWrite path n off v) := by
  unfold State.canWrite
  dsimp only
  exact .ite h.canCmd (.ite h.liveWrite (.ite h.liveWrite h.plainWrite))

/-! ### StorSec -/

theorem modStor (h : Frame free D u s) {f : Stor → Stor} : Frame free D u (s.modStor f) := by
  unfold State.modStor
  exact h.withStor

theorem storTo (h : Frame free D u s) {st : Nat} : Frame free D u (s.storTo st) := by
  unfold State.storTo
  exact .ite h h.put.put.raise

theorem storCmd (h : Frame free D u s) {path : Path} {v : Nat} : Frame free D u (s.storCmd path v) := by
  unfold State.storCmd
  dsimp only
  split
  · exact .ite h.modStor.storTo h.err
  · exact .ite h.modStor.storTo h.err
  · exact h.err

theorem execStorInitDone {t : Nat} {i : StorInit} : FrameOut free D s (execStorInitDone t i s) := by
  refine step' fun hs => ?_
  dsimp only
  refine .ite hs (.ite hs.storTo.errHw ?_)
  split
  · exact hs.put.put.storTo.storTo.errHw
  · exact hs.put.put.storTo.put.put.put.put.modStor.storTo

theorem execStorLinkDrop {t : Nat} : FrameOut free D s (execStorLinkDrop t s) :=
  step' fun hs => .ite hs (.ite hs.modStor.bump.storTo hs.modStor.storTo.errHw)

theorem storDoorbell (h : Frame free D u s) {tail : Nat} : Frame free D u (s.storDoorbell tail) := by
  unfold State.storDoorbell
  dsimp only
  exact .ite h h.modStor.count

theorem execCqPosted {t index : Nat} {error : Bool} : FrameOut free D s (execCqPosted t index error s) :=
  step' fun hs => .ite (.raise (.ite hs.modStor.bump hs.modStor)) hs

theorem execNvmeTimeout {t index : Nat} : FrameOut free D s (execNvmeTimeout t index s) := by
  refine step' fun hs => ?_
  dsimp only
  split
  · exact hs
  · exact .ite hs (.ite hs.modStor.bump.raise hs.modStor.bump.raise.modStor.errHw.storTo)

theorem storWrite (h : Frame free D u s) {path : Path} {off v : Nat} : Frame free D u (s.storWrite path off v) := by
  unfold State.storWrite
  exact .ite h.storCmd (.ite (.ite h.err h.plainWrite) (.ite h.plainWrite.storDoorbell h.plainWrite))

theorem modKey (h : Frame free D u s) {i : Fin 16} {f : KeySlot → KeySlot} : Frame free D u (s.modKey i f) := by
  unfold State.modKey
  dsimp only
  exact h.withSec

theorem keyApply (h : Frame free D u s) {op : Nat} {i : Fin 16} : Frame free D u (s.keyApply op i) := by
  unfold State.keyApply
  dsimp only
  split
  · exact .modKey (.ite h h.modKey)
  · exact .modKey (.ite h h.modKey)
  · exact .modKey (.ite h h.modKey)
  · exact .modKey (.ite h h.modKey)

theorem keyCtl (h : Frame free D u s) {path : Path} {v : Nat} : Frame free D u (s.keyCtl path v) := by
  unfold State.keyCtl
  dsimp only
  refine .ite h.err (.ite h (.raise (.ite ?_ h.put.err)))
  split
  · exact h.put.keyApply
  · exact h.put

theorem svnCmd (h : Frame free D u s) {path : Path} {v : Nat} : Frame free D u (s.svnCmd path v) := by
  unfold State.svnCmd
  dsimp only
  exact .ite h (.ite h.err h.withSec.put)

theorem secWrite (h : Frame free D u s) {path : Path} {off v : Nat} : Frame free D u (s.secWrite path off v) := by
  unfold State.secWrite
  dsimp only
  refine .ite h.keyCtl (.ite h.svnCmd (.ite (.ite h.withSec h) (.ite ?_ h.plainWrite)))
  split
  · exact h.withSec
  · exact h

theorem extLoad (h : Frame True D u s) {i : BootImg} : Frame True D u (s.extLoad i) := by
  unfold State.extLoad
  exact .ite (h.withTcm (Memory.wf_setBytes _ _)).put h.put.raise

theorem mbxRecover (h : Frame free D u s) : Frame free D u s.mbxRecover := by
  unfold State.mbxRecover
  dsimp only
  refine .foldl (fun _ hs => ?_) h.withMbxRec
  refine .ite hs.icpReplyFor ?_
  split
  · exact hs
  · exact hs.modSlot.mbxPost

theorem runtimeStart (h : Frame True D u s) {i : BootImg} {slot : Nat} : Frame True D u (s.runtimeStart i slot) := by
  unfold State.runtimeStart
  exact mbxRecover (withMpSec (h.withTcm (Memory.wf_setBytes (imgBody i) 0x100000)).put.put.put.put)

theorem sigCount (h : Frame free D u s) {i : BootImg} : Frame free D u (s.sigCount i) := by
  unfold State.sigCount
  exact .ite h.bump h

theorem execBoot {t : Nat} {a b ext : BootImg} : FrameOut True D s (execBoot t a b ext s) :=
  step' fun hs => .ite hs (.ite hs.sigCount.runtimeStart.extLoad (.ite hs.sigCount.sigCount.runtimeStart.extLoad
    hs.sigCount.sigCount.withSec.put.put.raise))

theorem recoveryCheck (h : Frame True D u s) {key sig : Bool} : Frame True D u (s.recoveryCheck key sig) := by
  unfold State.recoveryCheck
  dsimp only
  exact .ite h (.ite h.withSec.sigCount.runtimeStart h.withSec.sigCount.errHw)

/-! ### Power -/

theorem proceed (h : Frame free D u s) {id port : Nat} : Frame free D u (s.proceed id port) := by
  unfold State.proceed
  refine .ite ?_ (.ite ?_ (.ite h.dmcProceed (.ite h.compProceed (.ite ?_ (.ite ?_ h)))))
  · split
    · exact h.engProceed
    · exact h
  · split
    · exact h.scnProceed
    · exact h
  · split
    · exact h.npProceed
    · exact h
  · split
    · exact h.mxProceed
    · exact h

theorem proceedAll (h : Frame free D u s) : Frame free D u s.proceedAll := by
  unfold State.proceedAll
  dsimp only
  exact .foldl (fun _ hs => .ite hs.withPba.proceed hs) h

theorem fwFree (h : Frame free D u s) : Frame free D u s.fwFree := by
  unfold State.fwFree
  dsimp only
  exact .foldl (fun _ hs => hs.withPba.bump.keepMax.put.raise.pbaEvaluate) h

theorem domSwitchOn (h : Frame free D u s) {d : Nat} : Frame free D u (s.domSwitchOn d) := by
  unfold State.domSwitchOn
  dsimp only
  exact .proceedAll (.fwFree (.ite h.setDom.put h.setDom))

theorem execDomainOn {t : Nat} {d : Fin 26} : FrameOut free D s (execDomainOn t d s) :=
  step' fun hs => .ite hs.domSwitchOn hs

theorem execPbaGrant {t : Nat} : FrameOut free D s (execPbaGrant t s) := by
  refine step' fun hs => ?_
  refine .ite hs.pbaDue ?_
  split
  · exact hs.pbaDue
  · exact hs.pbaGrant.proceedAll.pbaDue

theorem execPbaEvaluation {t : Nat} : FrameOut free D s (execPbaEvaluation t s) :=
  step' fun hs => .ite hs hs.withPba.pbaDue

theorem execWaitLong {t : Nat} : FrameOut free D s (execWaitLong t s) :=
  step' fun hs => .ite hs.withPba.raise hs

theorem fwRequests (h : Frame free D u s) : Frame free D u s.fwRequests := by
  unfold State.fwRequests
  exact .foldl (fun _ hs => .ite hs.pbaRequest hs) h

theorem pdReqWrite (h : Frame True D u s) {v : Nat} : Frame True D u (s.pdReqWrite v) := by
  unfold State.pdReqWrite
  dsimp only
  exact .pbaShow (.fwRequests (.domRefresh (.foldl (fun _ hs => .ite hs.pbaRelease hs) h.put)))

theorem netRequest (h : Frame True D u s) : Frame True D u s.netRequest := by
  unfold State.netRequest
  exact .ite h.pbaRequest h.pbaRelease

theorem storRequest (h : Frame True D u s) : Frame True D u s.storRequest := by
  unfold State.storRequest
  exact .ite h.pbaRequest h.pbaRelease

/-! ### Basecamp -/

theorem modBc (h : Frame free D u s) {f : Bc → Bc} : Frame free D u (s.modBc f) := by
  unfold State.modBc
  exact h.withBc

theorem pstateTo (h : Frame free D u s) {st : Nat} : Frame free D u (s.pstateTo st) := by
  unfold State.pstateTo
  dsimp only
  exact .ite h (.mbxFinishAll (.ite h.put.raise.modBc h.put.raise))

theorem keeperPorts (h : Frame free D u s) : Frame free D u s.keeperPorts := by
  unfold State.keeperPorts
  dsimp only
  refine .foldl (fun _ hs => ?_) h
  split
  · exact .ite (.ite hs hs.npTo) hs
  · exact hs

theorem coldReset (h : Frame True D u s) : Frame True D u s.coldReset := by
  unfold State.coldReset
  refine keeperPorts (put (put (put ?_)))
  refine ⟨fun hu => ?_, h.pending, h.pkg, h.now, .inl trivial⟩
  have hs := (State.canonical_iff s).mp (h.canonical hu)
  exact (State.canonical_iff _).mpr ⟨cellsWf_filter resetAt (fun c => keepCell c.1) hs.regs, rfl,
    cellsWf_filter resetAt (fun c => c.1 / 0x1000 == 0x40001) hs.held,
    cellsWf_filter (fun _ => 0) (fun c => c.1 == Page.base .therm + THERM_SHUT_NS.off) hs.stampSec, rfl, rfl, rfl, hs.nvmMem,
      hs.store⟩

theorem vbatLost (h : Frame True D u s) : Frame True D u s.vbatLost := by
  refine ⟨fun hu => ?_, h.pending, h.pkg, h.now, .inl trivial⟩
  have hs := (State.canonical_iff s).mp (h.canonical hu)
  exact (State.canonical_iff _).mpr ⟨rfl, rfl, rfl, rfl, rfl, rfl, rfl, hs.nvmMem, rfl⟩

theorem wdogStart (h : Frame free D u s) {at' : Nat} : Frame free D u (s.wdogStart at') := by
  unfold State.wdogStart
  exact h.modBc.put

theorem mpRelease (h : Frame free D u s) : Frame free D u s.mpRelease := by
  unfold State.mpRelease
  exact .ite h.domSwitchOn.wdogStart h

theorem bootReports (h : Frame free D u s) : Frame free D u s.bootReports := by
  unfold State.bootReports
  extract_lets w1 w2 _ w3 w4 w5
  have h1 : Frame free D u w1 := .foldl (fun _ hs => hs.errHw.raise) h
  have h2 : Frame free D u w2 := h1.modBc
  have h3 : Frame free D u w3 := h2.withTherm
  have h4 : Frame free D u w4 := h3.raise.errHw
  have h5 : Frame free D u w5 := .foldl (fun _ hs => .ite hs.put.errHw hs) h4
  exact .ite h2 (.foldl (fun _ hs => .ite hs.put.errHw hs) h5)

theorem nocOn (h : Frame True D u s) : Frame True D u s.nocOn := by
  unfold State.nocOn
  dsimp only
  exact .mpRelease (.bootReports (.fwRequests (.domRefresh (.withMpKept (.ite h.setDom.setDom.domSwitchOn.put
    h.setDom.setDom.domSwitchOn)))))

theorem keeperWake (h : Frame free D u s) : Frame free D u s.keeperWake := by
  unfold State.keeperWake
  dsimp only
  exact h.withKeeperKept.put

theorem stepDone (h : Frame True D u s) : Frame True D u s.stepDone := by
  unfold State.stepDone
  extract_lets _ w1 w2 w3 w4
  have h1 : Frame True D u w1 := h.modBc
  have h2 : Frame True D u w2 := h1.put
  have h3 : Frame True D u w3 := .foldl (fun _ hs => hs.put) h2
  have h4 : Frame True D u w4 := .ite h3.modBc (.ite h3.nocOn h3)
  exact .ite h4.pstateTo h4.modBc

theorem stepBegin (h : Frame True D u s) : Frame True D u s.stepBegin := by
  unfold State.stepBegin
  dsimp only
  exact .ite h (.ite h.put.modBc.stepDone h.put.modBc)

theorem goUp (h : Frame True D u s) {cause : Nat} : Frame True D u (s.goUp cause) := by
  unfold State.goUp
  dsimp only
  exact h.put.put.modBc.pstateTo.keeperWake.stepBegin

theorem wakeGo (h : Frame True D u s) : Frame True D u s.wakeGo := by
  unfold State.wakeGo
  exact .ite h (.ite h.modBc h.goUp)

theorem wakeRecord (h : Frame True D u s) {src : Nat} : Frame True D u (s.wakeRecord src) := by
  unfold State.wakeRecord
  dsimp only
  exact .ite h.mark.bump.raise.modBc.modBc h.mark.bump.raise.modBc.wakeGo

theorem enterBivouac (h : Frame True D u s) : Frame True D u s.enterBivouac := by
  unfold State.enterBivouac
  dsimp only
  exact .ite (.wakeGo (.modBc (.foldl (fun _ hs => .ite hs.modBc hs) h.pstateTo.modBc))) (.foldl (fun _ hs => .ite hs.modBc hs)
    h.pstateTo.modBc)

theorem dmcHalt (h : Frame True D u s) : Frame True D u s.dmcHalt := by
  unfold State.dmcHalt
  exact .ite h h.dmcTo.dmcClear.pbaRelease.domOff

theorem downDone (h : Frame True D u s) : Frame True D u s.downDone := by
  unfold State.downDone
  dsimp only
  exact .ite h.modBc.put.enterBivouac h.modBc.put

theorem downLower (h : Frame True D u s) : Frame True D u s.downLower := by
  unfold State.downLower
  dsimp only
  split
  · exact h.downDone
  · exact .modBc (.ite (.modBc (.put (.put (.ite (.coldReset (.ite h.dmcHalt h)) (.ite h.dmcHalt h))))) (.put (.ite (.coldReset
      (.ite h.dmcHalt h)) (.ite h.dmcHalt h))))

theorem cutLight (h : Frame free D u s) : Frame free D u s.cutLight := by
  unfold State.cutLight
  dsimp only
  exact .foldl (fun _ hs => hs.modMx) (.foldl (fun _ hs => hs.ltnOffPins) h)

theorem holdUp (h : Frame free D u s) : Frame free D u s.holdUp := by
  unfold State.holdUp
  dsimp only
  exact .put (.modBc (.ite h.cutLight.nvmStop h.cutLight))

theorem supplyLoss (h : Frame free D u s) {detail : Nat} : Frame free D u (s.supplyLoss detail) := by
  unfold State.supplyLoss
  dsimp only
  exact .ite h h.holdUp.modBc.put.bump

theorem thermShut (h : Frame free D u s) {sensor : Nat} {value : Int} : Frame free D u (s.thermShut sensor value) := by
  unfold State.thermShut
  dsimp only
  exact .ite h (.ite h.put.stamp.bump.withTherm.modBc.put.modBc.pstateTo h.put.stamp.bump.withTherm.modBc.put.holdUp.modBc)

theorem lockout (h : Frame free D u s) : Frame free D u s.lockout := by
  unfold State.lockout
  exact h.modBc.put.pstateTo

theorem extHalt (h : Frame free D u s) : Frame free D u s.extHalt := by
  unfold State.extHalt
  exact h.put

theorem mpExpiry (h : Frame free D u s) {cause : Nat} : Frame free D u (s.mpExpiry cause) := by
  unfold State.mpExpiry
  extract_lets _ _ _ w1 w2 w3 w4 w5 _ w6 _ w7 w8
  have h1 : Frame free D u w1 := h.withMpKept
  have h2 : Frame free D u w2 := h1.put.put.extHalt
  have h3 : Frame free D u w3 := .foldl (fun _ hs => hs.engWdogSafe) h2
  have h4 : Frame free D u w4 := .ite (.foldl (fun _ hs => hs.scnWdogSafe) h3) h2
  have h5 : Frame free D u w5 := h4.put.raise
  have h6 : Frame free D u w6 := h5.withMpKept
  have h7 : Frame free D u w7 := h4.withMpKept
  have h8 : Frame free D u w8 := h7.put.raise
  exact .ite h6.setDom.put.put h8.put.wdogStart

theorem wdogExpire (h : Frame free D u s) : Frame free D u s.wdogExpire := by
  unfold State.wdogExpire
  exact h.bump.raise.mpExpiry

theorem wdogService (h : Frame free D u s) : Frame free D u s.wdogService := by
  unfold State.wdogService
  dsimp only
  exact .ite h (.ite h.wdogExpire (.modBc (.ite h.bump h)))

theorem wdogKick (h : Frame free D u s) {path : Path} {v : Nat} : Frame free D u (s.wdogKick path v) := by
  unfold State.wdogKick
  dsimp only
  refine .ite h.err (.ite h.modBc ?_)
  split
  · exact .ite h.modBc.wdogService h.modBc
  · exact h.modBc

theorem runtimeUp (h : Frame free D u s) : Frame free D u s.runtimeUp := by
  unfold State.runtimeUp
  dsimp only
  refine .setFlag (.foldl (fun _ hs => ?_) h.withMpKept.put)
  refine .ite hs.modSlot.mbxPost ?_
  split
  · exact hs.modSlot.mbxFinish
  · exact hs

theorem xtalHits (h : Frame True D u s) {again : Bool} : Frame True D u (s.xtalHits again) := by
  unfold State.xtalHits
  dsimp only
  exact .dmcFault (.foldl (fun _ hs => hs.npCut) (.foldl (fun _ hs => hs.mxXtalFail) (.foldl (fun _ hs => .ite hs hs.scnXtalFail)
    (.foldl (fun _ hs => .ite hs hs.engXtalFail) h))))

theorem xtalFailed (h : Frame True D u s) : Frame True D u s.xtalFailed := by
  unfold State.xtalFailed
  dsimp only
  exact h.put.modBc.put.xtalHits

theorem goDown (h : Frame True D u s) : Frame True D u s.goDown := by
  unfold State.goDown
  dsimp only
  exact .downLower (.withPba (.foldl (fun _ hs => .ite hs.domOff hs) h.pstateTo.cutLight))

theorem pwrGo (h : Frame True D u s) {target : Nat} : Frame True D u (s.pwrGo target) := by
  unfold State.pwrGo
  split
  · exact h.pstateTo
  · exact h.domRefresh.pstateTo
  · exact h.goDown

theorem pwrCmd (h : Frame True D u s) {path : Path} {v : Nat} : Frame True D u (s.pwrCmd path v) := by
  unfold State.pwrCmd
  dsimp only
  exact .ite h.err (.ite h (.ite h.err (.ite h.pwrGo h.err)))

theorem rstWrite (h : Frame True D u s) {path : Path} {v : Nat} : Frame True D u (s.rstWrite path v) := by
  unfold State.rstWrite
  exact .ite h.err (.ite h.coldReset.goUp h)

theorem bcWrite (h : Frame True D u s) {path : Path} {off v : Nat} : Frame True D u (s.bcWrite path off v) := by
  unfold State.bcWrite
  dsimp only
  exact .ite h.pwrCmd (.ite h.wdogKick (.ite h.rstWrite (.ite h.put (.ite h.pdReqWrite (.ite h.plainWrite.domRefresh (.ite
    h.plainWrite.put h.plainWrite))))))

/-- An act at an instant, at a voltage. -/
theorem vbatStep {t x : Nat} {f : State → State} (hf : ∀ {w}, Frame free D s w → Frame free D s (f w)) :
    FrameOut free D s (s.vbatStep t x f) := by
  unfold State.vbatStep
  split
  · rintro v ⟨⟩
  · exact step' hf

theorem execBasecampPowerOn {t v : Nat} : FrameOut True D s (execBasecampPowerOn t v s) :=
  vbatStep fun hs => .ite hs hs.put.put.enterBivouac

theorem execSeqStepComplete {t : Nat} : FrameOut True D s (execSeqStepComplete t s) :=
  step' fun hs => .ite hs.stepDone hs

theorem execStepDelayExpiry {t : Nat} : FrameOut True D s (execStepDelayExpiry t s) := by
  refine step' fun hs => ?_
  split
  · exact hs
  · exact .ite hs.modBc.stepBegin hs

theorem execPgTimeout {t : Nat} : FrameOut free D s (execPgTimeout t s) :=
  step' fun hs => .ite hs.supplyLoss hs

theorem execXtalGood {t : Nat} : FrameOut free D s (execXtalGood t s) :=
  step' fun hs => .ite hs.put.modBc.mpRelease hs

theorem execXtalStart {t : Nat} : FrameOut free D s (execXtalStart t s) := by
  refine step' fun hs => ?_
  split
  · exact hs
  · exact .ite hs.supplyLoss hs

theorem execSeqDownStep {t : Nat} {fell : Bool} : FrameOut True D s (execSeqDownStep t fell s) := by
  refine step' fun hs => ?_
  dsimp only
  split
  · exact hs
  · exact .ite (.downLower (.foldl (fun _ hs => hs.put) hs.put)) hs

theorem execXtalMonitorWindow {t : Nat} {good : Bool} : FrameOut True D s (execXtalMonitorWindow t good s) :=
  step' fun hs => .ite hs (.ite hs.modBc (.ite hs.modBc.xtalFailed hs.modBc.xtalHits))

theorem execXtalFailPersist {t : Nat} : FrameOut free D s (execXtalFailPersist t s) := by
  refine step' fun hs => ?_
  split
  · exact hs
  · exact .ite hs.supplyLoss hs

theorem execAvsUpdate {t : Nat} {want : Int} : FrameOut free D s (execAvsUpdate t want s) :=
  step' fun hs => .ite hs (.ite hs.modBc.put.raise hs.modBc.put)

theorem execVbatSample {t v : Nat} : FrameOut free D s (execVbatSample t v s) :=
  vbatStep fun hs => .ite hs hs.put.put

theorem execPfw {t v dur : Nat} : FrameOut free D s (execPfw t v dur s) :=
  vbatStep fun hs => .ite hs (.ite hs.put.bump.raise.nvmStop hs.put.bump.raise)

theorem execPfwEnd {t v dur : Nat} : FrameOut free D s (execPfwEnd t v dur s) :=
  vbatStep fun hs => .ite hs (.ite hs.put.raise hs.put.raise.put)

theorem execVbatOv {t v dur : Nat} : FrameOut free D s (execVbatOv t v dur s) :=
  vbatStep fun hs => .ite hs hs.put.raise

theorem execVbatOvEnd {t v dur : Nat} : FrameOut free D s (execVbatOvEnd t v dur s) :=
  vbatStep fun hs => .ite hs hs.put

theorem execSupplyLoss {t : Nat} {f : SupplyFault} : FrameOut free D s (execSupplyLoss t f s) := by
  refine step' fun hs => ?_
  dsimp only
  refine .ite hs (.supplyLoss ?_)
  split
  · exact .ite hs.put hs
  · exact .ite hs.put hs
  · exact .ite hs.put hs
  · exact hs

theorem execSupplyPowerDown {t : Nat} : FrameOut True D s (execSupplyPowerDown t s) :=
  step' fun hs => .ite hs hs.coldReset.modBc.pstateTo.downLower

theorem execSupplyRestart {t v dur : Nat} : FrameOut True D s (execSupplyRestart t v dur s) :=
  vbatStep fun hs => .ite hs (.ite hs.lockout (.ite hs (.goUp (.ite hs hs.put))))

theorem execRestartCountClear {t : Nat} : FrameOut free D s (execRestartCountClear t s) :=
  step' fun hs => .ite hs.put hs

theorem execVbatLoss {t v : Nat} : FrameOut True D s (execVbatLoss t v s) :=
  vbatStep fun hs => .ite hs.vbatLost hs

theorem execWakePin {t : Nat} {i : Fin 4} {level : Bool} : FrameOut free D s (execWakePin t i level s) :=
  step' fun hs => .ite hs.modBc.modBc (.ite hs.modBc.modBc hs.modBc)

theorem execWakeQualified {t : Nat} {i : Fin 4} : FrameOut True D s (execWakeQualified t i s) := by
  refine step' fun hs => ?_
  split
  · exact hs
  · exact .ite hs.modBc.wakeRecord hs

theorem execWakeTimer {t : Nat} : FrameOut True D s (execWakeTimer t s) :=
  step' fun hs => .ite hs.modBc.wakeRecord hs

theorem execPinReset {t dur : Nat} : FrameOut True D s (execPinReset t dur s) := by
  unfold Machine.execPinReset
  split
  · exact step' fun hs => hs
  · split
    · rintro v ⟨⟩
    · exact step' fun hs => .ite hs hs.coldReset.modBc.goUp

theorem execNresetRise {t : Nat} : FrameOut True D s (execNresetRise t s) :=
  step' fun hs => .ite hs (.ite (.stepBegin (.ite hs.modBc.mark.bump.raise hs.modBc)) (.ite hs.modBc.mark.bump.raise hs.modBc))

theorem execWdogExpiry {t : Nat} : FrameOut free D s (execWdogExpiry t s) :=
  step' fun hs => .ite hs.wdogExpire hs

theorem execLockstep {t : Nat} : FrameOut free D s (execLockstep t s) :=
  step' fun hs => .ite hs.mpExpiry hs

theorem execMpFault {t : Nat} {ext : Bool} : FrameOut free D s (execMpFault t ext s) :=
  step' fun hs => .ite hs.withMpKept.mpExpiry hs

theorem execRuntimeUp {t : Nat} : FrameOut free D s (execRuntimeUp t s) :=
  step' fun hs => .ite hs.runtimeUp hs

theorem execShortWindowClose {t : Nat} : FrameOut free D s (execShortWindowClose t s) := by
  refine step' fun hs => ?_
  dsimp only
  split
  · exact .ite hs.withMpKept hs
  · exact hs

theorem execLongWindowClose {t : Nat} : FrameOut free D s (execLongWindowClose t s) := by
  refine step' fun hs => ?_
  dsimp only
  split
  · exact .ite hs.withMpKept.put hs
  · exact hs

theorem execSensorSample {t : Nat} {i : Fin 24} {r : Int} : FrameOut free D s (execSensorSample t i r s) := by
  refine step' fun hs => ?_
  dsimp only
  refine .ite hs ?_
  split
  · exact hs.tsSample.thermShut
  · exact hs.tsSample.pbaDue

theorem execTsbSample {t : Nat} {r : Int} : FrameOut True D s (execTsbSample t r s) :=
  step' fun hs => .ite hs (.ite (.ite hs.withTherm.put.thermShut hs.withTherm.put) (.ite hs.withTherm.wakeGo hs.withTherm))

theorem execThermalRestart {t v dur : Nat} : FrameOut True D s (execThermalRestart t v dur s) :=
  vbatStep fun hs => .ite hs (.ite hs.withTherm.lockout hs.withTherm.goUp)

/-! ### Sched -/

theorem schedShow (h : Frame free D u s) : Frame free D u s.schedShow := by
  unfold State.schedShow
  dsimp only
  exact h.put.put.put

theorem schedSet (h : Frame free D u s) {i : Nat} {e : SchedEntry} : Frame free D u (s.schedSet i e) := by
  unfold State.schedSet
  exact h.withSched.schedShow

theorem schedFlag (h : Frame free D u s) {i : Nat} {missed : Bool} : Frame free D u (s.schedFlag i missed) := by
  unfold State.schedFlag
  dsimp only
  exact .ite h.mark.bump.raise h.mark.bump.raise

theorem schedMissedRun (h : Frame free D u s) {i k : Nat} : Frame free D u (s.schedMissedRun i k) := by
  induction k generalizing s with
  | zero => exact h
  | succ k ih => exact ih h.schedFlag

theorem schedOccurred (h : Frame free D u s) {i : Nat} {e : SchedEntry} {lateness : Nat} {late missed : Bool} :
    Frame free D u (s.schedOccurred i e lateness late missed) := by
  unfold State.schedOccurred
  dsimp only
  exact .schedSet (.schedMissedRun (.count (.ite h.schedFlag (.ite h.bump.schedFlag h.bump))))

theorem schedError (h : Frame free D u s) {i : Nat} {e : SchedEntry} : Frame free D u (s.schedError i e) := by
  unfold State.schedError
  dsimp only
  exact h.errHw.bump.raise.schedSet

theorem strobeHand (h : Frame free D u s) {i : Nat} {e : SchedEntry} : Frame free D u (s.strobeHand i e) := by
  unfold State.strobeHand
  dsimp only
  split
  · exact h.schedError
  · refine .ite h.schedError ?_
    split
    · exact h.schedOccurred
    · exact h.npSchedule.schedSet

theorem execStrobeHandover {t : Nat} : FrameOut free D s (execStrobeHandover t s) := by
  refine step' fun hs => ?_
  refine .ite hs ?_
  split
  · exact hs
  · exact hs.strobeHand

theorem schedMarked (h : Frame free D u s) {b : NpStrobe} {late : Bool} : Frame free D u (s.schedMarked b late) := by
  unfold State.schedMarked
  dsimp only
  split
  · exact h
  · exact .ite h h.schedOccurred

theorem schedWithdraw (h : Frame free D u s) {i : Nat} : Frame free D u (s.schedWithdraw i) := by
  unfold State.schedWithdraw
  split
  · exact h
  · split
    · exact .ite h.npWithdraw h
    · exact h

theorem schedLetGo (h : Frame free D u s) {i : Nat} : Frame free D u (s.schedLetGo i) := by
  unfold State.schedLetGo
  split
  · exact h
  · exact h.modNp

theorem schedStore (h : Frame free D u s) {i : Nat} {e : SchedEntry} : Frame free D u (s.schedStore i e) := by
  unfold State.schedStore
  dsimp only
  refine .schedSet (.ite (.ite h.schedLetGo h.schedWithdraw) (.ite (.ite h.withSchedOld ?_) h))
  split
  · exact .ite h.strobeHand.schedLetGo h
  · exact h.strobeHand

theorem schedTake (h : Frame free D u s) : Frame free D u s.schedTake := by
  unfold State.schedTake
  dsimp only
  exact h.tookFree.withSchedBusy

theorem schedAcc (h : Frame free D u s) {path : Path} {v : Nat} : Frame free D u (s.schedAcc path v) := by
  unfold State.schedAcc
  refine .ite h.err ?_
  extract_lets w1 _ _ _ _ w2 w3 w4 w5 w6
  have h1 : Frame free D u w1 := h.put
  have h2 : Frame free D u w2 := h1.put.put
  have h3 : Frame free D u w3 := h2.put
  have h4 : Frame free D u w4 := h3.put.put
  have h5 : Frame free D u w5 := h4.put.put
  have h6 : Frame free D u w6 := h5.put
  refine .ite h1 ?_
  split
  · split
    · exact h1.err
    · exact h1.schedStore.schedTake
  · exact h6.put.schedTake
  · exact h1.schedWithdraw.schedSet.schedTake
  · exact h1.err

theorem schedWrite (h : Frame free D u s) {path : Path} {off v : Nat} : Frame free D u (s.schedWrite path off v) := by
  unfold State.schedWrite
  exact .ite h.schedAcc (.ite h.plainWrite.schedShow h.plainWrite)

theorem schedSrst (h : Frame free D u s) : Frame free D u s.schedSrst := by
  unfold State.schedSrst
  exact .schedShow (.withSchedOnly (.foldl (fun _ hs => .ite hs.schedWithdraw hs) h))

/-! ### NarpaCmds -/

theorem npCmd (h : Frame True D u s) {path : Path} {q : NpIx} {off v : Nat} : Frame True D u (s.npCmd path q off v) := by
  unfold State.npCmd
  dsimp only
  split
  · exact .ite h.modNp.npSettle h.err
  · exact .ite h.npSchedule h.err
  · exact h.err

theorem npCfgAcc (h : Frame free D u s) {path : Path} {q : NpIx} {off v : Nat} : Frame free D u (s.npCfgAcc path q off v) := by
  unfold State.npCfgAcc
  dsimp only
  exact .ite h.err h.setReg

theorem npkNext (h : Frame free D u s) : Frame free D u s.npkNext := by
  unfold State.npkNext
  exact h.put

theorem npWrite (h : Frame True D u s) {path : Path} {g : Fin 13} {off v : Nat} : Frame True D u (s.npWrite path g off v) := by
  unfold State.npWrite
  refine .ite (npkNext (h.withKeeper (Memory.wf_setLE _ _ _))) (.ite h.plainWrite.keeperPorts (.ite h.err (.ite ?_ h.plainWrite)))
  split
  · exact h
  · split
    · exact h.npCmd
    · exact h.npCfgAcc
    · exact h.plainWrite

theorem npReady (h : Frame True D u s) {q : NpIx} : Frame True D u (s.npReady q) := by
  unfold State.npReady
  exact h.npExpire.npSettle

theorem execNpFrame {t : Nat} {q : Fin 104} : FrameOut True D s (execNpFrame t q s) :=
  step' fun hs => .ite hs (.ite (.ite hs.npReady hs.npReady.npEnumFrame) (.ite hs.npReady (.ite hs.npReady.npCfgFrame (.ite
    hs.npReady.npImageFrame hs.npReady))))

theorem execNpLatch {t : Nat} {q : Fin 104} : FrameOut True D s (execNpLatch t q s) :=
  step' fun hs => hs.npLatch

theorem npTakeReturn (h : Frame True D u s) {q : NpIx} {r : NpRet} {rest : List NpRet} {got : Nat × List Nat × Bool} :
    Frame True D u (s.npTakeReturn q r rest got) := by
  unfold State.npTakeReturn
  dsimp only
  exact .npSettle (.ite h.modNp.npEnumReturn h.modNp.npReturn)

theorem execNpReturnFrame {t : Nat} {q : Fin 104} {mark : Nat} {cells : List (Nat × Nat)} {quiet : Nat} :
    FrameOut True D s (execNpReturnFrame t q mark cells quiet s) := by
  refine step' fun hs => ?_
  dsimp only
  split
  · exact hs.npReady
  · exact .ite hs.npReady hs.npReady.npTakeReturn

theorem execChainOpen {t : Nat} {q : Fin 104} : FrameOut True D s (execChainOpen t q s) :=
  step' fun hs => .ite hs.npReady hs.npReady.put.npShowGroup.raise

theorem execNpStrobeMark {t : Nat} {q : Fin 104} : FrameOut True D s (execNpStrobeMark t q s) := by
  refine step' fun hs => ?_
  dsimp only
  split
  · exact hs
  · split
    · exact hs.npWithdraw.schedOccurred
    · exact .ite hs hs.npMark.schedMarked.npSettle

theorem keeperDone (h : Frame free D u s) : Frame free D u s.keeperDone := by
  unfold State.keeperDone
  dsimp only
  exact .ite h (.ite h.modKeeper.raise h.modKeeper)

theorem keeperSend (h : Frame free D u s) {p : Fin 8} : Frame free D u (s.keeperSend p) := by
  unfold State.keeperSend
  dsimp only
  exact h.modKeeper.put

theorem keeperTake (h : Frame free D u s) {p : Fin 8} {rest : List Nat} : Frame free D u (s.keeperTake p rest) := by
  unfold State.keeperTake
  exact h.modKeeper

theorem execKeeperWakeFrame {t : Nat} {p : Fin 8} : FrameOut free D s (execKeeperWakeFrame t p s) := by
  refine step' fun hs => ?_
  dsimp only
  split
  · exact hs
  · exact .ite hs (.ite hs.keeperTake.keeperDone hs.keeperTake.keeperSend)

theorem execKeepaliveStrobe {t : Nat} {p : Fin 8} : FrameOut free D s (execKeepaliveStrobe t p s) :=
  step' fun hs => .ite hs hs.modKeeper

theorem execKeeperFrameEnd {t : Nat} {p : Fin 8} : FrameOut free D s (execKeeperFrameEnd t p s) := by
  refine step' fun hs => ?_
  dsimp only
  refine .keeperDone ?_
  split
  · exact .ite hs.modKeeper.pbaRequest hs.modKeeper
  · exact hs.modKeeper

/-! ### Bus -/

theorem readSide (h : Frame free D u s) {path : Path} {p : Page} {off : Nat} : Frame free D u (s.readSide path p off) := by
  unfold State.readSide
  split
  · exact .ite h.latchStamp h
  · exact .ite h.latchStamp h
  · exact .ite h.latchStamp h
  · exact .ite h.latchStamp h
  · extract_lets _
    exact .ite h.latchStamp (.ite h.npkNext h)
  · extract_lets _
    exact .ite h.latchStamp h
  · refine .ite h.latchNow (.ite h.latchStamp (.ite ?_ h))
    split
    · exact h.txqPop
    · exact h
  · exact h

theorem busFail (h : Frame free D u s) {path : Path} {a cause : Nat} : Frame free D u (s.busFail path a cause) := by
  unfold State.busFail
  dsimp only
  refine .busErr (.ite h.bump.raise (.ite ?_ h))
  split
  · exact h.err
  · exact h

theorem enWrite (h : Frame True D u s) {p : Page} {en : Bool} : Frame True D u (s.enWrite p en) := by
  unfold State.enWrite
  refine .ite h ?_
  extract_lets w1
  have h1 : Frame True D u w1 := h.setFlag
  split
  · exact .ite h1.compEnable h1
  · exact h1.ltnEnable
  · exact h1.calEnable
  · exact h1.netRequest
  · exact h1.netRequest
  · exact h1.storRequest
  · exact h1.pbaShow
  · exact h1.schedShow
  · exact h1.xtShow
  · exact h1

theorem freezeWrite (h : Frame free D u s) {p : Page} {fr : Bool} : Frame free D u (s.freezeWrite p fr) := by
  unfold State.freezeWrite
  refine .ite h (.ite (setFlag (h.withHeld fun hl => ?_)) (h.withHeld (cellsWf_filter resetAt _)).setFlag)
  refine List.foldlRecOn (motive := fun l => cellsWf resetAt l = true) _ _ hl fun l hl a _ => ?_
  exact List.foldlRecOn (motive := fun l => cellsWf resetAt l = true) _ _ hl fun l hl path _ => cellsWf_put resetAt _ _ hl

theorem srstRegs (h : Frame free D u s) {p : Page} : Frame free D u (s.srstRegs p) := by
  unfold State.srstRegs
  refine .foldl (fun r hs => .foldl (fun i hs => ?_) hs) h
  exact .ite hs (.ite hs.setReg (hs.setReg.withInForce (cellsWf_erase resetAt _)))

theorem srstBefore (h : Frame True D u s) {p : Page} : Frame True D u (s.srstBefore p) := by
  unfold State.srstBefore
  dsimp only
  split
  · exact h.compSrst
  · exact .ite h.dmcSrst h
  · exact h.engSrst
  · exact h.grdSrst
  · exact h.sxlSrst
  · exact h.ltnSrst
  · exact h.scnSrst
  · exact .foldl (fun _ hs => .ite hs (.ite hs.modNp hs.npOffNow)) h
  · exact .foldl (fun _ hs => .ite hs hs.mxOffNow) h
  · exact h.schedSrst
  · exact h.timeSrst
  · exact h.pdReqWrite
  · exact h.hidden rfl
  · refine .mbxFinishAll (.withNvm ?_)
    split
    · exact .ite h.nvmSpoil h
    · exact h
  · exact h.adcTurnOver.adcTurnOver.withCal.mbxFinishAll
  · exact h.withEth
  · exact h.withCan
  · exact h.withStor
  · exact h.withSec
  · exact h

theorem srstAfter (h : Frame True D u s) {p : Page} : Frame True D u (s.srstAfter p) := by
  unfold State.srstAfter
  split
  · exact h.pbaShow
  · exact h.xtShow.thermShow
  · exact h.calState
  · exact h.put
  · exact h.schedShow
  · exact h.netRequest.msecShow
  · exact h.netRequest
  · exact h.put.storRequest
  · exact .ite h h.put
  · exact .npShowGroup (.foldl (fun _ hs => .ite hs.npTo hs) h)
  · exact h.mxShowGroup
  · exact .ite h.imsShow h
  · exact h

theorem softReset (h : Frame True D u s) {p : Page} : Frame True D u (s.softReset p) := by
  unfold State.softReset
  refine srstAfter (.ite ?_ (withConds ?_))
  all_goals exact (srstRegs (srstBefore (.ite h.dropCommitRec.put.mbxFinishAll h))).withHeld (cellsWf_filter resetAt _)

theorem ctrlWrite (h : Frame True D u s) {path : Path} {p : Page} {v : Nat} : Frame True D u (s.ctrlWrite path p v) := by
  unfold State.ctrlWrite
  dsimp only
  exact .ite (.softReset (.ite h.err h)) (.freezeWrite (.ite (.ite h.err h) (.enWrite (.ite h.err h))))

theorem engGo (h : Frame free D u s) {n : Fin 4} : Frame free D u (s.engGo n) := by
  unfold State.engGo
  dsimp only
  refine .ite h.commitOpen.engReplan (.ite h.commitOpen.engCommit.engLinkLoss (.ite ?_ h.commitOpen.engCommit))
  split
  · exact h.commitOpen.engCommit.linkChangeNow
  · exact h.commitOpen.engCommit

theorem scnGo (h : Frame free D u s) {k : Fin 2} : Frame free D u (s.scnGo k) := by
  unfold State.scnGo
  dsimp only
  exact .ite h.commitOpen h.commitOpen.scnCommit

theorem commitGo (h : Frame True D u s) {g : Group} : Frame True D u (s.commitGo g) := by
  unfold State.commitGo
  refine .ite h ?_
  split
  · exact h.engGo
  · exact h.scnGo
  · exact h.compGo
  · exact h.npGo
  · exact h.mxGo
  · exact h.commitOpen.commitWhole

theorem commitWrite (h : Frame True D u s) {p : Page} {v : Nat} : Frame True D u (s.commitWrite p v) := by
  unfold State.commitWrite
  dsimp only
  exact .ite (.commitGo (.ite (.put (.ite h.put h)) (.ite h.put h))) (.ite (.put (.ite h.put h)) (.ite h.put h))

theorem errCodeWrite (h : Frame free D u s) {p : Page} {v : Nat} : Frame free D u (s.errCodeWrite p v) := by
  unfold State.errCodeWrite
  exact .ite h.put.put h

theorem lockWrite (h : Frame free D u s) {p : Page} {v : Nat} : Frame free D u (s.lockWrite p v) := by
  unfold State.lockWrite
  exact .ite h.put.put h

theorem irqClear (h : Frame free D u s) {p : Page} {v : Nat} : Frame free D u (s.irqClear p v) := by
  unfold State.irqClear
  exact h.put

theorem irqSet (h : Frame free D u s) {p : Page} {v : Nat} : Frame free D u (s.irqSet p v) := by
  unfold State.irqSet
  exact h.put

theorem extCtrl (h : Frame free D u s) : Frame free D u s.extCtrl := by
  unfold State.extCtrl
  dsimp only
  exact .ite h.withMpKept.put (.ite h.put h)

theorem mbxWrite (h : Frame free D u s) {path : Path} {off v : Nat} : Frame free D u (s.mbxWrite path off v) := by
  unfold State.mbxWrite
  dsimp only
  exact .ite (.ite h.mbxPushWrite h) (.ite (.ite h.mbxPop h) (.ite h.mbxWinWrite (.ite h.put (.ite h.plainWrite.extCtrl
    h.plainWrite))))

theorem grdWrite (h : Frame free D u s) {path : Path} {n : Fin 4} {off v : Nat} : Frame free D u (s.grdWrite path n off v) := by
  unfold State.grdWrite
  dsimp only
  exact .ite h.plainWrite.engReplan h.plainWrite

theorem blockWrite (h : Frame True D u s) {path : Path} {p : Page} {off v : Nat} : Frame True D u (s.blockWrite path p off v) := by
  unfold State.blockWrite
  split
  · exact h.plainWrite
  · exact h.bcWrite
  · exact .ite h.put h.plainWrite
  · exact h.thermWrite
  · exact h.calWrite
  · exact h.nvmWrite
  · exact h.mbxWrite
  · exact h.timeWrite
  · exact h.schedWrite
  · exact h.engWrite
  · exact h.grdWrite
  · exact h.ltnWrite
  · exact h.scnWrite
  · exact h.sxlWrite
  · exact h.compWrite
  · exact h.dmcWrite
  · exact h.npWrite
  · exact h.mxWrite.plainWrite
  · exact h.ethWrite
  · exact h.canWrite
  · exact h.storWrite
  · exact h.secWrite

theorem pageWrite (h : Frame True D u s) {path : Path} {p : Page} {off v : Nat} : Frame True D u (s.pageWrite path p off v) := by
  unfold State.pageWrite
  exact .ite h (.ite h.ctrlWrite (.ite h.irqClear (.ite h.put (.ite h.irqSet (.ite h.commitWrite (.ite h.errCodeWrite (.ite
    h.lockWrite (.ite h (.ite h.plainWrite h.blockWrite)))))))))

theorem placeWrite (h : Frame True D u s) {path : Path} {a v : Nat} : Frame True D u (s.placeWrite path a v) := by
  unfold State.placeWrite
  split
  · exact h.withTcm (Memory.wf_setLE _ _ _)
  · exact h.withFsram (Memory.wf_setLE _ _ _)
  · exact h.aperWrite
  · exact h.pageWrite
  · exact h

theorem placeSide (h : Frame free D u s) {path : Path} {a : Nat} : Frame free D u (s.placeSide path a) := by
  unfold State.placeSide
  split
  · exact .ite h.readSide h
  · exact h.countBytes
  · exact h

theorem extFault (h : Frame free D u s) : Frame free D u s.extFault := by
  unfold State.extFault
  dsimp only
  exact .foldl (fun _ hs => .ite hs.mbxPost hs) h.withMpKept.put.bump.raise

theorem busWrite (h : Frame True D u s) {path : Path} {a width v : Nat} : Frame True D u (s.busWrite path a width v) := by
  unfold State.busWrite
  refine .ite h.withOut ?_
  split
  · exact h.busFail
  · exact h.placeWrite.answer

theorem busRead (h : Frame free D u s) {path : Path} {a width : Nat} : Frame free D u (s.busRead path a width) := by
  unfold State.busRead
  dsimp only
  refine .ite h.withOut ?_
  split
  · exact h.busFail
  · exact h.placeSide.answer

theorem access (h : Frame free D u s) {path : Path} {a : Nat} {write : Bool} {f : State → State}
    (hf : ∀ {v}, Frame free D u v → Frame free D u (f v)) : Frame free D u (s.access path a write f) := by
  unfold State.access
  exact .ite h.withOut (.ite h.withOut.extFault (hf h))

theorem writeBy (h : Frame True D u s) {path : Path} {a width v : Nat} : Frame True D u (s.writeBy path a width v) := by
  unfold State.writeBy
  exact h.access (fun hs => hs.busWrite)

theorem readBy (h : Frame free D u s) {path : Path} {a width : Nat} : Frame free D u (s.readBy path a width) := by
  unfold State.readBy
  exact h.access (fun hs => hs.busRead)

/-! ### BusCmds -/

theorem regBy (h : Frame True D u s) {path : Path} {p : Page} {f : RF} {v : Nat} : Frame True D u (s.regBy path p f v) := by
  unfold State.regBy
  exact h.writeBy

theorem getBy (h : Frame free D u s) {path : Path} {p : Page} {f : RF} : Frame free D u (s.getBy path p f) := by
  unfold State.getBy
  exact h.readBy

theorem execRegisterWrite {t : Nat} {path : Path} {a width v : Nat} : FrameOut True D s (execRegisterWrite t path a width v s) :=
  step' fun hs => hs.writeBy

theorem execFsramWrite {t : Nat} {path : Path} {off v : Nat} : FrameOut True D s (execFsramWrite t path off v s) :=
  step' fun hs => .ite hs.writeBy hs

theorem execApertureAccess {t : Nat} {path : Path} {off : Nat} {write : Bool} {v : Nat} :
    FrameOut True D s (execApertureAccess t path off write v s) :=
  step' fun hs => .ite hs (.ite hs.writeBy hs.readBy)

theorem execErrCodeClear {t : Nat} {path : Path} {pg v : Nat} : FrameOut True D s (execErrCodeClear t path pg v s) :=
  step' fun hs => hs.writeBy

theorem execSoftReset {t : Nat} {path : Path} {pg v : Nat} : FrameOut True D s (execSoftReset t path pg v s) :=
  step' fun hs => hs.writeBy

theorem execBlockEnable {t : Nat} {path : Path} {pg : Nat} {en : Bool} : FrameOut True D s (execBlockEnable t path pg en s) :=
  step' fun hs => hs.writeBy

theorem execFreeze {t : Nat} {path : Path} {pg : Nat} {fr : Bool} : FrameOut True D s (execFreeze t path pg fr s) :=
  step' fun hs => hs.writeBy

theorem execIrqSet {t : Nat} {path : Path} {pg v : Nat} : FrameOut True D s (execIrqSet t path pg v s) :=
  step' fun hs => hs.writeBy

theorem execLock {t : Nat} {path : Path} {pg low : Nat} : FrameOut True D s (execLock t path pg low s) :=
  step' fun hs => hs.writeBy

theorem execCommitGo {t : Nat} {path : Path} {pg : Nat} : FrameOut True D s (execCommitGo t path pg s) :=
  step' fun hs => hs.writeBy

theorem execMotionPublish {t : Nat} {path : Path} {v : Nat} : FrameOut True D s (execMotionPublish t path v s) :=
  step' fun hs => hs.regBy

theorem execImsCfgWrite {t : Nat} {path : Path} {v : Nat} : FrameOut True D s (execImsCfgWrite t path v s) :=
  step' fun hs => hs.regBy

theorem execEngStart {t : Nat} {path : Path} {n : Fin 4} : FrameOut True D s (execEngStart t path n s) :=
  step' fun hs => hs.regBy

theorem execEngStop {t : Nat} {path : Path} {n : Fin 4} : FrameOut True D s (execEngStop t path n s) :=
  step' fun hs => hs.regBy

theorem execEngPark {t : Nat} {path : Path} {n : Fin 4} : FrameOut True D s (execEngPark t path n s) :=
  step' fun hs => hs.regBy

theorem execEngFaultClear {t : Nat} {path : Path} {n : Fin 4} : FrameOut True D s (execEngFaultClear t path n s) :=
  step' fun hs => hs.regBy

theorem execIlkClear {t : Nat} {path : Path} {x : Fin 6} : FrameOut True D s (execIlkClear t path x s) :=
  step' fun hs => hs.regBy

theorem execIlkTest {t : Nat} {path : Path} {x : Fin 6} : FrameOut True D s (execIlkTest t path x s) :=
  step' fun hs => hs.regBy

theorem execParkLoad {t : Nat} {path : Path} {n : Fin 4} {v : Nat} : FrameOut True D s (execParkLoad t path n v s) :=
  step' fun hs => hs.regBy

theorem execScnStart {t : Nat} {path : Path} {k : Fin 2} : FrameOut True D s (execScnStart t path k s) :=
  step' fun hs => hs.regBy

theorem execScnStop {t : Nat} {path : Path} {k : Fin 2} : FrameOut True D s (execScnStop t path k s) :=
  step' fun hs => hs.regBy

theorem execScnPark {t : Nat} {path : Path} {k : Fin 2} : FrameOut True D s (execScnPark t path k s) :=
  step' fun hs => hs.regBy

theorem execScnFaultClear {t : Nat} {path : Path} {k : Fin 2} : FrameOut True D s (execScnFaultClear t path k s) :=
  step' fun hs => hs.regBy

theorem execPttDataWrite {t : Nat} {path : Path} {k : Fin 2} {v : Nat} : FrameOut True D s (execPttDataWrite t path k v s) :=
  step' fun hs => hs.regBy

theorem execNpEnum {t : Nat} {path : Path} {q : Fin 104} : FrameOut True D s (execNpEnum t path q s) :=
  step' fun hs => hs.regBy

theorem execNpStrobe {t : Nat} {path : Path} {q : Fin 104} : FrameOut True D s (execNpStrobe t path q s) :=
  step' fun hs => hs.regBy

theorem execCfgAccess {t : Nat} {path : Path} {q : Fin 104} {v : Nat} : FrameOut True D s (execCfgAccess t path q v s) :=
  step' fun hs => hs.regBy

theorem execNpkDataAccess {t : Nat} {path : Path} {write : Bool} {v : Nat} :
    FrameOut True D s (execNpkDataAccess t path write v s) :=
  step' fun hs => .ite hs.regBy hs.getBy

theorem execMxResend {t : Nat} {path : Path} {q : Fin 24} : FrameOut True D s (execMxResend t path q s) :=
  step' fun hs => hs.regBy

theorem execTimeIncrWrite {t : Nat} {path : Path} {v : Nat} : FrameOut True D s (execTimeIncrWrite t path v s) :=
  step' fun hs => hs.regBy

theorem execTimeAdjSet {t : Nat} {path : Path} : FrameOut True D s (execTimeAdjSet t path s) :=
  step' fun hs => hs.regBy

theorem execTimeAdjStep {t : Nat} {path : Path} : FrameOut True D s (execTimeAdjStep t path s) :=
  step' fun hs => hs.regBy

theorem execTimeSlewWrite {t : Nat} {path : Path} {v : Nat} : FrameOut True D s (execTimeSlewWrite t path v s) :=
  step' fun hs => hs.regBy

theorem execPdelayWrite {t : Nat} {path : Path} {p : Fin 4} {v : Nat} : FrameOut True D s (execPdelayWrite t path p v s) :=
  step' fun hs => hs.regBy

theorem execTimeNowRead {t : Nat} {path : Path} : FrameOut free D s (execTimeNowRead t path s) :=
  step' fun hs => hs.getBy

theorem execEngFstartNsRead {t : Nat} {path : Path} {n : Fin 4} : FrameOut free D s (execEngFstartNsRead t path n s) :=
  step' fun hs => hs.getBy

theorem execScnFstartNsRead {t : Nat} {path : Path} {k : Fin 2} : FrameOut free D s (execScnFstartNsRead t path k s) :=
  step' fun hs => hs.getBy

theorem execLtnIlkTimeNsRead {t : Nat} {path : Path} {x : Fin 6} : FrameOut free D s (execLtnIlkTimeNsRead t path x s) :=
  step' fun hs => hs.getBy

theorem execNpLatchNsRead {t : Nat} {path : Path} {q : Fin 104} : FrameOut free D s (execNpLatchNsRead t path q s) :=
  step' fun hs => hs.getBy

theorem execMxFstartNsRead {t : Nat} {path : Path} {q : Fin 24} : FrameOut free D s (execMxFstartNsRead t path q s) :=
  step' fun hs => hs.getBy

theorem execTimePpsinNsRead {t : Nat} {path : Path} : FrameOut free D s (execTimePpsinNsRead t path s) :=
  step' fun hs => hs.getBy

theorem execThermShutNsRead {t : Nat} {path : Path} : FrameOut free D s (execThermShutNsRead t path s) :=
  step' fun hs => hs.getBy

theorem execTxqPush {t : Nat} {path : Path} {p : Fin 4} {v : Nat} : FrameOut True D s (execTxqPush t path p v s) :=
  step' fun hs => hs.regBy

theorem execTxqPop {t : Nat} {path : Path} {p : Fin 4} : FrameOut free D s (execTxqPop t path p s) :=
  step' fun hs => hs.getBy

theorem execTclkTick {t : Nat} : FrameOut free D s (execTclkTick t s) :=
  step' fun hs => hs.atInstant

theorem execFreerun {t : Nat} : FrameOut free D s (execFreerun t s) :=
  step' fun hs => .ite hs.freerun hs

theorem execHoldoffEnd {t : Nat} : FrameOut free D s (execHoldoffEnd t s) :=
  step' fun hs => .ite hs.holdoffEnd hs

theorem execPpsOut {t : Nat} : FrameOut free D s (execPpsOut t s) :=
  step' fun hs => .ite hs.withClock hs

theorem execPpsOutEnd {t : Nat} : FrameOut free D s (execPpsOutEnd t s) := by
  refine step' fun hs => ?_
  dsimp only
  split
  · exact .ite hs.withClock hs
  · exact hs

theorem execPpsIn {t : Nat} {falling : Bool} : FrameOut free D s (execPpsIn t falling s) :=
  step' fun hs => .ite hs (.ite hs.bump.raise hs.withClock.stamp.put.put.raise)

theorem execPpsinValidExpiry {t : Nat} : FrameOut free D s (execPpsinValidExpiry t s) := by
  refine step' fun hs => ?_
  split
  · exact .ite hs.put hs
  · exact hs

theorem execSchedWrite {t : Nat} {path : Path} {i : Fin 256} : FrameOut True D s (execSchedWrite t path i s) :=
  step' fun hs => hs.regBy

theorem execSchedRead {t : Nat} {path : Path} {i : Fin 256} : FrameOut True D s (execSchedRead t path i s) :=
  step' fun hs => hs.regBy

theorem execSchedCancel {t : Nat} {path : Path} {i : Fin 256} : FrameOut True D s (execSchedCancel t path i s) :=
  step' fun hs => hs.regBy

theorem schedAction (h : Frame True D u s) {i : Nat} {e : SchedEntry} : Frame True D u (s.schedAction i e).1 := by
  unfold State.schedAction
  split
  · split
    · exact .pair (.ite h.busFail h)
    · exact h.busWrite.pair
  · split
    · exact .pair (.ite h.busFail h)
    · exact h.busWrite.pair
  · exact h.put.raise.pair
  · exact h

/-- The definition is unfolded as a function, before its arguments: applied, the kernel would run into the lateness. -/
theorem schedDispatch (h : Frame True D u s) {i : Nat} {e : SchedEntry} : Frame True D u (s.schedDispatch i e) := by
  have hact : Frame True D u (s.schedAction i e).1 := h.schedAction
  generalize hF : State.schedDispatch = F
  delta State.schedDispatch at hF
  subst hF
  beta_reduce
  extract_lets late
  clear_value late
  generalize e.verdict late = w
  cases w with
  | drop => exact h.schedOccurred
  | run fl => exact .ite hact.schedOccurred hact.schedError

theorem execSchedDispatch {t : Nat} : FrameOut True D s (execSchedDispatch t s) := by
  refine step' fun hs => ?_
  dsimp only
  refine .ite hs ?_
  split
  · exact hs.withSchedNext.schedDispatch.schedSet
  · split
    · exact hs
    · exact hs.withSchedAt.schedDispatch

theorem execDmcTrain {t : Nat} {path : Path} : FrameOut True D s (execDmcTrain t path s) :=
  step' fun hs => hs.regBy

theorem execSrEnter {t : Nat} {path : Path} : FrameOut True D s (execSrEnter t path s) :=
  step' fun hs => hs.regBy

theorem execSrExit {t : Nat} {path : Path} : FrameOut True D s (execSrExit t path s) :=
  step' fun hs => hs.regBy

theorem execDmcStop {t : Nat} {path : Path} : FrameOut True D s (execDmcStop t path s) :=
  step' fun hs => hs.regBy

theorem execMbxPush {t : Nat} {path : Path} : FrameOut True D s (execMbxPush t path s) :=
  step' fun hs => hs.regBy

theorem execWdogKick {t : Nat} {path : Path} {v : Nat} : FrameOut True D s (execWdogKick t path v s) :=
  step' fun hs => hs.regBy

theorem execPdReqWrite {t : Nat} {path : Path} {v : Nat} : FrameOut True D s (execPdReqWrite t path v s) :=
  step' fun hs => hs.regBy

theorem execPwrCmdRun {t : Nat} {path : Path} : FrameOut True D s (execPwrCmdRun t path s) :=
  step' fun hs => hs.regBy

theorem execPwrCmdStandby {t : Nat} {path : Path} : FrameOut True D s (execPwrCmdStandby t path s) :=
  step' fun hs => hs.regBy

theorem execPwrCmdBivouac {t : Nat} {path : Path} : FrameOut True D s (execPwrCmdBivouac t path s) :=
  step' fun hs => hs.regBy

theorem execSystemReset {t : Nat} {path : Path} {v : Nat} : FrameOut True D s (execSystemReset t path v s) :=
  step' fun hs => hs.regBy

theorem execVbatMinWrite {t : Nat} {path : Path} {v : Nat} : FrameOut True D s (execVbatMinWrite t path v s) :=
  step' fun hs => hs.regBy

theorem execRevalidate {t : Nat} {path : Path} {src : Fin 32} : FrameOut True D s (execRevalidate t path src s) :=
  step' fun hs => hs.regBy

theorem execCalCmd {t : Nat} {path : Path} {cls : Fin 16} {inst : Fin 8} : FrameOut True D s (execCalCmd t path cls inst s) :=
  step' fun hs => hs.regBy

theorem execNvmProgram {t : Nat} {path : Path} {count : Fin 8} : FrameOut True D s (execNvmProgram t path count s) :=
  step' fun hs => hs.regBy

theorem execNvmRead {t : Nat} {path : Path} {count : Fin 8} : FrameOut True D s (execNvmRead t path count s) :=
  step' fun hs => hs.regBy

theorem execRecoveryBoot {t : Nat} {path : Path} {key sig : Bool} : FrameOut True D s (execRecoveryBoot t path key sig s) :=
  step' fun hs => hs.regBy.recoveryCheck

theorem execKeyWrite {t : Nat} {path : Path} {slot : Fin 16} : FrameOut True D s (execKeyWrite t path slot s) :=
  step' fun hs => hs.regBy

theorem execKeyErase {t : Nat} {path : Path} {slot : Fin 16} : FrameOut True D s (execKeyErase t path slot s) :=
  step' fun hs => hs.regBy

theorem execKeyLock {t : Nat} {path : Path} {slot : Fin 16} : FrameOut True D s (execKeyLock t path slot s) :=
  step' fun hs => hs.regBy

theorem execKeyRevoke {t : Nat} {path : Path} {slot : Fin 16} : FrameOut True D s (execKeyRevoke t path slot s) :=
  step' fun hs => hs.regBy

theorem execSvnAdvance {t : Nat} {path : Path} {svn : Nat} : FrameOut True D s (execSvnAdvance t path svn s) :=
  step' fun hs => hs.regBy

theorem execEthTxDoorbell {t : Nat} {path : Path} {n : Fin 4} {v : Nat} : FrameOut True D s (execEthTxDoorbell t path n v s) :=
  step' fun hs => hs.regBy

theorem execMsecSaInstall {t : Nat} {path : Path} {n : Fin 4} {v : Nat} : FrameOut True D s (execMsecSaInstall t path n v s) :=
  step' fun hs => hs.regBy

theorem execCanRecover {t : Nat} {path : Path} {n : Fin 4} : FrameOut True D s (execCanRecover t path n s) :=
  step' fun hs => hs.regBy

theorem execStorLinkUp {t : Nat} {path : Path} : FrameOut True D s (execStorLinkUp t path s) :=
  step' fun hs => hs.regBy

theorem execStorShutdown {t : Nat} {path : Path} : FrameOut True D s (execStorShutdown t path s) :=
  step' fun hs => hs.regBy

theorem execStorDoorbell {t : Nat} {path : Path} {cq : Bool} {v : Nat} : FrameOut True D s (execStorDoorbell t path cq v s) :=
  step' fun hs => hs.regBy

/-! ### MbxCmds -/

theorem execMbxPop {t : Nat} {path : Path} : FrameOut True D s (execMbxPop t path s) :=
  step' fun hs => hs.regBy

theorem execRspDrop {t : Nat} {i : Fin 32} : FrameOut free D s (execRspDrop t i s) :=
  step' fun hs => .ite hs.modSlot.bump.raise hs

theorem execMbxCommandTimeout {t : Nat} {i : Fin 32} : FrameOut free D s (execMbxCommandTimeout t i s) := by
  refine step' fun hs => ?_
  dsimp only
  split
  · exact hs
  · exact .ite hs (.mbxPost (.ite hs.withContent hs))

theorem mbxExec (h : Frame free D u s) {i : Fin 32} {fails : List MbxFail} {act : State → State}
    (hact : ∀ {v}, Frame free D u v → Frame free D u (act v)) : Frame free D u (s.mbxExec i fails act) := by
  unfold State.mbxExec
  dsimp only
  split
  · exact h.modSlot.mbxPost
  · exact hact h.modSlot

theorem mbxOrphans (h : Frame free D u s) {fuel : Nat} : Frame free D u (s.mbxOrphans fuel) := by
  induction fuel generalizing s with
  | zero => exact h
  | succ fuel ih =>
    unfold State.mbxOrphans
    split
    · exact h
    · exact .ite (ih (h.mbxExec fun hs => hs)) h

theorem mbxRow (h : Frame free D u s) {own : MbxSlot → Bool} {fails : State → MbxSlot → List MbxFail}
    {act : State → Fin 32 → MbxSlot → State} (hact : ∀ {v i c}, Frame free D u v → Frame free D u (act v i c)) :
    Frame free D u (s.mbxRow own fails act) := by
  unfold State.mbxRow
  refine .ite h ?_
  dsimp only
  split
  · exact h.mbxOrphans
  · exact .ite (h.mbxOrphans.mbxExec fun hs => hact hs) h.mbxOrphans

theorem mbxAccept (h : Frame free D u s) {i : Fin 32} {w : MbxWait} {lim : Option Nat} : Frame free D u (s.mbxAccept i w lim) := by
  unfold State.mbxAccept
  exact h.modSlot.mbxPost

theorem execPing {t : Nat} : FrameOut free D s (execPing t s) :=
  step' fun hs => hs.mbxRow (fun hs => hs.mbxPost)

theorem unitStart (h : Frame free D u s) {x : EngUnit} : Frame free D u (s.unitStart x).1 := by
  cases x with
  | inl n => exact h.engStart
  | inr k => exact h.scnStartCmd

theorem unitStop (h : Frame True D u s) {x : EngUnit} : Frame True D u (s.unitStop x).1 := by
  cases x with
  | inl n => exact h.engStop
  | inr k => exact h.scnStopCmd

theorem unitPark (h : Frame free D u s) {x : EngUnit} : Frame free D u (s.unitPark x).1 := by
  cases x with
  | inl n => exact h.engPark
  | inr k => exact h.scnParkCmd

theorem unitFaultClear (h : Frame True D u s) {x : EngUnit} : Frame True D u (s.unitFaultClear x).1 := by
  cases x with
  | inl n => exact h.engFaultClear
  | inr k => exact h.scnFaultClear

theorem unitCmd (h : Frame free D u s) {i : Fin 32} {c : MbxSlot} {w : Nat → MbxWait} {f : State → EngUnit → State × CmdResult}
    (hf : ∀ {v x}, Frame free D u v → Frame free D u (f v x).1) : Frame free D u (s.unitCmd i c w f) := by
  unfold State.unitCmd
  split
  · exact h
  · exact .ite (hf h.mbxAccept) (.ite (hf h).mbxPost h.mbxPost)

theorem execEngineStart {t : Nat} : FrameOut free D s (execEngineStart t s) :=
  step' fun hs => hs.mbxRow (fun hs => hs.unitCmd (fun hs1 => hs1.unitStart))

theorem execEngineStop {t : Nat} : FrameOut True D s (execEngineStop t s) :=
  step' fun hs => hs.mbxRow (fun hs => hs.unitCmd (fun hs1 => hs1.unitStop))

theorem execEnginePark {t : Nat} : FrameOut free D s (execEnginePark t s) :=
  step' fun hs => hs.mbxRow (fun hs => hs.unitCmd (fun hs1 => hs1.unitPark))

theorem unitClear (h : Frame True D u s) {i : Fin 32} {u' : EngUnit} : Frame True D u (s.unitClear i u') := by
  unfold State.unitClear
  dsimp only
  exact .ite h.mbxPost (.ite h.mbxPost (.ite h.ilkClear.unitFaultClear.mbxPost h.mbxPost))

theorem execEngineFaultClear {t : Nat} : FrameOut True D s (execEngineFaultClear t s) := by
  refine step' fun hs => ?_
  refine hs.mbxRow (fun hs => ?_)
  split
  · exact hs
  · exact hs.unitClear

theorem programStage (h : Frame True D u s) {n : Fin 4} {prg1 : Bool} {p : PlaneTable} :
    Frame True D u (s.programStage n prg1 p) := by
  unfold State.programStage
  dsimp only
  exact .withOut (.busWrite (.busWrite (.foldl (fun _ hs => hs.busWrite.busWrite) h)))

theorem execProgramLoad {t : Nat} : FrameOut True D s (execProgramLoad t s) := by
  refine step' fun hs => ?_
  dsimp only
  refine hs.mbxRow (fun hs => ?_)
  split
  · exact .ite hs.programStage.mbxPost (.commitGo (.ite hs.programStage.mbxAccept hs.programStage.modSlot))
  · exact hs

theorem execCalRun {t : Nat} : FrameOut free D s (execCalRun t s) :=
  step' fun hs => hs.mbxRow (fun hs => hs.mbxAccept.calCmd)

theorem execCalStore {t : Nat} {todo : List (Nat × List Byte)} : FrameOut free D s (execCalStore t todo s) :=
  step' fun hs => hs.mbxRow (fun hs => hs.mbxAccept.storeBegin)

theorem execNvmCommit {t : Nat} {payload : List Byte} : FrameOut free D s (execNvmCommit t payload s) :=
  step' fun hs => hs.mbxRow (fun hs => hs.mbxAccept.storeBegin)

theorem execTimeSet {t : Nat} : FrameOut free D s (execTimeSet t s) :=
  step' fun hs => hs.mbxRow (fun hs => hs.withClock.atInstant.mbxPost)

theorem execSeqStart {t : Nat} : FrameOut free D s (execSeqStart t s) := by
  refine step' fun hs => ?_
  dsimp only
  refine hs.mbxRow (fun hs => ?_)
  split
  · exact hs
  · exact .mbxPost (.tookFree (.foldl (fun _ hs => hs.schedStore) hs))

theorem execContentOpen {t : Nat} : FrameOut free D s (execContentOpen t s) :=
  step' fun hs => hs.mbxRow (fun hs => hs.withContent.mbxAccept)

theorem contentFail (h : Frame free D u s) {detail : Nat} {result : List Nat} : Frame free D u (s.contentFail detail result) := by
  unfold State.contentFail
  dsimp only
  exact .foldl (fun _ hs => .ite hs.mbxPost hs) h.withContent

theorem contentPass (h : Frame True D u s) {p : PkgIn} {b : List Byte} : Frame True D u (s.contentPass p b) := by
  unfold State.contentPass
  refine .ite (contentSwap (withDramContent h fun hm => ?_)) (withDramContent h fun hm => ?_)
  all_goals exact List.foldlRecOn (motive := fun m => Memory.wf m = true) _ _ hm fun _ hm _ _ => Memory.wf_setBytes _ _ hm

theorem execContentOpenDone {t : Nat} {p : PkgIn} : FrameOut True D s (execContentOpenDone t p s) := by
  refine step' fun hs => ?_
  dsimp only
  refine .ite hs (.ite hs.contentFail ?_)
  split
  · exact hs.contentFail
  · exact hs.contentPass

theorem execLogStop {t : Nat} : FrameOut free D s (execLogStop t s) :=
  step' fun hs => hs.mbxRow fun hs => .mbxPost (hs.withMpStopped rfl)

theorem execLogEventLog {t : Nat} : FrameOut free D s (execLogEventLog t s) :=
  step' fun hs => hs.mbxRow (fun hs => hs.withMpKept.mbxPost)

theorem execLogRecorder {t : Nat} : FrameOut True D s (execLogRecorder t s) :=
  step' fun hs => hs.mbxRow fun hs => hs.withMp.mbxPost

theorem execLogFlush {t : Nat} : FrameOut free D s (execLogFlush t s) :=
  step' fun hs => hs.mbxRow (fun hs => hs.withMpKept.mbxPost)

theorem execPowerStateRun {t : Nat} : FrameOut True D s (execPowerStateRun t s) :=
  step' fun hs => hs.mbxRow (fun hs => hs.mbxAccept.pwrGo)

theorem execPowerStateStandby {t : Nat} : FrameOut True D s (execPowerStateStandby t s) :=
  step' fun hs => hs.mbxRow (fun hs => hs.mbxAccept.pwrGo)

theorem execPowerStateBivouac {t : Nat} {todo : List (Nat × List Byte)} : FrameOut free D s (execPowerStateBivouac t todo s) :=
  step' fun hs => hs.mbxRow (fun hs => hs.mbxAccept.storeBegin)

theorem execBivouacEntry {t : Nat} : FrameOut True D s (execBivouacEntry t s) := by
  refine step' fun hs => ?_
  dsimp only
  split
  · exact hs
  · exact .ite (.ite hs.withMpKept.pwrGo hs.withMpKept) hs

theorem diagPage (h : Frame True D u s) {a : Nat} {p : Page} : Frame True D u (s.diagPage a p) := by
  unfold State.diagPage
  exact freezeWrite ((h.freezeWrite (p := p) (fr := true)).withDram fun hm =>
    List.foldlRecOn (motive := fun m => Memory.wf m = true) _ _ hm fun _ hm _ _ => Memory.wf_setLE _ _ _ hm)

theorem diagDump (h : Frame True D u s) {a : Nat} : Frame True D u (s.diagDump a) := by
  unfold State.diagDump
  exact .foldl (fun _ hs => hs.diagPage) (h.withDram fun hm =>
    List.foldlRecOn (motive := fun m => Memory.wf m = true) _ _ hm fun _ hm _ _ => Memory.wf_setLE _ _ _ hm)

theorem execDiagSnapshot {t : Nat} : FrameOut True D s (execDiagSnapshot t s) :=
  step' fun hs => hs.mbxRow (fun hs => .mbxPost (.ite hs hs.diagDump))

theorem execMpLoadWindow {t load ext : Nat} : FrameOut free D s (execMpLoadWindow t load ext s) :=
  step' fun hs => .ite hs (.ite hs.withMpKept.put.keepMax.raise hs.withMpKept.put.keepMax)

theorem execExtBudgetPeriod {t : Nat} : FrameOut free D s (execExtBudgetPeriod t s) :=
  step' fun hs => .ite hs hs.withMpKept

theorem execExtPreempt {t : Nat} : FrameOut free D s (execExtPreempt t s) :=
  step' fun hs => .ite hs.withMpKept.bump hs

theorem execExtFault {t a : Nat} {write : Bool} : FrameOut free D s (execExtFault t a write s) := by
  refine step' fun hs => ?_
  exact .ite hs (hs.access fun hv => hv)

/-! ### HostCmds -/

theorem writeWords (h : Frame True D u s) {path : Path} {a : Nat} {ws : List Nat} : Frame True D u (s.writeWords path a ws).1 := by
  unfold State.writeWords
  dsimp only
  exact .withOut (.foldlFst (fun _ hs => hs.busWrite.pair) h)

theorem readWords (h : Frame free D u s) {path : Path} {a n : Nat} : Frame free D u (s.readWords path a n).1 := by
  unfold State.readWords
  dsimp only
  exact .withOut (.foldlFst (fun _ hs => hs.busRead.pair) h)

theorem hspiEnd (h : Frame free D u s) {result index len : Nat} {tail : List Byte} :
    Frame free D u (s.hspiEnd result index len tail) := by
  unfold State.hspiEnd
  dsimp only
  exact h.withHspi

theorem hspiRead (h : Frame free D u s) {b : List Byte} {count a : Nat} : Frame free D u (s.hspiRead b count a) := by
  unfold State.hspiRead
  dsimp only
  exact .ite h.hspiEnd h.readWords.hspiEnd

theorem hspiWrite (h : Frame True D u s) {b : List Byte} {count a : Nat} : Frame True D u (s.hspiWrite b count a) := by
  unfold State.hspiWrite
  dsimp only
  exact .ite h.hspiEnd (.ite h.hspiEnd h.writeWords.hspiEnd)

theorem hspiRun (h : Frame True D u s) {op : Nat} {b : List Byte} : Frame True D u (s.hspiRun op b) := by
  unfold State.hspiRun
  dsimp only
  exact .ite h.withOut (.ite h.withOut.hspiEnd (.ite h.withOut.hspiEnd (.ite h.withOut.hspiEnd (.ite h.withOut (.ite
    h.withOut.hspiRead h.withOut.hspiWrite)))))

theorem execHspiRead {t : Nat} {mosi : List Byte} : FrameOut True D s (execHspiRead t mosi s) :=
  step' fun hs => hs.hspiRun

theorem execHspiWrite {t : Nat} {mosi : List Byte} : FrameOut True D s (execHspiWrite t mosi s) :=
  step' fun hs => hs.hspiRun

theorem icpAnswer (h : Frame free D u s) {n : Fin 4} {f : NetPkt} {status detail : Nat} {payload : List Byte} :
    Frame free D u (s.icpAnswer n f status detail payload) := by
  unfold State.icpAnswer
  exact h.icpReply

theorem icpAuthFail (h : Frame free D u s) {n : Fin 4} {f : NetPkt} {step : Nat} : Frame free D u (s.icpAuthFail n f step) := by
  unfold State.icpAuthFail
  dsimp only
  exact .ite (.ite h.bump.raise h.bump.raise) (.modEth (.icpAnswer (.modEth (.ite h.bump.raise h.bump.raise))))

theorem icpTake (h : Frame free D u s) {n : Fin 4} {op : Nat} {act : State → NetPkt → State}
    (hact : ∀ {v f}, Frame free D u v → Frame free D u (act v f)) {fuel : Nat} : Frame free D u (s.icpTake n op act fuel) := by
  induction fuel generalizing s with
  | zero => exact h
  | succ fuel ih =>
    unfold State.icpTake
    dsimp only
    split
    · exact h
    · refine .ite (ih h.modEth) (.ite h ?_)
      split
      · exact .ite h.modEth.authenticate.icpAuthFail (ih h.modEth.authenticate.icpAuthFail)
      · exact .ite (hact h.modEth.authenticate) (ih h.modEth.authenticate.icpAnswer)

theorem icpRow (h : Frame free D u s) {n : Fin 4} {op : Nat} {runtime : Bool} {act : State → NetPkt → State}
    (hact : ∀ {v f}, Frame free D u v → Frame free D u (act v f)) : Frame free D u (s.icpRow n op runtime act) := by
  unfold State.icpRow
  exact .ite h.withOut (h.withOut.icpTake hact)

theorem icpRead (h : Frame free D u s) {n : Fin 4} {f : NetPkt} : Frame free D u (s.icpRead n f) := by
  unfold State.icpRead
  dsimp only
  exact .ite h.icpAnswer (.ite h.icpAnswer h.withIcpCur.readWords.withIcpCur.icpAnswer)

theorem icpWrite (h : Frame True D u s) {n : Fin 4} {f : NetPkt} : Frame True D u (s.icpWrite n f) := by
  unfold State.icpWrite
  dsimp only
  exact .ite h.icpAnswer (.ite h.icpAnswer h.withIcpCur.writeWords.withIcpCur.icpAnswer)

theorem icpMbx (h : Frame free D u s) {n : Fin 4} {f : NetPkt} : Frame free D u (s.icpMbx n f) := by
  unfold State.icpMbx
  dsimp only
  refine .ite h.icpAnswer ?_
  split
  · exact h.mbxPush
  · exact h.mbxPush.icpAnswer

theorem execIcpRead {t : Nat} {n : Fin 4} : FrameOut free D s (execIcpRead t n s) :=
  step' fun hs => hs.icpRow (fun hs => hs.icpRead)

theorem execIcpWrite {t : Nat} {n : Fin 4} : FrameOut True D s (execIcpWrite t n s) :=
  step' fun hs => hs.icpRow (fun hs => hs.icpWrite)

theorem execIcpMbx {t : Nat} {n : Fin 4} : FrameOut free D s (execIcpMbx t n s) :=
  step' fun hs => hs.icpRow (fun hs => hs.icpMbx)

theorem bulkReject (h : Frame free D u s) {n : Fin 4} {f : NetPkt} : Frame free D u (s.bulkReject n f) := by
  unfold State.bulkReject
  exact h.logEntry.icpAnswer

theorem bulkOpen (h : Frame free D u s) {n : Fin 4} {f : NetPkt} : Frame free D u (s.bulkOpen n f) := by
  unfold State.bulkOpen
  dsimp only
  exact .ite h.icpAnswer (.ite h.icpAnswer (.ite h.icpAnswer (.ite h.icpAnswer (.ite h.bulkReject h.withBulk.icpAnswer))))

theorem bulkOn (h : Frame free D u s) {n : Fin 4} {f : NetPkt} {g : State → Bulk → State}
    (hg : ∀ {v b}, Frame free D u v → Frame free D u (g v b)) : Frame free D u (s.bulkOn n f g) := by
  unfold State.bulkOn
  split
  · exact h.bulkReject
  · exact .ite h.withBulk.icpAnswer (.ite h.bulkReject (hg h))

theorem bulkData (h : Frame free D u s) {n : Fin 4} {f : NetPkt} : Frame free D u (s.bulkData n f) := by
  unfold State.bulkData
  dsimp only
  exact .ite h.icpAnswer (.ite h.icpAnswer (.ite h.icpAnswer (h.bulkOn (fun hs => hs.withBulk.icpAnswer))))

theorem bulkClose (h : Frame free D u s) {n : Fin 4} {f : NetPkt} : Frame free D u (s.bulkClose n f) := by
  unfold State.bulkClose
  exact .ite h.icpAnswer (h.bulkOn (fun hs => hs.withBulk.icpAnswer))

theorem bulkAbort (h : Frame free D u s) {n : Fin 4} {f : NetPkt} : Frame free D u (s.bulkAbort n f) := by
  unfold State.bulkAbort
  exact .ite h.icpAnswer (h.bulkOn (fun hs => hs.withBulk.icpAnswer))

theorem execBulkOpen {t : Nat} {n : Fin 4} : FrameOut free D s (execBulkOpen t n s) :=
  step' fun hs => hs.icpRow (fun hs => hs.bulkOpen)

theorem execBulkData {t : Nat} {n : Fin 4} : FrameOut free D s (execBulkData t n s) :=
  step' fun hs => hs.icpRow (fun hs => hs.bulkData)

theorem execBulkClose {t : Nat} {n : Fin 4} : FrameOut free D s (execBulkClose t n s) :=
  step' fun hs => hs.icpRow (fun hs => hs.bulkClose)

theorem execBulkAbort {t : Nat} {n : Fin 4} : FrameOut free D s (execBulkAbort t n s) :=
  step' fun hs => hs.icpRow (fun hs => hs.bulkAbort)

theorem execBulkCloseComplete {t : Nat} {ok : Bool} : FrameOut True D s (execBulkCloseComplete t ok s) := by
  refine step' fun hs => ?_
  split
  · exact hs
  · exact .ite hs (.ite hs.withBulk.icpReplyFor (.ite (.icpReplyFor (.ite hs.withBulk
      (hs.withBulk.withNvmMem (Memory.wf_setBytes _ _)))) hs.withBulk.icpReplyFor))

theorem execBulkIdle {t : Nat} : FrameOut free D s (execBulkIdle t s) := by
  refine step' fun hs => ?_
  split
  · exact hs
  · exact .ite hs.withBulk hs

end Sys2Proof.Machine.Frame

/-! ## What every command keeps -/

namespace Sys2Proof.Machine

theorem exec_frame (c : Instr) (s : State) : FrameOut True (fun _ => False) s (exec c s) := by
  unfold exec
  cases c with
  | registerWrite => exact Frame.execRegisterWrite
  | fsramWrite => exact Frame.execFsramWrite
  | apertureAccess => exact Frame.execApertureAccess
  | errCodeClear => exact Frame.execErrCodeClear
  | softReset => exact Frame.execSoftReset
  | blockEnable => exact Frame.execBlockEnable
  | freeze => exact Frame.execFreeze
  | irqSet => exact Frame.execIrqSet
  | lock => exact Frame.execLock
  | commitGo => exact Frame.execCommitGo
  | setupStart => exact Frame.execSetupStart
  | compTrigTimeout => exact Frame.execCompTrigTimeout
  | compositionStart => exact Frame.execCompositionStart
  | engBackBufferReady => exact Frame.execEngBackBufferReady
  | compositionEnd => exact Frame.execCompositionEnd
  | motionPublish => exact Frame.execMotionPublish
  | imsPacket => exact Frame.execImsPacket
  | assemblyTimeout => exact Frame.execAssemblyTimeout
  | rejectRecordExpiry => exact Frame.execRejectRecordExpiry
  | imsCfgWrite => exact Frame.execImsCfgWrite
  | frameStart => exact Frame.execFrameStart
  | repeatFrame => exact Frame.execRepeat
  | underrunPersist => exact Frame.execUnderrunPersist
  | holdH2Start => exact Frame.execHoldH2Start
  | holdEnd => exact Frame.execHoldEnd
  | blankingStart => exact Frame.execBlankingStart
  | planeStart => exact Frame.execPlaneStart
  | blockLoad => exact Frame.execBlockLoad
  | blockLoadComplete => exact Frame.execBlockLoadComplete
  | resetIssue => exact Frame.execResetIssue
  | underrun => exact Frame.execUnderrun
  | fsyncPulse => exact Frame.execFsyncPulse
  | fsyncPulseEnd => exact Frame.execFsyncPulseEnd
  | engStart => exact Frame.execEngStart
  | engStop => exact Frame.execEngStop
  | engStopDone => exact Frame.execEngStopDone
  | engPark => exact Frame.execEngPark
  | engFaultClear => exact Frame.execEngFaultClear
  | retrainRetry => exact Frame.execRetrainRetry
  | frameStartFinal => exact Frame.execFrameStartFinal
  | setpointFrame => exact Frame.execSetpointFrame
  | setptDead => exact Frame.execSetptDead
  | setpointLoadRetry => exact Frame.execSetpointLoadRetry
  | windowEdge => exact Frame.execWindowEdge
  | lselChange => exact Frame.execLselChange
  | pdSample => exact Frame.execPdSample
  | ratioStale => exact Frame.execRatioStale
  | winStuck => exact Frame.execWinStuck
  | linkLitCheck => exact Frame.execLinkLitCheck
  | pinMismatch => exact Frame.execPinMismatch
  | ilkClear => exact Frame.execIlkClear
  | ilkTest => exact Frame.execIlkTest
  | fallbackWindow => exact Frame.execFallbackWindow
  | fallbackRefresh => exact Frame.execFallbackRefresh
  | fallbackDark => exact Frame.execFallbackDark
  | trainingStepTimeout => exact Frame.execTrainingStepTimeout
  | trainingDone => exact Frame.execTrainingDone
  | markEcho => exact Frame.execMarkEcho
  | sidebandTransaction => exact Frame.execSidebandTransaction
  | sidebandTimeout => exact Frame.execSidebandTimeout
  | sbDead => exact Frame.execSbDead
  | attn => exact Frame.execAttn
  | linkStatPoll => exact Frame.execLinkStatPoll
  | tempPoll => exact Frame.execTempPoll
  | eyePoll => exact Frame.execEyePoll
  | crcWindow => exact Frame.execCrcWindow
  | groupProbe => exact Frame.execGroupProbe
  | rateSwitchTimeout => exact Frame.execRateSwitchTimeout
  | linkLoss => exact Frame.execLinkLoss
  | parkLoad => exact Frame.execParkLoad
  | turningPoint => exact Frame.execTurningPoint
  | turningPointMissed => exact Frame.execTurningPointMissed
  | slowAxisCheck => exact Frame.execSlowAxisCheck
  | lmodUpdate => exact Frame.execLmodUpdate
  | scnUnderrun => exact Frame.execScnUnderrun
  | scnFrameStart => exact Frame.execScnFrameStart
  | spinupSweepDone => exact Frame.execSpinupSweepDone
  | spinupDone => exact Frame.execSpinupDone
  | spinupFail => exact Frame.execSpinupFail
  | drivesStopped => exact Frame.execDrivesStopped
  | scnStart => exact Frame.execScnStart
  | scnStop => exact Frame.execScnStop
  | scnPark => exact Frame.execScnPark
  | scnFaultClear => exact Frame.execScnFaultClear
  | pttDataWrite => exact Frame.execPttDataWrite
  | npFrame => exact Frame.execNpFrame
  | npLatch => exact Frame.execNpLatch
  | npReturnFrame => exact Frame.execNpReturnFrame
  | chainOpen => exact Frame.execChainOpen
  | npEnum => exact Frame.execNpEnum
  | npStrobe => exact Frame.execNpStrobe
  | npStrobeMark => exact Frame.execNpStrobeMark
  | cfgAccess => exact Frame.execCfgAccess
  | npkDataAccess => exact Frame.execNpkDataAccess
  | keeperWakeFrame => exact Frame.execKeeperWakeFrame
  | keepaliveStrobe => exact Frame.execKeepaliveStrobe
  | mxFrameStart => exact Frame.execMxFrameStart
  | mxRowSlot => exact Frame.execMxRowSlot
  | mxUnderrun => exact Frame.execMxUnderrun
  | teEdge => exact Frame.execTeEdge
  | mxTransferComplete => exact Frame.execMxTransferComplete
  | teTimeout => exact Frame.execTeTimeout
  | mxResend => exact Frame.execMxResend
  | tclkTick => exact Frame.execTclkTick
  | timeIncrWrite => exact Frame.execTimeIncrWrite
  | timeAdjSet => exact Frame.execTimeAdjSet
  | timeAdjStep => exact Frame.execTimeAdjStep
  | timeSlewWrite => exact Frame.execTimeSlewWrite
  | freerun => exact Frame.execFreerun
  | pdelayWrite => exact Frame.execPdelayWrite
  | holdoffEnd => exact Frame.execHoldoffEnd
  | timeNowRead => exact Frame.execTimeNowRead
  | engFstartNsRead => exact Frame.execEngFstartNsRead
  | scnFstartNsRead => exact Frame.execScnFstartNsRead
  | ltnIlkTimeNsRead => exact Frame.execLtnIlkTimeNsRead
  | npLatchNsRead => exact Frame.execNpLatchNsRead
  | mxFstartNsRead => exact Frame.execMxFstartNsRead
  | timePpsinNsRead => exact Frame.execTimePpsinNsRead
  | thermShutNsRead => exact Frame.execThermShutNsRead
  | txqPush => exact Frame.execTxqPush
  | txqPop => exact Frame.execTxqPop
  | ppsOut => exact Frame.execPpsOut
  | ppsOutEnd => exact Frame.execPpsOutEnd
  | ppsIn => exact Frame.execPpsIn
  | ppsinValidExpiry => exact Frame.execPpsinValidExpiry
  | schedWrite => exact Frame.execSchedWrite
  | schedRead => exact Frame.execSchedRead
  | schedCancel => exact Frame.execSchedCancel
  | schedDispatch => exact Frame.execSchedDispatch
  | strobeHandover => exact Frame.execStrobeHandover
  | dmcTrain => exact Frame.execDmcTrain
  | trainDone => exact Frame.execTrainDone
  | srEnter => exact Frame.execSrEnter
  | srExit => exact Frame.execSrExit
  | dmcStop => exact Frame.execDmcStop
  | phyPllLoss => exact Frame.execPhyPllLoss
  | portRequest => exact Frame.execPortRequest
  | writeQueueEntry => exact Frame.execWriteQueueEntry
  | requestComplete => exact Frame.execRequestComplete
  | grantBoundary => exact Frame.execGrantBoundary
  | refreshDue => exact Frame.execRefreshDue
  | retrainSlice => exact Frame.execRetrainSlice
  | mr4Read => exact Frame.execMr4Read
  | rhWindowEnd => exact Frame.execRhWindowEnd
  | powerDownEntry => exact Frame.execPowerDownEntry
  | mbxPush => exact Frame.execMbxPush
  | mbxPop => exact Frame.execMbxPop
  | rspDrop => exact Frame.execRspDrop
  | mbxCommandTimeout => exact Frame.execMbxCommandTimeout
  | ping => exact Frame.execPing
  | engineStart => exact Frame.execEngineStart
  | engineStop => exact Frame.execEngineStop
  | enginePark => exact Frame.execEnginePark
  | engineFaultClear => exact Frame.execEngineFaultClear
  | programLoad => exact Frame.execProgramLoad
  | calRun => exact Frame.execCalRun
  | calStore => exact Frame.execCalStore
  | nvmCommit => exact Frame.execNvmCommit
  | timeSet => exact Frame.execTimeSet
  | seqStart => exact Frame.execSeqStart
  | contentOpen => exact Frame.execContentOpen
  | contentOpenDone => exact Frame.execContentOpenDone
  | logStop => exact Frame.execLogStop
  | logEventLog => exact Frame.execLogEventLog
  | logRecorder => exact Frame.execLogRecorder
  | logFlush => exact Frame.execLogFlush
  | powerStateRun => exact Frame.execPowerStateRun
  | powerStateStandby => exact Frame.execPowerStateStandby
  | powerStateBivouac => exact Frame.execPowerStateBivouac
  | bivouacEntry => exact Frame.execBivouacEntry
  | diagSnapshot => exact Frame.execDiagSnapshot
  | mpLoadWindow => exact Frame.execMpLoadWindow
  | extBudgetPeriod => exact Frame.execExtBudgetPeriod
  | extPreempt => exact Frame.execExtPreempt
  | extFault => exact Frame.execExtFault
  | lockstep => exact Frame.execLockstep
  | mpFault => exact Frame.execMpFault
  | wdogKick => exact Frame.execWdogKick
  | wdogExpiry => exact Frame.execWdogExpiry
  | runtimeUp => exact Frame.execRuntimeUp
  | shortWindowClose => exact Frame.execShortWindowClose
  | longWindowClose => exact Frame.execLongWindowClose
  | hspiRead => exact Frame.execHspiRead
  | hspiWrite => exact Frame.execHspiWrite
  | icpRead => exact Frame.execIcpRead
  | icpWrite => exact Frame.execIcpWrite
  | icpMbx => exact Frame.execIcpMbx
  | bulkOpen => exact Frame.execBulkOpen
  | bulkData => exact Frame.execBulkData
  | bulkClose => exact Frame.execBulkClose
  | bulkCloseComplete => exact Frame.execBulkCloseComplete
  | bulkAbort => exact Frame.execBulkAbort
  | bulkIdle => exact Frame.execBulkIdle
  | basecampPowerOn => exact Frame.execBasecampPowerOn
  | vbatSample => exact Frame.execVbatSample
  | pfw => exact Frame.execPfw
  | pfwEnd => exact Frame.execPfwEnd
  | vbatOv => exact Frame.execVbatOv
  | vbatOvEnd => exact Frame.execVbatOvEnd
  | supplyLoss => exact Frame.execSupplyLoss
  | supplyPowerDown => exact Frame.execSupplyPowerDown
  | supplyRestart => exact Frame.execSupplyRestart
  | restartCountClear => exact Frame.execRestartCountClear
  | seqStepComplete => exact Frame.execSeqStepComplete
  | stepDelayExpiry => exact Frame.execStepDelayExpiry
  | pgTimeout => exact Frame.execPgTimeout
  | xtalGood => exact Frame.execXtalGood
  | xtalStart => exact Frame.execXtalStart
  | seqDownStep => exact Frame.execSeqDownStep
  | xtalMonitorWindow => exact Frame.execXtalMonitorWindow
  | xtalFailPersist => exact Frame.execXtalFailPersist
  | avsUpdate => exact Frame.execAvsUpdate
  | pdReqWrite => exact Frame.execPdReqWrite
  | domainOn => exact Frame.execDomainOn
  | pwrCmdRun => exact Frame.execPwrCmdRun
  | pwrCmdStandby => exact Frame.execPwrCmdStandby
  | pwrCmdBivouac => exact Frame.execPwrCmdBivouac
  | wakePin => exact Frame.execWakePin
  | wakeQualified => exact Frame.execWakeQualified
  | wakeTimer => exact Frame.execWakeTimer
  | pinReset => exact Frame.execPinReset
  | nresetRise => exact Frame.execNresetRise
  | systemReset => exact Frame.execSystemReset
  | vbatLoss => exact Frame.execVbatLoss
  | vbatMinWrite => exact Frame.execVbatMinWrite
  | pbaGrant => exact Frame.execPbaGrant
  | pbaEvaluation => exact Frame.execPbaEvaluation
  | waitLong => exact Frame.execWaitLong
  | sensorSample => exact Frame.execSensorSample
  | tsbSample => exact Frame.execTsbSample
  | xtSample => exact Frame.execXtSample
  | throtStepUp => exact Frame.execThrotStepUp
  | throtStepDown => exact Frame.execThrotStepDown
  | revalidate => exact Frame.execRevalidate
  | thermalRestart => exact Frame.execThermalRestart
  | calMeasurementStart => exact Frame.execCalMeasurementStart
  | calMeasurementDone => exact Frame.execCalMeasurementDone
  | calUnstable => exact Frame.execCalUnstable
  | calCmd => exact Frame.execCalCmd
  | calTimeout => exact Frame.execCalTimeout
  | nvmProgram => exact Frame.execNvmProgram
  | nvmRead => exact Frame.execNvmRead
  | nvmGranuleDone => exact Frame.execNvmGranuleDone
  | nvmScan => exact Frame.execNvmScan
  | scanDone => exact Frame.execScanDone
  | boot => exact Frame.execBoot
  | recoveryBoot => exact Frame.execRecoveryBoot
  | keyWrite => exact Frame.execKeyWrite
  | keyErase => exact Frame.execKeyErase
  | keyLock => exact Frame.execKeyLock
  | keyRevoke => exact Frame.execKeyRevoke
  | svnAdvance => exact Frame.execSvnAdvance
  | ethFrameRx => exact Frame.execEthFrameRx
  | ethTxDoorbell => exact Frame.execEthTxDoorbell
  | ethFrameTx => exact Frame.execEthFrameTx
  | linkChange => exact Frame.execLinkChange
  | msecSaInstall => exact Frame.execMsecSaInstall
  | canFrameRx => exact Frame.execCanFrameRx
  | canFrameTx => exact Frame.execCanFrameTx
  | busOff => exact Frame.execBusOff
  | canRecover => exact Frame.execCanRecover
  | storLinkUp => exact Frame.execStorLinkUp
  | storShutdown => exact Frame.execStorShutdown
  | storLinkDrop => exact Frame.execStorLinkDrop
  | storDoorbell => exact Frame.execStorDoorbell
  | cqPosted => exact Frame.execCqPosted
  | nvmeTimeout => exact Frame.execNvmeTimeout
  | storInitDone => exact Frame.execStorInitDone
  | busOffRecoveryDone => exact Frame.execBusOffRecoveryDone
  | keeperFrameEnd => exact Frame.execKeeperFrameEnd

/-- Settles O3: the relation holds at the machine that each command leaves. -/
theorem commandsKeepQueueAndPackage : Obligations.CommandsKeepQueueAndPackage :=
  fun c s u hu => ⟨(exec_frame c s u hu).pending, (exec_frame c s u hu).pkg⟩

/-- Settles O4. -/
theorem timeNeverRunsBack : Obligations.TimeNeverRunsBack := fun c s u hu => (exec_frame c s u hu).now

/-- Settles O6: a step is the front command on the machine with the queue's rest, and the queue has no part in the canonical form. -/
theorem stepKeepsCanonicalForm : Obligations.StepKeepsCanonicalForm := by
  intro s u hs hu
  cases hq : s.pending with
  | nil =>
    rw [stepIdlesOnAnEmptyQueue s hq] at hu
    exact Host.Outcome.next.inj hu ▸ hs
  | cons c rest =>
    rw [stepRunsTheFrontCommand c rest s hq] at hu
    exact (exec_frame c _ u hu).canonical hs

end Sys2Proof.Machine

/-! ## Commands that store nothing -/

namespace Sys2Proof.Machine.Frame

/-- A command that has the relation with nothing free keeps the memories. -/
theorem keepsMemories {c : Nat → Instr} (h : ∀ {t s}, FrameOut False (fun _ => False) s (exec (c t) s)) : KeepsMemories c := by
  intro t s v hv
  obtain ⟨⟨htcm, hfsram, hnvm, hstore⟩, hdram⟩ := (h v hv).mem.resolve_left id
  exact ⟨fun a => ⟨by rw [htcm], by rw [hfsram], by rw [hnvm], by rw [hstore]⟩, fun hrec a => (hdram hrec).2 a id⟩

end Sys2Proof.Machine.Frame

namespace Sys2Proof.Machine

open Sys2Proof.Machine.Frame (keepsMemories)

/-- Settles O41, by the relation of each command with nothing free. -/
theorem lightPathCommandsKeepMemories : Obligations.LightPathCommandsKeepMemories :=
  ⟨keepsMemories Frame.execSetupStart, keepsMemories Frame.execCompTrigTimeout, keepsMemories Frame.execCompositionStart,
    keepsMemories Frame.execCompositionEnd, fun _ => keepsMemories Frame.execAssemblyTimeout,
    keepsMemories Frame.execRejectRecordExpiry, fun _ => keepsMemories Frame.execFrameStart,
    fun _ => keepsMemories Frame.execRepeat, fun _ => keepsMemories Frame.execUnderrunPersist,
    fun _ => keepsMemories Frame.execHoldH2Start, fun _ => keepsMemories Frame.execHoldEnd,
    fun _ => keepsMemories Frame.execBlankingStart, fun _ => keepsMemories Frame.execPlaneStart,
    fun _ => keepsMemories Frame.execBlockLoad, fun _ => keepsMemories Frame.execBlockLoadComplete,
    fun _ => keepsMemories Frame.execResetIssue, fun _ => keepsMemories Frame.execUnderrun,
    fun _ => keepsMemories Frame.execFsyncPulse, fun _ => keepsMemories Frame.execFsyncPulseEnd,
    fun _ => keepsMemories Frame.execRetrainRetry, fun _ => keepsMemories Frame.execFrameStartFinal,
    fun _ _ => keepsMemories Frame.execSetpointFrame, fun _ => keepsMemories Frame.execSetptDead,
    fun _ => keepsMemories Frame.execSetpointLoadRetry, fun _ _ => keepsMemories Frame.execWindowEdge,
    fun _ => keepsMemories Frame.execLselChange, fun _ _ _ => keepsMemories Frame.execPdSample,
    fun _ _ => keepsMemories Frame.execRatioStale, fun _ _ => keepsMemories Frame.execWinStuck,
    fun _ _ _ => keepsMemories Frame.execLinkLitCheck, fun _ _ _ => keepsMemories Frame.execPinMismatch,
    fun _ => keepsMemories Frame.execFallbackWindow, fun _ => keepsMemories Frame.execFallbackRefresh,
    fun _ => keepsMemories Frame.execFallbackDark, fun _ => keepsMemories Frame.execTrainingStepTimeout,
    fun _ _ => keepsMemories Frame.execTrainingDone, fun _ _ _ => keepsMemories Frame.execMarkEcho,
    fun _ _ _ _ _ => keepsMemories Frame.execSidebandTransaction, fun _ => keepsMemories Frame.execSidebandTimeout,
    fun _ => keepsMemories Frame.execSbDead, fun _ _ _ _ _ => keepsMemories Frame.execAttn,
    fun _ _ => keepsMemories Frame.execLinkStatPoll, fun _ _ => keepsMemories Frame.execTempPoll,
    fun _ _ => keepsMemories Frame.execEyePoll, fun _ => keepsMemories Frame.execCrcWindow,
    fun _ _ => keepsMemories Frame.execGroupProbe, fun _ => keepsMemories Frame.execRateSwitchTimeout,
    fun _ _ _ => keepsMemories Frame.execLinkLoss, fun _ _ _ _ => keepsMemories Frame.execTurningPoint,
    fun _ => keepsMemories Frame.execTurningPointMissed, fun _ _ => keepsMemories Frame.execSlowAxisCheck,
    fun _ => keepsMemories Frame.execLmodUpdate, fun _ => keepsMemories Frame.execScnUnderrun,
    fun _ _ => keepsMemories Frame.execSpinupSweepDone, fun _ => keepsMemories Frame.execSpinupDone,
    fun _ => keepsMemories Frame.execSpinupFail, fun _ => keepsMemories Frame.execKeeperWakeFrame,
    fun _ => keepsMemories Frame.execKeepaliveStrobe, fun _ => keepsMemories Frame.execMxRowSlot,
    fun _ _ => keepsMemories Frame.execMxUnderrun, fun _ => keepsMemories Frame.execKeeperFrameEnd⟩

/-- Settles O42, by the relation of each command with nothing free. -/
theorem supplyCommandsKeepMemories : Obligations.SupplyCommandsKeepMemories :=
  ⟨keepsMemories Frame.execLockstep, fun _ => keepsMemories Frame.execMpFault, keepsMemories Frame.execWdogExpiry,
    keepsMemories Frame.execRuntimeUp, keepsMemories Frame.execShortWindowClose, keepsMemories Frame.execLongWindowClose,
    fun _ => keepsMemories Frame.execVbatSample, fun _ _ => keepsMemories Frame.execPfw,
    fun _ _ => keepsMemories Frame.execPfwEnd, fun _ _ => keepsMemories Frame.execVbatOv,
    fun _ _ => keepsMemories Frame.execVbatOvEnd, fun _ => keepsMemories Frame.execSupplyLoss,
    keepsMemories Frame.execRestartCountClear, keepsMemories Frame.execPgTimeout, keepsMemories Frame.execXtalGood,
    keepsMemories Frame.execXtalStart, keepsMemories Frame.execXtalFailPersist, fun _ => keepsMemories Frame.execAvsUpdate,
    fun _ => keepsMemories Frame.execDomainOn, fun _ _ => keepsMemories Frame.execWakePin, keepsMemories Frame.execPbaGrant,
    keepsMemories Frame.execPbaEvaluation, keepsMemories Frame.execWaitLong,
    fun i r => keepsMemories (Frame.execSensorSample (i := i) (r := r)), fun _ _ => keepsMemories Frame.execXtSample,
    keepsMemories Frame.execThrotStepUp, keepsMemories Frame.execThrotStepDown,
    fun _ _ _ _ _ => keepsMemories Frame.execCalMeasurementStart, fun _ _ _ => keepsMemories Frame.execCalMeasurementDone,
    fun _ _ => keepsMemories Frame.execCalUnstable, keepsMemories Frame.execCalTimeout, keepsMemories Frame.execNvmScan,
    keepsMemories Frame.execScanDone⟩

end Sys2Proof.Machine

/-! ## A mask packet stores in the slot area (R73, R74) -/

namespace Sys2Proof.Machine

/-! ### Time passes (R271, R275) -/

theorem SamePages.tickAdj {s u : State} {ps : List Page} (h : SamePages s u ps) {adj : ClockAdj} (hp : .time ∈ ps) :
    SamePages s (u.tickAdj adj) ps := by
  unfold State.tickAdj
  extract_lets _ _ _ _ _ _ u1 _ u2 u3 u4
  have h3 : SamePages s u3 ps := .put (.hidden (.hidden h rfl) rfl) hp (by decide)
  have h4 : SamePages s u4 ps := .ite (fun _ => h3.put hp (by decide)) fun _ => h3
  exact (h4.bump hp (by decide)).raise hp

theorem SamePages.ticks {s u : State} {ps : List Page} (h : SamePages s u ps) {k : Nat} (hp : .time ∈ ps) :
    SamePages s (u.ticks k) ps := by
  unfold State.ticks
  split
  · exact h
  · exact h.tickAdj hp
  · exact (h.tickAdj hp).hidden rfl
  · extract_lets c done w
    have hw : SamePages s w ps := .hidden h rfl
    exact .ite (fun _ => (hw.put hp (by decide)).raise hp) fun _ => hw

theorem State.samePages_at (s : State) (t : Nat) : SamePages s (s.at t) [.time] := by
  have hlater : SamePages s { s with now := t, pulses := [], recent := [] } [.time] := (SamePages.refl s _).hidden rfl
  exact .ite (fun _ => .refl s _) fun _ => .ite (fun _ => hlater.ticks (List.mem_singleton.mpr rfl)) fun _ => hlater

/-! ### The sizes of what a body holds -/

theorem tileCodes_length {coding : Nat} {data c : List Nat} (h : tileCodes coding data = some c) : c.length = 1024 := by
  unfold tileCodes at h
  split at h
  · obtain ⟨hlen, hc⟩ := Option.ite_none_right_eq_some.mp h
    exact Option.some.inj hc ▸ hlen
  · obtain ⟨-, hc⟩ := Option.ite_none_right_eq_some.mp h
    rw [← Option.some.inj hc, List.length_replicate]
  · obtain ⟨-, h⟩ := Option.ite_none_left_eq_some.mp h
    obtain ⟨hlen, hc⟩ := Option.ite_none_right_eq_some.mp h
    exact Option.some.inj hc ▸ hlen

theorem tileRecords_length {tiles fuel : Nat} {b : List Nat} {l : List (Nat × List Nat)} (h : tileRecords tiles fuel b = .ok l) :
    ∀ e ∈ l, e.2.length = 1024 := by
  induction fuel generalizing b l with
  | zero =>
    cases h
    exact fun _ he => absurd he List.not_mem_nil
  | succ fuel ih =>
    cases b with
    | nil =>
      cases h
      exact fun _ he => absurd he List.not_mem_nil
    | cons x b =>
      unfold tileRecords at h
      dsimp only at h
      split at h
      · cases h
      · split at h
        · cases h
        · split at h
          · cases h
          · next c hc =>
            split at h
            · cases h
            · split at h
              · cases h
              · next l' hl =>
                cases h
                exact List.forall_mem_cons.mpr ⟨tileCodes_length hc, ih hl⟩

/-! ### Bytes outside what is stored -/

theorem memByte_setBytes_outside (bs : List Byte) {m : List (Nat × Byte)} {a b : Nat} (h : b < a ∨ a + bs.length ≤ b) :
    memByte (memSetBytes m a bs) b = memByte m b := by
  induction bs generalizing m a with
  | nil => rfl
  | cons x bs ih =>
    rw [List.length_cons] at h
    exact (ih (by omega)).trans (memByte_setByte_ne m x (by omega))

/-- The DRAM changes within `D`. -/
theorem Frame.withDramIn {free : Prop} {D : Nat → Prop} {u s : State} (h : Frame free D u s) {m : List (Nat × Byte)}
    (hm : Memory.wf s.dram = true → Memory.wf m = true) (hD : ∀ a, ¬ D a → memByte m a = memByte s.dram a) :
    Frame free D u { s with dram := m } := by
  refine ⟨fun hu => ?_, h.pending, h.pkg, h.now, h.mem.imp id fun ⟨hchip, hdram⟩ => ⟨hchip, fun hu => ?_⟩⟩
  · obtain ⟨hr, hi, hh, hst, ht, hf, hd, hn, hk⟩ := (State.canonical_iff s).mp (h.canonical hu)
    exact (State.canonical_iff _).mpr ⟨hr, hi, hh, hst, ht, hf, hm hd, hn, hk⟩
  · exact ⟨(hdram hu).1, fun a ha => (hD a ha).trans ((hdram hu).2 a ha)⟩

/-! ### The relation of ingest: the base of the slots stands, and the DRAM changes within their area -/

abbrev State.maskBase (s : State) : Nat := s.get (.comp 7) IMS_MASK_BASE

/-- The four mask slots of 1 MiB (R73). -/
def State.slotArea (s : State) (a : Nat) : Prop := 64 * s.maskBase ≤ a ∧ a < 64 * s.maskBase + 0x400000

structure InSlots (u s : State) : Prop where
  frame : Frame False u.slotArea u s
  base : s.maskBase = u.maskBase

namespace InSlots

variable {u s v : State}

theorem ite {c : Prop} [Decidable c] (hs : InSlots u s) (hv : InSlots u v) : InSlots u (if c then s else v) := by
  split
  · exact hs
  · exact hv

theorem foldl {α : Type} {f : State → α → State} {l : List α} (hf : ∀ {s} (a : α), InSlots u s → InSlots u (f s a))
    (h : InSlots u s) : InSlots u (l.foldl f s) := by
  induction l generalizing s with
  | nil => exact h
  | cons a l ih => exact ih (hf a h)

theorem withIms (h : InSlots u s) {x} : InSlots u { s with ims := x } := ⟨h.frame.withIms, h.base⟩
theorem withSec (h : InSlots u s) {x} : InSlots u { s with sec := x } := ⟨h.frame.withSec, h.base⟩
theorem withEth (h : InSlots u s) {x} : InSlots u { s with eth := x } := ⟨h.frame.withEth, h.base⟩
theorem modEth (h : InSlots u s) {n : Fin 4} {f : EthPort → EthPort} : InSlots u (s.modEth n f) := h.withEth

theorem put (h : InSlots u s) {p : Page} {f : RF} {x : Nat} (hf : f.off ≠ IMS_MASK_BASE.off ∧ f.off < 0x1000) :
    InSlots u (s.put p f x) :=
  ⟨h.frame.put, (State.get_put_anyoff s p (.comp 7) f IMS_MASK_BASE x hf.1 hf.2 (by decide)).trans h.base⟩

theorem count (h : InSlots u s) {p : Page} {f : RF} {n : Nat} (hf : f.off ≠ IMS_MASK_BASE.off ∧ f.off < 0x1000) :
    InSlots u (s.count p f n) :=
  ⟨h.frame.count, (State.get_put_anyoff _ p (.comp 7) f IMS_MASK_BASE _ hf.1 hf.2 (by decide)).trans
    ((State.note_get _ _ _ _ _ _).trans h.base)⟩

theorem bump (h : InSlots u s) {p : Page} {f : RF} (hf : f.off ≠ IMS_MASK_BASE.off ∧ f.off < 0x1000) :
    InSlots u (s.bump p f) := h.count hf

theorem raise (h : InSlots u s) {p : Page} {b : Nat} : InSlots u (s.raise p b) :=
  ⟨h.frame.raise, (State.get_raise s p (.comp 7) b IMS_MASK_BASE (by decide)).trans h.base⟩

theorem imsShow (h : InSlots u s) : InSlots u s.imsShow := by
  unfold State.imsShow
  refine .foldl (fun i hs => .put (.put hs ?_) ?_) h
  · exact show 0x50 + 4 * i.val ≠ 0x48 ∧ 0x50 + 4 * i.val < 0x1000 by omega
  · exact show 0x70 + 4 * i.val ≠ 0x48 ∧ 0x70 + 4 * i.val < 0x1000 by omega

theorem setSlot (h : InSlots u s) {i : Fin 4} {m : MaskSlot} : InSlots u (s.setSlot i m) := h.withIms.imsShow

theorem supersede (h : InSlots u s) {i : Fin 4} : InSlots u (s.supersede i) := by
  unfold State.supersede
  exact .ite h (h.setSlot.bump (by decide)).raise

theorem imsReject (h : InSlots u s) {slot : Option (Fin 4)} {id : Option Nat} {cnt : RF}
    (hcnt : cnt = MASK_LEN_CNT ∨ cnt = MASK_PARAM_CNT) : InSlots u (s.imsReject slot id cnt) := by
  have hbump : InSlots u ((s.bump (.comp 7) cnt).raise (.comp 0) COMP_EV_MASK_ERR) := by
    obtain rfl | rfl := hcnt
    · exact (h.bump (by decide)).raise
    · exact (h.bump (by decide)).raise
  have hslot : InSlots u (match slot with
      | some i => ((s.bump (.comp 7) cnt).raise (.comp 0) COMP_EV_MASK_ERR).setSlot i {}
      | none => (s.bump (.comp 7) cnt).raise (.comp 0) COMP_EV_MASK_ERR) := by
    cases slot with
    | none => exact hbump
    | some i => exact hbump.setSlot
  unfold State.imsReject
  cases id with
  | none => exact hslot
  | some k => exact hslot.withIms

theorem imsAlloc (h : InSlots u s) : InSlots u s.imsAlloc.1 := by
  unfold State.imsAlloc
  dsimp only
  split
  · exact h
  · split
    · exact h.supersede
    · split
      · exact h.bump (by decide)
      · exact h

theorem imsComplete (h : InSlots u s) {i : Fin 4} : InSlots u (s.imsComplete i) := by
  unfold State.imsComplete
  exact .ite (.bump (.setSlot (.raise (.bump h (by decide)))) (by decide))
    (.withIms (.setSlot (.foldl (fun _ hs => .ite hs.supersede hs) (.raise (.bump h (by decide))))))

/-- What is stored lies within its slot: the place is taken with room for it. -/
theorem imsStore (h : InSlots u s) {i : Fin 4} {sizes : List Nat} (hsizes : ∀ n ∈ sizes, n < 0x100000) :
    InSlots u (s.imsStore i sizes) := by
  unfold State.imsStore
  induction sizes generalizing s with
  | nil => exact h
  | cons n sizes ih =>
    obtain ⟨hn, hrest⟩ := List.forall_mem_cons.mp hsizes
    refine ih ⟨?_, h.base⟩ hrest
    refine (h.frame.tookFree.withDramIn (Memory.wf_setBytes _ _) fun a ha => memByte_setBytes_outside _ ?_).withFresh
    have hplace : s.freeWord.toNat % (0x100000 - n) < 0x100000 - n := Nat.mod_lt _ (by omega)
    have hbase : s.get (.comp 7) IMS_MASK_BASE = u.maskBase := h.base
    have hout : ¬ (64 * u.maskBase ≤ a ∧ a < 64 * u.maskBase + 0x400000) := ha
    have hi : i.val * 0x100000 ≤ 3 * 0x100000 := Nat.mul_le_mul_right _ (by omega)
    rw [hbase, List.length_map, List.length_range]
    omega

theorem fillSlot (h : InSlots u s) {i : Fin 4} {m : MaskSlot} {sizes : List Nat} (hsizes : ∀ n ∈ sizes, n < 0x100000)
    {c : Prop} [Decidable c] :
    InSlots u (if c then ((s.setSlot i m).imsStore i sizes).imsComplete i else (s.setSlot i m).imsStore i sizes) :=
  .ite (h.setSlot.imsStore hsizes).imsComplete (h.setSlot.imsStore hsizes)

/-- The tiles of a segment that its mask does not hold yet. -/
def newTiles (m : MaskSlot) (tiles : List (Nat × List Nat)) : List (Nat × List Nat) :=
  tiles.foldl (fun l t => if m.tiles.any (·.1 == t.1) || l.any (·.1 == t.1) then l else l ++ [t]) []

theorem newTiles_length {m : MaskSlot} {tiles : List (Nat × List Nat)} (h : ∀ t ∈ tiles, t.2.length = 1024) :
    ∀ t ∈ newTiles m tiles, t.2.length = 1024 := by
  refine List.foldlRecOn (motive := fun (l : List (Nat × List Nat)) => ∀ t ∈ l, t.2.length = 1024) tiles _
    (fun _ ht => absurd ht List.not_mem_nil) fun l hl t ht => ?_
  split
  · exact hl
  · exact List.forall_mem_append.mpr ⟨hl, List.forall_mem_singleton.mpr (h t ht)⟩

theorem imsJoin (h : InSlots u s) {slot : Option (Fin 4)} {m : MaskSlot} {idx : Nat} {tiles : List (Nat × List Nat)}
    {objs : List MaskObj} (htiles : ∀ t ∈ tiles, t.2.length = 1024) : InSlots u (s.imsJoin slot m idx tiles objs) := by
  have hsizes : ∀ n ∈ ((newTiles m tiles).map fun t => t.2.length) ++ objs.map fun _ => 20, n < 0x100000 := by
    refine List.forall_mem_append.mpr ⟨List.forall_mem_map.mpr fun (t : Nat × List Nat) ht => ?_,
      List.forall_mem_map.mpr fun _ _ => by decide⟩
    rw [newTiles_length htiles t ht]
    decide
  unfold State.imsJoin
  cases slot with
  | some i => exact fillSlot (h.count (by decide)) hsizes
  | none =>
    dsimp only
    split
    · exact .imsAlloc (h.count (by decide))
    · exact fillSlot (.imsAlloc (h.count (by decide))) hsizes

theorem imsSegment (h : InSlots u s) {b : List Nat} : InSlots u (s.imsSegment b) := by
  unfold State.imsSegment
  dsimp only
  refine .ite (h.imsReject (.inl rfl)) (.ite h (.ite (h.imsReject (.inr rfl)) (.ite (h.imsReject (.inr rfl))
    (.ite (h.imsReject (.inl rfl)) (.ite (h.bump (by decide)) (.ite ?_ ?_))))))
  · split
    · next e _ => exact h.imsReject (by cases e <;> simp)
    · next ht => exact h.imsJoin (tileRecords_length ht)
  · split
    · next e _ => exact h.imsReject (by cases e <;> simp)
    · exact .ite (h.imsReject (.inl rfl)) (h.imsJoin fun _ ht => absurd ht List.not_mem_nil)

theorem authenticate (h : InSlots u s) {usage : Nat} {n : Fin 4} {f : NetPkt} : InSlots u (s.authenticate usage n f).1 := by
  unfold State.authenticate
  dsimp only
  split
  · exact h
  · split
    · exact h
    · split
      · exact h
      · split
        · exact h
        · exact h.withSec

theorem imsTake (h : InSlots u s) {n : Fin 4} : InSlots u (s.imsTake n) := by
  unfold State.imsTake
  dsimp only
  split
  · exact h
  · refine .ite h.modEth ?_
    split
    · exact (h.modEth.authenticate.bump (by decide)).raise
    · exact (h.modEth.authenticate.bump (by decide)).raise
    · exact .ite h.modEth.authenticate.imsSegment h.modEth.authenticate

theorem imsLower (h : InSlots u s) {n : Fin 4} {f : NetPkt} : InSlots u (s.imsLower n f) := by
  unfold State.imsLower
  exact .foldl (fun _ hs => .ite hs.imsTake hs) h

theorem atInstant (s : State) (t : Nat) : InSlots s (s.at t) :=
  ⟨(Frame.refl s).atInstant, (s.samePages_at t).get (by decide) (by decide) (by decide)⟩

theorem execImsPacket {s v : State} {t : Nat} {n : Fin 4} (hv : execImsPacket t n s = .next v) : InSlots s v := by
  have hat : InSlots s (s.at t) := atInstant s t
  unfold Sys2Proof.Machine.execImsPacket State.step' at hv
  rw [← Host.Outcome.next.inj hv]
  dsimp only
  split
  · exact hat
  · exact .ite hat.imsLower hat.imsLower.imsTake

end InSlots

theorem execImsPacket_memories (n : Fin 4) (t : Nat) (s v : State) (hv : exec (.imsPacket t n) s = .next v) :
    SameOnChip s v ∧ (s.mp.recRun = false → ∀ a, a < 64 * s.get (.comp 7) IMS_MASK_BASE ∨
      64 * s.get (.comp 7) IMS_MASK_BASE + 0x400000 ≤ a → memByte v.dram a = memByte s.dram a) := by
  obtain ⟨⟨htcm, hfsram, hnvm, hstore⟩, hdram⟩ := (InSlots.execImsPacket hv).frame.mem.resolve_left id
  refine ⟨fun a => ⟨by rw [htcm], by rw [hfsram], by rw [hnvm], by rw [hstore]⟩, fun hrec a ha => (hdram hrec).2 a ?_⟩
  rintro ⟨hlo, hhi⟩
  exact ha.elim (Nat.not_lt.mpr hlo) (Nat.not_le.mpr hhi)

open Sys2Proof.Machine.Frame (keepsMemories)

/-- Settles O43. -/
theorem serviceCommandsKeepMemories : Obligations.ServiceCommandsKeepMemories :=
  ⟨execImsPacket_memories, keepsMemories Frame.execTclkTick, keepsMemories Frame.execFreerun,
    keepsMemories Frame.execHoldoffEnd, fun _ => keepsMemories Frame.execTimeNowRead,
    fun _ _ => keepsMemories Frame.execEngFstartNsRead, fun _ _ => keepsMemories Frame.execScnFstartNsRead,
    fun _ _ => keepsMemories Frame.execLtnIlkTimeNsRead, fun _ _ => keepsMemories Frame.execNpLatchNsRead,
    fun _ _ => keepsMemories Frame.execMxFstartNsRead, fun _ => keepsMemories Frame.execTimePpsinNsRead,
    fun _ => keepsMemories Frame.execThermShutNsRead, fun _ _ => keepsMemories Frame.execTxqPop,
    keepsMemories Frame.execPpsOut, keepsMemories Frame.execPpsOutEnd, fun _ => keepsMemories Frame.execPpsIn,
    keepsMemories Frame.execPpsinValidExpiry, keepsMemories Frame.execStrobeHandover,
    fun _ => keepsMemories Frame.execTrainDone, keepsMemories Frame.execPhyPllLoss,
    fun _ _ _ _ _ => keepsMemories Frame.execPortRequest, fun _ _ => keepsMemories Frame.execRequestComplete,
    fun _ _ _ => keepsMemories Frame.execGrantBoundary, fun _ _ => keepsMemories Frame.execRefreshDue,
    fun _ => keepsMemories Frame.execRetrainSlice, fun _ _ _ _ _ => keepsMemories Frame.execMr4Read,
    keepsMemories Frame.execRhWindowEnd, fun _ _ => keepsMemories Frame.execPowerDownEntry,
    fun _ => keepsMemories Frame.execRspDrop, fun _ => keepsMemories Frame.execMbxCommandTimeout, keepsMemories Frame.execPing,
    keepsMemories Frame.execEngineStart, keepsMemories Frame.execEnginePark, keepsMemories Frame.execCalRun,
    fun _ => keepsMemories Frame.execCalStore, fun _ => keepsMemories Frame.execNvmCommit, keepsMemories Frame.execTimeSet,
    keepsMemories Frame.execSeqStart, keepsMemories Frame.execContentOpen, keepsMemories Frame.execLogStop,
    keepsMemories Frame.execLogEventLog, keepsMemories Frame.execLogFlush, fun _ => keepsMemories Frame.execPowerStateBivouac,
    fun _ _ => keepsMemories Frame.execMpLoadWindow, keepsMemories Frame.execExtBudgetPeriod,
    keepsMemories Frame.execExtPreempt, fun _ _ => keepsMemories Frame.execExtFault, fun _ => keepsMemories Frame.execIcpRead,
    fun _ => keepsMemories Frame.execIcpMbx, fun _ => keepsMemories Frame.execBulkOpen,
    fun _ => keepsMemories Frame.execBulkData, fun _ => keepsMemories Frame.execBulkClose,
    fun _ => keepsMemories Frame.execBulkAbort, keepsMemories Frame.execBulkIdle,
    fun _ _ => keepsMemories Frame.execEthFrameTx, fun _ _ => keepsMemories Frame.execLinkChange,
    fun _ => keepsMemories Frame.execCanFrameTx, fun _ => keepsMemories Frame.execBusOff, keepsMemories Frame.execStorLinkDrop,
    fun _ _ => keepsMemories Frame.execCqPosted, fun _ => keepsMemories Frame.execNvmeTimeout,
    fun _ => keepsMemories Frame.execStorInitDone, fun _ => keepsMemories Frame.execBusOffRecoveryDone⟩

end Sys2Proof.Machine

/-! ## Commands on hidden state alone -/

namespace Sys2Proof.Machine

/-! ### What the passing of time leaves alone -/

/-- The values in force and held, and the links. -/
def State.inUse (s : State) := (s.inForce, s.held, s.sxl)

theorem OnlyRecords.inUse {s u : State} (h : OnlyRecords s u) : u.inUse = s.inUse := by
  rw [OnlyRecords] at h
  rw [h]
  rfl

theorem State.inUse_tickAdj (s : State) (adj : ClockAdj) : (s.tickAdj adj).inUse = s.inUse := by
  unfold State.tickAdj
  extract_lets _ _ _ _ _ _ u1 _ u2 u3 u4
  have h12 : u2.inUse = s.inUse := rfl
  have h3 : OnlyRecords u2 u3 := State.onlyRecords_put _ _ _ _
  have h4 : OnlyRecords u2 u4 := by
    unfold u4
    split
    · exact h3.trans (State.onlyRecords_put _ _ _ _)
    · exact h3
  exact ((h4.trans (State.onlyRecords_bump _ _ _)).trans (State.onlyRecords_raise _ _ _)).inUse.trans h12

theorem State.inUse_ticks (s : State) (k : Nat) : (s.ticks k).inUse = s.inUse := by
  unfold State.ticks
  split
  · rfl
  · exact s.inUse_tickAdj _
  · exact s.inUse_tickAdj _
  · extract_lets c done w
    have hw : w.inUse = s.inUse := rfl
    split
    · exact ((State.onlyRecords_put w _ _ _).trans (State.onlyRecords_raise _ _ _)).inUse.trans hw
    · exact hw

theorem State.inUse_at (s : State) (t : Nat) : (s.at t).inUse = s.inUse := by
  unfold State.at
  split
  · rfl
  · extract_lets k w
    have hw : w.inUse = s.inUse := rfl
    split
    · exact (w.inUse_ticks k).trans hw
    · exact hw

theorem State.sameOnChip_at (s : State) (t : Nat) : SameOnChip s (s.at t) := by
  obtain ⟨⟨htcm, hfsram, hnvm, hstore⟩, -⟩ :=
    ((Frame.refl (free := False) (D := fun _ => False) s).atInstant (t := t)).mem.resolve_left id
  exact fun a => ⟨by rw [htcm], by rw [hfsram], by rw [hnvm], by rw [hstore]⟩

/-! ### Acts behind the registers -/

/-- Every store of a state but the stamps' seconds. -/
def State.stores (s : State) :=
  (s.regs, s.inForce, s.held, s.tcm, s.fsram, s.dram, s.nvmMem, s.keeper.store)

/-- What is told of a command that acts on hidden state alone. -/
def AllKept (s u v : State) : Prop :=
  SameRegsExactly u v [] ∧ SameOnChip s v ∧ SameDram u v ∧ v.inForce = s.inForce ∧ v.held = s.held

theorem allKept_of_stores {s v : State} {t : Nat} (h : v.stores = (s.at t).stores) : AllKept s (s.at t) v := by
  have huse := s.inUse_at t
  have hchip := s.sameOnChip_at t
  simp only [State.stores, State.inUse, Prod.mk.injEq] at h huse
  obtain ⟨hregs, hinf, hheld, htcm, hfsram, hdram, hnvm, hstore⟩ := h
  refine ⟨fun a _ => ?_, fun a => ?_, fun a => by rw [hdram], hinf.trans huse.1, hheld.trans huse.2.1⟩
  · unfold State.reg
    rw [hregs]
  · rw [htcm, hfsram, hnvm, hstore]
    exact hchip a

/-- A command, where it runs, keeps the stores of the machine that time has carried to its instant. -/
def StoresStand (t : Nat) (s : State) (o : Out) : Prop := ∀ v, o = .next v → v.stores = (s.at t).stores

theorem storesStand_step {t : Nat} {s : State} {f : State → State} (hf : ∀ w, (f w).stores = w.stores) :
    StoresStand t s (s.step' t f) := by
  rintro v hv
  cases hv
  exact hf _

theorem keepsRegisters {c : Nat → Instr} (h : ∀ {t s}, StoresStand t s (exec (c t) s)) : KeepsRegisters c :=
  fun _ _ v hv => allKept_of_stores (h v hv)

theorem stores_ite {p : Prop} [Decidable p] {s v w : State} (hv : v.stores = s.stores) (hw : w.stores = s.stores) :
    (if p then v else w).stores = s.stores := by
  split
  · exact hv
  · exact hw

section

variable {t : Nat} {s : State}

theorem rejectRecordExpiry_stores : StoresStand t s (execRejectRecordExpiry t s) := storesStand_step fun _ => rfl

theorem planeStart_stores {n : Fin 4} : StoresStand t s (execPlaneStart t n s) := by
  refine storesStand_step fun w => ?_
  split
  · exact stores_ite rfl rfl
  · rfl

theorem fsyncPulse_stores {n : Fin 4} : StoresStand t s (execFsyncPulse t n s) := storesStand_step fun _ => stores_ite rfl rfl

theorem fsyncPulseEnd_stores {n : Fin 4} : StoresStand t s (execFsyncPulseEnd t n s) :=
  storesStand_step fun _ => stores_ite rfl rfl

/-- Outside training, an echo only enters the sums of its window. -/
theorem markEcho_stores {n : Fin 4} {echo : Int} {stamp : Nat} (hstep : s.sxl[n].step ≠ 4) :
    StoresStand t s (execMarkEcho t n echo stamp s) := by
  have hsxl : (s.at t).sxl = s.sxl := congrArg (·.2.2) (s.inUse_at t)
  rintro v hv
  cases hv
  beta_reduce
  rw [if_neg (by rwa [hsxl])]
  exact stores_ite rfl rfl

theorem keepaliveStrobe_stores {p : Fin 8} : StoresStand t s (execKeepaliveStrobe t p s) :=
  storesStand_step fun _ => stores_ite rfl rfl

theorem refreshDue_stores {c : Fin 8} {r : Fin 2} : StoresStand t s (execRefreshDue t c r s) :=
  storesStand_step fun _ => stores_ite rfl rfl

theorem rhWindowEnd_stores : StoresStand t s (execRhWindowEnd t s) := storesStand_step fun _ => stores_ite rfl rfl

theorem powerDownEntry_stores {c : Fin 8} {r : Fin 2} : StoresStand t s (execPowerDownEntry t c r s) :=
  storesStand_step fun _ => stores_ite rfl rfl

theorem nvmScan_stores : StoresStand t s (execNvmScan t s) := storesStand_step fun _ => stores_ite rfl rfl

theorem wakePin_stores {i : Fin 4} {level : Bool} : StoresStand t s (execWakePin t i level s) :=
  storesStand_step fun _ => stores_ite rfl (stores_ite rfl rfl)

theorem shortWindowClose_stores : StoresStand t s (execShortWindowClose t s) := by
  refine storesStand_step fun w => ?_
  split
  · exact stores_ite rfl rfl
  · rfl

theorem extBudgetPeriod_stores : StoresStand t s (execExtBudgetPeriod t s) := storesStand_step fun _ => stores_ite rfl rfl

theorem bulkIdle_stores : StoresStand t s (execBulkIdle t s) := by
  refine storesStand_step fun w => ?_
  split
  · rfl
  · exact stores_ite rfl rfl

theorem ppsOut_stores : StoresStand t s (execPpsOut t s) := storesStand_step fun _ => stores_ite rfl rfl

theorem ppsOutEnd_stores : StoresStand t s (execPpsOutEnd t s) := by
  refine storesStand_step fun w => ?_
  split
  · exact stores_ite rfl rfl
  · rfl

/-- A good window of the crystal is only counted. -/
theorem xtalMonitorWindow_stores : StoresStand t s (execXtalMonitorWindow t true s) :=
  storesStand_step fun _ => stores_ite rfl rfl

end

/-- Settles O44: each of these commands keeps the stores of the machine at its instant. -/
theorem quietCommandsKeepRegisters : Obligations.QuietCommandsKeepRegisters :=
  ⟨keepsRegisters rejectRecordExpiry_stores, fun _ => keepsRegisters planeStart_stores, fun _ => keepsRegisters fsyncPulse_stores,
    fun _ => keepsRegisters fsyncPulseEnd_stores, fun _ _ _ _ _ v hstep hv => allKept_of_stores (markEcho_stores hstep v hv),
    fun _ => keepsRegisters keepaliveStrobe_stores, fun _ _ => keepsRegisters refreshDue_stores,
    keepsRegisters rhWindowEnd_stores, fun _ _ => keepsRegisters powerDownEntry_stores, keepsRegisters nvmScan_stores,
    fun _ _ => keepsRegisters wakePin_stores, keepsRegisters shortWindowClose_stores, keepsRegisters extBudgetPeriod_stores,
    keepsRegisters bulkIdle_stores, keepsRegisters ppsOut_stores, keepsRegisters ppsOutEnd_stores,
    keepsRegisters xtalMonitorWindow_stores⟩

end Sys2Proof.Machine

/-! ## Commands on one block change registers of its page alone -/

namespace Sys2Proof.Machine

namespace SamePages

variable {s u : State} {ps : List Page}

/-! ### Changes behind the registers -/

theorem modLtn (h : SamePages s u ps) {x : Fin 6} {f : Lantern → Lantern} : SamePages s (u.modLtn x f) ps := h.hidden rfl
theorem modGrd (h : SamePages s u ps) {n : Fin 4} {f : Grinder → Grinder} : SamePages s (u.modGrd n f) ps := h.hidden rfl
theorem modEng (h : SamePages s u ps) {n : Fin 4} {f : Engine → Engine} : SamePages s (u.modEng n f) ps := h.hidden rfl
theorem modSxl (h : SamePages s u ps) {n : Fin 4} {f : Link → Link} : SamePages s (u.modSxl n f) ps := h.hidden rfl
theorem modScn (h : SamePages s u ps) {k : Fin 2} {f : Scanner → Scanner} : SamePages s (u.modScn k f) ps := h.hidden rfl
theorem modMx (h : SamePages s u ps) {q : MxIx} {f : MxPort → MxPort} : SamePages s (u.modMx q f) ps := h.hidden rfl
theorem modKeeper (h : SamePages s u ps) {f : Keeper → Keeper} : SamePages s (u.modKeeper f) ps := h.hidden rfl
theorem modStor (h : SamePages s u ps) {f : Stor → Stor} : SamePages s (u.modStor f) ps := h.hidden rfl
theorem modCan (h : SamePages s u ps) {n : Fin 4} {f : CanPort → CanPort} : SamePages s (u.modCan n f) ps := h.hidden rfl
theorem modSlot (h : SamePages s u ps) {i : Fin 32} {f : MbxSlot → MbxSlot} : SamePages s (u.modSlot i f) ps := h.hidden rfl
theorem withClock (h : SamePages s u ps) {c : Clock} : SamePages s { u with clock := c } ps := h.hidden rfl
theorem withIms (h : SamePages s u ps) {c : Ims} : SamePages s { u with ims := c } ps := h.hidden rfl
theorem withMp (h : SamePages s u ps) {c : Mp} : SamePages s { u with mp := c } ps := h.hidden rfl
theorem withPba (h : SamePages s u ps) {c : Pba} : SamePages s { u with pba := c } ps := h.hidden rfl

/-- A choice whose condition does not matter. -/
theorem branch {v w : State} {c : Prop} [Decidable c] (hv : SamePages s v ps) (hw : SamePages s w ps) :
    SamePages s (if c then v else w) ps := .ite (fun _ => hv) fun _ => hw

theorem errHw (h : SamePages s u ps) {p : Page} {c d : Nat} (hp : p ∈ ps) : SamePages s (u.errHw p c d) ps := h.errInfo hp

theorem stamp (h : SamePages s u ps) {p : Page} {f : RF} (hp : p ∈ ps) (hf : f.off < 0x1000) : SamePages s (u.stamp p f) ps := by
  have hput : SamePages s (u.put p f u.localNs) ps := h.put hp hf
  exact hput.hidden rfl

/-! ### Lanterns, links and engines -/

theorem ltnWin (h : SamePages s u ps) {x : Fin 6} {on : Bool} {edge : Nat} (hp : .ltn x ∈ ps) :
    SamePages s (u.ltnWin x on edge) ps :=
  modLtn (modLtn (h.put hp (by decide)))

theorem linkRelease (h : SamePages s u ps) {n : Fin 4} (hp : .sxl n ∈ ps) : SamePages s (u.linkRelease n) ps :=
  h.modSxl.put hp (by decide)

theorem linkUse (h : SamePages s u ps) {n : Fin 4} {groups rate : Nat} (hp : .sxl n ∈ ps) :
    SamePages s (u.linkUse n groups rate) ps := by
  have hset : ∀ {f}, SamePages s
      (((u.put (.sxl n) SXL_STATUS_GROUPS_IN_USE groups).put (.sxl n) SXL_STATUS_RATE_IN_USE rate).modSxl n f) ps :=
    modSxl ((h.put hp (by decide)).put hp (by decide))
  unfold State.linkUse
  exact .ite (fun _ => hset) fun _ => modSxl (.put (modSxl (hset.put hp (by decide))) hp (by decide))

theorem lastBoundary (h : SamePages s u ps) {n : Fin 4} {c b : Nat} (hp : .sxl n ∈ ps) :
    SamePages s (u.lastBoundary n c b) ps := by
  unfold State.lastBoundary State.linkJoin
  refine branch ?_ h
  split
  · exact branch (h.linkUse hp) h
  · exact h

theorem sendLoad (h : SamePages s u ps) {n : Fin 4} {c b : Nat} : SamePages s (u.sendLoad n c b) ps := by
  unfold State.sendLoad
  split
  · exact h
  · exact modSxl (modSxl h)

theorem linkCmd (h : SamePages s u ps) {n : Fin 4} {cmd : List Byte} {latest : Int} :
    SamePages s (u.linkCmd n cmd latest) ps := by
  unfold State.linkCmd
  split
  · exact modSxl h
  · exact branch (modGrd (modSxl h)) (modSxl h)

theorem sendFill (h : SamePages s u ps) {n : Fin 4} {c b : Nat} : SamePages s (u.sendFill n c b) ps := by
  unfold State.sendFill
  dsimp only
  split
  · exact branch (modGrd (modSxl h)) h.linkCmd
  · exact modSxl h

theorem engUnderrun (h : SamePages s u ps) {n : Fin 4} {plane block : Nat} (hp : .eng n ∈ ps) :
    SamePages s (u.engUnderrun n plane block) ps :=
  modEng (((h.bump hp (by decide)).raise hp).put hp (by decide))

theorem loadSlack (h : SamePages s u ps) {n : Fin 4} {m : Nat} (hp : .grd n ∈ ps) : SamePages s (u.loadSlack n m) ps := by
  unfold State.loadSlack
  exact branch (h.modGrd.raise hp) h.modGrd

/-! ### Scanners and matrix ports -/

theorem freqTo (h : SamePages s u ps) {k : Fin 2} {f : Int} (hp : .scn k ∈ ps) : SamePages s (u.freqTo k f) ps := by
  unfold State.freqTo
  extract_lets p lo hi f lim was w
  have hw : SamePages s w ps := h.modScn.put hp (by decide)
  exact branch (hw.raise hp) hw

theorem lmodUpdate (h : SamePages s u ps) {k : Fin 2} : SamePages s (u.lmodUpdate k) ps := by
  unfold State.lmodUpdate
  dsimp only
  exact branch h (branch h (modScn (modLtn h)))

theorem scnUnderrun (h : SamePages s u ps) {k : Fin 2} (hp : .scn k ∈ ps) : SamePages s (u.scnUnderrun k) ps := by
  unfold State.scnUnderrun
  exact branch (modScn (((h.bump hp (by decide)).raise hp).put (f := ⟨SCN_UNDERRUN_INFO.off, 0, 9⟩) hp
    (show SCN_UNDERRUN_INFO.off < 0x1000 by decide))) h

theorem mxHold (h : SamePages s u ps) {q : MxIx} (hp : mxPage q ∈ ps) : SamePages s (u.mxHold q) ps := by
  have hlane := mxLane_lt q
  unfold State.mxHold
  exact branch h (h.put hp (by simp only [MX_STATUS_CLONE_HOLD]; omega))

theorem mxPhase (h : SamePages s u ps) {v : State} {q : MxIx} (hv : u.mxPhase q = some v) (hp : mxPage q ∈ ps) :
    SamePages s v ps := by
  unfold State.mxPhase at hv
  obtain ⟨-, hv⟩ := Option.ite_none_right_eq_some.mp hv
  split at hv
  · cases hv
  · obtain ⟨-, hv⟩ := Option.ite_none_right_eq_some.mp hv
    rw [← Option.some.inj hv]
    unfold State.mxLatch
    dsimp only
    exact branch (modMx (mxHold (modMx h.modMx) hp)) (modMx h.modMx)
  · obtain ⟨-, hv⟩ := Option.ite_none_right_eq_some.mp hv
    rw [← Option.some.inj hv]
    exact modMx h

theorem mxAdvance (h : SamePages s u ps) {q : MxIx} {k : Nat} (hp : mxPage q ∈ ps) : SamePages s (u.mxAdvance q k) ps := by
  induction k generalizing u with
  | zero => exact h
  | succ k ih =>
    unfold State.mxAdvance
    split
    · next hphase => exact ih (h.mxPhase hphase hp)
    · exact h

/-! ### Ingest and the keepers -/

theorem setSlot (h : SamePages s u ps) {i : Fin 4} {m : MaskSlot} (hp : .comp 7 ∈ ps) : SamePages s (u.setSlot i m) ps := by
  unfold State.setSlot State.imsShow
  refine .foldl (fun v i => ((SamePages.refl v ps).put hp ?_).put hp ?_) h.withIms _
  · exact show 0x50 + 4 * i.val < 0x1000 by omega
  · exact show 0x70 + 4 * i.val < 0x1000 by omega

theorem keeperDone (h : SamePages s u ps) (hp : .basecamp ∈ ps) : SamePages s u.keeperDone ps := by
  unfold State.keeperDone
  exact branch h (branch (h.modKeeper.raise hp) h.modKeeper)

theorem keeperSend (h : SamePages s u ps) {p : Fin 8} (hp : .basecamp ∈ ps) : SamePages s (u.keeperSend p) ps :=
  put (modKeeper h) hp (by decide)

/-! ### CAN, storage and the clock -/

theorem canTo (h : SamePages s u ps) {n : Fin 4} {st : Nat} (hp : .can n ∈ ps) : SamePages s (u.canTo n st) ps := by
  unfold State.canTo
  exact branch h ((h.put (f := ⟨CAN_STATUS.off, 0, 2⟩) hp (show CAN_STATUS.off < 0x1000 by decide)).raise hp)

theorem storTo (h : SamePages s u ps) {st : Nat} (hp : .stor ∈ ps) : SamePages s (u.storTo st) ps := by
  unfold State.storTo
  exact branch h (((h.put (f := ⟨STOR_STATUS.off, 0, 3⟩) hp (show STOR_STATUS.off < 0x1000 by decide)).put (f := BLK_STATE) hp
    (by decide)).raise hp)

theorem timeSyncOrFree (h : SamePages s u ps) (hp : .time ∈ ps) : SamePages s u.timeSyncOrFree ps := by
  have hput : SamePages s (u.put .time TIME_STATUS_HOLDOFF 0) ps := h.put hp (by decide)
  unfold State.timeSyncOrFree
  exact branch hput (hput.put hp (by decide))

theorem holdoffEnd (h : SamePages s u ps) (hp : .time ∈ ps) : SamePages s u.holdoffEnd ps := by
  unfold State.holdoffEnd
  split
  · exact h
  · exact branch h (raise (timeSyncOrFree h.withClock hp) hp)

theorem freerun (h : SamePages s u ps) (hp : .time ∈ ps) : SamePages s u.freerun ps := by
  unfold State.freerun
  split
  · exact h
  · refine branch h ?_
    extract_lets c w1 w2
    have hw1 : SamePages s w1 ps := h.withClock
    have hw2 : SamePages s w2 ps := (hw1.put hp (by decide)).bump hp (by decide)
    exact raise (branch (hw2.put hp (by decide)) hw2) hp

end SamePages

/-! ### The commands -/

/-- A command, where it runs, changes registers of the listed pages alone, beside those of the beam recorder. -/
def PagesStand (ps : List Page) (t : Nat) (s : State) (o : Out) : Prop := ∀ v, o = .next v → SamePages (s.at t) v ps

theorem keepsPages {c : Nat → Instr} {ps : List Page} (h : ∀ {t s}, PagesStand ps t s (exec (c t) s)) : KeepsPages c ps :=
  fun _ _ v hv => h v hv

section

variable {ps : List Page} {t : Nat} {s : State}

theorem pagesStand_step {f : State → State} (hf : ∀ {w}, SamePages (s.at t) w ps → SamePages (s.at t) (f w) ps) :
    PagesStand ps t s (s.step' t f) := by
  rintro v hv
  cases hv
  exact hf (.refl _ _)

/-- Beyond 58 V nothing is said (R481). -/
theorem pagesStand_vbatStep {mv : Nat} {f : State → State}
    (hf : ∀ {w}, SamePages (s.at t) w ps → SamePages (s.at t) (f w) ps) : PagesStand ps t s (s.vbatStep t mv f) := by
  unfold State.vbatStep
  split
  · exact fun _ hv => nomatch hv
  · exact pagesStand_step hf

theorem windowEdge_pages {x : Fin 6} {on : Bool} : PagesStand [.ltn x] t s (execWindowEdge t x on s) :=
  pagesStand_step fun h => .branch (.branch (h.ltnWin (.head _)) h) (.branch (h.ltnWin (.head _)) h)

theorem lselChange_pages {x : Fin 6} : PagesStand [.ltn x] t s (execLselChange t x s) := by
  refine pagesStand_step fun h => ?_
  dsimp only
  split
  · exact h
  · have hput : ∀ {v}, SamePages (s.at t) (State.put _ (.ltn x) LTN_STATUS_LSEL v) [.ltn x] := h.put (.head _) (by decide)
    exact .branch h (.branch ((hput.bump (.head _) (by decide)).raise (.head _)) hput)

theorem ratioStale_pages {x : Fin 6} {lvl : Fin 4} : PagesStand [.ltn x] t s (execRatioStale t x lvl s) :=
  pagesStand_step fun h =>
    .branch (.raise (.put (f := ⟨LTN_STATUS.off, 8 + lvl.val, 1⟩) h (.head _) (show LTN_STATUS.off < 0x1000 by decide)) (.head _)) h

theorem fallbackDark_pages {x : Fin 6} : PagesStand [.ltn x] t s (execFallbackDark t x s) := by
  refine pagesStand_step fun h => ?_
  split
  · exact .branch (h.modLtn.raise (.head _)) h
  · exact h

theorem setptDead_pages {x : Fin 6} : PagesStand [.ltn x] t s (execSetptDead t x s) :=
  pagesStand_step fun h => .branch ((h.modLtn.raise (.head _)).errHw (.head _)) h

theorem blockLoad_pages {n : Fin 4} : PagesStand [.grd n, .sxl n] t s (execBlockLoad t n s) := by
  refine pagesStand_step fun h => .branch h ?_
  split
  · exact h
  · next c b _ =>
    have hsent : ∀ {f}, SamePages (s.at t) ((State.sendLoad (State.lastBoundary _ n c b) n c b).modGrd n f) [.grd n, .sxl n] :=
      .modGrd (h.lastBoundary (.tail _ (.head _))).sendLoad
    exact .branch ((hsent.put (.head _) (by decide)).linkRelease (.tail _ (.head _))) hsent

theorem underrun_pages {n : Fin 4} : PagesStand [.eng n, .grd n] t s (execUnderrun t n s) := by
  refine pagesStand_step fun h => ?_
  split
  · exact h
  · exact .loadSlack (.engUnderrun (.modGrd h.sendFill) (.head _)) (.tail _ (.head _))

theorem spinupSweepDone_pages {k : Fin 2} {freq : Nat} : PagesStand [.scn k] t s (execSpinupSweepDone t k freq s) :=
  pagesStand_step fun h => .branch (h.modScn.freqTo (.head _)) h

theorem lmodUpdate_pages {k : Fin 2} : PagesStand [.scn k] t s (execLmodUpdate t k s) := pagesStand_step fun h => h.lmodUpdate

theorem scnUnderrun_pages {k : Fin 2} : PagesStand [.scn k] t s (execScnUnderrun t k s) :=
  pagesStand_step fun h => h.scnUnderrun (.head _)

theorem mxUnderrun_pages {q : MxIx} {c : Fin 64} : PagesStand [mxPage q] t s (execMxUnderrun t q c s) := by
  have hlane := mxLane_lt q
  refine pagesStand_step fun {w} h => ?_
  have hnow : SamePages (s.at t) (w.mxNow q) [mxPage q] := h.mxAdvance (.head _)
  have hlost : SamePages (s.at t) (((w.mxNow q).mxLose q c.val).bump (mxPage q) (MX_UNDERRUN_CNT (mxLane q))) [mxPage q] :=
    .bump (.modMx hnow) (.head _) (by simp only [MX_UNDERRUN_CNT]; omega)
  exact .branch hnow (.raise (hlost.put (.head _) (by simp only [MX_UNDERRUN_INFO]; omega)) (.head _))

theorem assemblyTimeout_pages {i : Fin 4} : PagesStand [.comp 0, .comp 7] t s (execAssemblyTimeout t i s) :=
  pagesStand_step fun h =>
    .branch h (((h.setSlot (.tail _ (.head _))).bump (.tail _ (.head _)) (by decide)).raise (.head _))

theorem keeperWakeFrame_pages {p : Fin 8} : PagesStand [.basecamp] t s (execKeeperWakeFrame t p s) := by
  refine pagesStand_step fun h => ?_
  dsimp only
  split
  · exact h
  · exact .branch h (.branch (.keeperDone (.modKeeper h) (.head _)) (.keeperSend (.modKeeper h) (.head _)))

theorem vbatSample_pages {mv : Nat} : PagesStand [.basecamp] t s (execVbatSample t mv s) :=
  pagesStand_vbatStep fun h => .branch h ((h.put (.head _) (by decide)).put (.head _) (by decide))

theorem vbatOv_pages {mv dur : Nat} : PagesStand [.basecamp] t s (execVbatOv t mv dur s) :=
  pagesStand_vbatStep fun h => .branch h ((h.put (.head _) (by decide)).raise (.head _))

theorem vbatOvEnd_pages {mv dur : Nat} : PagesStand [.basecamp] t s (execVbatOvEnd t mv dur s) :=
  pagesStand_vbatStep fun h => .branch h (h.put (.head _) (by decide))

theorem restartCountClear_pages : PagesStand [.basecamp] t s (execRestartCountClear t s) :=
  pagesStand_step fun h => .branch (h.put (.head _) (by decide)) h

theorem longWindowClose_pages : PagesStand [.mbx] t s (execLongWindowClose t s) := by
  refine pagesStand_step fun h => ?_
  split
  · exact .branch (.put h.withMp (.head _) (by decide)) h
  · exact h

theorem rspDrop_pages {i : Fin 32} : PagesStand [.mbx] t s (execRspDrop t i s) :=
  pagesStand_step fun h => .branch ((h.modSlot.bump (.head _) (by decide)).raise (.head _)) h

theorem waitLong_pages : PagesStand [.pba] t s (execWaitLong t s) :=
  pagesStand_step fun h => .branch (.raise h.withPba (.head _)) h

theorem linkChange_pages {n : Fin 4} {up : Bool} : PagesStand [.eth n] t s (execLinkChange t n up s) := by
  refine pagesStand_step fun {w} h => .branch h ?_
  have hput : ∀ {speed}, SamePages (s.at t)
      ((w.put (.eth n) ETH_STATUS_LINK (ofBool up)).put (.eth n) ⟨ETH_STATUS.off, 0, 2⟩ speed) [.eth n] :=
    (h.put (.head _) (by decide)).put (.head _) (show ETH_STATUS.off < 0x1000 by decide)
  exact .raise (.branch hput (hput.bump (.head _) (by decide))) (.head _)

theorem busOff_pages {n : Fin 4} : PagesStand [.can n] t s (execBusOff t n s) := by
  refine pagesStand_step fun {w} h => .branch h ?_
  have hoff : SamePages (s.at t) ((w.canTo n 2).put (.can n) CAN_STATUS_TEC 255) [.can n] :=
    (h.canTo (.head _)).put (.head _) (by decide)
  exact (hoff.modCan.bump (.head _) (by decide)).raise (.head _)

theorem storLinkDrop_pages : PagesStand [.stor] t s (execStorLinkDrop t s) :=
  pagesStand_step fun h => .branch h (.branch ((h.modStor.bump (.head _) (by decide)).storTo (.head _))
    ((h.modStor.storTo (.head _)).errHw (.head _)))

theorem cqPosted_pages {index : Nat} {error : Bool} : PagesStand [.stor] t s (execCqPosted t index error s) :=
  pagesStand_step fun h => .branch (.raise (.branch (h.modStor.bump (.head _) (by decide)) h.modStor) (.head _)) h

theorem nvmeTimeout_pages {index : Nat} : PagesStand [.stor] t s (execNvmeTimeout t index s) := by
  refine pagesStand_step fun h => ?_
  split
  · exact h
  · refine .branch h ?_
    extract_lets n w1 w2 w3
    have h2 : SamePages (s.at t) w2 [.stor] := (h.modStor.bump (.head _) (by decide)).raise (.head _)
    exact .branch h2 ((h2.modStor.errHw (.head _)).storTo (.head _))

theorem holdoffEnd_pages : PagesStand [.time] t s (execHoldoffEnd t s) :=
  pagesStand_step fun h => .branch (h.holdoffEnd (.head _)) h

theorem freerun_pages : PagesStand [.time] t s (execFreerun t s) := pagesStand_step fun h => .branch (h.freerun (.head _)) h

theorem ppsIn_pages {falling : Bool} : PagesStand [.time] t s (execPpsIn t falling s) := by
  refine pagesStand_step fun h => .branch h (.branch ((h.bump (.head _) (by decide)).raise (.head _)) ?_)
  extract_lets c w1 w2 e
  have h1 : SamePages (s.at t) w1 [.time] := h.withClock
  have h2 : SamePages (s.at t) w2 [.time] := h1.stamp (.head _) (by decide)
  exact ((h2.put (.head _) (by decide)).put (.head _) (by decide)).raise (.head _)

theorem ppsinValidExpiry_pages : PagesStand [.time] t s (execPpsinValidExpiry t s) := by
  refine pagesStand_step fun h => ?_
  split
  · exact .branch (h.put (.head _) (by decide)) h
  · exact h

theorem tclkTick_pages : PagesStand [.time] t s (execTclkTick t s) :=
  pagesStand_step fun {w} h => h.trans (w.samePages_at _)

end

/-- Settles O45: the passing of time, and then each of the commands. -/
theorem commandsKeepOtherPages : Obligations.CommandsKeepOtherPages :=
  ⟨State.samePages_at, fun _ _ => keepsPages windowEdge_pages, fun _ => keepsPages lselChange_pages,
    fun _ _ => keepsPages ratioStale_pages, fun _ => keepsPages fallbackDark_pages, fun _ => keepsPages setptDead_pages,
    fun _ => keepsPages blockLoad_pages, fun _ => keepsPages underrun_pages, fun _ _ => keepsPages spinupSweepDone_pages,
    fun _ => keepsPages lmodUpdate_pages, fun _ => keepsPages scnUnderrun_pages, fun _ _ => keepsPages mxUnderrun_pages,
    fun _ => keepsPages assemblyTimeout_pages, fun _ => keepsPages keeperWakeFrame_pages, fun _ => keepsPages vbatSample_pages,
    fun _ _ => keepsPages vbatOv_pages, fun _ _ => keepsPages vbatOvEnd_pages, keepsPages restartCountClear_pages,
    keepsPages longWindowClose_pages, fun _ => keepsPages rspDrop_pages, keepsPages waitLong_pages,
    fun _ _ => keepsPages linkChange_pages, fun _ => keepsPages busOff_pages, keepsPages storLinkDrop_pages,
    fun _ _ => keepsPages cqPosted_pages, fun _ => keepsPages nvmeTimeout_pages, keepsPages holdoffEnd_pages,
    keepsPages freerun_pages, fun _ => keepsPages ppsIn_pages, keepsPages ppsinValidExpiry_pages, keepsPages tclkTick_pages⟩

end Sys2Proof.Machine
